-- ==== Sys2Proof/Word.lean ====
section
/-! DEFINITION. Word.lean: the word types of the GX-6420 (spec 00 R2, R3, R8) and nothing that computes. -/

namespace Sys2Proof

/-- One byte; every multi-byte field of the device is a little-endian list of these (00 R2). -/
abbrev Byte := BitVec 8

/-- A 32-bit word: a register of BAR0, a core's scalar register (09 R194), a parameter value on the wire. -/
abbrev Word32 := BitVec 32

/-- A 64-bit word: the timebase of TIME_SET, a ring base address. -/
abbrev Word64 := BitVec 64

/-- One lane of a core's vector register (09 R194). -/
abbrev Lane := BitVec 16

end Sys2Proof
end

