-- ==== Sys2Proof/Machine/Store.lean ====
section
/-! DEFINITION. Machine/Store.lean: the one kind of sparse store the model uses for memories, register banks and tables:
a list of (key, value) pairs in one canonical form. -/

namespace Sys2Proof.Machine

/-- A sparse store: (key, value) pairs, keys strictly rising, no pair equal to what an unlisted key reads as. -/
abbrev KMap (α : Type) := List (Nat × α)

/-- What key `k` reads as; `d` says what an unlisted key reads as. -/
def kget {α : Type} (d : Nat → α) : KMap α → Nat → α
  | [], k => d k
  | (k', v) :: m, k => if k' = k then v else kget d m k

/-- The pairs whose key a test keeps. -/
def kfilter {α : Type} (f : Nat → Bool) (m : KMap α) : KMap α := m.filter (fun p => f p.1)

/-- The store with a pair for key `k` in its place. -/
def kins {α : Type} : KMap α → Nat → α → KMap α
  | [], k, v => [(k, v)]
  | (k', v') :: m, k, v =>
    if k < k' then (k, v) :: (k', v') :: m
    else if k = k' then (k, v) :: m
    else (k', v') :: kins m k v

/-- The store with `v` at key `k`; writing what an unlisted key reads as removes the pair. -/
def kput {α : Type} [DecidableEq α] (d : Nat → α) (m : KMap α) (k : Nat) (v : α) : KMap α :=
  if v = d k then kfilter (fun j => decide (j ≠ k)) m else kins m k v

/-- The store with the value of one key changed by a function. -/
def kmod {α : Type} [DecidableEq α] (d : Nat → α) (m : KMap α) (k : Nat) (f : α → α) : KMap α :=
  kput d m k (f (kget d m k))

/-- The canonical form: keys strictly rising, no pair that an unlisted key would read as. -/
abbrev kwf {α : Type} (d : Nat → α) (m : KMap α) : Prop :=
  m.Pairwise (fun a b => a.1 < b.1) ∧ ∀ p ∈ m, p.2 ≠ d p.1

/-- A byte memory: an address and its byte, an unlisted address reading zero (log 3). -/
abbrev Memory := KMap Byte

/-- What a byte of memory that nothing has written reads as: zero. DESIGN CHOICE (log 3). -/
def blankByte (_ : Nat) : Byte := 0

/-- The byte at an address. -/
def memGet (m : Memory) (a : Nat) : Byte := kget blankByte m a

/-- The memory with one byte written. -/
def memPut (m : Memory) (a : Nat) (b : Byte) : Memory := kput blankByte m a b

/-- The memory's canonical form. -/
abbrev Memory.wf (m : Memory) : Prop := kwf blankByte m

/-- `n` bytes from an address up. -/
def memRead (m : Memory) (a : Nat) : Nat → List Byte
  | 0 => []
  | n + 1 => memGet m a :: memRead m (a + 1) n

/-- The memory with a list of bytes written from an address up. -/
def memWrite (m : Memory) (a : Nat) : List Byte → Memory
  | [] => m
  | b :: bs => memWrite (memPut m a b) (a + 1) bs

/-- The little-endian number of `n` bytes from an address up, 0 bytes giving 0 (00 R2). -/
def memWord (m : Memory) (a : Nat) : Nat → Nat
  | 0 => 0
  | n + 1 => (memGet m a).toNat + 256 * memWord m (a + 1) n

/-- The memory with the `n` bytes of a number written little-endian (00 R2). -/
def memPutWord (m : Memory) (a : Nat) : Nat → Nat → Memory
  | 0, _ => m
  | n + 1, v => memPutWord (memPut m a (BitVec.ofNat 8 v)) (a + 1) n (v / 256)

end Sys2Proof.Machine
end

