-- ==== Sys2Proof/Machine/StateFe.lean ====
section
/-! DEFINITION. Machine/StateFe.lean: the plain data of the precision front end, its chart and the loop outputs (11). -/

namespace Sys2Proof.Machine

/-- A chart entry: the fields of its 16 bytes (11 Table 11-4). -/
structure ChartEntry where
  /-- KIND [127:124]. -/
  kind : Nat
  /-- TOPO [123:122]. -/
  topo : Nat
  /-- USE [121:120]: bit 0 EXC used, bit 1 BIAS used. -/
  use : Nat
  /-- PIN_P [119:116]. -/
  pinP : Nat
  /-- PIN_M [115:112]. -/
  pinM : Nat
  /-- PIN_E [111:108]. -/
  pinE : Nat
  /-- PIN_B [107:104]. -/
  pinB : Nat
  /-- GAIN [99:96]. -/
  gain : Nat
  /-- OSR [95:92]. -/
  osr : Nat
  /-- EXC_KIND [91:88]. -/
  excKind : Nat
  /-- EXC_VALUE [87:72]. -/
  excValue : Nat
  /-- REPEAT [71:64]. -/
  times : Nat
  /-- DELAY [63:48]. -/
  delay : Nat
  /-- LEAD_EVERY [47:40]. -/
  leadEvery : Nat
  /-- LOG, FLAGS bit [32]. -/
  log : Bool
  deriving DecidableEq, Repr

/-- A chart entry at reset (11 Table 11-4). -/
def chartBlank (_ : Nat) : ChartEntry := ⟨0, 0, 0, 0, 0, 0, 0, 0, 0, 0, 0, 1, 0, 16, false⟩

/-- CHART_STATE 0 to 2; 3 CALIBRATING shows while a self-calibration runs (11 Table 11-8). -/
inductive ChartSt where
  | stopped
  | running
  | stopping
  deriving DecidableEq, Repr

/-- Whose conversions run: a chart entry, or an injection with its tag, its slot and its AFTER_CAL mark (11 R246, R252). -/
inductive FeTask where
  | entry (n : Nat)
  | inject (tag slot : Nat) (afterCal : Bool)
  deriving DecidableEq, Repr

/-- Which conversion of a run is in progress: lead sub-conversion a or b, or the main ones (11 R249). -/
inductive FeSub where
  | leadA
  | leadB
  | main
  deriving DecidableEq, Repr

/-- How the converter stands: its input pins, the excitation that is on (pin, EXC_KIND, EXC_VALUE), the BIAS pin and the gain code; every
other pin is open (11 R238, R241, R243). -/
structure FeConn where
  inP : Nat
  inM : Nat
  exc : Option (Nat × Nat × Nat)
  bias : Option Nat
  gain : Nat
  deriving DecidableEq, Repr

/-- A run in progress (11 R241, R246). -/
structure FeRun where
  task : FeTask
  /-- The definition it completes under (11 R247). -/
  entry : ChartEntry
  /-- RTD_R0, NTC_R25, NTC_BETA, LEAD_OHMS for it. -/
  items : List Int
  sub : FeSub
  /-- SCLK count and TICKS of the last switch. -/
  startClk : Nat
  startTick : Nat
  /-- Filter outputs since the restart. -/
  outs : Nat
  /-- Kept codes of the main conversions. -/
  codes : List Int
  /-- A kept code stood at a limit (11 R240). -/
  ovr : Bool
  /-- Codes of the sub-conversions of this run. -/
  codeA : Int
  codeB : Int
  /-- This run measured its leads. -/
  leads : Bool
  /-- An EXC_OPEN snag has opened its excitation (18 Table 18-5). -/
  opened : Bool
  deriving DecidableEq, Repr

/-- A queued injection (11 R252). -/
structure Injection where
  tag : Nat
  slot : Nat
  entry : ChartEntry
  afterCal : Bool
  deriving DecidableEq, Repr

/-- What the front end keeps for a chart entry besides its definition and RESULT items. -/
structure EntryData where
  /-- Runs since CHART_RUN, 32 bits wrapping (11 Table 11-6 SEQ). -/
  runs : Nat
  /-- The lead pair measured last, in ohms (11 R249). -/
  leads : Option (Rat × Rat)
  /-- Item values that PARAM_COMMIT accepted for its next start (11 R261). -/
  next : List (Nat × Int)
  deriving DecidableEq, Repr

/-- An entry that has not run. -/
def entryBlank (_ : Nat) : EntryData := ⟨0, none, []⟩

/-- The factors of self-calibration (11 R240, R253): by gain code the offset, in code units, and the gain; the ratio of
the true excitation current to the programmed one, and that of the voltage. -/
structure FeFactors where
  ofs : List Rat
  gain : List Rat
  cur : Rat
  vol : Rat
  deriving DecidableEq, Repr

/-- The precision front end (11). -/
structure FrontEnd where
  /-- Chart entries 0 to 31 (11 Table 11-4). -/
  chart : KMap ChartEntry
  entries : KMap EntryData
  st : ChartSt
  /-- The run in progress. -/
  run : Option FeRun
  /-- The crosspoint, excitation and gain of the latest conversion; none: every switch open, no excitation (11 R241, R243, R253). -/
  conn : Option FeConn
  /-- What holds sources 96 to 99 live: source and INSTANCE (11 Table 11-10). -/
  told : List (Nat × Nat)
  /-- CHART_ENTRY: the chart entry that ran last or runs. -/
  last : Nat
  /-- The entry that the chart starts next. -/
  next : Nat
  /-- Queued injections, oldest first (11 R252). -/
  queue : List Injection
  /-- A CHART_RUN with RUN = 1 waits for the stop (11 R247). -/
  restart : Bool
  /-- A self-calibration is due (11 R254). -/
  calDue : Bool
  /-- SCLK count at which the self-calibration in progress started (11 R253). -/
  calSince : Option Nat
  /-- FE_CAL_STATE (11 Table 11-8; reset 0). -/
  calState : Nat
  /-- A self-calibration has passed since PORST_N (11 Table 11-7 UNCAL). -/
  passed : Bool
  factors : FeFactors
  deriving DecidableEq, Repr

/-- LOOP_STATE but for its OPEN and OVERCURRENT (11 Table 11-8). -/
inductive LoopSt where
  | off
  | normal
  | faultLevel
  | releasing
  deriving DecidableEq, Repr

/-- A loop output (11 R256 to R259). -/
structure Loop where
  st : LoopSt
  /-- The output row it took last, by label, and the zone it came from (11 R256). -/
  label : Option Nat
  /-- SCLK count of its last update (11 R256: at most once per 1 ms). -/
  updated : Option Nat
  /-- SCLK count from which LOOP_HOLD without a valid value counts (11 R257). -/
  validAt : Nat
  /-- SCLK count since which its zone is not ENABLED or its port not RUNNING (11 R257). -/
  downSince : Option Nat
  /-- The latest x. -/
  x : Rat
  /-- The output that LOOPn drives, LOOP_TRIM applied, 0.1 µA or 10 µV (11 R256). -/
  drive : Int
  /-- The sense monitor's report: false OPEN, true OVERCURRENT (11 R258). -/
  sense : Option Bool
  /-- SCLK count at which 100 ms of agreement end (11 R258). -/
  agreeAt : Option Nat
  /-- SCLK count at which the release ends (11 R259). -/
  releaseAt : Nat
  /-- Items that a LOOP_CFG during RELEASING applies at its end (11 R259). -/
  next : List (Nat × Int)
  deriving DecidableEq, Repr

/-- A loop after PORST_N: its transistor off, 0 V driven (11 R259). -/
def loopBlank (_ : Nat) : Loop := ⟨.off, none, none, 0, none, 0, 0, none, none, 0, []⟩

/-- The loop outputs (11). -/
structure Loops where
  loops : KMap Loop
  /-- SCLK count at which V(REFX) is next measured (11 R256). -/
  refxAt : Nat
  deriving DecidableEq, Repr

/-- The loop outputs after PORST_N. -/
def loopsBlank : Loops := ⟨[], 0⟩

/-- The front end after PORST_N: no factors yet, offset 0 and gain 1 (log 77). -/
def frontEndBlank : FrontEnd :=
  { chart := [], entries := [], st := .stopped, run := none, conn := none, told := [], last := 0, next := 0, queue := [], restart := false,
    calDue := false, calSince := none, calState := 0, passed := false,
    factors := ⟨List.replicate 8 0, List.replicate 8 1, 1, 1⟩ }

end Sys2Proof.Machine
end

