-- ==== Sys2Proof/Machine/StateSrc.lean ====
section
/-! DEFINITION. Machine/StateSrc.lean: the plain data of the source drive and the gate tests (12). -/

namespace Sys2Proof.Machine

/-- SD_STATE (12 Table 12-6). -/
inductive SdSt where
  | off
  | on
  | stopping
  | tripped
  deriving DecidableEq, Repr

/-- Who holds a channel besides its own SD_KIND: PPS tuning (reads 4), or the even channel of a bridge (reads 5) (12
R263). -/
inductive SdHold where
  | none
  | pps
  | paired
  deriving DecidableEq, Repr

/-- A source-drive channel (12 R262 to R274). -/
structure SdChan where
  st : SdSt
  hold : SdHold
  /-- p with 16 fraction bits (12 R266; reset 0). -/
  p : Int
  /-- t, in Q16 duty units (12 R265; reset 0). -/
  t : Int
  /-- C, the compare count (12 R265; reset 0). -/
  count : Int
  /-- The pins of the channel are driven low rather than by the PWM (12 R263, R268). -/
  low : Bool
  /-- y, the compensation output; 0 before the first result of its table's entry (12 R271). -/
  y : Int
  /-- SCLK count at which the present carrier period started; the next starts T_c after it (12 R262). -/
  periodAt : Nat
  /-- The integral term, in Q16 (12 R272). -/
  integ : Rat
  atMax : Bool
  atMin : Bool
  /-- TS72 of the last result the regulator used (12 R272). -/
  lastTs : Option Nat
  /-- u, the regulator's output (12 R272). -/
  u : Int
  /-- SCLK count of the last good result of its feedback or table entry (12 R273). -/
  goodAt : Nat
  /-- The feedback or table entry is lost (12 R273). -/
  lost : Bool
  /-- SCLK count since which u stands at one limit, and whether it is SD_MAX (12 R272). -/
  satSince : Option (Nat × Bool)
  /-- The present stay at the limit has raised source 106 (12 R272). -/
  satTold : Bool
  /-- A stay of the channel raised source 106 and has not ended for 10 s; the SCLK count of its end (12 Table 12-5). -/
  satMark : Bool
  satLeft : Nat
  /-- The channel raised source 104 and its limit temperature has not fallen to SD_TLIMIT − 1 K since (12 R274). -/
  hot : Bool
  /-- The last result of its table's entry lay outside the table's span (12 R271). -/
  outSpan : Bool
  deriving DecidableEq, Repr

/-- A channel after PORST_N: OFF, its pin low (12 R263). -/
def sdBlank (_ : Nat) : SdChan :=
  ⟨.off, .none, 0, 0, 0, true, 0, 0, 0, false, false, none, 0, 0, false, none, false, false, 0, false, false⟩

/-- A compensation table: ENTRY, WL, and its points (T, Y), T rising (12 Table 12-4). -/
structure CompTable where
  entry : Nat
  wl : Nat
  points : List (Int × Int)
  deriving DecidableEq, Repr

/-- A gate test whose window is still open: the SCLK count at which it ends, the launch's shot, its ply or the proof pulse
(12 R275). -/
structure GateTest where
  endClk : Nat
  shot : Nat
  ply : Nat
  proof : Bool
  deriving DecidableEq, Repr

/-- The gate tests of a port (12 R275, R276). -/
structure GateWatch where
  tests : List GateTest
  /-- Consecutive passing tests. -/
  passes : Nat
  deriving DecidableEq, Repr

/-- No test yet. -/
def gateBlank (_ : Nat) : GateWatch := ⟨[], 0⟩

/-- The source drive (12). -/
structure Sources where
  chans : KMap SdChan
  /-- Tables 0 to 7; none: not loaded (12 R270). -/
  tables : KMap (Option CompTable)
  gates : KMap GateWatch
  deriving DecidableEq, Repr

/-- The source drive after PORST_N. -/
def sourcesBlank : Sources := ⟨[], [], []⟩

end Sys2Proof.Machine
end

