-- ==== Sys2Proof/Machine/StateHost.lean ====
section
/-! DEFINITION. Machine/StateHost.lean: the plain data of the host side: mailbox slots (15), rings, interrupts and link
(14), boot, supplies and firmware (20, 21), calibration records and NVM (19). -/

namespace Sys2Proof.Machine

/-- PHASE of a mailbox slot (15 Table 15-3). -/
inductive SlotPhase where
  | free
  | accepted
  | deferred
  | done
  deriving DecidableEq, Repr

/-- What a DEFERRED slot waits for: the pending operation and its object (15 R318, R321). -/
inductive Job where
  | none
  | bindOff
  | portProbe (port : Nat)
  | capForce (skein : Nat)
  | capRead (skein : Nat)
  | timeSet
  | chartStop
  | chartStart
  | inject (n : Nat)
  | loopRelease (loop : Nat)
  | srcDisable (ch : Nat)
  | calRun (dom ins : Nat)
  | nvmStore
  | nvmErase
  | pairSwap
  | pairLink
  | fwStage
  | fwVerify (slot : Nat)
  | krnLoad (slot : Nat)
  | krnStart (slot : Nat)
  | krnStop (slot : Nat)
  | memFreq
  | memTrain
  | memPpr
  | waiting (n : Nat)
  deriving DecidableEq, Repr

/-- The answer part of a response: STATUS, ITEM, WHICH, RESOURCE, NOTES and payload (15 Table 15-2). -/
structure Reply where
  status : Nat
  item : Nat
  which : Nat
  resource : Nat
  notes : Nat
  payload : List Byte
  deriving DecidableEq, Repr

/-- A mailbox slot: the response half as the host reads it and what the firmware keeps for a pending command (15 R315 to
R318). -/
structure Slot where
  /-- PHASE (15 Table 15-2, 8 bits; reset FREE). -/
  phase : SlotPhase
  /-- OPCODE of the request copied (15 Table 15-2, 16 bits; reset 0). -/
  opcode : Nat
  /-- TAG of the request (15 Table 15-1, 32 bits; reset 0). -/
  tag : Nat
  /-- NO_IRQ of the request (15 Table 15-1). -/
  noIrq : Bool
  /-- The answer last written, LEN being the payload's length (15 Table 15-2). -/
  reply : Reply
  /-- TS of the response last written (15 Table 15-2, TS72). -/
  ts : Nat
  /-- What a DEFERRED command waits for (15 R318). -/
  job : Job
  /-- A final response that an MBX_DELAY snag holds back, with the SCLK count at which it goes out (18 Table 18-5). -/
  held : Option (Reply × Nat)
  deriving DecidableEq, Repr

/-- An answer with nothing set. -/
def replyBlank : Reply := ⟨0, 0, 0, 0, 0, []⟩

/-- A slot after PORST_N or an endpoint reset (15 Table 15-3). -/
def slotBlank : Slot := ⟨.free, 0, 0, false, replyBlank, 0, .none, none⟩

/-- A frame before it is written: the fields of its 48-byte header and its payload (06 Table 06-6). -/
structure Frame where
  zone : Nat
  product : Nat
  flags : Nat
  epoch : Nat
  unit : Nat
  ts : Nat
  firstStitch : Nat
  stitchCount : Nat
  stride : Nat
  sampleCount : Nat
  warmupIndex : Nat
  payload : List Byte
  deriving DecidableEq, Repr

/-- A frame that waits for its ring (14 R307): since when (SCLK count), and the CAP_READ whose last frame it is. -/
structure QFrame where
  frame : Frame
  since : Nat
  last : Job
  deriving DecidableEq, Repr

/-- STATE of a ring (14 Table 14-6). -/
inductive RingSt where
  | disabled
  | running
  | stopping
  | error
  deriving DecidableEq, Repr

/-- One ring: its registers and what waits for it (14 Table 14-6, R307). -/
structure Ring where
  /-- BASE_HI and BASE_LO (64 bits; reset 0). -/
  base : Nat
  /-- VECTOR (8 bits; reset the ring's own vector). -/
  vector : Nat
  /-- HOLD (8 bits; reset 0x0A). -/
  hold : Nat
  /-- SIZE_LOG2 (5 bits; reset 0b10000). -/
  size : Nat
  /-- RLX (1 bit; reset 0). -/
  rlx : Bool
  /-- ENABLE (1 bit; reset 0). -/
  enable : Bool
  /-- MOD_COUNT (16 bits; reset 1). -/
  modCount : Nat
  /-- MOD_US (16 bits; reset 100). -/
  modUs : Nat
  /-- PROD (32 bits; reset 0). -/
  prod : Nat
  /-- CONS (32 bits; reset 0). -/
  cons : Nat
  /-- ERROR (8 bits; reset 0). -/
  error : Nat
  /-- STATE (2 bits; reset DISABLED). -/
  st : RingSt
  /-- DROPPED (32 bits; reset 0). -/
  dropped : Nat
  /-- SEQ of the status block: frames written or descriptors taken since ENABLE (14 Table 14-7). -/
  seq : Nat
  /-- Completions not yet announced by an interrupt (14 R306). -/
  unannounced : Nat
  /-- When MOD_US of the first unannounced completion runs out, SCLK count (14 R306). -/
  modAt : Option Nat
  /-- The next frame delivered carries GAP (14 R307). -/
  gapNext : Bool
  /-- Frames that wait, oldest first (14 R307). -/
  queue : List QFrame
  /-- Offsets that follow the frames written and not yet released by CONS, oldest first (14 R305). -/
  ends : List Nat
  /-- Sources 83 and 84 that the ring has raised and whose next ENABLE clears them (14 Table 14-11). -/
  faults : List Nat
  deriving DecidableEq, Repr

/-- A ring after PORST_N (14 Table 14-6); ring numbers 0 to 131 are C2H, 132 to 135 the H2C rings 0 to 3. -/
def ringBlank (r : Nat) : Ring :=
  ⟨0, r, 0x0A, 16, false, false, 1, 0x64, 0, 0, 0, .disabled, 0, 0, 0, none, false, [], [], []⟩

/-- An open housekeeping frame: its records and their first time (14 R449). -/
structure HkOpen where
  recs : List (List Byte)
  bytes : Nat
  firstTs : Nat
  since : Nat
  /-- FIRST_STITCH of the frame: its first stitch and port, for statistics (14 R304). -/
  first : Nat
  deriving DecidableEq, Repr

/-- No open frame. -/
def hkNone : HkOpen := ⟨[], 0, 0, 0, 0⟩

/-- How a host request was completed (14 R300, Table 14-9). -/
inductive HostAnswer where
  | none
  | data (bytes : List Byte)
  | completerAbort
  | unsupported
  deriving DecidableEq, Repr

/-- An error that AER logs (14 R311, Table 14-9). -/
inductive AerError where
  | malformedTlp
  | ecrcError
  | receiverOverflow
  | unsupportedRequest
  | poisonedTlp
  | completerAbort
  deriving DecidableEq, Repr

/-- The host link (14). -/
structure HostLink where
  /-- Rings 0 to 131 C2H, 132 to 135 H2C (14 R301). -/
  rings : KMap Ring
  /-- IRQ_MAP.FAULT_VECTOR (14 Table 14-2, 8 bits; reset 0x82). -/
  faultVector : Nat
  /-- IRQ_MAP.MBX_VECTOR (14 Table 14-2, 8 bits; reset 0x82). -/
  mbxVector : Nat
  /-- HK_DROPS (14 Table 14-2, 32 bits; reset 0). -/
  hkDrops : Nat
  /-- The MSI-X table by 32-bit word, four to a vector (14 R299). -/
  msixTable : KMap Nat
  /-- MSI-X Enable of configuration space (14 Table 14-1; reset off, log 30). -/
  msixOn : Bool
  /-- The PBA: 136 pending bits (14 R299, R306; reset 0). -/
  pba : Nat
  /-- Messages sent on each vector since PORST_N: what the host sees of an interrupt (14 R306). -/
  sent : KMap Nat
  /-- INTA asserted (14 R306; reset off). -/
  inta : Bool
  /-- The endpoint is out of reset: PERST_N released and no reset in progress (14 R313, R314; reset off). -/
  endpointUp : Bool
  /-- PERST_N is held low (14 R314; reset low). -/
  perstLow : Bool
  /-- The LTSSM may leave Detect (14 R314, Table 14-10; reset no). -/
  mayTrain : Bool
  /-- CLKREQ_N driven low (14 R297; reset high impedance, 21 Table 21-5). -/
  clkreqLow : Bool
  /-- The link is up, DL_Up (14 R313; reset down). -/
  linkUp : Bool
  /-- Negotiated width (14 Table 14-2 LINK_STATUS, 4 bits; reset 0). -/
  width : Nat
  /-- Negotiated speed, 1 to 4 (14 Table 14-2 LINK_STATUS, 4 bits; reset 0). -/
  speed : Nat
  /-- C2H bytes written since the last whole second (14 R310). -/
  bytesNow : Nat
  /-- C2H bytes written in the last whole second (14 R310). -/
  bytesLast : Nat
  /-- Subsystem IDs of configuration space (14 R297, 32 bits; reset 0, loaded from region F). -/
  subsystem : Nat
  /-- The errors that AER has logged, in the order in which each first came (14 R311). -/
  aer : List AerError
  /-- Host memory as the device's DMA writes have left it (14 R304). -/
  hostMem : Memory
  /-- Open housekeeping frames: key 0 to 3 and 5 the record type, 0x40 + port the statistics (14 R449). -/
  hkOpen : KMap HkOpen
  /-- When the edge records of the last second were written, SCLK counts, newest first (08 R184). -/
  edgeTimes : List Nat
  /-- The completion last sent to the host (14 R300, R311). -/
  answer : HostAnswer
  deriving DecidableEq, Repr

/-- The host link after PORST_N. -/
def hostLinkBlank : HostLink :=
  { rings := [], faultVector := 0x82, mbxVector := 0x82, hkDrops := 0, msixTable := [], msixOn := false, pba := 0, sent := [],
    inta := false, endpointUp := false, perstLow := true, mayTrain := false, clkreqLow := false, linkUp := false, width := 0,
    speed := 0, bytesNow := 0, bytesLast := 0, subsystem := 0, aer := [], hostMem := [], hkOpen := [], edgeTimes := [],
    answer := .none }

/-- STATE of BOOT_STATE (14 Table 14-3). -/
inductive BootSt where
  | reset
  | nvmLoaded
  | linkReady
  | fwBoot
  | dramTrain
  | calibrating
  | ready
  | recovery
  | failed
  deriving DecidableEq, Repr

/-- One firmware slot of NVM (20 R421 to R425). -/
structure FwSlot where
  /-- The image as written: header, code, signature (20 R422). -/
  image : List Byte
  /-- Verified since its last write (20 R424, R425). -/
  verified : Bool
  deriving DecidableEq, Repr

/-- A live firmware activation in progress (20 R426, R427). -/
structure Activation where
  slot : Nat
  before : Nat
  /-- SCLK count 200 ms after the final response (20 R427). -/
  deadline : Nat
  /-- The 200 ms have passed: the control processor restarts from the slot that ran before (20 R427). -/
  fallback : Bool
  deriving DecidableEq, Repr

/-- A bind-off in progress (20 Table 20-9). -/
structure BindOff where
  /-- The hand-over to the peer is still to end (20 Table 20-9, row 1). -/
  swapping : Bool
  /-- PORT_STOP has been given to both ports (row 2). -/
  stopped : Bool
  /-- The drains have ended and the release and ramps have begun (rows 3, 4). -/
  releasing : Bool
  /-- Source-drive channels that SRC_ENABLE has taken out of it (20 R432). -/
  left : List Nat
  deriving DecidableEq, Repr

/-- Boot, supplies, straps, firmware (20; 18 R378; 21 R439, R444). -/
structure Boot where
  /-- BOOT_STATE.STATE (14 Table 14-3; reset RESET). -/
  st : BootSt
  /-- BOOT_STATE.FAIL_SOURCE (8 bits; reset 0). -/
  failSource : Nat
  /-- BOOT_STATE.FW_SLOT (1 bit; reset 0). -/
  fwSlot : Nat
  /-- PORST_N is low (20 R415, R418; reset low). -/
  porstLow : Bool
  /-- The root synthesiser has locked and the clocks run (20 R413; reset no). -/
  rootLocked : Bool
  /-- The device holds itself in reset at 165 °C (18 R378). -/
  thermalHold : Bool
  /-- Rails below their window that hold the device in reset: bits 0 to 2, VDD, VDDSX and VDDA09 (20 R416). -/
  supplyHold : Nat
  /-- Retained flags of events carried across a reset: sources 2, 3, 8 (18 R378, 20 R416, 21 R444). -/
  carried : List Nat
  /-- The last cast-on came from SYS_RESET: endpoint kept (20 R418). -/
  warm : Bool
  /-- BOOT_SEL strap (20 Table 20-3, 2 bits; reset 0). -/
  bootSel : Nat
  /-- PAIR_ID strap, UNIT_ID (20 Table 20-3, 3 bits; reset 0). -/
  unitId : Nat
  /-- DEV_REV (14 Table 14-2; first silicon 0x4100). -/
  devRev : Nat
  /-- SERIAL of region F, 16 bytes (15 Table 15-7; reset zeros). -/
  serial : List Byte
  /-- The march test of every array has ended (20 Table 20-5). -/
  marchDone : Bool
  /-- BOOT_STATE has reached DRAM_TRAIN since PORST_N (14 R300). -/
  trainSeen : Bool
  /-- DRAM training has ended (13 R281, 14 R300). -/
  dramTrained : Bool
  /-- The cast-on calibrations have ended and region U is applied (19 R406, 20 Table 20-5). -/
  userApplied : Bool
  /-- The root has not locked within 2 ms: the device stays in reset (20 R420). -/
  rootFailed : Bool
  /-- The boot ROM has turned to recovery boot (20 R422). -/
  recovering : Bool
  /-- A SYS_RESET has been answered and follows now (20 R418). -/
  resetDue : Bool
  /-- Firmware runs (15 R324). -/
  fwRuns : Bool
  /-- Firmware slot A (20 R421). -/
  slotA : FwSlot
  /-- Firmware slot B (20 R421). -/
  slotB : FwSlot
  /-- The active-slot record of region R (20 R421; as shipped A). -/
  activeSlot : Nat
  /-- Anti-rollback fuses blown (20 R423, 0 to 64). -/
  rollback : Nat
  /-- An activation in progress (20 R426). -/
  activation : Option Activation
  /-- A FW_STAGE in progress: slot, image and the descriptor's TAG (20 R424). -/
  staging : Option (Nat × List Byte × Nat)
  /-- FW_VERIFYs in progress, oldest first: their slots (20 R425). -/
  verifying : List Nat
  /-- A bind-off in progress (20 R431). -/
  bindOff : Option BindOff
  /-- Bind-off has completed and its command queue is free to run (20 R432). -/
  releaseHeld : Bool
  /-- Doorbells held until firmware runs: slot, opcode, tag, NO_IRQ (15 R324). -/
  heldBells : List (Nat × Nat × Nat × Bool)
  /-- Debug unlock in force (15 R335; reset locked). -/
  unlocked : Bool
  /-- The challenge outstanding (15 R335; reset none). -/
  challenge : Option (List Byte)
  /-- DIE_TEMP, 0.01 °C (21 R444; reset 2,500, log 31). -/
  dieTemp : Int
  /-- DIE_TEMP when each TDC channel (0 to 15) was last calibrated (08 R183). -/
  tdcCalTemp : KMap Int
  /-- DIE_TEMP when the front end was last calibrated (11 R253). -/
  feCalTemp : Int
  /-- Ports whose GATE, TGATE and GLVL pins a first PORT_APPLY has driven; high impedance before it (21 Table 21-5). -/
  pinsDriven : List Nat
  deriving DecidableEq, Repr

/-- An empty firmware slot: what a part holds as shipped is not stated (log 111). -/
def fwSlotBlank : FwSlot := ⟨[], false⟩

/-- Boot and supplies with PORST_N low, before anything has run. -/
def bootBlank : Boot :=
  { st := .reset, failSource := 0, fwSlot := 0, porstLow := true, rootLocked := false, thermalHold := false, supplyHold := 0,
    carried := [], warm := false, bootSel := 0, unitId := 0, devRev := 0x4100, serial := List.replicate 16 0, marchDone := false,
    trainSeen := false, dramTrained := false, userApplied := false, rootFailed := false, recovering := false, resetDue := false,
    fwRuns := false, slotA := fwSlotBlank, slotB := fwSlotBlank, activeSlot := 0, rollback := 0, activation := none,
    staging := none, verifying := [], bindOff := none, releaseHeld := false, heldBells := [], unlocked := false,
    challenge := none, dieTemp := 2500, tdcCalTemp := [], feCalTemp := 2500, pinsDriven := [] }

/-- A repairable unit that the working repair map can name (19 R410). -/
inductive RepairUnit where
  | slice (port ch n : Nat)
  | tdcCore (ch core : Nat)
  | core (n : Nat)
  | engine (n : Nat)
  | sramRow (array row : Nat)
  | dramRow (ch rank bank row kind : Nat)
  deriving DecidableEq, Repr

/-- STATE of CAL_STATUS (19 R396). -/
inductive CalSt where
  | idle
  | background
  | foreground
  | queued
  deriving DecidableEq, Repr

/-- What is kept for a calibration domain and inst (19 R396). -/
structure CalRec where
  st : CalSt
  count : Nat
  last : Nat
  lastStatus : Nat
  /-- A unit of the present run has failed (19 R396). -/
  failed : Bool
  deriving DecidableEq, Repr

/-- A calibration record after PORST_N (19 R396). -/
def calBlank : CalRec := ⟨.idle, 0, 0, 0, false⟩

/-- One bank of region U (19 R405 to R408). -/
structure NvmBank where
  valid : Bool
  generation : Nat
  /-- Object IDs and values, ascending (19 R408). -/
  pairs : List (Nat × Int)
  /-- Chart entries (19 R407). -/
  chart : KMap ChartEntry
  /-- Compensation tables (19 R407). -/
  tables : KMap (Option CompTable)
  deriving DecidableEq, Repr

/-- An empty bank. -/
def bankBlank : NvmBank := ⟨false, 0, [], [], []⟩

/-- An NVM write or erase in progress: a store's domain, what it writes to the two regions, and its bytes (19 R407, R409,
R410). -/
inductive NvmOp where
  | store (dom : Nat) (bank : Option NvmBank) (map : Option (List RepairUnit)) (bytes : Nat)
  | erase
  deriving DecidableEq, Repr

/-- Calibration records, repair map and NVM (19). -/
structure Cal where
  /-- Records by domain code × 256 + inst (19 R396). -/
  recs : KMap CalRec
  /-- The working repair map (19 R410). -/
  repair : List RepairUnit
  /-- The repair map as region R holds it (19 Table 19-5, R410; as shipped empty). -/
  regionR : List RepairUnit
  /-- Region U bank 0 and bank 1 (19 Table 19-5). -/
  bank0 : NvmBank
  bank1 : NvmBank
  /-- The active bank of region U (19 R407). -/
  activeBank : Nat
  /-- An NVM operation in progress (19 R407). -/
  nvmOp : Option NvmOp
  /-- Spare SRAM rows used, by array (19 R403). -/
  sramUsed : KMap Nat
  /-- When the interval to the next test of a free spare began, SCLK count (19 R402). -/
  spareTestSince : Nat
  /-- Which unit is tested next: core n, 68 + n an engine (19 R402: one unit at a time). -/
  spareTestNext : Nat
  /-- Units under a run of NEEDLE_TEST or COMP_TEST: core n, 256 + n an engine (19 R395, R402). -/
  underTest : List Nat
  /-- Regions with an error of source 113 not yet put right: 0 F, 1 R, 2 U (19 R405, R411). -/
  nvmBad : List Nat
  deriving DecidableEq, Repr

/-- Calibration records and NVM as a part is shipped: nothing stored (19 R410). -/
def calStateBlank : Cal :=
  { recs := [], repair := [], regionR := [], bank0 := bankBlank, bank1 := bankBlank, activeBank := 0, nvmOp := none,
    sramUsed := [], spareTestSince := 0, spareTestNext := 0, underTest := [], nvmBad := [] }

end Sys2Proof.Machine
end

