-- ==== Sys2Proof/Machine/StatePort.lean ====
section
/-! DEFINITION. Machine/StatePort.lean: the plain data of an optical port: scheduler and launches (01, 02), coherent
receive (03), phase engine (04), Raman receivers and fused temperature (05). -/

namespace Sys2Proof.Machine

/-- PORT_STATE (02 Table 02-4). -/
inductive PortSt where
  | idle
  | armed
  | running
  | draining
  deriving DecidableEq, Repr

/-- LOCK_STATE (02 Table 02-7). -/
inductive LockSt where
  | off
  | locked
  | holdover
  | tooFast
  | acquiring
  deriving DecidableEq, Repr

/-- The locked-mode placer of a port (02 R43). Times are TS72 values, intervals units of 3.125 ps. -/
structure Lock where
  st : LockSt
  /-- T_ref; 0 until two edges are measured. -/
  tRef : Nat
  /-- The most recent reference edge that the port used. -/
  edge : Option Nat
  /-- The edge, measured or predicted, that started the present cycle. -/
  cycleEdge : Option Nat
  /-- The anchor of the present cycle. -/
  anchor : Nat
  /-- Shots of the present cycle already started. -/
  done : Nat
  /-- Shots in the present cycle; 0: no cycle. -/
  size : Nat
  /-- T_ref in force when the cycle started. -/
  cycleRef : Nat
  deriving DecidableEq, Repr

/-- A port's lock placer out of LOCKED mode. -/
def lockOff : Lock := ⟨.off, 0, none, none, 0, 0, 0, 0⟩

/-- A launch (02 R38, R46 to R48). -/
structure Launch where
  /-- Shot index since PORT_START, 32 bits (02 Table 02-5 SHOT). -/
  shot : Nat
  /-- Shot index since shot 0 of the plan in force (04 R81). -/
  planShot : Nat
  ply : Nat
  /-- GATE_TS, the launch edge at the pin. -/
  gate : Nat
  /-- T0, the launch edge with FINE cleared: the NCO's phase is 0 and decimated sample 0 is taken there (03 R68). -/
  t0 : Nat
  /-- T0 of the ply's launch before, since when its NCO has run (03 R68). -/
  t0Prev : Option Nat
  trig : Bool
  hold : Bool
  proof : Bool
  cal : Bool
  /-- t_L: the LMON edge, or GATE_TS + LAUNCH_DELAY (02 R47); 0 until known. -/
  tL : Nat
  missing : Bool
  /-- An LMON_SUPPRESS snag hides its LMON edge (18 Table 18-5). -/
  hidden : Bool
  deriving DecidableEq, Repr

/-- What a port's DACs play (02 R34): ply, F0, K, the first sample's time. -/
structure Chirp where
  ply : Nat
  f0 : Int
  k : Int
  at_ : Nat
  deriving DecidableEq, Repr

/-- One stitch-sample as the de-chirp engine delivers it (03 R74): z_X, z_Y, flags of Table 03-4 bits 3..0. -/
structure Stitch where
  xr : Int
  xi : Int
  yr : Int
  yi : Int
  flags : Nat
  deriving DecidableEq, Repr

/-- A row as delivered to the phase engine (03 R74). -/
structure Row where
  l : Launch
  /-- Flags of Table 03-4 bits 6..4. -/
  flags : Nat
  /-- The first DEAD stitch of the row (01 R31). -/
  dead : Option Nat
  /-- The break ended in the row before: stitches from here on restart (01 R32). -/
  healed : Option Nat
  zs : List Stitch
  deriving DecidableEq, Repr

/-- A declared break (01 R31, R32). -/
structure Break where
  stitch : Nat
  declaredTs : Nat
  /-- Consecutive rows in which the windows beyond were back within 3 dB. -/
  good : Nat
  deriving DecidableEq, Repr

/-- The break detector (01 R30 to R32). -/
structure BreakDet where
  /-- BREAK_STATE 1 or 2 rather than 0. -/
  armed : Bool
  /-- The reference profile, empty before the first row. -/
  ref : List Rat
  /-- The candidate of the previous row and the TICKS of that row's t_L. -/
  cand : Option (Nat × Nat)
  brk : Option Break
  /-- The break ended with the row delivered last: the next row restarts from this stitch (01 R32). -/
  healed : Option Nat
  deriving DecidableEq, Repr

/-- A detector that has learnt nothing. -/
def breakNone : BreakDet := ⟨false, [], none, none, none⟩

/-- Correction factors of an ADC slice (03 R55). -/
structure SliceFactors where
  ofs : Int
  gain : Int
  skew : Int
  deriving DecidableEq, Repr

/-- A slice's factors at reset: none, unity, none (19 R398). -/
def sliceUnity (_ : Nat) : SliceFactors := ⟨0, 16384, 0⟩

/-- How a channel's samples are taken and corrected from one tick on: the slice of each slot, its factors, and the slots that
are interpolated (03 R54 to R56, R60). -/
structure SlotSet where
  from_ : Nat
  map : List Nat
  facs : List SliceFactors
  interp : List Nat
  deriving DecidableEq, Repr

/-- A channel at reset, from tick 0 on. -/
def slotSetBlank : SlotSet := ⟨0, List.range 16, List.replicate 16 (sliceUnity 0), []⟩

/-- One interleaved ADC channel (03 R54 to R60). -/
structure AdcChan where
  /-- The slice in each of the sixteen slots. -/
  map : List Nat
  /-- Slices held out of service. -/
  out : List Nat
  /-- The slice that a calibration step measures (19 R397). -/
  testing : Option Nat
  /-- Faults declared and not yet repaired: slot, and the tick from which the change may come, oldest first (03 R58, R60). -/
  waits : List (Nat × Nat)
  /-- The slice step in progress has still to make this channel's planned change (03 R58). -/
  stepDue : Bool
  /-- Slots whose samples are interpolated (03 R60). -/
  interp : List Nat
  /-- Suspect intervals (from, to) in ticks; to = none: still open (03 R58). -/
  suspect : List (Nat × Option Nat)
  /-- A foreground calibration took the channel out of service at this tick (03 R76). -/
  fgSince : Option Nat
  /-- Intervals of ended foreground calibrations, the last four (03 R76). -/
  fgPast : List (Nat × Nat)
  /-- SCLK count at which each slice last passed its calibration; none: never (19 R397). -/
  passed : KMap (Option Nat)
  /-- SCLK count at which each slice was last judged; none: never (19 R397; log 101). -/
  tried : KMap (Option Nat)
  /-- Its raise of source 34 or 35 stands (03 R60, Table 03-6). -/
  short : Bool
  /-- What was in force from which tick, newest first (03 R56). -/
  sets : List SlotSet
  /-- The tick of the monitor's next evaluation; 0: none yet (03 R57). -/
  evalAt : Nat
  deriving DecidableEq, Repr

/-- A channel after PORST_N: slices 0 to 15 in slots 0 to 15 (03 Table 03-5). -/
def adcBlank (_ : Nat) : AdcChan :=
  { map := List.range 16, out := [], testing := none, waits := [], stepDue := false, interp := [], suspect := [],
    fgSince := none, fgPast := [], passed := [], tried := [], short := false, sets := [slotSetBlank], evalAt := 0 }

/-- A slice step in progress on a port (19 R397, R398). -/
structure CalStep where
  /-- Bursts made so far, of 15. -/
  bursts : Nat
  /-- SCLK count from which the bursts left run without slots; none: the port's slots carry them. -/
  freeFrom : Option Nat
  /-- It belongs to a CAL_RUN rather than to the rotation. -/
  ofRun : Bool
  /-- SCLK count at which the burst of the last slot ends (19 R397). -/
  busyTo : Nat
  deriving DecidableEq, Repr

/-- A foreground run of ADC_SLICE on a port (19 R400). -/
structure FgRun where
  /-- 0 XI, 1 XQ, 2 the gap, 3 YI, 4 YQ. -/
  stage : Nat
  /-- SCLK count at which the stage ends. -/
  endClk : Nat
  /-- 0 the only pass; 2 the first of the two at cast-on, 1 the second. -/
  pass : Nat
  /-- What the first pass at cast-on found, by channel × 18 + slice; none: it failed. -/
  first : KMap (Option SliceFactors)
  deriving DecidableEq, Repr

/-- The hybrid terms of one polarisation (03 R65). -/
structure Hyb where
  g : Int
  p : Int
  mI : Int
  mQ : Int
  deriving DecidableEq, Repr

/-- No correction. -/
def hybNone : Hyb := ⟨0, 0, 0, 0⟩

/-- What the phase engine keeps for one ply of a gauge (04 R84, R88). -/
structure PlyAlign where
  beta : Int
  cr : Int
  ci : Int
  /-- M_j; none until the first usable sample. -/
  mag : Option Rat
  /-- t_L of the shot of the last update (04 R84, R86). -/
  updated : Nat
  /-- The latest sample: θ, ψ, usable, LMON_MISSING, shot, t_L. -/
  theta : Int
  psi : Int
  ok : Bool
  missing : Bool
  shot : Nat
  tL : Nat
  deriving DecidableEq, Repr

/-- A ply of a gauge that has seen nothing. -/
def plyNone : PlyAlign := ⟨0, 0, 0, none, 0, 0, 0, false, false, 0, 0⟩

/-- An unwrapped sample that waits for its look-ahead (04 R89, R95). -/
structure Sample where
  ok : Bool
  /-- Corrected increment u; 0 when not usable. -/
  u : Int
  /-- Faded with no other reason (04 R89). -/
  faded : Bool
  reason : Nat
  /-- Grade of R93 after its caps. -/
  grade : Nat
  /-- No θ'_last yet: the first usable sample adds nothing (04 R94). -/
  first : Bool
  /-- Restart sample: Φ is set to 0 (04 R94, end of a break). -/
  zero : Bool
  deriving DecidableEq, Repr

/-- The state of one gauge (04 R83 to R94). -/
structure Gauge where
  /-- Φ, 34 bits. -/
  phi : Nat
  /-- Φ of the last usable sample. -/
  base : Nat
  /-- ψ. -/
  psi : Int
  /-- θ'_last. -/
  last : Option Int
  /-- The sample before was usable (04 R87). -/
  prevOk : Bool
  anchor : Nat
  plies : List PlyAlign
  /-- Samples of shots 0 and 1: ply, θ, m, usable (04 R86, R94). -/
  seed : List (Nat × Int × Nat × Bool)
  /-- t_L of the first row after the restart, from which the stitch settles (04 R86). -/
  since : Nat
  /-- Length of the present run of unusable samples (04 R89). -/
  run : Nat
  /-- The increment and length of a run under interpolation (04 R89). -/
  bridge : Option (Int × Nat)
  /-- DISCONT is owed to the next valid sample (04 R94). -/
  oweDisc : Bool
  /-- Unwrapped samples not yet delivered, oldest first. -/
  ahead : List Sample
  deriving DecidableEq, Repr

/-- A gauge after a restart. -/
def gaugeNone : Gauge :=
  ⟨0, 0, 0, none, false, 0, [], [], 0, 0, none, true, []⟩

/-- A row of products as it leaves the phase engine (04 R95). -/
structure PhaseRow where
  tL : Nat
  /-- Interleaved index i since the restart (04 R81). -/
  idx : Nat
  dphi : List Int
  phi : List Int
  amp : List Int
  qual : List Nat
  /-- The first DEAD stitch of the row (01 R31). -/
  dead : Option Nat
  deriving DecidableEq, Repr

/-- The phase engine of a port (04). -/
structure PhaseEng where
  /-- Rows delivered and not yet unwrapped, oldest first. -/
  rows : List Row
  /-- Rows unwrapped and not yet delivered, oldest first. -/
  ahead : List Row
  gauges : List Gauge
  /-- c of the latest sample (04 R87; CM_LAST). -/
  c : Int
  /-- Consecutive held, and consecutive qualifying, samples. -/
  heldRun : Nat
  goodRun : Nat
  /-- The correction is dropped (04 R87). -/
  lost : Bool
  /-- Samples since the restart that were delivered. -/
  idx : Nat
  /-- The row delivered last. -/
  out : Option PhaseRow
  deriving DecidableEq, Repr

/-- A phase engine that has seen nothing. -/
def phaseNone : PhaseEng := ⟨[], [], [], 0, 0, 0, false, 0, none⟩

/-- Spectral accumulators of a port (04 R96). -/
structure SpecAcc where
  /-- Sum of |z|² by stitch × 16 + ply. -/
  sum : KMap Nat
  /-- Rows used, by stitch. -/
  rows : KMap Nat
  shots : Nat
  deriving DecidableEq, Repr

/-- Accumulators of nothing. -/
def specAccNone : SpecAcc := ⟨[], [], 0⟩

/-- A record of the spectral stream: the SPEC_ROWS it was closed at, and P words with the count of rows used, by stitch (04 R96). -/
structure SpecRec where
  need : Nat
  words : List (List Nat × Nat)
  deriving DecidableEq, Repr

/-- The sums of one Raman bank of one input: by bin, sum and count (05 R106). -/
structure Bank where
  sum : KMap Int
  cnt : KMap Nat
  deriving DecidableEq, Repr

/-- An empty bank. -/
def bankNone : Bank := ⟨[], []⟩

/-- One accumulation interval's totals of a port: AS and ST, signal and background (05 R106). -/
structure RamanSums where
  asSig : Bank
  asBg : Bank
  stSig : Bank
  stBg : Bank
  sigWindows : Nat
  bgWindows : Nat
  samples : Nat
  sats : Nat
  /-- TS72 of the start of the first window. -/
  firstTs : Nat
  /-- Which moving sum the interval belongs to: it counts up whenever the sum is emptied (05 R107, R109). -/
  epoch : Nat
  deriving DecidableEq, Repr

/-- Totals of nothing. -/
def ramanZero : RamanSums := ⟨bankNone, bankNone, bankNone, bankNone, 0, 0, 0, 0, 0, 0⟩

/-- A Raman window in progress (05 R101). -/
structure RamanWin where
  signal : Bool
  /-- Tick at which the window starts. -/
  start : Nat
  /-- φ of R101, 0 to 4 ticks. -/
  phase : Nat
  dither : Int
  /-- N_R, RANGE_0 and the switch bins with their ranges, under the items in force when the shot's window starts (05 R101, R102,
  R107). -/
  len : Nat
  range0 : Nat
  switches : List (Int × Nat)
  /-- Its shot belongs to the interval that has ended, whose buffers have not swapped (05 R107). -/
  late : Bool
  /-- A foreground calibration overlaps it (05 R107). -/
  spoilt : Bool
  deriving DecidableEq, Repr

/-- An interval that has ended and waits for its last window: its sums and its length in ticks (05 R107). -/
structure RamanEnded where
  sums : RamanSums
  len : Nat
  deriving DecidableEq, Repr

/-- A RAMAN_OFFSET run: the SCLK count at which it began, and the windows it has taken of a running port (05 R118). -/
structure OfsRun where
  since : Nat
  windows : Nat
  deriving DecidableEq, Repr

/-- State of TR, FT or FS (05 R125). -/
abbrev TQual := Nat

/-- A temperature or strain value and its TQUAL. -/
structure TVal where
  v : Int
  q : TQual
  deriving DecidableEq, Repr

/-- INVALID, NOT_READY (05 Table 05-4). -/
def tvNone : TVal := ⟨0, 0x10⟩

/-- An update of TR, or of FT and FS, as it reaches the zones (05 R115, R120). -/
structure TRow where
  ts : Nat
  vals : List TVal
  deriving DecidableEq, Repr

/-- The state of the fusion for one gauge (05 R121 to R126). -/
structure Fuse where
  b : Option Rat
  eb : Rat
  /-- E_0 and T_0, once captured. -/
  e0 : Option (Rat × Rat)
  /-- 0 NORMAL, 1 CONVERGING, 4 BRIDGED (05 R125). -/
  st : Nat
  /-- SCLK count at which CONVERGING or BRIDGED ends (05 R121, R122). -/
  stEnd : Nat
  /-- SCLK count at which HOLDOVER began; none: not in HOLDOVER (05 R124). -/
  holdSince : Option Nat
  /-- HOLDOVER has outlasted FUSE_HOLD (05 R124). -/
  holdOver : Bool
  /-- V, in Hz, how often it has started from zero, and the record used last: the words of stitches s to s + G (05 R119, R126). -/
  track : Int
  restarts : Nat
  record : List (List Nat)
  /-- Lost since the previous update (05 R125 SPEC_LOST). -/
  lostSince : Bool
  /-- FT_last in kelvin, E + e_b, and the mean of V over the last interval with E (05 R122, R123). -/
  ftLast : Option Rat
  strainLast : Option Rat
  vBefore : Rat
  /-- The last FS before rounding, in nε (05 R123). -/
  fsLast : Option Rat
  /-- The last T_g (SPLIT holds it, 05 Table 05-3). -/
  tgLast : Option Rat
  /-- The next FT, or FS, carries DISCONT (05 R122, R123). -/
  oweFt : Bool
  oweFs : Bool
  /-- The FS_ZERO commit whose zero the gauge has captured (05 R123). -/
  zeroed : Nat
  deriving DecidableEq, Repr

/-- The fusion state of a gauge with nothing known. -/
def fuseNone : Fuse := ⟨none, 0, none, 1, 0, none, false, 0, 0, [], false, none, none, 0, none, none, false, false, 0⟩

/-- A gap of a gauge's PHI, from its last sample that is not INVALID to the first after it: when each was taken (SCLK counts), how
often the track had started and its value before it, and the same at the first record after it (05 R122). -/
structure PhiGap where
  since : Nat
  till : Option Nat
  restarts : Nat
  track : Int
  after : Option (Nat × Int)
  deriving DecidableEq, Repr

/-- The interval mean of a gauge's PHI in progress (05 R120, R122): the sums of PHI and of V over the samples used, samples used and
seen, the gaps not yet bridged, oldest first, the SCLK count of the last valid sample, and the track's starts and value then. -/
structure EAcc where
  sum : Int
  vSum : Int
  used : Nat
  seen : Nat
  gaps : List PhiGap
  lastClk : Nat
  lastRestarts : Nat
  lastTrack : Int
  deriving DecidableEq, Repr

/-- Nothing seen. -/
def eNone : EAcc := ⟨0, 0, 0, 0, [], 0, 0, 0⟩

/-- Raman receivers and fusion of a port (05). -/
structure Raman where
  /-- The 23-bit LFSR of the dither (05 R103). -/
  lfsr : Nat
  win : Option RamanWin
  /-- The interval in progress, and the one before it until its last window is complete (05 R107). -/
  acc : RamanSums
  ended : Option RamanEnded
  /-- SCLK count at which the interval started; none: none runs. -/
  intStart : Option Nat
  /-- The last completed intervals, newest first, and the number of the moving sum (05 R109). -/
  past : List RamanSums
  epoch : Nat
  /-- A TR_UPDATE is due. -/
  trDue : Bool
  /-- A FUSION_UPDATE is due. -/
  fuseDue : Bool
  /-- Staged Raman items accepted by PARAM_COMMIT, applied at the next interval (05 R107). -/
  next : List (Nat × Int)
  /-- The values that such items had in the interval whose products are still to come (05 R107). -/
  old : List (Nat × Int)
  /-- OFS_r and RG_r in use (05 R105; calibrated, 05 R117, R118; RG_r 0 before that, Table 05-5 RG_USED). -/
  ofs : List Int
  rg : List Nat
  /-- The last good T_ref in 0.1 mK, and since when it is held, SCLK count (05 R113). -/
  tRef : Option Int
  heldSince : Option Nat
  /-- REF_HOLD has run out (05 R113). -/
  refLost : Bool
  /-- ln K and α_d held from the dual-ended fit, × 2^80 (05 R114). -/
  lnK : Option Int
  alpha : Option Int
  /-- The latest TR, by stitch. -/
  tr : List TVal
  trTs : Nat
  fuse : List Fuse
  /-- The interval means in progress; the end of an interval that the phase samples have not reached, a TS72 time; and the means of
  the interval that they have passed (05 R120). -/
  e : List EAcc
  eEnd : Option Nat
  eDone : Option (List EAcc)
  /-- The latest FT and FS, by stitch. -/
  ft : List TVal
  fs : List TVal
  /-- How often FS_ZERO was committed (05 R123). -/
  fsZero : Nat
  /-- FUSION_UPDATE's interval length, ticks. -/
  lastLen : Nat
  /-- A RAMAN_GAIN run interrupts the windows, up to an SCLK count (05 R107, R117). -/
  gainRun : Option Nat
  /-- A RAMAN_OFFSET run takes the windows, with TGATE held off (05 R118). -/
  ofsRun : Option OfsRun
  deriving DecidableEq, Repr

/-- Raman and fusion of port p after PORST_N. -/
def ramanBlank (p : Nat) : Raman :=
  { lfsr := p + 1, win := none, acc := ramanZero, ended := none, intStart := none, past := [], epoch := 0, trDue := false,
    fuseDue := false, next := [], old := [], ofs := [0, 0, 0, 0], rg := [0, 0, 0, 0], tRef := none, heldSince := none,
    refLost := false, lnK := none, alpha := none, tr := [], trTs := 0, fuse := [], e := [], eEnd := none, eDone := none,
    ft := [], fs := [], fsZero := 0, lastLen := 0, gainRun := none, ofsRun := none }

/-- What a PORT_STOP asked (02 Table 02-4, R447). -/
inductive StopWish where
  | none
  | armed
  | idle
  deriving DecidableEq, Repr

/-- A drain in progress (01 R24, 02 R447): its end as an SCLK count, and what ends with it. -/
structure Drain where
  endClk : Nat
  /-- t_b, a TS72 time. -/
  tb : Nat
  /-- A plan change rather than a stop. -/
  change : Bool
  deriving DecidableEq, Repr

/-- An optical port (01 to 05). -/
structure Port where
  st : PortSt
  /-- PORT_STOP waits for t_b, or for the end of the drain. -/
  stop : StopWish
  drain : Option Drain
  /-- A plan change waits for t_b. -/
  changing : Bool
  /-- The accepted plan that comes into force at the end of the drain: object IDs and values (01 R24). -/
  nextPlan : List (Nat × Int)
  /-- The time AT of PORT_START; the port has launched since. -/
  startAt : Nat
  launched : Bool
  /-- TS72 of port's first launch since PORT_START (03 R74). -/
  firstLaunch : Nat
  /-- TS72 at which the next shot starts. -/
  shotNext : Option Nat
  /-- Tick that registered the trigger of that shot (02 R45). -/
  trigTick : Option Nat
  /-- TS72 of the start of the last shot. -/
  shotStart : Nat
  shotOpen : Bool
  /-- Shots since PORT_START (15 Table 15-7 SHOTS), and since shot 0 of the plan. -/
  shots : Nat
  planShots : Nat
  /-- The next ply of the open shot. -/
  plyNext : Nat
  /-- Marks that the next shot will carry (02 Table 02-5). -/
  trigIn : Bool
  holdIn : Bool
  /-- Marks of the present shot (02 Table 02-5). -/
  shotTrig : Bool
  shotHold : Bool
  proofIn : Bool
  calIn : Bool
  tgateDone : Bool
  slotDone : Bool
  lock : Lock
  /-- Launches whose LMON window is open, and those whose row is due. -/
  lmonWait : List Launch
  rowsDue : List Launch
  /-- The last 256 confirmed delays, newest first (02 R47). -/
  delays : List Int
  missRun : Nat
  /-- The present run of missing edges has raised source 18 or 19 (02 R47). -/
  lostTold : Bool
  okRun : Nat
  nearRun : Nat
  /-- LAST_LAUNCH (15 Table 15-7). -/
  lastLaunch : Nat
  chirp : Option Chirp
  /-- T0 of each ply's last launch: its NCO's phase was 0 there (03 R68). -/
  plyT0 : KMap (Option Nat)
  /-- GATE of the last launch, GATE of the last proof pulse, TGATE, GLVL: opening and closing TS72 (02 R38, R39, R49). -/
  gateFrom : Nat
  gateTo : Nat
  proofFrom : Nat
  proofTo : Nat
  tgateFrom : Nat
  tgateTo : Nat
  glvlFrom : Nat
  glvlTo : Nat
  /-- DAC_SAT (02 Table 02-7). -/
  dacSat : Nat
  /-- A PORT_PROBE runs (01 R29). -/
  probing : Bool
  det : BreakDet
  /-- The four ADC channels XI, XQ, YI, YQ (03 R54). -/
  adc : KMap AdcChan
  /-- Slice factors by channel × 18 + slice. -/
  factors : KMap SliceFactors
  hybX : Hyb
  hybY : Hyb
  /-- The terms in force from which tick, X and Y, newest first (03 R65). -/
  hybPast : List (Nat × Hyb × Hyb)
  /-- The first tick of the estimator's block in progress; none: no sample since it started (03 R65). -/
  hybAt : Option Nat
  /-- Consecutive blocks without a clamp (03 R66). -/
  hybClean : Nat
  /-- SCLK count at which the one-second window in progress began (03 R62, R63, R70). -/
  secFrom : Nat
  /-- Clipped and all raw samples, saturated and all filter outputs, of that window (03 R62, R70). -/
  clipNow : Nat
  rawNow : Nat
  satNow : Nat
  outNow : Nat
  /-- Ticks and polarisations of clipped samples that a row may still span (03 R62). -/
  clips : List (Nat × Nat)
  /-- Raw codes of the four channels by tick, newest last: what the corrections and the slice monitor still need (03 R55, R57). -/
  codes : List (Nat × List Int)
  /-- Raw words after channel delay, newest last: tick and the four words (03 R61). -/
  tap : List (Nat × List Int)
  ph : PhaseEng
  spec : SpecAcc
  /-- Closed accumulators whose record is still to go out, oldest first (04 R96). -/
  specDone : List SpecRec
  raman : Raman
  /-- The slice step in progress (19 R397). -/
  calStep : Option CalStep
  /-- Steps that a CAL_RUN of ADC_SLICE has still to make (19 R398); 0: none runs in the background. -/
  calLeft : Nat
  /-- Steps of the present rotation made (19 R397, R396). -/
  calTurn : Nat
  /-- The foreground run in progress (19 R400). -/
  calFg : Option FgRun
  /-- A CAL_RUN changes to the foreground at new shot 0 (19 Table 19-2). -/
  calFgDue : Bool
  deriving DecidableEq, Repr

/-- A port after PORST_N. -/
def portBlank (p : Nat) : Port :=
  { st := .idle, stop := .none, drain := none, changing := false, nextPlan := [], startAt := 0, launched := false,
    firstLaunch := 0, shotNext := none, trigTick := none, shotStart := 0, shotOpen := false, shots := 0, planShots := 0,
    plyNext := 0, trigIn := false, holdIn := false, shotTrig := false, shotHold := false, proofIn := false, calIn := false, tgateDone := false,
    slotDone := false, lock := lockOff, lmonWait := [], rowsDue := [], delays := [], missRun := 0, lostTold := false, okRun := 0,
    nearRun := 0, lastLaunch := 0, chirp := none, plyT0 := [], gateFrom := 0, gateTo := 0, proofFrom := 0, proofTo := 0, tgateFrom := 0, tgateTo := 0,
    glvlFrom := 0, glvlTo := 0, dacSat := 0, probing := false, det := breakNone, adc := [], factors := [],
    hybX := hybNone, hybY := hybNone, hybPast := [], hybAt := none, hybClean := 0, secFrom := 0, clipNow := 0, rawNow := 0,
    satNow := 0, outNow := 0, clips := [], codes := [], tap := [], ph := phaseNone, spec := specAccNone, specDone := [], raman := ramanBlank p,
    calStep := none, calLeft := 0, calTurn := 0, calFg := none, calFgDue := false }

end Sys2Proof.Machine
end

