-- ==== Sys2Proof/Machine/StateZone.lean ====
section
/-! DEFINITION. Machine/StateZone.lean: the plain data of zones and their detectors (06, 07) and of skeins (07). -/

namespace Sys2Proof.Machine

/-- ZONE_STATE (06 Table 06-2). -/
inductive ZoneSt where
  | undefined
  | defined
  | enabled
  deriving DecidableEq, Repr

/-- One value of a row and its QUAL or TQUAL. -/
abbrev QVal : Type := Int × Nat

/-- One half-band stage, or the equaliser: inputs since the reset and the rows under its taps, newest first (06 R136). -/
structure Stage where
  n : Nat
  line : List (List QVal)
  deriving DecidableEq, Repr

/-- A row of a zone's output: label, values, QUAL (06 R141, R142). -/
structure ZRow where
  label : Nat
  vals : List QVal
  deriving DecidableEq, Repr

/-- What waits at a zone's input. -/
inductive ZIn where
  | phase (r : PhaseRow)
  | temp (r : TRow)
  deriving DecidableEq, Repr

/-- The frame in progress of a zone (06 R146). -/
structure ZFrame where
  rows : List (List Byte)
  bytes : Nat
  firstTs : Nat
  /-- OR of the QUAL bytes. -/
  flags : Nat
  /-- Index of the first row after warm-up. -/
  valid : Option Nat
  deriving DecidableEq, Repr

/-- No frame in progress. -/
def zframeNone : ZFrame := ⟨[], 0, 0, 0, none⟩

/-- A row that waits for a detector's decision: whether E may be formed, and the comparison in force (07 R153). -/
structure DetJob where
  row : ZRow
  /-- Output samples before it since the reset. -/
  idx : Nat
  /-- The row lies in the warm-up. -/
  warm : Bool
  level : Int
  hyst : Int
  fall : Bool
  deriving DecidableEq, Repr

/-- A change of a detector's state that no record has reported (07 R157). -/
structure DetChange where
  count : Nat
  firstTs : Nat
  lastTs : Nat
  energy : Int
  peak : Nat
  active : Bool
  deriving DecidableEq, Repr

/-- One band-energy detector (07 R150 to R157). -/
structure Det where
  active : Bool
  /-- It holds: no E at the latest sample (07 R153). -/
  hold : Bool
  /-- Output samples judged since the last synchronising reset, or since its core was replaced (07 R153, 09 R215). -/
  since : Nat
  /-- The last 63 rows, newest first. -/
  line : List (List QVal)
  /-- The last DET_WIN squared filter outputs by stitch, none where not usable, newest first (07 R152). -/
  win : List (List (Option Nat))
  /-- Rows of the zone that wait for a decision. -/
  queue : List DetJob
  /-- E and label of sample i − 1 (07 R154). -/
  prevE : Option Int
  prevLabel : Nat
  /-- DET_ENERGY. -/
  energy : Option Int
  /-- Changes not yet reported (07 R157). -/
  unsent : Option DetChange
  /-- SCLK count of its last SUMMARY record (07 R157). -/
  summaryAt : Option Nat
  deriving DecidableEq, Repr

/-- A detector at ZONE_DEFINE. -/
def detNone : Det := ⟨false, false, 0, [], [], [], none, 0, none, none, none⟩

/-- A zone (06). -/
structure Zone where
  st : ZoneSt
  /-- The accepted redefinition that waits for the switch sample: object IDs and values (06 R145). -/
  next : List (Nat × Int)
  pendingDef : Bool
  /-- A synchronising reset is due at the next input sample, or at the first at or after a tick (06 R143). -/
  resetDue : Bool
  syncAt : Option Nat
  /-- Input samples that wait; those of port B for a dual-ended zone. -/
  inq : List ZIn
  inqB : List PhaseRow
  /-- How many of the waiting samples are of the plan before the one in force, whose last closes the frame (06 R144). -/
  oldLeft : Option Nat
  stages : List Stage
  equaliser : Stage
  /-- P48 and the last PHI by stitch (06 R133). -/
  p48 : List (Int × Int)
  /-- Which stitches took their value from port B (06 R134). -/
  fromB : List Bool
  /-- μ by stitch (06 R140). -/
  mu : List (Option Int)
  frozen : Bool
  /-- What a ZONE_FREEZE_DC asked while a redefinition waits (06 R140; log 56). -/
  nextFrozen : Option Bool
  /-- Output samples since the reset. -/
  outIdx : Nat
  /-- SAMPLE_PERIOD in 1/256 tick (06 R142), and whether it waits for the first measured REF_PERIOD. -/
  period : Nat
  periodWaits : Bool
  frame : ZFrame
  /-- The latest output row. -/
  last : Option ZRow
  /-- Values saturated and formed in the second in progress (06 R141). -/
  satNow : Nat
  outNow : Nat
  /-- The port has stopped: the frame closes once its last sample has come (06 R144). -/
  stopping : Bool
  /-- A takeover keeps μ past the next end of warm-up (17 R369). -/
  keepMu : Bool
  /-- P48 and PHI by stitch that a takeover restores at the first row of shot 2 (17 R369); empty: none. -/
  restore : List (Int × Int)
  dets : List Det
  deriving DecidableEq, Repr

/-- A zone after PORST_N. -/
def zoneBlank (_ : Nat) : Zone :=
  { st := .undefined, next := [], pendingDef := false, resetDue := false, syncAt := none, inq := [], inqB := [], oldLeft := none, stages := [],
    equaliser := ⟨0, []⟩, p48 := [], fromB := [], mu := [], frozen := false, nextFrozen := none, outIdx := 0, period := 0, periodWaits := false,
    frame := zframeNone, last := none, satNow := 0, outNow := 0, stopping := false, keepMu := false, restore := [],
    dets := [detNone, detNone, detNone, detNone] }

/-- SKEIN_STATE (07 Table 07-6). -/
inductive SkeinSt where
  | undefined
  | idle
  | armed
  | capturing
  | rearm
  | held
  deriving DecidableEq, Repr

/-- A finished hank: the header fields that CAP_READ needs and its bytes (07 R172, R173). -/
structure Hank where
  seq : Nat
  trigTs : Nat
  flags : Nat
  bytes : List Byte
  deriving DecidableEq, Repr

/-- A condition: its TS72 time, its bits of the cause mask, and the tick that registered it (07 R158, R169). -/
structure Cond where
  ts : Nat
  mask : Nat
  at_ : Nat
  deriving DecidableEq, Repr

/-- A capture in progress (07 R167, R168). -/
structure Capture where
  /-- Conditions that came, oldest first. -/
  conds : List Cond
  /-- The tick from which the ring held data when the capture opened (07 R167). -/
  heldFrom : Nat
  /-- The TRIGOUT pulse in progress before this capture's (07 R169, R170). -/
  pulse : Option (Nat × Nat)
  deriving DecidableEq, Repr

/-- What falls in a skein's windows: a plan change or a declared break of its port, a hole in its ring, the start of a drain for a new
plan (07 R165, R171; 13 R290). -/
inductive MarkKind where
  | plan
  | dead
  | hole
  | drain
  deriving DecidableEq, Repr

/-- A row in a zone skein's ring: label, body, OR of its QUAL. -/
structure RingRow where
  label : Nat
  body : List Byte
  qual : Nat
  deriving DecidableEq, Repr

/-- A skein (07 R158 to R173). -/
structure Skein where
  st : SkeinSt
  /-- Zone rows in the look-back ring and after it, oldest first. -/
  rows : List RingRow
  /-- Launches since the ring started, oldest first, with the first tick and the length W of each one's segment (raw
  skeins). -/
  launches : List (Launch × Nat × Nat)
  /-- What happened while its rings ran, by TS72 time (07 R171). -/
  marks : List (Nat × MarkKind)
  /-- SCLK count and tick at which the rings started. -/
  armedAt : Nat
  armedTick : Nat
  cap : Option Capture
  /-- When the re-arm ends, SCLK count. -/
  rearmAt : Nat
  hanks : List Hank
  seqNext : Nat
  missed : Nat
  /-- The 64 most recent missed conditions with their reasons (07 R169). -/
  missedList : List (Cond × Nat)
  incapLost : Nat
  /-- A CAP_FORCE that waits for its AT (07 R158). -/
  forceAt : Option Nat
  /-- The read in progress: HANK_SEQ, frames, bytes (07 R173). -/
  reading : Option (Nat × Nat × Nat)
  /-- The port was stopped or the zone left ENABLED during the capture (07 R171). -/
  truncated : Bool
  /-- Bytes were lost at the capture writer during the capture (07 R165). -/
  gap : Bool
  /-- The launch edges or labels of units lost to the ring, and at the capture writer (07 R165; 13 R290). -/
  holes : List Nat
  lost : List Nat
  deriving DecidableEq, Repr

/-- A skein after PORST_N. -/
def skeinBlank (_ : Nat) : Skein :=
  ⟨.undefined, [], [], [], 0, 0, none, 0, [], 0, 0, [], 0, none, none, false, false, [], []⟩

/-- Zones, event stream, skeins (06, 07). -/
structure Capturing where
  zones : KMap Zone
  skeins : KMap Skein
  /-- SCLK count at which the second of the saturation counts began (06 R141). -/
  secFrom : Nat
  /-- The open event frame: records, first TS, SCLK count of the first (07 R156). -/
  evRecs : List (List Byte)
  evFirst : Nat
  evSince : Nat
  /-- TRIGOUT0 and TRIGOUT1: TS72 of the rise and fall of the present pulse (07 R170). -/
  trigOut : List (Option (Nat × Nat))
  deriving DecidableEq, Repr

/-- Nothing captured, nothing to report. -/
def capturingBlank : Capturing := ⟨[], [], 0, [], 0, 0, [none, none]⟩

end Sys2Proof.Machine
end

