-- ==== Sys2Proof/Machine/StatePair.lean ====
section
/-! DEFINITION. Machine/StatePair.lean: the plain data of the Purl Link (16) and of a pair (17). -/

namespace Sys2Proof.Machine

/-- States of the Purl Link (16 Table 16-3); IDLE is ACTIVE with the transmitter in electrical idle (16 R350). -/
inductive LinkSt where
  | disabled
  | detect
  | train
  | lock
  | align
  | caps
  | active
  | blocked
  deriving DecidableEq, Repr

/-- A receive lane of the Purl Link (16 R342, R345, R352). -/
structure RxLane where
  /-- Bit k: CTLE step k passed (16 R345). -/
  passed : Nat
  /-- The settled CTLE step. -/
  ctle : Nat
  /-- Logical number, marker count and arrival (TS72) of the last marker, and markers seen in order (16 R342). -/
  logical : Nat
  count : Nat
  at_ : Nat
  seen : Nat
  inverted : Bool
  /-- The stream restarted after an idle: the next marker's place is not checked (16 R350). -/
  resync : Bool
  /-- Present run of consecutive invalid headers (16 Table 16-5). -/
  run : Nat
  /-- SCLK counts of the invalid headers of the last 1 ms (16 Table 16-5). -/
  errs : List Nat
  /-- The descrambler, 31 bits (16 R340). -/
  lfsr : Nat
  deriving DecidableEq, Repr

/-- A lane that has received nothing. -/
def rxLaneBlank (_ : Nat) : RxLane := ⟨0, 0, 0, 0, 0, 0, false, false, 0, [], 0⟩

/-- A block as it leaves a lane's serialiser: the 4-bit header and the 32 payload bytes, scrambled where R340 says so
(16 R339, R340). -/
structure Block where
  lane : Nat
  header : Nat
  payload : List Byte
  deriving DecidableEq, Repr

/-- What CKPT_HEAD says of a port (17 R361). -/
structure CkptPort where
  running : Bool
  mode : Nat
  shot : Nat
  ply : Nat
  sampleTs : Nat
  refTs : Nat
  refPeriod : Nat
  digest : Nat
  deriving DecidableEq, Repr

/-- The fields of a fast record (17 Table 17-5). -/
structure FastRec where
  phi : Nat
  rate : Int
  swing : Nat
  anchor : Nat
  dead : Bool
  settling : Bool
  usable : Bool
  deriving DecidableEq, Repr

/-- A slow phase record: ψ, θ'_last, then β̂_j, c_j, M_j by ply (17 R363). -/
structure SlowRec where
  psi : Int
  last : Option Int
  plies : List PlyAlign
  deriving DecidableEq, Repr

/-- The state of a zone in a checkpoint (17 R361): inputs of each stage and output samples since the last synchronising
reset, WARMUP_LEFT, DC_FROZEN. -/
structure ZoneRec where
  zone : Nat
  phase : List Nat
  outIdx : Nat
  warmupLeft : Nat
  frozen : Bool
  deriving DecidableEq, Repr

/-- A zone-stitch record: μ, and the high 16 bits of P48 (17 R361). -/
structure ZStitchRec where
  zone : Nat
  pos : Nat
  mu : Option Int
  p48hi : Int
  deriving DecidableEq, Repr

/-- A checkpoint packet by what it carries (17 Table 17-4); the handshake packets carry nothing. -/
inductive CkptBody where
  | head (seq rot cutTs : Nat) (ports : List CkptPort)
  | fast (port : Nat) (bytes : List Byte)
  | slow (port : Nat) (recs : List (Nat × SlowRec))
  | fusion (port : Nat) (recs : List (Nat × Fuse))
  | zone (zones : List ZoneRec) (stitches : List ZStitchRec)
  | tail (count : Nat)
  | swapPrepare
  | swapReady
  deriving DecidableEq, Repr

/-- A checkpoint packet: its SEQ (16 Table 16-4) and its content. -/
structure CkptPacket where
  seq : Nat
  body : CkptBody
  deriving DecidableEq, Repr

/-- What a unit has accepted of the peer's CAPS, as sent (16 R346). -/
abbrev CapsBytes : Type := List Byte

/-- The Purl Link (16). -/
structure Purl where
  /-- State of Table 16-3 (reset DISABLED). -/
  st : LinkSt
  /-- Entry into the state, SCLK count. -/
  since : Nat
  /-- When DETECT drives its next common-mode step, SCLK count, and steps driven since PORST_N (16 R343). -/
  stepAt : Nat
  steps : Nat
  /-- PL_TX_SWING, PL_TX_DEEMPH, PL_CTLE_FIX, PL_LANES_MIN in force: those of the last entry into TRAIN (16 R351). -/
  swing : Nat
  deemph : Nat
  ctleFix : Nat
  lanesMin : Nat
  /-- The CTLE step whose result comes next (16 R345). -/
  ctleStep : Nat
  /-- The four physical receive lanes. -/
  rx : KMap RxLane
  /-- The usable set of physical lanes (16 R345). -/
  lanes : List Nat
  /-- The chosen logical lanes (16 R347); none outside ACTIVE and BLOCKED. -/
  chosen : List Nat
  /-- Consecutive failed attempts that ended in CAPS (16 R347). -/
  capsFails : Nat
  /-- SCLK count at which the block stream started, stitch markers sent in it, and the block index after the last packet
  (16 R342, R348). -/
  streamAt : Nat
  markers : Nat
  nextBlock : Nat
  /-- The scramblers of the four lanes, 31 bits each, as the last marker loaded them (16 R340). -/
  lfsr : List Nat
  /-- The blocks that the last packet or marker put on the lanes, in order (16 R339, R348). -/
  wire : List Block
  /-- A valid CAPS has come from the peer in this attempt (16 R346 PEER_SEEN). -/
  peerSeen : Bool
  /-- The CAPS accepted (16 R347). -/
  caps : CapsBytes
  /-- When the next CAPS goes out, SCLK count, and the rounds left after entering ACTIVE (16 R347). -/
  capsAt : Nat
  capsLeft : Nat
  /-- SEQ of the next packet sent (16 Table 16-4, 32 bits). -/
  seq : Nat
  /-- When the next STATUS goes out, SCLK count (16 R349). -/
  statusAt : Nat
  /-- TX_TS and arrival of the last STATUS received, TS72 values (16 R349). -/
  echo : Option (Nat × Nat)
  /-- SCLK count of the last valid STATUS, or of the entry into ACTIVE (16 R352). -/
  heardAt : Nat
  /-- Idle mode, and the transmitter in electrical idle (16 R350). -/
  idleMode : Bool
  txIdle : Bool
  /-- The peer's transmitter is idle (16 R350). -/
  peerIdle : Bool
  /-- SCLK counts of this unit's last wake and of its last packet other than STATUS (16 R350). -/
  wokeAt : Nat
  lastPacket : Nat
  /-- Packets that wait for a wake (16 R350). -/
  waiting : List CkptPacket
  /-- The checkpoint and handshake packets sent by the last command that sent any (17 R361, R373). -/
  sent : List CkptPacket
  /-- When a DEFERRED retrain times out, SCLK count (16 R351). -/
  retrainAt : Option Nat
  /-- SCLK count of the last CAPS rejected (16 Table 16-6). -/
  rejectAt : Option Nat
  deriving DecidableEq, Repr

/-- The Purl Link after PORST_N. -/
def purlBlank : Purl :=
  { st := .disabled, since := 0, stepAt := 0, steps := 0, swing := 800, deemph := 6, ctleFix := 0xFF, lanesMin := 2,
    ctleStep := 0, rx := [], lanes := [], chosen := [], capsFails := 0, streamAt := 0, markers := 0,
    nextBlock := 0, lfsr := [0, 0, 0, 0], wire := [], peerSeen := false, caps := [], capsAt := 0, capsLeft := 0, seq := 0,
    statusAt := 0, echo := none, heardAt := 0, idleMode := false, txIdle := false, peerIdle := false, wokeAt := 0,
    lastPacket := 0, waiting := [], sent := [], retrainAt := none, rejectAt := none }

/-- Roles of a unit (17 Table 17-2). -/
inductive Role where
  | unpaired
  | standby
  | active
  | claiming
  | releasing
  | faulted
  deriving DecidableEq, Repr

/-- What the last STATUS of the peer said (16 R349): ROLE, HEALTH, EPOCH, HOLD, and its SCLK count. -/
structure PeerStatus where
  role : Nat
  health : Nat
  epoch : Nat
  hold : Bool
  clk : Nat
  deriving DecidableEq, Repr

/-- A complete checkpoint (17 R362): SEQ and CUT_TS of its head, its ports, fast records by port, zones; times are on this
unit's timebase. -/
structure Ckpt where
  cutTs : Nat
  ports : List CkptPort
  fast : List (Nat × List FastRec)
  zones : List ZoneRec
  deriving DecidableEq, Repr

/-- A checkpoint on its way in (17 R362): the packets since its CKPT_HEAD, and the SEQ the next must have. -/
structure CkptIn where
  packets : List CkptPacket
  nextSeq : Nat
  broken : Bool
  deriving DecidableEq, Repr

/-- Sums of the quality test for a port (17 R370): rows delivered, LMON_MISSING, DEGRADED, stitch-samples seen and flagged,
sum and count of AMP² over the swatch window. -/
structure QTest where
  rows : Nat
  missing : Bool
  degraded : Bool
  seen : Nat
  flagged : Nat
  power : Nat
  count : Nat
  deriving DecidableEq, Repr

/-- No row delivered. -/
def qtestBlank (_ : Nat) : QTest := ⟨0, false, false, 0, 0, 0, 0⟩

/-- A pair (17). -/
structure Pair where
  /-- PAIR_ROLE (17 Table 17-2; reset UNPAIRED). -/
  role : Role
  /-- Entry into the role, SCLK count. -/
  roleAt : Nat
  /-- ACT_OUT toggles at 1.25 MHz (17 R356; reset low). -/
  wave : Bool
  /-- The pair watchdog has lapsed or a WAVE_STOP snag acts (17 R356; 18 Table 18-5). -/
  lapsed : Bool
  /-- SCLK count of the last accepted edge of PEER_ACT_IN (17 R356). -/
  peerEdge : Option Nat
  /-- The last STATUS received (16 R349). -/
  peer : Option PeerStatus
  /-- EPOCH last received from the peer in CAPS or STATUS (17 R358). -/
  peerEpoch : Nat
  /-- SCLK counts of the last STATUS with ROLE ACTIVE, and with ROLE ACTIVE, CLAIMING or RELEASING (17 R360, R366). -/
  activeAt : Option Nat
  fibreAt : Option Nat
  /-- Since when STATUS has shown ROLE ACTIVE while the wave was absent (17 R366). -/
  wiringSince : Option Nat
  /-- HOLD = 1 is sent (16 R353). -/
  holdSent : Bool
  /-- Checkpoints cut: SEQ and ROT of the next, and the timebase value of its cut (17 R361). -/
  ckptSeq : Nat
  rot : Nat
  cutAt : Nat
  /-- The final checkpoint of a release has been cut (17 R373). -/
  finalCut : Bool
  /-- Recent Φ of every gauge by port, newest first: t_L and the row (17 Table 17-5 RATE, SWING). -/
  recent : KMap (List (Nat × List Nat))
  /-- LAST_CHECKPOINT: cut time of the last checkpoint sent or completed (15 PAIR_STATUS). -/
  lastCkpt : Nat
  /-- The checkpoint coming in (17 R362). -/
  incoming : Option CkptIn
  /-- The latest complete one, and when it came, SCLK count (17 R362). -/
  ckpt : Option Ckpt
  ckptClk : Nat
  /-- The latest slow, fusion and zone-stitch records by port or zone × 2^20 + stitch (17 R362, R363). -/
  slow : KMap (Option SlowRec)
  fusion : KMap (Option Fuse)
  zstitch : KMap (Option ZStitchRec)
  /-- The claim in progress: SCLK count, ports started (17 R367). -/
  claimAt : Nat
  started : List Nat
  /-- Ports whose gauges still re-anchor at the last sample of shot 1 (17 R368). -/
  adopting : List Nat
  /-- The quality test's sums by port (17 R370). -/
  qtest : KMap QTest
  /-- LAST_GAP is still to be measured; from this SCLK count (17 R371, Table 17-8). -/
  gapFrom : Option Nat
  /-- This unit releases the fibre in a planned swap, and waits for the peer's claim afterwards (17 Table 17-6). -/
  release : Bool
  /-- A swap this unit takes part in, with its deadline, SCLK count (17 R373). -/
  swapEnd : Option Nat
  /-- A FAULT_CLEAR has completed since the unit became FAULTED (17 R357). -/
  faultCleared : Bool
  deriving DecidableEq, Repr

/-- A pair after PORST_N. -/
def pairBlank : Pair :=
  { role := .unpaired, roleAt := 0, wave := false, lapsed := false, peerEdge := none, peer := none, peerEpoch := 0,
    activeAt := none, fibreAt := none, wiringSince := none, holdSent := false, ckptSeq := 0, rot := 0, cutAt := 0,
    finalCut := false, recent := [], lastCkpt := 0, incoming := none, ckpt := none, ckptClk := 0, slow := [], fusion := [],
    zstitch := [], claimAt := 0, started := [], adopting := [], qtest := [], gapFrom := none, release := false, swapEnd := none,
    faultCleared := false }

/-- No record (17 R363). -/
def noRec {α : Type} (_ : Nat) : Option α := none

end Sys2Proof.Machine
end

