-- ==== Sys2Proof/Syntax.lean ====
section
/-! DEFINITION. Syntax.lean: the commands of the GX-6420, one constructor for each row of the table of operations and
events, and the data they carry (mailbox payloads of 15 Tables 15-7 to 15-12, measured values of the events). -/

namespace Sys2Proof

/-- What the request header of a mailbox command carries besides its opcode: the slot, TAG and NO_IRQ (15 Table 15-1). -/
structure Req where
  slot : Nat
  tag : Nat
  noIrq : Bool
  deriving DecidableEq, Repr

/-- The 64 bytes of a descriptor of an H2C ring, and the bytes that host memory holds at its SRC_ADDR (10 Table 10-1; 14 Table 14-8); with
STAGED the bytes come from the staging area instead. -/
structure Bulk where
  desc : List Byte
  data : List Byte
  deriving DecidableEq, Repr

/-- What a rail monitor reads: a supply of 20 Table 20-3, by its place in the table, and its level in µV. -/
structure RailReading where
  rail : Nat
  uv : Int
  deriving DecidableEq, Repr

/-- Codes of the slices of a port's converters for consecutive ticks, from a tick on. -/
structure CodeRun where
  start : Nat
  codes : List (List Int)
  deriving DecidableEq, Repr

/-- Data that a write buffer dropped: the skein or port whose they were, and the launch edges or labels of the segments or rows. -/
structure DroppedUnits where
  which : Nat
  units : List Nat
  deriving DecidableEq, Repr

/-- A row of an on-chip array (19 R403). -/
structure SramRow where
  array : Nat
  row : Nat
  deriving DecidableEq, Repr

/-- What a register write names: a BAR0 offset (14 Table 14-2), or MSI-X Enable of configuration space (14 R296). -/
inductive RegTarget where
  | bar0 (offset : Nat)
  | msixEnable
  deriving DecidableEq, Repr

/-- The requests of 14 Table 14-9, R300 and 15 Table 15-6 that break the rules. -/
inductive BadRequest where
  | malformedTlp
  | ecrcError
  | receiverOverflow
  | unsupported
  | vendorType1
  | poisonedWrite
  | bar0Read
  | bar0Write
  | responseHalfWrite
  | requestHalfWrite
  deriving DecidableEq, Repr

/-- The endpoint resets of 14 R313. -/
inductive EndpointReset where
  | flr
  | hotReset
  | dlDown
  | perstN
  deriving DecidableEq, Repr

/-- What is read at the NVM load of cast-on (19 R405, R406; 20 Table 20-5). -/
structure NvmLoad where
  regionFOk : Bool
  regionROk : Bool
  bank0Ok : Bool
  bank1Ok : Bool
  serial : List Byte
  subsystem : Nat
  /-- Failing rows of the control-processor, NVM and host-link arrays: array, rows. -/
  march : List (Nat × Nat)
  /-- The images that slots A and B hold as shipped: read where no FW_STAGE has written the slot. -/
  shippedA : List Byte
  shippedB : List Byte
  deriving DecidableEq, Repr


/-- A request for 64 bytes of the DRAM: its memory port P0 to P7 and its byte address (13 R279, R286). -/
structure DramReq where
  port : Nat
  addr : Nat
  deriving DecidableEq, Repr


/-! ### Instructions of the Needle cores, decoded (09 R200, Table 09-6; the spec gives classes and fields, no OP values) -/

/-- A flag that a conditional branch tests (09 Table 09-3). -/
inductive StFlag where
  | z
  | n
  | c
  | v
  deriving DecidableEq, Repr

/-- Control class: b, bc, call, ret, nop, halt. -/
inductive CtlOp where
  | b (target : Nat)
  | bc (flag : StFlag) (sense : Bool) (target : Nat)
  | call (target : Nat)
  | ret
  | nop
  | halt
  deriving DecidableEq, Repr

/-- The count of REP (immediate) or REPR (Gx[15:0]). -/
inductive RepCount where
  | imm (n : Nat)
  | reg (g : Nat)
  deriving DecidableEq, Repr

/-- What the TRAP command stands for: the TRAP instruction, or an instruction that is ILLEGAL (09 R202). -/
inductive TrapOp where
  | trap
  | illegal
  deriving DecidableEq, Repr

/-- Operations of the scalar classes (09 Table 09-6). -/
inductive ScalarOp where
  | add
  | sub
  | and
  | or
  | xor
  | shl
  | shr
  | sar
  | min
  | max
  | cmp
  | mul
  | mov
  deriving DecidableEq, Repr

/-- A second source: a G register, or an immediate, of 32 bits in the 64-bit form. -/
inductive ScalarSrc where
  | reg (g : Nat)
  | imm (v : Int)
  | long (v : Int)
  deriving DecidableEq, Repr

/-- The registers beside G and AC (09 Table 09-2). -/
inductive RegFile where
  | a
  | o
  | mb
  | ml
  | lc
  | st
  deriving DecidableEq, Repr

/-- A scalar register or immediate instruction, ADDA, or a move to or from a register beside G and AC. -/
inductive ScalarInstr where
  | alu (op : ScalarOp) (dst src1 : Nat) (src2 : ScalarSrc)
  | adda (an : Nat) (inc : ScalarSrc)
  | toReg (file : RegFile) (n : Nat) (src : ScalarSrc)
  | fromReg (dst : Nat) (file : RegFile) (n : Nat)
  deriving DecidableEq, Repr

/-- The four addressing modes (09 R196): plain, post-modify by On, post-modify by an immediate in access units,
pre-offset in bytes. -/
inductive AddrMode where
  | plain
  | postO
  | postImm (units : Int)
  | pre (bytes : Int)
  deriving DecidableEq, Repr

/-- A memory operand. -/
structure MemRef where
  an : Nat
  mode : AddrMode
  deriving DecidableEq, Repr

/-- A load or store of `size` bytes: 1, 2, 4, 8 scalar, 16 vector. -/
structure MemInstr where
  store : Bool
  size : Nat
  g : Nat
  ref : MemRef
  deriving DecidableEq, Repr

/-- Lane-wise operations of the vector ALU with two vector sources. -/
inductive VecOp where
  | vadd
  | vsub
  | vmin
  | vmax
  | vabs
  | vshl
  | vshr
  deriving DecidableEq, Repr

/-- A vector ALU instruction: `sat` is the S modifier, `count` the shift of vshl and vshr, `sel` the source lane of each
lane of vperm. -/
inductive VecInstr where
  | lane (op : VecOp) (sat : Bool) (dst src1 src2 count : Nat)
  | vperm (dst src : Nat) (sel : List Nat)
  | vbcastImm (dst : Nat) (v : Int)
  | vbcastLane (dst src lane : Nat)
  deriving DecidableEq, Repr

/-- The MAC operations. -/
inductive MacOp where
  | vmul
  | vmac
  | vmsu
  | vsqac
  | cmul
  | cmac
  | cmacj
  deriving DecidableEq, Repr

/-- A MAC, and in the 64-bit form a vector load on each data bus: G register and operand. -/
structure MacInstr where
  op : MacOp
  src1 : Nat
  src2 : Nat
  loads : Option ((Nat × MemRef) × (Nat × MemRef))
  deriving DecidableEq, Repr

/-- Accumulator instructions; `aext` writes a lane of 16 bits, or of 32 where `wide`; `ashift` shifts left for a positive
count. -/
inductive AccInstr where
  | aclr
  | aext (dst lane ac shift : Nat) (wide : Bool)
  | ashift (ac : Nat) (count : Int)
  | amov (dst src : Nat)
  deriving DecidableEq, Repr

/-- Conversions of FCVT. -/
inductive CvtOp where
  | intToF32
  | intToF64
  | f32ToInt
  | f64ToInt
  | f32ToF64
  | f64ToF32
  deriving DecidableEq, Repr

/-- Arithmetic of the float classes. -/
inductive FloatOp where
  | fadd
  | fmul
  | fmadd
  deriving DecidableEq, Repr

/-- A floating-point instruction; `src3` is the addend of fmadd. -/
inductive FloatInstr where
  | scalar (op : FloatOp) (double : Bool) (dst src1 src2 src3 : Nat)
  | vector (op : FloatOp) (dst src1 src2 src3 : Nat)
  | fcvt (op : CvtOp) (dst src : Nat)
  | fcmp (double : Bool) (src1 src2 : Nat)
  deriving DecidableEq, Repr

/-- SQRT, RCP, LOG2, EXP2 of a register, or CORDIC of y and x. -/
inductive SpecialInstr where
  | sqrt (double : Bool) (dst src : Nat)
  | rcp (double : Bool) (dst src : Nat)
  | log2 (double : Bool) (dst src : Nat)
  | exp2 (double : Bool) (dst src : Nat)
  | cordic (dst y x : Nat)
  deriving DecidableEq, Repr

/-- A control-fabric register (09 R203): the set value of a loop output, the setpoint of a source-drive channel, or one
that the spec does not name. -/
inductive FabricReg where
  | loop (n : Nat)
  | source (ch : Nat)
  | other (n : Nat)
  deriving DecidableEq, Repr

/-- What a measurement of an ADC slice against its references gives (19 R397, R399): the factors found, and the
residual error after correction in 1/1,024 code rms. -/
structure SliceResult where
  ofs : Int
  gain : Int
  skew : Int
  residual : Nat
  deriving DecidableEq, Repr

/-- One constructor for each row of spec/opcode_table.json. -/
inductive Instr where
  /-- SYS_IDENT (R332): Returns device identity, firmware versions, slot, unit ID, epoch, rollback counter and serial. -/
  | sysIdent (r : Req)
  /-- SYS_STATUS (R332): Returns boot state, fault and calibration summaries, port states, zone and skein masks, die temperature, time and busy slots. -/
  | sysStatus (r : Req)
  /-- SYS_RESET (R418): Aborts deferred commands, stops launches and reruns cast-on from NVM load while the timebase and endpoint stay up. -/
  | sysReset (r : Req) (confirm : Nat)
  /-- SYS_BIND_OFF (R431): Starts the orderly shutdown: hand-over, port stops, loop release and source ramp-down. -/
  | sysBindOff (r : Req)
  /-- PARAM_GET (R327): Returns applied or staged values of the listed items, sampled at one instant, with the staged mask. -/
  | paramGet (r : Req) (source : Nat) (ids : List Nat)
  /-- PARAM_SET (R326): Checks the pairs and writes all of them or none into the staged set, either from the slot or from a bulk descriptor. -/
  | paramSet (r : Req) (pairs : List (Nat × Int)) (bulk : Option Bulk)
  /-- PARAM_COMMIT (R328): Applies, all or none, the staged items of a domain and instance that commit through PARAM_COMMIT, or discards them when ACTION = 1. -/
  | paramCommit (r : Req) (dom ins action : Nat)
  /-- PARAM_LIST (R329): Returns up to 11 item descriptors of a domain and instance, from START_ITEM upward. -/
  | paramList (r : Req) (dom ins start : Nat)
  /-- PORT_ARM (R45): Moves an IDLE port with LENGTH non-zero to ARMED, with ply 0 primed and the LMON TDC channel reserved. -/
  | portArm (r : Req) (port : Nat)
  /-- PORT_START (R40): Moves an ARMED port to RUNNING, with the first shot at the start time AT or as soon as possible. -/
  | portStart (r : Req) (port startAt : Nat)
  /-- PORT_STOP (R447): Stops a port at the end of the shot in progress, or cancels a start that has not yet launched. -/
  | portStop (r : Req) (port : Nat)
  /-- PORT_APPLY (R24): Checks the staged port plan and applies it, at once when the port is not running and through a drain when it is. -/
  | portApply (r : Req) (port : Nat)
  /-- PORT_STATUS (R45): Returns the port's state, lock, break and gate-diagnostic status and its counters. -/
  | portStatus (r : Req) (port : Nat)
  /-- PORT_PROBE (R29): Starts a 256-shot probe of the fibre end on a port that is neither armed nor running. -/
  | portProbe (r : Req) (port : Nat)
  /-- PORT_PROBE_DONE (R29): The probe ends and the PORT_PROBE response carries END_TICKS, END_KIND, HEAD_LEVEL and ATTEN. -/
  | portProbeDone (port : Nat) (profile : List Nat) (floor : Nat)
  /-- ZONE_DEFINE (R145): Checks and applies a zone definition: a new definition, a release, or a redefinition of an ENABLED zone at the switch sample. -/
  | zoneDefine (r : Req) (zone : Nat)
  /-- ZONE_ENABLE (R131): Enables a DEFINED zone, with a synchronising reset at the next input sample. -/
  | zoneEnable (r : Req) (zone : Nat)
  /-- ZONE_DISABLE (R131): Closes the frame in progress and returns the zone to DEFINED. -/
  | zoneDisable (r : Req) (zone : Nat)
  /-- ZONE_SYNC (R143): Schedules a synchronising reset of a set of zones at the first input sample with t_L at or after AT. -/
  | zoneSync (r : Req) (mask syncAt : Nat)
  /-- ZONE_FREEZE_DC (R140): Freezes or releases the DC estimate of a zone from the next output sample. -/
  | zoneFreezeDc (r : Req) (zone freeze : Nat)
  /-- ZONE_STATUS (R131): Returns the RO items of a zone. -/
  | zoneStatus (r : Req) (zone : Nat)
  /-- CAP_SKEIN_CREATE (R162): Checks a skein definition and allocates its rings and hank buffers, or releases the skein. -/
  | capSkeinCreate (r : Req) (skein : Nat)
  /-- CAP_ARM (R164): Checks the skein's resources and moves it to ARMED with empty rings. -/
  | capArm (r : Req) (skein : Nat)
  /-- CAP_DISARM (R166): Stops the rings and returns the skein to IDLE, closing a hank in progress with TRUNCATED. -/
  | capDisarm (r : Req) (skein : Nat)
  /-- CAP_FORCE (R158): Presents a software condition to a skein, at once or at the start time AT. -/
  | capForce (r : Req) (skein forceAt : Nat)
  /-- CAP_FORCE_AT_REACHED (R158): The timebase reaches the AT of a pending CAP_FORCE and the software condition is presented. -/
  | capForceAtReached (skein : Nat)
  /-- CAP_READ (R173): Queues a held hank, or the missed list, as frames on C2H ring 129. -/
  | capRead (r : Req) (skein select : Nat)
  /-- CAP_RELEASE (R173): Frees a held hank buffer. -/
  | capRelease (r : Req) (skein hank : Nat)
  /-- TIME_SET (R185): Sets the timebase at once, or arms a step that is applied at the next PPS_IN edge. -/
  | timeSet (r : Req) (v mode : Nat)
  /-- TIME_SET_TIMEOUT (R185): No PPS_IN edge is accepted within 2.0 s and a pending mode-1 TIME_SET completes with TIMEOUT. -/
  | timeSetTimeout
  /-- TIME_GET (R332): Returns the present time and the PPS state and offset. -/
  | timeGet (r : Req)
  /-- TIME_PPS_CFG (R328): Applies the staged timebase items of domain 0x06 instance 0, allocating the PPS tuning channel. -/
  | timePpsCfg (r : Req)
  /-- TIME_TDC_CONFIG (R190): Applies the staged items of the named TDC channels and allocates their inputs. -/
  | timeTdcConfig (r : Req) (mask : Nat)
  /-- FE_CHART_LOAD (R247): Checks and writes up to 14 chart entries. -/
  | feChartLoad (r : Req) (first count : Nat) (entries : List (List Byte))
  /-- FE_CHART_RUN (R247): Starts the chart at entry 0, or stops it after the entry in progress. -/
  | feChartRun (r : Req) (run : Nat)
  /-- FE_INJECT (R252): Queues an injected conversion that runs after the entry in progress. -/
  | feInject (r : Req) (tag : Nat) (entry : List Byte)
  /-- FE_LOOP_CFG (R259): Applies a loop's items and allocates its timer, or starts the release of the loop. -/
  | feLoopCfg (r : Req) (loop : Nat)
  /-- SRC_CONFIG (R269): Applies the staged items of a source-drive channel or of a port's gate items, with allocation checks. -/
  | srcConfig (r : Req) (ins : Nat)
  /-- SRC_ENABLE (R268): Turns a channel ON, or reverses a ramp-down, or restarts a TRIPPED channel that has cooled. -/
  | srcEnable (r : Req) (ch : Nat)
  /-- SRC_DISABLE (R268): Ramps an ON channel to SD_SAFE and then turns it OFF. -/
  | srcDisable (r : Req) (ch : Nat)
  /-- SRC_COMP_TABLE (R270): Loads a compensation table of 2 to 16 points rising strictly in T. -/
  | srcCompTable (r : Req) (table : Nat) (bytes : List Byte)
  /-- CAL_RUN (R395): Starts a run of a calibration domain on an instance. -/
  | calRun (r : Req) (dom ins : Nat)
  /-- CAL_STATUS (R396): Returns the state, count, last time and last status of a domain and instance. -/
  | calStatus (r : Req) (dom ins : Nat)
  /-- CAL_ABORT (R401): Ends a run of the named domain and instance within 2 µs, and the CAL_RUN completes ABORTED. -/
  | calAbort (r : Req) (dom ins : Nat)
  /-- NVM_STORE (R407): Writes the named domain's non-reset RW values, or the repair map, into the inactive NVM bank. -/
  | nvmStore (r : Req) (dom : Nat)
  /-- NVM_STORE_DONE (R407): The bank write finishes and the new bank becomes active, or the write fails with TIMEOUT. -/
  | nvmStoreDone (written : Bool)
  /-- NVM_RESTORE (R408): Checks a region U image and places its values in the staged set. -/
  | nvmRestore (r : Req) (dom : Nat) (bulk : Option Bulk)
  /-- NVM_ERASE_USER (R409): Erases both banks of region U. -/
  | nvmEraseUser (r : Req) (confirm : Nat)
  /-- PAIR_CONFIG (R351): Applies the staged pair and Purl Link items of domain 0x0B. -/
  | pairConfig (r : Req)
  /-- PAIR_STATUS (R332): Returns role, peer state, link state, epoch and the time of the last checkpoint. -/
  | pairStatus (r : Req)
  /-- PAIR_SWAP (R373): Starts a planned hand-over of the fibre from the active unit to a ready standby. -/
  | pairSwap (r : Req)
  /-- PAIR_LINK (R351): Disables the Purl Link, retrains it, or sets idle mode. -/
  | pairLink (r : Req) (action : Nat)
  /-- FW_STAGE (R424): Writes the next firmware image from H2C ring 0 into a slot that is not in use. -/
  | fwStage (r : Req) (slot : Nat) (desc : Bulk)
  /-- FW_VERIFY (R425): Reads a slot back and checks digest, signature, rollback level and MIN_DEV_REV. -/
  | fwVerify (r : Req) (slot : Nat)
  /-- FW_ACTIVATE (R426): Starts the live activation of a verified firmware slot. -/
  | fwActivate (r : Req) (slot : Nat)
  /-- FW_KRN_LOAD (R209): Checks a kernel image from H2C ring 1 and places it on a slot's core or on a spare core. -/
  | fwKrnLoad (r : Req) (slot : Nat) (desc : Bulk)
  /-- FW_KRN_START (R213): Starts a LOADED kernel, restarts a TRAPPED one, or swaps a SHADOW image into service. -/
  | fwKrnStart (r : Req) (slot : Nat)
  /-- FW_KRN_STOP (R213): Stops a running kernel at a row boundary, or releases a loaded or trapped slot. -/
  | fwKrnStop (r : Req) (slot : Nat)
  /-- FAULT_READ (R334): Returns the sticky, live and severity byte of a range of fault sources. -/
  | faultRead (r : Req) (first count : Nat)
  /-- FAULT_CLEAR (R334): Clears the sticky bits of named sources that are no longer live and reports those still set. -/
  | faultClear (r : Req) (mask : Nat)
  /-- FAULT_SEVERITY (R377): Sets a source's severity for later raises and writes a SEVERITY entry. -/
  | faultSeverity (r : Req) (src sev : Nat)
  /-- FAULT_JOURNAL_CFG (R328): Applies the staged collector items of domain 0x0D. -/
  | faultJournalCfg (r : Req)
  /-- FAULT_PIN_RELEASE (R386): Releases FAULT_N, after any pulse in progress, or drives and holds it low; writes a PIN entry. -/
  | faultPinRelease (r : Req) (action : Nat)
  /-- DIAG_UNLOCK (R335): Returns a fresh challenge, or verifies a signed response and unlocks debug. -/
  | diagUnlock (r : Req) (stepNo : Nat) (sig : List Byte)
  /-- DIAG_SNAG_SET (R391): Sets or replaces a snag under debug unlock. -/
  | diagSnagSet (r : Req) (snag : Nat) (args : List Byte)
  /-- DIAG_SNAG_CLEAR (R391): Ends one snag, or every snag. -/
  | diagSnagClear (r : Req) (snag : Nat)
  /-- COMP_CONFIG (R225): Applies general or per-zone compressor items, with the throughput check when HOST_RESERVE rises. -/
  | compConfig (r : Req) (scope zone : Nat)
  /-- COMP_RESUME (R230): Continues a suspended compression job into a new output buffer. -/
  | compResume (r : Req) (jobTag dst dstLen : Nat)
  /-- MEM_FREQ (R285): Changes the DRAM set point between FSP0 and FSP1, or queues the change during training. -/
  | memFreq (r : Req) (fsp : Nat)
  /-- MEM_TRAIN (R283): Repeats DRAM training on all channels while nothing uses the memory. -/
  | memTrain (r : Req)
  /-- MEM_PPR (R293): Requests a soft or hard post-package repair of a DRAM row. -/
  | memPpr (r : Req) (ch rank bank kind row : Nat)
  /-- BAD_OPCODE (R319): A request with a valid header names an opcode that does not exist and completes BAD_OPCODE. -/
  | badOpcode (r : Req) (opcode : Nat)
  /-- MBX_DOORBELL_BUSY_SLOT (R323): A doorbell on an ACCEPTED or DEFERRED slot is ignored and counted as a protocol violation. -/
  | mbxDoorbellBusySlot (slot : Nat)
  /-- MALFORMED_REQUEST (R319): A request header fails step 2 of the checks and the slot goes DONE with MALFORMED. -/
  | malformedRequest (slot : Nat) (header : List Byte)
  /-- RING_ENABLE (R303): Writing ENABLE = 1 checks SIZE_LOG2, zeroes PROD and CONS and starts the ring. -/
  | ringEnable (ring : Nat)
  /-- RING_DISABLE (R303): Writing ENABLE = 0 stops the ring after the frame or descriptor in progress. -/
  | ringDisable (ring : Nat)
  /-- C2H_CONS_WRITE (R305): The host advances CONS of a C2H ring, freeing space or putting the ring into ERROR. -/
  | c2hConsWrite (ring v : Nat)
  /-- H2C_PROD_WRITE (R308): The host advances PROD of an H2C ring; ring 3 descriptors are fetched as they become available. -/
  | h2cProdWrite (ring v : Nat)
  /-- BOOT_STATE_READ (R306): A read of BOOT_STATE deasserts INTA while MSI-X is disabled. -/
  | bootStateRead
  /-- REGISTER_WRITE (R299): A write to a BAR0 register without behaviour of its own, such as IRQ_MAP, the MSI-X table or a ring address. -/
  | registerWrite (target : RegTarget) (v : Nat)
  /-- BAR4_READ (R300): A host read of the DRAM window is served through P7, or completes with Completer Abort before training or during MEM_TRAIN. -/
  | bar4Read (addr len : Nat)
  /-- BAR4_WRITE (R300): A host write takes effect in the H2C staging area and is discarded elsewhere. -/
  | bar4Write (addr : Nat) (bytes : List Byte)
  /-- HOST_BAD_REQUEST (R311): A malformed, unsupported, poisoned or misaligned host request is answered as Table 14-9 states. -/
  | hostBadRequest (kind : BadRequest)
  /-- ENDPOINT_RESET (R313): FLR, hot reset, DL_Down or PERST_N resets the endpoint, its rings and slots, while the device keeps running. -/
  | endpointReset (kind : EndpointReset)
  /-- LINK_UP (R310): The PCIe link trains, and a width or speed below Gen4 x8 raises LINK_DEGRADED. -/
  | linkUp (width speed : Nat)
  /-- DMA_COMPLETION_ERROR (R312): A DMA read returns UR, CA or poisoned data; the ring stops in ERROR. -/
  | dmaCompletionError (ring : Nat)
  /-- DMA_COMPLETION_TIMEOUT (R312): A DMA read gets no completion within the Completion Timeout; the ring stops in ERROR. -/
  | dmaCompletionTimeout (ring : Nat)
  /-- IRQ_MOD_TIMER (R306): MOD_US expires after an unannounced completion and the ring's vector is raised. -/
  | irqModTimer (ring : Nat)
  /-- C2H_FRAME_WRITE (R304): A waiting frame fits in a C2H ring and is written with a status-block update. -/
  | c2hFrameWrite (ring : Nat)
  /-- RING_HOLD_EXPIRY (R307): A zone or housekeeping frame has waited HOLD x 10 ms and is dropped. -/
  | ringHoldExpiry (ring : Nat)
  /-- HOUSEKEEPING_FRAME_CLOSE (R449): An open housekeeping frame reaches 10 ms, its size limit, or the end of its statistics second, and closes. -/
  | housekeepingFrameClose (key : Nat)
  /-- STATISTICS_SECOND (R204): At each second the statistics kernel emits per-stitch means, variances and QUAL counts. -/
  | statisticsSecond (port : Nat)
  /-- PTM_DIALOG_START (R189): PTM_PERIOD expires and a PTM request is sent. -/
  | ptmDialogStart (fine : Nat)
  /-- PTM_RESPONSE (R189): A PTM response arrives and a correlation record is written. -/
  | ptmResponse (fine master delay : Nat)
  /-- PTM_TIMEOUT (R189): No PTM response within 10 ms raises PTM_TIMEOUT and writes no record. -/
  | ptmTimeout
  /-- CAST_ON_START (R419): PORST_N is released; straps are sampled and the root synthesiser starts. -/
  | castOnStart (bootSel pairId : Nat)
  /-- ROOT_LOCK (R174): The root synthesiser locks; the timebase starts at 0 and all clocks run. -/
  | rootLock
  /-- ROOT_LOCK_TIMEOUT (R420): The root does not lock within 2 ms and the device stays in reset with FAULT_N low. -/
  | rootLockTimeout
  /-- NVM_LOADED (R419): Regions F and R are read, checked and applied, the first march test ends, and configuration space is set. -/
  | nvmLoaded (nvm : NvmLoad)
  /-- BOOT_VERIFY (R421): The boot ROM verifies the boot slot, falls back to the other slot, and starts the first that passes. -/
  | bootVerify
  /-- RECOVERY_BOOT (R428): The recovery image is read from SPI flash, verified and started in state RECOVERY. -/
  | recoveryBoot (image : List Byte)
  /-- MARCH_TEST_DONE (R403): The cast-on march test of the remaining SRAM arrays ends, with rows repaired or owners taken out. -/
  | marchTestDone (rows : List (Nat × Nat))
  /-- DRAM_TRAINING_DONE (R281): Cast-on DRAM training ends, or fails with MEM_TRAIN_FAIL. -/
  | dramTrainingDone (fitted : List (Nat × Nat)) (failed : Nat) (rfm : Bool)
  /-- CAST_ON_CAL_DONE (R406): The cast-on calibrations end and region U values are applied domain by domain. -/
  | castOnCalDone
  /-- BOOT_READY (R419): BOOT_STATE reaches READY; the mailbox accepts commands and pending ring enables take effect. -/
  | bootReady
  /-- THERMAL_SHUTDOWN (R378): The die reaches 165 °C; gates close, launches stop, FAULT_N goes low and the device is held in reset. -/
  | thermalShutdown
  /-- THERMAL_RECOVER (R378): The die falls below 140 °C and cast-on starts, with source 8 carried across as the first journal entry. -/
  | thermalRecover (sensors : List Int)
  /-- SUPPLY_TRIP (R416): VDD, VDDSX or VDDA09 stays below its window for 2 µs; launches stop and the device is reset. -/
  | supplyTrip (r : RailReading)
  /-- RAIL_EXCURSION (R414): Another rail stays outside its monitor window for 2 µs and raises its supply source. -/
  | railExcursion (r : RailReading)
  /-- ROOT_UNLOCK (R376): The root synthesiser reports loss of lock and raises source 0. -/
  | rootUnlock
  /-- REFCLK_LOST (R376): No REFCLK edge for 1 µs raises source 1. -/
  | refclkLost
  /-- DIE_TEMP_SAMPLE (R444): A new die-temperature reading updates DIE_HOT and triggers TDC and front-end recalibration on a 10 °C drift. -/
  | dieTempSample (sensors : List Int)
  /-- SHOT_START (R40): A shot of a running port starts, by free-run period, predicted locked time or start time. -/
  | shotStart (port : Nat)
  /-- PLY_LAUNCH (R15): A ply's gate opens and its chirp plays at its offset within the shot. -/
  | plyLaunch (port : Nat)
  /-- SHOT_END (R447): The shot in progress ends at t_b; a pending stop or plan change begins its drain. -/
  | shotEnd (port : Nat)
  /-- DRAIN_END (R24): The drain ends; the port goes ARMED or IDLE, or new shot 0 launches under the new plan. -/
  | drainEnd (port : Nat)
  /-- LMON_EDGE (R47): The LMON edge of a launch is measured and the launch is confirmed, with the drift check. -/
  | lmonEdge (port : Nat)
  /-- LMON_WINDOW_EXPIRY (R47): A launch's LMON window ends with no edge; the launch is marked LMON_MISSING. -/
  | lmonWindowExpiry (port : Nat)
  /-- LAUNCH_LOST (R47): Four consecutive missing LMON edges raise LAUNCH_LOST. -/
  | launchLost (port : Nat)
  /-- TRIGIN_EDGE (R42): An accepted TRIGIN edge is measured and serves launch triggering, locking, skeins and edge records. -/
  | triginEdge (pin : Nat)
  /-- LOCK_WINDOW_EXPIRY (R43): No reference edge arrives by the end of the lock window; LOCKED goes to HOLDOVER and the cycle starts on prediction. -/
  | lockWindowExpiry (port : Nat)
  /-- PPS_EDGE (R187): An accepted PPS_IN edge updates offset, frequency, state and steering, and applies a pending mode-1 TIME_SET. -/
  | ppsEdge
  /-- PPS_WINDOW_EXPIRY (R187): No in-window PPS edge arrives by 1 s + 10 µs; the state becomes HOLDOVER and PPS_LOST is raised. -/
  | ppsWindowExpiry
  /-- PPS_OUT_SECOND (R188): The timebase reaches a multiple of 1,250,000,000 ticks and PPS_OUT pulses when enabled. -/
  | ppsOutSecond
  /-- TDC_EDGE (R179): An edge reaches a TDC channel; it is accepted and measured, or lost to dead time, hold-off or settling.
  Inputs 0 to 15 are those of Table 08-1 with GATE_A at 11; 16 is GATE_B. -/
  | tdcEdge (input : Nat) (falling : Bool) (core : Nat) (code : Option Nat)
  /-- TDC_THRESH_SETTLED (R180): The 2 µs settling after a threshold change ends and the channel accepts edges again. -/
  | tdcThreshSettled (ch : Nat)
  /-- TDC_CORE_TEST_DONE (R182): A code-density test of a core or channel ends; passing tables take effect and failing cores leave rotation. -/
  | tdcCoreTestDone (ch core : Nat) (hist : List Nat) (overflows : Nat)
  /-- TGATE_OPEN (R39): TGATE opens after ply 0's launch edge and a Raman signal or background window starts. -/
  | tgateOpen (port : Nat)
  /-- RAMAN_WINDOW_END (R106): A Raman window ends and its valid samples are added to the signal or background bank. -/
  | ramanWindowEnd (port : Nat) (asCodes stCodes : List Int)
  /-- RAMAN_INTERVAL_END (R107): An accumulation interval ends; buffers swap, APD currents are checked and new Raman items take effect. -/
  | ramanIntervalEnd (port : Nat)
  /-- TR_UPDATE (R115): The Raman kernel forms the temperature profile from the moving sums and delivers TR to the zones. -/
  | trUpdate (port : Nat)
  /-- RAMAN_REF_HOLD_EXPIRY (R113): REF_HOLD expires with no usable T_ref; RAMAN_REF_LOST is raised and TR goes FIXED or INVALID. -/
  | ramanRefHoldExpiry (port : Nat)
  /-- FUSION_UPDATE (R120): At each interval the fusion kernel forms E, X and T_g, updates the bias or bridge and emits FT and FS. -/
  | fusionUpdate (port : Nat)
  /-- FUSION_STATE_TIMER (R121): The CONVERGING or BRIDGED period of a gauge ends and its state becomes NORMAL. -/
  | fusionStateTimer (port gauge : Nat)
  /-- FUSE_HOLD_EXPIRY (R124): FUSE_HOLD expires in HOLDOVER and FT or FS becomes INVALID with NO_SOURCE. -/
  | fuseHoldExpiry (port gauge : Nat)
  /-- SELVEDGE_SLOT (R49): A shot's selvedge slot opens and is given to a proof pulse or to a calibration burst. -/
  | selvedgeSlot (port : Nat)
  /-- GATE_TEST_DECISION (R275): An ISNS test window ends and the gate test passes or raises GATE_OPEN. -/
  | gateTestDecision (port : Nat) (samples : List Nat)
  /-- DECHIRP_ROW (R74): The de-chirp engine delivers one ply's row of stitch-samples with flags to the phase engine. -/
  | dechirpRow (port from_ : Nat) (codes : List (List Int))
  /-- BREAK_DETECTOR_ARM (R30): Shot 64 launches after a start, plan change or takeover and the break detector arms. -/
  | breakDetectorArm (port : Nat)
  /-- PHASE_SAMPLE (R95): A gauge sample, with INTERP_MAX samples of look-ahead, is unwrapped and its DPHI, PHI, AMP and QUAL are delivered. -/
  | phaseSample (port : Nat)
  /-- SWATCH_LOST (R87): After 64 consecutive held samples the common-mode correction is dropped and SWATCH_LOST is raised. -/
  | swatchLost (port : Nat)
  /-- SPEC_RECORD (R96): After SPEC_ROWS shots a spectral record per stitch goes to the Needle array and the spectral tracks update. -/
  | specRecord (port : Nat)
  /-- SLICE_MONITOR_EVAL (R57): Every 512 samples each slice is re-evaluated and may be declared faulty. -/
  | sliceMonitorEval (port chan : Nat) (codes : CodeRun)
  /-- SLICE_SPARE_SWAP (R58): At the next frame boundary at least 0.2 µs after a declaration a spare slice takes the faulty slot. -/
  | sliceSpareSwap (port chan : Nat)
  /-- SLICE_INTERPOLATE (R60): With no spare left the faulty slot is interpolated and the port's rows carry DEGRADED. -/
  | sliceInterpolate (port chan : Nat)
  /-- HYB_BLOCK (R65): A block of 65,536 samples ends and the hybrid estimator updates its gain, quadrature and mean terms. -/
  | hybBlock (port from_ : Nat) (codes : List (List Int))
  /-- CLIP_RATE_SECOND (R63): A whole second ends and the clip and filter-saturation rates raise or clear their sources. -/
  | clipRateSecond (port : Nat)
  /-- ZONE_INPUT_SAMPLE (R136): A zone takes an input sample through its stages, forms output rows and closes frames, resets or switches as due. -/
  | zoneInputSample (zone : Nat)
  /-- ZONE_SAT_SECOND (R141): A second ends and the zone saturation rate raises or clears ZONE_SAT. -/
  | zoneSatSecond
  /-- DETECTOR_DECISION (R153): A detector's energy for an output sample is compared with its level, producing conditions and event records. -/
  | detectorDecision (zone det : Nat)
  /-- EVENT_FRAME_CLOSE (R156): An event frame reaches 10 ms or 65,536 bytes and closes. -/
  | eventFrameClose
  /-- EVENT_SUMMARY (R157): When ring 128 accepts again, one SUMMARY record is written per detector with unreported changes. -/
  | eventSummary
  /-- HANK_POST_COMPLETE (R169): A hank's post window completes and the hank is written. -/
  | hankPostComplete (skein : Nat)
  /-- SKEIN_REARM (R169): The re-arm ends and the skein is ARMED, HELD or IDLE. -/
  | skeinRearm (skein : Nat)
  /-- TRIGOUT_PULSE_END (R170): TRIGOUT_WIDTH expires and the TRIGOUT pin goes low. -/
  | trigoutPulseEnd (pin : Nat)
  /-- CONTROL_CLASS_INSTR (R201): A control-class instruction (branch, call, return, nop, halt) executes on a core. -/
  | controlClassInstr (core : Nat) (op : CtlOp)
  /-- REP (R197): REP or REPR opens a block repeat, trapping NEST on a fourth level. -/
  | repInstr (core : Nat) (count : RepCount) (after : Nat)
  /-- BREAK (R197): BREAK ends the innermost repeat after the present instruction. -/
  | breakInstr (core : Nat)
  /-- TRAP (R202): A core traps on an instruction fault or a TRAP instruction and halts. -/
  | trapInstr (core : Nat) (op : TrapOp)
  /-- SCALAR_INSTR (R201): A scalar register, immediate or ADDA instruction executes and updates the status flags or address. -/
  | scalarInstr (core : Nat) (op : ScalarInstr)
  /-- LOAD_STORE_INSTR (R195): A scalar or vector load or store executes, with bank stalls, modulo addressing and protection traps. -/
  | loadStoreInstr (core : Nat) (op : MemInstr)
  /-- VECTOR_ALU_INSTR (R199): A vector ALU instruction executes with wrap or saturation. -/
  | vectorAluInstr (core : Nat) (op : VecInstr)
  /-- MAC_INSTR (R199): A real or complex vector MAC, or its parallel-load form, accumulates into AC registers. -/
  | macInstr (core : Nat) (op : MacInstr)
  /-- ACCUMULATOR_INSTR (R199): An accumulator instruction clears, shifts, moves or extracts an accumulator. -/
  | accumulatorInstr (core : Nat) (op : AccInstr)
  /-- FLOAT_INSTR (R199): A scalar or vector floating-point instruction executes and sets FINV or FINX. -/
  | floatInstr (core : Nat) (op : FloatInstr)
  /-- SPECIAL_FUNCTION_INSTR (R199): SQRT, RCP, LOG2, EXP2 or CORDIC executes. -/
  | specialFunctionInstr (core : Nat) (op : SpecialInstr)
  /-- WAIT (R210): WAIT stalls until a subscription ring holds at least k rows. -/
  | waitInstr (core sub k : Nat)
  /-- DONE (R210): DONE adds k to RD_COUNT and frees those rows. -/
  | doneInstr (core sub k : Nat)
  /-- PUT (R211): PUT writes a record to the output ring, stalling while it lacks room. -/
  | putInstr (core ts an len : Nat)
  /-- DMA (R212): DMA starts a paced copy between local memory and the kernel's DRAM window. -/
  | dmaInstr (core an window units : Nat) (toWindow : Bool)
  /-- DMA_COMPLETE (R212): A kernel DMA copy completes and a waiting DWAIT resumes. -/
  | dmaComplete (core : Nat)
  /-- DWAIT (R212): DWAIT waits for the kernel's DMA to complete. -/
  | dwait (core : Nat)
  /-- CYCRD (R201): CYCRD reads the NCLK cycle counter. -/
  | cycrd (core dst : Nat)
  /-- EVT (R203): An X-core presents a detector condition with its TS72 to the skein logic. -/
  | evt (core det ts : Nat)
  /-- CKPT (R203): An X-core hands a block to the checkpoint mirror. -/
  | ckpt (core an len : Nat)
  /-- CFR_CFW (R203): An X-core reads or writes a control-fabric register, including loop and source-drive setpoints. -/
  | cfrCfw (core : Nat) (target : FabricReg) (write : Bool) (g : Nat)
  /-- FSRC (R203): An X-core raises a fault source with its journal data. -/
  | fsrc (core src ins d0 d1 : Nat)
  /-- KRN_LOAD_DONE (R209): A kernel image is in place and the slot becomes LOADED or SHADOW. -/
  | krnLoadDone (slot : Nat)
  /-- KRN_SWAP_SWITCH (R214): The old core passes row r and halts, carry-over is copied, and the new core starts. -/
  | krnSwapSwitch (slot : Nat)
  /-- KRN_SWAP_FORCED_HALT (R214): The old core has not passed row r within 1 ms and is halted. -/
  | krnSwapForcedHalt (slot : Nat)
  /-- KRN_STOP_DONE (R213): A stopping kernel reaches its row boundary and its output ring is drained. -/
  | krnStopDone (slot : Nat)
  /-- CORE_SELFTEST_DONE (R214): A core's self-test ends and it joins the spares, or fails as a core fault. -/
  | coreSelftestDone (core : Nat) (pass : Bool)
  /-- NEEDLE_HEARTBEAT_TIMEOUT (R215): A vendor heartbeat has been missing for 16 µs. -/
  | needleHeartbeatTimeout (core : Nat)
  /-- NEEDLE_CORE_FAULT (R215): A core fault is declared and a spare is sought, or the degradation of R216 applies. -/
  | needleCoreFault (core : Nat)
  /-- NEEDLE_SPARE_IN_SERVICE (R215): A spare core enters service and vendor or user work resumes on it. -/
  | needleSpareInService (core : Nat)
  /-- NEEDLE_ECC_ERROR (R195): A local-memory ECC error is corrected and counted, or traps on a double error. -/
  | needleEccError (core : Nat) (double : Bool)
  /-- SPARE_TEST_TIMER (R402): SPARE_TEST_PERIOD expires and the next free spare Needle or engine is tested. -/
  | spareTestTimer
  /-- COMP_JOB_DESCRIPTOR (R228): A compression-job descriptor is taken from H2C ring 3 and checked. -/
  | compJobDescriptor (desc : Bulk)
  /-- COMP_BLOCK_DONE (R222): An engine finishes a block, which the check decoder verifies; a frame or job part completes. -/
  | compBlockDone (engine : Nat)
  /-- COMP_ENGINE_FAULT (R234): An engine fault is declared and the block is rerun on another engine. -/
  | compEngineFault (engine : Nat)
  /-- COMP_SPARE_IN_SERVICE (R234): The spare engine enters service. -/
  | compSpareInService (engine : Nat)
  /-- SUSPEND_TIMEOUT_EXPIRY (R230): A suspended job or an idle host stream reaches SUSPEND_TIMEOUT and is discarded. -/
  | suspendTimeoutExpiry
  /-- FE_CONVERSION (R241): A sigma-delta filter output is produced and kept, discarded, or used for a lead sub-conversion. -/
  | feConversion (volts : List Rat)
  /-- FE_ENTRY_RESULT (R246): An entry's last kept conversion ends; its result is formed and the next entry, injection or calibration starts. -/
  | feEntryResult
  /-- EXC_MONITOR_TRIP (R244): The excitation monitor detects OPEN or SHORT; the entry ends at once. -/
  | excMonitorTrip (short : Bool)
  /-- FE_SELFCAL_DONE (R253): Front-end self-calibration ends and its factors take effect. -/
  | feSelfcalDone (failed : Nat) (ofs refs : List Rat) (cur vol : Rat)
  /-- LOOP_UPDATE (R256): A loop takes the latest zone row and sets its output, at most once per 1 ms. -/
  | loopUpdate (loop : Nat)
  /-- REFX_MEASURE (R256): V(REFX) is measured every 1 ms and checked against its range. -/
  | refxMeasure (mv : Nat)
  /-- LOOP_HOLD_EXPIRY (R257): LOOP_HOLD passes without a valid value, or with its zone or port down, and the loop goes to its fault level. -/
  | loopHoldExpiry (loop : Nat)
  /-- LOOP_SENSE_MISMATCH (R258): Sensed and set values differ for 10 ms; LOOP_STATE becomes OPEN or OVERCURRENT. -/
  | loopSenseMismatch (loop : Nat) (sensed : Int)
  /-- LOOP_RELEASE_END (R259): The 100 ms downscale hold of a release ends and the transistor turns off. -/
  | loopReleaseEnd (loop : Nat)
  /-- SD_CARRIER_PERIOD (R266): A PWM carrier period starts; p slews toward t and the compare count is loaded. -/
  | sdCarrierPeriod (ch : Nat)
  /-- SD_FB_HOLD_EXPIRY (R273): No good feedback result arrives within SD_FB_HOLD; the target goes to SD_SAFE or y is held. -/
  | sdFbHoldExpiry (ch : Nat)
  /-- SD_SATURATION_TIMER (R272): The regulator output stays at a limit for 10 s and raises SRC_SATURATED. -/
  | sdSaturationTimer (ch : Nat)
  /-- REFRESH_DUE (R289): A refresh falls due and is issued per-bank, postponed, or forced by splitting a burst. -/
  | refreshDue (ch rank bank : Nat)
  /-- MR4_POLL (R289): Every 16 ms the refresh rate is read from MR4. -/
  | mr4Poll (rates : List (Nat × Nat))
  /-- WCK_DRIFT_CHECK (R282): Every RETRAIN_PERIOD the WCK-to-DQ oscillators are read and delays are moved. -/
  | wckDriftCheck (ch rank : Nat) (drift : Rat)
  /-- SELF_REFRESH_ENTER (R291): A channel has no request for SR_IDLE and enters self-refresh. -/
  | selfRefreshEnter (ch : Nat)
  /-- SELF_REFRESH_EXIT (R291): A request wakes a channel from self-refresh. -/
  | selfRefreshExit (ch : Nat)
  /-- ROW_IDLE_CLOSE (R287): An open row has no access for 200 ns and is closed. -/
  | rowIdleClose (ch rank bank : Nat)
  /-- ACT_COUNT_RESET (R292): Every 32 ms all activate counts reset. -/
  | actCountReset
  /-- NEIGHBOUR_REFRESH (R292): A row's activate count reaches ACT_THRESH and its neighbours are refreshed. -/
  | neighbourRefresh (ch rank bank : Nat)
  /-- FSP_CHANGE_COMPLETE (R285): A set-point change ends and traffic resumes at the new FSP. -/
  | fspChangeComplete
  /-- MEM_TRAIN_DONE (R283): MEM_TRAIN ends, or restores the previous results with TIMEOUT. -/
  | memTrainDone (failed : Nat)
  /-- PPR_HARD_DONE (R293): A hard repair is confirmed or fails with TIMEOUT. -/
  | pprHardDone (confirmed : Bool)
  /-- LINK_ECC_ERROR (R294): A Link ECC error is corrected, or retried and reported as uncorrectable. -/
  | linkEccError (port unit : Nat) (corrected : Bool)
  /-- ECS_COUNT_CHECK (R293): A row's on-die ECS count passes 16 and MEM_ECS is raised. -/
  | ecsCountCheck (ch rank bank row count : Nat)
  /-- WRITE_BUFFER_OVERFLOW (R290): A P0 or P1 write buffer overflows; data are dropped and an overflow source is raised. -/
  | writeBufferOverflow (p0 : Bool) (d : DroppedUnits)
  /-- PL_DETECT_STEP (R343): In DETECT a common-mode step is driven every 100 µs. -/
  | plDetectStep
  /-- PL_PEER_STEP (R344): The peer's common-mode step is seen on two lanes and the link enters TRAIN. -/
  | plPeerStep (lanes : Nat)
  /-- PL_ACTIVITY_DETECTED (R344): Signal activity held for 80 µs on two lanes moves the link into TRAIN. -/
  | plActivityDetected (lanes : Nat)
  /-- PL_CTLE_STEP (R345): A 0.2 ms CTLE step ends and the lane's PRBS31 checker result is recorded. -/
  | plCtleStep (errors : List Nat)
  /-- PL_TRAIN_END (R345): TRAIN ends after 3.5 ms; lanes settle and the link enters LOCK, or fails with LANES. -/
  | plTrainEnd (offsetPpb : Nat)
  /-- PL_BLOCK_LOCK (R343): 64 consecutive valid headers on every lane of the set move the link to ALIGN. -/
  | plBlockLock
  /-- PL_MARKER_SEND (R342): Every 16,384 blocks a stitch marker is sent on every lane. -/
  | plMarkerSend
  /-- STITCH_MARKER_RX (R342): A stitch marker arrives; lanes are aligned and reordered, or alignment ends. -/
  | stitchMarkerRx (lane : Nat) (body : List Byte) (blocks : Nat) (arrival : Nat) (inverted : Bool)
  /-- PL_INVALID_HEADER (R352): A block with an invalid header or undefined control type is counted, with lock loss or retrain when limits are passed. -/
  | plInvalidHeader (lane : Nat) (again : Bool)
  /-- PL_CAPS_SEND (R347): In CAPS, or twice after entering ACTIVE, a CAPS packet is sent on every lane. -/
  | plCapsSend
  /-- CAPS_RX (R347): A CAPS packet is received and checked, leading to ACTIVE, BLOCKED, or rejection. -/
  | capsRx (packet : List Byte) (clean : Bool)
  /-- PL_STATUS_SEND (R349): Every PL_STATUS_PERIOD a STATUS packet is sent. -/
  | plStatusSend
  /-- STATUS_RX (R349): A STATUS packet is received; delay and offset are computed and claims, holds and takeovers are judged. -/
  | statusRx (packet : List Byte) (clean : Bool) (arrival : Nat)
  /-- PL_INVALID_PACKET (R348): A packet fails its checks and is discarded whole. -/
  | plInvalidPacket
  /-- PL_STATE_TIMEOUT (R343): A link state's timeout expires and the link returns to DETECT as a failed attempt. -/
  | plStateTimeout
  /-- PL_LOSS_TIMEOUT (R352): No valid STATUS arrives for PL_LOSS_TIME and the link goes to DETECT. -/
  | plLossTimeout
  /-- PL_IDLE_WAKE (R350): A unit in idle mode wakes for a waiting packet or PL_IDLE_WAKE and sends EXIT blocks and a marker. -/
  | plIdleWake
  /-- PL_IDLE_HOLD_EXPIRY (R350): PL_IDLE_HOLD passes with no packet other than STATUS and the transmitter returns to electrical idle. -/
  | plIdleHoldExpiry
  /-- EXIT_RX (R350): A fast-exit burst is received and the receiver relocks within 10 µs or goes to DETECT. -/
  | exitRx (relocked : Bool)
  /-- IDLE_ENTER_RX (R350): IDLE_ENTER blocks are received and the peer's transmitter is treated as idle. -/
  | idleEnterRx
  /-- CKPT_CUT (R361): While ACTIVE, at each CKPT_PERIOD_NOW boundary a checkpoint is cut and sent. -/
  | ckptCut
  /-- CKPT_PACKET_RX (R362): A checkpoint packet is received; at CKPT_END the checkpoint is judged complete or discarded. -/
  | ckptPacketRx (packet : Machine.CkptPacket) (whole : Bool)
  /-- CKPT_STALE_TIMER (R362): No complete checkpoint for 1 ms raises PAIR_CKPT_STALE on the standby. -/
  | ckptStaleTimer
  /-- SWAP_PREPARE_RX (R373): The standby receives SWAP_PREPARE and replies SWAP_READY when READY holds. -/
  | swapPrepareRx
  /-- SWAP_READY_RX (R373): The active unit receives SWAP_READY and releases at the end of its shot. -/
  | swapReadyRx
  /-- SWAP_RELEASE_DONE (R373): The final checkpoint is complete at the peer; the releasing unit stops its wave and becomes STANDBY. -/
  | swapReleaseDone
  /-- PEER_ACT_EDGE (R356): An edge of PEER_ACT_IN is measured and shows that the peer's wave is present. -/
  | peerActEdge
  /-- PEER_LOSS_CLAIM (R366): The peer's wave and STATUS have been absent for PEER_LOSS_US and the standby claims the fibre. -/
  | peerLossClaim
  /-- PAIR_WIRING_TIMER (R366): The wave is absent while STATUS shows ACTIVE for 100 µs; PAIR_WIRING is raised. -/
  | pairWiringTimer
  /-- PAIR_WATCHDOG_LAPSE (R356): The pair watchdog is not fed for 100 µs. -/
  | pairWatchdogLapse
  /-- ACT_WAVE_STOP (R356): ACT_OUT stops, gates close, launches stop and closing frames are handed over within 40 µs. -/
  | actWaveStop
  /-- QUALITY_TEST (R370): The claimant's shot-1 samples are judged; it becomes ACTIVE, hands back, or stays ACTIVE in a double fault. -/
  | qualityTest (floors : List Rat)
  /-- FAULT_RAISE (R379): A raise is registered, sets sticky and live bits, and starts, merges into or joins an action. -/
  | faultRaise
  /-- ACTION_WINDOW_END (R379): The 3 ms action window of an action ends. -/
  | actionWindowEnd
  /-- FAULT_QUIET_TIMER (R381): A source's clearing interval or count completes; its live bit clears and a CLEAR entry is written. -/
  | faultQuietTimer (src : Nat)
  /-- FAULT_N_PULSE_END (R385): FAULT_N_PULSE expires and the pin is released or held. -/
  | faultNPulseEnd
  /-- TOKEN_REFILL (R389): Every 62.5 µs each source's token bucket gains a token. -/
  | tokenRefill
  /-- JOURNAL_SUMMARY_TICK (R389): At each 10 ms boundary one SUMMARY entry is written per coalescing source. -/
  | journalSummaryTick
  /-- JOURNAL_FRAME_CLOSE (R388): A journal frame reaches 1,024 entries or 10 ms and closes. -/
  | journalFrameClose
  /-- FW_WATCHDOG_EXPIRY (R376): The control processor has not fed the collector watchdog for 10 ms. -/
  | fwWatchdogExpiry
  /-- SNAG_APPLY (R392): An active snag applies its perturbation, once or every PERIOD, ending after COUNT applications. -/
  | snagApply (num target : Nat)
  /-- SNAG_LIVE_EXPIRY (R392): The live time of a RAISE or RAISE_PAIR snag ends and the source's live bit clears. -/
  | snagLiveExpiry (num target : Nat)
  /-- SLICE_STEP_DONE (R399): A slice step ends; the slice passes as a spare with new factors or is held out. -/
  | sliceStepDone (port : Nat) (results : List SliceResult)
  /-- SLICE_FG_CHANNEL (R400): A foreground ADC run moves to the next channel or gap, or completes. -/
  | sliceFgChannel (port : Nat) (results : List SliceResult)
  /-- RAMAN_GAIN_CAL_DONE (R117): The RAMAN_GAIN run ends and RG_r are set. -/
  | ramanGainCalDone (port : Nat) (codes : List Int)
  /-- RAMAN_OFFSET_CAL_DONE (R118): The RAMAN_OFFSET run ends with new offsets or CAL_INPUT_NOT_QUIET. -/
  | ramanOffsetCalDone (port : Nat) (low high : List (List Int))
  /-- SRAM_ROW_REPAIR (R403): A row reaches SRAM_REPAIR_COUNT corrected errors in 1 s and is moved to a spare row. -/
  | sramRowRepair (r : SramRow) (errs : List Nat)
  /-- FW_STAGE_DONE (R424): The image write into the slot ends and FW_STAGE completes. -/
  | fwStageDone (written : Bool)
  /-- FW_VERIFY_DONE (R425): The slot readback and checks end and FW_VERIFY completes. -/
  | fwVerifyDone
  /-- FW_ACTIVATION_DONE (R426): The new firmware adopts the running state and the mailbox returns; the rollback counter may advance. -/
  | fwActivationDone
  /-- FW_FALLBACK (R427): The new firmware has not fed the watchdog within 200 ms and the previous slot runs again. -/
  | fwFallback
  /-- PORST_N_ASSERT (R418): PORST_N goes low; the device is held in reset with pins in the states of Table 21-5 and FAULT_N low. -/
  | porstNAssert
  /-- SUPPLY_RETURN (R416): VDD, VDDSX or VDDA09 returns within its monitor window and the cast-on that follows starts, with source 2 or 3 carried as the first journal entry. -/
  | supplyReturn (r : RailReading)
  /-- LINK_READY (R314): 5 ms after PORST_N release BOOT_STATE becomes LINK_READY, CLKREQ_N goes low and the LTSSM may leave Detect. -/
  | linkReady
  /-- PERST_N_RELEASE (R314): PERST_N is released and the endpoint leaves reset, letting the LTSSM leave Detect. -/
  | perstNRelease
  /-- PPS_OUT_PULSE_END (R188): PPS_OUT_WIDTH expires and PPS_OUT goes low. -/
  | ppsOutPulseEnd
  /-- SNAG_EFFECT_END (R392): The duration of a timed snag effect (SLICE_STUCK 300 µs, RING_HOLD, DRAM_STALL, MBX_DELAY) ends and normal behaviour resumes. -/
  | snagEffectEnd (num target : Nat)
  /-- OUTPUT_RING_DRAIN (R211): The router takes a kernel output record from a slot's output ring, paced at OUT_RECORDS_PER_S, and places it in a housekeeping frame, freeing room for a stalled PUT. -/
  | outputRingDrain (slot : Nat)
  /-- DRAM_ACCESS (R286): In each cycle a DRAM channel chooses and performs the next access by urgency, class, row hit and port, updating page predictors and activate counts. -/
  | dramAccess (ch : Nat) (arrived : List DramReq)
  /-- COMP_TEST_DONE (R402): The 70 µs test of a compressor engine ends and the engine passes or is entered in the repair map. -/
  | compTestDone (engine : Nat) (pass : Bool)
  /-- SRAM_CAL_DONE (R403): A run-time CAL_RUN of SRAM ends, retesting free spares and units out of service, and CAL_RUN completes. -/
  | sramCalDone (failed : Bool) (passed : List (Nat × Nat))
  /-- NVM_ERASE_DONE (R409): The erase of both region U banks ends and NVM_ERASE_USER completes. -/
  | nvmEraseDone (written : Bool)
  /-- PAIR_LINK_TIMEOUT (R351): 5.0 ms after a PAIR_LINK retrain is accepted without reaching ACTIVE, the command completes TIMEOUT while the link keeps trying. -/
  | pairLinkTimeout
  deriving DecidableEq, Repr

end Sys2Proof
end

