-- ==== Sys2Proof/Decode.lean ====
section
/-! DEFINITION. Decode.lean: commands that a word spells. The opcode table gives no row any bits: the block is driven by register
writes, requests and events, and no command is a word. -/

namespace Sys2Proof

/-- The command that `nbits` bits spell: none, since no row of the opcode table has bits. -/
def decodeTableWord (nbits w : Nat) : Option Instr :=
  match nbits, w with
  | _, _ => none

end Sys2Proof
end

