-- ==== Sys2Proof/Config.lean ====
section
/-! DEFINITION. Config.lean: what the spec leaves open: values no rule states, keys and filters it does not publish.
Each is an opaque constant with no body, so nothing can be proved of its value. -/

namespace Sys2Proof.Config

/-- A free number: what a rule leaves undefined, one for each count of the state's counter (log 4). -/
opaque freeNat : Nat → Nat

/-- A free integer (log 4). -/
opaque freeInt : Nat → Int

/-- A free byte (log 4). -/
opaque freeByte : Nat → Byte

/-- MIN and MAX of PARAM_LIST for an item whose table gives no range (15 R329; log 5). -/
opaque unlistedBound : Nat → Int

/-- The 48 bytes of the challenge that DIAG_UNLOCK issues, one for each count (15 R335: "fresh"; log 6). -/
opaque challenge : Nat → List Byte

/-- Does a signature verify over a challenge and serial under the debug key (15 R335; the key is not published; log 7)? -/
opaque debugSigOk : List Byte → List Byte → List Byte → Bool

/-- Does a signature verify over a digest under a vendor or kernel key (20 R422, 09 R209; log 7)? -/
opaque ecdsaOk : List Byte → List Byte → Bool

/-- Does a signature verify over a digest under the kernel key of region U (09 R209; log 7)? -/
opaque krnSigOk : List Byte → List Byte → Bool

/-- The fixed delay of the GATE and TGATE pins behind their scheduling tick in FREE_RUN, in 3.125 ps (02 R48; log 40). -/
opaque pinDelay : Nat

/-- Where a period of the ACT_OUT wave begins, in SCLK ticks (17 R356; log 198). -/
opaque wavePhase : Nat

/-- The seven taps of the droop filter of the DAC path, of which R35 gives two gains (02 R35; log 41). -/
opaque sincTaps : List Rat

/-- The channel-delay filter: its output for a trim and the sixteen words round a sample (03 R64; log 41). -/
opaque chanDelay : Int → List Int → Int

/-- The channeliser's FIR of 32 × P taps: a component of its output for the 32 × P mixed words round a ply sample (03 R67; log
161). -/
opaque plyFilter : Nat → List Int → Int

/-- The stitch interpolator: a component of its output for one of 64 phases and sixteen filter outputs (03 R73; log 161). -/
opaque stitchFilter : Nat → List Int → Int

/-- The angle that the 20-iteration CORDIC gives for a pair within 24 bits, of which only the bound of 1 LSB is given (04 R80; log
42). -/
opaque cordicAngle : Int → Int → Int

/-- The code of a port's channel at a tick of which no command has brought one: port, channel, tick (03 R55; log 51). -/
opaque rawCode : Nat → Nat → Nat → Int

/-- The scale of the alignment vectors' 24-bit components, which R84 does not give (04 R84; log 49). -/
opaque alignUnit : Nat

/-- ATTEN fitted to a probe's profile, 0.001 dB/km (01 R29; log 43). -/
opaque fitAtten : List Nat → Nat

/-- The estimate of a gauge's spectral shift between two records, in Hz (05 R119; log 44). -/
opaque specShift : List (List Nat) → List (List Nat) → Int

/-- The taps of a half-band stage: preset, minimum phase (06 R448: not published; log 50). -/
opaque halfBand : Nat → Bool → List Int

/-- The taps of the BULKY equaliser for k stages (06 R448; log 50). -/
opaque equaliser : Nat → List Int

/-- The order in which the energies of a window are summed (07 R152; log 57). -/
opaque sumOrder : List Nat → List Nat

/-- The word of a channel at a tick that no command has brought: channel, tick (07 R163; log 51). -/
opaque rawWord : Nat → Nat → Int

/-- How a dynamic block's code lengths are run-coded: (symbol, extra value) pairs (10 R219 leaves it open; log 75). -/
opaque codeRuns : List Nat → List (Nat × Nat)

/-- The error that the Newton iteration below 0 °C leaves, 10⁻⁹ °C, of which only the bound of 0.01 mK is given (11 R248;
log 79). -/
opaque newtonSlip : Int → Int

/-- Repair resources of a DRAM bank of the fitted devices beyond its first (13 R293: the device reports them; log 91). -/
opaque pprResources : Nat → Nat

/-- 64-byte accesses in a row of a bank of the fitted devices, less one (13 R279 orders the address and gives no row length; log 190). -/
opaque dramRowLast : Nat → Nat

/-- The rank that a DRAM address selects (13 R279 does not place it; log 190). -/
opaque dramRank : Nat → Nat

/-- CKPT_VER: the version of the checkpoint format (16 R346 refers to 17, which gives no number; log 95). -/
opaque ckptVer : Nat

end Sys2Proof.Config
end

