-- ==== Sys2Proof/Machine/Num.lean ====
section
/-! DEFINITION. Machine/Num.lean: the plain arithmetic the chapters share: rounding, saturation, two's complement
fields, little-endian bytes (00 R2, R3), time arithmetic (00 R6) and the check codes of frames. -/

namespace Sys2Proof.Machine

/-- The least multiple-count of `b` that covers `a` (a ceiling division); 0 for `b = 0`. -/
def ceilDiv (a b : Nat) : Nat := if b = 0 then 0 else (a + b - 1) / b

/-- Division rounded to the nearest integer, halves upward; 0 for `b = 0`. -/
def roundDiv (a b : Nat) : Nat := if b = 0 then 0 else (2 * a + b) / (2 * b)

/-- Division of integers rounded to nearest, halves away from zero; 0 for `b = 0`. -/
def roundDivI (a b : Int) : Int :=
  if b = 0 then 0
  else
    let q := roundDiv a.natAbs b.natAbs
    if (decide (a < 0)) == (decide (b < 0)) then (q : Int) else -(q : Int)

/-- Division of integers rounded to nearest, halves to the even neighbour; 0 for `b = 0`. -/
def roundEvenI (a b : Int) : Int :=
  if b ≤ 0 then 0
  else
    let q := Int.fdiv a b
    let r := Int.fmod a b
    if 2 * r < b then q
    else if 2 * r = b then (if q % 2 = 0 then q else q + 1)
    else q + 1

/-- A value held to the range `lo` to `hi`. -/
def clampI (lo hi v : Int) : Int := if v < lo then lo else if hi < v then hi else v

/-- Saturation to a signed field of `w` bits (00 R3). -/
def satS (w : Nat) (v : Int) : Int := clampI (-(2 ^ (w - 1) : Int)) ((2 ^ (w - 1) : Int) - 1) v

/-- Does `v` lie outside a signed field of `w` bits? -/
def ovfS (w : Nat) (v : Int) : Bool := satS w v != v

/-- Saturation to an unsigned field of `w` bits. -/
def satU (w : Nat) (v : Int) : Int := clampI 0 ((2 ^ w : Int) - 1) v

/-- The value of the low `w` bits read as two's complement (00 R3). -/
def wrapS (w : Nat) (v : Int) : Int :=
  let m := v % (2 ^ w : Int)
  if m < (2 ^ (w - 1) : Int) then m else m - (2 ^ w : Int)

/-- The unsigned pattern of `v` in `w` bits. -/
def bitsOf (w : Nat) (v : Int) : Nat := (v % (2 ^ w : Int)).toNat

/-- A counter of 32 bits that has counted once more. -/
def inc32 (v : Int) : Int := (v + 1) % (2 ^ 32 : Int)

/-- A counter of 32 bits after `n` more counts. -/
def add32 (v : Int) (n : Nat) : Int := (v + n) % (2 ^ 32 : Int)

/-- Bits `hi` down to `lo` of `v`. -/
def bitField (v hi lo : Nat) : Nat := (v >>> lo) % 2 ^ (hi + 1 - lo)

/-- Is bit `i` of `v` set? -/
def bitSet (v i : Nat) : Bool := v.testBit i

/-- `v` with bit `i` made `b`. -/
def putBit (v i : Nat) (b : Bool) : Nat :=
  if b then v ||| (2 ^ i) else if v.testBit i then v - 2 ^ i else v

/-- How many of the `n` low bits of `v` are set. -/
def popCount (n v : Nat) : Nat := ((List.range n).filter (fun i => v.testBit i)).length

/-- A Bool as a number, for flag fields. -/
def bitN (b : Bool) : Nat := if b then 1 else 0

/-- The `n` bytes of `v`, least significant first (00 R2). -/
def leBytes : Nat → Nat → List Byte
  | 0, _ => []
  | n + 1, v => BitVec.ofNat 8 v :: leBytes n (v / 256)

/-- The `n` bytes of `v`, most significant first (10 R220: zlib and gzip trailers). -/
def beBytes (n v : Nat) : List Byte := (leBytes n v).reverse

/-- The `n` bytes of a signed field (00 R2, R3). -/
def leBytesI (n : Nat) (v : Int) : List Byte := leBytes n (bitsOf (8 * n) v)

/-- The number a little-endian byte list spells (00 R2). -/
def ofLe : List Byte → Nat
  | [] => 0
  | b :: bs => b.toNat + 256 * ofLe bs

/-- `n` zero bytes (00 R4: reserved fields read as zero). -/
def zeros (n : Nat) : List Byte := List.replicate n 0

/-- `bs` cut or filled with zero bytes to exactly `n` bytes. -/
def fitBytes (n : Nat) (bs : List Byte) : List Byte := (bs ++ zeros (n - bs.length)).take n

/-- The number that `n` bytes of `bs` from offset `off` spell, missing bytes reading zero. -/
def fieldAt (bs : List Byte) (off n : Nat) : Nat := ofLe ((bs.drop off).take n)

/-- The signed number at an offset. -/
def fieldAtI (bs : List Byte) (off n : Nat) : Int := wrapS (8 * n) (fieldAt bs off n)

/-- A TS72 time from ticks and a fine part (00 R6): 72 bits, the fine part in the low eight. -/
def ts72 (ticks fine : Nat) : Nat := (ticks * 256 + fine) % 2 ^ 72

/-- TICKS of a TS72 value (00 Table 00-4). -/
def tsTicks (t : Nat) : Nat := t / 256 % 2 ^ 64

/-- FINE of a TS72 value (00 Table 00-4). -/
def tsFine (t : Nat) : Nat := t % 256

/-- The twelve bytes of a TS72 field (00 R6, R7): the upper 24 bits of the 96 are reserved and zero. -/
def tsBytes (t : Nat) : List Byte := leBytes 12 (t % 2 ^ 72)

/-- A TS72 time moved by a signed number of 3.125 ps units, in 72 bits. -/
def tsAdd (t : Nat) (d : Int) : Nat := (((t : Int) + d) % (2 ^ 72 : Int)).toNat

/-- The signed difference of two TS72 times, the shorter way round the 72-bit circle. -/
def tsDiff (a b : Nat) : Int := wrapS 72 ((a : Int) - (b : Int))

/-- One bit of a reflected CRC with polynomial `poly`. -/
def crcBit (poly c : Nat) : Nat := if c % 2 = 1 then (c / 2) ^^^ poly else c / 2

/-- `n` bits of a reflected CRC. -/
def crcBits (poly : Nat) : Nat → Nat → Nat
  | 0, c => c
  | n + 1, c => crcBits poly n (crcBit poly c)

/-- A reflected CRC register after the bytes `bs`. -/
def crcRun (poly : Nat) : Nat → List Byte → Nat
  | c, [] => c
  | c, b :: bs => crcRun poly (crcBits poly 8 (c ^^^ b.toNat)) bs

/-- CRC-32C (Castagnoli), reflected, initial value and final inversion all ones: the check word of the device's
frames, images, packets and journals (14 R304, 16 R348, 19 R405). -/
def crc32c (bs : List Byte) : Nat := crcRun 0x82F63B78 0xFFFFFFFF bs ^^^ 0xFFFFFFFF

/-- CRC-32 of IEEE 802.3, reflected (10 R220: the gzip trailer). -/
def crc32Ieee (bs : List Byte) : Nat := crcRun 0xEDB88320 0xFFFFFFFF bs ^^^ 0xFFFFFFFF

/-- The two sums of Adler-32. -/
def adlerRun : Nat → Nat → List Byte → Nat × Nat
  | a, b, [] => (a, b)
  | a, b, x :: xs =>
    let a' := (a + x.toNat) % 65521
    adlerRun a' ((b + a') % 65521) xs

/-- Adler-32 (10 R220: the zlib trailer). -/
def adler32 (bs : List Byte) : Nat :=
  let r := adlerRun 1 0 bs
  r.2 * 65536 + r.1

/-- The whole part of log2, 0 for 0. -/
def log2Floor (n : Nat) : Nat := Nat.log2 n

/-- The least `e` with `n ≤ 2 ^ e`. -/
def log2Ceil (n : Nat) : Nat := if n ≤ 1 then 0 else Nat.log2 (n - 1) + 1

/-- The sum of a list of integers. -/
def sumI (xs : List Int) : Int := xs.foldl (· + ·) 0

/-- The sum of a list of naturals. -/
def sumN (xs : List Nat) : Nat := xs.foldl (· + ·) 0

/-- The largest of a list of naturals, 0 for none. -/
def maxN (xs : List Nat) : Nat := xs.foldl max 0

/-- The element at an index, a stated default outside the list. -/
def nth {α : Type} (d : α) (xs : List α) (i : Nat) : α := (xs[i]?).getD d

/-- The list with its element at an index replaced. -/
def setNth {α : Type} (xs : List α) (i : Nat) (x : α) : List α := xs.set i x

/-- An insertion of a number into a sorted list. -/
def insertI (x : Int) : List Int → List Int
  | [] => [x]
  | y :: ys => if x ≤ y then x :: y :: ys else y :: insertI x ys

/-- A list of integers in rising order (medians, 04 R84, 17 R370). -/
def sortI (xs : List Int) : List Int := xs.foldr insertI []

end Sys2Proof.Machine
end

