-- ==== Sys2Proof/Machine/Sha.lean ====
section
/-! DEFINITION. Machine/Sha.lean: SHA-384, by which the spec names the digest of an image (20 R422, 09 R208). The spec gives the
name alone; the function is that of FIPS 180-4 (PRESUMED, log 7). -/

namespace Sys2Proof.Machine

/-- The round constants, rounds 0 to 39. -/
def shaKLow : List Nat :=
  [ 0x428A2F98D728AE22, 0x7137449123EF65CD, 0xB5C0FBCFEC4D3B2F, 0xE9B5DBA58189DBBC,
    0x3956C25BF348B538, 0x59F111F1B605D019, 0x923F82A4AF194F9B, 0xAB1C5ED5DA6D8118,
    0xD807AA98A3030242, 0x12835B0145706FBE, 0x243185BE4EE4B28C, 0x550C7DC3D5FFB4E2,
    0x72BE5D74F27B896F, 0x80DEB1FE3B1696B1, 0x9BDC06A725C71235, 0xC19BF174CF692694,
    0xE49B69C19EF14AD2, 0xEFBE4786384F25E3, 0x0FC19DC68B8CD5B5, 0x240CA1CC77AC9C65,
    0x2DE92C6F592B0275, 0x4A7484AA6EA6E483, 0x5CB0A9DCBD41FBD4, 0x76F988DA831153B5,
    0x983E5152EE66DFAB, 0xA831C66D2DB43210, 0xB00327C898FB213F, 0xBF597FC7BEEF0EE4,
    0xC6E00BF33DA88FC2, 0xD5A79147930AA725, 0x06CA6351E003826F, 0x142929670A0E6E70,
    0x27B70A8546D22FFC, 0x2E1B21385C26C926, 0x4D2C6DFC5AC42AED, 0x53380D139D95B3DF,
    0x650A73548BAF63DE, 0x766A0ABB3C77B2A8, 0x81C2C92E47EDAEE6, 0x92722C851482353B]

/-- The round constants, rounds 40 to 79. -/
def shaKHigh : List Nat :=
  [ 0xA2BFE8A14CF10364, 0xA81A664BBC423001, 0xC24B8B70D0F89791, 0xC76C51A30654BE30,
    0xD192E819D6EF5218, 0xD69906245565A910, 0xF40E35855771202A, 0x106AA07032BBD1B8,
    0x19A4C116B8D2D0C8, 0x1E376C085141AB53, 0x2748774CDF8EEB99, 0x34B0BCB5E19B48A8,
    0x391C0CB3C5C95A63, 0x4ED8AA4AE3418ACB, 0x5B9CCA4F7763E373, 0x682E6FF3D6B2B8A3,
    0x748F82EE5DEFB2FC, 0x78A5636F43172F60, 0x84C87814A1F0AB72, 0x8CC702081A6439EC,
    0x90BEFFFA23631E28, 0xA4506CEBDE82BDE9, 0xBEF9A3F7B2C67915, 0xC67178F2E372532B,
    0xCA273ECEEA26619C, 0xD186B8C721C0C207, 0xEADA7DD6CDE0EB1E, 0xF57D4F7FEE6ED178,
    0x06F067AA72176FBA, 0x0A637DC5A2C898A6, 0x113F9804BEF90DAE, 0x1B710B35131C471B,
    0x28DB77F523047D84, 0x32CAAB7B40C72493, 0x3C9EBE0A15C9BEBC, 0x431D67C49C100D4C,
    0x4CC5D4BECB3E42B6, 0x597F299CFC657E2A, 0x5FCB6FAB3AD6FAEC, 0x6C44198C4A475817]

/-- The eight words that the digest starts from. -/
def shaStart : List Nat :=
  [ 0xCBBB9D5DC1059ED8, 0x629A292A367CD507, 0x9159015A3070DD17, 0x152FECD8F70E5939,
    0x67332667FFC00B31, 0x8EB44A8768581511, 0xDB0C2E0D64F98FA7, 0x47B5481DBEFA4FA4]

/-- A sum of words, 64 bits. -/
def addW (a b : Nat) : Nat := (a + b) % 2 ^ 64

/-- A word turned right by `n` bits, 0 < n < 64. -/
def rotW (n x : Nat) : Nat := (x >>> n) ||| (x <<< (64 - n)) % 2 ^ 64

/-- Element i of a list of words. -/
def wordAt (ws : List Nat) (i : Nat) : Nat := ws[i]?.getD 0

/-- The next word of the schedule of a block, its words newest first. -/
def shaNext (ws : List Nat) : Nat :=
  let x := wordAt ws 14
  let y := wordAt ws 1
  addW (addW (rotW 1 x ^^^ rotW 8 x ^^^ x >>> 7) (wordAt ws 15)) (addW (rotW 19 y ^^^ rotW 61 y ^^^ y >>> 6) (wordAt ws 6))

/-- The schedule of a block, newest first, grown by `n` words. -/
def shaSchedule : Nat → List Nat → List Nat
  | 0, ws => ws
  | n + 1, ws => shaSchedule n (shaNext ws :: ws)

/-- One round: the eight working words, the round constant plus the schedule's word. -/
def shaRound (v : List Nat) (kw : Nat) : List Nat :=
  let a := wordAt v 0
  let b := wordAt v 1
  let c := wordAt v 2
  let e := wordAt v 4
  let f := wordAt v 5
  let g := wordAt v 6
  let ch := (e &&& f) ^^^ ((2 ^ 64 - 1 - e) &&& g)
  let maj := (a &&& b) ^^^ (a &&& c) ^^^ (b &&& c)
  let t1 := addW (addW (wordAt v 7) (rotW 14 e ^^^ rotW 18 e ^^^ rotW 41 e)) (addW ch kw)
  let t2 := addW (rotW 28 a ^^^ rotW 34 a ^^^ rotW 39 a) maj
  [addW t1 t2, a, b, c, addW (wordAt v 3) t1, e, f, g]

/-- The word of eight bytes, most significant first. -/
def beWord (bs : List Byte) : Nat := bs.foldl (fun x b => x * 256 + b.toNat) 0

/-- One block of 128 bytes taken into the digest's words. -/
def shaBlock (h : List Nat) (block : List Byte) : List Nat :=
  let first := (List.range 16).map (fun i => beWord ((block.drop (8 * i)).take 8))
  let ws := (shaSchedule 64 first.reverse).reverse
  let v := (((shaKLow ++ shaKHigh).zip ws).map (fun q => addW q.1 q.2)).foldl shaRound h
  (h.zip v).map (fun q => addW q.1 q.2)

/-- `n` blocks taken in. -/
def shaBlocks : Nat → List Nat → List Byte → List Nat
  | 0, h, _ => h
  | n + 1, h, bs => shaBlocks n (shaBlock h (bs.take 128)) (bs.drop 128)

/-- SHA-384 of a byte list: 48 bytes (20 R422, 09 R208). -/
def sha384 (bs : List Byte) : List Byte :=
  let m := bs ++ [0x80] ++ List.replicate ((239 - bs.length % 128) % 128) 0 ++ beBytes 16 (8 * bs.length)
  (((shaBlocks (m.length / 128) shaStart m).take 6).map (beBytes 8)).flatten

end Sys2Proof.Machine
end

