-- ==== Sys2Proof/Machine/Params.lean ====
section
/-! DEFINITION. Machine/Params.lean: the parameter items of every domain as the spec's item tables list them: number,
access, range column, reset value, applying command (15 R326, R329; the tables of each chapter). -/

namespace Sys2Proof.Machine

/-- One row of an item table: the domain, the item numbers it covers, the access (0 RO, 1 RW, 2 WO), the opcode of the
applying command (15 R329), the members of its range column as intervals (none: the column gives no range), and its reset
value. -/
structure Item where
  dom : Nat
  lo : Nat
  hi : Nat
  acc : Nat
  applyOp : Nat
  rng : List (Int × Int)
  reset : Int
  deriving DecidableEq, Repr

/-- Item MBX_ACCEPTED of domain 0x01 (R336, Table 15-13). -/
abbrev xMBX_ACCEPTED : Nat := 0x0080

/-- Item MBX_VIOLATIONS of domain 0x01 (R336, Table 15-13). -/
abbrev xMBX_VIOLATIONS : Nat := 0x0081

/-- Item MBX_MALFORMED of domain 0x01 (R336, Table 15-13). -/
abbrev xMBX_MALFORMED : Nat := 0x0082

/-- Item MBX_DEFERRED_NOW of domain 0x01 (R336, Table 15-13). -/
abbrev xMBX_DEFERRED_NOW : Nat := 0x0083

/-- Item LENGTH of domain 0x03 (R23, Table 01-5). -/
abbrev pLENGTH : Nat := 0x0001

/-- Item GROUP_INDEX of domain 0x03 (R23, Table 01-5). -/
abbrev pGROUP_INDEX : Nat := 0x0002

/-- Item SPACING_K of domain 0x03 (R23, Table 01-5). -/
abbrev pSPACING_K : Nat := 0x0003

/-- Item PLIES of domain 0x03 (R23, Table 01-5). -/
abbrev pPLIES : Nat := 0x0004

/-- Item SELVEDGE of domain 0x03 (R23, Table 01-5). -/
abbrev pSELVEDGE : Nat := 0x0005

/-- Item ORIGIN_TICKS of domain 0x03 (R23, Table 01-5). -/
abbrev pORIGIN_TICKS : Nat := 0x0006

/-- Item SWATCH_FIRST of domain 0x03 (R23, Table 01-5). -/
abbrev pSWATCH_FIRST : Nat := 0x0007

/-- Item SWATCH_COUNT of domain 0x03 (R23, Table 01-5). -/
abbrev pSWATCH_COUNT : Nat := 0x0008

/-- Item DUAL_ENDED of domain 0x03 (R23, Table 01-5). -/
abbrev pDUAL_ENDED : Nat := 0x0009

/-- Item BREAK_ENABLE of domain 0x03 (R23, Table 01-5). -/
abbrev pBREAK_ENABLE : Nat := 0x000A

/-- Item BREAK_DROP of domain 0x03 (R23, Table 01-5). -/
abbrev pBREAK_DROP : Nat := 0x000B

/-- Item BREAK_TAU of domain 0x03 (R23, Table 01-5). -/
abbrev pBREAK_TAU : Nat := 0x000C

/-- Item CHIRP_SAMPLES of domain 0x03 (R51, Table 02-7). -/
abbrev pCHIRP_SAMPLES : Nat := 0x0010

/-- Item TUKEY_ALPHA of domain 0x03 (R51, Table 02-7). -/
abbrev pTUKEY_ALPHA : Nat := 0x0011

/-- Item CHIRP_DIR of domain 0x03 (R51, Table 02-7). -/
abbrev pCHIRP_DIR : Nat := 0x0012

/-- Item LAUNCH_MODE of domain 0x03 (R51, Table 02-7). -/
abbrev pLAUNCH_MODE : Nat := 0x0013

/-- Item LAUNCH_TRIG of domain 0x03 (R51, Table 02-7). -/
abbrev pLAUNCH_TRIG : Nat := 0x0014

/-- Item LOCK_MULT of domain 0x03 (R51, Table 02-7). -/
abbrev pLOCK_MULT : Nat := 0x0015

/-- Item GATE_TAIL of domain 0x03 (R51, Table 02-7). -/
abbrev pGATE_TAIL : Nat := 0x0016

/-- Item DAC_SKEW of domain 0x03 (R51, Table 02-7). -/
abbrev pDAC_SKEW : Nat := 0x0017

/-- Item GATE_POL of domain 0x03 (R51, Table 02-7). -/
abbrev pGATE_POL : Nat := 0x0018

/-- Item TGATE_ENABLE of domain 0x03 (R51, Table 02-7). -/
abbrev pTGATE_ENABLE : Nat := 0x0019

/-- Item TGATE_WIDTH of domain 0x03 (R51, Table 02-7). -/
abbrev pTGATE_WIDTH : Nat := 0x001A

/-- Item TGATE_OFFSET of domain 0x03 (R51, Table 02-7). -/
abbrev pTGATE_OFFSET : Nat := 0x001B

/-- Item TGATE_EVERY of domain 0x03 (R51, Table 02-7). -/
abbrev pTGATE_EVERY : Nat := 0x001C

/-- Item PROOF_EVERY of domain 0x03 (R51, Table 02-7). -/
abbrev pPROOF_EVERY : Nat := 0x001D

/-- Item LMON_WINDOW_MIN of domain 0x03 (R51, Table 02-7). -/
abbrev pLMON_WINDOW_MIN : Nat := 0x001E

/-- Item LMON_WINDOW of domain 0x03 (R51, Table 02-7). -/
abbrev pLMON_WINDOW : Nat := 0x001F

/-- Item LAUNCH_LOG of domain 0x03 (R51, Table 02-7). -/
abbrev pLAUNCH_LOG : Nat := 0x0020

/-- Item IQ_GAIN of domain 0x03 (R51, Table 02-7). -/
abbrev pIQ_GAIN : Nat := 0x0021

/-- Item IQ_SKEW of domain 0x03 (R51, Table 02-7). -/
abbrev pIQ_SKEW : Nat := 0x0022

/-- Item OFFSET_I of domain 0x03 (R51, Table 02-7). -/
abbrev pOFFSET_I : Nat := 0x0023

/-- Item OFFSET_Q of domain 0x03 (R51, Table 02-7). -/
abbrev pOFFSET_Q : Nat := 0x0024

/-- Item SINC_COMP of domain 0x03 (R51, Table 02-7). -/
abbrev pSINC_COMP : Nat := 0x0025

/-- Item PLY_GAIN_j of domain 0x03 (R51, Table 02-7). -/
abbrev pPLY_GAIN : Nat := 0x0030

/-- Item RX_CH_DELAY_c of domain 0x03 (R77, Table 03-5). -/
abbrev pRX_CH_DELAY : Nat := 0x0040

/-- Item HYB_MODE of domain 0x03 (R77, Table 03-5). -/
abbrev pHYB_MODE : Nat := 0x0044

/-- Item HYB_TAU of domain 0x03 (R77, Table 03-5). -/
abbrev pHYB_TAU : Nat := 0x0045

/-- Item HYB_GAIN_X of domain 0x03 (R77, Table 03-5). -/
abbrev pHYB_GAIN_X : Nat := 0x0046

/-- Item HYB_QUAD_X of domain 0x03 (R77, Table 03-5). -/
abbrev pHYB_QUAD_X : Nat := 0x0047

/-- Item HYB_GAIN_Y of domain 0x03 (R77, Table 03-5). -/
abbrev pHYB_GAIN_Y : Nat := 0x0048

/-- Item HYB_QUAD_Y of domain 0x03 (R77, Table 03-5). -/
abbrev pHYB_QUAD_Y : Nat := 0x0049

/-- Item MF_WINDOW of domain 0x03 (R77, Table 03-5). -/
abbrev pMF_WINDOW : Nat := 0x004A

/-- Item MF_SHIFT of domain 0x03 (R77, Table 03-5). -/
abbrev pMF_SHIFT : Nat := 0x004B

/-- Item GAUGE of domain 0x03 (R98, Table 04-5). -/
abbrev pGAUGE : Nat := 0x0050

/-- Item PHASE_SIGN of domain 0x03 (R98, Table 04-5). -/
abbrev pPHASE_SIGN : Nat := 0x0051

/-- Item ALIGN_TAU of domain 0x03 (R98, Table 04-5). -/
abbrev pALIGN_TAU : Nat := 0x0052

/-- Item CM_ENABLE of domain 0x03 (R98, Table 04-5). -/
abbrev pCM_ENABLE : Nat := 0x0053

/-- Item CM_MIN of domain 0x03 (R98, Table 04-5). -/
abbrev pCM_MIN : Nat := 0x0054

/-- Item FADE_REL of domain 0x03 (R98, Table 04-5). -/
abbrev pFADE_REL : Nat := 0x0055

/-- Item FADE_ABS of domain 0x03 (R98, Table 04-5). -/
abbrev pFADE_ABS : Nat := 0x0056

/-- Item INTERP_MAX of domain 0x03 (R98, Table 04-5). -/
abbrev pINTERP_MAX : Nat := 0x0057

/-- Item MAG_TAU of domain 0x03 (R98, Table 04-5). -/
abbrev pMAG_TAU : Nat := 0x0058

/-- Item SPEC_ENABLE of domain 0x03 (R98, Table 04-5). -/
abbrev pSPEC_ENABLE : Nat := 0x0059

/-- Item SPEC_ROWS of domain 0x03 (R98, Table 04-5). -/
abbrev pSPEC_ROWS : Nat := 0x005A

/-- Item SPEC_SHIFT of domain 0x03 (R98, Table 04-5). -/
abbrev pSPEC_SHIFT : Nat := 0x005B

/-- Item RAMAN_ORIGIN of domain 0x03 (R128, Table 05-5). -/
abbrev pRAMAN_ORIGIN : Nat := 0x0060

/-- Item RAMAN_INT of domain 0x03 (R128, Table 05-5). -/
abbrev pRAMAN_INT : Nat := 0x0061

/-- Item RAMAN_AVG of domain 0x03 (R128, Table 05-5). -/
abbrev pRAMAN_AVG : Nat := 0x0062

/-- Item RAMAN_SMOOTH of domain 0x03 (R128, Table 05-5). -/
abbrev pRAMAN_SMOOTH : Nat := 0x0063

/-- Item RANGE_i of domain 0x03 (R128, Table 05-5). -/
abbrev pRANGE : Nat := 0x0064

/-- Item RSW_i of domain 0x03 (R128, Table 05-5). -/
abbrev pRSW : Nat := 0x0068

/-- Item DITHER_ENABLE of domain 0x03 (R128, Table 05-5). -/
abbrev pDITHER_ENABLE : Nat := 0x006B

/-- Item BG_ENABLE of domain 0x03 (R128, Table 05-5). -/
abbrev pBG_ENABLE : Nat := 0x006C

/-- Item APD_I_MIN of domain 0x03 (R128, Table 05-5). -/
abbrev pAPD_I_MIN : Nat := 0x006D

/-- Item APD_I_MAX of domain 0x03 (R128, Table 05-5). -/
abbrev pAPD_I_MAX : Nat := 0x006E

/-- Item RAMAN_DE of domain 0x03 (R128, Table 05-5). -/
abbrev pRAMAN_DE : Nat := 0x006F

/-- Item RAMAN_GAMMA of domain 0x03 (R128, Table 05-5). -/
abbrev pRAMAN_GAMMA : Nat := 0x0070

/-- Item RAMAN_DALPHA of domain 0x03 (R128, Table 05-5). -/
abbrev pRAMAN_DALPHA : Nat := 0x0071

/-- Item RAMAN_REF_ENTRY of domain 0x03 (R128, Table 05-5). -/
abbrev pRAMAN_REF_ENTRY : Nat := 0x0072

/-- Item REF_HOLD of domain 0x03 (R128, Table 05-5). -/
abbrev pREF_HOLD : Nat := 0x0073

/-- Item RAMAN_C_FIXED of domain 0x03 (R128, Table 05-5). -/
abbrev pRAMAN_C_FIXED : Nat := 0x0074

/-- Item WAVELENGTH of domain 0x03 (R128, Table 05-5). -/
abbrev pWAVELENGTH : Nat := 0x0075

/-- Item FUSE_MODE of domain 0x03 (R128, Table 05-5). -/
abbrev pFUSE_MODE : Nat := 0x0076

/-- Item FUSE_KT of domain 0x03 (R128, Table 05-5). -/
abbrev pFUSE_KT : Nat := 0x0077

/-- Item FUSE_TAU of domain 0x03 (R128, Table 05-5). -/
abbrev pFUSE_TAU : Nat := 0x0078

/-- Item FUSE_TAU_FAST of domain 0x03 (R128, Table 05-5). -/
abbrev pFUSE_TAU_FAST : Nat := 0x0079

/-- Item FUSE_HOLD of domain 0x03 (R128, Table 05-5). -/
abbrev pFUSE_HOLD : Nat := 0x007A

/-- Item SPEC_BRIDGE_MAX of domain 0x03 (R128, Table 05-5). -/
abbrev pSPEC_BRIDGE_MAX : Nat := 0x007B

/-- Item FS_ZERO of domain 0x03 (R128, Table 05-5). -/
abbrev pFS_ZERO : Nat := 0x007C

/-- Item SHOT_TICKS of domain 0x03 (R23, Table 01-5). -/
abbrev pSHOT_TICKS : Nat := 0x0080

/-- Item STITCH_COUNT of domain 0x03 (R23, Table 01-5). -/
abbrev pSTITCH_COUNT : Nat := 0x0081

/-- Item EFF_RATE of domain 0x03 (R23, Table 01-5). -/
abbrev pEFF_RATE : Nat := 0x0082

/-- Item STITCH_RATE of domain 0x03 (R23, Table 01-5). -/
abbrev pSTITCH_RATE : Nat := 0x0083

/-- Item OPEN_SELVEDGE of domain 0x03 (R23, Table 01-5). -/
abbrev pOPEN_SELVEDGE : Nat := 0x0084

/-- Item DUAL_DELTA of domain 0x03 (R23, Table 01-5). -/
abbrev pDUAL_DELTA : Nat := 0x0085

/-- Item BREAK_STITCH of domain 0x03 (R23, Table 01-5). -/
abbrev pBREAK_STITCH : Nat := 0x0086

/-- Item BREAK_STATE of domain 0x03 (R23, Table 01-5). -/
abbrev pBREAK_STATE : Nat := 0x0087

/-- Item LAUNCH_DELAY of domain 0x03 (R51, Table 02-7). -/
abbrev pLAUNCH_DELAY : Nat := 0x0088

/-- Item LMON_MISSED of domain 0x03 (R51, Table 02-7). -/
abbrev pLMON_MISSED : Nat := 0x0089

/-- Item TRIG_EARLY of domain 0x03 (R51, Table 02-7). -/
abbrev pTRIG_EARLY : Nat := 0x008A

/-- Item LOCK_STATE of domain 0x03 (R51, Table 02-7). -/
abbrev pLOCK_STATE : Nat := 0x008B

/-- Item REF_PERIOD of domain 0x03 (R51, Table 02-7). -/
abbrev pREF_PERIOD : Nat := 0x008C

/-- Item DAC_SAT of domain 0x03 (R51, Table 02-7). -/
abbrev pDAC_SAT : Nat := 0x008D

/-- Item PORT_STATE of domain 0x03 (R51, Table 02-7). -/
abbrev pPORT_STATE : Nat := 0x008E

/-- Item SLICE_MAP_c of domain 0x03 (R77, Table 03-5). -/
abbrev pSLICE_MAP : Nat := 0x0090

/-- Item SPARES_LEFT of domain 0x03 (R77, Table 03-5). -/
abbrev pSPARES_LEFT : Nat := 0x0094

/-- Item ADC_CLIP of domain 0x03 (R77, Table 03-5). -/
abbrev pADC_CLIP : Nat := 0x0095

/-- Item HYB_GAIN_EST of domain 0x03 (R77, Table 03-5). -/
abbrev pHYB_GAIN_EST : Nat := 0x0096

/-- Item HYB_QUAD_EST of domain 0x03 (R77, Table 03-5). -/
abbrev pHYB_QUAD_EST : Nat := 0x0097

/-- Item HYB_MEAN_EST of domain 0x03 (R77, Table 03-5). -/
abbrev pHYB_MEAN_EST : Nat := 0x0098

/-- Item MF_SHIFT_USED of domain 0x03 (R77, Table 03-5). -/
abbrev pMF_SHIFT_USED : Nat := 0x0099

/-- Item MF_SAT of domain 0x03 (R77, Table 03-5). -/
abbrev pMF_SAT : Nat := 0x009A

/-- Item REF_LEN of domain 0x03 (R77, Table 03-5). -/
abbrev pREF_LEN : Nat := 0x009B

/-- Item MF_PARTITIONS of domain 0x03 (R77, Table 03-5). -/
abbrev pMF_PARTITIONS : Nat := 0x009C

/-- Item SPAN_INVALIDS of domain 0x03 (R77, Table 03-5). -/
abbrev pSPAN_INVALIDS : Nat := 0x009D

/-- Item CM_LAST of domain 0x03 (R98, Table 04-5). -/
abbrev pCM_LAST : Nat := 0x00A0

/-- Item CM_HELD of domain 0x03 (R98, Table 04-5). -/
abbrev pCM_HELD : Nat := 0x00A1

/-- Item FADED_COUNT of domain 0x03 (R98, Table 04-5). -/
abbrev pFADED_COUNT : Nat := 0x00A2

/-- Item INTERP_COUNT of domain 0x03 (R98, Table 04-5). -/
abbrev pINTERP_COUNT : Nat := 0x00A3

/-- Item DISCONT_COUNT of domain 0x03 (R98, Table 04-5). -/
abbrev pDISCONT_COUNT : Nat := 0x00A4

/-- Item STALE_STITCHES of domain 0x03 (R98, Table 04-5). -/
abbrev pSTALE_STITCHES : Nat := 0x00A5

/-- Item RAMAN_SAT of domain 0x03 (R128, Table 05-5). -/
abbrev pRAMAN_SAT : Nat := 0x00B0

/-- Item RAMAN_LAST_WINDOWS of domain 0x03 (R128, Table 05-5). -/
abbrev pRAMAN_LAST_WINDOWS : Nat := 0x00B1

/-- Item APD_I_AS of domain 0x03 (R128, Table 05-5). -/
abbrev pAPD_I_AS : Nat := 0x00B2

/-- Item APD_I_ST of domain 0x03 (R128, Table 05-5). -/
abbrev pAPD_I_ST : Nat := 0x00B3

/-- Item RAMAN_C_EST of domain 0x03 (R128, Table 05-5). -/
abbrev pRAMAN_C_EST : Nat := 0x00B4

/-- Item DALPHA_EST of domain 0x03 (R128, Table 05-5). -/
abbrev pDALPHA_EST : Nat := 0x00B5

/-- Item REF_TEMP of domain 0x03 (R128, Table 05-5). -/
abbrev pREF_TEMP : Nat := 0x00B6

/-- Item SPEC_LOST_COUNT of domain 0x03 (R128, Table 05-5). -/
abbrev pSPEC_LOST_COUNT : Nat := 0x00B7

/-- Item RG_USED of domain 0x03 (R128, Table 05-5). -/
abbrev pRG_USED : Nat := 0x00B8

/-- Item PORT of domain 0x04 (R130, Table 06-1). -/
abbrev zPORT : Nat := 0x0001

/-- Item PRODUCT of domain 0x04 (R130, Table 06-1). -/
abbrev zPRODUCT : Nat := 0x0002

/-- Item FIRST_STITCH of domain 0x04 (R130, Table 06-1). -/
abbrev zFIRST_STITCH : Nat := 0x0003

/-- Item STITCH_COUNT of domain 0x04 (R130, Table 06-1). -/
abbrev zSTITCH_COUNT : Nat := 0x0004

/-- Item STRIDE of domain 0x04 (R130, Table 06-1). -/
abbrev zSTRIDE : Nat := 0x0005

/-- Item DECIM of domain 0x04 (R130, Table 06-1). -/
abbrev zDECIM : Nat := 0x0006

/-- Item PRESET of domain 0x04 (R130, Table 06-1). -/
abbrev zPRESET : Nat := 0x0007

/-- Item MIN_PHASE of domain 0x04 (R130, Table 06-1). -/
abbrev zMIN_PHASE : Nat := 0x0008

/-- Item SHIFT_i of domain 0x04 (R130, Table 06-1). -/
abbrev zSHIFT : Nat := 0x0009

/-- Item DC_SHIFT of domain 0x04 (R130, Table 06-1). -/
abbrev zDC_SHIFT : Nat := 0x0013

/-- Item OUT_WIDTH of domain 0x04 (R130, Table 06-1). -/
abbrev zOUT_WIDTH : Nat := 0x0014

/-- Item COMPRESS of domain 0x04 (R130, Table 06-1). -/
abbrev zCOMPRESS : Nat := 0x0015

/-- Item FRAME_MAX of domain 0x04 (R130, Table 06-1). -/
abbrev zFRAME_MAX : Nat := 0x0016

/-- Item FRAME_BYTES of domain 0x04 (R130, Table 06-1). -/
abbrev zFRAME_BYTES : Nat := 0x0017

/-- Item DET_ENABLE_d of domain 0x04 (R150, Table 07-1). -/
abbrev zDET_ENABLE : Nat := 0x0020

/-- Item DET_BAND_LO_d of domain 0x04 (R150, Table 07-1). -/
abbrev zDET_BAND_LO : Nat := 0x0021

/-- Item DET_BAND_HI_d of domain 0x04 (R150, Table 07-1). -/
abbrev zDET_BAND_HI : Nat := 0x0022

/-- Item DET_WIN_d of domain 0x04 (R150, Table 07-1). -/
abbrev zDET_WIN : Nat := 0x0023

/-- Item DET_AGG_d of domain 0x04 (R150, Table 07-1). -/
abbrev zDET_AGG : Nat := 0x0024

/-- Item DET_LEVEL_d of domain 0x04 (R150, Table 07-1). -/
abbrev zDET_LEVEL : Nat := 0x0025

/-- Item DET_HYST_d of domain 0x04 (R150, Table 07-1). -/
abbrev zDET_HYST : Nat := 0x0026

/-- Item DET_EDGE_d of domain 0x04 (R150, Table 07-1). -/
abbrev zDET_EDGE : Nat := 0x0027

/-- Item ZONE_STATE of domain 0x04 (R130, Table 06-1). -/
abbrev zZONE_STATE : Nat := 0x0080

/-- Item DC_FROZEN of domain 0x04 (R130, Table 06-1). -/
abbrev zDC_FROZEN : Nat := 0x0081

/-- Item SAMPLE_PERIOD_LO of domain 0x04 (R130, Table 06-1). -/
abbrev zSAMPLE_PERIOD_LO : Nat := 0x0082

/-- Item SAMPLE_PERIOD_HI of domain 0x04 (R130, Table 06-1). -/
abbrev zSAMPLE_PERIOD_HI : Nat := 0x0083

/-- Item GROUP_DELAY of domain 0x04 (R130, Table 06-1). -/
abbrev zGROUP_DELAY : Nat := 0x0084

/-- Item WARMUP_LEFT of domain 0x04 (R130, Table 06-1). -/
abbrev zWARMUP_LEFT : Nat := 0x0085

/-- Item ZONE_LOAD of domain 0x04 (R130, Table 06-1). -/
abbrev zZONE_LOAD : Nat := 0x0086

/-- Item FRAMES_OUT of domain 0x04 (R130, Table 06-1). -/
abbrev zFRAMES_OUT : Nat := 0x0087

/-- Item SAMPLES_OUT of domain 0x04 (R130, Table 06-1). -/
abbrev zSAMPLES_OUT : Nat := 0x0088

/-- Item GAP_COUNT of domain 0x04 (R130, Table 06-1). -/
abbrev zGAP_COUNT : Nat := 0x0089

/-- Item SAT_COUNT of domain 0x04 (R130, Table 06-1). -/
abbrev zSAT_COUNT : Nat := 0x008A

/-- Item DET_STATE of domain 0x04 (R150, Table 07-1). -/
abbrev zDET_STATE : Nat := 0x008B

/-- Item DET_ENERGY_d of domain 0x04 (R150, Table 07-1). -/
abbrev zDET_ENERGY : Nat := 0x008C

/-- Item SOURCE_KIND of domain 0x05 (R159, Table 07-4). -/
abbrev kSOURCE_KIND : Nat := 0x0001

/-- Item SOURCE_ZONE of domain 0x05 (R159, Table 07-4). -/
abbrev kSOURCE_ZONE : Nat := 0x0002

/-- Item RAW_FIRST_STITCH of domain 0x05 (R159, Table 07-4). -/
abbrev kRAW_FIRST_STITCH : Nat := 0x0003

/-- Item RAW_STITCH_COUNT of domain 0x05 (R159, Table 07-4). -/
abbrev kRAW_STITCH_COUNT : Nat := 0x0004

/-- Item RAW_PLY_MASK of domain 0x05 (R159, Table 07-4). -/
abbrev kRAW_PLY_MASK : Nat := 0x0005

/-- Item PRE of domain 0x05 (R159, Table 07-4). -/
abbrev kPRE : Nat := 0x0006

/-- Item POST of domain 0x05 (R159, Table 07-4). -/
abbrev kPOST : Nat := 0x0007

/-- Item RING_KIB of domain 0x05 (R159, Table 07-4). -/
abbrev kRING_KIB : Nat := 0x0008

/-- Item HANK_DEPTH of domain 0x05 (R159, Table 07-4). -/
abbrev kHANK_DEPTH : Nat := 0x0009

/-- Item ONESHOT of domain 0x05 (R159, Table 07-4). -/
abbrev kONESHOT : Nat := 0x000A

/-- Item TRIG_DET_n of domain 0x05 (R159, Table 07-4). -/
abbrev kTRIG_DET : Nat := 0x000B

/-- Item TRIGIN_MASK of domain 0x05 (R159, Table 07-4). -/
abbrev kTRIGIN_MASK : Nat := 0x000F

/-- Item SOFT_ENABLE of domain 0x05 (R159, Table 07-4). -/
abbrev kSOFT_ENABLE : Nat := 0x0010

/-- Item TRIGOUT_SEL of domain 0x05 (R159, Table 07-4). -/
abbrev kTRIGOUT_SEL : Nat := 0x0011

/-- Item TRIGOUT_WIDTH of domain 0x05 (R159, Table 07-4). -/
abbrev kTRIGOUT_WIDTH : Nat := 0x0012

/-- Item SKEIN_STATE of domain 0x05 (R159, Table 07-4). -/
abbrev kSKEIN_STATE : Nat := 0x0080

/-- Item HANKS_HELD of domain 0x05 (R159, Table 07-4). -/
abbrev kHANKS_HELD : Nat := 0x0081

/-- Item HANK_SEQ_NEXT of domain 0x05 (R159, Table 07-4). -/
abbrev kHANK_SEQ_NEXT : Nat := 0x0082

/-- Item MISSED_COUNT of domain 0x05 (R159, Table 07-4). -/
abbrev kMISSED_COUNT : Nat := 0x0083

/-- Item PRE_AVAILABLE of domain 0x05 (R159, Table 07-4). -/
abbrev kPRE_AVAILABLE : Nat := 0x0084

/-- Item HANK_BYTES of domain 0x05 (R159, Table 07-4). -/
abbrev kHANK_BYTES : Nat := 0x0085

/-- Item SEG_RATE of domain 0x05 (R159, Table 07-4). -/
abbrev kSEG_RATE : Nat := 0x0086

/-- Item INCAP_LOST of domain 0x05 (R159, Table 07-4). -/
abbrev kINCAP_LOST : Nat := 0x0087

/-- Item PPS_MODE of domain 0x06 (R191, Table 08-4). -/
abbrev tPPS_MODE : Nat := 0x0001

/-- Item PPS_DELAY of domain 0x06 (R191, Table 08-4). -/
abbrev tPPS_DELAY : Nat := 0x0002

/-- Item PPS_TUNE_SD of domain 0x06 (R191, Table 08-4). -/
abbrev tPPS_TUNE_SD : Nat := 0x0003

/-- Item PPS_TUNE_GAIN of domain 0x06 (R191, Table 08-4). -/
abbrev tPPS_TUNE_GAIN : Nat := 0x0004

/-- Item PPS_LOOP_TAU of domain 0x06 (R191, Table 08-4). -/
abbrev tPPS_LOOP_TAU : Nat := 0x0005

/-- Item PPS_OUT_ENABLE of domain 0x06 (R191, Table 08-4). -/
abbrev tPPS_OUT_ENABLE : Nat := 0x0006

/-- Item PPS_OUT_WIDTH of domain 0x06 (R191, Table 08-4). -/
abbrev tPPS_OUT_WIDTH : Nat := 0x0007

/-- Item PTM_PERIOD of domain 0x06 (R191, Table 08-4). -/
abbrev tPTM_PERIOD : Nat := 0x0008

/-- Item TDC_AUTOCAL of domain 0x06 (R191, Table 08-4). -/
abbrev tTDC_AUTOCAL : Nat := 0x000B

/-- Item TDC_ENABLE of domain 0x06 (R191, Table 08-4). -/
abbrev tTDC_ENABLE : Nat := 0x0010

/-- Item TDC_EDGE of domain 0x06 (R191, Table 08-4). -/
abbrev tTDC_EDGE : Nat := 0x0011

/-- Item TDC_THRESH of domain 0x06 (R191, Table 08-4). -/
abbrev tTDC_THRESH : Nat := 0x0012

/-- Item TDC_HYST of domain 0x06 (R191, Table 08-4). -/
abbrev tTDC_HYST : Nat := 0x0013

/-- Item TDC_HOLDOFF of domain 0x06 (R191, Table 08-4). -/
abbrev tTDC_HOLDOFF : Nat := 0x0014

/-- Item TDC_DELAY of domain 0x06 (R191, Table 08-4). -/
abbrev tTDC_DELAY : Nat := 0x0015

/-- Item TDC_LOG of domain 0x06 (R191, Table 08-4). -/
abbrev tTDC_LOG : Nat := 0x0016

/-- Item TDC_GATE_SEL of domain 0x06 (R191, Table 08-4). -/
abbrev tTDC_GATE_SEL : Nat := 0x0017

/-- Item PPS_STATE of domain 0x06 (R191, Table 08-4). -/
abbrev tPPS_STATE : Nat := 0x0080

/-- Item PPS_OFFSET of domain 0x06 (R191, Table 08-4). -/
abbrev tPPS_OFFSET : Nat := 0x0081

/-- Item PPS_FREQ_ERR of domain 0x06 (R191, Table 08-4). -/
abbrev tPPS_FREQ_ERR : Nat := 0x0082

/-- Item PPS_TUNE_DUTY of domain 0x06 (R191, Table 08-4). -/
abbrev tPPS_TUNE_DUTY : Nat := 0x0083

/-- Item PPS_REJECTS of domain 0x06 (R191, Table 08-4). -/
abbrev tPPS_REJECTS : Nat := 0x0084

/-- Item EDGES_ACCEPTED of domain 0x06 (R191, Table 08-4). -/
abbrev tEDGES_ACCEPTED : Nat := 0x0090

/-- Item EDGES_LOST of domain 0x06 (R191, Table 08-4). -/
abbrev tEDGES_LOST : Nat := 0x0091

/-- Item HOLDOFF_COUNT of domain 0x06 (R191, Table 08-4). -/
abbrev tHOLDOFF_COUNT : Nat := 0x0092

/-- Item EDGES_OVFL of domain 0x06 (R191, Table 08-4). -/
abbrev tEDGES_OVFL : Nat := 0x0093

/-- Item CORES_IN_SERVICE of domain 0x06 (R191, Table 08-4). -/
abbrev tCORES_IN_SERVICE : Nat := 0x0094

/-- Item CHART_LENGTH of domain 0x07 (R261, Table 11-8). -/
abbrev fCHART_LENGTH : Nat := 0x0001

/-- Item CHART_AUTORUN of domain 0x07 (R261, Table 11-8). -/
abbrev fCHART_AUTORUN : Nat := 0x0002

/-- Item FE_AUTOCAL of domain 0x07 (R261, Table 11-8). -/
abbrev fFE_AUTOCAL : Nat := 0x0003

/-- Item FE_LOG of domain 0x07 (R261, Table 11-8). -/
abbrev fFE_LOG : Nat := 0x0004

/-- Item RTD_R0 of domain 0x07 (R261, Table 11-8). -/
abbrev fRTD_R0 : Nat := 0x0010

/-- Item NTC_R25 of domain 0x07 (R261, Table 11-8). -/
abbrev fNTC_R25 : Nat := 0x0011

/-- Item NTC_BETA of domain 0x07 (R261, Table 11-8). -/
abbrev fNTC_BETA : Nat := 0x0012

/-- Item LEAD_OHMS of domain 0x07 (R261, Table 11-8). -/
abbrev fLEAD_OHMS : Nat := 0x0013

/-- Item LOOP_MODE of domain 0x07 (R261, Table 11-8). -/
abbrev fLOOP_MODE : Nat := 0x0040

/-- Item LOOP_ZONE of domain 0x07 (R261, Table 11-8). -/
abbrev fLOOP_ZONE : Nat := 0x0041

/-- Item LOOP_AGG of domain 0x07 (R261, Table 11-8). -/
abbrev fLOOP_AGG : Nat := 0x0042

/-- Item LOOP_STITCH of domain 0x07 (R261, Table 11-8). -/
abbrev fLOOP_STITCH : Nat := 0x0043

/-- Item LOOP_LO of domain 0x07 (R261, Table 11-8). -/
abbrev fLOOP_LO : Nat := 0x0044

/-- Item LOOP_HI of domain 0x07 (R261, Table 11-8). -/
abbrev fLOOP_HI : Nat := 0x0045

/-- Item LOOP_FAIL_DIR of domain 0x07 (R261, Table 11-8). -/
abbrev fLOOP_FAIL_DIR : Nat := 0x0046

/-- Item LOOP_FAIL_SEV of domain 0x07 (R261, Table 11-8). -/
abbrev fLOOP_FAIL_SEV : Nat := 0x0047

/-- Item LOOP_HOLD of domain 0x07 (R261, Table 11-8). -/
abbrev fLOOP_HOLD : Nat := 0x0048

/-- Item LOOP_TRIM_GAIN of domain 0x07 (R261, Table 11-8). -/
abbrev fLOOP_TRIM_GAIN : Nat := 0x0049

/-- Item LOOP_TRIM_OFS of domain 0x07 (R261, Table 11-8). -/
abbrev fLOOP_TRIM_OFS : Nat := 0x004A

/-- Item REFX_NOM of domain 0x07 (R261, Table 11-8). -/
abbrev fREFX_NOM : Nat := 0x004B

/-- Item CHART_STATE of domain 0x07 (R261, Table 11-8). -/
abbrev fCHART_STATE : Nat := 0x0080

/-- Item CHART_ENTRY of domain 0x07 (R261, Table 11-8). -/
abbrev fCHART_ENTRY : Nat := 0x0081

/-- Item INJECT_QUEUED of domain 0x07 (R261, Table 11-8). -/
abbrev fINJECT_QUEUED : Nat := 0x0082

/-- Item FE_CAL_STATE of domain 0x07 (R261, Table 11-8). -/
abbrev fFE_CAL_STATE : Nat := 0x0083

/-- Item DISCARDED of domain 0x07 (R261, Table 11-8). -/
abbrev fDISCARDED : Nat := 0x0084

/-- Item RESULT_VALUE of domain 0x07 (R261, Table 11-8). -/
abbrev fRESULT_VALUE : Nat := 0x0090

/-- Item RESULT_CODE of domain 0x07 (R261, Table 11-8). -/
abbrev fRESULT_CODE : Nat := 0x0091

/-- Item RESULT_FLAGS of domain 0x07 (R261, Table 11-8). -/
abbrev fRESULT_FLAGS : Nat := 0x0092

/-- Item RESULT_LEADS of domain 0x07 (R261, Table 11-8). -/
abbrev fRESULT_LEADS : Nat := 0x0093

/-- Item RESULT_TICKS_LO of domain 0x07 (R261, Table 11-8). -/
abbrev fRESULT_TICKS_LO : Nat := 0x0094

/-- Item RESULT_TICKS_HI of domain 0x07 (R261, Table 11-8). -/
abbrev fRESULT_TICKS_HI : Nat := 0x0095

/-- Item LOOP_STATE of domain 0x07 (R261, Table 11-8). -/
abbrev fLOOP_STATE : Nat := 0x00C0

/-- Item LOOP_SET of domain 0x07 (R261, Table 11-8). -/
abbrev fLOOP_SET : Nat := 0x00C1

/-- Item LOOP_MEAS of domain 0x07 (R261, Table 11-8). -/
abbrev fLOOP_MEAS : Nat := 0x00C2

/-- Item REFX_MEAS of domain 0x07 (R261, Table 11-8). -/
abbrev fREFX_MEAS : Nat := 0x00C3

/-- Item SD_KIND of domain 0x08 (R278, Table 12-6). -/
abbrev dSD_KIND : Nat := 0x0001

/-- Item SD_BITS of domain 0x08 (R278, Table 12-6). -/
abbrev dSD_BITS : Nat := 0x0002

/-- Item SD_MODE of domain 0x08 (R278, Table 12-6). -/
abbrev dSD_MODE : Nat := 0x0003

/-- Item SD_SET of domain 0x08 (R278, Table 12-6). -/
abbrev dSD_SET : Nat := 0x0004

/-- Item SD_MIN of domain 0x08 (R278, Table 12-6). -/
abbrev dSD_MIN : Nat := 0x0005

/-- Item SD_MAX of domain 0x08 (R278, Table 12-6). -/
abbrev dSD_MAX : Nat := 0x0006

/-- Item SD_SLEW of domain 0x08 (R278, Table 12-6). -/
abbrev dSD_SLEW : Nat := 0x0007

/-- Item SD_SAFE of domain 0x08 (R278, Table 12-6). -/
abbrev dSD_SAFE : Nat := 0x0008

/-- Item SD_POL of domain 0x08 (R278, Table 12-6). -/
abbrev dSD_POL : Nat := 0x0009

/-- Item SD_TABLE of domain 0x08 (R278, Table 12-6). -/
abbrev dSD_TABLE : Nat := 0x000A

/-- Item SD_FB_ENTRY of domain 0x08 (R278, Table 12-6). -/
abbrev dSD_FB_ENTRY : Nat := 0x000B

/-- Item SD_TARGET of domain 0x08 (R278, Table 12-6). -/
abbrev dSD_TARGET : Nat := 0x000C

/-- Item SD_KP of domain 0x08 (R278, Table 12-6). -/
abbrev dSD_KP : Nat := 0x000D

/-- Item SD_KI of domain 0x08 (R278, Table 12-6). -/
abbrev dSD_KI : Nat := 0x000E

/-- Item SD_FB_HOLD of domain 0x08 (R278, Table 12-6). -/
abbrev dSD_FB_HOLD : Nat := 0x000F

/-- Item SD_TLIMIT of domain 0x08 (R278, Table 12-6). -/
abbrev dSD_TLIMIT : Nat := 0x0010

/-- Item SD_PORT of domain 0x08 (R278, Table 12-6). -/
abbrev dSD_PORT : Nat := 0x0011

/-- Item ISNS_ENABLE of domain 0x08 (R278, Table 12-6). -/
abbrev dISNS_ENABLE : Nat := 0x0020

/-- Item ISNS_THRESH_RUN of domain 0x08 (R278, Table 12-6). -/
abbrev dISNS_THRESH_RUN : Nat := 0x0021

/-- Item ISNS_THRESH_PROOF of domain 0x08 (R278, Table 12-6). -/
abbrev dISNS_THRESH_PROOF : Nat := 0x0022

/-- Item ISNS_BLANK of domain 0x08 (R278, Table 12-6). -/
abbrev dISNS_BLANK : Nat := 0x0023

/-- Item GATE_PROOF_SD of domain 0x08 (R278, Table 12-6). -/
abbrev dGATE_PROOF_SD : Nat := 0x0024

/-- Item GATE_PROOF_UA of domain 0x08 (R278, Table 12-6). -/
abbrev dGATE_PROOF_UA : Nat := 0x0025

/-- Item GATE_PROOF_FS_UA of domain 0x08 (R278, Table 12-6). -/
abbrev dGATE_PROOF_FS_UA : Nat := 0x0026

/-- Item SD_STATE of domain 0x08 (R278, Table 12-6). -/
abbrev dSD_STATE : Nat := 0x0080

/-- Item SD_PRESENT of domain 0x08 (R278, Table 12-6). -/
abbrev dSD_PRESENT : Nat := 0x0081

/-- Item SD_TARGET_NOW of domain 0x08 (R278, Table 12-6). -/
abbrev dSD_TARGET_NOW : Nat := 0x0082

/-- Item SD_COUNT of domain 0x08 (R278, Table 12-6). -/
abbrev dSD_COUNT : Nat := 0x0083

/-- Item SD_COMP_Y of domain 0x08 (R278, Table 12-6). -/
abbrev dSD_COMP_Y : Nat := 0x0084

/-- Item GATE_TESTS of domain 0x08 (R278, Table 12-6). -/
abbrev dGATE_TESTS : Nat := 0x0090

/-- Item GATE_FAILS of domain 0x08 (R278, Table 12-6). -/
abbrev dGATE_FAILS : Nat := 0x0091

/-- Item GATE_DIAG of domain 0x08 (R278, Table 12-6). -/
abbrev dGATE_DIAG : Nat := 0x0092

/-- Item ADC_AUTOCAL of domain 0x09 (R412, Table 19-8). -/
abbrev aADC_AUTOCAL : Nat := 0x0001

/-- Item SPARE_TEST_PERIOD of domain 0x09 (R412, Table 19-8). -/
abbrev aSPARE_TEST_PERIOD : Nat := 0x0002

/-- Item SRAM_REPAIR_COUNT of domain 0x09 (R412, Table 19-8). -/
abbrev aSRAM_REPAIR_COUNT : Nat := 0x0003

/-- Item SLICE_AGE_MAX of domain 0x09 (R412, Table 19-8). -/
abbrev aSLICE_AGE_MAX : Nat := 0x0080

/-- Item SLICE_STEPS of domain 0x09 (R412, Table 19-8). -/
abbrev aSLICE_STEPS : Nat := 0x0081

/-- Item SLICE_FAILS of domain 0x09 (R412, Table 19-8). -/
abbrev aSLICE_FAILS : Nat := 0x0082

/-- Item SRAM_SPARES_MIN of domain 0x09 (R412, Table 19-8). -/
abbrev aSRAM_SPARES_MIN : Nat := 0x0083

/-- Item SRAM_REPAIRS of domain 0x09 (R412, Table 19-8). -/
abbrev aSRAM_REPAIRS : Nat := 0x0084

/-- Item REPAIR_ENTRIES of domain 0x09 (R412, Table 19-8). -/
abbrev aREPAIR_ENTRIES : Nat := 0x0085

/-- Item REPAIR_UNSTORED of domain 0x09 (R412, Table 19-8). -/
abbrev aREPAIR_UNSTORED : Nat := 0x0086

/-- Item NVM_U_GENERATION of domain 0x09 (R412, Table 19-8). -/
abbrev aNVM_U_GENERATION : Nat := 0x0087

/-- Item NVM_U_WRITES of domain 0x09 (R412, Table 19-8). -/
abbrev aNVM_U_WRITES : Nat := 0x0088

/-- Item PAIR_ENABLE of domain 0x0B (R375, Table 17-8). -/
abbrev lPAIR_ENABLE : Nat := 0x0001

/-- Item PAIR_RELEASE_SEV of domain 0x0B (R375, Table 17-8). -/
abbrev lPAIR_RELEASE_SEV : Nat := 0x0002

/-- Item PEER_LOSS_US of domain 0x0B (R375, Table 17-8). -/
abbrev lPEER_LOSS_US : Nat := 0x0003

/-- Item PAIR_SWITCH_US of domain 0x0B (R375, Table 17-8). -/
abbrev lPAIR_SWITCH_US : Nat := 0x0004

/-- Item QTEST_MARGIN of domain 0x0B (R375, Table 17-8). -/
abbrev lQTEST_MARGIN : Nat := 0x0005

/-- Item PL_ENABLE of domain 0x0B (R354, Table 16-7). -/
abbrev lPL_ENABLE : Nat := 0x0040

/-- Item PL_LANES_MIN of domain 0x0B (R354, Table 16-7). -/
abbrev lPL_LANES_MIN : Nat := 0x0041

/-- Item PL_TX_SWING of domain 0x0B (R354, Table 16-7). -/
abbrev lPL_TX_SWING : Nat := 0x0042

/-- Item PL_TX_DEEMPH of domain 0x0B (R354, Table 16-7). -/
abbrev lPL_TX_DEEMPH : Nat := 0x0043

/-- Item PL_CTLE_FIX of domain 0x0B (R354, Table 16-7). -/
abbrev lPL_CTLE_FIX : Nat := 0x0044

/-- Item PL_ERR_LIMIT of domain 0x0B (R354, Table 16-7). -/
abbrev lPL_ERR_LIMIT : Nat := 0x0045

/-- Item PL_STATUS_PERIOD of domain 0x0B (R354, Table 16-7). -/
abbrev lPL_STATUS_PERIOD : Nat := 0x0046

/-- Item PL_LOSS_TIME of domain 0x0B (R354, Table 16-7). -/
abbrev lPL_LOSS_TIME : Nat := 0x0047

/-- Item PL_IDLE_WAKE of domain 0x0B (R354, Table 16-7). -/
abbrev lPL_IDLE_WAKE : Nat := 0x0048

/-- Item PL_IDLE_HOLD of domain 0x0B (R354, Table 16-7). -/
abbrev lPL_IDLE_HOLD : Nat := 0x0049

/-- Item PAIR_ROLE of domain 0x0B (R375, Table 17-8). -/
abbrev lPAIR_ROLE : Nat := 0x0080

/-- Item PAIR_EPOCH of domain 0x0B (R375, Table 17-8). -/
abbrev lPAIR_EPOCH : Nat := 0x0081

/-- Item PAIR_HEALTH of domain 0x0B (R375, Table 17-8). -/
abbrev lPAIR_HEALTH : Nat := 0x0082

/-- Item CKPT_PERIOD_NOW of domain 0x0B (R375, Table 17-8). -/
abbrev lCKPT_PERIOD_NOW : Nat := 0x0083

/-- Item CKPT_BYTES of domain 0x0B (R375, Table 17-8). -/
abbrev lCKPT_BYTES : Nat := 0x0084

/-- Item CKPT_MISSED of domain 0x0B (R375, Table 17-8). -/
abbrev lCKPT_MISSED : Nat := 0x0085

/-- Item TAKEOVERS of domain 0x0B (R375, Table 17-8). -/
abbrev lTAKEOVERS : Nat := 0x0086

/-- Item LAST_GAP of domain 0x0B (R375, Table 17-8). -/
abbrev lLAST_GAP : Nat := 0x0087

/-- Item DISCONT_LAST of domain 0x0B (R375, Table 17-8). -/
abbrev lDISCONT_LAST : Nat := 0x0088

/-- Item PL_STATE of domain 0x0B (R354, Table 16-7). -/
abbrev lPL_STATE : Nat := 0x00C0

/-- Item PL_WIDTH of domain 0x0B (R354, Table 16-7). -/
abbrev lPL_WIDTH : Nat := 0x00C1

/-- Item PL_CTLE_USED of domain 0x0B (R354, Table 16-7). -/
abbrev lPL_CTLE_USED : Nat := 0x00C2

/-- Item PL_LANE_MAP of domain 0x0B (R354, Table 16-7). -/
abbrev lPL_LANE_MAP : Nat := 0x00C3

/-- Item PL_SKEW of domain 0x0B (R354, Table 16-7). -/
abbrev lPL_SKEW : Nat := 0x00C4

/-- Item PL_HDR_ERRORS of domain 0x0B (R354, Table 16-7). -/
abbrev lPL_HDR_ERRORS : Nat := 0x00C5

/-- Item PL_PKT_DISCARDS of domain 0x0B (R354, Table 16-7). -/
abbrev lPL_PKT_DISCARDS : Nat := 0x00C6

/-- Item PL_RETRAINS of domain 0x0B (R354, Table 16-7). -/
abbrev lPL_RETRAINS : Nat := 0x00C7

/-- Item PL_LINK_DELAY of domain 0x0B (R354, Table 16-7). -/
abbrev lPL_LINK_DELAY : Nat := 0x00C8

/-- Item PL_PEER_OFFSET of domain 0x0B (R354, Table 16-7). -/
abbrev lPL_PEER_OFFSET : Nat := 0x00C9

/-- Item PL_CAPS_REJECTS of domain 0x0B (R354, Table 16-7). -/
abbrev lPL_CAPS_REJECTS : Nat := 0x00CA

/-- Item PL_CLAIMS_IGNORED of domain 0x0B (R354, Table 16-7). -/
abbrev lPL_CLAIMS_IGNORED : Nat := 0x00CB

/-- Item PL_LAST_CAUSE of domain 0x0B (R354, Table 16-7). -/
abbrev lPL_LAST_CAUSE : Nat := 0x00CC

/-- Item USER_CORES of domain 0x0C (R217, Table 09-16). -/
abbrev nUSER_CORES : Nat := 0x0001

/-- Item KRN_SIGNED_ONLY of domain 0x0C (R217, Table 09-16). -/
abbrev nKRN_SIGNED_ONLY : Nat := 0x0002

/-- Item KRN_STATE of domain 0x0C (R217, Table 09-16). -/
abbrev nKRN_STATE : Nat := 0x0010

/-- Item KRN_GENERATION of domain 0x0C (R217, Table 09-16). -/
abbrev nKRN_GENERATION : Nat := 0x0011

/-- Item KRN_ROWS of domain 0x0C (R217, Table 09-16). -/
abbrev nKRN_ROWS : Nat := 0x0012

/-- Item KRN_DROPPED of domain 0x0C (R217, Table 09-16). -/
abbrev nKRN_DROPPED : Nat := 0x0013

/-- Item KRN_MAX_CYCLES of domain 0x0C (R217, Table 09-16). -/
abbrev nKRN_MAX_CYCLES : Nat := 0x0014

/-- Item TRAP_CAUSE of domain 0x0C (R217, Table 09-16). -/
abbrev nTRAP_CAUSE : Nat := 0x0015

/-- Item TRAP_PC of domain 0x0C (R217, Table 09-16). -/
abbrev nTRAP_PC : Nat := 0x0016

/-- Item KRN_RESTARTS of domain 0x0C (R217, Table 09-16). -/
abbrev nKRN_RESTARTS : Nat := 0x0017

/-- Item N_IN_SERVICE of domain 0x0C (R217, Table 09-16). -/
abbrev nN_IN_SERVICE : Nat := 0x0080

/-- Item N_SPARES_LEFT of domain 0x0C (R217, Table 09-16). -/
abbrev nN_SPARES_LEFT : Nat := 0x0081

/-- Item X_IN_SERVICE of domain 0x0C (R217, Table 09-16). -/
abbrev nX_IN_SERVICE : Nat := 0x0082

/-- Item X_SPARES_LEFT of domain 0x0C (R217, Table 09-16). -/
abbrev nX_SPARES_LEFT : Nat := 0x0083

/-- Item VENDOR_LOAD of domain 0x0C (R217, Table 09-16). -/
abbrev nVENDOR_LOAD : Nat := 0x0084

/-- Item VENDOR_STATE of domain 0x0C (R217, Table 09-16). -/
abbrev nVENDOR_STATE : Nat := 0x0085

/-- Item ECC_CORRECTED of domain 0x0C (R217, Table 09-16). -/
abbrev nECC_CORRECTED : Nat := 0x0086

/-- Item FAULT_N_SEV of domain 0x0D (R394, Table 18-6). -/
abbrev jFAULT_N_SEV : Nat := 0x0001

/-- Item FAULT_N_PULSE of domain 0x0D (R394, Table 18-6). -/
abbrev jFAULT_N_PULSE : Nat := 0x0002

/-- Item FAULT_N_AFTER of domain 0x0D (R394, Table 18-6). -/
abbrev jFAULT_N_AFTER : Nat := 0x0003

/-- Item JOURNAL_SEQ of domain 0x0D (R394, Table 18-6). -/
abbrev jJOURNAL_SEQ : Nat := 0x0080

/-- Item JOURNAL_PENDING of domain 0x0D (R394, Table 18-6). -/
abbrev jJOURNAL_PENDING : Nat := 0x0081

/-- Item JOURNAL_OVERWRITTEN of domain 0x0D (R394, Table 18-6). -/
abbrev jJOURNAL_OVERWRITTEN : Nat := 0x0082

/-- Item LOG_DROPPED of domain 0x0D (R394, Table 18-6). -/
abbrev jLOG_DROPPED : Nat := 0x0083

/-- Item SUMMARIES of domain 0x0D (R394, Table 18-6). -/
abbrev jSUMMARIES : Nat := 0x0084

/-- Item RAISES of domain 0x0D (R394, Table 18-6). -/
abbrev jRAISES : Nat := 0x0085

/-- Item FAULT_N_PULSES of domain 0x0D (R394, Table 18-6). -/
abbrev jFAULT_N_PULSES : Nat := 0x0086

/-- Item REPAIRS of domain 0x0D (R394, Table 18-6). -/
abbrev jREPAIRS : Nat := 0x0087

/-- Item SNAGS_ACTIVE of domain 0x0D (R394, Table 18-6). -/
abbrev jSNAGS_ACTIVE : Nat := 0x0088

/-- Item SEVERITY_s of domain 0x0D (R394, Table 18-6). -/
abbrev jSEVERITY : Nat := 0x0100

/-- Item HOST_RESERVE of domain 0x0F (R237, Table 10-4). -/
abbrev cHOST_RESERVE : Nat := 0x0001

/-- Item SUSPEND_TIMEOUT of domain 0x0F (R237, Table 10-4). -/
abbrev cSUSPEND_TIMEOUT : Nat := 0x0002

/-- Item BYPASS_BACKLOG of domain 0x0F (R237, Table 10-4). -/
abbrev cBYPASS_BACKLOG : Nat := 0x0003

/-- Item ENGINES_IN_SERVICE of domain 0x0F (R237, Table 10-4). -/
abbrev cENGINES_IN_SERVICE : Nat := 0x0080

/-- Item COMP_SPARES_LEFT of domain 0x0F (R237, Table 10-4). -/
abbrev cCOMP_SPARES_LEFT : Nat := 0x0081

/-- Item COMP_LOAD of domain 0x0F (R237, Table 10-4). -/
abbrev cCOMP_LOAD : Nat := 0x0082

/-- Item JOBS_DONE of domain 0x0F (R237, Table 10-4). -/
abbrev cJOBS_DONE : Nat := 0x0083

/-- Item JOBS_NOT_SHRUNK of domain 0x0F (R237, Table 10-4). -/
abbrev cJOBS_NOT_SHRUNK : Nat := 0x0084

/-- Item JOBS_SUSPENDED of domain 0x0F (R237, Table 10-4). -/
abbrev cJOBS_SUSPENDED : Nat := 0x0085

/-- Item SUSPENDED_LOST of domain 0x0F (R237, Table 10-4). -/
abbrev cSUSPENDED_LOST : Nat := 0x0086

/-- Item BLOCKS_REDONE of domain 0x0F (R237, Table 10-4). -/
abbrev cBLOCKS_REDONE : Nat := 0x0087

/-- Item BYPASS_FRAMES of domain 0x0F (R237, Table 10-4). -/
abbrev cBYPASS_FRAMES : Nat := 0x0088

/-- Item ZFORMAT of domain 0x0F (R237, Table 10-4). -/
abbrev cZFORMAT : Nat := 0x0100

/-- Item ZPRE of domain 0x0F (R237, Table 10-4). -/
abbrev cZPRE : Nat := 0x0101

/-- Item ZRATIO of domain 0x0F (R237, Table 10-4). -/
abbrev cZRATIO : Nat := 0x0180

/-- Item ZNOT_SHRUNK of domain 0x0F (R237, Table 10-4). -/
abbrev cZNOT_SHRUNK : Nat := 0x0181

/-- Item SR_IDLE of domain 0x10 (R295, Table 13-7). -/
abbrev mSR_IDLE : Nat := 0x0001

/-- Item ACT_THRESH of domain 0x10 (R295, Table 13-7). -/
abbrev mACT_THRESH : Nat := 0x0002

/-- Item P7_RESERVE of domain 0x10 (R295, Table 13-7). -/
abbrev mP7_RESERVE : Nat := 0x0003

/-- Item RETRAIN_PERIOD of domain 0x10 (R295, Table 13-7). -/
abbrev mRETRAIN_PERIOD : Nat := 0x0004

/-- Item PAGE_POLICY of domain 0x10 (R295, Table 13-7). -/
abbrev mPAGE_POLICY : Nat := 0x0005

/-- Item MEM_CONFIG of domain 0x10 (R295, Table 13-7). -/
abbrev mMEM_CONFIG : Nat := 0x0080

/-- Item FSP_NOW of domain 0x10 (R295, Table 13-7). -/
abbrev mFSP_NOW : Nat := 0x0081

/-- Item MEM_LOAD of domain 0x10 (R295, Table 13-7). -/
abbrev mMEM_LOAD : Nat := 0x0082

/-- Item REFRESH_FORCED of domain 0x10 (R295, Table 13-7). -/
abbrev mREFRESH_FORCED : Nat := 0x0083

/-- Item POSTPONE_MAX of domain 0x10 (R295, Table 13-7). -/
abbrev mPOSTPONE_MAX : Nat := 0x0084

/-- Item CAPTURE_STALL_MAX of domain 0x10 (R295, Table 13-7). -/
abbrev mCAPTURE_STALL_MAX : Nat := 0x0085

/-- Item NEIGHBOUR_REFRESHES of domain 0x10 (R295, Table 13-7). -/
abbrev mNEIGHBOUR_REFRESHES : Nat := 0x0086

/-- Item LINK_ECC_CORRECTED of domain 0x10 (R295, Table 13-7). -/
abbrev mLINK_ECC_CORRECTED : Nat := 0x0087

/-- Item PPR_COUNT of domain 0x10 (R295, Table 13-7). -/
abbrev mPPR_COUNT : Nat := 0x0088

/-- Item DRAM_TEMP_MAX of domain 0x10 (R295, Table 13-7). -/
abbrev mDRAM_TEMP_MAX : Nat := 0x0089

/-- The odd numbers of RAMAN_SMOOTH (05 Table 05-5). -/
def oddRange : List (Int × Int) := (List.range 32).map (fun i => ((2 * i + 1 : Nat), (2 * i + 1 : Nat)))

/-- The powers of two of SPEC_ROWS (04 Table 04-5). -/
def powRange : List (Int × Int) := (List.range 11).map (fun i => ((2 ^ i : Nat), (2 ^ i : Nat)))

/-- Items of domain 0x01. -/
def itemRows01A : List Item := [
  ⟨0x01, 0x0080, 0x0080, 0, 0x0000, [], 0⟩,
  ⟨0x01, 0x0081, 0x0081, 0, 0x0000, [], 0⟩,
  ⟨0x01, 0x0082, 0x0082, 0, 0x0000, [], 0⟩,
  ⟨0x01, 0x0083, 0x0083, 0, 0x0000, [(0, 64)], 0⟩]

/-- Items of domain 0x03. -/
def itemRows03A : List Item := [
  ⟨0x03, 0x0001, 0x0001, 1, 0x0304, [(1000, 640000)], 0⟩,
  ⟨0x03, 0x0002, 0x0002, 1, 0x0304, [(144000, 150000)], 146820⟩,
  ⟨0x03, 0x0003, 0x0003, 1, 0x0304, [(6, 6), (12, 12), (24, 24), (48, 48), (96, 96)], 12⟩,
  ⟨0x03, 0x0004, 0x0004, 1, 0x0304, [(1, 1), (2, 2), (4, 4), (8, 8), (16, 16)], 1⟩,
  ⟨0x03, 0x0005, 0x0005, 1, 0x0304, [(0, 0), (4000, 1000000)], 0⟩,
  ⟨0x03, 0x0006, 0x0006, 1, 0x0304, [(0, 4095)], 0⟩,
  ⟨0x03, 0x0007, 0x0007, 1, 0x0304, [(0, 131071)], 0⟩,
  ⟨0x03, 0x0008, 0x0008, 1, 0x0304, [(0, 1024)], 0⟩,
  ⟨0x03, 0x0009, 0x0009, 1, 0x0304, [(0, 0), (1, 1)], 0⟩,
  ⟨0x03, 0x000A, 0x000A, 1, 0x0304, [(0, 0), (1, 1)], 1⟩,
  ⟨0x03, 0x000B, 0x000B, 1, 0x0304, [(30, 200)], 60⟩,
  ⟨0x03, 0x000C, 0x000C, 1, 0x0304, [(1, 600)], 10⟩,
  ⟨0x03, 0x0010, 0x0010, 1, 0x0304, [(500, 50000)], 5000⟩,
  ⟨0x03, 0x0011, 0x0011, 1, 0x0304, [(0, 100)], 10⟩,
  ⟨0x03, 0x0012, 0x0012, 1, 0x0304, [(0, 0), (1, 1)], 0⟩,
  ⟨0x03, 0x0013, 0x0013, 1, 0x0304, [(0, 2)], 0⟩,
  ⟨0x03, 0x0014, 0x0014, 1, 0x0304, [(0, 3)], 0⟩,
  ⟨0x03, 0x0015, 0x0015, 1, 0x0304, [(1, 1024)], 1⟩,
  ⟨0x03, 0x0016, 0x0016, 1, 0x0304, [(0, 63)], 4⟩,
  ⟨0x03, 0x0017, 0x0017, 1, 0x0304, [(-32, 31)], 0⟩,
  ⟨0x03, 0x0018, 0x0018, 1, 0x0304, [(0, 0), (1, 1)], 0⟩,
  ⟨0x03, 0x0019, 0x0019, 1, 0x0304, [(0, 0), (1, 1)], 0⟩,
  ⟨0x03, 0x001A, 0x001A, 1, 0x0304, [(5, 100)], 12⟩,
  ⟨0x03, 0x001B, 0x001B, 1, 0x0304, [(0, 1048575)], 0⟩,
  ⟨0x03, 0x001C, 0x001C, 1, 0x0304, [(1, 16)], 1⟩,
  ⟨0x03, 0x001D, 0x001D, 1, 0x0304, [(0, 4096)], 64⟩,
  ⟨0x03, 0x001E, 0x001E, 1, 0x0304, [(0, 255)], 8⟩,
  ⟨0x03, 0x001F, 0x001F, 1, 0x0304, [(16, 255)], 80⟩,
  ⟨0x03, 0x0020, 0x0020, 1, 0x0304, [(0, 0), (1, 1)], 0⟩,
  ⟨0x03, 0x0021, 0x0021, 1, 0x0304, [(-2048, 2047)], 0⟩,
  ⟨0x03, 0x0022, 0x0022, 1, 0x0304, [(-2048, 2047)], 0⟩,
  ⟨0x03, 0x0023, 0x0023, 1, 0x0304, [(-1024, 1023)], 0⟩,
  ⟨0x03, 0x0024, 0x0024, 1, 0x0304, [(-1024, 1023)], 0⟩,
  ⟨0x03, 0x0025, 0x0025, 1, 0x0304, [(0, 0), (1, 1)], 1⟩,
  ⟨0x03, 0x0030, 0x003F, 1, 0x0304, [(0, 65535)], 57344⟩,
  ⟨0x03, 0x0040, 0x0043, 1, 0x0304, [(-16, 15)], 0⟩,
  ⟨0x03, 0x0044, 0x0044, 1, 0x0304, [(0, 0), (1, 1)], 1⟩,
  ⟨0x03, 0x0045, 0x0045, 1, 0x0304, [(1, 60)], 2⟩,
  ⟨0x03, 0x0046, 0x0046, 1, 0x0304, [(-8192, 8191)], 0⟩,
  ⟨0x03, 0x0047, 0x0047, 1, 0x0304, [(-6144, 6143)], 0⟩]

/-- Items of domain 0x03. -/
def itemRows03B : List Item := [
  ⟨0x03, 0x0048, 0x0048, 1, 0x0304, [(-8192, 8191)], 0⟩,
  ⟨0x03, 0x0049, 0x0049, 1, 0x0304, [(-6144, 6143)], 0⟩,
  ⟨0x03, 0x004A, 0x004A, 1, 0x0304, [(0, 0), (1, 1)], 0⟩,
  ⟨0x03, 0x004B, 0x004B, 1, 0x0304, [(0, 31)], 0⟩,
  ⟨0x03, 0x0050, 0x0050, 1, 0x0304, [(1, 128)], 10⟩,
  ⟨0x03, 0x0051, 0x0051, 1, 0x0304, [(0, 0), (1, 1)], 0⟩,
  ⟨0x03, 0x0052, 0x0052, 1, 0x0304, [(1, 6000)], 50⟩,
  ⟨0x03, 0x0053, 0x0053, 1, 0x0304, [(0, 0), (1, 1)], 1⟩,
  ⟨0x03, 0x0054, 0x0054, 1, 0x0304, [(8, 256)], 16⟩,
  ⟨0x03, 0x0055, 0x0055, 1, 0x0304, [(-40, -6)], -20⟩,
  ⟨0x03, 0x0056, 0x0056, 1, 0x0304, [(0, 1048575)], 256⟩,
  ⟨0x03, 0x0057, 0x0057, 1, 0x0304, [(0, 15)], 4⟩,
  ⟨0x03, 0x0058, 0x0058, 1, 0x0304, [(1, 600)], 20⟩,
  ⟨0x03, 0x0059, 0x0059, 1, 0x0304, [(0, 0), (1, 1)], 0⟩,
  ⟨0x03, 0x005A, 0x005A, 1, 0x0304, powRange, 64⟩,
  ⟨0x03, 0x005B, 0x005B, 1, 0x0304, [(0, 31)], 8⟩,
  ⟨0x03, 0x0060, 0x0060, 1, 0x0203, [(0, 4095)], 0⟩,
  ⟨0x03, 0x0061, 0x0061, 1, 0x0203, [(10, 10000)], 1000⟩,
  ⟨0x03, 0x0062, 0x0062, 1, 0x0203, [(1, 600)], 1⟩,
  ⟨0x03, 0x0063, 0x0063, 1, 0x0203, oddRange, 1⟩,
  ⟨0x03, 0x0064, 0x0067, 1, 0x0203, [(0, 3)], 3⟩,
  ⟨0x03, 0x0068, 0x006A, 1, 0x0203, [(0, 131071)], 0⟩,
  ⟨0x03, 0x006B, 0x006B, 1, 0x0203, [(0, 0), (1, 1)], 1⟩,
  ⟨0x03, 0x006C, 0x006C, 1, 0x0203, [(0, 0), (1, 1)], 1⟩,
  ⟨0x03, 0x006D, 0x006D, 1, 0x0203, [(0, 500000)], 0⟩,
  ⟨0x03, 0x006E, 0x006E, 1, 0x0203, [(0, 500000)], 500000⟩,
  ⟨0x03, 0x006F, 0x006F, 1, 0x0203, [(0, 0), (1, 1)], 1⟩,
  ⟨0x03, 0x0070, 0x0070, 1, 0x0203, [(50000, 80000)], 63306⟩,
  ⟨0x03, 0x0071, 0x0071, 1, 0x0203, [(-2000, 2000)], 300⟩,
  ⟨0x03, 0x0072, 0x0072, 1, 0x0203, [(0, 31), (255, 255)], 255⟩,
  ⟨0x03, 0x0073, 0x0073, 1, 0x0203, [(0, 3600)], 600⟩,
  ⟨0x03, 0x0074, 0x0074, 1, 0x0203, [(-2147483648, 2147483647)], 0⟩,
  ⟨0x03, 0x0075, 0x0075, 1, 0x0203, [(1500000, 1630000)], 1550120⟩,
  ⟨0x03, 0x0076, 0x0076, 1, 0x0203, [(0, 2)], 0⟩,
  ⟨0x03, 0x0077, 0x0077, 1, 0x0203, [(1000, 20000)], 8870⟩,
  ⟨0x03, 0x0078, 0x0078, 1, 0x0203, [(60, 86400)], 3600⟩,
  ⟨0x03, 0x0079, 0x0079, 1, 0x0203, [(10, 3600)], 60⟩,
  ⟨0x03, 0x007A, 0x007A, 1, 0x0203, [(0, 86400)], 3600⟩,
  ⟨0x03, 0x007B, 0x007B, 1, 0x0203, [(0, 600)], 10⟩,
  ⟨0x03, 0x007C, 0x007C, 2, 0x0203, [(1, 1)], 0⟩]

/-- Items of domain 0x03. -/
def itemRows03C : List Item := [
  ⟨0x03, 0x0080, 0x0080, 0, 0x0000, [], 0⟩,
  ⟨0x03, 0x0081, 0x0081, 0, 0x0000, [], 0⟩,
  ⟨0x03, 0x0082, 0x0082, 0, 0x0000, [], 0⟩,
  ⟨0x03, 0x0083, 0x0083, 0, 0x0000, [], 0⟩,
  ⟨0x03, 0x0084, 0x0084, 0, 0x0000, [], 0⟩,
  ⟨0x03, 0x0085, 0x0085, 0, 0x0000, [], 0⟩,
  ⟨0x03, 0x0086, 0x0086, 0, 0x0000, [], 4294967295⟩,
  ⟨0x03, 0x0087, 0x0087, 0, 0x0000, [(0, 2)], 0⟩,
  ⟨0x03, 0x0088, 0x0088, 0, 0x0000, [], 0⟩,
  ⟨0x03, 0x0089, 0x0089, 0, 0x0000, [], 0⟩,
  ⟨0x03, 0x008A, 0x008A, 0, 0x0000, [], 0⟩,
  ⟨0x03, 0x008B, 0x008B, 0, 0x0000, [(0, 4)], 0⟩,
  ⟨0x03, 0x008C, 0x008C, 0, 0x0000, [], 0⟩,
  ⟨0x03, 0x008D, 0x008D, 0, 0x0000, [], 0⟩,
  ⟨0x03, 0x008E, 0x008E, 0, 0x0000, [(0, 3)], 0⟩,
  ⟨0x03, 0x0090, 0x0093, 0, 0x0000, [], 65535⟩,
  ⟨0x03, 0x0094, 0x0094, 0, 0x0000, [], 8738⟩,
  ⟨0x03, 0x0095, 0x0095, 0, 0x0000, [], 0⟩,
  ⟨0x03, 0x0096, 0x0096, 0, 0x0000, [], 0⟩,
  ⟨0x03, 0x0097, 0x0097, 0, 0x0000, [], 0⟩,
  ⟨0x03, 0x0098, 0x0098, 0, 0x0000, [], 0⟩,
  ⟨0x03, 0x0099, 0x0099, 0, 0x0000, [], 0⟩,
  ⟨0x03, 0x009A, 0x009A, 0, 0x0000, [], 0⟩,
  ⟨0x03, 0x009B, 0x009B, 0, 0x0000, [], 0⟩,
  ⟨0x03, 0x009C, 0x009C, 0, 0x0000, [], 0⟩,
  ⟨0x03, 0x009D, 0x009D, 0, 0x0000, [], 0⟩,
  ⟨0x03, 0x00A0, 0x00A0, 0, 0x0000, [], 0⟩,
  ⟨0x03, 0x00A1, 0x00A1, 0, 0x0000, [], 0⟩,
  ⟨0x03, 0x00A2, 0x00A2, 0, 0x0000, [], 0⟩,
  ⟨0x03, 0x00A3, 0x00A3, 0, 0x0000, [], 0⟩,
  ⟨0x03, 0x00A4, 0x00A4, 0, 0x0000, [], 0⟩,
  ⟨0x03, 0x00A5, 0x00A5, 0, 0x0000, [], 0⟩,
  ⟨0x03, 0x00B0, 0x00B0, 0, 0x0000, [], 0⟩,
  ⟨0x03, 0x00B1, 0x00B1, 0, 0x0000, [], 0⟩,
  ⟨0x03, 0x00B2, 0x00B2, 0, 0x0000, [], 0⟩,
  ⟨0x03, 0x00B3, 0x00B3, 0, 0x0000, [], 0⟩,
  ⟨0x03, 0x00B4, 0x00B4, 0, 0x0000, [], 0⟩,
  ⟨0x03, 0x00B5, 0x00B5, 0, 0x0000, [], 0⟩,
  ⟨0x03, 0x00B6, 0x00B6, 0, 0x0000, [], 0⟩,
  ⟨0x03, 0x00B7, 0x00B7, 0, 0x0000, [], 0⟩]

/-- Items of domain 0x03. -/
def itemRows03D : List Item := [
  ⟨0x03, 0x00B8, 0x00B8, 0, 0x0000, [], 0⟩]

/-- Items of domain 0x04. -/
def itemRows04A : List Item := [
  ⟨0x04, 0x0001, 0x0001, 1, 0x0401, [(0, 2)], 0⟩,
  ⟨0x04, 0x0002, 0x0002, 1, 0x0401, [(0, 5), (15, 15)], 15⟩,
  ⟨0x04, 0x0003, 0x0003, 1, 0x0401, [(0, 131071)], 0⟩,
  ⟨0x04, 0x0004, 0x0004, 1, 0x0401, [(1, 131072)], 1⟩,
  ⟨0x04, 0x0005, 0x0005, 1, 0x0401, [(1, 1024)], 1⟩,
  ⟨0x04, 0x0006, 0x0006, 1, 0x0401, [(0, 10)], 0⟩,
  ⟨0x04, 0x0007, 0x0007, 1, 0x0401, [(0, 3)], 1⟩,
  ⟨0x04, 0x0008, 0x0008, 1, 0x0401, [(0, 0), (1, 1)], 0⟩,
  ⟨0x04, 0x0009, 0x0012, 1, 0x0401, [(0, 3)], 0⟩,
  ⟨0x04, 0x0013, 0x0013, 1, 0x0401, [(0, 0), (4, 24)], 0⟩,
  ⟨0x04, 0x0014, 0x0014, 1, 0x0401, [(16, 16), (32, 32)], 16⟩,
  ⟨0x04, 0x0015, 0x0015, 1, 0x0401, [(0, 0), (1, 1)], 0⟩,
  ⟨0x04, 0x0016, 0x0016, 1, 0x0401, [(1, 1000)], 10⟩,
  ⟨0x04, 0x0017, 0x0017, 1, 0x0401, [(4096, 65536)], 65536⟩,
  ⟨0x04, 0x0020, 0x0020, 1, 0x0401, [(0, 0), (1, 1)], 0⟩,
  ⟨0x04, 0x0021, 0x0021, 1, 0x0401, [(0, 800000)], 0⟩,
  ⟨0x04, 0x0022, 0x0022, 1, 0x0401, [(1, 800000)], 100⟩,
  ⟨0x04, 0x0023, 0x0023, 1, 0x0401, [(1, 4096)], 16⟩,
  ⟨0x04, 0x0024, 0x0024, 1, 0x0401, [(0, 0), (1, 1)], 0⟩,
  ⟨0x04, 0x0025, 0x0025, 1, 0x0401, [(-10000, 20000)], 6000⟩,
  ⟨0x04, 0x0026, 0x0026, 1, 0x0401, [(0, 6000)], 300⟩,
  ⟨0x04, 0x0027, 0x0027, 1, 0x0401, [(0, 0), (1, 1)], 0⟩,
  ⟨0x04, 0x0028, 0x0028, 1, 0x0401, [(0, 0), (1, 1)], 0⟩,
  ⟨0x04, 0x0029, 0x0029, 1, 0x0401, [(0, 800000)], 0⟩,
  ⟨0x04, 0x002A, 0x002A, 1, 0x0401, [(1, 800000)], 100⟩,
  ⟨0x04, 0x002B, 0x002B, 1, 0x0401, [(1, 4096)], 16⟩,
  ⟨0x04, 0x002C, 0x002C, 1, 0x0401, [(0, 0), (1, 1)], 0⟩,
  ⟨0x04, 0x002D, 0x002D, 1, 0x0401, [(-10000, 20000)], 6000⟩,
  ⟨0x04, 0x002E, 0x002E, 1, 0x0401, [(0, 6000)], 300⟩,
  ⟨0x04, 0x002F, 0x002F, 1, 0x0401, [(0, 0), (1, 1)], 0⟩,
  ⟨0x04, 0x0030, 0x0030, 1, 0x0401, [(0, 0), (1, 1)], 0⟩,
  ⟨0x04, 0x0031, 0x0031, 1, 0x0401, [(0, 800000)], 0⟩,
  ⟨0x04, 0x0032, 0x0032, 1, 0x0401, [(1, 800000)], 100⟩,
  ⟨0x04, 0x0033, 0x0033, 1, 0x0401, [(1, 4096)], 16⟩,
  ⟨0x04, 0x0034, 0x0034, 1, 0x0401, [(0, 0), (1, 1)], 0⟩,
  ⟨0x04, 0x0035, 0x0035, 1, 0x0401, [(-10000, 20000)], 6000⟩,
  ⟨0x04, 0x0036, 0x0036, 1, 0x0401, [(0, 6000)], 300⟩,
  ⟨0x04, 0x0037, 0x0037, 1, 0x0401, [(0, 0), (1, 1)], 0⟩,
  ⟨0x04, 0x0038, 0x0038, 1, 0x0401, [(0, 0), (1, 1)], 0⟩,
  ⟨0x04, 0x0039, 0x0039, 1, 0x0401, [(0, 800000)], 0⟩]

/-- Items of domain 0x04. -/
def itemRows04B : List Item := [
  ⟨0x04, 0x003A, 0x003A, 1, 0x0401, [(1, 800000)], 100⟩,
  ⟨0x04, 0x003B, 0x003B, 1, 0x0401, [(1, 4096)], 16⟩,
  ⟨0x04, 0x003C, 0x003C, 1, 0x0401, [(0, 0), (1, 1)], 0⟩,
  ⟨0x04, 0x003D, 0x003D, 1, 0x0401, [(-10000, 20000)], 6000⟩,
  ⟨0x04, 0x003E, 0x003E, 1, 0x0401, [(0, 6000)], 300⟩,
  ⟨0x04, 0x003F, 0x003F, 1, 0x0401, [(0, 0), (1, 1)], 0⟩,
  ⟨0x04, 0x0080, 0x0080, 0, 0x0000, [(0, 2)], 0⟩,
  ⟨0x04, 0x0081, 0x0081, 0, 0x0000, [(0, 0), (1, 1)], 0⟩,
  ⟨0x04, 0x0082, 0x0082, 0, 0x0000, [], 0⟩,
  ⟨0x04, 0x0083, 0x0083, 0, 0x0000, [], 0⟩,
  ⟨0x04, 0x0084, 0x0084, 0, 0x0000, [], 0⟩,
  ⟨0x04, 0x0085, 0x0085, 0, 0x0000, [], 0⟩,
  ⟨0x04, 0x0086, 0x0086, 0, 0x0000, [], 0⟩,
  ⟨0x04, 0x0087, 0x0087, 0, 0x0000, [], 0⟩,
  ⟨0x04, 0x0088, 0x0088, 0, 0x0000, [], 0⟩,
  ⟨0x04, 0x0089, 0x0089, 0, 0x0000, [], 0⟩,
  ⟨0x04, 0x008A, 0x008A, 0, 0x0000, [], 0⟩,
  ⟨0x04, 0x008B, 0x008B, 0, 0x0000, [], 0⟩,
  ⟨0x04, 0x008C, 0x008F, 0, 0x0000, [], 32768⟩]

/-- Items of domain 0x05. -/
def itemRows05A : List Item := [
  ⟨0x05, 0x0001, 0x0001, 1, 0x0501, [(0, 2), (15, 15)], 15⟩,
  ⟨0x05, 0x0002, 0x0002, 1, 0x0501, [(0, 127)], 0⟩,
  ⟨0x05, 0x0003, 0x0003, 1, 0x0501, [(0, 131071)], 0⟩,
  ⟨0x05, 0x0004, 0x0004, 1, 0x0501, [(1, 131072)], 64⟩,
  ⟨0x05, 0x0005, 0x0005, 1, 0x0501, [(1, 65535)], 1⟩,
  ⟨0x05, 0x0006, 0x0006, 1, 0x0501, [(0, 1048575)], 0⟩,
  ⟨0x05, 0x0007, 0x0007, 1, 0x0501, [(1, 16777215)], 1⟩,
  ⟨0x05, 0x0008, 0x0008, 1, 0x0501, [(64, 16384)], 4096⟩,
  ⟨0x05, 0x0009, 0x0009, 1, 0x0501, [(1, 64)], 4⟩,
  ⟨0x05, 0x000A, 0x000A, 1, 0x0501, [(0, 0), (1, 1)], 0⟩,
  ⟨0x05, 0x000B, 0x000E, 1, 0x0501, [(0, 511), (65535, 65535)], 65535⟩,
  ⟨0x05, 0x000F, 0x000F, 1, 0x0501, [(0, 15)], 0⟩,
  ⟨0x05, 0x0010, 0x0010, 1, 0x0501, [(0, 0), (1, 1)], 1⟩,
  ⟨0x05, 0x0011, 0x0011, 1, 0x0501, [(0, 2)], 0⟩,
  ⟨0x05, 0x0012, 0x0012, 1, 0x0501, [(8, 65535)], 125⟩,
  ⟨0x05, 0x0080, 0x0080, 0, 0x0000, [(0, 5)], 0⟩,
  ⟨0x05, 0x0081, 0x0081, 0, 0x0000, [], 0⟩,
  ⟨0x05, 0x0082, 0x0082, 0, 0x0000, [], 0⟩,
  ⟨0x05, 0x0083, 0x0083, 0, 0x0000, [], 0⟩,
  ⟨0x05, 0x0084, 0x0084, 0, 0x0000, [], 0⟩,
  ⟨0x05, 0x0085, 0x0085, 0, 0x0000, [], 0⟩,
  ⟨0x05, 0x0086, 0x0086, 0, 0x0000, [], 0⟩,
  ⟨0x05, 0x0087, 0x0087, 0, 0x0000, [], 0⟩]

/-- Items of domain 0x06. -/
def itemRows06A : List Item := [
  ⟨0x06, 0x0001, 0x0001, 1, 0x0603, [(0, 2)], 0⟩,
  ⟨0x06, 0x0002, 0x0002, 1, 0x0603, [(-1000000, 1000000)], 0⟩,
  ⟨0x06, 0x0003, 0x0003, 1, 0x0603, [(0, 7), (255, 255)], 255⟩,
  ⟨0x06, 0x0004, 0x0004, 1, 0x0603, [(1, 65535)], 1000⟩,
  ⟨0x06, 0x0005, 0x0005, 1, 0x0603, [(10, 1000)], 100⟩,
  ⟨0x06, 0x0006, 0x0006, 1, 0x0603, [(0, 0), (1, 1)], 0⟩,
  ⟨0x06, 0x0007, 0x0007, 1, 0x0603, [(1, 500000)], 100000⟩,
  ⟨0x06, 0x0008, 0x0008, 1, 0x0603, [(0, 0), (10, 10000)], 0⟩,
  ⟨0x06, 0x000B, 0x000B, 1, 0x0603, [(0, 0), (1, 1)], 1⟩,
  ⟨0x06, 0x0010, 0x0010, 1, 0x0604, [(0, 0), (1, 1)], 0⟩,
  ⟨0x06, 0x0011, 0x0011, 1, 0x0604, [(0, 2)], 0⟩,
  ⟨0x06, 0x0012, 0x0012, 1, 0x0604, [(0, 900)], 450⟩,
  ⟨0x06, 0x0013, 0x0013, 1, 0x0604, [(0, 30)], 4⟩,
  ⟨0x06, 0x0014, 0x0014, 1, 0x0604, [(0, 1250)], 0⟩,
  ⟨0x06, 0x0015, 0x0015, 1, 0x0604, [(-32768, 32767)], 0⟩,
  ⟨0x06, 0x0016, 0x0016, 1, 0x0604, [(0, 0), (1, 1)], 0⟩,
  ⟨0x06, 0x0017, 0x0017, 1, 0x0604, [(0, 0), (1, 1)], 0⟩,
  ⟨0x06, 0x0080, 0x0080, 0, 0x0000, [(0, 3)], 0⟩,
  ⟨0x06, 0x0081, 0x0081, 0, 0x0000, [(-2147483648, 2147483647)], 0⟩,
  ⟨0x06, 0x0082, 0x0082, 0, 0x0000, [(-2147483648, 2147483647)], 0⟩,
  ⟨0x06, 0x0083, 0x0083, 0, 0x0000, [(0, 65535)], 32768⟩,
  ⟨0x06, 0x0084, 0x0084, 0, 0x0000, [], 0⟩,
  ⟨0x06, 0x0090, 0x0090, 0, 0x0000, [], 0⟩,
  ⟨0x06, 0x0091, 0x0091, 0, 0x0000, [], 0⟩,
  ⟨0x06, 0x0092, 0x0092, 0, 0x0000, [], 0⟩,
  ⟨0x06, 0x0093, 0x0093, 0, 0x0000, [], 0⟩,
  ⟨0x06, 0x0094, 0x0094, 0, 0x0000, [], 15⟩]

/-- Items of domain 0x07. -/
def itemRows07A : List Item := [
  ⟨0x07, 0x0001, 0x0001, 1, 0x0203, [(1, 32)], 1⟩,
  ⟨0x07, 0x0002, 0x0002, 1, 0x0203, [(0, 0), (1, 1)], 0⟩,
  ⟨0x07, 0x0003, 0x0003, 1, 0x0203, [(0, 0), (1, 1)], 1⟩,
  ⟨0x07, 0x0004, 0x0004, 1, 0x0203, [(0, 0), (1, 1)], 0⟩,
  ⟨0x07, 0x0010, 0x0010, 1, 0x0203, [(10000, 10000000)], 100000⟩,
  ⟨0x07, 0x0011, 0x0011, 1, 0x0203, [(100000, 100000000)], 10000000⟩,
  ⟨0x07, 0x0012, 0x0012, 1, 0x0203, [(200000, 600000)], 345000⟩,
  ⟨0x07, 0x0013, 0x0013, 1, 0x0203, [(0, 65535)], 0⟩,
  ⟨0x07, 0x0040, 0x0040, 1, 0x0704, [(0, 3)], 0⟩,
  ⟨0x07, 0x0041, 0x0041, 1, 0x0704, [(0, 127)], 0⟩,
  ⟨0x07, 0x0042, 0x0042, 1, 0x0704, [(0, 3)], 0⟩,
  ⟨0x07, 0x0043, 0x0043, 1, 0x0704, [(0, 131071)], 0⟩,
  ⟨0x07, 0x0044, 0x0044, 1, 0x0704, [(-2147483648, 2147483647)], 0⟩,
  ⟨0x07, 0x0045, 0x0045, 1, 0x0704, [(-2147483648, 2147483647)], 1⟩,
  ⟨0x07, 0x0046, 0x0046, 1, 0x0704, [(0, 0), (1, 1)], 0⟩,
  ⟨0x07, 0x0047, 0x0047, 1, 0x0704, [(3, 5)], 4⟩,
  ⟨0x07, 0x0048, 0x0048, 1, 0x0704, [(10, 60000)], 5000⟩,
  ⟨0x07, 0x0049, 0x0049, 1, 0x0704, [(-2048, 2047)], 0⟩,
  ⟨0x07, 0x004A, 0x004A, 1, 0x0704, [(-500, 500)], 0⟩,
  ⟨0x07, 0x004B, 0x004B, 1, 0x0704, [(1000, 3000)], 2500⟩,
  ⟨0x07, 0x0080, 0x0080, 0, 0x0000, [(0, 3)], 0⟩,
  ⟨0x07, 0x0081, 0x0081, 0, 0x0000, [(0, 31)], 0⟩,
  ⟨0x07, 0x0082, 0x0082, 0, 0x0000, [(0, 4)], 0⟩,
  ⟨0x07, 0x0083, 0x0083, 0, 0x0000, [(0, 2)], 0⟩,
  ⟨0x07, 0x0084, 0x0084, 0, 0x0000, [], 0⟩,
  ⟨0x07, 0x0090, 0x0090, 0, 0x0000, [], 2147483648⟩,
  ⟨0x07, 0x0091, 0x0091, 0, 0x0000, [], 0⟩,
  ⟨0x07, 0x0092, 0x0092, 0, 0x0000, [], 128⟩,
  ⟨0x07, 0x0093, 0x0093, 0, 0x0000, [], 0⟩,
  ⟨0x07, 0x0094, 0x0094, 0, 0x0000, [], 0⟩,
  ⟨0x07, 0x0095, 0x0095, 0, 0x0000, [], 0⟩,
  ⟨0x07, 0x00C0, 0x00C0, 0, 0x0000, [(0, 5)], 0⟩,
  ⟨0x07, 0x00C1, 0x00C1, 0, 0x0000, [], 0⟩,
  ⟨0x07, 0x00C2, 0x00C2, 0, 0x0000, [], 0⟩,
  ⟨0x07, 0x00C3, 0x00C3, 0, 0x0000, [], 0⟩]

/-- Items of domain 0x08. -/
def itemRows08A : List Item := [
  ⟨0x08, 0x0001, 0x0001, 1, 0x0801, [(0, 3)], 0⟩,
  ⟨0x08, 0x0002, 0x0002, 1, 0x0801, [(8, 16)], 12⟩,
  ⟨0x08, 0x0003, 0x0003, 1, 0x0801, [(0, 0), (1, 1)], 0⟩,
  ⟨0x08, 0x0004, 0x0004, 1, 0x0801, [(-32768, 65535)], 0⟩,
  ⟨0x08, 0x0005, 0x0005, 1, 0x0801, [(-32768, 65535)], 0⟩,
  ⟨0x08, 0x0006, 0x0006, 1, 0x0801, [(-32768, 65535)], 0⟩,
  ⟨0x08, 0x0007, 0x0007, 1, 0x0801, [(0, 65535)], 100⟩,
  ⟨0x08, 0x0008, 0x0008, 1, 0x0801, [(-32768, 65535)], 0⟩,
  ⟨0x08, 0x0009, 0x0009, 1, 0x0801, [(0, 0), (1, 1)], 0⟩,
  ⟨0x08, 0x000A, 0x000A, 1, 0x0801, [(0, 7), (255, 255)], 255⟩,
  ⟨0x08, 0x000B, 0x000B, 1, 0x0801, [(0, 31)], 0⟩,
  ⟨0x08, 0x000C, 0x000C, 1, 0x0801, [(-2147483648, 2147483647)], 250000⟩,
  ⟨0x08, 0x000D, 0x000D, 1, 0x0801, [(0, 1000000)], 0⟩,
  ⟨0x08, 0x000E, 0x000E, 1, 0x0801, [(0, 1000000)], 0⟩,
  ⟨0x08, 0x000F, 0x000F, 1, 0x0801, [(10, 60000)], 1000⟩,
  ⟨0x08, 0x0010, 0x0010, 1, 0x0801, [(-2147483648, 2147483647)], 2147483647⟩,
  ⟨0x08, 0x0011, 0x0011, 1, 0x0801, [(0, 0), (1, 1), (255, 255)], 255⟩,
  ⟨0x08, 0x0020, 0x0020, 1, 0x0801, [(0, 0), (1, 1)], 1⟩,
  ⟨0x08, 0x0021, 0x0021, 1, 0x0801, [(0, 1200)], 200⟩,
  ⟨0x08, 0x0022, 0x0022, 1, 0x0801, [(0, 1200)], 25⟩,
  ⟨0x08, 0x0023, 0x0023, 1, 0x0801, [(30, 1000)], 30⟩,
  ⟨0x08, 0x0024, 0x0024, 1, 0x0801, [(0, 7), (255, 255)], 255⟩,
  ⟨0x08, 0x0025, 0x0025, 1, 0x0801, [(100, 100000)], 5000⟩,
  ⟨0x08, 0x0026, 0x0026, 1, 0x0801, [(1000, 1000000)], 20000⟩,
  ⟨0x08, 0x0080, 0x0080, 0, 0x0000, [(0, 3)], 0⟩,
  ⟨0x08, 0x0081, 0x0081, 0, 0x0000, [], 0⟩,
  ⟨0x08, 0x0082, 0x0082, 0, 0x0000, [], 0⟩,
  ⟨0x08, 0x0083, 0x0083, 0, 0x0000, [], 0⟩,
  ⟨0x08, 0x0084, 0x0084, 0, 0x0000, [], 0⟩,
  ⟨0x08, 0x0090, 0x0090, 0, 0x0000, [], 0⟩,
  ⟨0x08, 0x0091, 0x0091, 0, 0x0000, [], 0⟩,
  ⟨0x08, 0x0092, 0x0092, 0, 0x0000, [(0, 3)], 0⟩]

/-- Items of domain 0x09. -/
def itemRows09A : List Item := [
  ⟨0x09, 0x0001, 0x0001, 1, 0x0203, [(0, 0), (1, 1)], 1⟩,
  ⟨0x09, 0x0002, 0x0002, 1, 0x0203, [(0, 0), (1, 3600)], 60⟩,
  ⟨0x09, 0x0003, 0x0003, 1, 0x0203, [(2, 64)], 4⟩,
  ⟨0x09, 0x0080, 0x0080, 0, 0x0000, [], 0⟩,
  ⟨0x09, 0x0081, 0x0081, 0, 0x0000, [], 0⟩,
  ⟨0x09, 0x0082, 0x0082, 0, 0x0000, [], 0⟩,
  ⟨0x09, 0x0083, 0x0083, 0, 0x0000, [(0, 4)], 4⟩,
  ⟨0x09, 0x0084, 0x0084, 0, 0x0000, [], 0⟩,
  ⟨0x09, 0x0085, 0x0085, 0, 0x0000, [], 0⟩,
  ⟨0x09, 0x0086, 0x0086, 0, 0x0000, [], 0⟩,
  ⟨0x09, 0x0087, 0x0087, 0, 0x0000, [], 0⟩,
  ⟨0x09, 0x0088, 0x0088, 0, 0x0000, [], 0⟩]

/-- Items of domain 0x0B. -/
def itemRows0BA : List Item := [
  ⟨0x0B, 0x0001, 0x0001, 1, 0x0B01, [(0, 0), (1, 1)], 0⟩,
  ⟨0x0B, 0x0002, 0x0002, 1, 0x0B01, [(4, 4), (5, 5)], 5⟩,
  ⟨0x0B, 0x0003, 0x0003, 1, 0x0B01, [(4, 1000)], 10⟩,
  ⟨0x0B, 0x0004, 0x0004, 1, 0x0B01, [(10, 2000)], 200⟩,
  ⟨0x0B, 0x0005, 0x0005, 1, 0x0B01, [(3, 30)], 10⟩,
  ⟨0x0B, 0x0040, 0x0040, 1, 0x0B01, [(0, 0), (1, 1)], 0⟩,
  ⟨0x0B, 0x0041, 0x0041, 1, 0x0B01, [(2, 2), (4, 4)], 2⟩,
  ⟨0x0B, 0x0042, 0x0042, 1, 0x0B01, [(400, 1000)], 800⟩,
  ⟨0x0B, 0x0043, 0x0043, 1, 0x0B01, [(0, 12)], 6⟩,
  ⟨0x0B, 0x0044, 0x0044, 1, 0x0B01, [(0, 15), (255, 255)], 255⟩,
  ⟨0x0B, 0x0045, 0x0045, 1, 0x0B01, [(1, 1000)], 16⟩,
  ⟨0x0B, 0x0046, 0x0046, 1, 0x0B01, [(1, 100)], 10⟩,
  ⟨0x0B, 0x0047, 0x0047, 1, 0x0B01, [(10, 1000)], 50⟩,
  ⟨0x0B, 0x0048, 0x0048, 1, 0x0B01, [(20, 10000)], 200⟩,
  ⟨0x0B, 0x0049, 0x0049, 1, 0x0B01, [(5, 1000)], 20⟩,
  ⟨0x0B, 0x0080, 0x0080, 0, 0x0000, [(0, 5)], 0⟩,
  ⟨0x0B, 0x0081, 0x0081, 0, 0x0000, [], 0⟩,
  ⟨0x0B, 0x0082, 0x0082, 0, 0x0000, [], 32⟩,
  ⟨0x0B, 0x0083, 0x0083, 0, 0x0000, [], 200⟩,
  ⟨0x0B, 0x0084, 0x0084, 0, 0x0000, [], 0⟩,
  ⟨0x0B, 0x0085, 0x0085, 0, 0x0000, [], 0⟩,
  ⟨0x0B, 0x0086, 0x0086, 0, 0x0000, [], 0⟩,
  ⟨0x0B, 0x0087, 0x0087, 0, 0x0000, [], 0⟩,
  ⟨0x0B, 0x0088, 0x0088, 0, 0x0000, [], 0⟩,
  ⟨0x0B, 0x00C0, 0x00C0, 0, 0x0000, [(0, 8)], 0⟩,
  ⟨0x0B, 0x00C1, 0x00C1, 0, 0x0000, [(0, 0), (2, 2), (4, 4)], 0⟩,
  ⟨0x0B, 0x00C2, 0x00C2, 0, 0x0000, [], 0⟩,
  ⟨0x0B, 0x00C3, 0x00C3, 0, 0x0000, [], 0⟩,
  ⟨0x0B, 0x00C4, 0x00C4, 0, 0x0000, [], 0⟩,
  ⟨0x0B, 0x00C5, 0x00C5, 0, 0x0000, [], 0⟩,
  ⟨0x0B, 0x00C6, 0x00C6, 0, 0x0000, [], 0⟩,
  ⟨0x0B, 0x00C7, 0x00C7, 0, 0x0000, [], 0⟩,
  ⟨0x0B, 0x00C8, 0x00C8, 0, 0x0000, [], 0⟩,
  ⟨0x0B, 0x00C9, 0x00C9, 0, 0x0000, [(-2147483648, 2147483647)], 0⟩,
  ⟨0x0B, 0x00CA, 0x00CA, 0, 0x0000, [], 0⟩,
  ⟨0x0B, 0x00CB, 0x00CB, 0, 0x0000, [], 0⟩,
  ⟨0x0B, 0x00CC, 0x00CC, 0, 0x0000, [(0, 11)], 0⟩]

/-- Items of domain 0x0C. -/
def itemRows0CA : List Item := [
  ⟨0x0C, 0x0001, 0x0001, 1, 0x0203, [(0, 16)], 0⟩,
  ⟨0x0C, 0x0002, 0x0002, 1, 0x0203, [(0, 0), (1, 1)], 0⟩,
  ⟨0x0C, 0x0010, 0x0010, 0, 0x0000, [(0, 5)], 0⟩,
  ⟨0x0C, 0x0011, 0x0011, 0, 0x0000, [(0, 255)], 0⟩,
  ⟨0x0C, 0x0012, 0x0012, 0, 0x0000, [], 0⟩,
  ⟨0x0C, 0x0013, 0x0013, 0, 0x0000, [], 0⟩,
  ⟨0x0C, 0x0014, 0x0014, 0, 0x0000, [], 0⟩,
  ⟨0x0C, 0x0015, 0x0015, 0, 0x0000, [(0, 9)], 0⟩,
  ⟨0x0C, 0x0016, 0x0016, 0, 0x0000, [], 0⟩,
  ⟨0x0C, 0x0017, 0x0017, 0, 0x0000, [], 0⟩,
  ⟨0x0C, 0x0080, 0x0080, 0, 0x0000, [(0, 64)], 60⟩,
  ⟨0x0C, 0x0081, 0x0081, 0, 0x0000, [(0, 4)], 4⟩,
  ⟨0x0C, 0x0082, 0x0082, 0, 0x0000, [(0, 4)], 3⟩,
  ⟨0x0C, 0x0083, 0x0083, 0, 0x0000, [(0, 0), (1, 1)], 1⟩,
  ⟨0x0C, 0x0084, 0x0084, 0, 0x0000, [(0, 1000)], 0⟩,
  ⟨0x0C, 0x0085, 0x0085, 0, 0x0000, [], 0⟩,
  ⟨0x0C, 0x0086, 0x0086, 0, 0x0000, [], 0⟩]

/-- Items of domain 0x0D. -/
def itemRows0DA : List Item := [
  ⟨0x0D, 0x0001, 0x0001, 1, 0x0D04, [(1, 5)], 3⟩,
  ⟨0x0D, 0x0002, 0x0002, 1, 0x0D04, [(1, 1000)], 2⟩,
  ⟨0x0D, 0x0003, 0x0003, 1, 0x0D04, [(0, 0), (1, 1)], 1⟩,
  ⟨0x0D, 0x0080, 0x0080, 0, 0x0000, [], 0⟩,
  ⟨0x0D, 0x0081, 0x0081, 0, 0x0000, [(0, 65536)], 0⟩,
  ⟨0x0D, 0x0082, 0x0082, 0, 0x0000, [], 0⟩,
  ⟨0x0D, 0x0083, 0x0083, 0, 0x0000, [], 0⟩,
  ⟨0x0D, 0x0084, 0x0084, 0, 0x0000, [], 0⟩,
  ⟨0x0D, 0x0085, 0x0085, 0, 0x0000, [], 0⟩,
  ⟨0x0D, 0x0086, 0x0086, 0, 0x0000, [], 0⟩,
  ⟨0x0D, 0x0087, 0x0087, 0, 0x0000, [], 0⟩,
  ⟨0x0D, 0x0088, 0x0088, 0, 0x0000, [(0, 8)], 0⟩,
  ⟨0x0D, 0x0100, 0x017F, 1, 0x0D04, [(0, 5)], 0⟩]

/-- Items of domain 0x0F. -/
def itemRows0FA : List Item := [
  ⟨0x0F, 0x0001, 0x0001, 1, 0x0F01, [(0, 6400)], 1000⟩,
  ⟨0x0F, 0x0002, 0x0002, 1, 0x0F01, [(10, 60000)], 1000⟩,
  ⟨0x0F, 0x0003, 0x0003, 1, 0x0F01, [(1, 64)], 16⟩,
  ⟨0x0F, 0x0080, 0x0080, 0, 0x0000, [(0, 8)], 8⟩,
  ⟨0x0F, 0x0081, 0x0081, 0, 0x0000, [(0, 0), (1, 1)], 1⟩,
  ⟨0x0F, 0x0082, 0x0082, 0, 0x0000, [(0, 1000)], 0⟩,
  ⟨0x0F, 0x0083, 0x0083, 0, 0x0000, [], 0⟩,
  ⟨0x0F, 0x0084, 0x0084, 0, 0x0000, [], 0⟩,
  ⟨0x0F, 0x0085, 0x0085, 0, 0x0000, [(0, 16)], 0⟩,
  ⟨0x0F, 0x0086, 0x0086, 0, 0x0000, [], 0⟩,
  ⟨0x0F, 0x0087, 0x0087, 0, 0x0000, [], 0⟩,
  ⟨0x0F, 0x0088, 0x0088, 0, 0x0000, [], 0⟩,
  ⟨0x0F, 0x0100, 0x0100, 1, 0x0F01, [(0, 2)], 0⟩,
  ⟨0x0F, 0x0101, 0x0101, 1, 0x0F01, [(0, 0), (1, 1)], 1⟩,
  ⟨0x0F, 0x0180, 0x0180, 0, 0x0000, [], 0⟩,
  ⟨0x0F, 0x0181, 0x0181, 0, 0x0000, [], 0⟩]

/-- Items of domain 0x10. -/
def itemRows10A : List Item := [
  ⟨0x10, 0x0001, 0x0001, 1, 0x0203, [(0, 0), (1, 1000)], 40⟩,
  ⟨0x10, 0x0002, 0x0002, 1, 0x0203, [(256, 16384)], 1024⟩,
  ⟨0x10, 0x0003, 0x0003, 1, 0x0203, [(0, 10000)], 2000⟩,
  ⟨0x10, 0x0004, 0x0004, 1, 0x0203, [(10, 1000)], 100⟩,
  ⟨0x10, 0x0005, 0x0005, 1, 0x0203, [(0, 2)], 0⟩,
  ⟨0x10, 0x0080, 0x0080, 0, 0x0000, [], 0⟩,
  ⟨0x10, 0x0081, 0x0081, 0, 0x0000, [(0, 0), (1, 1)], 0⟩,
  ⟨0x10, 0x0082, 0x0082, 0, 0x0000, [(0, 1000)], 0⟩,
  ⟨0x10, 0x0083, 0x0083, 0, 0x0000, [], 0⟩,
  ⟨0x10, 0x0084, 0x0084, 0, 0x0000, [(0, 8)], 0⟩,
  ⟨0x10, 0x0085, 0x0085, 0, 0x0000, [], 0⟩,
  ⟨0x10, 0x0086, 0x0086, 0, 0x0000, [], 0⟩,
  ⟨0x10, 0x0087, 0x0087, 0, 0x0000, [], 0⟩,
  ⟨0x10, 0x0088, 0x0088, 0, 0x0000, [], 0⟩,
  ⟨0x10, 0x0089, 0x0089, 0, 0x0000, [], 0⟩]

/-- The item rows of a domain, in item order. -/
def itemRowsOf (dom : Nat) : List Item :=
  match dom with
  | 0x01 => itemRows01A
  | 0x03 => itemRows03A ++ itemRows03B ++ itemRows03C ++ itemRows03D
  | 0x04 => itemRows04A ++ itemRows04B
  | 0x05 => itemRows05A
  | 0x06 => itemRows06A
  | 0x07 => itemRows07A
  | 0x08 => itemRows08A
  | 0x09 => itemRows09A
  | 0x0B => itemRows0BA
  | 0x0C => itemRows0CA
  | 0x0D => itemRows0DA
  | 0x0F => itemRows0FA
  | 0x10 => itemRows10A
  | _ => []

/-- The fault sources that are not reserved, with their default severities (18 Table 18-1). -/
def sourceTable : List (Nat × Nat) := [
  (0, 5), (1, 5), (2, 5), (3, 5), (4, 5), (5, 1), (6, 1), (7, 1), (8, 5), (16, 1), (17, 1), (18, 4),
  (19, 4), (20, 1), (21, 1), (22, 1), (23, 1), (24, 1), (25, 1), (26, 1), (27, 1), (28, 1), (29, 1), (30, 1),
  (31, 5), (32, 2), (33, 2), (34, 4), (35, 4), (36, 0), (37, 0), (38, 0), (39, 0), (40, 1), (41, 1), (42, 0),
  (43, 0), (44, 2), (45, 4), (48, 2), (49, 2), (50, 0), (51, 3), (52, 1), (53, 5), (54, 0), (55, 0), (56, 2),
  (57, 1), (58, 1), (59, 2), (60, 3), (64, 5), (65, 0), (66, 3), (68, 1), (69, 1), (70, 0), (71, 1), (72, 1),
  (73, 0), (74, 1), (75, 2), (80, 1), (81, 0), (82, 0), (83, 1), (84, 1), (85, 0), (86, 1), (87, 0), (88, 0),
  (89, 0), (90, 1), (91, 0), (92, 1), (93, 1), (94, 1), (95, 0), (96, 1), (97, 1), (98, 1), (99, 0), (100, 2),
  (101, 1), (102, 1), (103, 1), (104, 4), (105, 0), (106, 1), (107, 4), (108, 4), (109, 1), (110, 1), (112, 5), (113, 1),
  (114, 1), (115, 1), (116, 1), (117, 1), (118, 1), (119, 2), (120, 1)]

/-- The default severity of a source; none for a reserved source (18 R376). -/
def defaultSeverity (src : Nat) : Option Nat := (sourceTable.find? (fun p => p.1 = src)).map (fun p => p.2)

/-- Is this a source of Table 18-1, not a reserved one (18 R376)? -/
def sourceExists (src : Nat) : Bool := (defaultSeverity src).isSome

/-- A parameter object ID: domain, inst number, item (00, Interfaces and identifiers). -/
def objId (dom ins item : Nat) : Nat := dom * 16777216 + ins * 65536 + item

/-- The domain of an object ID. -/
def objDom (o : Nat) : Nat := o / 16777216

/-- The inst field of an object ID. -/
def objInst (o : Nat) : Nat := o / 65536 % 256

/-- The item of an object ID. -/
def objItem (o : Nat) : Nat := o % 65536

/-- The row of an item, if the domain has it. -/
def itemRow (dom item : Nat) : Option Item :=
  (itemRowsOf dom).find? (fun r => decide (r.lo ≤ item) && decide (item ≤ r.hi))

/-- Does the inst lie within the domain's for this item (15 R326 and the rule of each item table)? -/
def instOk (dom ins item : Nat) : Bool :=
  match dom with
  | 0x03 => if item = pRG_USED then ins < 2 || (0x80 ≤ ins && ins < 0x88) else if item = pHYB_MEAN_EST then ins < 2 || (0x80 ≤ ins && ins < 0x82) else ins < 2
  | 0x04 => ins < 128
  | 0x05 => ins < 32
  | 0x06 => if (0x0010 ≤ item && item < 0x0080) || 0x0090 ≤ item then ins < 16 else ins = 0
  | 0x07 =>
    if (0x0010 ≤ item && item < 0x0040) || (0x0090 ≤ item && item < 0x00C0) then ins < 32
    else if (0x0040 ≤ item && item < 0x0080) || 0x00C0 ≤ item then ins < 4
    else ins = 0
  | 0x08 =>
    if (0x0020 ≤ item && item < 0x0080) || 0x0090 ≤ item then ins = 0x40 || ins = 0x41 else ins < 8
  | 0x09 => if item = aADC_AUTOCAL || (aSLICE_AGE_MAX ≤ item && item ≤ aSLICE_FAILS) then ins < 2 else ins = 0
  | 0x0C => if 0x0010 ≤ item && item < 0x0080 then ins < 16 else ins = 0
  | 0x0F => if 0x0100 ≤ item then ins < 128 else ins = 0
  | _ => ins = 0

/-- Does the object exist: an item of its domain, an inst of the domain, no severity item of a reserved source (18
Table 18-6)? -/
def objExists (o : Nat) : Bool :=
  (itemRow (objDom o) (objItem o)).isSome && instOk (objDom o) (objInst o) (objItem o) &&
    (if objDom o = 0x0D && 0x0100 ≤ objItem o then sourceExists (objItem o - 0x0100) else true)

/-- What an item reads before anything has written it: the Reset column of its table (19 R405). -/
def paramReset (o : Nat) : Int :=
  let dom := objDom o
  let item := objItem o
  if dom = 0x0D && 0x0100 ≤ item then ((defaultSeverity (item - 0x0100)).getD 0 : Nat)
  else if dom = 0x06 && item = tTDC_ENABLE then (if objInst o < 8 then 1 else 0)
  else if dom = 0x06 && item = tTDC_THRESH then (if objInst o < 2 then 150 else 450)
  else match itemRow dom item with
    | some r => r.reset
    | none => 0

/-- Is a value a member of the item's range column (15 R326)? -/
def inRange (r : Item) (v : Int) : Bool := r.rng.any (fun p => decide (p.1 ≤ v) && decide (v ≤ p.2))

/-- The least member of a range column (15 R329). -/
def rangeMin (r : Item) : Int := (r.rng.map (fun p => p.1)).foldl min (((r.rng.head?).map (fun p => p.1)).getD 0)

/-- The greatest member of a range column (15 R329). -/
def rangeMax (r : Item) : Int := (r.rng.map (fun p => p.2)).foldl max (((r.rng.head?).map (fun p => p.2)).getD 0)

end Sys2Proof.Machine
end

