-- ==== Sys2Proof/Machine/StateComp.lean ====
section
/-! DEFINITION. Machine/StateComp.lean: the plain data of the stream compressor (10). -/

namespace Sys2Proof.Machine

/-- A compression job descriptor with the bytes at its SRC_ADDR (10 Table 10-1). -/
structure JobDesc where
  magic : Nat
  stream : Nat
  flags : Nat
  format : Nat
  preW : Nat
  preWords : Nat
  preRow : Nat
  tag : Nat
  ovfLen : Nat
  dstLen : Nat
  srcLen : Nat
  compl : Nat
  ovf : Nat
  dst : Nat
  data : List Byte
  deriving DecidableEq, Repr

/-- A zone frame that waits for an engine, with the settings it closed under (10 R222, R225). -/
structure CompFrame where
  /-- Place in the order of closures (10 R218). -/
  order : Nat
  frame : Frame
  format : Nat
  pre : Bool
  /-- Bits of an output word. -/
  wbits : Nat
  deriving DecidableEq, Repr

/-- A code of a compressed stream: its bits, first bit first, the input bytes that are coded once it is written, and whether
zero bits follow up to the end of the byte. -/
structure Code where
  bits : List Bool
  covers : Nat
  align : Bool
  deriving DecidableEq, Repr

/-- A host job, or a part of a host stream (10 R227 to R231). -/
structure HostJob where
  /-- Place in the order of descriptors. -/
  order : Nat
  dst : Nat
  ovf : Nat
  /-- Buffers that earlier descriptors or resumes of the job gave, with their lengths (10 R229). -/
  bufs : List (Nat × Nat)
  compl : Nat
  dstLen : Nat
  ovfLen : Nat
  tag : Nat
  preRow : Nat
  preWords : Nat
  preW : Nat
  format : Nat
  more : Bool
  flush : Bool
  stream : Option Nat
  /-- The input as the device reads it from the host. -/
  src : List Byte
  /-- Bytes that no block has taken, after the pre-transform; of a stream, with what its open block holds. -/
  rest : List Byte
  /-- Input bytes of the stream before this part. -/
  base : Nat
  /-- Input bytes whose codes are written, since the first descriptor, and that number when this descriptor or resume
  began. -/
  consumed : Nat
  mark : Nat
  /-- The bytes coded so far, oldest first, at most 32 KiB: the window. -/
  window : List Byte
  /-- Codes formed and not yet written, and bits of the byte in progress. -/
  codes : List Code
  partBits : List Bool
  /-- Bytes written into DST (or the resume buffer), into the overflow buffer, and in all. -/
  dstOut : Nat
  ovfOut : Nat
  total : Nat
  /-- Sums of Adler-32 over the input so far. -/
  sumA : Nat
  sumB : Nat
  /-- The wrapper's header has gone out; the last codes have been formed. -/
  begun : Bool
  ended : Bool
  /-- A part has gone on from where its stream stood. -/
  joined : Bool
  /-- When a suspended job is discarded, SCLK count (10 R230). -/
  dropAt : Nat
  /-- When its stream is discarded unless another part is received, SCLK count (10 R231). -/
  streamEnd : Nat
  deriving DecidableEq, Repr

/-- A host stream that is open, between its parts (10 R231). -/
structure HostStream where
  format : Nat
  preRow : Nat
  preWords : Nat
  preW : Nat
  window : List Byte
  partBits : List Bool
  /-- Input of the block that is not complete. -/
  openBlock : List Byte
  /-- Input bytes so far, those whose codes are written, bytes written. -/
  input : Nat
  consumed : Nat
  total : Nat
  sumA : Nat
  sumB : Nat
  begun : Bool
  /-- When the stream is discarded, SCLK count. -/
  dropAt : Nat
  deriving DecidableEq, Repr

/-- What is known of a host stream's number. -/
inductive StreamSlot where
  | closed
  | opened (x : HostStream)
  | discarded
  deriving DecidableEq, Repr

/-- A closed stream. -/
def streamNone (_ : Nat) : StreamSlot := .closed

/-- State of an engine (10 R218, R234; 19 R402). -/
inductive EngineSt where
  | inService
  | spare
  /-- In its test, until an SCLK count; it was the spare, or out of service. -/
  | testing (endClk : Nat)
  | failed
  deriving DecidableEq, Repr

/-- What an engine works on. -/
inductive EngineWork where
  | idle
  | zone (f : CompFrame)
  | job (j : HostJob)
  deriving DecidableEq, Repr

/-- An engine: its state, its block, and the SCLK count at which it can have taken the block in. -/
structure Engine where
  st : EngineSt
  work : EngineWork
  readyAt : Nat
  deriving DecidableEq, Repr

/-- Engines 0 to 7 in service, engine 8 the spare (10 R218). -/
def engineReset (e : Nat) : Engine := ⟨if e = 8 then .spare else .inService, .idle, 0⟩

/-- The compressor (10). -/
structure Compressor where
  engines : KMap Engine
  /-- Zone frames that wait for an engine, oldest closure first. -/
  waiting : List CompFrame
  /-- Host jobs that wait for an engine, in descriptor order. -/
  jobs : List HostJob
  suspended : List HostJob
  streams : KMap StreamSlot
  /-- Descriptors taken so far. -/
  orders : Nat
  /-- Frames that have closed for the compressor so far. -/
  closures : Nat
  /-- Input bytes of host blocks started, with their SCLK counts, within the last 1 ms (10 R218). -/
  recent : List (Nat × Nat)
  /-- Payload and carried bytes by zone in the second in progress (10 Table 10-4 ZRATIO). -/
  ratioIn : KMap Nat
  ratioOut : KMap Nat
  deriving DecidableEq, Repr

/-- The compressor after PORST_N. -/
def compBlank : Compressor := ⟨[], [], [], [], [], 0, 0, [], [], []⟩

end Sys2Proof.Machine
end

