-- ==== Sys2Proof/Machine/StateFault.lean ====
section
/-! DEFINITION. Machine/StateFault.lean: the plain data of the fault collector, the journal and the snags (18). -/

namespace Sys2Proof.Machine

/-- A raise as the detecting rule hands it to the collector: the source and the journal data it names (18 Table 18-4). -/
structure Raise where
  src : Nat
  port : Nat
  zone : Nat
  ins : Nat
  d0 : Nat
  d1 : Nat
  deriving DecidableEq, Repr

/-- KIND of a journal entry (18 Table 18-4). -/
inductive EntryKind where
  | raise
  | clear
  | summary
  | stickyCleared
  | severity
  | snag
  | pin
  deriving DecidableEq, Repr

/-- A journal entry (18 Table 18-4); the 64 bytes are `entryBytes` of it. -/
structure JEntry where
  ts : Nat
  auxTs : Nat
  duration : Nat
  port : Nat
  zone : Nat
  ins : Nat
  d0 : Nat
  d1 : Nat
  count : Nat
  dropped : Nat
  snagActive : Bool
  live : Bool
  merged : Bool
  sameCycle : Bool
  kind : EntryKind
  action : Nat
  severity : Nat
  src : Nat
  unit : Nat
  seq : Nat
  deriving DecidableEq, Repr

/-- What the collector keeps while it coalesces a source's entries (18 R389). -/
structure Coal where
  raises : Nat
  firstTs : Nat
  lastTs : Nat
  duration : Nat
  data : Raise
  deriving DecidableEq, Repr

/-- What the collector keeps for a source (18 R380, R381, R389). -/
structure Source where
  /-- Live bit (reset 0). -/
  live : Bool
  /-- Sticky bit (reset 0). -/
  sticky : Bool
  /-- TS of the raise that made it live. -/
  liveTs : Nat
  /-- The data of that raise: the scope the action covers. -/
  data : Raise
  /-- Tokens in the bucket (18 R389, 0 to 16; reset 16, log 32). -/
  tokens : Nat
  /-- Entries dropped since its previous written entry (18 Table 18-4, 16 bits saturating). -/
  dropped : Nat
  /-- Entries coalesced and not yet summarised. -/
  coal : Option Coal
  /-- When the source's quiet interval runs out, SCLK count (18 R381). -/
  quietAt : Option Nat
  deriving DecidableEq, Repr

/-- A raise with no data: PORT and ZONE 0xFF, INSTANCE 0xFFFF, the rest 0 (18 Table 18-4 reset values). -/
def raiseBlank (src : Nat) : Raise := ⟨src, 0xFF, 0xFF, 0xFFFF, 0, 0⟩

/-- A source after PORST_N. -/
def sourceBlank (src : Nat) : Source := ⟨false, false, 0, raiseBlank src, 16, 0, none, none⟩

/-- An action (18 R379, R382, R383). -/
structure Action where
  severity : Nat
  sources : List Nat
  /-- The scopes of its raises: severity and (port, zone) of each. -/
  scopes : List (Nat × Nat × Nat)
  /-- The SCLK count 3 ms after the raise that started it. -/
  windowEnd : Nat
  /-- The window still runs. -/
  running : Bool
  deriving DecidableEq, Repr

/-- An active snag (18 R391, R392). -/
structure Snag where
  num : Nat
  target : Nat
  sub : Nat
  value : Int
  count : Nat
  period : Nat
  /-- Applications made. -/
  applied : Nat
  /-- When the next application falls due, SCLK count; none: it waits for its occasion. -/
  nextAt : Nat
  /-- When its live time (RAISE, RAISE_PAIR) or its timed effect ends, SCLK count. -/
  endAt : Option Nat
  /-- Its application waits for the event it perturbs (a launch, a block, an entry's run). -/
  armed : Bool
  /-- The ARGS bytes 0 to 13, for its journal entries (18 R387). -/
  args : List Byte
  deriving DecidableEq, Repr

/-- A closed journal frame that waits for ring 130 (18 R388). -/
structure JFrame where
  /-- Its entries, the oldest of the store. -/
  count : Nat
  /-- An entry since the frame before it was overwritten: it carries GAP. -/
  gap : Bool
  deriving DecidableEq, Repr

/-- The fault collector, the journal and the snags (18). -/
structure Collector where
  /-- Raises that a rule has decided and the collector has not yet registered (18 R380). -/
  detected : List Raise
  /-- The sources (18 Table 18-1). -/
  sources : KMap Source
  /-- Actions whose window runs or one of whose sources has stayed live, oldest first (18 R379). -/
  actions : List Action
  /-- FAULT_N is low (18 R384; reset low). -/
  pinLow : Bool
  /-- End of the pulse in progress, SCLK count (18 R385). -/
  pulseEnd : Option Nat
  /-- A FAULT_PIN_RELEASE of ACTION 0 waits for the pulse's end (18 R386). -/
  releaseWaits : Bool
  /-- ACTION 1 holds the pin (18 R386). -/
  hostHolds : Bool
  /-- A source at or above FAULT_N_SEV was raised since PORST_N (18 R384). -/
  raisedSince : Bool
  /-- The undelivered entries of the store, in SEQ order (18 R388). -/
  store : List JEntry
  /-- The FCLK cycle in which raises were last registered (18 R380, R382; log 195). -/
  regAt : Option Nat
  /-- The closed frames that wait for ring 130, oldest first (18 R388, R390). -/
  closed : List JFrame
  /-- When the open frame's first entry came, SCLK count (18 R388). -/
  openSince : Nat
  /-- An entry since the last closed frame was overwritten: the open frame carries GAP (18 R388). -/
  gapNext : Bool
  /-- The snags that are set (18 R391). -/
  snags : List Snag
  /-- JOURNAL_BEHIND of FAULT_SUMMARY (18 R390; reset 0). -/
  behind : Bool
  /-- When the buckets next gain a token, SCLK count (18 R389). -/
  tokenAt : Nat
  /-- When the control processor last fed the collector watchdog (18 Table 18-2), SCLK count. -/
  fedAt : Nat
  deriving DecidableEq, Repr

/-- The collector after PORST_N: FAULT_N low, nothing recorded (18 R384, R388). -/
def collectorBlank : Collector :=
  { detected := [], sources := [], actions := [], pinLow := true, pulseEnd := none, releaseWaits := false, hostHolds := false,
    raisedSince := false, store := [], regAt := none, closed := [], openSince := 0, gapNext := false, snags := [], behind := false,
    tokenAt := 78125, fedAt := 0 }

end Sys2Proof.Machine
end

