-- ==== Sys2Proof/Machine/StateMem.lean ====
section
/-! DEFINITION. Machine/StateMem.lean: the plain data of the external memory controller (13). -/

namespace Sys2Proof.Machine

/-- An access that waits at a DRAM channel: its memory port P0 to P7, rank, bank 0 to 15, row, and the SCLK count of its
arrival (13 R286). -/
structure MemReq where
  port : Nat
  rank : Nat
  bank : Nat
  row : Nat
  since : Nat
  deriving DecidableEq, Repr

/-- A bank: its open row and last access, its page predictor, its activate table, its refreshes owed (13 R287, R289,
R292). -/
structure MemBank where
  /-- The open row; none: precharged. -/
  row : Option Nat
  /-- SCLK count of the last access. -/
  used : Nat
  /-- The 2-bit counter of PREDICT (13 R287; reset 0, log 87). -/
  pred : Nat
  /-- Rows and activate counts, at most 64; missing entries count 0 (13 R292). -/
  acts : List (Nat × Nat)
  /-- Rows whose count has reached ACT_THRESH (13 R292). -/
  hot : List Nat
  /-- Refreshes that have fallen due and not been issued. -/
  owed : Nat
  deriving DecidableEq, Repr

/-- A bank after PORST_N. -/
def bankClosed (_ : Nat) : MemBank := ⟨none, 0, 0, [], [], 0⟩

/-- A DRAM channel (13 R286 to R292). -/
structure MemChan where
  /-- Accesses that wait, oldest first. -/
  queue : List MemReq
  /-- Consecutive row hits (13 R286). -/
  hits : Nat
  /-- Banks by rank × 16 + bank. -/
  banks : KMap MemBank
  /-- In self-refresh (13 R291). -/
  asleep : Bool
  /-- SCLK count of the last request for the channel. -/
  lastReq : Nat
  deriving DecidableEq, Repr

/-- A channel after PORST_N. -/
def memChanBlank (_ : Nat) : MemChan := ⟨[], 0, [], false, 0⟩

/-- What the controller keeps for a device, by channel × 2 + rank (13 R281, R282, R289). -/
structure MemDev where
  /-- Drift since the last training, in UI, by which the delays have been moved. -/
  drift : Rat
  /-- SCLK count at which its oscillators are next read. -/
  checkAt : Nat
  /-- The refresh rate that MR4 reports, as a multiple of a quarter of the base rate. -/
  rate : Nat
  /-- It has asked for 4× the base rate and not reported 1× or 2× since (13 Table 13-6). -/
  hot : Bool
  deriving DecidableEq, Repr

/-- A device after PORST_N: the base rate. -/
def memDevBlank (_ : Nat) : MemDev := ⟨0, 0, 4, false⟩

/-- A row of the DRAM: channel, rank, bank, row (13 R293). -/
structure HardRepair where
  ch : Nat
  rank : Nat
  bank : Nat
  row : Nat
  deriving DecidableEq, Repr

/-- The memory controller (13). -/
structure MemCtl where
  chans : KMap MemChan
  devs : KMap MemDev
  /-- MR4 is next read, SCLK count (13 R289). -/
  mr4At : Nat
  /-- Activate counts next reset, SCLK count (13 R292). -/
  actAt : Nat
  /-- The devices report RFM support (13 R292; not known before training: no). -/
  rfm : Bool
  /-- A set-point change in progress: its target, and when it began (13 Table 13-3). -/
  change : Option (Nat × Nat)
  /-- A set point to change to when the change in progress or the training ends (13 R285). -/
  freqWaits : Option Nat
  /-- A queued MEM_FREQ replaced an earlier one (15 R321). -/
  freqReplaced : Bool
  /-- MEM_TRAIN in progress since an SCLK count (13 R283). -/
  training : Option Nat
  /-- The row of the hard repair in progress. -/
  hard : Option HardRepair
  /-- Rows whose ECS count has passed 16 and that no repair has followed (13 R293, Table 13-6). -/
  ecs : List HardRepair
  /-- Repairs made by bank: channel × 32 + rank × 16 + bank (13 R293). -/
  repairs : KMap Nat
  /-- Of these, the hard ones, which the devices keep (13 R293). -/
  hardRepairs : KMap Nat
  deriving DecidableEq, Repr

/-- The memory controller after PORST_N. -/
def memBlank : MemCtl := ⟨[], [], 0, 0, false, none, none, false, none, none, [], [], []⟩

end Sys2Proof.Machine
end

