-- ==== Sys2Proof/Machine/StateNeedle.lean ====
section
/-! DEFINITION. Machine/StateNeedle.lean: the plain data of the Needle array (09): cores, user slots, kernels. -/

namespace Sys2Proof.Machine

/-- An open block repeat (09 R197): the body's first address and the address after it, iterations left (this one
included) and in all. -/
structure RepLevel where
  first : Nat
  after : Nat
  left : Nat
  total : Nat
  deriving DecidableEq, Repr

/-- A core's registers, memory and pipeline (09 R193 to R197). -/
structure Core where
  /-- G0 to G31, 128 bits. -/
  g : KMap Nat
  /-- AC0 to AC7, 40 bits signed. -/
  ac : KMap Int
  /-- A0 to A7, 32 bits. -/
  a : KMap Nat
  /-- O0 to O7, 32 bits signed. -/
  o : KMap Int
  /-- MB0 to MB7, 32 bits. -/
  mb : KMap Nat
  /-- ML0 to ML7, 32 bits. -/
  ml : KMap Nat
  /-- ST[7:0] (09 Table 09-3); DEPTH is the number of open repeats. -/
  st : Nat
  /-- Open repeats, innermost first; LC0 to LC2 are their counts. -/
  reps : List RepLevel
  pc : Nat
  /-- Return addresses of calls, newest first (log 52). -/
  ret : List Nat
  /-- CYC: NCLK cycles since the core started (09 R201). -/
  cyc : Nat
  /-- Cycle from which a register's last result may be used without a stall: 0 to 31 G, 32 to 39 AC, 40 to 47 A, 48 ST. -/
  ready : KMap Nat
  /-- Halted by HALT, a trap or a stop. -/
  halted : Bool
  /-- N-core: the local memory of 09 Table 09-4. X-core: X memory at its address, Y memory from 0x1_0000. -/
  mem : Memory
  /-- X-core instruction memory (09 R203). -/
  prog : Memory
  /-- A DMA copy that runs: local address, window address, bytes, to the window, its paced end as SCLK count (09 R212). -/
  dma : Option (Nat × Nat × Nat × Bool × Nat)
  /-- SCLK count up to which the pace of DMA is used up (09 R212). -/
  paceEnd : Nat
  /-- Cycle of the last satisfied WAIT of each subscription (09 R217 KRN_MAX_CYCLES). -/
  waited : KMap Nat
  /-- SCLK count at which the core started: NCLK and SCLK both run at 1.25 GHz. -/
  startClk : Nat
  deriving DecidableEq, Repr

/-- A core whose registers are all zero. -/
def coreBlank (_ : Nat) : Core :=
  { g := [], ac := [], a := [], o := [], mb := [], ml := [], st := 0, reps := [], pc := 0, ret := [], cyc := 0, ready := [],
    halted := false, mem := [], prog := [], dma := none, paceEnd := 0, waited := [], startClk := 0 }

/-- What a physical core does (09 R192, R207, R213 to R215). -/
inductive CoreUse where
  | vendor
  | user (slot : Nat)
  | shadow (slot : Nat)
  | spare
  /-- In its self-test, until an SCLK count. -/
  | testing (endClk : Nat)
  | failed
  deriving DecidableEq, Repr

/-- Physical cores 0 to 63 are N0 to N63, 64 to 67 X0 to X3: 60 and 3 in service at first (09 Table 09-1; log 53). -/
def coreUseReset (c : Nat) : CoreUse := if (60 ≤ c ∧ c < 64) ∨ c = 67 then .spare else .vendor

/-- A kernel image: header fields, program, initialised data (09 Table 09-11). -/
structure KrnImage where
  cyclesPerRow : Nat
  dramRate : Nat
  outRingKib : Nat
  outRecBytes : Nat
  outRate : Nat
  bss : Nat
  entry : Nat
  /-- KIND, ZONE, RING_KIB of SUB_0 to SUB_3. -/
  subs : List (Nat × Nat × Nat)
  carry : Bool
  prog : List Byte
  data : List Byte
  deriving DecidableEq, Repr

/-- A subscription's ring (09 Table 09-12). -/
structure SubRing where
  kind : Nat
  zone : Nat
  base : Nat
  bytes : Nat
  rowBytes : Nat
  /-- RATE in mHz. -/
  rate : Nat
  rd : Nat
  wr : Nat
  /-- Byte offset at which the next row is written. -/
  off : Nat
  /-- Sizes of the rows that no DONE has freed, oldest first. -/
  lens : List Nat
  /-- Rows that the zone produced since the kernel started (09 R210). -/
  seq : Nat
  deriving DecidableEq, Repr

/-- KRN_STATE (09 Table 09-13). -/
inductive KrnSt where
  | empty
  | loading
  | loaded
  | running
  | shadow
  | trapped
  deriving DecidableEq, Repr

/-- A swap in progress (09 R214): rows of subscription 0 written to the old core, and the SCLK count of its forced
halt. -/
structure KrnSwap where
  row : Nat
  deadline : Nat
  deriving DecidableEq, Repr

/-- A user slot (09 R207 to R214). -/
structure UserSlot where
  st : KrnSt
  /-- The state before LOADING. -/
  before : KrnSt
  core : Option Nat
  shadowCore : Option Nat
  image : Option KrnImage
  /-- The image that loads, or waits in SHADOW. -/
  next : Option KrnImage
  /-- DESC_TAG of the KRN_LOAD in progress. -/
  tag : Nat
  /-- SCLK count at which the self-test of the spare that the image goes to ends; none: passed, or none needed (09 R213). -/
  testEnd : Option Nat
  subs : List SubRing
  /-- Rings of the shadow core, once a swap has begun. -/
  nextSubs : List SubRing
  swap : Option KrnSwap
  /-- A KRN_STOP waits for the row boundary (09 R213). -/
  stopping : Bool
  /-- Records in the output ring, oldest first, with their TS72. -/
  out : List (Nat × List Byte)
  /-- The output ring: base, bytes, write offset, records written and drained by the present kernel. -/
  outBase : Nat
  outBytes : Nat
  outOff : Nat
  outWr : Nat
  outRd : Nat
  /-- SCLK count from which the router may take the next record (09 R211). -/
  drainAt : Nat
  deriving DecidableEq, Repr

/-- A slot that holds nothing. -/
def userBlank (_ : Nat) : UserSlot :=
  { st := .empty, before := .empty, core := none, shadowCore := none, image := none, next := none, tag := 0, testEnd := none, subs := [], nextSubs := [],
    swap := none, stopping := false, out := [], outBase := 0, outBytes := 0, outOff := 0, outWr := 0, outRd := 0, drainAt := 0 }

/-- A core fault whose replacement is not in service yet (09 R215). -/
structure CoreFault where
  core : Nat
  /-- SCLK count of the cause. -/
  since : Nat
  /-- What the core did. -/
  use : CoreUse
  /-- Its kernel ran (09 R215). -/
  ran : Bool
  /-- Its place in the vendor pool and the pool's size, which give its slice (09 R204, R215). -/
  slice : Nat × Nat
  /-- NEEDLE_CORE_FAULT has declared it. -/
  declared : Bool
  /-- The physical spare taken for it. -/
  spare : Option Nat
  deriving DecidableEq, Repr

/-- What the statistics of a stitch add up in a second (09 Table 09-7, 14 R304): samples, sums and sums of squares of AMP and
DPHI, samples that carried FADED, SPAN, CLIP, INTERP. -/
structure StatAcc where
  n : Nat
  amp : Int
  ampSq : Nat
  dphi : Int
  dphiSq : Nat
  faded : Nat
  span : Nat
  clip : Nat
  interp : Nat
  deriving DecidableEq, Repr

/-- No sample yet. -/
def statNone : StatAcc := ⟨0, 0, 0, 0, 0, 0, 0, 0, 0⟩

/-- The statistics of a port: by stitch, and the second they cover. -/
structure PortStats where
  acc : List StatAcc
  sec : Nat
  deriving DecidableEq, Repr

/-- No statistics yet. -/
def statsNone (_ : Nat) : PortStats := ⟨[], 0⟩

/-- The Needle array (09). -/
structure Needle where
  cores : KMap Core
  use : KMap CoreUse
  slots : KMap UserSlot
  faults : List CoreFault
  /-- Statistics of ports A and B (09 R204). -/
  stats : KMap PortStats
  deriving DecidableEq, Repr

/-- The array after PORST_N. -/
def needleBlank : Needle := ⟨[], [], [], [], []⟩

end Sys2Proof.Machine
end

