-- ==== Sys2Proof/Machine/StateTime.lean ====
section
/-! DEFINITION. Machine/StateTime.lean: the plain data of the timebase, PPS, PTM and the TDC (08). -/

namespace Sys2Proof.Machine

/-- PPS_STATE (08 Table 08-4). -/
inductive PpsSt where
  | off
  | acquiring
  | tracking
  | holdover
  deriving DecidableEq, Repr

/-- A measured edge (08 R177): its TS72, the core, overflow, polarity. -/
structure Meas where
  ts : Nat
  core : Nat
  ovfl : Bool
  falling : Bool
  /-- The tick c that registered the edge. -/
  tick : Nat
  deriving DecidableEq, Repr

/-- One TDC channel (08 R176 to R184). -/
structure TdcChan where
  /-- SCLK count of the previous accepted edge (08 R179). -/
  lastEdge : Option Nat
  /-- End of the 2 µs settling of R180, SCLK count. -/
  settleUntil : Option Nat
  /-- Calibrated tables U_q(n), key q × 512 + n (08 R181); unlisted: the reset table. -/
  table : KMap Nat
  /-- Cores whose tables are calibrated, bits 3..0 (08 R184 UNCAL; reset 0). -/
  calibrated : Nat
  /-- Cores under test: bits 3..0 (08 R183). -/
  testing : Nat
  /-- Cores that the run in progress has still to test, bits 3..0 (08 R183). -/
  toTest : Nat
  /-- Cores failed and out of rotation, bits 3..0 (08 R182). -/
  failed : Nat
  /-- The run in progress has raised source 44; source 45 stands for the channel (08 R182). -/
  coreTold : Bool
  chanTold : Bool
  /-- The test is foreground: the channel measures nothing (08 R183). -/
  foreground : Bool
  /-- Accepted edges since the last TDC_CONFIG (08 Table 08-3 SEQ, 32 bits wrapping). -/
  seq : Nat
  /-- Edges lost since the previous record (08 Table 08-3 LOST, 16 bits saturating). -/
  lost : Nat
  /-- The measurements that the channel's users have not yet taken, oldest first (08 R176, R178). -/
  meas : List Meas
  deriving DecidableEq, Repr

/-- U_q(n) of the reset table, (n − 0.5) × 256 (08 R181). -/
def tdcReset (k : Nat) : Nat := 256 * (k % 512) - 128

/-- A channel after PORST_N. -/
def tdcBlank (_ : Nat) : TdcChan := ⟨none, none, [], 0, 0, 0, 0, false, false, false, 0, 0, []⟩

/-- A pending TIME_SET of mode 1 (08 R185). -/
structure TimeStep where
  v : Nat
  deadline : Nat
  /-- It replaced an earlier one (15 R321). -/
  replaced : Bool
  deriving DecidableEq, Repr

/-- The timebase, PPS, PTM and TDC (08). -/
structure Timing where
  /-- SCLK ticks since the root locked: what every interval is counted in. The model's own (log 1). -/
  sclk : Nat
  /-- The timebase, 64 bits (08 R174; 0 at root lock). -/
  ticks : Nat
  /-- A TIME_SET of mode 1 that waits for its edge (08 R185). -/
  step : Option TimeStep
  /-- PPS_STATE (08 Table 08-4; reset OFF). -/
  pps : PpsSt
  /-- e_(k−1): the edge that set the reference, or the latest in-window PPS edge, less PPS_DELAY, TS72 (08 R187). -/
  ppsLast : Option Nat
  /-- SCLK count at which the window of the next edge ends (08 R187). -/
  ppsDeadline : Option Nat
  /-- Consecutive in-window edges (08 R187). -/
  ppsGood : Nat
  /-- Steering suspended by source 7 (08 R187). -/
  ppsSuspended : Bool
  /-- PPS_OUT is high (08 R188; reset low). -/
  ppsOut : Bool
  /-- When PPS_OUT goes low again, SCLK count (08 R188). -/
  ppsOutEnd : Nat
  /-- A PTM dialog in progress: t1 and its deadline, SCLK count (08 R189). -/
  ptmDialog : Option (Nat × Nat)
  /-- When the next PTM dialog starts, SCLK count (08 R189). -/
  ptmAt : Nat
  /-- The sixteen channels (08 R176). -/
  tdc : KMap TdcChan
  deriving DecidableEq, Repr

/-- The timebase after PORST_N, before the root locks (08 R174). -/
def timingBlank : Timing :=
  { sclk := 0, ticks := 0, step := none, pps := .off, ppsLast := none, ppsDeadline := none, ppsGood := 0, ppsSuspended := false,
    ppsOut := false, ppsOutEnd := 0, ptmDialog := none, ptmAt := 0, tdc := [] }

end Sys2Proof.Machine
end

