-- ==== Sys2Proof/Machine/State.lean ====
section
/-! DEFINITION. Machine/State.lean: the state of the GX-6420, its reset, and the reasons a step can stop. -/

namespace Sys2Proof.Machine

/-- Reasons a step stops with a fault. -/
inductive Fault where
  /-- Raised by no command: every command of the block answers a next state. Safe. -/
  | noEffect
  deriving DecidableEq, Repr

/-- Reasons a command has no meaning. -/
inductive Refusal where
  /-- Answered by an arm of `exec` whose command has no meaning yet, naming it. Safe: the machine stops. -/
  | notModelled (mnemonic : String)
  deriving DecidableEq, Repr

/-- The whole machine. -/
structure State where
  /-- Commands that wait, first in first out (the model's own queue). -/
  pending : List Instr
  /-- Mailbox commands that wait for the end of a bind-off, in acceptance order (20 R432). -/
  held : List Instr
  /-- The model's own counter of free values taken (log 4); no statement rests on it. -/
  free : Nat
  /-- Applied parameter items and RO items, by object ID (00; the item table of each chapter). -/
  params : KMap Int
  /-- The staged set (15 R325). -/
  staged : KMap (Option Int)
  /-- The 64 mailbox slots (15 R315). -/
  slots : KMap Slot
  /-- Host link, rings, interrupts (14). -/
  link : HostLink
  /-- Boot, supplies, firmware (20, 21). -/
  boot : Boot
  /-- Calibration records, repair map, NVM (19). -/
  cal : Cal
  /-- Fault collector, journal, snags (18). -/
  col : Collector
  /-- Timebase, PPS, PTM, TDC (08). -/
  time : Timing
  /-- The two optical ports (01 to 05). -/
  ports : KMap Port
  /-- Zones, detectors, event stream, skeins (06, 07). -/
  cap : Capturing
  /-- The Needle array (09). -/
  needle : Needle
  /-- The stream compressor (10). -/
  comp : Compressor
  /-- The precision front end (11). -/
  fe : FrontEnd
  /-- The loop outputs (11). -/
  loops : Loops
  /-- The source drive and gate tests (12). -/
  src : Sources
  /-- The Purl Link (16). -/
  purl : Purl
  /-- The pair (17). -/
  pair : Pair
  /-- The memory controller (13). -/
  mem : MemCtl
  /-- DRAM contents (13 R280). -/
  dram : Memory
  deriving DecidableEq, Repr

/-- The machine right after reset: PORST_N low, nothing listed, every item at its Reset value (20 R418; 19 R405; the blanks of
each part). -/
def State.reset : State :=
  { pending := [], held := [], free := 0, params := [], staged := [], slots := [], link := hostLinkBlank, boot := bootBlank,
    cal := calStateBlank, col := collectorBlank, time := timingBlank, ports := [], cap := capturingBlank,
    needle := needleBlank, comp := compBlank, fe := frontEndBlank, loops := loopsBlank, src := sourcesBlank,
    purl := purlBlank, pair := pairBlank, mem := memBlank, dram := [] }

end Sys2Proof.Machine
end

