-- ==== Sys2Proof/Machine/Ops.lean ====
section
/-! DEFINITION. Machine/Ops.lean: the operations every chapter shares: items and the staged set, times, interrupts,
rings and housekeeping frames, mailbox slots and responses, raising a fault source. -/

namespace Sys2Proof.Machine

/-! ### Items (00, 15 R325 to R329) -/

/-- The applied value of an item. -/
def getP (s : State) (dom ins item : Nat) : Int := kget paramReset s.params (objId dom ins item)

/-- The applied value of an item whose values are not negative. -/
def natP (s : State) (dom ins item : Nat) : Nat := (getP s dom ins item).toNat

/-- The state with an item's value written. -/
def setP (s : State) (dom ins item : Nat) (v : Int) : State :=
  { s with params := kput paramReset s.params (objId dom ins item) v }

/-- The state with a 32-bit count item counted once. -/
def bumpP (s : State) (dom ins item : Nat) : State := setP s dom ins item (inc32 (getP s dom ins item))

/-- The state with a 32-bit count item counted `n` times. -/
def addP (s : State) (dom ins item n : Nat) : State := setP s dom ins item (add32 (getP s dom ins item) n)

/-- No staged value. -/
def noStage (_ : Nat) : Option Int := none

/-- The staged value of an object, if one is staged (15 R325). -/
def stagedOf (s : State) (o : Nat) : Option Int := kget noStage s.staged o

/-- The state with a value staged (15 R326). -/
def stage (s : State) (o : Nat) (v : Int) : State := { s with staged := kput noStage s.staged o (some v) }

/-- The value an applying command uses: the staged one if there is one, the applied one otherwise (15 R325). -/
def planP (s : State) (dom ins item : Nat) : Int :=
  (stagedOf s (objId dom ins item)).getD (getP s dom ins item)

/-- The same as a natural number. -/
def planN (s : State) (dom ins item : Nat) : Nat := (planP s dom ins item).toNat

/-- The state with the staged values of the objects a test names applied, and out of the staged set (15 R325). -/
def applyStaged (s : State) (f : Nat → Bool) : State :=
  { s with
    params := (s.staged.filter (fun p => f p.1)).foldl (fun m p => match stagedOf s p.1 with
      | some v => kput paramReset m p.1 v
      | none => m) s.params
    staged := s.staged.filter (fun p => !f p.1) }

/-- The staged values of the objects a test names, with their objects. -/
def stagedPairs (s : State) (f : Nat → Bool) : List (Nat × Int) :=
  (s.staged.filter (fun p => f p.1)).filterMap (fun p => (stagedOf s p.1).map (fun v => (p.1, v)))

/-- The objects a test names that have a staged value, in object order. -/
def stagedIds (s : State) (f : Nat → Bool) : List Nat := (s.staged.filter (fun p => f p.1)).map (fun p => p.1)

/-- The state with every item of a domain and inst a test names back at its Reset value. -/
def resetItems (s : State) (f : Nat → Bool) : State :=
  { s with params := kfilter (fun o => !f o) s.params }

/-! ### Free values (log 4) -/

/-- A free number and the state with the counter advanced. -/
def takeFree (s : State) : Nat × State := (Config.freeNat s.free, { s with free := s.free + 1 })

/-- A free integer and the state with the counter advanced. -/
def takeFreeI (s : State) : Int × State := (Config.freeInt s.free, { s with free := s.free + 1 })

/-! ### Times (00 R6, 08 R174, R175) -/

/-- SCLK ticks in a microsecond. -/
abbrev usTicks : Nat := 1250

/-- SCLK ticks in a millisecond. -/
abbrev msTicks : Nat := 1250000

/-- SCLK ticks in a second. -/
abbrev secTicks : Nat := 1250000000

/-- The TS72 of the present tick; FINE is 0 (08 R175). -/
def nowTs (s : State) : Nat := ts72 s.time.ticks 0

/-- The SCLK count (log 1). -/
def nowClk (s : State) : Nat := s.time.sclk

/-- The SCLK count at which the timebase, unstepped, shows a tick value, past or to come. -/
def clkOfTick (s : State) (t : Nat) : Nat := s.time.sclk + t - s.time.ticks

/-! ### Fault sources (18 R380) -/

/-- The collector's record of a source. -/
def srcRec (s : State) (src : Nat) : Source := kget sourceBlank s.col.sources src

/-- The state with a source's record replaced. -/
def setSrcRec (s : State) (src : Nat) (x : Source) : State :=
  { s with col := { s.col with sources := kput sourceBlank s.col.sources src x } }

/-- The condition of a source holds again: a clearing interval that ran is over (18 R380, R381; log 12). -/
def dropQuiet (s : State) (src : Nat) : State :=
  if (srcRec s src).quietAt.isSome then setSrcRec s src { srcRec s src with quietAt := none } else s

/-- A rule decides a raise: it goes to the collector, which registers it at FAULT_RAISE (18 R380). -/
def detect (s : State) (x : Raise) : State :=
  let s := dropQuiet s x.src
  { s with col := { s.col with detected := s.col.detected ++ [x] } }

/-- A raise of a source with no journal data. -/
def detectSrc (s : State) (src : Nat) : State := detect s (raiseBlank src)

/-- A raise that names a port and an INSTANCE. -/
def detectPort (s : State) (src port ins : Nat) : State := detect s { raiseBlank src with port := port, ins := ins }

/-- Does a raise of a source wait to be registered (18 R380)? -/
def raisePending (s : State) (src : Nat) : Bool := s.col.detected.any (fun x => x.src = src)

/-- The live bit of a source (18 R380). -/
def isLive (s : State) (src : Nat) : Bool := (srcRec s src).live

/-- The programmed severity of a source, for a raise of its channel `ins` (18 R377): source 45 takes the lower of its
severity and 1 NOTE outside channels 0 and 1. -/
def severityFor (s : State) (src ins : Nat) : Nat :=
  let v := natP s 0x0D 0 (jSEVERITY + src)
  if src = 45 && 2 ≤ ins then min v 1 else v

/-- A source's quiet interval starts, or starts again: its live bit clears when it runs out (18 R381). -/
def quietIn (s : State) (src ticks : Nat) : State :=
  setSrcRec s src { srcRec s src with quietAt := some (nowClk s + ticks) }

/-- Is a snag active (18 R391)? -/
def snagsOn (s : State) : Bool := !s.col.snags.isEmpty

/-- The active snag of a number and target, if any (18 R391). -/
def snagOf (s : State) (num target : Nat) : Option Snag :=
  s.col.snags.find? (fun x => x.num = num && x.target = target)

/-- Is a timed effect of a snag in force (18 Table 18-5)? -/
def snagEffect (s : State) (num target : Nat) : Bool :=
  match snagOf s num target with
  | some x => x.endAt.isSome
  | none => false

/-! ### Interrupts (14 R301, R306) -/

/-- A word of the MSI-X table after reset: the Mask bit of each Vector Control is set. PRESUMED (log 30). -/
def msixReset (w : Nat) : Nat := if w % 4 = 3 then 1 else 0

/-- Is a vector masked (14 R306)? -/
def vectorMasked (s : State) (v : Nat) : Bool := (kget msixReset s.link.msixTable (4 * v + 3)) % 2 = 1

/-- A vector is raised: its message goes out, or a masked vector sets its PBA bit; nothing while MSI-X is disabled (14
R306). -/
def raiseVector (s : State) (v : Nat) : State :=
  if 136 ≤ v || !s.link.msixOn then s
  else if vectorMasked s v then { s with link := { s.link with pba := s.link.pba ||| 2 ^ v } }
  else { s with link := { s.link with sent := kmod (fun _ => 0) s.link.sent v (· + 1) } }

/-- The state with another BOOT_STATE; while MSI-X is disabled a change asserts INTA (14 R306). -/
def setBootSt (s : State) (b : BootSt) : State :=
  let changed := decide (s.boot.st ≠ b)
  { s with
    boot := { s.boot with st := b }
    link := { s.link with inta := s.link.inta || (changed && !s.link.msixOn && s.link.endpointUp) } }

/-! ### Rings and frames (14 R301 to R307, 06 R147) -/

/-- The record of a ring: 0 to 131 C2H, 132 + h for H2C ring h. -/
def ringOf (s : State) (r : Nat) : Ring := kget ringBlank s.link.rings r

/-- The state with a ring's record replaced. -/
def setRing (s : State) (r : Nat) (x : Ring) : State :=
  { s with link := { s.link with rings := kput ringBlank s.link.rings r x } }

/-- A frame joins the queue of its ring (14 R307). -/
def queueFrame (s : State) (r : Nat) (f : Frame) (last : Job) : State :=
  let x := ringOf s r
  setRing s r { x with queue := x.queue ++ [⟨f, nowClk s, last⟩] }

/-- EPOCH in force (17 R358). -/
def epochOf (s : State) : Nat := natP s 0x0B 0 0x0081

/-- FLAGS bit 3 of a frame (06 Table 06-7). -/
abbrev flagGap : Nat := 3

/-- A frame of one of the streams 128 to 131, no flags, in the present epoch (06 Table 06-6). -/
def streamFrame (s : State) (zone product ts first size count : Nat) (payload : List Byte) : Frame :=
  ⟨zone, product, 0, epochOf s, s.boot.unitId, ts, first, size, 0, count, 0, payload⟩

/-- The 48 bytes of a frame header (06 Table 06-6), `payload` being what is carried. -/
def frameHeader (f : Frame) : List Byte :=
  leBytes 2 0x4758 ++ leBytes 1 1 ++ leBytes 1 f.product ++ leBytes 1 f.zone ++ leBytes 1 f.unit ++
    leBytes 2 f.flags ++ leBytes 4 f.epoch ++ tsBytes f.ts ++ leBytes 4 f.firstStitch ++
    leBytes 4 (f.stitchCount % 2 ^ 20 + f.stride * 2 ^ 20) ++ leBytes 4 f.sampleCount ++ leBytes 4 f.warmupIndex ++
    leBytes 4 f.payload.length ++ leBytes 4 (crc32c f.payload)

/-- A frame as it is written on a ring: header, payload, zeros up to a multiple of 64 bytes (14 R304). -/
def frameBytes (f : Frame) : List Byte :=
  let b := frameHeader f ++ f.payload
  b ++ zeros ((64 - b.length % 64) % 64)

/-- The bytes of a ring's data area (14 R304). -/
def ringDataLen (x : Ring) : Nat := 2 ^ x.size - 64

/-- The free space of a C2H ring, (CONS − PROD − 64) modulo the data length (14 R304). -/
def ringFree (x : Ring) : Nat :=
  let l := ringDataLen x
  if l = 0 then 0 else (x.cons + 2 * l - x.prod % l - 64) % l

/-- The 64 bytes of a ring's status block (14 Table 14-7): WB is PROD on a C2H ring, CONS on an H2C ring. -/
def statusBlock (r : Nat) (x : Ring) : List Byte :=
  leBytes 4 (if r < 132 then x.prod else x.cons) ++ leBytes 4 x.seq ++ leBytes 4 x.dropped ++ zeros 52

/-- The status block is written at the last 64 bytes of the ring's buffer (14 R302). -/
def writeStatus (s : State) (r : Nat) : State :=
  let x := ringOf s r
  { s with link := { s.link with hostMem := memWrite s.link.hostMem (x.base + ringDataLen x) (statusBlock r x) } }

/-- A completion counts toward the ring's interrupt: MOD_COUNT of them raise the vector, or MOD_US after the first (14
R306; MOD_US = 0 raises it at once, log 15). -/
def announce (s : State) (r : Nat) : State :=
  let x := ringOf s r
  let n := x.unannounced + 1
  if max 1 x.modCount ≤ n || x.modUs = 0 then
    raiseVector (setRing s r { x with unannounced := 0, modAt := none }) x.vector
  else setRing s r { x with
    unannounced := n, modAt := if x.modAt.isSome then x.modAt else some (nowClk s + x.modUs * usTicks) }

/-- Can a C2H ring take a frame of `n` bytes now: running, room for it, no RING_HOLD snag in effect (14 R304; 18 Table
18-5)? -/
def ringTakes (s : State) (r n : Nat) : Bool :=
  let x := ringOf s r
  decide (x.st = .running) && decide (n ≤ ringFree x) && !snagEffect s 0x0030 r

/-- The size of a frame on the ring, padding included (14 R304). -/
def frameSize (f : Frame) : Nat := (48 + f.payload.length + 63) / 64 * 64

/-- The size of a housekeeping record of a type; kernel records state their own (14 R304). -/
def hkRecSize (key : Nat) : Nat :=
  match key with
  | 0 => 32
  | 1 => 32
  | 2 => 48
  | 3 => 32
  | 5 => 0
  | _ => 24

/-- The record type of an open frame's key: 0x40 + port holds the statistics (14 R449). -/
def hkType (key : Nat) : Nat := if 0x40 ≤ key then 4 else key

/-- The open housekeeping frame of a key (14 R449). -/
def hkGet (s : State) (key : Nat) : HkOpen := kget (fun _ => hkNone) s.link.hkOpen key

/-- The open housekeeping frame of a type closes and waits for ring 131 (14 R449). -/
def hkClose (s : State) (key : Nat) : State :=
  let h := hkGet s key
  if h.recs.isEmpty then s
  else
    let f := streamFrame s 131 (hkType key) h.firstTs h.first (hkRecSize key) h.recs.length h.recs.flatten
    let s := queueFrame s 131 f .none
    { s with link := { s.link with hkOpen := kput (fun _ => hkNone) s.link.hkOpen key hkNone } }

/-- A record enters the open housekeeping frame of its type, which closes first if the record would take its payload
past 65,536 bytes (14 R449). -/
def hkPutAt (s : State) (key first : Nat) (rec : List Byte) (ts : Nat) : State :=
  let s := if 65536 < (hkGet s key).bytes + rec.length then hkClose s key else s
  let h := hkGet s key
  let h' : HkOpen :=
    if h.recs.isEmpty then ⟨[rec], rec.length, ts, nowClk s, first⟩
    else { h with recs := h.recs ++ [rec], bytes := h.bytes + rec.length }
  { s with link := { s.link with hkOpen := kput (fun _ => hkNone) s.link.hkOpen key h' } }

/-- A record of types 0 to 3 or 5, whose frames have FIRST_STITCH 0 (14 R304). -/
def hkPut (s : State) (key : Nat) (rec : List Byte) (ts : Nat) : State := hkPutAt s key 0 rec ts

/-! ### Mailbox slots and responses (15 R315 to R324) -/

/-- A mailbox slot. -/
def slotOf (s : State) (n : Nat) : Slot := kget (fun _ => slotBlank) s.slots n

/-- The state with a slot replaced. -/
def setSlot (s : State) (n : Nat) (x : Slot) : State := { s with slots := kput (fun _ => slotBlank) s.slots n x }

/-- How a command's body ends: with a final answer, or deferred with what it waits for (15 R318). -/
inductive Answer where
  | final (r : Reply)
  | later (j : Job)
  deriving DecidableEq, Repr

/-- OK with a payload (15 Table 15-4). -/
def okWith (payload : List Byte) : Reply := ⟨0x00, 0, 0, 0, 0, payload⟩

/-- OK with no payload. -/
def okBare : Reply := okWith []

/-- BUSY: WHICH names the slot or object (15 R321). -/
def busy (which : Nat) : Reply := ⟨0x01, 0, which, 0, 0, []⟩

/-- BAD_PARAM: ITEM and WHICH (15 R319). -/
def badParam (item which : Nat) : Reply := ⟨0x03, item, which, 0, 0, []⟩

/-- BAD_PARAM naming a payload field by the bit offset of its LSB (15 R319). -/
def badField (bit : Nat) : Reply := badParam (0xFF000000 + bit) 0

/-- The same where the command's object is the one that WHICH names (15 Tables 15-2, 15-4; log 153). -/
def badFieldOf (bit which : Nat) : Reply := badParam (0xFF000000 + bit) which

/-- BAD_PARAM naming a field of an image header (15 R319). -/
def badHeader (bit : Nat) : Reply := badParam (0xFE000000 + bit) 0

/-- BAD_STATE: RESOURCE and WHICH (15 Table 15-4). -/
def badState (resource which : Nat) : Reply := ⟨0x04, 0, which, resource, 0, []⟩

/-- NO_RESOURCE: RESOURCE and WHICH. -/
def noResource (resource which : Nat) : Reply := ⟨0x05, 0, which, resource, 0, []⟩

/-- A status with nothing else set. -/
def statusOnly (code : Nat) : Reply := ⟨code, 0, 0, 0, 0, []⟩

/-- TIMEOUT (15 Table 15-4). -/
abbrev stTimeout : Nat := 0x07
/-- AUTH_FAIL. -/
abbrev stAuthFail : Nat := 0x08
/-- ABORTED. -/
abbrev stAborted : Nat := 0x0B
/-- LOCKED. -/
abbrev stLocked : Nat := 0x0C
/-- MALFORMED. -/
abbrev stMalformed : Nat := 0x0E
/-- PEER_ACTIVE. -/
abbrev stPeerActive : Nat := 0x0F
/-- BOOTING. -/
abbrev stBooting : Nat := 0x10

/-- A response is written into a slot, with its time, and MBX_VECTOR is raised unless NO_IRQ (15 R317). -/
def writeResponse (s : State) (n : Nat) (ph : SlotPhase) (job : Job) (r : Reply) : State :=
  let x := slotOf s n
  let s := setSlot s n { x with phase := ph, reply := r, ts := nowTs s, job := job, held := none }
  if x.noIrq then s else raiseVector s s.link.mbxVector

/-- A final response: written now, or held while an MBX_DELAY snag is in effect (15 R318; 18 Table 18-5, log 33). -/
def finish (s : State) (n : Nat) (r : Reply) : State :=
  match (snagOf s 0x0040 0).bind (fun x => x.endAt) with
  | some t => setSlot s n { slotOf s n with held := some (r, t) }
  | none => writeResponse s n .done .none r

/-- How a body's answer is posted: a final response, or the interim one (15 Table 15-3). -/
def post (s : State) (n : Nat) : Answer → State
  | .final r => finish s n r
  | .later j => writeResponse s n .deferred j (statusOnly 0x06)

/-- The slot, if any, that waits for a job (15 R318). -/
def slotWaiting (s : State) (j : Job) : Option Nat :=
  (s.slots.find? (fun p => decide (p.2.phase = .deferred) && decide (p.2.job = j) && p.2.held.isNone)).map (fun p => p.1)

/-- The command that waits for a job gets its final response. -/
def complete (s : State) (j : Job) (r : Reply) : State :=
  match slotWaiting s j with
  | some n => finish s n r
  | none => s

/-- Every slot with a DEFERRED command (15 R322). -/
def deferredSlots (s : State) : List Nat :=
  (s.slots.filter (fun p => decide (p.2.phase = .deferred) && p.2.held.isNone)).map (fun p => p.1)

/-- Every DEFERRED command but one slot's completes ABORTED (15 R322). -/
def abortDeferred (s : State) (but : Option Nat) : State :=
  (deferredSlots s).foldl (fun s n => if some n = but then s else finish s n (statusOnly stAborted)) s

/-- A doorbell on a slot that is not free is ignored and counted, and raises source 89 (15 R323). -/
def busyDoorbell (s : State) (n : Nat) : State :=
  let s := bumpP s 0x01 0 xMBX_VIOLATIONS
  let s := detect s { raiseBlank 89 with ins := n }
  quietIn s 89 secTicks

/-- Is the slot occupied (15 R318)? -/
def slotBusy (s : State) (n : Nat) : Bool :=
  match (slotOf s n).phase with
  | .accepted => true
  | .deferred => true
  | _ => false

/-- The opcodes that RECOVERY serves (20 R429). -/
def recoveryOps : List Nat := [0x0101, 0x0102, 0x0103, 0x0C01, 0x0C02, 0x0C03, 0x0A03, 0x0D01]

/-- The opcodes that run as usual while bind-off runs, with SYS_RESET, SYS_BIND_OFF and SRC_ENABLE, which answer for
themselves (20 R432). -/
def bindOffOps : List Nat := [0x0102, 0x0101, 0x0201, 0x0D01, 0x0505, 0x0506, 0x0103, 0x0104, 0x0802]

/-- Does the mailbox answer an opcode now, or BOOTING (15 R324, 20 R429)? -/
def mailboxServes (s : State) (op : Nat) : Bool :=
  s.boot.activation.isNone &&
    (decide (s.boot.st = .ready) || (decide (s.boot.st = .recovery) && recoveryOps.contains op))

/-- A request is accepted: the slot is ACCEPTED and the request copied (15 R315, Table 15-3). -/
def accept (s : State) (r : Req) (op : Nat) : State :=
  let s := bumpP s 0x01 0 xMBX_ACCEPTED
  setSlot s r.slot { slotOf s r.slot with
    phase := .accepted, opcode := op, tag := r.tag, noIrq := r.noIrq, job := .none, held := none }

/-- A command of the mailbox, `body` being its own checks and effect: the checks of 15 R319 in their order, the holds of
15 R324 and 20 R432, and the posting of the answer. `self` is the command, kept when a bind-off makes it wait. -/
def mbxRun (self : Instr) (r : Req) (op : Nat) (needUnlock : Bool) (body : State → State × Answer) (s : State) : State :=
  let again := s.boot.releaseHeld
  if slotBusy s r.slot && !again then busyDoorbell s r.slot
  else if !s.boot.fwRuns then
    { s with boot := { s.boot with heldBells := s.boot.heldBells ++ [(r.slot, op, r.tag, r.noIrq)] } }
  else
    let s := if again then { s with boot := { s.boot with releaseHeld := false } } else accept s r op
    if !mailboxServes s op then finish s r.slot (statusOnly stBooting)
    else if s.boot.bindOff.isSome && !bindOffOps.contains op then
      post { s with held := s.held ++ [self] } r.slot (.later (.waiting r.slot))
    else if needUnlock && !s.boot.unlocked then finish s r.slot (statusOnly stLocked)
    else
      let p := body s
      post p.1 r.slot p.2

/-- A body that ends at once with a reply and no effect. -/
def reply (s : State) (r : Reply) : State × Answer := (s, .final r)

/-! ### Descriptors of the H2C rings 0 to 2 (14 R308) -/

/-- MAGIC of a descriptor (10 Table 10-1; 14 Table 14-8). -/
def descMagic (b : Bulk) : Nat := fieldAt b.desc 0 2

/-- STAGED of a transfer descriptor (14 Table 14-8). -/
def bulkStaged (b : Bulk) : Bool := (fieldAt b.desc 8 1).testBit 0

/-- TAG of a transfer descriptor (14 Table 14-8). -/
def bulkTag (b : Bulk) : Nat := fieldAt b.desc 48 4

/-- LEN of a transfer descriptor (14 Table 14-8). -/
def bulkLen (b : Bulk) : Nat := fieldAt b.desc 52 4

/-- SRC_ADDR of a descriptor (10 Table 10-1; 14 Table 14-8). -/
def descSrc (b : Bulk) : Nat := fieldAt b.desc 56 8

/-- Is the descriptor a good one: MAGIC, LEN, and a staged range within the 64 MiB staging area (14 R308)? -/
def bulkOk (b : Bulk) : Bool :=
  decide (descMagic b = 0x4844) && decide (bulkLen b ≠ 0) && decide (bulkLen b ≤ 67108864) &&
    (!bulkStaged b || decide (descSrc b + bulkLen b ≤ 67108864))

/-- The bytes a descriptor names: from the staging area of DRAM, or from host memory (14 Table 14-8, 13 Table 13-2). -/
def bulkBytes (s : State) (b : Bulk) : List Byte :=
  if bulkStaged b then memRead s.dram (descSrc b) (bulkLen b) else fitBytes (bulkLen b) b.data

/-- CONS of H2C ring `h` moves past a descriptor: SEQ counts it and the status block shows it; on rings 0 to 2 its command has ended, which
counts toward the interrupt (14 R306, R308, Table 14-7). -/
def takeDescriptor (s : State) (h : Nat) : State :=
  let r := 132 + h
  let x := ringOf s r
  let s := setRing s r { x with cons := (x.cons + 1) % 2 ^ 32, seq := (x.seq + 1) % 2 ^ 32 }
  if x.st = .running || x.st = .stopping then
    let s := writeStatus s r
    if h < 3 then announce s r else s
  else s

/-- Has an H2C ring a descriptor to take: running, CONS behind PROD (14 R308)? -/
def descriptorReady (s : State) (h : Nat) : Bool :=
  let x := ringOf s (132 + h)
  decide (x.st = .running) && decide (x.cons ≠ x.prod)

/-- A protocol violation of the mailbox (15 R323). -/
def violation (s : State) (slot : Nat) : State := busyDoorbell s slot

end Sys2Proof.Machine
end

