-- ==== Sys2Proof/Machine/Flags.lean ====
section
/-! DEFINITION. Machine/Flags.lean: the collector's flags and record: live and sticky bits, FAULT_SUMMARY, journal
entries with their token buckets, actions and the FAULT_N pin (18 R379 to R390). -/

namespace Sys2Proof.Machine

/-! ### Summary (14 Table 14-4) -/

/-- The sources whose record differs from reset. -/
def touchedSources (s : State) : List (Nat × Source) := s.col.sources

/-- The highest severity among sources a test keeps. -/
def maxSeverity (s : State) (f : Source → Bool) : Nat :=
  maxN ((s.col.sources.filter (fun p => f p.2)).map (fun p => severityFor s p.1 p.2.data.ins))

/-- FAULT_SUMMARY (14 Table 14-4). -/
def faultSummary (s : State) : Nat :=
  let lives := (s.col.sources.filter (fun p => p.2.live)).length
  bitN s.col.behind + 2 * bitN s.col.pinLow + 16 * maxSeverity s (fun x => x.sticky) + 256 * maxSeverity s (fun x => x.live) +
    65536 * min lives 255

/-! ### Journal entries (18 R387 to R390) -/

/-- The number of KIND (18 Table 18-4). -/
def kindCode : EntryKind → Nat
  | .raise => 0
  | .clear => 1
  | .summary => 2
  | .stickyCleared => 3
  | .severity => 4
  | .snag => 5
  | .pin => 6

/-- The 64 bytes of a journal entry (18 Table 18-4). -/
def entryBytes (e : JEntry) : List Byte :=
  leBytes 4 e.seq ++ leBytes 1 e.unit ++ leBytes 1 e.src ++ leBytes 1 e.severity ++ leBytes 1 e.action ++
    leBytes 1 (kindCode e.kind) ++
    leBytes 1 (bitN e.sameCycle + 2 * bitN e.merged + 4 * bitN e.live + 8 * bitN e.snagActive) ++
    leBytes 2 e.dropped ++ leBytes 4 e.count ++ leBytes 8 e.d1 ++ leBytes 4 e.d0 ++ leBytes 2 e.ins ++
    leBytes 1 e.zone ++ leBytes 1 e.port ++ leBytes 8 e.duration ++ tsBytes e.auxTs ++ tsBytes e.ts

/-- An entry with the fields that a raise's data give, everything else at its reset value (18 Table 18-4). -/
def entryOf (s : State) (k : EntryKind) (ts : Nat) (x : Raise) (sev : Nat) : JEntry :=
  ⟨ts, 0, 0, x.port, x.zone, x.ins, x.d0, x.d1, 1, 0, snagsOn s, false, false, false, k, 0, sev, x.src, s.boot.unitId, 0⟩

/-- The store holds at most 65,536 undelivered entries (18 R388, R390). -/
abbrev storeSize : Nat := 65536

/-- Is the store full of undelivered entries (18 R390)? -/
def storeFull (s : State) : Bool := decide (storeSize ≤ s.col.store.length)

/-- May R390 overwrite an entry: one of severity 0 that is no host action (18 R390)? -/
def overwritable (e : JEntry) : Bool :=
  decide (e.severity = 0) && (decide (e.kind = .raise) || decide (e.kind = .clear) || decide (e.kind = .summary))

/-- The store without its oldest entry that may be overwritten, with the index it had. -/
def dropOldest : Nat → List JEntry → Option (Nat × List JEntry)
  | _, [] => none
  | i, e :: es =>
    if overwritable e then some (i, es)
    else (dropOldest (i + 1) es).map (fun p => (p.1, e :: p.2))

/-- May `n` more entries of host actions be written, in empty places or in those of entries of severity 0 (18 R390)? -/
def canRecordMany (s : State) (n : Nat) : Bool :=
  decide (n ≤ (storeSize - s.col.store.length) + (s.col.store.filter overwritable).length)

/-- The first frame of a list carries GAP; with none, the open one does (18 R388). -/
def gapOn : List JFrame → List JFrame × Bool
  | [] => ([], true)
  | x :: xs => ({ x with gap := true } :: xs, false)

/-- The closed frames after the entry at an index has been overwritten, and whether the open frame carries GAP for it (18
R388, R390). -/
def closedAfter : Nat → List JFrame → List JFrame × Bool
  | _, [] => ([], true)
  | i, x :: xs =>
    if i < x.count then (if x.count = 1 then gapOn xs else (⟨x.count - 1, true⟩ :: xs, false))
    else
      let p := closedAfter (i - x.count) xs
      (x :: p.1, p.2)

/-- An undelivered entry of severity 0 gives way to a new one (18 R390, case 1). -/
def makeRoom (s : State) : State :=
  match dropOldest 0 s.col.store with
  | none => s
  | some (i, es) =>
    let s := bumpP s 0x0D 0 jJOURNAL_OVERWRITTEN
    let p := closedAfter i s.col.closed
    { s with col := { s.col with store := es, closed := p.1, gapNext := s.col.gapNext || p.2 } }

/-- Can a host action's entry be written, in an empty place or in that of an entry of severity 0 (18 R390)? -/
def canRecord (s : State) : Bool := !storeFull s || (dropOldest 0 s.col.store).isSome

/-- Entries of the open journal frame (18 R388). -/
def openEntries (s : State) : Nat := s.col.store.length - sumN (s.col.closed.map (fun x => x.count))

/-- JOURNAL_BEHIND sets, raising source 115 (18 R390, Table 18-2). -/
def setBehind (s : State) : State :=
  if s.col.behind then s else detectSrc { s with col := { s.col with behind := true } } 115

/-- The open journal frame closes with at most 1,024 entries; a ring that cannot take it leaves the journal behind (18
R388, R390). -/
def closeJournal (s : State) : State :=
  let n := min 1024 (openEntries s)
  let s := { s with col := { s.col with
    closed := s.col.closed ++ [⟨n, s.col.gapNext⟩], gapNext := false, openSince := nowClk s } }
  if ringTakes s 130 ((48 + 64 * n + 63) / 64 * 64) then s else setBehind s

/-- An entry goes into the store with the next SEQ, and closes its frame if it is the 1,024th; the caller has seen that
there is room (18 R388, R390). -/
def appendEntry (s : State) (e : JEntry) : State :=
  let s := if storeFull s then makeRoom s else s
  let seq := natP s 0x0D 0 jJOURNAL_SEQ
  let s := setP s 0x0D 0 jJOURNAL_SEQ ((seq + 1) % 2 ^ 32 : Nat)
  let opened := decide (openEntries s = 0)
  let s := { s with col := { s.col with
      store := s.col.store ++ [{ e with seq := seq }]
      openSince := if opened then nowClk s else s.col.openSince } }
  if 1024 ≤ openEntries s then closeJournal s else s

/-- A written entry of a source reports what the source dropped before it (18 R389, Table 18-4 DROPPED). -/
def writeEntry (s : State) (e : JEntry) : State :=
  let r := srcRec s e.src
  appendEntry (setSrcRec s e.src { r with dropped := 0 }) { e with dropped := r.dropped }

/-- A coalesced record with one more entry in it (18 R389). -/
def coalesce (c : Option Coal) (k : EntryKind) (ts dur : Nat) (x : Raise) : Coal :=
  match c with
  | none => ⟨if k = .raise then 1 else 0, ts, ts, if k = .clear then dur else 0, x⟩
  | some c =>
    { c with
      raises := if k = .raise then c.raises + 1 else c.raises
      lastTs := ts
      duration := if k = .clear then dur else c.duration
      data := x }

/-- An entry of severity 0 is dropped and counted (18 R389, R390). -/
def dropEntry (s : State) (src : Nat) : State :=
  let x := srcRec s src
  let s := setSrcRec s src { x with dropped := min (x.dropped + 1) 0xFFFF }
  bumpP s 0x0D 0 jLOG_DROPPED

/-- A RAISE or CLEAR entry of a source: it takes a token and is written, or is dropped (severity 0) or coalesced (18 R389,
R390). -/
def journalEvent (s : State) (e : JEntry) (x : Raise) : State :=
  let r := srcRec s e.src
  let wait := r.coal.isSome || decide (r.tokens = 0) || !canRecord s
  if !wait then writeEntry (setSrcRec s e.src { r with tokens := r.tokens - 1 }) e
  else if e.severity = 0 && r.coal.isNone then dropEntry s e.src
  else setSrcRec s e.src { r with coal := some (coalesce r.coal e.kind e.ts e.duration x) }

/-! ### Actions (18 R379, R382, R383) -/

/-- Does any source of an action remain live (18 R379)? -/
def actionLive (s : State) (a : Action) : Bool := a.sources.any (fun src => isLive s src)

/-- The severity of the action in force: that of the newest action whose window runs or whose scope is covered; 0 for
none (18 Table 18-4 ACTION). DEDUCED where more than one is in force (log 196). -/
def actionSeverity (s : State) : Nat :=
  match (s.col.actions.filter (fun a => a.running || actionLive s a)).getLast? with
  | some a => a.severity
  | none => 0

/-- Actions that neither run nor cover anything any more are over (18 R379). -/
def dropEndedActions (s : State) : State :=
  { s with col := { s.col with actions := s.col.actions.filter (fun a => a.running || actionLive s a) } }

/-- A source is no longer live: it no longer keeps the scope of its actions covered (18 R379, R383; log 196). -/
def uncover (s : State) (src : Nat) : State :=
  dropEndedActions { s with col := { s.col with
    actions := s.col.actions.map (fun a => { a with sources := a.sources.filter (fun n => n ≠ src) }) } }

/-- Does the scope of one raise (severity, port, zone) include a zone whose port is `port`, 2 for both ports (18 Table
18-3)? -/
def scopeCoversZone (sc : Nat × Nat × Nat) (zone port : Nat) : Bool :=
  decide (5 ≤ sc.1) ||
    (decide (sc.1 = 4) && (decide (sc.2.1 = 0xFF) || decide (sc.2.1 = port) || decide (port = 2))) ||
    (decide (sc.1 = 3) && (decide (sc.2.2 = 0xFF) || decide (sc.2.2 = zone)))

/-- The highest severity of the actions whose covered scope includes a zone on a port; 0 for none (18 R379). -/
def zoneCover (s : State) (zone port : Nat) : Nat :=
  maxN ((s.col.actions.filter (fun a => actionLive s a && a.scopes.any (fun sc => scopeCoversZone sc zone port))).map
    (fun a => a.severity))

/-! ### The FAULT_N pin (18 R384 to R386) -/

/-- FAULT_N falls due: the pin goes low for FAULT_N_PULSE, and every pulse counts (18 R385). -/
def pulseFaultN (s : State) : State :=
  let s := bumpP s 0x0D 0 jFAULT_N_PULSES
  { s with col := { s.col with
      pinLow := true
      raisedSince := true
      pulseEnd := some (nowClk s + natP s 0x0D 0 jFAULT_N_PULSE * usTicks) } }

/-! ### Registration (18 R380, R382, R383) -/

/-- The TS of the SCLK tick at which the present FCLK cycle, of two SCLK ticks, began (18 R380; 20 Table 20-1). -/
def fclkTs (s : State) : Nat := ts72 (s.time.ticks - s.time.sclk % 2) 0

/-- The present FCLK cycle, of two SCLK ticks (18 R380; 20 Table 20-1). -/
def fclkNow (s : State) : Nat := nowClk s / 2

/-- Raises in ascending source number. -/
def insertRaise (x : Raise) : List Raise → List Raise
  | [] => [x]
  | y :: ys => if x.src < y.src then x :: y :: ys else y :: insertRaise x ys

/-- The raises of one cycle in ascending source number (18 R382). -/
def sortRaises (xs : List Raise) : List Raise := xs.foldl (fun a x => insertRaise x a) []

/-- A source becomes live and sticky, or stays so (18 R380). -/
def setLive (s : State) (ts : Nat) (x : Raise) : State :=
  let r := srcRec s x.src
  if r.live then setSrcRec s x.src { r with sticky := true }
  else setSrcRec s x.src { r with live := true, sticky := true, liveTs := ts, data := x }

/-- The scope a raise contributes: its severity, port and zone (18 Table 18-3). -/
def scopeOf (s : State) (x : Raise) : Nat × Nat × Nat := (severityFor s x.src x.ins, x.port, x.zone)

/-- The action that newly live sources start, or, within the 3 ms of the newest one, merge into (18 R379, R382, R383), and
whether they merged. -/
def startAction (s : State) (newly : List Raise) : State × Bool :=
  let sev := maxN (newly.map (fun x => severityFor s x.src x.ins))
  let srcs := newly.map (fun x => x.src)
  let fresh : Action := ⟨sev, srcs, newly.map (scopeOf s), nowClk s + 3 * msTicks, true⟩
  match s.col.actions.getLast? with
  | some a =>
    if a.running && decide (nowClk s < a.windowEnd) then
      let a' := { a with severity := max a.severity sev, sources := a.sources ++ srcs, scopes := a.scopes ++ fresh.scopes }
      let s := { s with col := { s.col with actions := s.col.actions.dropLast ++ [a'] } }
      (if a'.severity = 2 && a.severity < 2 then bumpP s 0x0D 0 jREPAIRS else s, true)
    else
      let s := { s with col := { s.col with actions := s.col.actions ++ [fresh] } }
      (if sev = 2 then bumpP s 0x0D 0 jREPAIRS else s, false)
  | none =>
    let s := { s with col := { s.col with actions := [fresh] } }
    (if sev = 2 then bumpP s 0x0D 0 jREPAIRS else s, false)

/-- The RAISE entry of one raise of a cycle (18 R382, R383, R387). -/
def raiseEntry (s : State) (ts : Nat) (same merged : Bool) (x : Raise) : State :=
  let e := { entryOf s .raise ts x (severityFor s x.src x.ins) with
    live := true, sameCycle := same, merged := merged, action := actionSeverity s }
  journalEvent s e x


/-- The sources that a cycle's raises make newly live: those whose live bit was clear, each once (18 R379). -/
def newlyLive (s : State) (xs : List Raise) : List Raise :=
  (xs.filter (fun x => !isLive s x.src)).foldl
    (fun a x => if a.any (fun y => y.src = x.src) then a else a ++ [x]) []

/-- Every raise that waits is registered in this FCLK cycle, all of them as one incident (18 R379 to R383, R385, R387, R389;
14 R301). -/
def registerRaises (s : State) : State :=
  let xs := sortRaises (s.col.detected.filter (fun x => sourceExists x.src))
  let s := { s with col := { s.col with detected := [] } }
  if xs.isEmpty then s
  else
    let s := { s with col := { s.col with regAt := some (fclkNow s) } }
    let ts := fclkTs s
    let newly := newlyLive s xs
    let same := decide (1 < xs.length)
    let s := addP s 0x0D 0 jRAISES xs.length
    let s := xs.foldl (fun s x => setLive s ts x) s
    let p := if newly.isEmpty then (s, false) else startAction s newly
    let s := xs.foldl (fun s x => raiseEntry s ts same (p.2 && newly.any (fun y => y.src = x.src)) x) p.1
    let top := maxN (newly.map (fun x => severityFor s x.src x.ins))
    let s := if !newly.isEmpty && 1 ≤ top then raiseVector s s.link.faultVector else s
    if !newly.isEmpty && natP s 0x0D 0 jFAULT_N_SEV ≤ top then pulseFaultN s else s

/-! ### Clearing (18 R381, R334 of 15) -/

/-- A source's live bit clears and its CLEAR entry is written (18 R381); a raise that still waits is registered first, and
FAULT_QUIET_TIMER then clears it (log 195). -/
def clearLive (s : State) (src : Nat) : State :=
  let r := srcRec s src
  if !r.live then (if raisePending s src then quietIn s src 0 else s)
  else
    let ts := fclkTs s
    let dur := (tsTicks ts + 2 ^ 64 - tsTicks r.liveTs) % 2 ^ 64
    let s := uncover (setSrcRec s src { r with live := false, quietAt := none }) src
    let e := { entryOf s .clear ts r.data (severityFor s src r.data.ins) with
      auxTs := r.liveTs, duration := dur, action := actionSeverity s }
    journalEvent s e r.data

/-- Does a raise of a source wait, or was one registered in this FCLK cycle: FAULT_CLEAR then leaves its sticky bit (18
R381)? -/
def raiseWins (s : State) (src : Nat) : Bool :=
  raisePending s src ||
    (decide (s.col.regAt = some (fclkNow s)) && (srcRec s src).sticky && decide ((srcRec s src).liveTs = fclkTs s))

/-- The sticky bits of the named sources that are no longer live clear, each with an entry (15 R334, 18 R381). -/
def clearSticky (s : State) (srcs : List Nat) : State :=
  srcs.foldl (fun s src =>
    let r := srcRec s src
    if r.live || !r.sticky then s
    else
      let s := setSrcRec s src { r with sticky := false }
      writeEntry s { entryOf s .stickyCleared (fclkTs s) (raiseBlank src) (severityFor s src 0) with
        action := actionSeverity s }) s

/-! ### Snags as the other chapters meet them (18 R391, R392) -/

/-- The number the bytes spell, most significant first. -/
def beNum (bs : List Byte) : Nat := ofLe bs.reverse

/-- The SNAG entry of a snag set or ended: its number in [255:240], then ARGS bytes 0 to 13 (18 R387; log 34). -/
def snagEntry (s : State) (x : Snag) : JEntry :=
  let a := fitBytes 14 x.args
  let d : Raise := ⟨0, x.num / 256, x.num % 256, beNum (a.take 2), beNum ((a.drop 2).take 4), beNum (a.drop 6)⟩
  { entryOf s .snag (fclkTs s) d 0 with action := actionSeverity s }

/-- The sources that a RAISE or RAISE_PAIR snag keeps live (18 Table 18-5). -/
def snagSources (x : Snag) : List Nat :=
  if x.num = 0x0001 then [x.target] else if x.num = 0x0002 then [x.target, x.sub] else []

/-- A snag goes before its live time is over: FAULT_QUIET_TIMER ends it (18 R380, Table 18-5; log 197). -/
def leaveLive (s : State) (x : Snag) : State :=
  match x.endAt with
  | some t => (snagSources x).foldl (fun s n =>
      if isLive s n || raisePending s n then setSrcRec s n { srcRec s n with quietAt := some t } else s) s
  | none => s

/-- A snag ends, with its SNAG entry; source 120 clears with the last (18 R391, Table 18-2). -/
def endSnag (s : State) (x : Snag) : State :=
  let s := leaveLive s x
  let s := if canRecord s then appendEntry s (snagEntry s x) else s
  let s := { s with col := { s.col with snags := s.col.snags.filter (fun y => !(y.num = x.num && y.target = x.target)) } }
  if s.col.snags.isEmpty then clearLive s 120 else s

/-- The snag with a number and target changed by a function. -/
def modSnag (s : State) (num target : Nat) (f : Snag → Snag) : State :=
  { s with col := { s.col with
      snags := s.col.snags.map (fun x => if x.num = num && x.target = target then f x else x) } }

/-- The applications a snag makes: COUNT, one where PERIOD is 0, without end where COUNT is 0 (18 R392; log 197). -/
def snagTotal (x : Snag) : Option Nat := if x.count = 0 then none else if x.period = 0 then some 1 else some x.count

/-- Has a snag made its applications (18 R391, R392)? -/
def snagDone (x : Snag) : Bool :=
  match snagTotal x with
  | some n => decide (n ≤ x.applied)
  | none => false

/-- A snag whose applications are all made and whose effects are over ends (18 R391). -/
def settleSnag (s : State) (num target : Nat) : State :=
  match snagOf s num target with
  | some x => if snagDone x && x.endAt.isNone && !x.armed then endSnag s x else s
  | none => s

/-- Does a snag wait for the event it perturbs (18 Table 18-5)? -/
def snagArmed (s : State) (num target : Nat) : Bool :=
  match snagOf s num target with
  | some x => x.armed
  | none => false

/-- The event a snag waits for has come: the application is spent (18 R391). -/
def spendSnag (s : State) (num target : Nat) : State :=
  settleSnag (modSnag s num target (fun x => { x with armed := false })) num target

/-- The VALUE of a snag that waits for its event, 0 without one. -/
def snagValue (s : State) (num target : Nat) : Int :=
  match snagOf s num target with
  | some x => x.value
  | none => 0

end Sys2Proof.Machine
end

