-- ==== Sys2Proof/Machine/CalOps.lean ====
section
/-! DEFINITION. Machine/CalOps.lean: the records of calibration domains and the working repair map (19 R395, R396, R410). -/

namespace Sys2Proof.Machine

/-- The key of a domain code and inst. -/
def calKey (dom ins : Nat) : Nat := dom * 256 + ins

/-- The record of a domain and inst (19 R396). -/
def calGet (s : State) (dom ins : Nat) : CalRec := kget (fun _ => calBlank) s.cal.recs (calKey dom ins)

/-- The state with a record replaced. -/
def calSet (s : State) (dom ins : Nat) (x : CalRec) : State :=
  { s with cal := { s.cal with recs := kput (fun _ => calBlank) s.cal.recs (calKey dom ins) x } }

/-- Does a domain and inst run, or wait to (19 R396)? -/
def calBusy (s : State) (dom ins : Nat) : Bool := decide ((calGet s dom ins).st ≠ .idle)

/-- A run starts, or waits. -/
def calBegin (s : State) (dom ins : Nat) (st : CalSt) : State :=
  calSet s dom ins { calGet s dom ins with st := st, failed := false }

/-- A unit of the present run has failed (19 R396). -/
def calFail (s : State) (dom ins : Nat) : State := calSet s dom ins { calGet s dom ins with failed := true }

/-- The payload of a CAL_RUN's final response: COUNT and LAST (15 Table 15-10). -/
def calPayload (x : CalRec) : List Byte := leBytes 4 x.count ++ tsBytes x.last

/-- A record with its run completed at the present time (19 R396). -/
def calDoneRec (s : State) (x : CalRec) (status : Nat) : CalRec :=
  { x with st := .idle, count := x.count + 1, last := nowTs s, lastStatus := status, failed := false }

/-- Does any inst of a domain but 0xFF run or wait? -/
def calAnyBusy (s : State) (dom : Nat) : Bool :=
  s.cal.recs.any (fun p => decide (p.1 / 256 = dom) && decide (p.1 % 256 ≠ 0xFF) && decide (p.2.st ≠ .idle))

/-- A run of every inst at once has ended when the last of them has (19 Table 19-1, inst 0xFF). -/
def calEndAll (s : State) (dom : Nat) : State :=
  if calBusy s dom 0xFF && !calAnyBusy s dom then
    let x := calGet s dom 0xFF
    let x' := calDoneRec s x (bitN x.failed)
    complete (calSet s dom 0xFF x') (.calRun dom 0xFF) (okWith (calPayload x'))
  else s

/-- A run ends: COUNT, LAST and LAST_STATUS, and its CAL_RUN completes (19 R396; 0 PASS, 1 UNIT_FAILED). -/
def calEnd (s : State) (dom ins : Nat) : State :=
  let x := calGet s dom ins
  let x' := calDoneRec s x (bitN x.failed)
  let s := calSet s dom ins x'
  let s := if x.failed && calBusy s dom 0xFF then calFail s dom 0xFF else s
  calEndAll (complete s (.calRun dom ins) (okWith (calPayload x'))) dom

/-- A run ends early: LAST_STATUS ABORTED, and its CAL_RUN completes ABORTED (19 R401). -/
def calAbortRun (s : State) (dom ins : Nat) : State :=
  if calBusy s dom ins then
    let s := calSet s dom ins { calGet s dom ins with st := .idle, lastStatus := 3, failed := false }
    complete s (.calRun dom ins) (statusOnly stAborted)
  else s

/-- A unit enters the working repair map, if it is not in it (19 R410). -/
def repairAdd (s : State) (u : RepairUnit) : State :=
  if s.cal.repair.contains u then s
  else { s with cal := { s.cal with repair := s.cal.repair ++ [u] } }

/-- A unit leaves the working repair map (19 R410). -/
def repairDrop (s : State) (u : RepairUnit) : State :=
  { s with cal := { s.cal with repair := s.cal.repair.filter (fun v => v ≠ u) } }

/-- Is a unit in the working repair map? -/
def repairHas (s : State) (u : RepairUnit) : Bool := s.cal.repair.contains u

end Sys2Proof.Machine
end

