-- ==== Sys2Proof/Machine/Real.lean ====
section
/-! DEFINITION. Machine/Real.lean: square roots, arguments, sines and logarithms of exact integers to far more bits than
any rule rounds to: the rules state exact values and then round (02 R34; 04 R80, R90; 05 R112; 09 R199; 11 R249). -/

namespace Sys2Proof.Machine

/-- One bit of a square root: `b` is tried on top of the root `r` found so far. -/
def isqrtGo (x : Nat) : Nat → Nat → Nat
  | 0, r => r
  | n + 1, r =>
    let t := r + 2 ^ n
    isqrtGo x n (if t * t ≤ x then t else r)

/-- The whole part of the square root. -/
def isqrt (x : Nat) : Nat := isqrtGo x (Nat.log2 x / 2 + 1) 0

/-- The scale of the fixed-point numbers of this file: 2^80. -/
abbrev fx : Int := 2 ^ 80

/-- π × 2^80. -/
abbrev piFx : Int := 3797952473636338580787993

/-- ln 2 × 2^80. -/
abbrev ln2Fx : Int := 837963523372001241319907

/-- The alternating Taylor terms of a sine or cosine of `y` from a term and its index on. -/
def trigGo (y : Int) : Nat → Int → Nat → Int
  | 0, _, _ => 0
  | n + 1, t, i =>
    let t' := -((t * y / fx) * y / fx) / ((i + 1) * (i + 2) : Nat)
    t + trigGo y n t' (i + 2)

/-- cos of `y` radians, both × 2^80, 0 ≤ y ≤ π/2. -/
def cosFx (y : Int) : Int := trigGo y 20 fx 0

/-- sin of `y` radians, both × 2^80, 0 ≤ y ≤ π/2. -/
def sinFx (y : Int) : Int := trigGo y 20 y 1

/-- cos and sin of `num / den` turns, × 2^80. -/
def cisTurn (num : Int) (den : Nat) : Int × Int :=
  if den = 0 then (fx, 0)
  else
    let k := (num % (den : Int)).toNat * 4
    let y := piFx * ((k % den : Nat) : Int) / (2 * den : Nat)
    let c := cosFx y
    let d := sinFx y
    match k / den with
    | 0 => (c, d)
    | 1 => (-d, c)
    | 2 => (-c, -d)
    | _ => (d, -c)

/-- A pair of integers with its common binary exponent lowered until the larger has at most 120 bits. -/
def cut120 (x y : Int) : Int × Int :=
  let n := Nat.log2 (max x.natAbs y.natAbs)
  if n ≤ 120 then (x, y) else (x >>> (n - 120), y >>> (n - 120))

/-- The leading bits of the argument of x + iy in turns: each squaring doubles the argument. -/
def turnGo : Nat → Int → Int → Nat → Nat
  | 0, _, _, acc => acc
  | n + 1, x, y, acc =>
    let b := if y < 0 ∨ (y = 0 ∧ x < 0) then 1 else 0
    let p := cut120 (x * x - y * y) (2 * x * y)
    turnGo n p.1 p.2 (2 * acc + b)

/-- The argument of x + iy rounded to `w` bits of a turn, as a signed number; 0 for the zero vector. -/
def argTurn (w : Nat) (x y : Int) : Int :=
  if x = 0 ∧ y = 0 then 0
  else
    let s : Int := 2 ^ 100
    let p := cut120 (x * s) (y * s)
    wrapS w (((turnGo (w + 1) p.1 p.2 0 + 1) / 2 : Nat) : Int)

/-- An angle of 18 bits within 1 LSB of the argument of x + iy: `free`, held to that bound (04 R80, 09 R199; log 42). -/
def argWithin (x y free : Int) : Int :=
  let b := argTurn 58 x y
  wrapS 18 (clampI (-(Int.fdiv (2 ^ 40 - b) (2 ^ 40))) (Int.fdiv (b + 2 ^ 40) (2 ^ 40)) free)

/-- Twice the inverse hyperbolic tangent series from a power of z on. -/
def atanhGo (z2 : Int) : Nat → Int → Nat → Int
  | 0, _, _ => 0
  | n + 1, t, i => 2 * t / (i : Int) + atanhGo z2 n (t * z2 / fx) (i + 2)

/-- ln (num / den) × 2^80; 0 where a term is 0. -/
def lnFx (num den : Nat) : Int :=
  if num = 0 || den = 0 then 0
  else
    let e : Int := (Nat.log2 num : Int) - (Nat.log2 den : Int)
    let a : Int := if e < 0 then (num : Int) * 2 ^ e.natAbs else num
    let b : Int := if e < 0 then den else (den : Int) * 2 ^ e.natAbs
    let z := (a - b) * fx / (a + b)
    e * ln2Fx + atanhGo (z * z / fx) 50 z 1

/-- ln of a positive rational, as a rational within 2^−78; 0 otherwise. -/
def lnQ (q : Rat) : Rat := if q ≤ 0 then 0 else (lnFx q.num.toNat q.den : Int) / (fx : Int)

/-- The exponential series of `y` from a term on. -/
def expGo (y : Int) : Nat → Int → Nat → Int
  | 0, _, _ => 0
  | n + 1, t, i => t + expGo y n (t * y / fx / (i : Int)) (i + 1)

/-- exp of `y` × 2^80, × 2^80. -/
def expFx (y : Int) : Int :=
  let k := Int.fdiv y ln2Fx
  let r := expGo (y - k * ln2Fx) 40 fx 1
  if k < 0 then r >>> k.natAbs else r * 2 ^ k.natAbs

/-- A rational rounded to the nearest integer, halves away from zero. -/
def roundQ (q : Rat) : Int := roundDivI q.num q.den

/-- A rational rounded down. -/
def floorQ (q : Rat) : Int := Int.fdiv q.num q.den

/-- The sum of a list of rationals. -/
def sumQ (xs : List Rat) : Rat := xs.foldl (· + ·) 0

/-- The mean of a list of rationals, 0 for none. -/
def meanQ (xs : List Rat) : Rat := if xs.isEmpty then 0 else sumQ xs / (xs.length : Nat)

end Sys2Proof.Machine
end

