-- ==== Sys2Proof/Machine/Plan.lean ====
section
/-! DEFINITION. Machine/Plan.lean: what a port plan derives from its items (01 R11 to R22, 02 R33, R34, R38, R39, R50,
03 R69, R70, 05 R101). A plan is a view `v` of one port's items. Times are in units of 0.1 ps: a tick is 8,000. -/

namespace Sys2Proof.Machine

/-- A view of one port's items: number to value. -/
abbrev PlanView := Nat → Int

/-- A view answers here the CHIRP_SAMPLES whose τ the shot period allows for: the port's own, or port A's where a dual-ended pair
shares T_shot (01 R13, R25; log 158). No item has this number. -/
abbrev pSHOT_CHIRP : Nat := 0x10010

/-- An item of a plan that is never negative. -/
def vn (v : PlanView) (item : Nat) : Nat := (v item).toNat

/-- ρ in ns per km (01 R12). -/
def planRho (v : PlanView) : Nat := ceilDiv (vn v pGROUP_INDEX * 20000000) 299792458

/-- T_rt (01 R12). -/
def planRtt (v : PlanView) : Nat := planRho v * vn v pLENGTH

/-- L_ticks (01 R11). -/
def planTicks (v : PlanView) : Nat := ceilDiv (vn v pLENGTH * vn v pGROUP_INDEX * 20000) 2398339664

/-- τ (02 R34). -/
def planTau (v : PlanView) : Nat := vn v pCHIRP_SAMPLES * 4000

/-- P. -/
def planP_ (v : PlanView) : Nat := max 1 (vn v pPLIES)

/-- x rounded up to the next multiple of 6.4 ns (01 R13). -/
def planQ (x : Nat) : Nat := ceilDiv x 64000 * 64000

/-- The shortest selvedge, max(4.0 µs, τ) (01 R13). -/
def planSelvMin (v : PlanView) : Nat := max 40000000 (planTau v)

/-- T_shot (01 R13; log 158). -/
def planShot (v : PlanView) : Nat :=
  if vn v pSELVEDGE = 0 then
    max (planQ (planRtt v + max 40000000 (vn v pSHOT_CHIRP * 4000))) (planQ (planP_ v * 62500000))
  else planQ (planRtt v + vn v pSELVEDGE * 10000)

/-- N_shot (01 R15). -/
def planNShot (v : PlanView) : Nat := planShot v / 8000

/-- ⌊j × N_shot / P⌋, the launch of ply j after its shot's start (01 R15). -/
def planPlyAt (v : PlanView) (j : Nat) : Nat := j * planNShot v / planP_ v

/-- k. -/
def planK (v : PlanView) : Nat := max 1 (vn v pSPACING_K)

/-- N (01 R17). -/
def planN_ (v : PlanView) : Nat := ceilDiv (planTicks v) (planK v)

/-- The open selvedge (01 R14). -/
def planOpen (v : PlanView) : Nat := planShot v - planRtt v - planTau v

/-- EFF_RATE in mHz, to nearest (01 Table 01-5, 15 Table 15-7). -/
def planEffRate (v : PlanView) : Nat := roundDiv (planP_ v * 10 ^ 16) (planShot v)

/-- STITCH_RATE, to nearest (01 R21). -/
def planStitchRate (v : PlanView) : Nat := roundDiv (planN_ v * planP_ v * 10 ^ 13) (planShot v)

/-- The first check of 01 Table 01-4 that a plan fails, if any (01 R22). -/
def planCheck (v : PlanView) : Option Nat :=
  if 131072 < planN_ v then some 0x0101
  else if vn v pSELVEDGE ≠ 0 && planShot v < planP_ v * 62500000 then some 0x0102
  else if planShot v < planTau v * planP_ v then some 0x0103
  else if 1600000000 * planShot v < planN_ v * planP_ v * 10 ^ 13 then some 0x0104
  else none

/-- Is there no room for a proof pulse: an open selvedge below 200 ns, or ply P − 1's gate closing later than 200 ns before
E_n (01 R14, 02 R50)? -/
def planBlind (v : PlanView) : Bool :=
  decide (planOpen v < 2000000) ||
    decide (planShot v < planPlyAt v (planP_ v - 1) * 8000 + planTau v + vn v pGATE_TAIL * 8000 + 2000000)

/-- δ_B (01 R26). -/
def planDelta (v : PlanView) : Nat := planTicks v - (planN_ v - 1) * planK v

/-- Port B's shots start this many ticks after port A's (01 R25). -/
def planOffsetB (v : PlanView) : Nat := planNShot v / (2 * planP_ v)

/-- Δ in MHz (01 Table 01-2). -/
def plySpacing (p : Nat) : Nat := 960 / max 1 p

/-- B in MHz (01 Table 01-2). -/
def plyBand (p : Nat) : Nat := if p ≤ 1 then 400 else 768 / p

/-- s: +1 up, −1 down (02 R34). -/
def chirpSign (v : PlanView) : Int := if vn v pCHIRP_DIR = 1 then -1 else 1

/-- 2 f_j in MHz (02 R33). -/
def plyCentre2 (p j : Nat) : Int := (2 * (j : Int) - (p : Int) + 1) * (plySpacing p : Int)

/-- F0 of ply j (02 R34). -/
def chirpF0 (v : PlanView) (j : Nat) : Int :=
  roundDivI (2 ^ 48 * (plyCentre2 (planP_ v) j - chirpSign v * (plyBand (planP_ v) : Int))) 5000

/-- K (02 R34). -/
def chirpK (v : PlanView) : Int :=
  roundDivI (2 ^ 48 * (chirpSign v * (plyBand (planP_ v) : Int))) (((vn v pCHIRP_SAMPLES : Int) - 1) * 2500)

/-- The window word w(m) of a chirp of `len` samples and a taper of `alpha` percent (02 R34). -/
def tukey (alpha len m : Nat) : Nat :=
  let t := roundDiv (alpha * len) 200
  let m' := if len - 1 - m < m then len - 1 - m else m
  if m' < t then (roundDivI (65535 * (fx - (cisTurn m' (2 * t)).1)) (2 * fx)).toNat else 65535

/-- The phase Φ(m) of a chirp, 48 bits (02 R34). -/
def chirpPhase (f0 k : Int) (m : Nat) : Nat :=
  bitsOf 48 ((m : Int) * f0 + k * ((m * (m - 1) / 2 : Nat) : Int))

/-- I0 and Q0 of sample m of ply j (02 R34). -/
def chirpIQ (v : PlanView) (j m : Nat) : Int × Int :=
  let a : Nat := chirpPhase (chirpF0 v j) (chirpK v) m / 2 ^ 30
  let cs := cisTurn (a : Int) (2 ^ 18)
  let c := roundDivI (65535 * cs.1) fx
  let d := roundDivI (65535 * cs.2) fx
  let w : Int := tukey (vn v pTUKEY_ALPHA) (vn v pCHIRP_SAMPLES) m
  let g := v (pPLY_GAIN + j)
  (roundDivI (c * w * g * 8191) (65535 ^ 3), roundDivI (d * w * g * 8191) (65535 ^ 3))

/-- I1 and Q1 (02 R35, step 1). -/
def chirpTrim (v : PlanView) (iq : Int × Int) : Int × Int :=
  (iq.1, roundDivI (iq.2 * (32768 + v pIQ_GAIN) + iq.1 * v pIQ_SKEW) 32768)

/-- |H|² at 480 MHz, 0.192 turns a sample, of a filter at the DCLK rate. -/
def gain480 (h : List Rat) : Rat :=
  let at_ := fun (f : Int × Int → Int) => sumQ ((List.range h.length).map (fun i =>
    nth 0 h i * ((f (cisTurn ((24 * i : Nat) : Int) 125) : Int) : Rat) / ((fx : Int) : Rat)))
  at_ (fun c => c.1) ^ 2 + at_ (fun c => c.2) ^ 2

/-- Has a filter what 02 R35 gives the droop filter: seven taps, DC gain 1.000, +0.53 dB at 480 MHz? -/
def sincOk (h : List Rat) : Bool :=
  decide (h.length = 7) && decide (1999 / 2000 < sumQ h) && decide (sumQ h < 2001 / 2000) &&
    decide (1128497 / 1000000 ≤ gain480 h) && decide (gain480 h ≤ 1131097 / 1000000)

/-- The seven taps of the droop filter: free within what 02 R35 says of it (log 41). -/
def sincTaps : List Rat :=
  if sincOk Config.sincTaps then Config.sincTaps else [0, 0, -4888 / 100000, 109776 / 100000, -4888 / 100000, 0, 0]

/-- I1 or Q1 of a chirp after the droop filter, if it is on, at sample m; no sample stands before or after the chirp (02 R35,
step 2; log 159). -/
def chirpFiltered (v : PlanView) (xs : List Int) (m : Nat) : Int :=
  if vn v pSINC_COMP = 1 then
    roundQ (sumQ ((List.range 7).map (fun i =>
      nth 0 sincTaps i * ((if m + i < 3 then 0 else nth 0 xs (m + i - 3) : Int) : Rat))))
  else nth 0 xs m

/-- Sample m of a chirp before saturation: offsets added (02 R35, step 3). -/
def chirpOut (v : PlanView) (ply m : Nat) : Int × Int :=
  let trim := (List.range (vn v pCHIRP_SAMPLES)).map (fun i => chirpTrim v (chirpIQ v ply i))
  (chirpFiltered v (trim.map (fun q => q.1)) m + v pOFFSET_I, chirpFiltered v (trim.map (fun q => q.2)) m + v pOFFSET_Q)

/-- The words of sample m of a chirp as the DACs take them (02 R35, step 4). -/
def dacWords (v : PlanView) (ply m : Nat) : Int × Int :=
  let q := chirpOut v ply m
  (satS 14 q.1, satS 14 q.2)

/-- The saturated samples of a chirp, DAC_SAT's increment; a sample whose I and Q words both saturate counts once (02 R35; log
159). -/
def chirpSats (v : PlanView) (ply : Nat) : Nat :=
  ((List.range (vn v pCHIRP_SAMPLES)).filter (fun m => decide (dacWords v ply m ≠ chirpOut v ply m))).length

/-- L_ref (03 R69). -/
def planRef (v : PlanView) : Nat := ceilDiv (vn v pCHIRP_SAMPLES) (2 * planP_ v)

/-- Lp (03 R70). -/
def planLp (v : PlanView) : Nat := min 2048 (max 32 (2 ^ log2Ceil (planRef v)))

/-- K of the partitioning (03 R70). -/
def planParts (v : PlanView) : Nat := ceilDiv (planRef v) (planLp v)

/-- S in force (03 R70). -/
def planShift (v : PlanView) : Nat :=
  if vn v pMF_SHIFT ≠ 0 then vn v pMF_SHIFT else 15 + (log2Ceil (planRef v) + 1) / 2

/-- The NCO frequency word of ply j, 0 for one ply (03 R67). -/
def ncoWord (p j : Nat) : Nat := if p ≤ 1 then 0 else bitsOf 32 (roundDivI (-(2 ^ 32) * plyCentre2 p j) 2500)

/-- The reference coefficient r(m), real and imaginary; the Hamming taper in its usual form, and the Tukey window evaluated anew
at L_ref points (03 R69; log 160). -/
def refCoef (v : PlanView) (m : Nat) : Int × Int :=
  let p := planP_ v
  let len := planRef v
  let u := len - 1 - m
  let b : Int := plyBand p
  let s := chirpSign v
  -- θ / 2π = −s (B/2) u T_p + s (B / 2τ) (u T_p)²; T_p = 0.8 P ns, τ = 0.4 M ns, B in MHz.
  let x : Int := (u : Int) * p
  let mm : Int := vn v pCHIRP_SAMPLES
  let num := s * b * (-(4 * x) * mm + 8 * x * x)
  let w0 : Int := tukey (vn v pTUKEY_ALPHA) len u
  let ham : Int := if vn v pMF_WINDOW = 1 then 54 * fx - 46 * (cisTurn u (max 1 (len - 1))).1 else 100 * fx
  let cs := cisTurn (-num) (10000 * mm.toNat)
  let scale := fun (y : Int) => roundDivI (32767 * w0 * ham * y) (65535 * 100 * fx * fx)
  (scale cs.1, scale cs.2)

/-- N_R of a port whose RAMAN_ORIGIN is `origin` (05 R101). -/
def planNR (v : PlanView) (origin : Nat) : Nat := ceilDiv (planTicks v + origin) 5 + 1

/-- h, the extra input span of a stitch-sample at either end: 19.2 × P ns, in TS72 units (03 R59). -/
def planH (v : PlanView) : Nat := 6144 * planP_ v

/-- τ in TS72 units (02 R34). -/
def planTauTs (v : PlanView) : Nat := vn v pCHIRP_SAMPLES * 128

/-- The tick at which a TS72 time lies. -/
def tickOf (t : Nat) : Nat := t / 256

end Sys2Proof.Machine
end

