-- ==== Sys2Proof/Machine/PortOps.lean ====
section
/-! DEFINITION. Machine/PortOps.lean: the operations over a port that its chapters share. -/

namespace Sys2Proof.Machine

/-- A port's record. -/
def portOf (s : State) (p : Nat) : Port := kget portBlank s.ports p

/-- The state with a port's record replaced. -/
def setPort (s : State) (p : Nat) (x : Port) : State := { s with ports := kput portBlank s.ports p x }

/-- The state with a port's record changed by a function. -/
def modPort (s : State) (p : Nat) (f : Port → Port) : State := setPort s p (f (portOf s p))

/-- Dual-ended operation is in force (01 R25). -/
def dualOn (s : State) : Bool := decide (getP s 0x03 0 pDUAL_ENDED = 1) && decide (getP s 0x03 1 pDUAL_ENDED = 1)

/-- A port's view from the views of both ports' own items: a dual-ended pair has port A's τ in its shot period (01 R13, R25; log
158). -/
def withShared (vs : Nat → PlanView) (p : Nat) : PlanView := fun i =>
  if i = pSHOT_CHIRP then vs (if vs 0 pDUAL_ENDED = 1 && vs 1 pDUAL_ENDED = 1 then 0 else p) pCHIRP_SAMPLES else vs p i

/-- The plan in force on a port. -/
def pv (s : State) (p : Nat) : PlanView := withShared (fun q i => getP s 0x03 q i) p

/-- The value that an accepted and not yet applied plan gives an object. -/
def nextOf (x : Port) (o : Nat) : Option Int := (x.nextPlan.find? (fun q => q.1 = o)).map (fun q => q.2)

/-- The value of an item in the plan accepted for a port: the one that waits for its drain if there is one, the one in force
otherwise (01 R24). -/
def acceptedItem (s : State) (p i : Nat) : Int := (nextOf (portOf s p) (objId 3 p i)).getD (getP s 0x03 p i)

/-- The plan accepted for a port. -/
def acceptedView (s : State) (p : Nat) : PlanView := withShared (acceptedItem s) p

/-- The plan that a PORT_APPLY would put in force: staged values over the accepted plan (15 R325; log 45). -/
def stagedView (s : State) (p : Nat) : PlanView :=
  withShared (fun q i => (stagedOf s (objId 3 q i)).getD (acceptedItem s q i)) p

/-- The port whose launch items govern a port (02 R44). -/
def governor (s : State) (p : Nat) : Nat := if dualOn s then 0 else p

/-- The ports on which a port command acts (02 R45). -/
def pairedPorts (s : State) (p : Nat) : List Nat := if dualOn s then [0, 1] else [p]

/-- LAUNCH_MODE in force (02 R40, R44). -/
def launchMode (s : State) (p : Nat) : Nat := natP s 0x03 (governor s p) pLAUNCH_MODE

/-- No raise of a source is live or on its way to the collector. -/
def raisable (s : State) (src : Nat) : Bool := !isLive s src && !raisePending s src

/-- A raise of a port's source, unless it is live already. -/
def raiseOnce (s : State) (x : Raise) : State := if raisable s x.src then detect s x else dropQuiet s x.src

/-- A port's raise with journal data. -/
def portRaise (src port d0 d1 : Nat) : Raise := { raiseBlank src with port := port, d0 := d0, d1 := d1 }

/-- The condition of a source has ended: its live bit clears if it is set (18 R380). -/
def clearIf (s : State) (src : Nat) : State := clearLive s src

/-- The record of a TDC channel. -/
def tdcOf (s : State) (c : Nat) : TdcChan := kget tdcBlank s.time.tdc c

/-- The state with a TDC channel's record replaced. -/
def setTdc (s : State) (c : Nat) (x : TdcChan) : State :=
  { s with time := { s.time with tdc := kput tdcBlank s.time.tdc c x } }

/-- The oldest measurement that a channel's users have not taken, and the state without it (08 R176). -/
def popMeas (s : State) (c : Nat) : Option (Meas × State) :=
  match (tdcOf s c).meas with
  | [] => none
  | m :: rest => some (m, setTdc s c { tdcOf s c with meas := rest })

/-- A TS72 time's units in a number of ticks. -/
abbrev tk (n : Nat) : Nat := n * 256

/-- Has the timebase reached the tick of a TS72 time? -/
def reached (s : State) (t : Nat) : Bool := decide (tickOf t ≤ s.time.ticks)

/-- PORT_STATE as a number (02 Table 02-7). -/
def portStCode : PortSt → Nat
  | .idle => 0
  | .armed => 1
  | .running => 2
  | .draining => 3

/-- LOCK_STATE as a number (02 Table 02-7). -/
def lockCode : LockSt → Nat
  | .off => 0
  | .locked => 1
  | .holdover => 2
  | .tooFast => 3
  | .acquiring => 4

/-- BREAK_STATE (01 Table 01-5). -/
def breakCode (d : BreakDet) : Nat := if d.brk.isSome then 2 else bitN d.armed

/-- BREAK_STITCH (01 Table 01-5). -/
def breakStitch (d : BreakDet) : Nat :=
  match d.brk with
  | some b => b.stitch
  | none => 0xFFFFFFFF

/-- The RO items that a plan in force fixes (01 Table 01-5, 03 Table 03-5). -/
def planReports (s : State) (p : Nat) : State :=
  let v := pv s p
  let dual := dualOn s
  let put := fun (s : State) (i n : Nat) => setP s 0x03 p i (n : Int)
  let s := put s pSHOT_TICKS (planNShot v)
  let s := put s pSTITCH_COUNT (planN_ v)
  let s := put s pEFF_RATE (planEffRate v)
  let s := put s pSTITCH_RATE (planStitchRate v)
  let s := put s pOPEN_SELVEDGE (planOpen v / 8000)
  let s := put s pDUAL_DELTA (if dual && decide (p = 1) then planDelta v else 0)
  let s := put s pMF_SHIFT_USED (planShift v)
  let s := put s pREF_LEN (planRef v)
  put s pMF_PARTITIONS (planLp v + planParts v * 65536)

/-- The items of a port that PORT_APPLY applies (01 R23, 02 R51, 03 R77, 04 R98). -/
def planItem (p o : Nat) : Bool :=
  decide (objDom o = 0x03) && decide (objInst o = p) &&
    (match itemRow 0x03 (objItem o) with
    | some r => decide (r.applyOp = 0x0304)
    | none => false)

/-- δ of 03 R73 for a port: δ_B on port B in dual-ended mode. -/
def gridShift (s : State) (p : Nat) : Nat := if dualOn s && decide (p = 1) then planDelta (pv s p) else 0

/-- The counts that restart at PORT_START (02 Table 02-7, 03 R77, 04 R98, 05 R128). -/
def startCounts : List Nat :=
  [pLMON_MISSED, pTRIG_EARLY, pADC_CLIP, pMF_SAT, pSPAN_INVALIDS, pCM_HELD, pFADED_COUNT, pINTERP_COUNT,
    pDISCONT_COUNT, pSTALE_STITCHES, pRAMAN_SAT, pSPEC_LOST_COUNT]

/-- A restart of the phase engine over every stitch; the common-mode correction and its runs go on (04 R87, R94, R98; log 162). -/
def phaseRestart (s : State) (p : Nat) : State :=
  modPort s p (fun x => { x with
    ph := { phaseNone with c := x.ph.c, heldRun := x.ph.heldRun, goodRun := x.ph.goodRun, lost := x.ph.lost }
    spec := specAccNone })

/-- The break detector starts to learn again, and a declared break ends (01 R24, R30, R446). -/
def breakRestart (s : State) (p : Nat) : State :=
  let had := (portOf s p).det.brk.isSome
  let s := modPort s p (fun x => { x with det := breakNone })
  if had then clearIf s (16 + p) else s

/-- New hybrid terms are in force from a tick on; those of the last 160 blocks are kept, more than a row can span (03 R65). -/
def setHyb (s : State) (p tick : Nat) (hx hy : Hyb) : State :=
  modPort s p (fun x => { x with hybX := hx, hybY := hy, hybPast := ((tick, hx, hy) :: x.hybPast).take 160 })

/-- The hybrid estimator starts from its items, and its first block with the next sample (03 R65; log 46). -/
def hybRestart (s : State) (p : Nat) : State :=
  modPort (setHyb s p s.time.ticks ⟨getP s 0x03 p pHYB_GAIN_X, getP s 0x03 p pHYB_QUAD_X, 0, 0⟩
    ⟨getP s 0x03 p pHYB_GAIN_Y, getP s 0x03 p pHYB_QUAD_Y, 0, 0⟩) p (fun x => { x with hybAt := none, hybClean := 0 })

/-- The last rows are delivered with fewer than INTERP_MAX rows behind them once no more can come: in a drain, or with the port not
launching (04 R95; log 163). -/
def streamEnded (x : Port) : Bool :=
  x.ph.rows.isEmpty && x.rowsDue.isEmpty && x.lmonWait.isEmpty &&
    (x.drain.isSome || (decide (x.st ≠ .running) && decide (x.st ≠ .draining)))

/-! ### Settling of the ply alignment -/

/-- ALIGN_TAU in 3.125 ps units (04 Table 04-5: 0.01 s). -/
def alignTauTs (v : PlanView) : Nat := vn v pALIGN_TAU * 3200000000

/-- Is a gauge settling at the launch `tL` (04 R86)? -/
def settling (v : PlanView) (g : Gauge) (tL : Nat) : Bool := decide (tsDiff tL g.since < ((3 * alignTauTs v : Nat) : Int))

end Sys2Proof.Machine
end

