-- ==== Sys2Proof/Machine/RamanOps.lean ====
section
/-! DEFINITION. Machine/RamanOps.lean: what the phase engine, the shots and the port plan do to the Raman intervals and the fusion: the
mean PHI of an interval (05 R120), its gaps (R122), the ends of intervals (R107) and the changes of R126. -/

namespace Sys2Proof.Machine

/-- A port's Raman record changed by a function. -/
def modRaman (s : State) (p : Nat) (f : Raman → Raman) : State :=
  modPort s p (fun x => { x with raman := f x.raman })

/-! ### Gaps of PHI (05 R122) -/

/-- The track of a gauge carries over a gap: it did not start anew between the last record before and the first record after, the gap is
no longer than SPEC_BRIDGE_MAX, and the shift is within ±Δ/2 (05 R122; log 176). -/
def gapBridged (s : State) (p : Nat) (g : PhiGap) : Bool :=
  match g.till, g.after with
  | some t, some r => decide (r.1 = g.restarts) && decide (t - g.since ≤ natP s 0x03 p pSPEC_BRIDGE_MAX * secTicks) &&
      decide ((r.2 - g.track).natAbs ≤ plySpacing (planP_ (pv s p)) * 500000)
  | _, _ => false

/-- A DISCONT discards the samples before it. It opens a gap, or lengthens the last one where no record has come since (05 R120,
R122). -/
def gapOpen (a : EAcc) : EAcc :=
  let fresh : PhiGap := ⟨a.lastClk, none, a.lastRestarts, a.lastTrack, none⟩
  let gaps := match a.gaps.getLast? with
    | some g => if g.after.isSome then a.gaps ++ [fresh] else a.gaps.dropLast ++ [{ g with till := none }]
    | none => [fresh]
  { a with sum := 0, vSum := 0, used := 0, gaps := gaps }

/-- A delivered sample of a gauge enters its interval mean, with the track as it stands; a DISCONT discards what came before, also on
a sample that is INVALID (05 R120). -/
def eAdd (f : Fuse) (a : EAcc) (clk : Nat) (phi : Int) (qual : Nat) : EAcc :=
  let a := if qual.testBit 5 then gapOpen a else a
  if qual.testBit 4 then { a with seen := a.seen + 1 }
  else { a with
    sum := a.sum + phi, vSum := a.vSum + f.track, used := a.used + 1, seen := a.seen + 1
    gaps := a.gaps.map (fun g => if g.till.isNone then { g with till := some clk } else g)
    lastClk := clk, lastRestarts := f.restarts, lastTrack := f.track }

/-- Is E available: does a tenth of the interval's samples remain (05 R120)? -/
def eAvailable (a : EAcc) : Bool := decide (a.used ≠ 0) && decide (a.seen ≤ 10 * a.used)

/-- The means start again for the next interval; gaps that no E has followed yet are kept (05 R122). -/
def eRestart (a : EAcc) : EAcc :=
  { a with sum := 0, vSum := 0, used := 0, seen := 0, gaps := if eAvailable a then [] else a.gaps }

/-- The interval in progress is discarded with its samples (05 R107, R126). -/
def eDiscard (a : EAcc) : EAcc := { a with sum := 0, vSum := 0, used := 0, seen := 0 }

/-- The phase samples pass the end of the interval: its means are complete (05 R120). -/
def ePass (x : Raman) : Raman := { x with eDone := some x.e, e := x.e.map eRestart, eEnd := none }

/-- A delivered row enters the interval means of its gauges: those of the interval that its t_L lies in (05 R120). -/
def fusionTake (s : State) (p : Nat) (r : PhaseRow) : State :=
  modRaman s p (fun x =>
    let x := match x.eEnd with
      | some t => if t ≤ r.tL then ePass x else x
      | none => x
    { x with e := (List.range r.phi.length).map (fun i =>
        eAdd (nth fuseNone x.fuse i) (nth eNone x.e i) (clkOfTick s (tickOf r.tL)) (nth 0 r.phi i) (nth 0x10 r.qual i)) })

/-- A record after a gap: the track's starts and value (05 R122). -/
def gapRecord (f : Fuse) (a : EAcc) : EAcc :=
  { a with gaps := a.gaps.map (fun g => if g.after.isNone then { g with after := some (f.restarts, f.track) } else g) }

/-! ### Intervals (05 R102, R107, R128) -/

/-- The switch bins of a port, with their ranges: (b_i, RANGE_i), i from 1, up to the first zero (05 R102). -/
def switchBins (s : State) (p : Nat) : List (Int × Nat) :=
  (([1, 2, 3].map (fun i => (natP s 0x03 p (pRSW + i - 1), natP s 0x03 p (pRANGE + i)))).takeWhile
    (fun q => decide (q.1 ≠ 0))).map (fun q =>
      (((roundDiv (q.1 * planK (pv s p) + natP s 0x03 p pRAMAN_ORIGIN) 5 : Nat) : Int), q.2))

/-- A window of a port that starts at a tick with a dither (05 R101, R102, R107). -/
def windowAt (s : State) (p : Nat) (signal : Bool) (tick phase : Nat) (d : Int) : RamanWin :=
  let x := (portOf s p).raman
  ⟨signal, tick, phase, d, planNR (pv s p) (natP s 0x03 p pRAMAN_ORIGIN), natP s 0x03 p pRANGE, switchBins s p, false,
    x.gainRun.isSome || x.ofsRun.isSome⟩

/-- Does a plan change an item? -/
def planChanges (s : State) (p : Nat) (vals : List (Nat × Int)) (item : Nat) : Bool :=
  vals.any (fun q => decide (q.1 = objId 3 p item) && decide (q.2 ≠ getP s 0x03 p item))

/-- Applied values of items written. -/
def putItems (s : State) (vals : List (Nat × Int)) : State :=
  vals.foldl (fun s q => { s with params := kput paramReset s.params q.1 q.2 }) s

/-- Are products of an interval that has ended still to come (05 R107)? -/
def productsDue (x : Raman) : Bool := x.ended.isSome || x.trDue || x.fuseDue

/-- Accepted Raman items take effect at the start of an interval; the one before it completes under the old values, and a new
RAMAN_ORIGIN begins a moving sum of nothing (05 R107, R123, R128). -/
def ramanItemsApply (s : State) (p : Nat) : State :=
  let x := (portOf s p).raman
  let moved := planChanges s p x.next pRAMAN_ORIGIN
  let kept := if productsDue x then
      x.old ++ ((x.next.filter (fun q => !x.old.any (fun (o : Nat × Int) => o.1 = q.1))).map (fun q => (q.1, kget paramReset s.params q.1)))
    else []
  let zero := x.next.any (fun q => decide (q.1 = objId 3 p pFS_ZERO))
  let e := x.epoch + bitN moved
  modRaman (putItems s x.next) p (fun x => { x with
    next := [], old := kept, epoch := e, acc := { x.acc with epoch := e }, fsZero := x.fsZero + bitN zero })

/-- What a function does under the items of the interval whose products are still to come (05 R107). -/
def underOld (s : State) (f : State → State) : State :=
  let old := (portOf s 0).raman.old ++ (portOf s 1).raman.old
  let now := old.map (fun (q : Nat × Int) => (q.1, kget paramReset s.params q.1))
  putItems (f (putItems s old)) now

/-- A shot starts: so does an interval, where none is in progress, under the items accepted (05 R107). -/
def intervalBegins (s : State) (p t : Nat) : State :=
  if (portOf s p).raman.intStart.isSome then s
  else modRaman (ramanItemsApply s p) p (fun x => { x with intStart := some (clkOfTick s (tickOf t)) })

/-- A shot ends: so does the interval that has lasted RAMAN_INT, but for windows of its shots (05 R107; log 175). -/
def intervalEnds (s : State) (p t : Nat) : State :=
  let x := (portOf s p).raman
  match x.intStart with
  | none => s
  | some b =>
    let e := clkOfTick s (tickOf t)
    if b + natP s 0x03 p pRAMAN_INT * msTicks ≤ e ∧ x.ended.isNone then
      let x := if x.eEnd.isSome then ePass x else x
      modRaman s p (fun _ => { x with
        intStart := none, ended := some ⟨x.acc, e - b⟩, acc := { ramanZero with epoch := x.epoch }, eEnd := some t
        win := x.win.map (fun w => { w with late := true }) })
    else s

/-! ### Changes of the plan (05 R107, R126) -/

/-- The Raman interval in progress is discarded, and the moving sum emptied; an interval that has ended completes, and the gaps of PHI
stay (05 R107, R126). -/
def ramanDiscard (s : State) (p : Nat) : State :=
  modRaman s p (fun x => { x with
    acc := { ramanZero with epoch := x.epoch + 1 }, epoch := x.epoch + 1, intStart := none
    win := x.win.filter (fun w => w.late), e := if x.eEnd.isSome then x.e else x.e.map eDiscard })

/-- A track is discarded: it starts anew with the next record (05 R119, R126). -/
def trackDrop (f : Fuse) : Fuse := { f with track := 0, restarts := f.restarts + 1, record := [] }

/-- A plan comes into force: fusion state and tracks are discarded, or only the tracks, which do not exist either with SPEC_ENABLE = 0 (05
R119, R126). -/
def fusionOnPlan (s : State) (p : Nat) (vals : List (Nat × Int)) : State :=
  if [pLENGTH, pGROUP_INDEX, pSPACING_K, pGAUGE].any (planChanges s p vals) then
    modRaman (modPort s p (fun x => { x with specDone := [] })) p (fun x => { x with
      fuse := [], e := [], eEnd := none, eDone := none, tr := [], ft := [], fs := [], fsZero := 0
      trDue := false, fuseDue := false, ended := none, old := [] })
  else if [pPLIES, pCHIRP_SAMPLES, pSPEC_ENABLE].any (planChanges s p vals) then
    modRaman (modPort s p (fun x => { x with specDone := [] })) p (fun x => { x with fuse := x.fuse.map trackDrop })
  else s

end Sys2Proof.Machine
end

