-- ==== Sys2Proof/Machine/Taps.lean ====
section
/-! DEFINITION. Machine/Taps.lean: the coefficients of the half-band stages and of the BULKY equaliser, free within what 06 R136 to R138
and Table 06-3 require of them (06 R448; log 50). -/

namespace Sys2Proof.Machine

/-- Taps per stage (06 Table 06-3). -/
def presetTaps (preset : Nat) : Nat :=
  match preset with
  | 0 => 7
  | 1 => 11
  | 2 => 19
  | _ => 31

/-- Passband edge as a hundredth of the stage's output rate (06 Table 06-3). -/
def presetEdge (preset : Nat) : Nat :=
  match preset with
  | 0 => 18
  | 1 => 20
  | 2 => 25
  | _ => 30

/-- The largest |H|² in the band that aliases into the passband (06 Table 06-3). -/
def presetStop (preset : Nat) : Rat :=
  match preset with
  | 0 => 1 / 10 ^ 6
  | 1 => 1 / 10 ^ 8
  | 2 => 1 / 10 ^ 10
  | _ => 1 / 10 ^ 12

/-- The passband ripple of a whole chain, as the largest ratio of powers: ±0.10, ±0.01 and ±0.001 dB (06 Table 06-3). -/
def presetRipple (preset : Nat) : Rat :=
  match preset with
  | 0 => 10232929 / 10 ^ 7
  | 1 => 10023052 / 10 ^ 7
  | _ => 10002302 / 10 ^ 7

/-- d of 06 Table 06-4 in 1/16 stage-input samples. -/
def presetDelay16 (preset : Nat) (minPhase : Bool) : Nat :=
  match preset with
  | 0 => 20
  | 1 => if minPhase then 36 else 80
  | 2 => 144
  | _ => 240

/-- The sum of taps, each weighted, at a frequency in turns a sample. -/
def tapsAt (hs : List Int) (weight : Nat → Rat) (num den : Nat) : Rat × Rat :=
  let term := fun (f : Int × Int → Int) => sumQ ((List.range hs.length).map (fun i =>
    ((nth 0 hs i : Int) : Rat) * weight i * ((f (cisTurn ((num * i : Nat) : Int) den) : Int) : Rat) / ((fx : Int) : Rat)))
  (term (fun c => c.1), term (fun c => c.2))

/-- |H|² of taps that sum to 2^18, at a frequency in turns a sample. -/
def powerAt (hs : List Int) (num den : Nat) : Rat :=
  let h := tapsAt hs (fun _ => 1) num den
  (h.1 ^ 2 + h.2 ^ 2) / 2 ^ 36

/-- The group delay times |H|², in samples. -/
def delayAt (hs : List Int) (num den : Nat) : Rat :=
  let h := tapsAt hs (fun _ => 1) num den
  let d := tapsAt hs (fun i => (i : Nat)) num den
  (h.1 * d.1 + h.2 * d.2) / 2 ^ 36

/-- Points of a passband at which a response is judged: j of 64 up to the edge, as turns a stage-input sample (log 50). -/
def bandPoints (preset : Nat) : List (Nat × Nat) := (List.range 65).map (fun j => (j * presetEdge preset, 200 * 64))

/-- 20-bit signed taps that sum to 2^18 (06 R136). -/
def tapsFit (n : Nat) (hs : List Int) : Bool :=
  decide (hs.length = n) && hs.all (fun h => satS 20 h == h) && decide (sumI hs = 2 ^ 18)

/-- Is the rejection of what aliases into the passband the table's (06 R137)? -/
def stopOk (preset : Nat) (hs : List Int) : Bool :=
  (bandPoints preset).all (fun q => decide (powerAt hs (q.2 / 2 - q.1) q.2 ≤ presetStop preset))

/-- Is a passband power within the ripple? -/
def rippleOk (preset : Nat) (x : Rat) : Bool := decide (x ≤ presetRipple preset) && decide (1 ≤ x * presetRipple preset)

/-- |H|² of k stages at a frequency in turns of the last stage's input. -/
def chainPower (hs : List Int) (k num den : Nat) : Rat :=
  (List.range k).foldl (fun x m => x * powerAt hs num (den * 2 ^ m)) 1

/-- Is the passband ripple of every chain of 1 to 10 stages the table's (06 R137)? -/
def chainOk (preset : Nat) (hs : List Int) : Bool :=
  (List.range 10).all (fun k => (bandPoints preset).all (fun q => rippleOk preset (chainPower hs (k + 1) q.1 q.2)))

/-- The zeros of a filter all lie inside the unit circle: the step-down recursion, on its taps, first to last. -/
def stepDown : Nat → List Rat → Bool
  | 0, _ => true
  | n + 1, hs =>
    let a := nth 0 hs 0
    let k := nth 0 hs (hs.length - 1) / a
    decide (a ≠ 0) && decide (k * k < 1) && stepDown n ((hs.zip hs.reverse).map (fun q => (q.1 - k * q.2) / (1 - k * k))).dropLast

/-- Is a stage of minimum phase, with the delay of 06 Table 06-4 at DC and at most 0.6 samples more in the passband (06 R137, R138)? -/
def minPhaseOk (preset : Nat) (hs : List Int) : Bool :=
  let d : Rat := (presetDelay16 preset true : Nat) / 16
  stepDown (hs.length - 1) (hs.map (fun (h : Int) => (h : Rat))) && decide (delayAt hs 0 1 = d) &&
    (bandPoints preset).all (fun q => decide (delayAt hs q.1 q.2 ≤ (d + 6 / 10) * powerAt hs q.1 q.2))

/-- Do the taps of a stage meet 06 R136 to R138? The ripple of BULKY is judged with its equaliser. -/
def stageOk (preset : Nat) (minPhase : Bool) (hs : List Int) : Bool :=
  tapsFit (presetTaps preset) hs && stopOk preset hs && (decide (preset = 3) || chainOk preset hs) &&
    (if minPhase then minPhaseOk preset hs else decide (hs = hs.reverse))

/-- Taps that only delay, for a list that is no stage's: their sum is 2^18, and at DC they delay by a number of 1/16 samples. -/
def delayTaps (n d16 : Nat) : List Int :=
  (List.range n).map (fun i => if i = d16 / 16 then ((16 - d16 % 16 : Nat) : Int) * 16384
    else if i = d16 / 16 + 1 then ((d16 % 16 : Nat) : Int) * 16384 else 0)

/-- The taps of a preset's stages: free within 06 R136 to R138 (06 R448; log 50). -/
def stageCoefs (preset : Nat) (minPhase : Bool) : List Int :=
  let hs := Config.halfBand preset minPhase
  if stageOk preset minPhase hs then hs else delayTaps (presetTaps preset) (presetDelay16 preset minPhase)

/-- Do the equaliser's taps meet 06 R136 and R137 for k stages? -/
def equaliserOk (k : Nat) (hs : List Int) : Bool :=
  tapsFit 15 hs && decide (hs = hs.reverse) &&
    (bandPoints 3).all (fun q => rippleOk 3 (chainPower (stageCoefs 3 false) k q.1 q.2 * powerAt hs (2 * q.1) q.2))

/-- The taps of the BULKY equaliser for k stages: free within 06 R136 and R137 (06 R448; log 50). -/
def equaliserCoefs (k : Nat) : List Int :=
  let hs := Config.equaliser k
  if equaliserOk k hs then hs else delayTaps 15 112

end Sys2Proof.Machine
end

