-- ==== Sys2Proof/Machine/ZoneOps.lean ====
section
/-! DEFINITION. Machine/ZoneOps.lean: the operations over zones that other chapters share: definitions, the fabric budget,
frames, synchronising resets, and the delivery of rows to their inputs (06). -/

namespace Sys2Proof.Machine

/-- A zone's items: number to value. -/
abbrev ZView := Nat → Int

/-- A zone's record. -/
def zoneOf (s : State) (z : Nat) : Zone := kget zoneBlank s.cap.zones z

/-- The state with a zone's record replaced. -/
def setZone (s : State) (z : Nat) (x : Zone) : State :=
  { s with cap := { s.cap with zones := kput zoneBlank s.cap.zones z x } }

/-- The state with a zone's record changed by a function. -/
def modZone (s : State) (z : Nat) (f : Zone → Zone) : State := setZone s z (f (zoneOf s z))

/-- The definition in force. -/
def zview (s : State) (z : Nat) : ZView := fun i => getP s 0x04 z i

/-- The definition last accepted: the one that waits for its switch if there is one (06 R145). -/
def zaccepted (s : State) (z : Nat) : ZView := fun i =>
  (((zoneOf s z).next.find? (fun q => q.1 = objId 4 z i)).map (fun q => q.2)).getD (getP s 0x04 z i)

/-- The definition that a ZONE_DEFINE would accept (15 R325). -/
def zstaged (s : State) (z : Nat) : ZView := fun i => (stagedOf s (objId 4 z i)).getD (zaccepted s z i)

/-- An item of a zone that is never negative. -/
def zn (v : ZView) (item : Nat) : Nat := (v item).toNat

/-- The port whose samples label the zone: port A for PORT = 2 (06 R132, R142). -/
def zport (v : ZView) : Nat := if zn v zPORT = 2 then 0 else zn v zPORT

/-- Does the zone take DPHI, PHI or AMP? -/
def zphase (v : ZView) : Bool := decide (zn v zPRODUCT < 3)

/-- Does the zone take TR, FT or FS? -/
def ztemp (v : ZView) : Bool := decide (3 ≤ zn v zPRODUCT) && decide (zn v zPRODUCT ≤ 5)

/-- n_z. -/
def zcount (v : ZView) : Nat := zn v zSTITCH_COUNT

/-- s_q (06 R132). -/
def zstitch (v : ZView) (q : Nat) : Nat := zn v zFIRST_STITCH + q * zn v zSTRIDE

/-- The stitches of a zone. -/
def zstitches (v : ZView) : List Nat := (List.range (zcount v)).map (zstitch v)

/-- k: the half-band stages; TR, FT and FS have none (06 R133). -/
def zdecim (v : ZView) : Nat := if zphase v then zn v zDECIM else 0

/-- Minimum-phase stages (06 R133): LACE always, SPORT where MIN_PHASE asks. -/
def zminPhase (v : ZView) : Bool :=
  decide (zn v zPRESET = 0) || (decide (zn v zPRESET = 1) && decide (zn v zMIN_PHASE = 1))

/-- d of 06 Table 06-4 in 1/16 stage-input samples. -/
def stageDelay16 (v : ZView) : Nat := presetDelay16 (zn v zPRESET) (zminPhase v)

/-- GROUP_DELAY, D in 1/16 chain-input samples (06 R138). -/
def groupDelay16 (v : ZView) : Nat :=
  let k := zdecim v
  stageDelay16 v * (2 ^ k - 1) + (if zn v zPRESET = 3 ∧ 1 ≤ k then 112 * 2 ^ k else 0)

/-- W (06 R143). -/
def warmupLen (v : ZView) : Nat :=
  let k := zdecim v
  ceilDiv ((presetTaps (zn v zPRESET) - 1) * (2 ^ k - 1)) (2 ^ k) + (if zn v zPRESET = 3 ∧ 1 ≤ k then 14 else 0)

/-- E, the sum of the shifts in use (06 R136, R141). -/
def zexp (v : ZView) : Nat := sumN ((List.range (zdecim v)).map (fun i => zn v (zSHIFT + i)))

/-- Bytes of an output word (06 R146). -/
def zwordBytes (v : ZView) : Nat :=
  if zn v zPRODUCT = 0 ∨ zn v zPRODUCT = 2 then zn v zOUT_WIDTH / 8 else 4

/-- A length rounded up to a multiple of 4. -/
def pad4 (n : Nat) : Nat := (n + 3) / 4 * 4

/-- Bytes of a row of `n` stitches (06 R146). -/
def rowSize (v : ZView) (n : Nat) : Nat := pad4 (n * (zwordBytes v + 1))

/-! ### The plans and definitions that a budget is checked against (06 R135, 15 R330) -/

/-- The accepted plans and definitions, with what a command would put in their place. -/
structure Scene where
  port : Nat → PlanView
  zones : List (Nat × ZView)

/-- Is a zone defined or enabled? -/
def zoneDefined (s : State) (z : Nat) : Bool := decide ((zoneOf s z).st ≠ .undefined)

/-- The defined and enabled zones with their accepted definitions. -/
def zonesDefined (s : State) : List (Nat × ZView) :=
  ((List.range 128).filter (zoneDefined s)).map (fun z => (z, zaccepted s z))

/-- What has been accepted so far. -/
def sceneNow (s : State) : Scene := ⟨acceptedView s, zonesDefined s⟩

/-- The scene after a PORT_APPLY of some ports. -/
def scenePlans (s : State) (ps : List Nat) : Scene :=
  ⟨fun q => if ps.contains q then stagedView s q else acceptedView s q, zonesDefined s⟩

/-- The scene after a ZONE_DEFINE. -/
def sceneZone (s : State) (z : Nat) : Scene :=
  ⟨acceptedView s, (z, zstaged s z) :: (zonesDefined s).filter (fun q => q.1 ≠ z)⟩

/-- f_eff of a plan, per second (01 R16). -/
def fEff (v : PlanView) : Rat := if planShot v = 0 then 0 else ((planP_ v * 10 ^ 13 : Nat) : Rat) / planShot v

/-- f_out of a zone, per second (06 R136); of TR, FT and FS, one per Raman interval. -/
def fOut (c : Scene) (v : ZView) : Rat :=
  if ztemp v then 1000 / (max 1 (vn (c.port (zport v)) pRAMAN_INT) : Nat)
  else fEff (c.port (zport v)) / (2 ^ zdecim v : Nat)

/-- The term of a zone (06 R135). -/
def zoneTerm (c : Scene) (v : ZView) : Rat :=
  let k := zdecim v
  if ztemp v then (zcount v : Rat) * fOut c v
  else (zcount v : Rat) * fEff (c.port (zport v)) * (if k = 0 then 1 else 2 - 2 / ((2 ^ k : Nat) : Rat))

/-- The zone fabric fails: the terms exceed 6.4 × 10⁹ per second (06 R135). -/
def fabricOver (c : Scene) : Bool :=
  decide ((6400000000 : Rat) < (c.zones.map (fun q => zoneTerm c q.2)).foldl (· + ·) 0)

/-- A rational rounded up. -/
def ceilQ (q : Rat) : Int := -(floorQ (-q))

/-- ZONE_LOAD (06 Table 06-1). -/
def zoneLoad (c : Scene) (v : ZView) : Nat := (ceilQ (zoneTerm c v / 1000)).toNat

/-- Is a zone's last stitch outside a plan's grid (06 R132)? -/
def zoneBeyond (c : Scene) (v : ZView) : Bool :=
  decide (planN_ (c.port (zport v)) ≤ zstitch v (zcount v - 1))

/-- Passband edge as a hundredth of the output rate (06 Table 06-3). -/
def passEdge (v : ZView) : Nat := presetEdge (zn v zPRESET)

/-- Item of detector d. -/
abbrev zdet (item d : Nat) : Nat := item + 8 * d

/-- Is a detector enabled? -/
def detOn (v : ZView) (d : Nat) : Bool := decide (v (zdet zDET_ENABLE d) = 1)

/-- Does a detector's band fail (07 R151)? -/
def detBandBad (c : Scene) (v : ZView) (d : Nat) : Bool :=
  let lo := zn v (zdet zDET_BAND_LO d)
  let hi := zn v (zdet zDET_BAND_HI d)
  let f := fOut c v
  detOn v d && !(decide (lo < hi) && decide ((hi : Rat) ≤ f * (passEdge v : Nat) / 10) &&
    decide (f * 10 / 16 ≤ ((hi - lo : Nat) : Rat)))

/-- The lowest zone that a test finds. -/
def lowestZone (c : Scene) (f : ZView → Bool) : Option Nat :=
  match (c.zones.filter (fun q => f q.2)).map (fun q => q.1) with
  | [] => none
  | z :: zs => some (zs.foldl min z)

/-! ### Output period and labels (06 R142) -/

/-- REF_PERIOD is still to be measured on a LOCKED port (06 R142). -/
def refUnknown (s : State) (v : ZView) : Bool :=
  zphase v && decide (launchMode s (zport v) = 2) && decide (natP s 0x03 (governor s (zport v)) pREF_PERIOD = 0)

/-- SAMPLE_PERIOD in 1/256 tick under the plan in force (06 R142). -/
def samplePeriod (s : State) (v : ZView) : Nat :=
  let p := zport v
  let w := pv s p
  let n := planNShot w
  let k := zdecim v
  if ztemp v then (if n = 0 then 0 else 256 * n * ceilDiv (natP s 0x03 p pRAMAN_INT * msTicks) n)
  else if launchMode s p = 2 then
    let g := governor s p
    let mult := max 1 (natP s 0x03 g pLOCK_MULT)
    let ref := if refUnknown s v then mult * n else natP s 0x03 g pREF_PERIOD
    roundDiv (2 ^ k * ref * 256) (mult * planP_ w)
  else roundDiv (2 ^ k * n * 256) (planP_ w)

/-! ### Frames (06 R146 to R148) -/

/-- The bytes of a row's values and QUAL, padded (06 R146). -/
def rowBytes (v : ZView) (xs : List QVal) : List Byte :=
  let body := (xs.map (fun (x : QVal) => leBytesI (zwordBytes v) x.1)).flatten ++ xs.map (fun (x : QVal) => BitVec.ofNat 8 x.2)
  body ++ zeros (pad4 body.length - body.length)

/-- FLAGS of a frame from the OR of its QUAL bytes (06 Table 06-7). -/
def qualFlags (q : Nat) : Nat := 4 * bitN (q.testBit 5) + 16 * bitN (q.testBit 7) + 128 * bitN (q.testBit 6)

/-- The OR of the QUAL bytes of a row. -/
def rowQual (xs : List QVal) : Nat := xs.foldl (fun a (x : QVal) => a ||| x.2) 0

/-- A frame of a zone (06 Table 06-6). -/
def zoneFrame (s : State) (z : Nat) (ts first n count qual : Nat) (valid : Option Nat) (payload : List Byte) : Frame :=
  let v := zview s z
  let e := if zphase v ∧ zn v zPRODUCT ≠ 1 then zexp v else 0
  ⟨z, 16 * e + zn v zPRODUCT, bitN valid.isSome + qualFlags qual, epochOf s, s.boot.unitId, ts, first, n, zn v zSTRIDE,
    count, valid.getD 0, payload⟩

/-- Bytes that the zone frames waiting for rings take (14 R307). -/
def zoneWaiting (s : State) : Nat :=
  sumN ((List.range 128).map (fun r => sumN ((ringOf s r).queue.map (fun q => frameSize q.frame))))

/-- The zone ring with the oldest waiting frame. -/
def oldestRing (s : State) : Option Nat :=
  ((List.range 128).foldl (fun (best : Option (Nat × Nat)) r =>
    match (ringOf s r).queue.head?, best with
    | some q, some b => if q.since < b.2 then some (r, q.since) else best
    | some q, none => some (r, q.since)
    | none, _ => best) none).map (fun b => b.1)

/-- A zone frame is dropped whole, `qs` being the queue without it: DROPPED, source 85, GAP on the next (14 R307). -/
def dropZoneFrame (s : State) (r : Nat) (qs : List QFrame) : State :=
  let x := ringOf s r
  quietIn (detect (setRing s r { x with queue := qs, dropped := (x.dropped + 1) % 2 ^ 32, gapNext := true })
    { raiseBlank 85 with zone := r, ins := r }) 85 secTicks

/-- The oldest waiting zone frames are dropped while they take more than 32 MiB (14 R307). -/
def shedZoneFrames : Nat → State → State
  | 0, s => s
  | n + 1, s =>
    if zoneWaiting s ≤ 33554432 then s
    else match oldestRing s with
      | some r => shedZoneFrames n (dropZoneFrame s r ((ringOf s r).queue.drop 1))
      | none => s

/-- A zone frame joins the queue of its ring (14 R307). -/
def queueZone (s : State) (z : Nat) (f : Frame) : State := shedZoneFrames 1024 (queueFrame s z f .none)

/-- A frame is handed to the compressor or to the zone's ring (06 R146). -/
def handFrame (s : State) (z : Nat) (f : Frame) : State :=
  let s := bumpP s 0x04 z zFRAMES_OUT
  if getP s 0x04 z zCOMPRESS = 1 then
    let c : CompFrame := ⟨s.comp.closures, f, natP s 0x0F z cZFORMAT, decide (getP s 0x0F z cZPRE = 1), 8 * zwordBytes (zview s z)⟩
    { s with comp := { s.comp with waiting := s.comp.waiting ++ [c], closures := s.comp.closures + 1 } }
  else queueZone s z f

/-- The frame in progress closes (06 R146). -/
def closeZoneFrame (s : State) (z : Nat) : State :=
  let f := (zoneOf s z).frame
  if f.rows.isEmpty then s
  else
    let v := zview s z
    let s := modZone s z (fun x => { x with frame := zframeNone })
    handFrame s z (zoneFrame s z f.firstTs (zstitch v 0) (zcount v) f.rows.length f.flags f.valid f.rows.flatten)

/-- How many stitches of a row one frame can hold (06 R146). -/
def splitSize (v : ZView) : Nat := max 1 (zn v zFRAME_BYTES / 4 * 4 / (zwordBytes v + 1))

/-- A row longer than FRAME_BYTES goes out in frames of consecutive stitches (06 R146). -/
def splitRow (s : State) (z : Nat) (ts : Nat) (valid : Bool) : Nat → Nat → List QVal → State
  | 0, _, _ => s
  | n + 1, q, xs =>
    if xs.isEmpty then s
    else
      let v := zview s z
      let part := xs.take (splitSize v)
      let f := zoneFrame s z ts (zstitch v q) part.length 1 (rowQual part) (if valid then some 0 else none) (rowBytes v part)
      splitRow (handFrame s z f) z ts valid n (q + part.length) (xs.drop (splitSize v))

/-- Must the frame in progress close before a row joins it (06 R146)? -/
def frameEnds (v : ZView) (period : Nat) (f : ZFrame) (label size : Nat) : Bool :=
  !f.rows.isEmpty &&
    (decide (zn v zFRAME_BYTES < f.bytes + size) ||
      decide (((tk (zn v zFRAME_MAX * msTicks) : Nat) : Int) ≤ tsDiff label f.firstTs) ||
      decide (64 * 256 < (tsDiff label f.firstTs - ((f.rows.length * period : Nat) : Int)).natAbs))

/-- An output row enters the zone's frame (06 R146, R148). -/
def frameRow (s : State) (z : Nat) (r : ZRow) (first : Bool) : State :=
  let v := zview s z
  let size := rowSize v r.vals.length
  if zn v zFRAME_BYTES < size then
    let s := closeZoneFrame s z
    splitRow s z r.label first r.vals.length 0 r.vals
  else
    let s := if frameEnds v (zoneOf s z).period (zoneOf s z).frame r.label size then closeZoneFrame s z else s
    modZone s z (fun x =>
      let f := x.frame
      { x with frame := ⟨f.rows ++ [rowBytes v r.vals], f.bytes + size, if f.rows.isEmpty then r.label else f.firstTs,
          f.flags ||| rowQual r.vals, if first then some f.rows.length else f.valid⟩ })

/-! ### Synchronising reset, switch (06 R140, R143, R145) -/

/-- A stage with a cleared delay line. -/
def stageNone : Stage := ⟨0, []⟩

/-- The synchronising reset, at the reset sample with a label; a ZONE_SYNC for a later time stays pending (06 R143). -/
def zoneReset (s : State) (z label : Nat) : State :=
  let v := zview s z
  let per := samplePeriod s v
  let waits := refUnknown s v
  let s := modZone s z (fun x => { x with
    resetDue := false, syncAt := x.syncAt.filter (fun t => decide (label < t))
    stages := List.replicate (zdecim v) stageNone, equaliser := stageNone, outIdx := 0
    period := per, periodWaits := waits })
  s

/-- A zone starts on its definition: a reset is due, and P48 and the source ports start again (06 R131, R133, R134). -/
def zoneBuild (s : State) (z : Nat) : State :=
  let v := zview s z
  let per := samplePeriod s v
  let waits := refUnknown s v
  modZone s z (fun x => { x with
    resetDue := true, inq := [], inqB := [], oldLeft := none, stages := List.replicate (zdecim v) stageNone
    equaliser := stageNone, p48 := List.replicate (zcount v) (0, 0), fromB := List.replicate (zcount v) false
    outIdx := 0, period := per, periodWaits := waits, stopping := false, last := none })

/-- The items of which a change clears the freeze and μ (06 R140). -/
def dcItems : List Nat := [zPORT, zPRODUCT, zDECIM, zPRESET, zDC_SHIFT]

/-- μ under a new definition (06 R140): cleared, or kept for the stitches that both take. -/
def muAfter (old new : ZView) (mu : List (Option Int)) : List (Option Int) :=
  if dcItems.any (fun i => decide (old i ≠ new i)) || mu.isEmpty then List.replicate (zcount new) (some 0)
  else
    let os := zstitches old
    (zstitches new).map (fun st =>
      match os.idxOf? st with
      | some q => nth none mu q
      | none => none)

/-- What a new definition leaves of a detector: the changes that no record has reported (07 R157). -/
def detKept (t : Det) : Det := { detNone with unsent := t.unsent, summaryAt := t.summaryAt }

/-- Accepted items take effect, with their detectors inactive and μ as R140 states (06 R140; 07 R153). -/
def zoneApply (s : State) (z : Nat) (vals : List (Nat × Int)) : State :=
  let old := zview s z
  let s := vals.foldl (fun s (q : Nat × Int) => { s with params := kput paramReset s.params q.1 q.2 }) s
  let new := zview s z
  let clears := dcItems.any (fun i => decide (old i ≠ new i))
  modZone s z (fun x => { x with
    next := [], pendingDef := false, mu := muAfter old new x.mu, frozen := x.nextFrozen.getD (x.frozen && !clears), nextFrozen := none
    dets := (List.range 4).map (fun d => { detKept (nth detNone x.dets d) with hold := detOn new d }) })

/-- The pending redefinition takes effect; the frame of the old definition closes first (06 R145). -/
def zoneSwitch (s : State) (z : Nat) : State :=
  let s := closeZoneFrame s z
  zoneBuild (zoneApply s z (zoneOf s z).next) z

/-- Is a redefinition pending, and on which zone (06 R145)? -/
def pendingZone (s : State) : Option Nat := (s.cap.zones.find? (fun q => q.2.pendingDef)).map (fun q => q.1)

/-- Is a zone ENABLED? -/
def zoneEnabled (s : State) (z : Nat) : Bool := decide ((zoneOf s z).st = .enabled)

/-- The ENABLED zones of a port, dual-ended zones included (06 R144). -/
def zonesOfPort (s : State) (p : Nat) : List Nat :=
  (List.range 128).filter (fun z => zoneEnabled s z && (decide (zn (zview s z) zPORT = p) || decide (zn (zview s z) zPORT = 2)))

/-- Is no further sample of a port under way to its zones? -/
def zoneQuiet (s : State) (z : Nat) : Bool :=
  let x := zoneOf s z
  x.inq.isEmpty && streamEnded (portOf s (zport (zview s z))) && (portOf s (zport (zview s z))).ph.ahead.isEmpty

/-- The port has stopped and its last sample has come: the frame closes, and a pending redefinition takes effect (06 R144,
R145). -/
def zoneStopped (s : State) (z : Nat) : State :=
  let s := modZone s z (fun x => { x with stopping := false })
  if (zoneOf s z).pendingDef then zoneSwitch s z else closeZoneFrame s z

/-- The last sample of the old plan has passed: the frame closes, and a reset is due at new shot 0 (06 R144). -/
def zoneOldEnds (s : State) (z : Nat) : State :=
  modZone (closeZoneFrame s z) z (fun x => { x with resetDue := true, oldLeft := none })

/-- A port's plan has come into force: its zones close and are to reset, once the samples of the old plan that wait have passed (06
R144). -/
def zonesPlanInForce (s : State) (p : Nat) : State :=
  (zonesOfPort s p).foldl (fun s z =>
    if zport (zview s z) ≠ p then s
    else if (zoneOf s z).inq.isEmpty then zoneOldEnds s z
    else modZone s z (fun x => { x with oldLeft := some x.inq.length })) s

/-- A port starts: its ENABLED zones reset at its first input sample (06 R131). -/
def zonesPortStarted (s : State) (p : Nat) : State :=
  (zonesOfPort s p).foldl (fun s z =>
    let s := if (zoneOf s z).stopping then zoneStopped s z else s
    modZone s z (fun x => { x with resetDue := true, inq := [], inqB := [], oldLeft := none })) s

/-- A port's drain has ended with a stop (06 R144). -/
def zonesPortStopped (s : State) (p : Nat) : State :=
  (zonesOfPort s p).foldl (fun s z =>
    if zoneQuiet s z then zoneStopped s z else modZone s z (fun x => { x with stopping := true })) s

/-! ### Rows reach the zones (06 R133, R134; 04 R95; 05 R115) -/

/-- A row of the phase engine waits at the zones that take it. -/
def zonesTakePhase (s : State) (p : Nat) (r : PhaseRow) : State :=
  (zonesOfPort s p).foldl (fun s z =>
    let v := zview s z
    if !zphase v then s
    else if zn v zPORT = 2 ∧ p = 1 then modZone s z (fun x => { x with inqB := x.inqB ++ [r] })
    else modZone s z (fun x => { x with inq := x.inq ++ [.phase r] })) s

/-- An update of TR, FT or FS waits at the zones that take it; those of a dual-ended zone come from port A. -/
def zonesTakeTemp (s : State) (p product : Nat) (r : TRow) : State :=
  (zonesOfPort s p).foldl (fun s z =>
    let v := zview s z
    if zn v zPRODUCT = product ∧ zport v = p then modZone s z (fun x => { x with inq := x.inq ++ [.temp r] }) else s) s

/-- The zones ENABLED, bit z for zone z (15 Table 15-7). -/
def zonesEnabled (s : State) : Nat := sumN (((List.range 128).filter (zoneEnabled s)).map (fun z => 2 ^ z))

/-- SIGNAL_DELAY less a detector's part: D × SAMPLE_PERIOD / 2^k, in 1/256 tick × 16 × 2^k (07 R154). -/
def chainDelay (v : ZView) (period : Nat) : Rat := ((groupDelay16 v * period : Nat) : Rat) / ((16 * 2 ^ zdecim v : Nat) : Rat)

end Sys2Proof.Machine
end

