-- ==== Sys2Proof/Machine/LoopOps.lean ====
section
/-! DEFINITION. Machine/LoopOps.lean: the loop outputs: setpoints, fault levels and what the rest of the device does to them
(11 R256 to R259). -/

namespace Sys2Proof.Machine

/-- A loop's record. -/
def loopOf (s : State) (n : Nat) : Loop := kget loopBlank s.loops.loops n

/-- The state with a loop's record changed. -/
def modLoop (s : State) (n : Nat) (f : Loop → Loop) : State :=
  { s with loops := { s.loops with loops := kmod loopBlank s.loops.loops n f } }

/-- An item of a loop as applied. -/
def lp (s : State) (n item : Nat) : Int := getP s 0x07 n item

/-- LOOP_MODE of a loop. -/
def loopMode (s : State) (n : Nat) : Nat := natP s 0x07 n fLOOP_MODE

/-- Is a loop enabled: its LOOP_MODE applied and not in release (11 R259)? -/
def loopOn (s : State) (n : Nat) : Bool :=
  decide ((loopOf s n).st = .normal) || decide ((loopOf s n).st = .faultLevel)

/-- V(REFX) in mV as last measured (11 R256). -/
def refx (s : State) : Nat := natP s 0x07 0 fREFX_MEAS

/-- Is V(REFX) within 1.0 V to 3.0 V (11 R257)? -/
def refxOk (s : State) : Bool := decide (1000 ≤ refx s) && decide (refx s ≤ 3000)

/-- A rational held between two bounds. -/
def clampQ (lo hi q : Rat) : Rat := if q < lo then lo else if hi < q then hi else q

/-- The setpoint of a value x by mode, 0.1 µA or 10 µV (11 R256). -/
def loopMap (s : State) (n : Nat) (x : Rat) : Int :=
  let v : Rat := (refx s * 100 : Nat)
  match loopMode s n with
  | 1 => roundQ (clampQ 38000 205000 (40000 + 160000 * x))
  | 2 => roundQ (clampQ (v / 20) (v * 19 / 20) (v * (1 / 10 + 4 / 5 * x)))
  | 3 => roundQ (clampQ 38000 205000 ((40000 + 160000 * x) * (refx s : Rat) / (lp s n fREFX_NOM : Rat)))
  | _ => 0

/-- The fault level, upscale or downscale (11 R257). -/
def loopFaultLevel (s : State) (n : Nat) (up : Bool) : Int :=
  if loopMode s n = 2 then
    if !refxOk s then 0
    else roundQ ((refx s * 100 : Nat) * (if up then 49 / 50 else 1 / 50 : Rat))
  else if up then 210000 else 36000

/-- A loop drives a setpoint: LOOP_SET, and the drive with LOOP_TRIM (11 R256, Table 11-8); on a standby the transistor
stays off (17 R360). -/
def loopDrive (s : State) (n : Nat) (set : Int) : State :=
  let d := if s.pair.role = .standby then 0 else roundQ ((set : Rat) * (1 + (lp s n fLOOP_TRIM_GAIN : Rat) / 131072)) + lp s n fLOOP_TRIM_OFS
  modLoop (setP s 0x07 n fLOOP_SET set) n (fun x => { x with drive := d })

/-- A loop goes to its fault level (11 R257). -/
def loopToFault (s : State) (n : Nat) : State :=
  let s := modLoop s n (fun x => { x with st := .faultLevel })
  loopDrive s n (loopFaultLevel s n (decide (lp s n fLOOP_FAIL_DIR = 1)))

/-- The zone a loop reads, as it is defined. -/
def loopZone (s : State) (n : Nat) : Nat := natP s 0x07 n fLOOP_ZONE

/-- Is a loop's zone not ENABLED, or its port not RUNNING (11 R257)? -/
def loopDown (s : State) (n : Nat) : Bool :=
  let z := loopZone s n
  let p := zn (zview s z) zPORT
  decide ((zoneOf s z).st ≠ .enabled) ||
    (if p = 2 then [0, 1] else [p]).any (fun q => decide ((portOf s q).st ≠ .running))

/-- Does a live source with an action that covers the loop's zone stand at or above LOOP_FAIL_SEV (11 R257)? -/
def loopCovered (s : State) (n : Nat) : Bool :=
  let z := loopZone s n
  decide (natP s 0x07 n fLOOP_FAIL_SEV ≤ zoneCover s z (zn (zview s z) zPORT))

/-- Does V(REFX) force a loop's fault level (11 R257)? -/
def loopRefxBad (s : State) (n : Nat) : Bool := decide (2 ≤ loopMode s n) && !refxOk s

/-- LOOP_HOLD in SCLK ticks. -/
def loopHold (s : State) (n : Nat) : Nat := natP s 0x07 n fLOOP_HOLD * msTicks

/-- Has a loop been without a valid value, or its zone or port down, for LOOP_HOLD (11 R257)? -/
def loopStale (s : State) (n : Nat) : Bool :=
  let x := loopOf s n
  decide (x.validAt + loopHold s n ≤ nowClk s) ||
    (match x.downSince with
    | some t => decide (t + loopHold s n ≤ nowClk s)
    | none => false)

/-- Does any condition of 11 R257 but the age of the last value hold? -/
def loopBlocked (s : State) (n : Nat) : Bool :=
  loopCovered s n || loopRefxBad s n ||
    (match (loopOf s n).downSince with
    | some t => decide (t + loopHold s n ≤ nowClk s)
    | none => false)

/-- The time since which each loop's zone or port is down is kept (11 R257). -/
def loopsWatch (s : State) : State :=
  [0, 1, 2, 3].foldl (fun s n =>
    let down := loopDown s n
    modLoop s n (fun x => { x with
      downSince := if !(x.st = .normal || x.st = .faultLevel) then none
        else if down then some (x.downSince.getD (nowClk s)) else none })) s

/-- A registered raise sends the loops that its action covers to their fault level (11 R257). -/
def loopsFault (s : State) : State :=
  [0, 1, 2, 3].foldl (fun s n =>
    if decide ((loopOf s n).st = .normal) && loopCovered s n then loopToFault s n else s) s

/-- LOOP_STATE (11 Table 11-8). -/
def loopCode (s : State) (n : Nat) : Nat :=
  let x := loopOf s n
  let agreed := match x.agreeAt with
    | some t => decide (t ≤ nowClk s)
    | none => false
  match x.st, x.sense with
  | .off, _ => 0
  | .releasing, _ => 5
  | _, some o => if agreed then (if x.st = .normal then 1 else 2) else if o then 4 else 3
  | .normal, none => 1
  | .faultLevel, none => 2

/-- A loop starts at its fault level, until its first valid value (11 R259). -/
def loopStart (s : State) (n : Nat) : State :=
  let s := modLoop s n (fun _ => { loopBlank n with st := .faultLevel, validAt := nowClk s })
  loopsWatch (loopToFault s n)

/-- Enabled loops go to their fault level, which a standby does not drive (17 R360, R369). -/
def loopsHold (s : State) : State := [0, 1, 2, 3].foldl (fun s n => if loopOn s n then loopToFault s n else s) s

/-- Is a loop in mismatch (11 R258)? -/
def loopDiffers (s : State) (n : Nat) : Bool := (loopOf s n).sense.isSome && (loopOf s n).agreeAt.isNone

/-- The release of an active loop begins: the downscale fault level for 100 ms; its mismatch ends with it (11 R258, R259). -/
def loopRelease (s : State) (n : Nat) : State :=
  let differed := loopDiffers s n
  let s := modLoop s n (fun x => { x with
    st := .releasing, releaseAt := nowClk s + 100 * msTicks, downSince := none, sense := none, agreeAt := none, next := [] })
  let s := if differed && !([0, 1, 2, 3].any (loopDiffers s)) then quietIn s 101 (100 * msTicks) else s
  loopDrive s n (loopFaultLevel s n false)

end Sys2Proof.Machine
end

