-- ==== Sys2Proof/Machine/Collector.lean ====
section
/-! DEFINITION. Machine/Collector.lean: the commands and events of the fault collector, the journal and the snags (18). -/

namespace Sys2Proof.Machine

/-! ### Registration and timers -/

/-- FAULT_RAISE: every raise that waits is registered in one FCLK cycle; what is decided after that in the same cycle waits
for the next (18 R379, R380, R382, R383, R385, R387; 11 R257; log 195). -/
def execFaultRaise (s : State) : Host.Outcome State Fault Refusal :=
  if s.col.detected.isEmpty || s.col.regAt = some (fclkNow s) then .next s else .next (loopsFault (registerRaises s))

/-- The running window of the newest action ends (18 R379). -/
def endWindow (s : State) : State :=
  dropEndedActions { s with col := { s.col with
    actions := s.col.actions.map (fun a => if a.running && a.windowEnd ≤ nowClk s then { a with running := false } else a) } }

/-- ACTION_WINDOW_END: the 3 ms window of an action ends (18 R379). -/
def execActionWindowEnd (s : State) : Host.Outcome State Fault Refusal :=
  if s.col.actions.any (fun a => a.running && decide (a.windowEnd ≤ nowClk s)) then .next (endWindow s) else .next s

/-- FAULT_QUIET_TIMER: a source's clearing interval completes; its live bit clears with a CLEAR entry (18 R381). -/
def execFaultQuietTimer (src : Nat) (s : State) : Host.Outcome State Fault Refusal :=
  match (srcRec s src).quietAt with
  | some t => if (srcRec s src).live && decide (t ≤ nowClk s) then .next (clearLive s src) else .next s
  | none => .next s

/-- The pin after the pulse: released when FAULT_N_AFTER = 0 or a release waited, held otherwise; low before READY and in
FAILED (18 R384 to R386). -/
def endPulse (s : State) : State :=
  let release := decide (natP s 0x0D 0 jFAULT_N_AFTER = 0) || s.col.releaseWaits
  let low := s.col.hostHolds || !release || decide (s.boot.st ≠ .ready)
  { s with col := { s.col with pinLow := low, pulseEnd := none, releaseWaits := false } }

/-- FAULT_N_PULSE_END: FAULT_N_PULSE expires (18 R385, R386). -/
def execFaultNPulseEnd (s : State) : Host.Outcome State Fault Refusal :=
  match s.col.pulseEnd with
  | some t => if t ≤ nowClk s then .next (endPulse s) else .next s
  | none => .next s

/-- Every bucket gains a token, to at most 16 (18 R389). -/
def refillTokens (s : State) : State :=
  { s with col := { s.col with
      tokenAt := s.col.tokenAt + 78125
      sources := s.col.sources.foldl
        (fun m p => kput sourceBlank m p.1 { srcRec s p.1 with tokens := min 16 ((srcRec s p.1).tokens + 1) }) s.col.sources } }

/-- TOKEN_REFILL: every 62.5 µs each bucket gains a token (18 R389). -/
def execTokenRefill (s : State) : Host.Outcome State Fault Refusal :=
  if s.boot.rootLocked && decide (s.col.tokenAt ≤ nowClk s) then .next (refillTokens s) else .next s

/-- The SUMMARY entry of a coalescing source (18 R389). -/
def summaryOf (s : State) (src : Nat) (c : Coal) : State :=
  let r := srcRec s src
  if !canRecord s then s
  else
    let e := { entryOf s .summary c.firstTs c.data (severityFor s src c.data.ins) with
      auxTs := c.lastTs, duration := c.duration, count := c.raises, live := r.live,
      action := actionSeverity s }
    bumpP (writeEntry (setSrcRec s src { r with coal := none }) e) 0x0D 0 jSUMMARIES

/-- One SUMMARY entry for each source that has coalesced anything, in source order (18 R389). -/
def writeSummaries (s : State) : State :=
  (s.col.sources.filterMap (fun p => p.2.coal.map (fun c => (p.1, c)))).foldl (fun s p => summaryOf s p.1 p.2) s

/-- JOURNAL_SUMMARY_TICK: the timebase is at a multiple of 10 ms (18 R389). -/
def execJournalSummaryTick (s : State) : Host.Outcome State Fault Refusal :=
  if s.time.ticks % 12500000 = 0 then .next (writeSummaries s) else .next s

/-- JOURNAL_BEHIND clears when no closed frame waits (18 R390). -/
def clearBehind (s : State) : State :=
  if s.col.behind && s.col.closed.isEmpty then clearLive { s with col := { s.col with behind := false } } 115 else s

/-- JOURNAL_FRAME_CLOSE: 1,024 entries, or 10 ms after the first (18 R388). -/
def execJournalFrameClose (s : State) : Host.Outcome State Fault Refusal :=
  if 1024 ≤ openEntries s || (0 < openEntries s && s.col.openSince + 10 * msTicks ≤ nowClk s) then .next (closeJournal s)
  else .next s

/-- The journal frame that the oldest closed entries make (18 R388). -/
def journalFrame (s : State) (x : JFrame) : Frame :=
  let n := x.count
  let es := s.col.store.take n
  let first := (es.head?).map (fun e => e.seq)
  let ts := (es.head?).map (fun e => e.ts)
  let f := streamFrame s 130 0x0F (ts.getD 0) (first.getD 0) 64 n ((es.map entryBytes).flatten)
  { f with flags := 32 * bitN (es.any (fun e => e.sameCycle)) + 8 * bitN x.gap }

/-- The oldest closed journal frame has been delivered: its entries leave the store (18 R388, R390). -/
def journalDelivered (s : State) : State :=
  match s.col.closed with
  | [] => s
  | x :: xs => clearBehind { s with col := { s.col with store := s.col.store.drop x.count, closed := xs } }

/-- FW_WATCHDOG_EXPIRY: the collector watchdog has not been fed for 10 ms (18 Table 18-2); held during an activation (20
Table 20-7). Its live bit clears at the next feed, which FAULT_QUIET_TIMER brings (log 12). -/
def execFwWatchdogExpiry (s : State) : Host.Outcome State Fault Refusal :=
  if s.boot.fwRuns && s.boot.activation.isNone && decide (s.col.fedAt + 10 * msTicks ≤ nowClk s) then
    .next (quietIn (detectSrc s 112) 112 0)
  else .next s

/-! ### Commands (15 R334; 18 R377, R386) -/

/-- The byte of FAULT_READ for a source (15 Table 15-11); a reserved source reads zero (15 R334). -/
def sourceByte (s : State) (src : Nat) : Byte :=
  if sourceExists src then
    let x := srcRec s src
    BitVec.ofNat 8 (128 * bitN x.sticky + 64 * bitN x.live + natP s 0x0D 0 (jSEVERITY + src))
  else 0

/-- FAULT_READ (15 R334). -/
def bodyFaultRead (first count : Nat) (s : State) : State × Answer :=
  if 128 < first + count then reply s (badField 8)
  else if 127 < first then reply s (badField 0)
  else if count = 0 then reply s (badField 8)
  else reply s (okWith ((List.range count).map (fun i => sourceByte s (first + i))))

/-- FAULT_READ (15 R334). -/
def execFaultRead (r : Req) (first count : Nat) (s : State) : Host.Outcome State Fault Refusal :=
  .next (mbxRun (.faultRead r first count) r 0x0D01 false (bodyFaultRead first count) s)

/-- FAULT_SEVERITY sets a source's severity at once and writes a SEVERITY entry (18 R377, R387; 15 R334). -/
def bodyFaultSeverity (src sev : Nat) (s : State) : State × Answer :=
  if !sourceExists src then reply s (badField 0)
  else if 5 < sev then reply s (badFieldOf 8 src)
  else if !canRecord s then reply s (busy src)
  else
    let s := setP s 0x0D 0 (jSEVERITY + src) sev
    let s := { s with staged := kput noStage s.staged (objId 0x0D 0 (jSEVERITY + src)) none }
    let e := { entryOf s .severity (fclkTs s) (raiseBlank src) sev with
      live := isLive s src, action := actionSeverity s }
    (writeEntry s e, .final okBare)

/-- FAULT_SEVERITY (18 R377). -/
def execFaultSeverity (r : Req) (src sev : Nat) (s : State) : Host.Outcome State Fault Refusal :=
  .next (mbxRun (.faultSeverity r src sev) r 0x0D03 false (bodyFaultSeverity src sev) s)

/-- The items of domain 0x0D that FAULT_JOURNAL_CFG applies (18 R394). -/
def collectorItem (o : Nat) : Bool := decide (objDom o = 0x0D)

/-- The staged collector items take effect (18 R394; 15 R328). -/
def commitCollector (s : State) : State × Answer := (applyStaged s collectorItem, .final okBare)

/-- FAULT_JOURNAL_CFG (18 R394, 15 R328). -/
def execFaultJournalCfg (r : Req) (s : State) : Host.Outcome State Fault Refusal :=
  .next (mbxRun (.faultJournalCfg r) r 0x0D04 false commitCollector s)

/-- The PIN entry of FAULT_PIN_RELEASE (18 R386, R387). -/
def pinEntry (s : State) (action : Nat) (waits : Bool) : JEntry :=
  { entryOf s .pin (fclkTs s) { raiseBlank 0xFF with ins := action, d0 := bitN waits } 0 with action := actionSeverity s }

/-- FAULT_PIN_RELEASE (18 R386); before READY the pin stays low (18 R384). -/
def bodyFaultPinRelease (action : Nat) (s : State) : State × Answer :=
  if 1 < action then reply s (badField 0)
  else if !canRecord s then reply s (busy 0)
  else
    let waits := decide (action = 0) && s.col.pulseEnd.isSome
    let s := appendEntry s (pinEntry s action waits)
    let c := s.col
    let c :=
      if action = 1 then { c with pinLow := true, hostHolds := true, releaseWaits := false }
      else if waits then { c with hostHolds := false, releaseWaits := true }
      else { c with pinLow := decide (s.boot.st ≠ .ready), hostHolds := false }
    ({ s with col := c }, .final okBare)

/-- FAULT_PIN_RELEASE (18 R386). -/
def execFaultPinRelease (r : Req) (action : Nat) (s : State) : Host.Outcome State Fault Refusal :=
  .next (mbxRun (.faultPinRelease r action) r 0x0D05 false (bodyFaultPinRelease action) s)

/-! ### Snags (18 R391 to R393) -/

/-- The limits of a snag: the greatest TARGET, the greatest SUB if SUB is checked, and the range of VALUE; none for an
unknown number (18 Table 18-5). -/
def snagLimits (num : Nat) : Option (Nat × Nat × Int × Int) :=
  match num with
  | 0x0001 => some (127, 0xFFFF, 1, 10000000)
  | 0x0002 => some (127, 127, 1, 10000000)
  | 0x0010 => some (1, 0xFFFF, 0, 0xFFFFFFFF)
  | 0x0011 => some (1, 0xFFFF, 1, 255)
  | 0x0020 => some (1, 0x0311, -2048, 2047)
  | 0x0030 => some (131, 0xFFFF, 1, 60000)
  | 0x0031 => some (7, 0xFFFF, 1, 50)
  | 0x0032 => some (3, 0xFFFF, 0, 0xFFFFFFFF)
  | 0x0040 => some (0xFFFF, 0xFFFF, 1, 100000)
  | 0x0041 => some (8, 0xFFFF, 0, 0xFFFFFFFF)
  | 0x0042 => some (67, 0xFFFF, 0, 0xFFFFFFFF)
  | 0x0050 => some (31, 0xFFFF, 0, 0xFFFFFFFF)
  | 0x0051 => some (3, 0xFFFF, -2147483648, 2147483647)
  | 0x0060 => some (3, 0xFFFF, 1, 1000)
  | 0x0061 => some (0xFFFF, 0xFFFF, 0, 0xFFFFFFFF)
  | _ => none

/-- Is VALUE of a snag signed (18 Table 18-5)? -/
def snagSigned (num : Nat) : Bool := decide (num = 0x0020) || decide (num = 0x0051)

/-- Does TARGET of a snag name nothing (18 Table 18-5)? -/
def snagNoTarget (num : Nat) : Bool := decide (num = 0x0040) || decide (num = 0x0061)

/-- The field of DIAG_SNAG_SET out of the range of Table 18-5, as its field code's bit offset (18 R392). -/
def snagBadField (num target sub : Nat) (value : Int) : Option Nat :=
  match snagLimits num with
  | none => some 0
  | some (t, u, lo, hi) =>
    if t < target || (num ≤ 2 && !sourceExists target) then some 0x20
    else if u < sub || (num = 2 && !sourceExists sub) || (num = 0x0020 && (3 < sub / 256 || 17 < sub % 256)) then some 0x30
    else if value < lo || hi < value then some 0x40
    else none

/-- Every final response that MBX_DELAY held back goes out (18 Table 18-5). -/
def flushHeld (s : State) : State :=
  s.slots.foldl (fun s p => match p.2.held with
    | some (r, _) => writeResponse s p.1 .done .none r
    | none => s) s

/-- Every snag ends (18 R391: PORST_N, SYS_RESET, FW_ACTIVATE, DIAG_SNAG_CLEAR). -/
def endAllSnags (s : State) : State := flushHeld (s.col.snags.foldl endSnag s)

/-- DIAG_SNAG_SET (18 R391, R392). -/
def bodyDiagSnagSet (num : Nat) (args : List Byte) (s : State) : State × Answer :=
  let a := fitBytes 32 args
  let target := if snagNoTarget num then 0 else fieldAt a 0 2
  let value : Int := if snagSigned num then fieldAtI a 4 4 else (fieldAt a 4 4 : Nat)
  match snagBadField num target (fieldAt a 2 2) value with
  | some bit => reply s (badField bit)
  | none =>
    let again := (snagOf s num target).isSome
    if !again && 8 ≤ s.col.snags.length then reply s (busy 0)
    else if !canRecord s then reply s (busy 0)
    else
      let s := (s.col.snags.filter (fun y => y.num = num && y.target = target)).foldl leaveLive s
      let s := if again && num = 0x0040 then flushHeld s else s
      let x : Snag := ⟨num, target, fieldAt a 2 2, value, fieldAt a 8 4, fieldAt a 12 4, 0, nowClk s, none, false, a.take 14⟩
      let first := s.col.snags.isEmpty
      let s := { s with col := { s.col with
        snags := s.col.snags.filter (fun y => !(y.num = num && y.target = target)) ++ [x] } }
      let s := appendEntry s (snagEntry s x)
      (if first then detectSrc s 120 else s, .final okBare)

/-- DIAG_SNAG_SET, under debug unlock (18 R391). -/
def execDiagSnagSet (r : Req) (snag : Nat) (args : List Byte) (s : State) : Host.Outcome State Fault Refusal :=
  .next (mbxRun (.diagSnagSet r snag args) r 0x0E02 true (bodyDiagSnagSet snag args) s)

/-- DIAG_SNAG_CLEAR of one number, or of all (18 R391). -/
def bodyDiagSnagClear (snag : Nat) (s : State) : State × Answer :=
  let xs := s.col.snags.filter (fun x => snag = 0xFFFF || x.num = snag)
  if !canRecordMany s xs.length then reply s (busy 0)
  else if snag = 0xFFFF then (endAllSnags s, .final okBare)
  else
    let s := xs.foldl endSnag s
    (if snag = 0x0040 then flushHeld s else s, .final okBare)

/-- DIAG_SNAG_CLEAR: every value but 0xFFFF needs the unlock (15 Table 15-12). -/
def execDiagSnagClear (r : Req) (snag : Nat) (s : State) : Host.Outcome State Fault Refusal :=
  .next (mbxRun (.diagSnagClear r snag) r 0x0E03 (decide (snag ≠ 0xFFFF)) (bodyDiagSnagClear snag) s)

/-- SCLK ticks that the timed effect of a snag lasts; none: it has no timed effect (18 Table 18-5). -/
def snagSpan (x : Snag) : Option Nat :=
  match x.num with
  | 0x0001 => some (x.value.toNat * usTicks)
  | 0x0002 => some (x.value.toNat * usTicks)
  | 0x0020 => some (300 * usTicks)
  | 0x0030 => some (x.value.toNat * msTicks)
  | 0x0031 => some (x.value.toNat * usTicks)
  | 0x0040 => some (x.value.toNat * usTicks)
  | _ => none

/-- A snag applies its perturbation (18 R392, R393): a raise, a timed effect, or one that waits for its event. -/
def applySnag (s : State) (x : Snag) : State :=
  let s := modSnag s x.num x.target (fun y => { y with
    applied := y.applied + 1
    nextAt := nowClk s + y.period * usTicks
    endAt := (snagSpan x).map (fun n => nowClk s + n)
    armed := (snagSpan x).isNone })
  if x.num = 0x0001 then detectSrc s x.target
  else if x.num = 0x0002 then detectSrc (detectSrc s x.target) x.sub
  else if x.num = 0x0061 then
    spendSnag { s with pair := { s.pair with lapsed := s.pair.lapsed || s.pair.wave } } x.num x.target
  else s

/-- SNAG_APPLY: an application falls due: the first at once, the others every PERIOD, COUNT of them (18 R392). -/
def execSnagApply (num target : Nat) (s : State) : Host.Outcome State Fault Refusal :=
  match snagOf s num target with
  | some x =>
    if x.nextAt ≤ nowClk s && (x.applied = 0 || x.period ≠ 0) && !snagDone x then
      .next (applySnag s x)
    else .next s
  | none => .next s

/-- SNAG_LIVE_EXPIRY: the live time of RAISE or RAISE_PAIR ends; the sources' live bits clear (18 R392). -/
def execSnagLiveExpiry (num target : Nat) (s : State) : Host.Outcome State Fault Refusal :=
  match snagOf s num target with
  | some x =>
    if num ≤ 2 && x.endAt.isSome && (x.endAt.getD 0) ≤ nowClk s then
      let s := (snagSources x).foldl clearLive s
      .next (settleSnag (modSnag s num target (fun y => { y with endAt := none })) num target)
    else .next s
  | none => .next s

/-- SNAG_EFFECT_END: a timed effect ends and normal behaviour resumes; MBX_DELAY lets its responses go (18 R392). -/
def execSnagEffectEnd (num target : Nat) (s : State) : Host.Outcome State Fault Refusal :=
  match snagOf s num target with
  | some x =>
    if 2 < num && x.endAt.isSome && (x.endAt.getD 0) ≤ nowClk s then
      let s := modSnag s num target (fun y => { y with endAt := none })
      let s := if num = 0x0040 then flushHeld s else s
      .next (settleSnag s num target)
    else .next s
  | none => .next s

end Sys2Proof.Machine
end

