-- ==== Sys2Proof/Machine/SkeinOps.lean ====
section
/-! DEFINITION. Machine/SkeinOps.lean: the operations over skeins that other chapters share: what a definition derives, the
conditions, the rings (07). -/

namespace Sys2Proof.Machine

/-- A skein's items: number to value. -/
abbrev SView := Nat → Int

/-- A skein's record. -/
def skOf (s : State) (k : Nat) : Skein := kget skeinBlank s.cap.skeins k

/-- The state with a skein's record replaced. -/
def setSk (s : State) (k : Nat) (x : Skein) : State :=
  { s with cap := { s.cap with skeins := kput skeinBlank s.cap.skeins k x } }

/-- The state with a skein's record changed by a function. -/
def modSk (s : State) (k : Nat) (f : Skein → Skein) : State := setSk s k (f (skOf s k))

/-- The definition in force. -/
def skview (s : State) (k : Nat) : SView := fun i => getP s 0x05 k i

/-- The definition that a SKEIN_CREATE would accept. -/
def skstaged (s : State) (k : Nat) : SView := fun i => planP s 0x05 k i

/-- An item that is never negative. -/
def sn (v : SView) (i : Nat) : Nat := (v i).toNat

/-- Is it a raw skein's definition? -/
def skRaw (v : SView) : Bool := decide (sn v kSOURCE_KIND < 2)

/-- The port of a raw skein is its kind; of a zone skein, its zone's. -/
def skPort (s : State) (v : SView) : Nat :=
  if skRaw v then sn v kSOURCE_KIND else zport (zview s (sn v kSOURCE_ZONE))

/-- W in ticks (07 R160). -/
def segTicks (w : PlanView) (v : SView) : Nat :=
  (sn v kRAW_STITCH_COUNT - 1) * planK w + (vn w pCHIRP_SAMPLES + 1) / 2 + 32

/-- Bytes of a segment. -/
def segBytes (w : PlanView) (v : SView) : Nat := 32 + 8 * segTicks w v

/-- n_p (07 R160). -/
def segPlies (w : PlanView) (v : SView) : Nat := popCount (planP_ w) (sn v kRAW_PLY_MASK)

/-- r_s in bytes per second (07 R160). -/
def segRate (w : PlanView) (v : SView) : Rat :=
  if planShot w = 0 then 0 else ((segBytes w v * segPlies w v * 10 ^ 13 : Nat) : Rat) / planShot w

/-- B_row (07 R161). -/
def skRowBytes (z : ZView) : Nat := rowSize z (zcount z) + 16

/-- Is PRE above T_ring − 20 µs (07 R160)? -/
def preTooLong (v : SView) : Bool :=
  decide ((sn v kRING_KIB * 1024 : Nat) * 10 ^ 6 < (sn v kPRE + 20) * 2500000000)

/-- The rows that a zone skein's ring holds (07 R161). -/
def ringRows (z : ZView) (v : SView) : Nat := sn v kRING_KIB * 1024 / skRowBytes z

/-- HANK_BYTES (07 R162). -/
def hankBytes (w : PlanView) (z : ZView) (v : SView) : Nat :=
  if skRaw v then
    192 + (ceilDiv ((sn v kPRE + sn v kPOST) * 10000000 * segPlies w v) (planShot w) + segPlies w v) * segBytes w v
  else 192 + (sn v kPRE + sn v kPOST) * skRowBytes z

/-- Bytes that a skein takes of the capture area: its rings and hank buffers (07 R162). -/
def skSpace (w : PlanView) (z : ZView) (v : SView) : Nat :=
  (if skRaw v then 4 else 1) * sn v kRING_KIB * 1024 + sn v kHANK_DEPTH * hankBytes w z v

/-- Is a skein defined? -/
def skDefined (s : State) (k : Nat) : Bool := decide ((skOf s k).st ≠ .undefined)

/-- Is a skein neither IDLE nor UNDEFINED: do its rings run (07 R163)? -/
def skRuns (s : State) (k : Nat) : Bool := decide ((skOf s k).st ≠ .undefined) && decide ((skOf s k).st ≠ .idle)

/-- The plan of a skein's port, and the items of its zone. -/
def skPlan (s : State) (v : SView) : PlanView := pv s (skPort s v)

/-- SEG_RATE in kB/s, to nearest (07 Table 07-4). -/
def segRateKb (s : State) (v : SView) : Nat := if skRaw v then (roundQ (segRate (skPlan s v) v / 1000)).toNat else 0

/-- The bytes of the capture area: all above the fixed 1,024 MiB (13 R280). -/
def captureArea (s : State) : Nat := (natP s 0x10 0 mMEM_CONFIG / 4096 - 1024) * 1048576

/-- skeins not IDLE, bit k for skein k (15 Table 15-7). -/
def skeinsActive (s : State) : Nat := sumN (((List.range 32).filter (skRuns s)).map (fun k => 2 ^ k))

/-- The skeins that a test finds, lowest first. -/
def skeinsWith (f : Nat → Bool) : List Nat := (List.range 32).filter f

/-- The final payload of a CAP_READ (15 Table 15-8). -/
def readPayload (x : Nat × Nat × Nat) : List Byte := leBytes 4 x.1 ++ leBytes 4 x.2.1 ++ leBytes 8 x.2.2

/-! ### Raw segments (07 R163, R167) -/

/-- T_ring of a raw skein in ticks: two bytes of each channel a tick (07 R160). -/
def ringTicks (v : SView) : Nat := sn v kRING_KIB * 512

/-- Does a raw skein's ring still hold a segment's first tick at a tick (07 R160, R167)? -/
def ringHolds (v : SView) (now : Nat) (q : Launch × Nat × Nat) : Bool := decide (now ≤ q.2.1 + ringTicks v)

/-- A launch whose reference is known enters the rings of the port's raw skeins; what the ring no longer holds leaves it. -/
def skeinsLaunch (s : State) (p : Nat) (l : Launch) : State :=
  let w := pv s p
  (skeinsWith (fun k => skRuns s k && skRaw (skview s k) && decide (skPort s (skview s k) = p))).foldl (fun s k =>
    let v := skview s k
    if !(sn v kRAW_PLY_MASK).testBit l.ply then s
    else
      let start := tickOf l.tL + vn w pORIGIN_TICKS + sn v kRAW_FIRST_STITCH * planK w - 16
      modSk s k (fun x =>
        let old := if x.cap.isSome then x.launches else x.launches.filter (ringHolds v s.time.ticks)
        { x with launches := old ++ [(l, start, segTicks w v)] })) s

/-- Does a skein take data of a port: a raw skein its own port's, a zone skein its zone's, of both ports for a dual-ended zone? -/
def skTakes (s : State) (v : SView) (p : Nat) : Bool :=
  decide (skPort s v = p) || (!skRaw v && decide (zn (zview s (sn v kSOURCE_ZONE)) zPORT = 2))

/-- A mark for the skeins that take data of a port (07 R165, R171). -/
def skeinsMark (s : State) (p at_ : Nat) (kind : MarkKind) : State :=
  (skeinsWith (fun k => skRuns s k && skTakes s (skview s k) p)).foldl (fun s k =>
    modSk s k (fun x => { x with marks := x.marks ++ [(at_, kind)] })) s

/-- Units of a port's data are lost to the look-back rings, and leave a hole (13 R290). -/
def skeinsHole (s : State) (p : Nat) (units : List Nat) : State :=
  (skeinsWith (fun k => skRuns s k && skTakes s (skview s k) p)).foldl (fun s k =>
    modSk s k (fun x => { x with holes := x.holes ++ units })) (skeinsMark s p (nowTs s) .hole)

/-- A port stops: its captures end with TRUNCATED at the end of the drain (07 R171). -/
def skeinsStopped (s : State) (p : Nat) : State :=
  (skeinsWith (fun k => decide ((skOf s k).st = .capturing) && decide (skPort s (skview s k) = p))).foldl (fun s k =>
    modSk s k (fun x => { x with truncated := true })) s

/-- A zone leaves ENABLED: the captures of its skeins end with TRUNCATED (07 R171). -/
def skeinsZoneOff (s : State) (z : Nat) : State :=
  (skeinsWith (fun k => decide ((skOf s k).st = .capturing) && !skRaw (skview s k) &&
    decide (sn (skview s k) kSOURCE_ZONE = z))).foldl (fun s k => modSk s k (fun x => { x with truncated := true })) s

/-! ### Rows of zone skeins (07 R163) -/

/-- An output row of a zone enters the rings of its skeins. -/
def skeinsRow (s : State) (z : Nat) (r : ZRow) : State :=
  let zv := zview s z
  (skeinsWith (fun k => skRuns s k && !skRaw (skview s k) && decide (sn (skview s k) kSOURCE_ZONE = z))).foldl (fun s k =>
    let n := ringRows zv (skview s k)
    modSk s k (fun x =>
      let rows := x.rows ++ [⟨r.label, rowBytes zv r.vals, rowQual r.vals⟩]
      { x with rows := if x.cap.isSome then rows else rows.drop (rows.length - n) })) s

/-! ### Conditions (07 R158, R166 to R170) -/

/-- The label of the trigger row of a condition's time, if it has come (07 R167). -/
def triggerRow (x : Skein) (t : Nat) : Option Nat := (x.rows.find? (fun r => decide (t ≤ r.label))).map (fun r => r.label)

/-- Does a condition fall in the same sample as the first (07 R167)? -/
def sameSample (raw : Bool) (x : Skein) (t0 t : Nat) : Bool :=
  if raw then decide (tickOf t0 = tickOf t)
  else
    let a := min t0 t
    let b := max t0 t
    match triggerRow x a with
    | some l => decide (b ≤ l)
    | none => true

/-- The conditions of a capture that share the trigger's sample, and the others (07 R167, R168). -/
def splitConds (raw : Bool) (x : Skein) (cs : List Cond) : List Cond × List Cond :=
  match cs with
  | [] => ([], [])
  | c :: _ => (cs.filter (fun q => sameSample raw x c.ts q.ts), cs.filter (fun q => !sameSample raw x c.ts q.ts))

/-- TRIG_TS of a capture: the earliest time of the conditions in the trigger's sample (07 R167). -/
def trigTs (raw : Bool) (x : Skein) (cs : List Cond) : Nat :=
  let ts := (splitConds raw x cs).1.map (fun q => q.ts)
  ts.foldl min (ts.headD 0)

/-- Conditions of the present capture that its list could not hold (07 R168). -/
def capLost (s : State) (k : Nat) : Nat :=
  let x := skOf s k
  match x.cap with
  | none => 0
  | some c => (splitConds (skRaw (skview s k)) x c.conds).2.length - 8

/-- The TRIGOUT pin that a skein drives, if any: 0 or 1. -/
def skPin (v : SView) : Option Nat := if sn v kTRIGOUT_SEL = 0 then none else some (sn v kTRIGOUT_SEL - 1)

/-- A condition opened a hank: the pin goes high from `rise` for TRIGOUT_WIDTH ticks; a pulse in progress has its width
restarted (07 R170). -/
def pulseTrigOut (s : State) (k rise : Nat) : State :=
  let v := skview s k
  match skPin v with
  | none => s
  | some p =>
    let from_ := match nth none s.cap.trigOut p with
      | some q => q.1
      | none => rise
    { s with cap := { s.cap with trigOut := setNth s.cap.trigOut p (some (from_, rise + tk (sn v kTRIGOUT_WIDTH))) } }

/-- The latency from the SCLK edge that registers a TRIGIN comparator to the pin: 39.6 ns (07 R170). -/
abbrev trigOutLatency : Nat := 12672

/-- A condition joins the missed list, of which the 64 most recent stay (07 R169). -/
def missCond (x : Skein) (c : Cond) (reason : Nat) : Skein :=
  { x with missed := x.missed + 1, missedList := (x.missedList ++ [(c, reason)]).drop (x.missedList.length - 63) }

/-- A condition of time `t` and cause bits `mask` opens a hank in ARMED; `rise` is when a pulse would rise (07 R167, R170). -/
def openCapture (s : State) (k t mask rise : Nat) : State :=
  let v := skview s k
  let now := s.time.ticks
  let pulse := (skPin v).bind (fun p => nth none s.cap.trigOut p)
  let s := modSk s k (fun x =>
    let x := if skRaw v then { x with launches := x.launches.filter (ringHolds v now) } else x
    { x with
      st := .capturing, truncated := false, gap := false, lost := []
      cap := some ⟨[⟨t, mask, now⟩], max x.armedTick (now - ringTicks v), pulse⟩ })
  pulseTrigOut s k rise

/-- A condition reaches a skein (07 R167 to R170). -/
def skeinCondition (s : State) (k t mask rise : Nat) : State :=
  let x := skOf s k
  let c : Cond := ⟨t, mask, s.time.ticks⟩
  match x.st with
  | .armed => openCapture s k t mask rise
  | .capturing =>
    match x.cap with
    | some a => setSk s k { x with cap := some { a with conds := a.conds ++ [c] } }
    | none => s
  | .rearm => setSk s k (missCond x c 1)
  | .held => setSk s k (missCond x c 2)
  | _ => s

/-- An accepted TRIGIN edge reaches the skeins that select the pin; `tick` registered it (07 R158, R170). -/
def skeinTrigin (s : State) (pin ts tick : Nat) : State :=
  (skeinsWith (fun k => skDefined s k && (sn (skview s k) kTRIGIN_MASK).testBit pin)).foldl
    (fun s k => skeinCondition s k ts (2 ^ (4 + pin)) (tk tick + trigOutLatency)) s

/-- The bits of the cause mask that a detector sets: those of every TRIG_DET_n that lists it (07 Table 07-3). -/
def detMask (v : SView) (det : Nat) : Nat :=
  sumN ([0, 1, 2, 3].map (fun n => if sn v (kTRIG_DET + n) = det then 2 ^ n else 0))

/-- A detector condition reaches the skeins that list the detector (07 R158). -/
def skeinDetector (s : State) (det ts : Nat) : State :=
  (skeinsWith (skDefined s)).foldl (fun s k =>
    let m := detMask (skview s k) det
    if m = 0 then s else skeinCondition s k ts m (nowTs s)) s

end Sys2Proof.Machine
end

