-- ==== Sys2Proof/Machine/Budget.lean ====
section
/-! DEFINITION. Machine/Budget.lean: the resource budgets that a plan, a zone, a kernel or a skein is checked against (06
R135; 07 R164; 09 R205, R206; 10 R226; 13 R288; 17 R365) and their order (15 R330). -/

namespace Sys2Proof.Machine

/-- 1 for a test that holds, 0 otherwise. -/
def ifQ (b : Bool) (q : Rat) : Rat := if b then q else 0

/-! ### The Needle load (09 R205, Table 09-8) -/

/-- What one function asks for: cycles per second, Needle-area bytes, P4 bytes per second. -/
structure Load where
  cycles : Rat
  state : Rat
  p4 : Rat

/-- Loads added. -/
def addLoad (a b : Load) : Load := ⟨a.cycles + b.cycles, a.state + b.state, a.p4 + b.p4⟩

/-- The load of an enabled detector of a zone. -/
def detLoad (c : Scene) (v : ZView) (d : Nat) : Load :=
  let f := fOut c v
  let n : Rat := zcount v
  let long := decide (64 < zn v (zdet zDET_WIN d))
  ⟨n * f * (if zn v zOUT_WIDTH = 16 then 12 else 20) + 600 * f,
    ifQ long (n * 4 * (64 + zn v (zdet zDET_WIN d) : Nat)), ifQ long (8 * n * f)⟩

/-- The load of a zone's detectors. -/
def zoneDetLoad (c : Scene) (v : ZView) : Load :=
  ([0, 1, 2, 3].filter (detOn v)).foldl (fun a d => addLoad a (detLoad c v d)) ⟨0, 0, 0⟩

/-- Spectral records per second of a port. -/
def specRate (v : PlanView) : Rat :=
  if planShot v = 0 ∨ vn v pSPEC_ROWS = 0 then 0 else ((10 ^ 13 : Nat) : Rat) / ((planShot v * vn v pSPEC_ROWS : Nat) : Rat)

/-- The load of a port's functions. -/
def portLoad (v : PlanView) (dual : Bool) : Load :=
  if vn v pLENGTH = 0 then ⟨0, 0, 0⟩
  else
    let n : Rat := planN_ v
    let p := planP_ v
    let stitches := n * fEff v
    let ints : Rat := 1000 / (max 1 (vn v pRAMAN_INT) : Nat)
    let spec := decide (vn v pSPEC_ENABLE = 1)
    let track := spec && decide (8 ≤ p)
    let raman := decide (vn v pTGATE_ENABLE = 1)
    ⟨ifQ spec (n * specRate v * (p + 1 : Nat)) + ifQ track (n * specRate v * (48 * p + 200 : Nat)) +
        ifQ raman (2 * stitches + 400 * n * ints + (if dual then 120 else 80) * (planNR v (vn v pRAMAN_ORIGIN) : Rat) * ints) +
        stitches / 4,
      ifQ track (n * (32 + 4 * p : Nat)) + ifQ raman (64 * n) + 24 * n,
      ifQ track (n * specRate v * (64 + 8 * p : Nat)) + ifQ raman (64 * n * ints) + 24 * n⟩

/-- Is dual-ended operation in force in a scene (01 R25)? -/
def sceneDual (c : Scene) : Bool := decide (vn (c.port 0) pDUAL_ENDED = 1) && decide (vn (c.port 1) pDUAL_ENDED = 1)

/-- The vendor load of a scene. -/
def vendorLoad (c : Scene) : Load :=
  let ports := addLoad (portLoad (c.port 0) (sceneDual c)) (portLoad (c.port 1) (sceneDual c))
  c.zones.foldl (fun a q => addLoad a (zoneDetLoad c q.2)) ports

/-- What a physical core does. -/
def coreUse (s : State) (c : Nat) : CoreUse := kget coreUseReset s.needle.use c

/-- Is a core in service: vendor or user? -/
def inService (u : CoreUse) : Bool :=
  match u with
  | .vendor => true
  | .user _ => true
  | _ => false

/-- N_IN_SERVICE (09 Table 09-16). -/
def nInService (s : State) : Nat := ((List.range 64).filter (fun c => inService (coreUse s c))).length

/-- The free spare N-cores. -/
def nSpares (s : State) : List Nat :=
  (List.range 64).filter (fun c => decide (coreUse s c = .spare) && !s.needle.faults.any (fun f => f.spare = some c))

/-- The N-cores that the checks count: 60, or those in service while fewer are (09 R206, R216). -/
def checkCores (s : State) : Nat := min 60 (nInService s)

/-- The cycle limit of check 1 with a number of user slots (09 Table 09-9). -/
def cycleLimit (s : State) (users : Nat) : Rat := ((checkCores s - users : Nat) : Rat) * 1000000000

/-- A user slot's record. -/
def krnOf (s : State) (n : Nat) : UserSlot := kget userBlank s.needle.slots n

/-- The loaded slots and their images: on the slot's core, and on the spare of a SHADOW or LOADING slot (09 R206, R209, R213). -/
def loadedSlots (s : State) : List (Nat × KrnImage) :=
  ((List.range 16).map (fun n => ((krnOf s n).image.toList ++ (krnOf s n).next.toList).map (fun i => (n, i)))).flatten

/-- Row rate of a subscription: f_out, or the Raman interval's (09 R209). -/
def subRate (c : Scene) (z : Nat) : Rat :=
  match c.zones.find? (fun q => q.1 = z) with
  | some q => fOut c q.2
  | none => 0

/-- Does an image's work exceed its core (09 Table 09-9, check 3)? -/
def kernelOver (c : Scene) (i : KrnImage) : Bool :=
  decide ((1125000000 : Rat) <
    sumQ ((i.subs.filter (fun q => q.1 = 1)).map (fun q => subRate c q.2.1 * (i.cyclesPerRow : Nat))))

/-- The Needle checks, in their order; `w` is what a failure of the first two names (09 Table 09-9). -/
def needleFault (s : State) (c : Scene) (w : Nat) : Option Reply :=
  let v := vendorLoad c
  if cycleLimit s (natP s 0x0C 0 nUSER_CORES) < v.cycles then some (noResource 0x0C01 w)
  else if (268435456 : Rat) < v.state then some (noResource 0x0C02 w)
  else ((loadedSlots s).find? (fun q => kernelOver c q.2)).map (fun q => noResource 0x0C03 q.1)

/-! ### The compressor and the payload (10 R226) -/

/-- Payload bytes of one output row: its frames' lengths together (06 R146). -/
def rowPayload (v : ZView) : Nat :=
  let n := zcount v
  if rowSize v n ≤ zn v zFRAME_BYTES then rowSize v n
  else
    let m := splitSize v
    n / m * rowSize v m + rowSize v (n % m)

/-- Payload bytes per second of a zone. -/
def zonePayload (c : Scene) (v : ZView) : Rat := (rowPayload v : Rat) * fOut c v

/-- The engines in service (10 Table 10-4). -/
def enginesInService (s : State) : Nat :=
  ((List.range 9).filter (fun e => decide ((kget engineReset s.comp.engines e).st = .inService))).length

/-- The load of R226 with a HOST_RESERVE. -/
def compLoad (c : Scene) (reserve : Nat) : Rat :=
  sumQ ((c.zones.filter (fun q => zn q.2 zCOMPRESS = 1)).map (fun q => zonePayload c q.2)) + (reserve : Rat) * 1000000

/-- The limit of R226. -/
def compLimit (s : State) : Rat := (enginesInService s : Rat) * 800000000

/-- Does the compressor check fail? -/
def compOver (s : State) (c : Scene) (reserve : Nat) : Bool := decide (compLimit s < compLoad c reserve)

/-! ### Checkpoints (17 R365) -/

/-- Does a zone carry zone-stitch records: has it a DC stage, or is its product PHI (17 R361, R365)? -/
def zoneStitches (v : ZView) : Bool := decide (zn v zDC_SHIFT ≠ 0) || decide (zn v zPRODUCT = 1)

/-- Checkpoint bytes B of a scene (17 R365). -/
def ckptBytes (s : State) (c : Scene) : Rat :=
  128 + sumQ ([0, 1].map (fun p =>
      let v := c.port p
      let n : Rat := planN_ v
      ifQ (!portIdleNow s p) (8 * n + (8 + 16 * planP_ v : Nat) * n / 64 +
        ifQ (decide (vn v pTGATE_ENABLE = 1)) ((64 + (if vn v pSPEC_ENABLE = 1 then 32 + 4 * planP_ v else 0) : Nat) * n / 64)))) +
    sumQ (c.zones.map (fun q => 64 + ifQ (zoneStitches q.2) (16 * (zcount q.2 : Rat) / 64)))
where
  portIdleNow (s : State) (p : Nat) : Bool := decide ((portOf s p).st = .idle)

/-- K of a link width (16 R348): none with the link down, where the cadence stays 200 µs (log 54). -/
def pairCapacity (width : Nat) : Nat := if width = 4 then 14750000000 else if width = 2 then 7370000000 else 0

/-- CKPT_PERIOD_NOW in µs (17 R365). -/
def ckptPeriod (s : State) (c : Scene) : Nat :=
  let k := pairCapacity (natP s 0x0B 0 lPL_WIDTH)
  if k = 0 then 200 else 200 * max 1 (ceilQ (ckptBytes s c / ((k : Rat) * 9 / 10 * 200 / 1000000))).toNat

/-- The P6 charge (17 R365). -/
def pairCharge (s : State) (c : Scene) : Rat :=
  if getP s 0x0B 0 lPAIR_ENABLE = 1 then 2 * ckptBytes s c * 1000000 / (ckptPeriod s c : Rat) else 0

/-! ### DRAM bandwidth (13 R288, 07 Table 07-5) -/

/-- The charge of an armed skein on P0, P1 and P2 together (07 Table 07-5). -/
def skeinCharge (c : Scene) (v : SView) : Rat :=
  if skRaw v then 10000000000 + 5 * segRate (c.port (sn v kSOURCE_KIND)) v
  else
    match c.zones.find? (fun q => q.1 = sn v kSOURCE_ZONE) with
    | some q => 6 * (skRowBytes q.2 : Rat) * fOut c q.2
    | none => 0

/-- The sum of R288: skeins that run and one more to arm, images loaded and one more to load, a P7_RESERVE. -/
def dramLoad (s : State) (c : Scene) (arm : List SView) (load : List KrnImage) (reserve : Nat) : Rat :=
  let skeins := (skeinsWith (skRuns s)).map (skview s) ++ arm
  sumQ (skeins.map (skeinCharge c)) +
    (2 * sumQ (c.zones.map (fun q => zonePayload c q.2)) + 200000000) +
    ((vendorLoad c).p4 + sumQ (((loadedSlots s).map (fun q => q.2) ++ load).map (fun i => (i.dramRate : Rat)))) +
    200000000 + pairCharge s c + (reserve : Rat) * 1000000

/-- The limit of R288 at a set point: 0.70 of the peak. -/
def dramLimit (fsp : Nat) : Rat := if fsp = 0 then 33600000000 else 16800000000

/-- Does the DRAM check fail for a scene as it stands? -/
def dramOver (s : State) (c : Scene) : Bool :=
  decide (dramLimit (natP s 0x10 0 mFSP_NOW) < dramLoad s c [] [] (natP s 0x10 0 mP7_RESERVE))

/-! ### The order of the checks (15 R330) -/

/-- The budgets after the port checks, in their order; `w` is the port or the zone that a failure names. -/
def budgetFault (s : State) (c : Scene) (w : Nat) : Option Reply :=
  if fabricOver c then some (noResource 0x0401 w)
  else match needleFault s c w with
    | some r => some r
    | none =>
      if dramOver s c then some (noResource 0x1001 w)
      else if compOver s c (natP s 0x0F 0 cHOST_RESERVE) then some (noResource 0x0F01 w)
      else none

/-- A load against its limit in 0.1 %, rounded up, 1,000 at most. -/
def permille (load limit : Rat) : Nat := if limit ≤ 0 then (if load ≤ 0 then 0 else 1000) else min 1000 (ceilQ (1000 * load / limit)).toNat

/-- The conflicts of state of a PORT_APPLY: ZONE_RANGE, DET_BAND, RAW_RATE and SKEIN_RANGE (06 R132; 07 R151, R160). -/
def planConflict (s : State) (ps : List Nat) : Option Reply :=
  let c := scenePlans s ps
  let on := fun (v : ZView) => ps.contains (zport v)
  match lowestZone c (fun v => on v && zoneBeyond c v) with
  | some z => some (badState 0x0402 z)
  | none =>
    match lowestZone c (fun v => on v && [0, 1, 2, 3].any (detBandBad c v)) with
    | some z => some (badState 0x0403 z)
    | none =>
      let raws := skeinsWith (fun k => skDefined s k && skRaw (skview s k) && ps.contains (sn (skview s k) kSOURCE_KIND))
      let w := fun (k : Nat) => c.port (sn (skview s k) kSOURCE_KIND)
      raws.findSome? (fun k =>
        let v := skview s k
        if planN_ (w k) ≤ sn v kRAW_FIRST_STITCH + sn v kRAW_STITCH_COUNT - 1 || segPlies (w k) v = 0 || preTooLong v then
          some (badState 0x0507 k)
        else if (10000000000 : Rat) < segRate (w k) v then some (badState 0x0506 k)
        else none)

end Sys2Proof.Machine
end

