-- ==== Sys2Proof/Machine/Deflate.lean ====
section
/-! DEFINITION. Machine/Deflate.lean: the codes that an engine produces for a block, and the pre-transform (10 R219 to R222,
R232). -/

namespace Sys2Proof.Machine

/-! ### Pre-transform (10 R221) -/

/-- Word q of a row of w-bit words. -/
def rowWord (w : Nat) (row : List Byte) (q : Nat) : Nat := fieldAt row (q * (w / 8)) (w / 8)

/-- Zigzag of a word difference (10 R221, step 2). -/
def zigzag (w d : Nat) : Nat := (d * 2 % 2 ^ w) ^^^ (if d.testBit (w - 1) then 2 ^ w - 1 else 0)

/-- The byte j of the plane area: bit b = w − 1 − ⌊j / g⌋ of eight words (10 R221, step 3). -/
def planeByte (w g : Nat) (us : List Nat) (j : Nat) : Byte :=
  let b := w - 1 - j / g
  BitVec.ofNat 8 (sumN ((List.range 8).map (fun i => 2 ^ (7 - i) * bitN ((nth 0 us (8 * (j % g) + i)).testBit b))))

/-- A row after the one before it (10 R221). -/
def preRow (n w : Nat) (prev row : List Byte) : List Byte :=
  let us := (List.range n).map (fun q =>
    zigzag w ((rowWord w row q + 2 ^ w - (if prev.isEmpty then 0 else rowWord w prev q)) % 2 ^ w))
  let g := n / 8
  (List.range (w * g)).map (planeByte w g us) ++ ((us.drop (8 * g)).map (leBytes (w / 8))).flatten ++ row.drop (n * w / 8)

/-- The rows of a byte list, `len` bytes each. -/
def rowsOf (len : Nat) : Nat → List Byte → List (List Byte)
  | 0, _ => []
  | n + 1, bs => bs.take len :: rowsOf len n (bs.drop len)

/-- Rows, each with its predecessor, transformed. -/
def preRows (n w : Nat) : List Byte → List (List Byte) → List Byte
  | _, [] => []
  | prev, r :: rs => preRow n w prev r ++ preRows n w r rs

/-- The pre-transform of rows of `len` bytes (10 R221); no rows, no change. -/
def preTransform (len n w : Nat) (bs : List Byte) : List Byte :=
  if len = 0 then bs else preRows n w [] (rowsOf len (bs.length / len) bs)

/-! ### Matching (10 R219) -/

/-- A literal, or a match of a length and distance. -/
inductive Tok where
  | lit (b : Nat)
  | mat (len dist : Nat)
  deriving DecidableEq, Repr

/-- The hash of the 3 bytes from position i (10 R219). -/
def lzHash (d : Array Nat) (i : Nat) : Nat :=
  ((d.getD i 0 * 1024) ^^^ (d.getD (i + 1) 0 * 32) ^^^ d.getD (i + 2) 0) % 32768

/-- A position enters the chains, where 3 bytes follow; a chain keeps its 4 most recent positions. -/
def lzEnter (d : Array Nat) (ch : Array (List Nat)) (i : Nat) : Array (List Nat) :=
  if i + 2 < d.size then ch.modify (lzHash d i) (fun l => (i :: l).take 4) else ch

/-- How many bytes from two positions agree, at most `n`. -/
def lzSame (d : Array Nat) (a b : Nat) : Nat → Nat → Nat
  | 0, k => k
  | n + 1, k => if d.getD (a + k) 0 = d.getD (b + k) 0 then lzSame d a b n (k + 1) else k

/-- The longest match at position i among its chain, the nearer of equals: length and distance (10 R219). -/
def lzBest (d : Array Nat) (ch : Array (List Nat)) (i : Nat) : Nat × Nat :=
  if d.size ≤ i + 2 then (0, 0)
  else (ch.getD (lzHash d i) []).foldl (fun (best : Nat × Nat) j =>
    if 32768 < i - j then best
    else
      let n := lzSame d j i (min 258 (d.size - i)) 0
      if best.1 < n then (n, i - j) else best) (0, 0)

/-- The tokens from position i on, newest first. -/
def lzGo (d : Array Nat) : Nat → Nat → Array (List Nat) → List Tok → List Tok
  | 0, _, _, acc => acc
  | n + 1, i, ch, acc =>
    if d.size ≤ i then acc
    else
      let m := lzBest d ch i
      if 3 ≤ m.1 then
        let ch := (List.range m.1).foldl (fun ch k => lzEnter d ch (i + k)) ch
        lzGo d n (i + m.1) ch (.mat m.1 m.2 :: acc)
      else lzGo d n (i + 1) (lzEnter d ch i) (.lit (d.getD i 0) :: acc)

/-- The tokens of a block after a window (10 R219). -/
def lzTokens (window block : List Byte) : List Tok :=
  let d := ((window ++ block).map (fun b => b.toNat)).toArray
  let ch := (List.range window.length).foldl (fun ch i => lzEnter d ch i) (Array.replicate 32768 ([] : List Nat))
  (lzGo d block.length window.length ch []).reverse

/-! ### Symbols (RFC 1951, 3.2.5) -/

/-- Least length of each length code from 257. -/
def lenBase : List Nat :=
  [3, 4, 5, 6, 7, 8, 9, 10, 11, 13, 15, 17, 19, 23, 27, 31, 35, 43, 51, 59, 67, 83, 99, 115, 131, 163, 195, 227, 258]

/-- Extra bits of each length code from 257. -/
def lenExtra : List Nat := [0, 0, 0, 0, 0, 0, 0, 0, 1, 1, 1, 1, 2, 2, 2, 2, 3, 3, 3, 3, 4, 4, 4, 4, 5, 5, 5, 5, 0]

/-- Extra bits of distance code k. -/
def distExtra (k : Nat) : Nat := if k < 4 then 0 else k / 2 - 1

/-- Least distance of distance code k. -/
def distBase (k : Nat) : Nat := if k < 4 then k + 1 else (2 + k % 2) * 2 ^ (k / 2 - 1) + 1

/-- The last index of a rising list whose value is not above `v`. -/
def lastIdx (v : Nat) (xs : List Nat) : Nat := (xs.filter (fun x => decide (x ≤ v))).length - 1

/-- Symbol, extra bits and their value of a length. -/
def lenSym (l : Nat) : Nat × Nat × Nat :=
  let k := lastIdx l lenBase
  (257 + k, nth 0 lenExtra k, l - nth 0 lenBase k)

/-- Symbol, extra bits and their value of a distance. -/
def distSym (d : Nat) : Nat × Nat × Nat :=
  let k := lastIdx d ((List.range 30).map distBase)
  (k, distExtra k, d - distBase k)

/-! ### Code lengths by package-merge (10 R219) -/

/-- A coin: weight, lowest symbol, the symbols in it. -/
structure Coin where
  weight : Nat
  low : Nat
  syms : List Nat

/-- Order of coins: by weight, ties toward the lower symbol. -/
def Coin.le (a b : Coin) : Bool := decide (a.weight < b.weight) || (decide (a.weight = b.weight) && decide (a.low ≤ b.low))

/-- Consecutive coins paired. -/
def pairCoins : List Coin → List Coin
  | a :: b :: rest => ⟨a.weight + b.weight, min a.low b.low, a.syms ++ b.syms⟩ :: pairCoins rest
  | _ => []

/-- `n` rounds of packaging and merging. -/
def packageRounds (items : List Coin) : Nat → List Coin → List Coin
  | 0, cur => cur
  | n + 1, cur => packageRounds items n (List.merge items (pairCoins cur) Coin.le)

/-- Code lengths of at most `most` bits for symbols of given frequencies. -/
def codeLengths (most : Nat) (freqs : List Nat) : List Nat :=
  let items := ((List.range freqs.length).filter (fun i => decide (nth 0 freqs i ≠ 0))).map (fun i => (⟨nth 0 freqs i, i, [i]⟩ : Coin))
  let items := items.mergeSort Coin.le
  match items with
  | [] => freqs.map (fun _ => 0)
  | [one] => (List.range freqs.length).map (fun i => bitN (decide (i = one.low)))
  | _ =>
    let chosen := (packageRounds items (most - 1) items).take (2 * items.length - 2)
    let counts := (chosen.map (fun c => c.syms)).flatten.foldl (fun (a : Array Nat) i => a.modify i (· + 1))
      (Array.replicate freqs.length 0)
    counts.toList

/-- The first code of each length (RFC 1951, 3.2.2). -/
def firstCodes (lens : List Nat) : Nat → Nat × List Nat
  | 0 => (0, [0])
  | n + 1 =>
    let p := firstCodes lens n
    let count := if n = 0 then 0 else (lens.filter (fun l => decide (l = n))).length
    let c := (p.1 + count) * 2
    (c, p.2 ++ [c])

/-- The code of each symbol, in order. -/
def assignCodes : List Nat → List Nat → List Nat
  | _, [] => []
  | next, l :: ls => nth 0 next l :: assignCodes (setNth next l (nth 0 next l + 1)) ls

/-- The canonical codes of code lengths. -/
def canonCodes (lens : List Nat) : Array (Nat × Nat) :=
  (lens.zip (assignCodes (firstCodes lens 15).2 lens)).toArray

/-- A Huffman code's bits, most significant first. -/
def huffBits (l c : Nat) : List Bool := (List.range l).map (fun i => c.testBit (l - 1 - i))

/-- A field's bits, least significant first. -/
def lsbBits (n v : Nat) : List Bool := (List.range n).map (fun i => v.testBit i)

/-- The bits of a symbol. -/
def symBits (t : Array (Nat × Nat)) (s : Nat) : List Bool :=
  let e := t.getD s (0, 0)
  huffBits e.1 e.2

/-! ### The header of a dynamic block (RFC 1951, 3.2.7) -/

/-- A list of (symbol, extra value) read as code lengths: 16 repeats the one before, 17 and 18 are zeros. -/
def runExpand : Option Nat → List (Nat × Nat) → Option (List Nat)
  | _, [] => some []
  | prev, (s, x) :: rs =>
    if s < 16 then (runExpand (some s) rs).map (fun l => s :: l)
    else if s = 16 ∧ x < 4 then
      (match prev with
      | some p => (runExpand prev rs).map (fun l => List.replicate (3 + x) p ++ l)
      | none => none)
    else if s = 17 ∧ x < 8 then (runExpand (some 0) rs).map (fun l => List.replicate (3 + x) 0 ++ l)
    else if s = 18 ∧ x < 128 then (runExpand (some 0) rs).map (fun l => List.replicate (11 + x) 0 ++ l)
    else none

/-- How the code lengths are run-coded is left open: any coding that reads back as them (log 75). -/
def runCoding (lens : List Nat) : List (Nat × Nat) :=
  let c := Config.codeRuns lens
  if runExpand none c = some lens then c else lens.map (fun l => (l, 0))

/-- Extra bits of a code-length symbol. -/
def runExtra (s : Nat) : Nat := if s = 16 then 2 else if s = 17 then 3 else if s = 18 then 7 else 0

/-- The order in which lengths of the code-length code are sent. -/
def clOrder : List Nat := [16, 17, 18, 0, 8, 7, 9, 6, 10, 5, 11, 4, 12, 3, 13, 2, 14, 1, 15]

/-- One more than the index of the last nonzero element, at least `m`. -/
def usedLen (m : Nat) (xs : List Nat) : Nat :=
  max m (((List.range xs.length).filter (fun i => decide (nth 0 xs i ≠ 0))).foldl (fun a i => max a (i + 1)) 0)

/-- How often each of `n` symbols occurs. -/
def freqsOf (n : Nat) (xs : List Nat) : List Nat :=
  (xs.foldl (fun (a : Array Nat) i => a.modify i (· + 1)) (Array.replicate n 0)).toList

/-- A code that covers no input. -/
def plain (bits : List Bool) : Code := ⟨bits, 0, false⟩

/-- The symbols that tokens use: literals and lengths with the end of block, and distances. -/
def tokSyms (ts : List Tok) : List Nat × List Nat :=
  (ts.map (fun t => match t with
    | .lit b => b
    | .mat l _ => (lenSym l).1) ++ [256],
   ts.filterMap (fun t => match t with
    | .lit _ => none
    | .mat _ d => some (distSym d).1))

/-- The codes of a token. -/
def tokCodes (lt dt : Array (Nat × Nat)) (t : Tok) : List Code :=
  match t with
  | .lit b => [⟨symBits lt b, 1, false⟩]
  | .mat l d =>
    let x := lenSym l
    let y := distSym d
    [plain (symBits lt x.1 ++ lsbBits x.2.1 x.2.2), ⟨symBits dt y.1 ++ lsbBits y.2.1 y.2.2, l, false⟩]

/-- The codes of a block with dynamic Huffman codes (10 R219). -/
def dynamicCodes (window block : List Byte) (final : Bool) : List Code :=
  let ts := lzTokens window block
  let sy := tokSyms ts
  let ll := codeLengths 15 (freqsOf 286 sy.1)
  let dl := codeLengths 15 (freqsOf 30 sy.2)
  let hlit := usedLen 257 ll
  let hdist := usedLen 1 dl
  let runs := runCoding (ll.take hlit ++ dl.take hdist)
  let cl := codeLengths 7 (freqsOf 19 (runs.map (fun r => r.1)))
  let sent := clOrder.map (fun s => nth 0 cl s)
  let hclen := usedLen 4 sent
  let ct := canonCodes cl
  let lt := canonCodes ll
  [plain [final, false, true], plain (lsbBits 5 (hlit - 257)), plain (lsbBits 5 (hdist - 1)), plain (lsbBits 4 (hclen - 4))] ++
    (sent.take hclen).map (fun l => plain (lsbBits 3 l)) ++
    runs.map (fun r => plain (symBits ct r.1 ++ lsbBits (runExtra r.1) r.2)) ++
    (ts.map (tokCodes lt (canonCodes dl))).flatten ++ [plain (symBits lt 256)]

/-! ### Stored blocks, wrapper, bytes (10 R220, R232; RFC 1950) -/

/-- The codes of a stored block of at most 65,535 bytes. -/
def storedBlock (block : List Byte) (final : Bool) : List Code :=
  ⟨[final, false, false], 0, true⟩ :: plain (lsbBits 16 block.length ++ lsbBits 16 (65535 - block.length)) ::
    block.map (fun b => ⟨lsbBits 8 b.toNat, 1, false⟩)

/-- Stored blocks for any input: at least one. -/
def storedCodes : Nat → List Byte → Bool → List Code
  | 0, bs, final => storedBlock bs final
  | n + 1, bs, final =>
    if bs.length ≤ 65535 then storedBlock bs final
    else storedBlock (bs.take 65535) false ++ storedCodes n (bs.drop 65535) final

/-- The zlib header (10 R220). -/
def zlibHead : List Code := [plain (lsbBits 8 0x78), plain (lsbBits 8 0x01)]

/-- The end of a stream: the byte in progress is filled, and in a wrapper the Adler-32 follows, big-endian (10 R220). -/
def streamTail (format adler : Nat) : List Code :=
  ⟨[], 0, true⟩ :: (if format = 0 then [] else (beBytes 4 adler).map (fun b => plain (lsbBits 8 b.toNat)))

/-- The bits of codes after `pending` bits of a byte. -/
def codesBits : List Code → Nat → List Bool
  | [], _ => []
  | c :: cs, off =>
    let n := off + c.bits.length
    let pad := if c.align then (8 - n % 8) % 8 else 0
    c.bits ++ List.replicate pad false ++ codesBits cs ((n + pad) % 8)

/-- A byte of at most eight bits, the first lowest. -/
def byteOf (bs : List Bool) : Nat := bs.foldr (fun b a => bitN b + 2 * a) 0

/-- Bits as bytes, the last filled with zeros; `n` is at least the number of bytes. -/
def bitsBytes : Nat → List Bool → List Byte
  | 0, _ => []
  | n + 1, bs => if bs.isEmpty then [] else BitVec.ofNat 8 (byteOf (bs.take 8)) :: bitsBytes n (bs.drop 8)

/-- The compressed form of a zone frame's payload in a ZFORMAT (10 R222, R232). -/
def frameStream (format : Nat) (payload : List Byte) : List Byte :=
  let body := if format = 2 then storedCodes 2 payload true else dynamicCodes [] payload true
  let cs := (if format = 0 then [] else zlibHead) ++ body ++ streamTail format (adler32 payload)
  let bits := codesBits cs 0
  bitsBytes (bits.length / 8 + 1) bits

end Sys2Proof.Machine
end

