-- ==== Sys2Proof/Machine/CompOps.lean ====
section
/-! DEFINITION. Machine/CompOps.lean: the operations over engines, zone frames and host jobs that other chapters share (10). -/

namespace Sys2Proof.Machine

/-! ### Engines and their queue (10 R218) -/

/-- An engine. -/
def engineOf (s : State) (e : Nat) : Engine := kget engineReset s.comp.engines e

/-- The state with an engine replaced. -/
def setEngine (s : State) (e : Nat) (x : Engine) : State :=
  { s with comp := { s.comp with engines := kput engineReset s.comp.engines e x } }

/-- Input bytes of an engine's block: a job's next block, or a frame (10 R219, R228, R232). -/
def blockLen (format : Nat) : Nat := if format = 2 then 65535 else 65536

/-- The bytes that a job's next block takes. -/
def jobBlock (j : HostJob) : Nat := if j.codes.isEmpty then min j.rest.length (blockLen j.format) else 0

/-- Does an engine run a job of a stream? -/
def streamBusy (s : State) (n : Nat) : Bool :=
  (List.range 9).any (fun e => match (engineOf s e).work with
    | .job j => decide (j.stream = some n)
    | _ => false) || s.comp.suspended.any (fun j => decide (j.stream = some n))

/-- May a waiting job take an engine now: its stream's parts run one at a time, in order (10 R218, R231)? -/
def jobReady (s : State) (j : HostJob) : Bool :=
  match j.stream with
  | none => true
  | some n => !streamBusy s n && !s.comp.jobs.any (fun k => decide (k.stream = some n) && decide (k.order < j.order))

/-- Host input of the last 1 ms (10 R218). -/
def recentHost (s : State) : Nat :=
  sumN ((s.comp.recent.filter (fun q => decide (nowClk s ≤ q.2 + msTicks))).map (fun q => q.1))

/-- Do host jobs have less than HOST_RESERVE of the last 1 ms (10 R218; log 76)? -/
def hostStarved (s : State) : Bool := decide (recentHost s < natP s 0x0F 0 cHOST_RESERVE * 1000)

/-- SCLK ticks in which an engine takes in bytes, 1.0 × 10⁹ a second (10 R218). -/
def engineTicks (bytes : Nat) : Nat := ceilDiv (bytes * 5) 4

/-- A later part of a stream goes on from where the stream stands when the part starts. -/
def joinStream (j : HostJob) (x : HostStream) : HostJob :=
  { j with
    rest := x.openBlock ++ j.rest, base := x.input, consumed := x.consumed, mark := x.input, window := x.window
    partBits := x.partBits, total := x.total, sumA := x.sumA, sumB := x.sumB, begun := x.begun }

/-- A job as it starts: a part of an open stream goes on from it, once (10 R231). -/
def jobStarts (s : State) (j : HostJob) : HostJob :=
  match j.stream with
  | none => j
  | some n =>
    if j.joined then j
    else match kget streamNone s.comp.streams n with
      | .opened x => { joinStream j x with joined := true }
      | _ => { j with joined := true }

/-- A job takes an engine. -/
def giveJob (s : State) (e : Nat) (j : HostJob) : State :=
  let j := jobStarts s j
  let n := jobBlock j
  let s := setEngine s e ⟨.inService, .job j, nowClk s + engineTicks n⟩
  { s with comp := { s.comp with
      jobs := s.comp.jobs.filter (fun k => !decide (k.order = j.order))
      recent := s.comp.recent.filter (fun q => decide (nowClk s ≤ q.2 + msTicks)) ++ [(n, nowClk s)] } }

/-- A free engine takes the next work: a job that is starved of its reserve, the oldest zone frame, a job (10 R218). -/
def giveWork (s : State) (e : Nat) : State :=
  let job := s.comp.jobs.find? (jobReady s)
  match job, s.comp.waiting with
  | some j, f :: fs =>
    if hostStarved s then giveJob s e j
    else setEngine { s with comp := { s.comp with waiting := fs } } e ⟨.inService, .zone f, nowClk s + engineTicks f.frame.payload.length⟩
  | some j, [] => giveJob s e j
  | none, f :: fs =>
    setEngine { s with comp := { s.comp with waiting := fs } } e ⟨.inService, .zone f, nowClk s + engineTicks f.frame.payload.length⟩
  | none, [] => s

/-- Every free engine in service takes work. -/
def compAssign (s : State) : State :=
  (List.range 9).foldl (fun s e =>
    let x := engineOf s e
    if x.st = .inService ∧ x.work = .idle then giveWork s e else s) s

/-- Payload bytes of the zone frames that wait. -/
def backlog (s : State) : Nat := sumN (s.comp.waiting.map (fun f => f.frame.payload.length))

/-- The oldest waiting frames go out uncompressed until the backlog is below a limit (10 R235). -/
def bypassTo (limit : Nat) : Nat → State → State
  | 0, s => s
  | n + 1, s =>
    if backlog s < limit then s
    else match s.comp.waiting with
      | [] => s
      | f :: fs =>
        let s := queueZone { s with comp := { s.comp with waiting := fs } } f.frame.zone f.frame
        let s := quietIn (detect (bumpP s 0x0F 0 cBYPASS_FRAMES) { raiseBlank 58 with zone := f.frame.zone }) 58 secTicks
        bypassTo limit n s

/-- BYPASS_BACKLOG in bytes; the item counts MiB (10 R235). -/
def bypassBytes (s : State) : Nat := natP s 0x0F 0 cBYPASS_BACKLOG * 1048576

/-- A backlog above a limit is shed to below half of it (10 R235). -/
def bypassPast (limit : Nat) (s : State) : State :=
  if limit < backlog s then bypassTo (limit / 2) s.comp.waiting.length s else s

/-- The compressor after its queues have changed: engines take work, and a backlog above BYPASS_BACKLOG is shed (10 R218,
R235). -/
def compKick (s : State) : State := bypassPast (bypassBytes s) (compAssign s)

/-! ### Writing a job's output (10 R229, R230) -/

/-- How far the writing of codes went: all of them, no room, or the job has not shrunk. -/
inductive WriteEnd where
  | all
  | full
  | notShrunk
  deriving DecidableEq, Repr

/-- The writing of codes in progress: the codes left, the bits of the byte in progress, whole bytes so far (newest first) and
how many, input bytes covered. -/
structure Writing where
  left : List Code
  bits : List Bool
  out : List Byte
  n : Nat
  covered : Nat
  stop : WriteEnd

/-- Whole bytes of a bit list, the newest first on top of `out`, and the bits left over. -/
def takeBytes : Nat → List Bool → List Byte → List Byte × List Bool
  | 0, bs, out => (out, bs)
  | n + 1, bs, out =>
    if bs.length < 8 then (out, bs) else takeBytes n (bs.drop 8) (BitVec.ofNat 8 (byteOf (bs.take 8)) :: out)

/-- Codes are written while each fits whole in `room` bytes; `most` is the output at which a job has not shrunk (10 R229,
R230). -/
def writeCodes (room : Nat) (most : Option Nat) : List Code → Writing → Writing
  | [], w => { w with left := [], stop := .all }
  | c :: cs, w =>
    let bits := w.bits ++ c.bits
    let bits := if c.align then bits ++ List.replicate ((8 - bits.length % 8) % 8) false else bits
    if room < w.n + (bits.length + 7) / 8 then { w with left := c :: cs, stop := .full }
    else
      let k := bits.length / 8
      let r := takeBytes k bits w.out
      let w : Writing := ⟨cs, r.2, r.1, w.n + k, w.covered + c.covers, .all⟩
      match most with
      | some m => if m ≤ w.n then { w with stop := .notShrunk } else writeCodes room most cs w
      | none => writeCodes room most cs w

/-- Output bytes of a job in memory: DST first, then the overflow buffer (10 R230). -/
def jobMem (m : Memory) (j : HostJob) (bs : List Byte) : Memory :=
  let done := j.dstOut + j.ovfOut
  let inDst := bs.take (j.dstLen - done)
  let m := memWrite m (j.dst + done) inDst
  memWrite m (j.ovf + (done - j.dstLen)) (bs.drop (j.dstLen - done))

/-- A job with `n` more bytes written. -/
def jobWrote (j : HostJob) (n : Nat) : HostJob :=
  let done := j.dstOut + j.ovfOut + n
  { j with dstOut := min done j.dstLen, ovfOut := done - j.dstLen, total := j.total + n }

/-! ### Completion records (10 R233) -/

/-- The 32 bytes of a completion record (10 Table 10-2). -/
def complRecord (format status field tag total consumed dstOut ovfOut crc : Nat) : List Byte :=
  leBytes 2 0x4343 ++ zeros 2 ++ leBytes 1 format ++ leBytes 1 status ++ leBytes 2 field ++ leBytes 4 tag ++ leBytes 4 total ++
    leBytes 4 consumed ++ leBytes 4 dstOut ++ leBytes 4 ovfOut ++ leBytes 4 crc

/-- Input bytes of this part that a descriptor or resume consumed, given the input count up to which it got. -/
def consumedHere (j : HostJob) (upTo : Nat) : List Byte := (j.src.take (upTo - j.base)).drop (j.mark - j.base)

/-- A job's completion record goes to host memory; all but PARTIAL count (10 R233, Table 10-4). -/
def jobCompletion (s : State) (j : HostJob) (status upTo : Nat) : State :=
  let rec_ := complRecord j.format status 0 j.tag j.total upTo j.dstOut j.ovfOut (crc32c (consumedHere j upTo))
  let s := { s with link := { s.link with hostMem := memWrite s.link.hostMem j.compl rec_ } }
  if status = 0x0D then s else bumpP s 0x0F 0 cJOBS_DONE

/-! ### Aborts (14 R312, R313) -/

/-- Every host job ends ABORTED and nothing is kept (14 R313). -/
def abortJobs (s : State) : State :=
  let running := (List.range 9).filterMap (fun e => match (engineOf s e).work with
    | .job j => some j
    | _ => none)
  let s := (running ++ s.comp.jobs ++ s.comp.suspended).foldl (fun s j => jobCompletion s j stAborted j.consumed) s
  let s := (List.range 9).foldl (fun s e =>
    let x := engineOf s e
    match x.work with
    | .job _ => setEngine s e { x with work := .idle }
    | _ => s) s
  compAssign { s with comp := { s.comp with jobs := [], suspended := [], streams := [] } }

/-! ### Once a second (10 Table 10-4) -/

/-- ZRATIO of every zone for the second that has ended. -/
def compSecond (s : State) : State :=
  let zs := (s.comp.ratioIn.map (fun q => q.1)) ++ ((List.range 128).filter (fun z => decide (getP s 0x0F z cZRATIO ≠ 0)))
  let s := zs.foldl (fun s z =>
    let n := kget (fun _ => 0) s.comp.ratioIn z
    setP s 0x0F z cZRATIO (if n = 0 then 0 else (roundDiv (1000 * kget (fun _ => 0) s.comp.ratioOut z) n : Nat))) s
  { s with comp := { s.comp with ratioIn := [], ratioOut := [] } }

end Sys2Proof.Machine
end

