-- ==== Sys2Proof/Machine/Rings.lean ====
section
/-! DEFINITION. Machine/Rings.lean: how a ring starts and stops (14 R303, Table 14-11). -/

namespace Sys2Proof.Machine

/-- Is SIZE_LOG2 in range (14 Table 14-6)? -/
def sizeOk (r size : Nat) : Bool :=
  if r < 132 then decide (16 ≤ size) && decide (size ≤ 30) else decide (10 ≤ size) && decide (size ≤ 18)

/-- A ring that is enabled again ends its part of sources 83 and 84, which clear when no other ring has one (14 Table 14-11). -/
def clearDmaSources (s : State) (r : Nat) : State :=
  let was := (ringOf s r).faults
  let s := setRing s r { ringOf s r with faults := [] }
  was.foldl (fun s src => if (List.range 136).any (fun q => (ringOf s q).faults.contains src) then s else clearIf s src) s

/-- A ring starts: PROD, CONS and DROPPED zero, status block, RUNNING; ERROR 3 for a bad size (14 R303). -/
def ringStart (s : State) (r : Nat) : State :=
  let x := ringOf s r
  if !sizeOk r x.size then clearDmaSources (setRing s r { x with enable := true, st := .error, error := 3 }) r
  else
    let s := setRing s r { x with
      enable := true, st := .running, error := 0, prod := 0, cons := 0, dropped := 0, seq := 0, unannounced := 0,
      modAt := none, ends := [] }
    clearDmaSources (writeStatus s r) r

/-- A STOPPING ring with nothing in progress writes its status block and is DISABLED, and starts if ENABLE has been written 1 meanwhile
(14 R303; log 192). -/
def settleRing (s : State) (r : Nat) (works : Bool) : State :=
  let x := ringOf s r
  if x.st ≠ .stopping || works then s
  else
    let s := setRing (writeStatus s r) r { x with st := .disabled, error := 0, unannounced := 0, modAt := none }
    if x.enable then ringStart s r else s

end Sys2Proof.Machine
end

