-- ==== Sys2Proof/Machine/NeedleOps.lean ====
section
/-! DEFINITION. Machine/NeedleOps.lean: the operations over Needle cores and user slots that other chapters share: cores in
use, kernel images and rings, the delivery of rows, traps and core faults (09). -/

namespace Sys2Proof.Machine

/-! ### Cores -/

/-- A core. -/
def coreOf (s : State) (c : Nat) : Core := kget coreBlank s.needle.cores c

/-- The state with a core replaced. -/
def setCore (s : State) (c : Nat) (k : Core) : State :=
  { s with needle := { s.needle with cores := kput coreBlank s.needle.cores c k } }

/-- The state with a core changed by a function. -/
def modCore (s : State) (c : Nat) (f : Core → Core) : State := setCore s c (f (coreOf s c))

/-- The state with what a core does replaced. -/
def setUse (s : State) (c : Nat) (u : CoreUse) : State :=
  { s with needle := { s.needle with use := kput coreUseReset s.needle.use c u } }

/-- The state with a user slot replaced. -/
def setKrn (s : State) (n : Nat) (x : UserSlot) : State :=
  { s with needle := { s.needle with slots := kput userBlank s.needle.slots n x } }

/-- The state with a user slot changed by a function. -/
def modKrn (s : State) (n : Nat) (f : UserSlot → UserSlot) : State := setKrn s n (f (krnOf s n))

/-- Is it an X-core (09 Table 09-1; log 53)? -/
def isX (c : Nat) : Bool := decide (64 ≤ c)

/-- Does a slot's kernel run: RUNNING, SHADOW, or LOADING beside a running kernel (09 Table 09-13)? -/
def krnRuns (x : UserSlot) : Bool :=
  decide (x.st = .running) || decide (x.st = .shadow) || (decide (x.st = .loading) && decide (x.before = .running))

/-- Does a core execute instructions now? -/
def coreRuns (s : State) (c : Nat) : Bool :=
  decide (c < 68) && !(coreOf s c).halted &&
    (match coreUse s c with
    | .vendor => s.boot.fwRuns
    | .user n => krnRuns (krnOf s n) && decide ((krnOf s n).core = some c)
    | _ => false)

/-- The X-cores in service. -/
def xInService (s : State) : Nat := ((List.range 4).filter (fun c => inService (coreUse s (64 + c)))).length

/-- The free spare X-cores. -/
def xSpares (s : State) : List Nat :=
  ((List.range 4).map (64 + ·)).filter (fun c =>
    decide (coreUse s c = .spare) && !s.needle.faults.any (fun f => f.spare = some c))

/-- The vendor pool: in-service N-cores that are no user core, in order (09 R204). -/
def vendorPool (s : State) : List Nat := (List.range 64).filter (fun c => decide (coreUse s c = .vendor))

/-! ### Images and rings (09 R208 to R211) -/

/-- The next multiple of 16. -/
def pad16 (n : Nat) : Nat := (n + 15) / 16 * 16

/-- Start of the kernel data region, and the end of data, rings and stack (09 Table 09-4). -/
abbrev krnData : Nat := 0x10000
/-- Start of the runtime data: the stream descriptors. -/
abbrev krnRuntime : Nat := 0x2E000
/-- Start of the carry-over area. -/
abbrev krnCarry : Nat := 0x2F000

/-- Where each part of an image's data layout begins: the four rings, the output ring, the free space (09 R209). -/
def krnLayout (i : KrnImage) : List Nat × Nat × Nat :=
  let r0 := krnData + pad16 (pad16 i.data.length + i.bss)
  let size := fun (q : Nat × Nat × Nat) => if q.1 = 1 then q.2.2 * 1024 else 0
  let at_ := fun (n : Nat) => r0 + sumN ((i.subs.take n).map size)
  ([at_ 0, at_ 1, at_ 2, at_ 3], at_ 4, at_ 4 + i.outRingKib * 1024)

/-- The descriptor of a ring in the runtime data (09 Table 09-12). -/
def ringDesc (m : Memory) (i base bytes wr rd row rate : Nat) : Memory :=
  memWrite m (krnRuntime + 32 * i)
    (leBytes 4 base ++ leBytes 4 bytes ++ leBytes 4 wr ++ leBytes 4 rd ++ leBytes 4 row ++ leBytes 4 rate ++ zeros 8)

/-- The descriptor of subscription i brought up to date. -/
def subDesc (m : Memory) (i : Nat) (r : SubRing) : Memory := ringDesc m i r.base r.bytes r.wr r.rd r.rowBytes r.rate

/-- The size of a delivered row of a zone: header, body, padding (09 R210). -/
def krnRowBytes (v : ZView) : Nat := 16 + pad16 (rowSize v (zcount v))

/-- The rings of an image's subscriptions, empty (09 R210). -/
def subRings (s : State) (i : KrnImage) : List SubRing :=
  let c := sceneNow s
  (i.subs.zip (krnLayout i).1).map (fun (q : (Nat × Nat × Nat) × Nat) =>
    let on := decide (q.1.1 = 1)
    { kind := q.1.1, zone := q.1.2.1, base := q.2, bytes := if on then q.1.2.2 * 1024 else 0
      rowBytes := if on then krnRowBytes (zview s q.1.2.1) else 0
      rate := if on then (roundQ (subRate c q.1.2.1 * 1000)).toNat else 0
      rd := 0, wr := 0, off := 0, lens := [], seq := 0 })

/-- The descriptors of a kernel's rings. -/
def writeDescs (m : Memory) (subs : List SubRing) (outBase outBytes : Nat) : Memory :=
  let m := (subs.zip [0, 1, 2, 3]).foldl (fun m (q : SubRing × Nat) => subDesc m q.2 q.1) m
  ringDesc m 4 outBase outBytes 0 0 0 0

/-- Bytes of a memory from an address up, all zero or written as given; what lay there goes (09 R209, R213). -/
def memFill (m : Memory) (a n : Nat) (bs : List Byte) : Memory :=
  memWrite (kfilter (fun k => decide (k < a) || decide (a + n ≤ k)) m) a bs

/-- A core's memory with an image in place: program, initialised data, zeroed data (09 R209); the rest is left. -/
def placeImage (m : Memory) (i : KrnImage) : Memory :=
  let m := memFill m 0 0x7800 i.prog
  memFill m krnData (pad16 i.data.length + i.bss) i.data

/-- A core that starts at an image's entry: every register zero but A7 (09 R193). -/
def startedCore (s : State) (k : Core) (i : KrnImage) (subs : List SubRing) : Core :=
  let lay := krnLayout i
  { coreBlank 0 with
    a := kput (fun _ => 0) [] 7 0x2E000
    pc := i.entry
    startClk := nowClk s
    mem := writeDescs k.mem subs lay.2.1 (i.outRingKib * 1024) }

/-- A slot's kernel starts on a core with its data initialised and its rings empty (09 R213 to R215). -/
def startKernel (s : State) (n c : Nat) (i : KrnImage) : State :=
  let subs := subRings s i
  let k := coreOf s c
  let s := setCore s c (startedCore s { k with mem := placeImage k.mem i } i subs)
  modKrn s n (fun x => { x with
    subs := subs, outBase := (krnLayout i).2.1, outBytes := i.outRingKib * 1024, outOff := 0, outWr := 0, outRd := 0 })

/-! ### Rows to kernels (09 R210, R214) -/

/-- A row of a slot has not reached its kernel: counted, source 54 (09 R210, R216). -/
def krnDrop (s : State) (n count : Nat) : State :=
  if count = 0 then s
  else quietIn (detect (addP s 0x0C n nKRN_DROPPED count) { raiseBlank 54 with ins := n }) 54 secTicks

/-- Bytes written into a kernel's ring, wrapping at its end (09 R210). -/
def ringPut (m : Memory) (base bytes off : Nat) (bs : List Byte) : Memory :=
  memWrite (memWrite m (base + off) (bs.take (bytes - off))) base (bs.drop (bytes - off))

/-- A row goes into ring i of a core, or is dropped; `shadow` names the rings of a swap's new core (09 R210, R214). -/
def ringRow (s : State) (n i : Nat) (shadow : Bool) (label : Nat) (body : List Byte) : State :=
  let x := krnOf s n
  let subs := if shadow then x.nextSubs else x.subs
  match subs[i]?, (if shadow then x.shadowCore else x.core) with
  | some r, some c =>
    let bs := tsBytes label ++ leBytes 4 r.seq ++ body
    let bs := bs ++ zeros (pad16 bs.length - bs.length)
    let ok := decide (coreUse s c = if shadow then .shadow n else .user n) && decide (sumN r.lens + bs.length ≤ r.bytes)
    let r' : SubRing :=
      if ok then { r with
        wr := r.wr + 1, off := (r.off + bs.length) % r.bytes, lens := r.lens ++ [bs.length], rowBytes := bs.length
        seq := (r.seq + 1) % 2 ^ 32 }
      else { r with seq := (r.seq + 1) % 2 ^ 32 }
    let s := setKrn s n (if shadow then { x with nextSubs := setNth subs i r' } else { x with subs := setNth subs i r' })
    if ok then
      modCore s c (fun k => { k with mem := subDesc (ringPut k.mem r.base r.bytes r.off bs) i r' })
    else krnDrop s n 1
  | _, _ => s

/-- A subscription's next row goes to a swap's new core: subscription 0 from the acceptance on, the others once the old
core has halted (09 R214). -/
def toShadow (s : State) (x : UserSlot) (i : Nat) : Bool :=
  x.swap.isSome && (decide (i = 0) || (match x.core with
    | some c => (coreOf s c).halted
    | none => true))

/-- Has a kernel that is to stop reached its row boundary (09 R213)? -/
def krnStopped (s : State) (x : UserSlot) : Bool :=
  x.stopping && (match x.core with
    | some c => (coreOf s c).halted
    | none => true)

/-- A row of a zone reaches the kernels that subscribe to it (09 R210: KRN_ROW_DELIVER). -/
def kernelsRow (s : State) (z : Nat) (r : ZRow) : State :=
  let body := rowBytes (zview s z) r.vals
  (List.range 16).foldl (fun s n =>
    if !krnRuns (krnOf s n) || krnStopped s (krnOf s n) then s
    else
      [0, 1, 2, 3].foldl (fun s i =>
        let x := krnOf s n
        let sh := toShadow s x i
        match (if sh then x.nextSubs else x.subs)[i]? with
        | some q => if q.kind = 1 ∧ q.zone = z then ringRow s n i sh r.label body else s
        | none => s) s) s

/-! ### Spares, core faults and traps (09 R202, R211, R215) -/

/-- KRN_LOADs in progress: each holds a descriptor of H2C ring 1 that CONS has not passed (14 R308). -/
def krnLoads (s : State) : Nat := ((List.range 16).filter (fun n => decide ((krnOf s n).st = .loading))).length

/-- A slot's shadow is discarded: its core returns to the spares, a KRN_LOAD or KRN_START that waits ends ABORTED (09 R213,
R215), and a load's descriptor is behind CONS (14 R308). -/
def dropShadow (s : State) (n : Nat) : State :=
  let x := krnOf s n
  let s := match x.shadowCore with
    | some c => if coreUse s c = .shadow n then setUse s c .spare else s
    | none => s
  let s := if x.st = .loading then takeDescriptor s 1 else s
  let s := modKrn s n (fun x => { x with
    shadowCore := none, next := none, nextSubs := [], swap := none, testEnd := none
    st := if x.st = .shadow then .running else if x.st = .loading then x.before else x.st })
  let s := settleRing s 133 (decide (krnLoads s ≠ 0))
  complete (complete s (.krnLoad n) (statusOnly stAborted)) (.krnStart n) (statusOnly stAborted)

/-- Is a kernel running on a core? -/
def kernelOn (s : State) (u : CoreUse) : Bool :=
  match u with
  | .user n => krnRuns (krnOf s n)
  | _ => false

/-- A core fault has its cause now; NEEDLE_CORE_FAULT declares it (09 R215). -/
def coreFault (s : State) (c : Nat) : State :=
  let u := coreUse s c
  let pool := vendorPool s
  if s.needle.faults.any (fun f => f.core = c) || decide (u = .failed) then s
  else
    let s := modCore s c (fun k => { k with halted := true })
    { s with needle := { s.needle with faults := s.needle.faults ++
      [⟨c, nowClk s, u, kernelOn s u, ((pool.filter (fun d => decide (d < c))).length, pool.length), false, none⟩] } }

/-- A slot's kernel traps: cause and program counter, source 52, TRAPPED; a shadow is discarded and what waits for the slot
ends ABORTED (09 R211, R213; log 61). -/
def krnTrap (s : State) (n cause pc : Nat) : State :=
  let s := setP (setP s 0x0C n nTRAP_CAUSE cause) 0x0C n nTRAP_PC (wrapS 32 pc)
  let s := detect s { raiseBlank 52 with ins := n, d0 := cause, d1 := pc }
  let s := dropShadow s n
  let s := modKrn s n (fun x => { x with st := .trapped, stopping := false })
  complete s (.krnStop n) (statusOnly stAborted)

/-- A core traps and halts at the faulting instruction: a user core's slot is TRAPPED, a vendor core has a core fault (09
R202, R211). -/
def coreTrap (s : State) (c cause : Nat) : State :=
  let pc := (coreOf s c).pc
  let s := modCore s c (fun k => { k with halted := true })
  match coreUse s c with
  | .user n => krnTrap s n cause pc
  | .vendor => coreFault s c
  | _ => s

/-! ### Statistics (09 Table 09-7; 14 R304) -/

/-- A sample enters the statistics of its stitch; the counts are of FADED, SPAN, CLIP and INTERP (04 Tables 04-2, 04-3). -/
def statAdd (a : StatAcc) (dphi amp : Int) (qual : Nat) : StatAcc :=
  let why := fun (r : Nat) => bitN (qual.testBit 4 && decide (qual % 8 = r))
  { n := a.n + 1, amp := a.amp + amp, ampSq := a.ampSq + (amp * amp).toNat, dphi := a.dphi + dphi
    dphiSq := a.dphiSq + (dphi * dphi).toNat
    faded := a.faded + why 3, span := a.span + why 1, clip := a.clip + why 2, interp := a.interp + bitN (qual.testBit 3) }

/-- The statistics of a port. -/
def statsOf (s : State) (p : Nat) : PortStats := kget statsNone s.needle.stats p

/-- The state with a port's statistics replaced. -/
def setStats (s : State) (p : Nat) (x : PortStats) : State :=
  { s with needle := { s.needle with stats := kput statsNone s.needle.stats p x } }

/-- A row of the phase engine enters the statistics of its port (09 R204). -/
def statsTake (s : State) (p : Nat) (r : PhaseRow) : State :=
  let x := statsOf s p
  let sec := if x.acc.isEmpty then tickOf r.tL / secTicks else x.sec
  let acc := (List.range r.amp.length).map (fun i =>
    statAdd (nth statNone x.acc i) (nth 0 r.dphi i) (nth 0 r.amp i) (nth 0x10 r.qual i))
  setStats s p ⟨acc, sec⟩

end Sys2Proof.Machine
end

