-- ==== Sys2Proof/Machine/MemOps.lean ====
section
/-! DEFINITION. Machine/MemOps.lean: the memory controller's channels, banks, arbitration and refresh (13 R286 to R293). -/

namespace Sys2Proof.Machine

/-- A channel's record. -/
def chanOf (s : State) (c : Nat) : MemChan := kget memChanBlank s.mem.chans c

/-- The state with a channel's record changed. -/
def modChan (s : State) (c : Nat) (f : MemChan → MemChan) : State :=
  { s with mem := { s.mem with chans := kmod memChanBlank s.mem.chans c f } }

/-- The key of a bank on its channel. -/
def bankKey (rank bank : Nat) : Nat := rank % 2 * 16 + bank % 16

/-- A bank's record. -/
def bankOf (s : State) (c rank bank : Nat) : MemBank := kget bankClosed (chanOf s c).banks (bankKey rank bank)

/-- The state with a bank's record changed. -/
def modBank (s : State) (c rank bank : Nat) (f : MemBank → MemBank) : State :=
  modChan s c (fun x => { x with banks := kmod bankClosed x.banks (bankKey rank bank) f })

/-- A device's record. -/
def devOf (s : State) (c rank : Nat) : MemDev := kget memDevBlank s.mem.devs (c * 2 + rank % 2)

/-- The state with a device's record changed. -/
def modDev (s : State) (c rank : Nat) (f : MemDev → MemDev) : State :=
  { s with mem := { s.mem with devs := kmod memDevBlank s.mem.devs (c * 2 + rank % 2) f } }

/-- Ranks per channel of the fitted devices (13 Table 13-7 MEM_CONFIG). -/
def memRanks (s : State) : Nat := natP s 0x10 0 mMEM_CONFIG % 16

/-- Where the 64 bytes at an address lie on their channel: rank, bank (4 × group + bank) and row. Blocks of 256 bytes rotate over the
channels; then come bank group, bank, column and row (13 R279; log 190). -/
def dramPlace (s : State) (addr : Nat) : Nat × Nat × Nat :=
  let n := addr / 1024 * 4 + addr % 256 / 64
  (Config.dramRank addr % max 1 (memRanks s), n % 4 * 4 + n / 4 % 4, n / 16 / (Config.dramRowLast (natP s 0x10 0 mMEM_CONFIG) + 1))

/-- A request as it waits on its channel. -/
def waiting (s : State) (r : DramReq) : MemReq :=
  let q := dramPlace s r.addr
  ⟨r.port, q.1, q.2.1, q.2.2, nowClk s⟩

/-- Every row of a channel is closed (13 Table 13-3). -/
def prechargeAll (s : State) (c : Nat) : State :=
  (List.range 32).foldl (fun s i => modBank s c (i / 16) i (fun b => { b with row := none })) s

/-- Does MEM_TRAIN run (13 R283)? -/
def memTraining (s : State) : Bool := s.mem.training.isSome

/-- Does the controller serve accesses: trained, no training, no set-point change (13 R281, R283, Table 13-3)? -/
def memServes (s : State) : Bool := s.boot.dramTrained && s.mem.training.isNone && s.mem.change.isNone

/-! ### Arbitration (13 R286) -/

/-- L of a memory port in SCLK ticks (13 Table 13-4). -/
def memTarget (port : Nat) : Nat :=
  usTicks * (match port with
    | 0 => 2
    | 1 => 2
    | 2 => 20
    | 3 => 10
    | 4 => 5
    | 5 => 1
    | 6 => 20
    | _ => 50)

/-- The age of a port: that of its oldest request, on whichever channel it waits. -/
def portAge (s : State) (port : Nat) : Nat :=
  maxN ((([0, 1, 2, 3].map (fun c => (chanOf s c).queue)).flatten.filter (fun r => decide (r.port = port))).map (fun r => nowClk s - r.since))

/-- The urgency of an age against L. -/
def urgency (age l : Nat) : Nat := if 2 * age < l then 0 else if 4 * age < 3 * l then 1 else if age < l then 2 else 3

/-- The urgency of a request: that of its port. -/
def reqUrgency (s : State) (r : MemReq) : Nat := urgency (portAge s r.port) (memTarget r.port)

/-- Is a port real-time (13 Table 13-4)? -/
def realTime (port : Nat) : Bool := decide (port < 2)

/-- Does a request hit the open row of its bank? -/
def rowHit (s : State) (c : Nat) (r : MemReq) : Bool := decide ((bankOf s c r.rank r.bank).row = some r.row)

/-- The candidates that a test prefers, or all where it prefers none. -/
def prefer {α : Type} (f : α → Bool) (xs : List α) : List α := if xs.any f then xs.filter f else xs

/-- The request that a channel serves next, of those its ports may send (13 R286). -/
def nextReq (s : State) (c : Nat) (q : List MemReq) : Option MemReq :=
  let top := maxN (q.map (reqUrgency s))
  let a := q.filter (fun r => decide (reqUrgency s r = top))
  let b := prefer (fun r => realTime r.port) a
  let d := if (chanOf s c).hits < 16 then prefer (rowHit s c) b else prefer (fun r => !rowHit s c r) b
  let low := (d.map (fun (r : MemReq) => r.port)).foldl min 8
  let e := d.filter (fun (r : MemReq) => decide (r.port = low))
  let old := (e.map (fun (r : MemReq) => r.since)).foldl min (nowClk s)
  e.find? (fun (r : MemReq) => decide (r.since ≤ old))

/-- A list without the first element equal to one. -/
def dropOne (r : MemReq) : List MemReq → List MemReq
  | [] => []
  | x :: xs => if x = r then xs else x :: dropOne r xs

/-! ### Activates (13 R292) -/

/-- The least count of a full table. -/
def leastCount (xs : List (Nat × Nat)) : Nat :=
  match xs with
  | [] => 0
  | x :: rest => (rest.map (fun q => q.2)).foldl min x.2

/-- The table after an activate of a row; among several entries of the lowest count the one that gives way is free (13
R292; log 88). -/
def actTable (xs : List (Nat × Nat)) (row pick : Nat) : List (Nat × Nat) :=
  if xs.any (fun q => q.1 = row) then xs.map (fun q => if q.1 = row then (q.1, q.2 + 1) else q)
  else if xs.length < 64 then xs ++ [(row, 1)]
  else
    let low := leastCount xs
    let is := (List.range xs.length).filter (fun i => decide ((nth (0, 0) xs i).2 = low))
    setNth xs (nth 0 is (pick % max 1 is.length)) (row, low + 1)

/-- A row is activated (13 R292). -/
def activate (s : State) (c rank bank row : Nat) : State :=
  let f := takeFree s
  let b := bankOf f.2 c rank bank
  let t := actTable b.acts row f.1
  let n := ((t.find? (fun q => q.1 = row)).map (fun q => q.2)).getD 0
  let hot := decide (natP s 0x10 0 mACT_THRESH ≤ n) && !b.hot.contains row
  modBank f.2 c rank bank (fun x => { x with acts := t, hot := if hot then x.hot ++ [row] else x.hot })

/-- The four neighbours of a row, in the device's order (13 R292). -/
def neighbours (row : Nat) : List Nat := (if 2 ≤ row then [row - 2] else []) ++ (if 1 ≤ row then [row - 1] else []) ++ [row + 1, row + 2]

/-! ### Accesses (13 R286, R287) -/

/-- The bank after an access to a row: predictor, row kept or closed (13 R287). -/
def bankAccess (s : State) (x : MemBank) (row : Nat) : MemBank :=
  let policy := natP s 0x10 0 mPAGE_POLICY
  let pred := match x.row with
    | some r => if r = row then min 3 (x.pred + 1) else x.pred - 1
    | none => x.pred
  let keep := decide (policy = 2) || (decide (policy = 0) && decide (2 ≤ pred))
  { x with row := if keep then some row else none, used := nowClk s, pred := pred }

/-- An access is performed (13 R286, R287, R290, R292). -/
def serve (s : State) (c : Nat) (r : MemReq) : State :=
  let hit := rowHit s c r
  let s := if hit then s else activate s c r.rank r.bank r.row
  let s := modBank s c r.rank r.bank (fun x => bankAccess s x r.row)
  let s := modChan s c (fun x => { x with queue := dropOne r x.queue, hits := if hit then x.hits + 1 else 0 })
  let wait := ceilDiv (4 * (nowClk s - r.since)) 50
  if r.port = 0 && natP s 0x10 0 mCAPTURE_STALL_MAX < wait then setP s 0x10 0 mCAPTURE_STALL_MAX (wait : Int) else s

/-! ### Refresh (13 R289) -/

/-- Does a P0 or P1 request wait on a rank, or on one bank of it? -/
def burstWaits (s : State) (c rank : Nat) (bank : Option Nat) : Bool :=
  (chanOf s c).queue.any (fun r => realTime r.port && decide (r.rank = rank) &&
    (match bank with
    | some b => decide (r.bank = b)
    | none => true))

/-- The refresh debt of a rank in tREFI: the most that one of its banks is owed (13 R289; log 89). -/
def refreshDebt (s : State) (c rank : Nat) : Nat := maxN ((List.range 16).map (fun b => (bankOf s c rank b).owed))

/-- A bank is refreshed: its row closes (13 R287, R289). -/
def refreshBank (s : State) (c rank bank : Nat) : State :=
  modBank s c rank bank (fun x => { x with row := none, owed := x.owed - 1 })

/-- All banks of a rank are refreshed. -/
def refreshRank (s : State) (c rank : Nat) : State := (List.range 16).foldl (fun s b => refreshBank s c rank b) s

/-- Everything owed on a rank is issued at once (13 R289). -/
def refreshForced (s : State) (c rank : Nat) : State :=
  let s := (List.range 16).foldl (fun s b => modBank s c rank b (fun x => { x with row := none, owed := 0 })) s
  quietIn (detect (bumpP s 0x10 0 mREFRESH_FORCED) { raiseBlank 70 with ins := c, d0 := rank }) 70 secTicks

/-- A channel leaves self-refresh, where it is in it (13 R291). -/
def wake (s : State) (c : Nat) : State := modChan s c (fun x => { x with asleep := false, lastReq := nowClk s })

/-- Every channel leaves self-refresh (13 R291). -/
def wakeAll (s : State) : State := [0, 1, 2, 3].foldl wake s

/-- Every channel is awake and every row closed, as training and a set-point change begin (13 R283, R285). -/
def closeAllRows (s : State) : State := [0, 1, 2, 3].foldl prechargeAll (wakeAll s)

/-! ### Set points (13 R285, R288) -/

/-- Is the DRAM load above the limit of a set point? -/
def fspOver (s : State) (fsp : Nat) : Bool :=
  decide (dramLimit fsp < dramLoad s (sceneNow s) [] [] (natP s 0x10 0 mP7_RESERVE))

/-- The change to a set point begins (13 R285). -/
def beginChange (s : State) (fsp : Nat) : State :=
  let s := closeAllRows s
  { s with mem := { s.mem with change := some (fsp, nowClk s) } }

/-- MEM_FREQ outside training: nothing to do, refused by the bandwidth check, or a change that begins or waits for the one
in progress (13 R285; log 90). -/
def freqApply (s : State) (fsp : Nat) : State × Reply :=
  match s.mem.change with
  | some _ =>
    if fsp = 1 ∧ fspOver s 1 then (s, noResource 0x1001 0)
    else ({ s with mem := { s.mem with freqWaits := some fsp } }, okBare)
  | none =>
    if natP s 0x10 0 mFSP_NOW = fsp then (s, okBare)
    else if fsp = 1 ∧ fspOver s 1 then (s, noResource 0x1001 0)
    else (beginChange s fsp, okBare)

/-- A MEM_FREQ that waited for the end of a training or a change is taken up (13 R285). -/
def freqResume (s : State) : State :=
  match s.mem.freqWaits with
  | none => s
  | some fsp =>
    let was := s.mem.freqReplaced
    let p := freqApply { s with mem := { s.mem with freqWaits := none, freqReplaced := false } } fsp
    complete p.1 .memFreq (if was then { p.2 with notes := p.2.notes ||| 2 } else p.2)

/-- Does anything use the memory: a port not IDLE, a skein neither IDLE nor UNDEFINED, a zone ENABLED, a user slot that
runs (13 R283)? -/
def memInUse (s : State) : Bool :=
  [0, 1].any (fun p => decide ((portOf s p).st ≠ .idle)) || (List.range 32).any (skRuns s) ||
    (List.range 128).any (fun z => decide ((zoneOf s z).st = .enabled)) ||
    (List.range 16).any (fun n => krnRuns (krnOf s n))

end Sys2Proof.Machine
end

