-- ==== Sys2Proof/Machine/NvmOps.lean ====
section
/-! DEFINITION. Machine/NvmOps.lean: NVM errors and firmware slots as other chapters meet them (19 R405, R411; 20 R424). -/

namespace Sys2Proof.Machine

/-- NVM regions of source 113: 0 F, 1 R, 2 U, 3 and 4 the firmware slots A and B (19 Table 19-5). -/
abbrev regionF : Nat := 0
/-- Region R. -/
abbrev regionR : Nat := 1
/-- Region U. -/
abbrev regionU : Nat := 2
/-- The region of a firmware slot. -/
def regionFw (slot : Nat) : Nat := 3 + slot

/-- An NVM error: source 113 with its region to be put right; `d0` is DETAIL0 (19 R405 to R407, R411). -/
def nvmError (s : State) (region d0 : Nat) : State :=
  let bad := if s.cal.nvmBad.contains region then s.cal.nvmBad else s.cal.nvmBad ++ [region]
  detect { s with cal := { s.cal with nvmBad := bad } } { raiseBlank 113 with d0 := d0 }

/-- A region has been written without error; source 113 clears with the last region put right (19 Table 19-7). -/
def nvmGood (s : State) (region : Nat) : State :=
  let had := s.cal.nvmBad.contains region
  let s := { s with cal := { s.cal with nvmBad := s.cal.nvmBad.filter (fun r => r ≠ region) } }
  if had && s.cal.nvmBad.isEmpty && isLive s 113 then clearLive s 113 else s

/-- `n` free bytes, and the state with the counter advanced (log 4). -/
def takeFreeBytes (s : State) (n : Nat) : List Byte × State :=
  ((List.range n).map (fun i => Config.freeByte (s.free + i)), { s with free := s.free + n })

/-- A firmware slot: 0 is A, 1 is B (20 R421). -/
def fwSlotOf (s : State) (n : Nat) : FwSlot := if n = 0 then s.boot.slotA else s.boot.slotB

/-- The state with a firmware slot replaced. -/
def setFwSlot (s : State) (n : Nat) (x : FwSlot) : State :=
  { s with boot := if n = 0 then { s.boot with slotA := x } else { s.boot with slotB := x } }

/-- A slot whose write did not end well: unverified, its contents left open (20 R424). -/
def fwSlotLost (s : State) (n size : Nat) : State :=
  let q := takeFreeBytes s size
  setFwSlot q.2 n ⟨q.1, false⟩

/-- A FW_STAGE in progress ends with a status: its descriptor is passed, its slot lost (14 R308, R312, R313; 20 R424). -/
def stageLost (s : State) (status : Nat) : State :=
  match s.boot.staging with
  | none => s
  | some (slot, image, _) =>
    let s := settleRing (takeDescriptor { s with boot := { s.boot with staging := none } } 0) 132 false
    complete (fwSlotLost s slot image.length) .fwStage (statusOnly status)

end Sys2Proof.Machine
end

