-- ==== Sys2Proof/Machine/PurlOps.lean ====
section
/-! DEFINITION. Machine/PurlOps.lean: the operations over the Purl Link: states, attempts and their causes, packets, blocks,
scramblers (16). -/

namespace Sys2Proof.Machine

/-- The state with the link's record changed. -/
def modPurl (s : State) (f : Purl → Purl) : State := { s with purl := f s.purl }

/-- LINK_STATE (16 Table 16-3, R350). -/
def linkCode (s : State) : Nat :=
  match s.purl.st with
  | .disabled => 0
  | .detect => 1
  | .train => 2
  | .lock => 3
  | .align => 4
  | .caps => 5
  | .active => if s.purl.txIdle then 7 else 6
  | .blocked => 8

/-- Is the link ACTIVE or IDLE: does it carry packets? -/
def linkUp (s : State) : Bool := decide (s.purl.st = .active)

/-- A receive lane's record. -/
def rxLane (s : State) (l : Nat) : RxLane := kget rxLaneBlank s.purl.rx l

/-- The state with a receive lane's record changed. -/
def modLane (s : State) (l : Nat) (f : RxLane → RxLane) : State :=
  modPurl s (fun x => { x with rx := kmod rxLaneBlank x.rx l f })

/-! ### Cause codes (16 Table 16-5) -/

/-- LOCK_LOST. -/
abbrev causeLock : Nat := 1
/-- ERR_RATE. -/
abbrev causeRate : Nat := 2
/-- MARKER. -/
abbrev causeMarker : Nat := 3
/-- SILENT. -/
abbrev causeSilent : Nat := 4
/-- FREQ. -/
abbrev causeFreq : Nat := 5
/-- LANES. -/
abbrev causeLanes : Nat := 6
/-- SKEW. -/
abbrev causeSkew : Nat := 7
/-- CAPS_MISMATCH. -/
abbrev causeMismatch : Nat := 9

/-! ### States and attempts (16 R343, R347, R351, R352) -/

/-- The link enters a state. -/
def setLink (s : State) (st : LinkSt) : State :=
  modPurl s (fun x => { x with st := st, since := nowClk s })

/-- The link no longer carries packets: width, chosen lanes, idle mode, and what waits for a wake go (16 Table 16-7). -/
def linkDrop (s : State) : State :=
  modPurl (setP s 0x0B 0 lPL_WIDTH 0) (fun x => { x with
    chosen := [], idleMode := false, txIdle := false, peerIdle := false, waiting := [], capsLeft := 0, echo := none })

/-- A raise of a Purl Link source with a cause. -/
def purlRaise (s : State) (src cause : Nat) : State := detect s { raiseBlank src with d0 := cause }

/-- The link goes to BLOCKED, source 93 (16 R347, Table 16-5). -/
def toBlocked (s : State) : State :=
  let s := setP (linkDrop s) 0x0B 0 lPL_LAST_CAUSE (causeMismatch : Int)
  let s := purlRaise (purlRaise s 90 causeMismatch) 93 causeMismatch
  setLink (modPurl s (fun x => { x with capsFails := 0, statusAt := nowClk s })) .blocked

/-- The link enters DETECT and drives its first common-mode step at once (16 R343). -/
def enterDetect (s : State) : State :=
  setLink (modPurl (linkDrop s) (fun x => { x with stepAt := nowClk s })) .detect

/-- An answer that leaves ACTIVE, or an attempt that fails, with its cause: source 90, PL_LAST_CAUSE, DETECT; the third
failure in a row that ends in CAPS goes to BLOCKED (16 R343, R347, R352). -/
def linkFails (s : State) (cause : Nat) : State :=
  let was := s.purl.st
  let s := setP s 0x0B 0 lPL_LAST_CAUSE (cause : Int)
  let s := if was = .active then bumpP s 0x0B 0 lPL_RETRAINS else s
  let fails := if was = .caps then s.purl.capsFails + 1 else 0
  let s := modPurl s (fun x => { x with capsFails := fails })
  if 3 ≤ fails then toBlocked s else enterDetect (purlRaise s 90 cause)

/-- The link enters TRAIN: the items of R351 come into force and the sweep starts (16 R345, R351). -/
def enterTrain (s : State) : State :=
  setLink (modPurl s (fun x => { x with
    swing := natP s 0x0B 0 lPL_TX_SWING, deemph := natP s 0x0B 0 lPL_TX_DEEMPH
    ctleFix := natP s 0x0B 0 lPL_CTLE_FIX, lanesMin := natP s 0x0B 0 lPL_LANES_MIN
    ctleStep := 0, rx := [], lanes := [] })) .train

/-- The link goes to DISABLED (16 R351, ACTION 0). -/
def linkDown (s : State) : State := setLink (linkDrop (modPurl s (fun x => { x with capsFails := 0 }))) .disabled

/-- The link retrains from any state (16 R351, ACTION 1): an exit from ACTIVE counts and raises source 90 with no cause of
Table 16-5. -/
def linkRetrain (s : State) : State :=
  if s.purl.st = .active then linkFails s 0
  else enterDetect (modPurl s (fun x => { x with capsFails := 0 }))

/-- The counts that restart on each entry into ACTIVE (16 R354). -/
def linkCounts : List Nat := [lPL_HDR_ERRORS, lPL_PKT_DISCARDS, lPL_CAPS_REJECTS, lPL_CLAIMS_IGNORED]

/-- The quiet interval of a live source starts only now, or is stopped. -/
def quietSet (s : State) (src : Nat) (t : Option Nat) : State :=
  if isLive s src then setSrcRec s src { srcRec s src with quietAt := t } else s

/-- The link enters ACTIVE over its chosen lanes; a retrain that waits completes (16 R347, R351, R354, Table 16-6). -/
def enterActive (s : State) (chosen : List Nat) : State :=
  let s := linkCounts.foldl (fun s i => setP s 0x0B 0 i 0) s
  let s := setP s 0x0B 0 lPL_WIDTH ((chosen.length : Nat) : Int)
  let s := clearIf_ s 90
  let s := if chosen.length = 4 then clearIf_ s 92 else purlRaise s 92 0
  let s := quietSet s 93 (some (max (nowClk s) ((s.purl.rejectAt.map (· + secTicks)).getD 0)))
  let s := modPurl s (fun x => { x with
    chosen := chosen, capsFails := 0, capsLeft := 2, capsAt := nowClk s + 10 * usTicks, seq := 0, statusAt := nowClk s
    heardAt := nowClk s, retrainAt := none, echo := none })
  let s := setLink s .active
  complete s .pairLink (okWith (leBytes 1 (linkCode s)))
where
  clearIf_ (s : State) (src : Nat) : State := if isLive s src then clearLive s src else s

/-! ### Scramblers and blocks (16 R339 to R341) -/

/-- One bit of the scrambler: its output and its next state (16 R340). -/
def lfsrStep (r : Nat) : Nat × Nat :=
  let b := ((r >>> 30) ^^^ (r >>> 2)) % 2
  (b, (r * 2 + b) % 2 ^ 31)

/-- The scrambler after `n` bits. -/
def lfsrSkip : Nat → Nat → Nat
  | 0, r => r
  | n + 1, r => lfsrSkip n (lfsrStep r).2

/-- `n` bits of a byte from bit `i` upward through the scrambler. -/
def scrambleBits : Nat → Nat → Nat → Nat → Nat × Nat
  | 0, _, _, r => (0, r)
  | n + 1, i, b, r =>
    let q := lfsrStep r
    let rest := scrambleBits n (i + 1) b q.2
    ((b / 2 ^ i % 2 ^^^ q.1) * 2 ^ i + rest.1, rest.2)

/-- Bytes through the scrambler, each least significant bit first (16 R339, R340). -/
def scrambleBytes : List Byte → Nat → List Byte
  | [], _ => []
  | b :: bs, r =>
    let q := scrambleBits 8 0 b.toNat r
    BitVec.ofNat 8 q.1 :: scrambleBytes bs q.2

/-- The scrambler of logical lane l after a stitch marker (16 R340). -/
def laneSeed (l : Nat) : Nat := 2 ^ (7 * l)

/-- The header of a data block, 0b0110, and of a control block, 0b1001 (16 R339). -/
abbrev hdrData : Nat := 6
/-- See `hdrData`. -/
abbrev hdrControl : Nat := 9

/-- The scrambler of a lane at a block index counted from a stitch marker; the index of every later marker starts it anew (16 R340, R342). -/
def scramblerAt (lane idx : Nat) : Nat := lfsrSkip (256 * (idx % 16384 - 1)) (laneSeed lane)

/-- A data block of a lane at a block index after the last marker, scrambled (16 R339, R340). -/
def dataBlock (lane idx : Nat) (payload : List Byte) : Block :=
  ⟨lane, hdrData, scrambleBytes (fitBytes 32 payload) (scramblerAt lane idx)⟩

/-- The payload of a stitch marker (16 Table 16-2). -/
def markerBytes (lane count : Nat) : List Byte :=
  leBytes 1 4 ++ leBytes 1 lane ++ zeros 2 ++ leBytes 4 count ++ List.replicate 24 0x55

/-- The payload of an unscrambled EXIT block and of an IDLE_ENTER block (16 Table 16-2). -/
def exitBytes : List Byte := leBytes 1 6 ++ List.replicate 31 0x55

/-- A control block that is not scrambled. -/
def plainControl (lane : Nat) (payload : List Byte) : Block := ⟨lane, hdrControl, payload⟩

/-- A control block that is scrambled. -/
def controlBlock (lane idx typ : Nat) : Block :=
  ⟨lane, hdrControl, scrambleBytes (fitBytes 32 (leBytes 1 typ)) (scramblerAt lane idx)⟩

/-- Blocks since the last stitch marker at the present tick: 260 bits at 30 Gb/s are 65/6 ticks (16 R339, R342). -/
def blocksNow (s : State) : Nat := 6 * (nowClk s - s.purl.streamAt) / 65 + 1 - 16384 * (s.purl.markers - 1)

/-- The block index of the first block at or after an index that is no stitch marker's (16 R342). -/
def freeIndex (idx : Nat) : Nat := if idx % 16384 = 0 then idx + 1 else idx

/-- The lanes that carry the block stream: the chosen ones, all four until they are chosen (16 R342, R346, R347; log 193). -/
def txLanes (s : State) : List Nat := if s.purl.chosen.isEmpty then [0, 1, 2, 3] else s.purl.chosen

/-- A packet's bytes spread over lanes block by block, lane 0 first, from a block index on (16 R348). -/
def stripe (lanes : List Nat) : Nat → Nat → List Byte → List Block
  | 0, _, _ => []
  | n + 1, idx, bs =>
    if bs.isEmpty then []
    else
      ((List.range lanes.length).filter (fun i => decide (32 * i < bs.length))).map (fun i =>
        dataBlock (nth 0 lanes i) idx ((bs.drop (32 * i)).take 32)) ++
        stripe lanes n (freeIndex (idx + 1)) (bs.drop (32 * lanes.length))

/-- A packet goes out on the lanes, striped, or whole on every lane (16 R346, R348). -/
def sendBytes (s : State) (perLane : Bool) (bs : List Byte) : State :=
  let idx := freeIndex (max s.purl.nextBlock (blocksNow s))
  let lanes := txLanes s
  let n := bs.length / 32 + 1
  let blocks := if perLane then (lanes.map (fun l => stripe [l] n idx bs)).flatten else stripe lanes n idx bs
  let used := if perLane then ceilDiv bs.length 32 else ceilDiv bs.length (32 * max 1 lanes.length)
  let next := idx + used + (if idx / 16384 < (idx + used) / 16384 then 1 else 0)
  modPurl s (fun x => { x with wire := blocks, nextBlock := next, seq := (x.seq + 1) % 2 ^ 32 })

/-! ### Packets (16 R348, Table 16-4) -/

/-- A packet: header, payload, CRC-32C over both (16 R348, Table 16-4). -/
def packetBytes (typ flags unit seq : Nat) (payload : List Byte) : List Byte :=
  let b := leBytes 2 0x504C ++ zeros 2 ++ leBytes 1 1 ++ leBytes 1 unit ++ leBytes 1 flags ++ leBytes 1 typ ++
    leBytes 4 payload.length ++ leBytes 4 seq ++ payload
  b ++ leBytes 4 (crc32c b)

/-- The packet types that are defined (16 Table 16-4; 17 Table 17-4). -/
def packetTypes : List Nat := [0x01, 0x02, 0x10, 0x11, 0x12, 0x13, 0x14, 0x15, 0x18, 0x19]

/-- LEN of a packet. -/
def packetLen (bs : List Byte) : Nat := fieldAt bs 8 4

/-- Is a packet valid (16 R348)? `clean`: no block of it had an invalid header. -/
def packetOk (bs : List Byte) (clean : Bool) : Bool :=
  let n := packetLen bs
  clean && decide (fieldAt bs 0 2 = 0x504C) && decide (n ≤ 65536) && packetTypes.contains (fieldAt bs 7 1) &&
    decide (20 + n ≤ bs.length) && decide (fieldAt bs (16 + n) 4 = crc32c (bs.take (16 + n)))

/-- The payload of a packet. -/
def packetPayload (bs : List Byte) : List Byte := (bs.drop 16).take (packetLen bs)

/-- An invalid packet is discarded whole and counted, source 95 (16 R348). -/
def discardPacket (s : State) : State :=
  quietIn (detectSrc (bumpP s 0x0B 0 lPL_PKT_DISCARDS) 95) 95 secTicks

/-- A CAPS is ignored and counted, source 93; its live bit waits for a second without another (16 R347, Table 16-6). -/
def rejectCaps (s : State) : State :=
  let s := detectSrc (bumpP s 0x0B 0 lPL_CAPS_REJECTS) 93
  let s := modPurl s (fun x => { x with rejectAt := some (nowClk s) })
  setSrcRec s 93 { srcRec s 93 with quietAt := if s.purl.st = .active then some (nowClk s + secTicks) else none }

/-- Is the transmitter free to send packets: ACTIVE and not idle (16 R350)? -/
def canSend (s : State) : Bool := linkUp s && !s.purl.txIdle

/-- Checkpoint and handshake packets go out in order, or wait for a wake; with the link down they are lost (16 R348,
R350). -/
def sendBodies (s : State) (bodies : List CkptBody) : State :=
  if !linkUp s then s
  else
    let ps : List CkptPacket := (List.range bodies.length).map (fun i =>
      (⟨(s.purl.seq + i) % 2 ^ 32, nth .swapReady bodies i⟩ : CkptPacket))
    let s := modPurl s (fun x => { x with seq := (x.seq + bodies.length) % 2 ^ 32 })
    if s.purl.txIdle then modPurl s (fun x => { x with waiting := x.waiting ++ ps })
    else modPurl s (fun x => { x with sent := ps, lastPacket := nowClk s })

end Sys2Proof.Machine
end

