-- ==== Sys2Proof/Machine/FeOps.lean ====
section
/-! DEFINITION. Machine/FeOps.lean: the precision front end: chart entries, units, results (11 R238 to R254). -/

namespace Sys2Proof.Machine

/-! ### Entries (11 R238, R245) -/

/-- The entry that 16 bytes spell; reserved bits are ignored (11 Table 11-4; 00 R4). -/
def chartOf (bs : List Byte) : ChartEntry :=
  let v := fieldAt bs 0 16
  ⟨bitField v 127 124, bitField v 123 122, bitField v 121 120, bitField v 119 116, bitField v 115 112, bitField v 111 108,
    bitField v 107 104, bitField v 99 96, bitField v 95 92, bitField v 91 88, bitField v 87 72, bitField v 71 64,
    bitField v 63 48, bitField v 47 40, v.testBit 32⟩

/-- The lowest pin role that breaks 11 R238 or R245, as the LSB of its field. -/
def chartPinFault (e : ChartEntry) : Option Nat :=
  let exc := e.use.testBit 0
  let bias := e.use.testBit 1
  if e.pinP = e.pinM then some 112
  else if exc && (e.pinE = e.pinM || (bias && e.pinE = e.pinB)) then some 108
  else if bias && e.pinB ≠ e.pinM && e.pinB = e.pinP then some 104
  else if 1 ≤ e.kind && e.topo = 2 && e.pinE = e.pinP then some 108
  else if 1 ≤ e.kind && e.topo = 2 && e.pinB = e.pinM then some 104
  else none

/-- Is EXC_VALUE outside the range of its EXC_KIND (11 R243)? -/
def excValueBad (e : ChartEntry) : Bool :=
  (decide (e.excKind = 1) && (decide (e.excValue < 10) || decide (1000 < e.excValue))) ||
    (decide (e.excKind = 2) && (decide (e.excValue < 100) || decide (1800 < e.excValue)))

/-- The field of an entry that breaks its table, as its LSB (11 R238, R243, R245). -/
def chartFault (e : ChartEntry) : Option Nat :=
  if 3 < e.kind then some 124
  else if 1 ≤ e.kind && e.topo = 3 then some 122
  else if 1 ≤ e.kind && e.use ≠ 3 then some 120
  else match chartPinFault e with
    | some b => some b
    | none =>
      if 7 < e.gain then some 96
      else if 6 < e.osr then some 92
      else if 2 < e.excKind || (1 ≤ e.kind && e.excKind = 0) then some 88
      else if excValueBad e then some 72
      else if e.times = 0 then some 64
      else none

/-- The AX pins an entry names, in any role (11 R238). -/
def chartPins (e : ChartEntry) : List Nat :=
  [e.pinP, e.pinM] ++ (if e.use.testBit 0 then [e.pinE] else []) ++ (if e.use.testBit 1 then [e.pinB] else [])

/-- Does the loaded chart use an AX pin (08 R190)? -/
def chartUsesPin (s : State) (pin : Nat) : Bool := s.fe.chart.any (fun q => (chartPins q.2).contains pin)

/-- The lowest TDC channel 12 to 15, enabled, whose pin one of some entries uses (08 R190; 11 R247). -/
def chartTdcClash (s : State) (es : List ChartEntry) : Option Nat :=
  [12, 13, 14, 15].find? (fun c =>
    decide (natP s 0x06 c tTDC_ENABLE = 1) && es.any (fun e => (chartPins e).contains c))

/-- A chart entry as loaded. -/
def chartGet (s : State) (n : Nat) : ChartEntry := kget chartBlank s.fe.chart n

/-- What is kept for a chart entry. -/
def entryGet (s : State) (n : Nat) : EntryData := kget entryBlank s.fe.entries n

/-- The state with what is kept for an entry changed. -/
def modEntry (s : State) (n : Nat) (f : EntryData → EntryData) : State :=
  { s with fe := { s.fe with entries := kmod entryBlank s.fe.entries n f } }

/-- The state with the front end changed. -/
def modFe (s : State) (f : FrontEnd → FrontEnd) : State := { s with fe := f s.fe }

/-! ### Conversions (11 R240, R241, R246) -/

/-- t_conv of an entry in SCLK ticks: 128 ticks a modulator sample (11 R240). -/
def tconv (e : ChartEntry) : Nat := 128 * (256 * 2 ^ e.osr)

/-- D: DELAY in whole conversion periods, in SCLK ticks (11 R246). -/
def tdelay (e : ChartEntry) : Nat := ceilDiv (e.delay * usTicks) (tconv e) * tconv e

/-- How the converter stands in a conversion of an entry (11 R238, R243, Table 11-5): its own pins, or a lead between two of them; with
lead b of a three-wire entry PIN_E and PIN_P change roles. -/
def connOf (e : ChartEntry) (sub : FeSub) : FeConn :=
  let exc (pin : Nat) := if e.use.testBit 0 && e.excKind ≠ 0 then some (pin, e.excKind, e.excValue) else none
  let bias := if e.use.testBit 1 then some e.pinB else none
  match sub with
  | .main => ⟨e.pinP, e.pinM, exc e.pinE, bias, e.gain⟩
  | .leadA => ⟨e.pinE, e.pinP, exc e.pinE, bias, e.gain⟩
  | .leadB => if e.topo = 1 then ⟨e.pinP, e.pinE, exc e.pinP, bias, e.gain⟩ else ⟨e.pinM, e.pinB, exc e.pinE, bias, e.gain⟩

/-- 2^23 × G × (V(IN+) − V(IN−)) / 1.250 V, from the voltages at AX0 to AX15 (11 R240). -/
def feRaw (c : FeConn) (volts : List Rat) : Rat :=
  (2 ^ 23 * 2 ^ c.gain : Nat) * (nth 0 volts c.inP - nth 0 volts c.inM) / (5 / 4)

/-- Code limits of the converter (11 R240). -/
abbrev codeMax : Int := 8388607

/-- The code of a filter output: offset and gain factors of the gain in use, rounded, saturated (11 R240). -/
def feCode (s : State) (e : ChartEntry) (raw : Rat) : Int :=
  clampI (-codeMax) codeMax (roundQ ((raw - nth 0 s.fe.factors.ofs e.gain) * nth 1 s.fe.factors.gain e.gain))

/-- Does a code stand at a limit (11 R240)? -/
def feOver (c : Int) : Bool := decide (c = codeMax) || decide (c = -codeMax)

/-- V of a code, in volts (11 R248). -/
def feVolts (e : ChartEntry) (code : Rat) : Rat := code * (5 / 4) / (2 ^ 23 * 2 ^ e.gain : Nat)

/-- I, the calibrated excitation current in amperes; under voltage excitation no rule gives it: a free value (11 R248; log
78). -/
def feAmps (s : State) (e : ChartEntry) : Rat × State :=
  if e.excKind = 1 then ((e.excValue : Rat) / 1000000 * s.fe.factors.cur, s)
  else
    let f := takeFreeI s
    ((f.1 : Rat), f.2)

/-! ### Temperatures (11 R248) -/

/-- A of IEC 60751. -/
abbrev cvdA : Rat := 39083 / 10000000
/-- B. -/
abbrev cvdB : Rat := -5775 / 10000000000
/-- C, below 0 °C. -/
abbrev cvdC : Rat := -4183 / 1000000000000000

/-- A square root of a rational to 80 fraction bits. -/
def sqrtQ (q : Rat) : Rat :=
  if q ≤ 0 then 0 else (isqrt (q.num.toNat * 2 ^ 160 / q.den) : Rat) / ((2 ^ 80 : Nat) : Rat)

/-- R / R0 at a temperature below 0 °C (11 R248). -/
def cvdBelow (t : Rat) : Rat := 1 + cvdA * t + cvdB * t * t + cvdC * (t - 100) * t * t * t

/-- The temperature below 0 °C of a ratio r = R / R0, in 10⁻⁹ °C, by bisection from bounds in 10⁻⁹ °C. -/
def cvdSolve (r : Rat) : Nat → Int → Int → Int
  | 0, lo, _ => lo
  | n + 1, lo, hi =>
    let mid := Int.fdiv (lo + hi) 2
    if cvdBelow ((mid : Rat) / 1000000000) ≤ r then cvdSolve r n mid hi else cvdSolve r n lo mid

/-- T of a ratio r = R / R0 in °C; none where the quadratic has no root (11 R248). The iteration below 0 °C ends within
0.01 mK of the root, its error free within that bound (log 79). -/
def rtdTemp (r : Rat) : Option Rat :=
  if 1 ≤ r then
    let d := cvdA * cvdA - 4 * cvdB * (1 - r)
    if d < 0 then none else some ((-cvdA + sqrtQ d) / (2 * cvdB))
  else
    let t := cvdSolve r 45 (-10000000000000) 0
    some (((t + clampI (-10000) 10000 (Config.newtonSlip t) : Int) : Rat) / 1000000000)

/-- T of an NTC in °C: none where the logarithm or 1/T has none (11 R248). -/
def ntcTemp (r r25 beta : Rat) : Option Rat :=
  if r ≤ 0 || r25 ≤ 0 || beta = 0 then none
  else
    let inv : Rat := 20 / 5963 + lnQ (r / r25) / beta
    if inv = 0 then none else some (1 / inv - 5463 / 20)

/-- VALUE of a temperature in °C, 0.1 mK (11 R248). -/
def tempValue (t : Rat) : Int := satS 32 (roundQ (t * 10000))

/-! ### Results (11 R246, R248 to R251) -/

/-- A reading in its units: VALUE, OVERRANGE, SHORT. -/
structure Reading where
  value : Int
  ovr : Bool
  short : Bool

/-- Items of a run: RTD_R0, NTC_R25, NTC_BETA, LEAD_OHMS. -/
def runItem (x : FeRun) (i : Nat) : Rat := (nth 0 x.items i : Int)

/-- A lead resistance in ohms from a sub-conversion's code (11 R249). -/
def leadOhms (e : ChartEntry) (amps : Rat) (code : Int) : Rat := if amps = 0 then 0 else feVolts e (code : Rat) / amps

/-- R_sub in ohms (11 Table 11-5). -/
def subOhms (x : FeRun) (pair : Option (Rat × Rat)) : Rat :=
  match x.entry.topo, pair with
  | 0, _ => runItem x 3 / 1000
  | 1, some p => (p.1 + p.2) / 2
  | 1, none => runItem x 3 / 1000
  | _, _ => 0

/-- The reading of a resistance R in ohms by KIND; `free` stands where no rule states a temperature (11 R248, R244; log
80). -/
def ohmsReading (x : FeRun) (r : Rat) (free : Int) : Reading :=
  match x.entry.kind with
  | 1 => ⟨satS 32 (roundQ (r * 1000)), false, decide (r < 1)⟩
  | 2 =>
    let r0 := runItem x 0 / 1000
    let short := decide (r < 3 / 20 * r0)
    match (if r0 ≤ 0 then none else rtdTemp (r / r0)) with
    | some t => ⟨tempValue t, decide (t < -200) || decide (850 < t), short⟩
    | none => ⟨satS 32 free, true, short⟩
  | _ =>
    match ntcTemp r (runItem x 1 / 1000) (runItem x 2 / 100) with
    | some t => ⟨tempValue t, decide (t < -55) || decide (200 < t), decide (r < 1)⟩
    | none => ⟨satS 32 free, true, decide (r < 1)⟩

/-- The mean of the kept codes (11 R246). -/
def meanCode (x : FeRun) : Rat := meanQ (x.codes.map (fun c : Int => (c : Rat)))

/-- The reading of a run, and its lead pair in use (11 R248, R249). -/
def feReading (s : State) (x : FeRun) (held : Option (Rat × Rat)) : Reading × Option (Rat × Rat) × State :=
  let v := feVolts x.entry (meanCode x)
  if x.entry.kind = 0 then (⟨roundQ (v * 1000000000), false, false⟩, none, s)
  else
    let i := feAmps s x.entry
    let pair := if x.leads then some (leadOhms x.entry i.1 x.codeA, leadOhms x.entry i.1 x.codeB)
      else if x.entry.leadEvery = 0 then none else held
    let f := takeFreeI i.2
    let r := (if i.1 = 0 then 0 else v / i.1) - subOhms x pair
    (ohmsReading x r f.1, pair, f.2)

/-- Are the leads suspect (11 R250)? -/
def leadsBad (p : Rat × Rat) : Bool :=
  let m := (p.1 + p.2) / 2
  let d := if p.1 < p.2 then p.2 - p.1 else p.1 - p.2
  decide (50 < p.1) || decide (50 < p.2) || decide (m < 10 * d)

/-- A lead in mΩ, saturating, for a record (11 Table 11-6). -/
def leadMilli (r : Rat) : Nat := (clampI 0 65535 (roundQ (r * 1000))).toNat

/-- LEAD_A and LEAD_B of a pair; 0 with none. -/
def leadField (p : Option (Rat × Rat)) : Nat × Nat :=
  match p with
  | some p => (leadMilli p.1, leadMilli p.2)
  | none => (0, 0)

/-- ENTRY, TAG and the flags INJECTED and AFTER_CAL of a task (11 Tables 11-6, 11-7). -/
def taskFields (t : FeTask) : Nat × Nat × Nat :=
  match t with
  | .entry n => (n, 0, 0)
  | .inject tag _ after => (0xFF, tag, 64 + 32 * bitN after)

/-- The 32 bytes of a front-end record (11 Table 11-6). -/
def feRecord (ts : Nat) (value code : Int) (flags : Nat) (leads : Nat × Nat) (task : FeTask) (count type seq : Nat) :
    List Byte :=
  let f := taskFields task
  leBytes 4 seq ++ leBytes 1 type ++ leBytes 1 count ++ leBytes 1 f.2.1 ++ leBytes 1 f.1 ++ leBytes 2 leads.2 ++
    leBytes 2 leads.1 ++ leBytes 1 flags ++ leBytesI 3 code ++ leBytesI 4 value ++ tsBytes ts

/-- Does a run write records (11 R251)? -/
def feLogs (s : State) (x : FeRun) : Bool := decide (natP s 0x07 0 fFE_LOG = 1) || x.entry.log

/-- Flags INJECTED, AFTER_CAL and UNCAL of a task now (11 Table 11-7). -/
def baseFlags (s : State) (t : FeTask) : Nat := (taskFields t).2.2 + 128 * bitN (!s.fe.passed)

/-- SEQ of a task's records: the runs of its entry since CHART_RUN; 0 for an injection (11 Table 11-6; log 81). -/
def taskSeq (s : State) (t : FeTask) : Nat :=
  match t with
  | .entry n => (entryGet s n).runs
  | .inject _ _ _ => 0

/-- INSTANCE of a journal entry of sources 96 to 99: the entry, or 0x100 and the injection tag (11 R260; log 82). -/
def taskIns (t : FeTask) : Nat :=
  match t with
  | .entry n => n
  | .inject tag _ _ => 0x100 + tag

/-- Is a result failed (11 R244)? -/
def feFailed (flags : Nat) : Bool := flags.testBit 0 || flags.testBit 1 || flags.testBit 3

/-- What a source told of an entry has ended: its live bit clears once it holds for no other, though its raise be still on its way (11
R260). -/
def feEnds (s : State) (src ins : Nat) : State :=
  let told := s.fe.told.filter (fun q => q ≠ (src, ins))
  let s := modFe s (fun x => { x with told := told })
  if told.any (fun q => q.1 = src) then s
  else if isLive s src then clearLive s src
  else quietIn s src 0

/-- A source of a result: raised by its flag; ended by a later run of the entry without it (11 R260). -/
def feSource (s : State) (src ins : Nat) (on clears : Bool) : State :=
  if on then
    let s := modFe s (fun x => { x with told := (src, ins) :: x.told.filter (fun q => q ≠ (src, ins)) })
    detect (setSrcRec s src { srcRec s src with quietAt := none }) { raiseBlank src with ins := ins }
  else if clears && s.fe.told.contains (src, ins) then feEnds s src ins
  else s

/-- Sources 96 to 99 of a result (11 R244, R250, R260). -/
def feSources (s : State) (t : FeTask) (flags : Nat) (checked : Bool) : State :=
  let i := taskIns t
  let s := feSource s 96 i (flags.testBit 0) true
  let s := feSource s 97 i (flags.testBit 1) true
  let s := feSource s 98 i (flags.testBit 2) checked
  feSource s 99 i (flags.testBit 3) true

/-- The RESULT items of an entry (11 Table 11-8). -/
def setResult (s : State) (n ts flags : Nat) (value code : Int) (leads : Nat × Nat) : State :=
  let s := setP s 0x07 n fRESULT_VALUE value
  let s := setP s 0x07 n fRESULT_CODE code
  let s := setP s 0x07 n fRESULT_FLAGS (flags : Int)
  let s := setP s 0x07 n fRESULT_LEADS ((leads.2 * 65536 + leads.1 : Nat) : Int)
  let s := setP s 0x07 n fRESULT_TICKS_LO ((tsTicks ts % 2 ^ 32 : Nat) : Int)
  setP s 0x07 n fRESULT_TICKS_HI ((tsTicks ts / 2 ^ 32 : Nat) : Int)

/-- T_ref of a port: the latest conversion of RAMAN_REF_ENTRY in 0.1 mK above absolute zero, unless it has none, or carries OPEN or
LEAD_SUSPECT, or has failed (05 R113; 11 R248). -/
def refTemp (s : State) (p : Nat) : Option Int :=
  let n := natP s 0x03 p pRAMAN_REF_ENTRY
  let flags := natP s 0x07 n fRESULT_FLAGS
  let v := getP s 0x07 n fRESULT_VALUE
  if 31 < n || bitsOf 32 v = 0x80000000 || flags.testBit 2 || feFailed flags then none
  else some (v + 2731500)

/-- CHART_STATE (11 Table 11-8). -/
def chartCode (s : State) : Nat :=
  if s.fe.calSince.isSome then 3
  else match s.fe.st with
    | .stopped => 0
    | .running => 1
    | .stopping => 2

/-! ### What runs next (11 R246, R247, R252, R254) -/

/-- Do lead sub-conversions run on this run: the first, those every LEAD_EVERY after it, and one that finds no pair measured (11 R249; log
187)? -/
def leadsRun (e : ChartEntry) (runs : Nat) (held : Option (Rat × Rat)) : Bool :=
  decide (1 ≤ e.kind) && decide (1 ≤ e.topo) && decide (e.leadEvery ≠ 0) && (decide (runs % e.leadEvery = 0) || held.isNone)

/-- A run starts. A change of crosspoint, excitation or gain, or a lead sub-conversion, switches now; without one the filter runs on, so
that the run stands as if its switch lay DELAY and two outputs back and keeps its conversions from the first (11 R241, R246; log 186). -/
def beginRun (s : State) (t : FeTask) (e : ChartEntry) (items : List Int) (leads : Bool) : State :=
  let sub : FeSub := if leads then .leadA else .main
  let same := !leads && decide (s.fe.conn = some (connOf e .main))
  let back := if same then tdelay e + 2 * tconv e else 0
  modFe s (fun x => { x with
    conn := some (connOf e sub)
    run := some ⟨t, e, items, sub, nowClk s - back, s.time.ticks - back, if same then 2 else 0, [], false, 0, 0, leads, false⟩ })

/-- The item values that a commit accepted for an entry take effect at its start (11 R261). -/
def takeEntryItems (s : State) (n : Nat) : State :=
  let s := (entryGet s n).next.foldl (fun s p => { s with params := kput paramReset s.params p.1 p.2 }) s
  modEntry s n (fun x => { x with next := [] })

/-- A chart entry starts under its present definition (11 R246, R247). -/
def beginEntry (s : State) (n : Nat) : State :=
  let s := takeEntryItems s n
  let e := chartGet s n
  let items := [fRTD_R0, fNTC_R25, fNTC_BETA, fLEAD_OHMS].map (fun i => getP s 0x07 n i)
  let s := modFe s (fun x => { x with last := n, next := if n + 1 < natP s 0x07 0 fCHART_LENGTH then n + 1 else 0 })
  let s := beginRun s (.entry n) e items (leadsRun e (entryGet s n).runs (entryGet s n).leads)
  let s := modEntry s n (fun x => { x with runs := (x.runs + 1) % 2 ^ 32 })
  if e.use.testBit 0 && e.excKind ≠ 0 && snagArmed s 0x0050 n then
    spendSnag (modFe s (fun x => { x with run := x.run.map (fun r => { r with opened := true }) })) 0x0050 n
  else s

/-- An injection starts. No rule gives it the entry items: free values (11 R252; log 83). -/
def beginInject (s : State) (j : Injection) : State :=
  let f := s.free
  let items := [0, 1, 2, 3].map (fun i => Config.freeInt (f + i))
  beginRun { s with free := f + 4 } (.inject j.tag j.slot j.afterCal) j.entry items (leadsRun j.entry 0 none)

/-- A self-calibration starts: every switch open, the excitation off (11 R253). -/
def beginFeCal (s : State) : State :=
  let s := if calBusy s 2 0 then calSet s 2 0 { calGet s 2 0 with st := .foreground } else calBegin s 2 0 .foreground
  modFe s (fun x => { x with calDue := false, calSince := some (nowClk s), conn := none })

/-- A stop that waited for its entry is over; a CHART_RUN that waited for it starts the chart again at entry 0 (11 R247). -/
def chartStopped (s : State) : State :=
  if s.fe.st = .stopping then
    let again := s.fe.restart
    let s := complete s .chartStop okBare
    if again then
      complete (modFe s (fun x => { x with
        st := .running, restart := false, next := 0, entries := x.entries.foldl (fun m p =>
          kput entryBlank m p.1 { p.2 with runs := 0 }) x.entries })) .chartStart okBare
    else modFe s (fun x => { x with st := .stopped })
  else s

/-- Nothing runs: an injection that waits, then a calibration that is due, then the chart's next entry; with none of them the excitation
turns off and every switch opens (11 R243, R252, R254; log 186). -/
def feAdvance (s : State) : State :=
  if s.fe.run.isSome || s.fe.calSince.isSome then s
  else
    match s.fe.queue with
    | j :: js => beginInject (modFe s (fun x => { x with queue := js })) j
    | [] =>
      if s.fe.calDue then beginFeCal s
      else if s.fe.st = .running then beginEntry s s.fe.next
      else modFe s (fun x => { x with conn := none })

/-- Is a chart entry in progress? -/
def entryRuns (s : State) : Bool :=
  match s.fe.run with
  | some x => match x.task with
    | .entry _ => true
    | .inject _ _ _ => false
  | none => false

/-- A CHART_RUN that found no entry in progress settles at once, and what waits starts. -/
def feSettle (s : State) : State := if entryRuns s then s else feAdvance (chartStopped s)

/-- A self-calibration is asked for: after the entry in progress and the injections queued (11 R253, R254). -/
def feRequestCal (s : State) : State :=
  if s.fe.calDue || s.fe.calSince.isSome then s
  else
    let s := if calBusy s 2 0 then s else calBegin s 2 0 .queued
    feAdvance (modFe s (fun x => { x with calDue := true }))

end Sys2Proof.Machine
end

