-- ==== Sys2Proof/Machine/SrcOps.lean ====
section
/-! DEFINITION. Machine/SrcOps.lean: source-drive channels: allocation, targets, ramps, tables, regulation, and the gate
tests (12 R262 to R277). -/

namespace Sys2Proof.Machine

/-- A channel's record. -/
def sdOf (s : State) (c : Nat) : SdChan := kget sdBlank s.src.chans c

/-- The state with a channel's record changed. -/
def modSd (s : State) (c : Nat) (f : SdChan → SdChan) : State :=
  { s with src := { s.src with chans := kmod sdBlank s.src.chans c f } }

/-- An item of a channel or gate set, as applied. -/
def sdP (s : State) (c item : Nat) : Int := getP s 0x08 c item

/-- SD_KIND of a channel as applied. -/
def sdKind (s : State) (c : Nat) : Nat := natP s 0x08 c dSD_KIND

/-- Does a channel run closed loop (12 R272)? -/
def sdRegulates (s : State) (c : Nat) : Bool := decide (sdP s c dSD_MODE = 1)

/-- Is a channel allocated: in use, or held (12 R263)? -/
def sdAllocated (s : State) (c : Nat) : Bool := decide (sdKind s c ≠ 0) || decide ((sdOf s c).hold ≠ .none)

/-- The compensation table a channel names, if it is loaded (12 R271). -/
def sdTable (s : State) (c : Nat) : Option CompTable := kget (fun _ => none) s.src.tables (natP s 0x08 c dSD_TABLE)

/-- SD_BITS in force: 16 under PPS tuning (12 R263). -/
def sdBits (s : State) (c : Nat) : Nat := if (sdOf s c).hold = .pps then 16 else natP s 0x08 c dSD_BITS

/-- T_c in SCLK ticks: 2^b FCLK counts of two ticks (12 R262). -/
def sdPeriod (s : State) (c : Nat) : Nat := 2 * 2 ^ sdBits s c

/-- Δ in Q16 units with 16 fraction bits (12 R266). -/
def sdDelta (s : State) (c : Nat) : Nat := roundDiv (natP s 0x08 c dSD_SLEW * 2 ^ (16 + sdBits s c)) 625000

/-- The port whose gate items name a channel as its proof channel (12 R277). -/
def proofPort (s : State) (c : Nat) : Option Nat :=
  [0, 1].find? (fun p => decide (natP s 0x08 (0x40 + p) dGATE_PROOF_SD = c))

/-- t of an ON channel: the proof setpoint, the regulator's output, SD_SAFE on a lost loop, or SD_SET + y (12 R265, R273,
R277). -/
def sdTarget (s : State) (c : Nat) : Int :=
  let x := sdOf s c
  let cl := clampI (sdP s c dSD_MIN) (sdP s c dSD_MAX)
  match proofPort s c with
  | some p => cl (roundDivI (65536 * sdP s (0x40 + p) dGATE_PROOF_UA) (sdP s (0x40 + p) dGATE_PROOF_FS_UA))
  | none =>
    if sdRegulates s c then (if x.lost then sdP s c dSD_SAFE else cl x.u) else cl (sdP s c dSD_SET + x.y)

/-- t by state (12 R265, R268; PPS tuning keeps its own). -/
def sdTargetNow (s : State) (c : Nat) : Int :=
  let x := sdOf s c
  if x.hold = .pps then x.t
  else match x.st with
    | .on => sdTarget s c
    | .off => x.t
    | .stopping => sdP s c dSD_SAFE
    | .tripped => sdP s c dSD_SAFE

/-- C of a present value p; PPS tuning drives a unipolar duty (12 R263, R265). -/
def sdCount (s : State) (c : Nat) (p : Int) : Int :=
  let q := if sdKind s c = 2 then p + 32768 * 65536 else p
  roundDivI (q * (2 ^ sdBits s c : Nat)) (2 ^ 32)

/-- One step of p toward t (12 R266). -/
def sdSlew (p t delta : Int) : Int := p + clampI (-delta) delta (t - p)

/-- A carrier period starts: p slews and C is loaded (12 R262, R265, R266, R268). -/
def sdAdvance (s : State) (c : Nat) : State :=
  let t := sdTargetNow s c
  let x := sdOf s c
  let free := decide (x.hold = .pps) || decide (x.st = .tripped) || decide (sdP s c dSD_SLEW = 0)
  let p := if free then t * 65536 else sdSlew x.p (t * 65536) (sdDelta s c : Int)
  modSd s c (fun x => { x with t := t, p := p, count := sdCount s c p, periodAt := x.periodAt + sdPeriod s c })

/-- Source 106 ends 10 s after the last channel that raised it left its limits (12 Table 12-5). -/
def satQuiet (s : State) : State :=
  let marked := (List.range 8).filter (fun c => (sdOf s c).satMark)
  if !isLive s 106 then s
  else
    let due := marked.foldl (fun m c => max m ((sdOf s c).satLeft + 10 * secTicks)) (nowClk s)
    let quiet := if marked.any (fun c => (sdOf s c).satTold) then none else some due
    setSrcRec s 106 { srcRec s 106 with quietAt := quiet }

/-- A channel is off its limits: its stay there, if any, ends (12 R272, Table 12-5). -/
def satLeave (s : State) (c : Nat) : State :=
  let x := sdOf s c
  let t := modSd s c (fun x => { x with satSince := none, satTold := false, satLeft := if x.satTold then nowClk s else x.satLeft })
  if x.satTold then satQuiet t else t

/-- A channel turns ON from a present value; its integral term starts there (12 R268, R272). -/
def sdOn (s : State) (c : Nat) (p : Int) : State :=
  let q : Rat := (p : Rat) / 65536
  let s := modSd s c (fun x => { x with
    st := .on, p := p, low := false, integ := q, u := roundQ q, atMax := false, atMin := false, lastTs := none,
    goodAt := nowClk s })
  modSd s c (fun x => { x with t := sdTarget s c })

/-- A channel is OFF: its pins are low (12 R268). -/
def sdOff (s : State) (c : Nat) : State := 
  satLeave (modSd s c (fun x => { x with st := .off, low := true })) c

/-- The ramp-down to SD_SAFE begins (12 R268). -/
def sdStop (s : State) (c : Nat) : State :=
  satLeave (modSd s c (fun x => { x with st := .stopping, t := sdP s c dSD_SAFE })) c

/-! ### PPS tuning (08 R188; 12 R263) -/

/-- PPS tuning takes a channel; 0xFF takes none. -/
def ppsTake (s : State) (c : Nat) : State :=
  if 7 < c then s
  else
    let d := getP s 0x06 0 tPPS_TUNE_DUTY
    modSd s c (fun x => { x with hold := .pps, low := false, t := d, periodAt := nowClk s })

/-- PPS tuning gives a channel back. -/
def ppsDrop (s : State) (c : Nat) : State :=
  if 7 < c then s else modSd s c (fun x => { x with hold := .none, low := true })

/-- PPS tuning sets its channel's duty. -/
def ppsDuty (s : State) (duty : Nat) : State :=
  let c := natP s 0x06 0 tPPS_TUNE_SD
  if c < 8 && (sdOf s c).hold = .pps then modSd s c (fun x => { x with t := (duty : Int) }) else s

/-! ### Results (12 R271 to R274) -/

/-- y of a table at a temperature, and whether it lies outside the table's span (12 R271). -/
def tableY (ps : List (Int × Int)) (t : Int) : Int × Bool :=
  match ps with
  | [] => (0, true)
  | p :: rest =>
    if t < p.1 then (p.2, true)
    else
      match (p :: rest).getLast? with
      | some q =>
        if q.1 < t then (q.2, true)
        else
          let above := rest.find? (fun r => decide (t ≤ r.1))
          let below := ((p :: rest).filter (fun r => decide (r.1 ≤ t))).getLast?
          match below, above with
          | some a, some b =>
            if a.1 = t || b.1 ≤ a.1 then (a.2, false)
            else (roundDivI (a.2 * (b.1 - a.1) + (b.2 - a.2) * (t - a.1)) (b.1 - a.1), false)
          | some a, none => (a.2, false)
          | none, _ => (p.2, true)
      | none => (0, true)

/-- A source that names a channel is raised (12 Table 12-5). -/
def sdRaise (s : State) (src c : Nat) : State := detect s { raiseBlank src with ins := c }

/-- A condition that several channels share ends when no channel has it (12 Table 12-5; log 188). -/
def sdClear (s : State) (src : Nat) (holds : SdChan → Bool) : State :=
  if (List.range 8).any (fun c => holds (sdOf s c)) then s else clearIf s src

/-- The table of a channel takes a result: y, source 105 (12 R271). -/
def sdTakeTable (s : State) (c : Nat) (tb : CompTable) (value : Int) : State :=
  let r := tableY tb.points value
  let s := modSd s c (fun x => { x with y := r.1, outSpan := r.2 })
  if r.2 then sdRaise s 105 c else sdClear s 105 (fun x => x.outSpan)

/-- The saturation watch after a regulator step; a move from one limit to the other starts a new stay (12 R272, Table 12-5). -/
def sdWatchSat (s : State) (c : Nat) : State :=
  let x := sdOf s c
  if x.atMax || x.atMin then
    if x.satSince.any (fun a => a.2 = x.atMax) then s
    else
      let s := satLeave s c
      modSd s c (fun x => { x with
        satSince := some (nowClk s, x.atMax), satMark := x.satMark && decide (nowClk s < x.satLeft + 10 * secTicks) })
  else satLeave s c

/-- A stay of 10 s at a limit raises source 106, once (12 R272). -/
def sdSaturated (s : State) (c : Nat) : State :=
  let x := sdOf s c
  match x.satSince with
  | some a =>
    if a.1 + 10 * secTicks ≤ nowClk s && !x.satTold then
      sdRaise (satQuiet (modSd s c (fun x => { x with satTold := true, satMark := true }))) 106 c
    else s
  | none => s

/-- One step of the PI regulator at a result (12 R272); its arithmetic is exact (log 84). -/
def sdRegulate (s : State) (c : Nat) (value : Int) (ts : Nat) : State :=
  let x := sdOf s c
  let lo := sdP s c dSD_MIN
  let hi := sdP s c dSD_MAX
  let e : Rat := ((sdP s c dSD_TARGET + x.y - value : Int) : Rat) / 10000
  let dt : Rat := match x.lastTs with
    | some t => ((tsDiff ts t : Int) : Rat) / 320000000000
    | none => 0
  let integ :=
    if (x.atMax && decide (0 < e)) || (x.atMin && decide (e < 0)) then x.integ
    else clampQ (lo : Rat) (hi : Rat) (x.integ + (sdP s c dSD_KI : Rat) * e * dt)
  let u := clampI lo hi (roundQ ((sdP s c dSD_KP : Rat) * e + integ))
  let s := modSd s c (fun x => { x with
    integ := integ, u := u, atMax := decide (u = hi), atMin := decide (u = lo), lastTs := some ts })
  sdWatchSat s c

/-- The feedback or table entry of a channel is lost (12 R273). -/
def sdLose (s : State) (c : Nat) : State := sdRaise (modSd s c (fun x => { x with lost := true })) 103 c

/-- The entry is good again: the condition of source 103 ends at a good result, whatever the channel's state (12 R273, Table 12-5). -/
def sdFound (s : State) (c : Nat) : State :=
  sdClear (modSd s c (fun x => { x with lost := false, goodAt := nowClk s })) 103 (fun x => x.lost)

/-- The entry whose loss 12 R273 watches: the feedback entry in REGULATE mode, the table's in OPEN mode. -/
def sdWatched (s : State) (c : Nat) : Option Nat :=
  if sdRegulates s c then some (natP s 0x08 c dSD_FB_ENTRY) else (sdTable s c).map (fun t => t.entry)

/-- Does a channel take its limit temperature from an entry: its feedback or its table entry (12 R274)? -/
def sdFeels (s : State) (c entry : Nat) : Bool :=
  (sdRegulates s c && decide (natP s 0x08 c dSD_FB_ENTRY = entry)) ||
    (match sdTable s c with
    | some t => decide (t.entry = entry)
    | none => false)

/-- Over-temperature of a channel at a result (12 R274). -/
def sdLimit (s : State) (c : Nat) (value : Int) (failed : Bool) : State :=
  let lim := sdP s c dSD_TLIMIT
  if lim < value then
    if (sdOf s c).st = .on then sdRaise (satLeave (modSd s c (fun x => { x with st := .tripped, hot := true })) c) 104 c else s
  else if value ≤ lim - 10000 && !failed then sdClear (modSd s c (fun x => { x with hot := false })) 104 (fun x => x.hot)
  else s

/-- Is the limit temperature of a channel, on each entry it takes one from, at or below SD_TLIMIT − 1 K (12 Table 12-3)? -/
def sdCooled (s : State) (c : Nat) : Bool :=
  (List.range 32).all (fun n => !sdFeels s c n ||
    (!feFailed (natP s 0x07 n fRESULT_FLAGS) && decide (getP s 0x07 n fRESULT_VALUE ≤ sdP s c dSD_TLIMIT - 10000)))

/-- What one channel does at a result of a chart entry (12 R271 to R274). -/
def sdTake (s : State) (entry : Nat) (value : Int) (failed : Bool) (ts : Nat) (c : Nat) : State :=
  if sdKind s c = 0 || (sdOf s c).hold ≠ .none then s
  else
    let s := if sdFeels s c entry then sdLimit s c value failed else s
    let s := match sdTable s c with
      | some t => if t.entry = entry && !failed then sdTakeTable s c t value else s
      | none => s
    let on := decide ((sdOf s c).st = .on)
    if on && decide (sdWatched s c = some entry) then
      if failed then sdLose s c
      else
        let s := sdFound s c
        let s := if sdRegulates s c then sdRegulate s c value ts else s
        modSd s c (fun x => { x with t := sdTarget s c })
    else
      let s := if !on && !failed && decide (sdWatched s c = some entry) then sdFound s c else s
      if on then modSd s c (fun x => { x with t := sdTarget s c }) else s

/-- A result of a chart entry reaches the source drive (12 R271 to R274). -/
def srcResult (s : State) (entry : Nat) (value : Int) (failed : Bool) (ts : Nat) : State :=
  (List.range 8).foldl (sdTake · entry value failed ts) s

/-! ### Gate tests (12 R275 to R277) -/

/-- Are run gates tested under a plan (12 R275)? -/
def runTested (s : State) (p : Nat) (v : PlanView) : Bool :=
  decide ((natP s 0x08 (0x40 + p) dISNS_BLANK + 30) * 256 ≤ vn v pCHIRP_SAMPLES * 128 + tk (vn v pGATE_TAIL))

/-- GATE_DIAG of a plan and the gate items (12 R276). -/
def gateDiag (s : State) (p : Nat) (v : PlanView) : Nat :=
  if getP s 0x08 (0x40 + p) dISNS_ENABLE = 0 then 3
  else if planBlind v then 2
  else if runTested s p v then 0
  else if vn v pPROOF_EVERY ≠ 0 then 1
  else 2

/-- PORT_APPLY or SRC_CONFIG establishes a port's coverage: GATE_DIAG, and source 109 or 110 when it becomes BLIND or a plan applied is
blind by R14 or R50 (12 R276; 01 R14; 02 R50; log 172). -/
def gateEstablish (s : State) (p : Nat) (v : PlanView) (applied : Bool) : State :=
  let d := gateDiag s p v
  let was := natP s 0x08 (0x40 + p) dGATE_DIAG
  let s := setP s 0x08 (0x40 + p) dGATE_DIAG (d : Int)
  if d = 2 then
    if was ≠ 2 || (applied && planBlind v) then detect s (portRaise (109 + p) p (planOpen v / 8000) 0) else s
  else clearIf s (109 + p)

/-- Is a proof gate tested now (12 R275)? -/
def proofTested (s : State) (p : Nat) : Bool :=
  let c := natP s 0x08 (0x40 + p) dGATE_PROOF_SD
  let x := sdOf s c
  decide (c = 0xFF) || (decide (x.st = .on) && decide (x.p = sdTarget s c * 65536))

/-- A gate opens: its test window is placed if it is to be tested (12 R275). -/
def gateTestStart (s : State) (p : Nat) (proof : Bool) (ply : Nat) : State :=
  let x := portOf s p
  let on := decide (x.st = .running) && decide (getP s 0x08 (0x40 + p) dISNS_ENABLE = 1)
  let tested := if proof then proofTested s p else runTested s p (pv s p)
  if on && tested then
    let from_ := tickOf (if proof then x.proofFrom else x.gateFrom) + (if proof then 30 else natP s 0x08 (0x40 + p) dISNS_BLANK)
    let g : GateTest := ⟨clkOfTick s (from_ + 30), (x.shots - 1) % 2 ^ 32, ply, proof⟩
    { s with src := { s.src with gates := kmod gateBlank s.src.gates p (fun w => { w with tests := w.tests ++ [g] }) } }
  else s

end Sys2Proof.Machine
end

