-- ==== Sys2Proof/Machine/PairOps.lean ====
section
/-! DEFINITION. Machine/PairOps.lean: the operations over a pair that other chapters share: roles, HEALTH, digests,
checkpoints, STATUS, what a takeover adopts (17). -/

namespace Sys2Proof.Machine

/-- The state with the pair's record changed. -/
def modPair (s : State) (f : Pair → Pair) : State := { s with pair := f s.pair }

/-- PAIR_ENABLE = 1. -/
def pairOn (s : State) : Bool := decide (getP s 0x0B 0 lPAIR_ENABLE = 1)

/-- The code of a role (17 Table 17-2). -/
def roleCode : Role → Nat
  | .unpaired => 0
  | .standby => 1
  | .active => 2
  | .claiming => 3
  | .releasing => 4
  | .faulted => 5

/-- The unit takes a role. -/
def setRole (s : State) (r : Role) : State := modPair s (fun x => { x with role := r, roleAt := nowClk s, faultCleared := false })

/-- PEER_LOSS_US in SCLK ticks. -/
def peerLoss (s : State) : Nat := natP s 0x0B 0 lPEER_LOSS_US * usTicks

/-- Has a time been past for PEER_LOSS_US, or never been (17 R356, R360, R366)? -/
def lostSince (s : State) (t : Option Nat) : Bool :=
  match t with
  | some c => decide (c + peerLoss s ≤ nowClk s)
  | none => true

/-- The peer's wave is absent (17 R356). -/
def waveAbsent (s : State) : Bool := lostSince s s.pair.peerEdge

/-- A live source of severity PAIR_RELEASE_SEV or higher (17 R357, R359). -/
def pairCause (s : State) : Bool :=
  s.col.sources.any (fun p => p.2.live && decide (natP s 0x0B 0 lPAIR_RELEASE_SEV ≤ severityFor s p.1 p.2.data.ins))

/-- A FAULTED unit returns to STANDBY once no cause is live and a FAULT_CLEAR has completed (17 R357). -/
def pairRecover (s : State) : State :=
  if s.pair.role = .faulted ∧ s.pair.faultCleared ∧ !pairCause s then setRole s .standby else s

/-- A live source of PAIR_RELEASE_SEV or higher, source 31 apart, which R356 does not watch (17 R356, Table 17-8; 18 R377, R379). -/
def pairStops (s : State) : Bool :=
  s.col.sources.any (fun p =>
    decide (p.1 ≠ 31) && p.2.live && decide (natP s 0x0B 0 lPAIR_RELEASE_SEV ≤ severityFor s p.1 p.2.data.ins))

/-- Does R360 turn a command of this unit away with PEER_ACTIVE? -/
def standbyRefuses (s : State) (op : Nat) : Bool :=
  if !pairOn s then false
  else if op = 0x0302 then
    !(waveAbsent s && lostSince s s.pair.activeAt)
  else decide (s.pair.role = .standby)

/-- No light may leave the unit: pairing is on and it holds no wave (17 R356, R360). -/
def launchesHeld (s : State) (_p : Nat) : Bool := pairOn s && !s.pair.wave

/-! ### Epoch and claims (17 R358, R367) -/

/-- EPOCH becomes one more than the greater of its own and the peer's (17 R358). -/
def raiseEpoch (s : State) : State :=
  setP s 0x0B 0 lPAIR_EPOCH (((max (epochOf s) s.pair.peerEpoch + 1) % 2 ^ 32 : Nat) : Int)

/-- The first multiple of 250,000 ticks after the present one (17 R361). -/
def nextCut (s : State) : Nat := (s.time.ticks / 250000 + 1) * 250000

/-- The unit enters ACTIVE: its checkpoints begin (17 R361). -/
def enterRoleActive (s : State) : State :=
  let t := nextCut s
  modPair (setRole s .active) (fun x => { x with wave := true, cutAt := t })

/-- A PORT_START has been accepted: a paired unit enters ACTIVE with a new epoch, unless it is ACTIVE or CLAIMING (17 R358,
R360). -/
def pairStart (s : State) : State :=
  if !pairOn s || decide (s.pair.role = .active) || decide (s.pair.role = .claiming) then s
  else enterRoleActive (raiseEpoch s)

/-! ### PLAN_DIGEST (17 R364) -/

/-- The port items of PLAN_DIGEST. -/
def digestItems : List Nat :=
  [0x0001, 0x0002, 0x0003, 0x0004, 0x0005, 0x0007, 0x0008, 0x0009, 0x000A, 0x000B, 0x000C, 0x0010, 0x0011, 0x0012, 0x0013,
    0x0014, 0x0015, 0x0019, 0x001A, 0x001B, 0x001C, 0x001D, 0x0050, 0x0052, 0x0053, 0x0054, 0x0055, 0x0057, 0x0058, 0x0059,
    0x005A, 0x005B, 0x0061, 0x0062, 0x0063, 0x0076, 0x0077, 0x0078, 0x0079, 0x007A, 0x007B]

/-- Every RW item number of a zone. -/
def zoneRwItems : List Nat :=
  (((itemRowsOf 0x04).filter (fun r => r.acc = 1)).map (fun r => (List.range (r.hi + 1 - r.lo)).map (· + r.lo))).flatten

/-- PLAN_DIGEST of a port (17 R364). -/
def planDigest (s : State) (p : Nat) : Nat :=
  let ports := digestItems.map (fun i => leBytesI 4 (getP s 0x03 p i))
  let zones := ((List.range 128).filter (zoneDefined s)).map (fun z =>
    (zoneRwItems.map (fun i => leBytesI 4 (getP s 0x04 z i))).flatten)
  crc32c (ports.flatten ++ zones.flatten)

/-! ### HEALTH (17 R359) -/

/-- CKPT_PERIOD_NOW (17 R365). -/
def ckptPeriodNow (s : State) : Nat := ckptPeriod s (sceneNow s)

/-- The ports that the active unit runs, as the latest complete checkpoint says. -/
def ckptRuns (c : Ckpt) : List (Nat × CkptPort) :=
  ((List.range c.ports.length).zip c.ports).filter (fun (q : Nat × CkptPort) => q.2.running)

/-- ARMED of HEALTH. -/
def healthArmed (s : State) : Bool :=
  match s.pair.ckpt with
  | none => false
  | some c => (ckptRuns c).all (fun (q : Nat × CkptPort) =>
      decide ((portOf s q.1).st = .armed) &&
        (List.range 8).all (fun ch => decide (sdP s ch dSD_PORT ≠ (q.1 : Int)) || decide ((sdOf s ch).st = .on)))

/-- PLAN_MATCH of HEALTH. -/
def planMatch (s : State) : Bool :=
  match s.pair.ckpt with
  | none => false
  | some c => (ckptRuns c).all (fun (q : Nat × CkptPort) => decide (q.2.digest = planDigest s q.1))

/-- CKPT_CURRENT of HEALTH. -/
def ckptCurrent (s : State) : Bool :=
  match s.pair.ckpt with
  | none => false
  | some c => decide (tsDiff (nowTs s) c.cutTs ≤ (tk (2 * ckptPeriodNow s * usTicks) : Nat))

/-- HEALTH (17 Table 17-3). -/
def health (s : State) : Nat :=
  let b1 := linkUp s && !s.purl.txIdle
  let b2 := ckptCurrent s
  let b3 := planMatch s
  let b4 := healthArmed s
  let b5 := !pairCause s
  bitN (b1 && b2 && b3 && b4 && b5) + 2 * bitN b1 + 4 * bitN b2 + 8 * bitN b3 + 16 * bitN b4 + 32 * bitN b5

/-- READY and NO_CAUSE of a HEALTH byte. -/
def healthReady (h : Nat) : Bool := h.testBit 0
/-- See `healthReady`. -/
def healthNoCause (h : Nat) : Bool := h.testBit 5

/-! ### Fast records (17 Table 17-5) -/

/-- Φ of the gauges of a delivered row is kept for 200 µs (17 Table 17-5). -/
def pairNoteRow (s : State) (p : Nat) (r : PhaseRow) : State :=
  if !pairOn s then s
  else
    let phis := (portOf s p).ph.gauges.map (fun g => g.phi)
    let old := (kget (fun _ => []) s.pair.recent p).filter (fun q => decide (tsDiff r.tL q.1 ≤ (tk (200 * usTicks) : Nat)))
    modPair s (fun x => { x with recent := kput (fun _ => []) x.recent p ((r.tL, phis) :: old) })

/-- Φ of a gauge at the kept samples, relative to the newest, with the times from the newest: newest first. -/
def recentOf (s : State) (p i : Nat) : List (Int × Int) :=
  let xs := kget (fun _ => []) s.pair.recent p
  match xs with
  | [] => []
  | n :: _ => xs.map (fun (q : Nat × List Nat) => (tsDiff q.1 n.1, wrapS 34 (((nth 0 q.2 i : Nat) : Int) - ((nth 0 n.2 i : Nat) : Int))))

/-- RATE: the change over the kept samples in units of 64 (17 Table 17-5). -/
def fastRate (xs : List (Int × Int)) : Int :=
  match xs.getLast? with
  | some q => clampI (-8192) 8191 (roundDivI (-q.2) 64)
  | none => 0

/-- SWING: the largest deviation from the straight line between the first and the last kept sample, in units of 256, up
(17 Table 17-5). -/
def fastSwing (xs : List (Int × Int)) : Nat :=
  match xs.getLast? with
  | none => 0
  | some e =>
    let dev := xs.map (fun (q : Int × Int) =>
      if e.1 = 0 then (0 : Rat) else
        let d := (q.2 : Rat) - (e.2 : Rat) * (q.1 : Rat) / (e.1 : Rat)
        if d < 0 then -d else d)
    min 255 (ceilQ ((dev.foldl max 0) / 256)).toNat

/-- The fast record of gauge i (17 Table 17-5). -/
def fastRec (s : State) (p i : Nat) (g : Gauge) : FastRec :=
  let x := portOf s p
  let q := match x.ph.out with
    | some r => nth 0x10 r.qual i
    | none => 0x10
  let settles := match x.ph.out with
    | some r => settling (pv s p) g r.tL
    | none => false
  let xs := recentOf s p i
  ⟨g.phi, fastRate xs, fastSwing xs, g.anchor, q.testBit 7, settles, !q.testBit 4 && decide (g.run = 0)⟩

/-- The 64 bits of a fast record (17 Table 17-5). -/
def fastWord (r : FastRec) : Nat :=
  r.phi * 2 ^ 30 + bitsOf 14 r.rate * 2 ^ 16 + r.swing * 2 ^ 8 + r.anchor * 2 ^ 4 + bitN r.dead * 4 + bitN r.settling * 2 + bitN r.usable

/-- The fast record of 64 bits (17 Table 17-5). -/
def fastOfWord (w : Nat) : FastRec :=
  ⟨w / 2 ^ 30 % 2 ^ 34, wrapS 14 (w / 2 ^ 16 % 2 ^ 14 : Nat), bitField w 15 8, bitField w 7 4, w.testBit 2, w.testBit 1, w.testBit 0⟩

/-- Fast records as they are sent, 8 bytes each (17 R361). -/
def fastBytes (rs : List FastRec) : List Byte := (rs.map (fun r => leBytes 8 (fastWord r))).flatten

/-- The fast records of a packet's payload. -/
def fastRecs (bs : List Byte) : List FastRec :=
  (List.range (bs.length / 8)).map (fun i => fastOfWord (fieldAt bs (8 * i) 8))

/-! ### Checkpoints (17 R361, R363) -/

/-- CKPT_HEAD's part for a port. -/
def ckptPort (s : State) (p : Nat) : CkptPort :=
  let x := portOf s p
  let i := match x.ph.out with
    | some r => r.idx
    | none => 0
  ⟨decide (x.st = .running) || decide (x.st = .draining), launchMode s p, i / planP_ (pv s p), i % planP_ (pv s p),
    match x.ph.out with | some r => r.tL | none => 0,
    x.lock.cycleEdge.getD 0, natP s 0x03 (governor s p) pREF_PERIOD, planDigest s p⟩

/-- Every 64th element of a list, from one on, with its index: the rotation share (17 R363). -/
def shareOf {α : Type} (rot : Nat) (xs : List α) : List (Nat × α) :=
  ((List.range xs.length).zip xs).filter (fun q => decide (q.1 % 64 = rot))

/-- Does a zone carry zone-stitch records (17 R361)? -/
def zoneCarries (s : State) (z : Nat) : Bool :=
  let v := zview s z
  decide (zn v zDC_SHIFT ≠ 0) || decide (zn v zPRODUCT = 1)

/-- A zone's record (17 R361). -/
def zoneRec (s : State) (z : Nat) : ZoneRec :=
  let x := zoneOf s z
  ⟨z, x.stages.map (fun st => st.n), x.outIdx, warmupLen (zview s z) - x.outIdx, x.frozen⟩

/-- A zone's records of the stitches of the rotation share (17 R361, R363). -/
def zoneShare (s : State) (rot z : Nat) : List ZStitchRec :=
  let x := zoneOf s z
  let v := zview s z
  ((List.range (zcount v)).filter (fun q => decide (zstitch v q % 64 = rot))).map (fun q =>
    ⟨z, q, nth none x.mu q, (nth (0, 0) x.p48 q).1 / 4294967296⟩)

/-- The packets of a checkpoint but the last, in order (17 Table 17-4). -/
def ckptBodies (s : State) (cutTs : Nat) : List CkptBody :=
  let rot := s.pair.rot
  let runs := [0, 1].filter (fun p => (ckptPort s p).running)
  let zones := (List.range 128).filter (zoneDefined s)
  [.head s.pair.ckptSeq rot cutTs ([0, 1].map (ckptPort s))] ++
    runs.map (fun p =>
      let gs := (portOf s p).ph.gauges
      .fast p (fastBytes (((List.range gs.length).zip gs).map (fun (q : Nat × Gauge) => fastRec s p q.1 q.2)))) ++
    runs.map (fun p => .slow p ((shareOf rot (portOf s p).ph.gauges).map (fun (q : Nat × Gauge) =>
      (q.1, (⟨q.2.psi, q.2.last, q.2.plies⟩ : SlowRec))))) ++
    (runs.filter (fun p => decide (getP s 0x03 p pTGATE_ENABLE = 1))).map (fun p =>
      .fusion p (shareOf rot (portOf s p).raman.fuse)) ++
    [.zone (zones.map (zoneRec s)) ((zones.filter (zoneCarries s)).map (zoneShare s rot)).flatten]

/-- A checkpoint is cut and sent; a stretched cadence raises source 116, which a cut at 200 µs ends on the active unit (17 R361, R363, R365;
log 194). -/
def cutCkpt (s : State) (cutTs : Nat) : State :=
  let bs := ckptBodies s cutTs
  let s := sendBodies s (bs ++ [.tail (bs.length + 1)])
  let s := modPair s (fun x => { x with ckptSeq := (x.ckptSeq + 1) % 2 ^ 32, rot := (x.rot + 1) % 64, lastCkpt := cutTs })
  if 200 < ckptPeriodNow s then raiseOnce s (raiseBlank 116) else clearIf s 116

/-! ### Checkpoints coming in (17 R362, R364) -/

/-- PL_PEER_OFFSET added to a time of the peer (17 R362; log 96). -/
def toOwn (s : State) (t : Nat) : Nat := tsAdd t (getP s 0x0B 0 lPL_PEER_OFFSET)

/-- The head of a list of packets. -/
def headOf (ps : List CkptPacket) : Option (Nat × List CkptPort) :=
  ps.findSome? (fun (p : CkptPacket) => match p.body with | .head _ _ t xs => some (t, xs) | _ => none)

/-- The records of a complete checkpoint's packet enter what the standby keeps (17 R362). -/
def keepShare (s : State) (p : CkptPacket) : State :=
  match p.body with
  | .slow port rs => rs.foldl (fun s (q : Nat × SlowRec) =>
      modPair s (fun x => { x with slow := kput noRec x.slow (port * 2 ^ 20 + q.1) (some q.2) })) s
  | .fusion port rs => rs.foldl (fun s (q : Nat × Fuse) =>
      modPair s (fun x => { x with fusion := kput noRec x.fusion (port * 2 ^ 20 + q.1) (some q.2) })) s
  | .zone _ zs => zs.foldl (fun s (q : ZStitchRec) =>
      modPair s (fun x => { x with zstitch := kput noRec x.zstitch (q.zone * 2 ^ 20 + q.pos) (some q) })) s
  | _ => s

/-- A checkpoint is complete at the standby (17 R362, R364, Table 17-7). -/
def ckptComplete (s : State) (ps : List CkptPacket) (cut : Nat) (ports : List CkptPort) : State :=
  let fast := ps.filterMap (fun (p : CkptPacket) => match p.body with | .fast port bs => some (port, fastRecs bs) | _ => none)
  let zones := (ps.filterMap (fun (p : CkptPacket) => match p.body with | .zone zs _ => some zs | _ => none)).flatten
  let own := ports.map (fun (c : CkptPort) => { c with sampleTs := toOwn s c.sampleTs, refTs := toOwn s c.refTs })
  let cutTs := toOwn s cut
  let s := ps.foldl keepShare s
  let s := modPair s (fun x => { x with
    ckpt := some ⟨cutTs, own, fast, zones⟩, ckptClk := nowClk s, incoming := none, lastCkpt := cutTs })
  let s := if tsDiff (nowTs s) cutTs ≤ (tk (200 * usTicks) : Nat) then clearIf s 116 else s
  if planMatch s then clearIf s 117
  else if s.pair.role = .standby then raiseOnce s (raiseBlank 117) else s

/-- A checkpoint is discarded whole (17 R362). -/
def ckptMissed (s : State) : State :=
  modPair (bumpP s 0x0B 0 lCKPT_MISSED) (fun x => { x with incoming := none })

/-- A checkpoint packet joins the one coming in (17 R362): `whole` says that the CRC over all payloads agrees. -/
def ckptTake (s : State) (p : CkptPacket) (whole : Bool) : State :=
  let next := (p.seq + 1) % 2 ^ 32
  match p.body with
  | .head _ _ _ _ =>
    let s := if s.pair.incoming.isSome then ckptMissed s else s
    modPair s (fun x => { x with incoming := some ⟨[p], next, false⟩ })
  | .tail n =>
    match s.pair.incoming with
    | none => s
    | some c =>
      if whole && decide (n = c.packets.length + 1) && decide (c.nextSeq = p.seq) && !c.broken then
        match headOf c.packets with
        | some h => ckptComplete s c.packets h.1 h.2
        | none => ckptMissed s
      else ckptMissed s
  | .swapPrepare => s
  | .swapReady => s
  | _ =>
    match s.pair.incoming with
    | none => s
    | some c => modPair s (fun x => { x with
        incoming := some ⟨c.packets ++ [p], next, c.broken || decide (c.nextSeq ≠ p.seq)⟩ })

/-- A packet of another type stands between the packets of a checkpoint: its SEQ is no gap (17 R362). -/
def ckptPasses (s : State) (seq : Nat) : State :=
  match s.pair.incoming with
  | some c => if c.nextSeq = seq then modPair s (fun x => { x with incoming := some { c with nextSeq := (seq + 1) % 2 ^ 32 } }) else s
  | none => s

/-! ### STATUS and CAPS (16 R346, R349) -/

/-- VERSION of a firmware slot's header (20 Table 20-6, bits [575:544]). -/
def fwVersion (x : FwSlot) : Nat := fieldAt x.image 68 4

/-- DEV_ID (14 Table 14-2). -/
abbrev devId : Nat := 0x64200001

/-- The lanes of the peer that are aligned at this receiver, by logical lane (16 R346 RX_LANES). -/
def rxAligned (s : State) : Nat :=
  sumN ((s.purl.lanes.filter (fun l => decide (2 ≤ (rxLane s l).seen))).map (fun l => 2 ^ (rxLane s l).logical))

/-- The payload of a CAPS packet (16 R346). -/
def capsPayload (s : State) : List Byte :=
  let slot := if s.boot.fwSlot = 0 then s.boot.slotA else s.boot.slotB
  leBytes 2 0x0100 ++ leBytes 2 Config.ckptVer ++ leBytes 1 s.boot.unitId ++ leBytes 1 (bitN s.purl.peerSeen) ++
    leBytes 1 (rxAligned s) ++ zeros 1 ++ leBytes 4 devId ++ leBytes 4 (fwVersion slot) ++ leBytes 4 (epochOf s) ++
    leBytes 1 (roleCode s.pair.role) ++ zeros 11

/-- The payload of a STATUS packet (16 R349). -/
def statusPayload (s : State) : List Byte :=
  let e := s.purl.echo.getD (0, 0)
  tsBytes (nowTs s) ++ tsBytes e.1 ++ tsBytes e.2 ++ leBytes 4 (epochOf s) ++ leBytes 1 (roleCode s.pair.role) ++
    leBytes 1 s.boot.unitId ++ leBytes 1 (bitN s.pair.holdSent) ++ leBytes 1 (health s) ++ zeros 4

/-- A STATUS packet goes out (16 R349). -/
def sendStatus (s : State) : State :=
  let s := sendBytes s false (packetBytes 0x01 0 s.boot.unitId s.purl.seq (statusPayload s))
  modPurl s (fun x => { x with statusAt := nowClk s + natP s 0x0B 0 lPL_STATUS_PERIOD * usTicks })

/-! ### What a takeover adopts (17 R368, R369) -/

/-- Is there a complete checkpoint younger than 1 s (17 R368)? -/
def ckptUsable (s : State) : Option Ckpt :=
  s.pair.ckpt.filter (fun c => decide (tsDiff (nowTs s) c.cutTs < (tk secTicks : Nat)))

/-- What a gauge starts from: phi_acc, and whether it is adopted (17 R368). Δt in 3.125 ps. -/
def adoptGauge (dt : Int) (r : FastRec) : Nat × Bool :=
  let unit : Int := (tk (200 * usTicks) : Nat)
  let n := (dt + unit - 1) / unit
  let pred := roundDivI (r.rate * 64 * dt) unit
  let bound := pred.natAbs + r.swing * 256 * n.toNat
  (bitsOf 34 ((r.phi : Int) + pred), r.usable && !r.dead && decide (bound < 131072))

/-- The fast records of a port in a checkpoint. -/
def fastOf (c : Ckpt) (p : Nat) : List FastRec := ((c.fast.find? (fun q => q.1 = p)).map (fun q => q.2)).getD []

/-- The gauges of a port re-anchor at the last sample of shot 1: where each starts, and which are adopted (17 R368). -/
def adoptPort (s : State) (p tL : Nat) : List (Nat × Bool) :=
  let n := (portOf s p).ph.gauges.length
  match ckptUsable s with
  | none => List.replicate n (0, false)
  | some c =>
    let dt := tsDiff tL (((c.ports[p]?).map (fun (q : CkptPort) => q.sampleTs)).getD 0)
    let rs := fastOf c p
    (List.range n).map (fun i => match rs[i]? with
      | some r => adoptGauge dt r
      | none => (0, false))

/-- P48 and PHI of a PHI zone's stitches after a takeover: the checkpointed high bits and the adopted PHI (17 R369). -/
def restoreZone (s : State) (z : Nat) (phis : List Int) : State :=
  let v := zview s z
  if zn v zPRODUCT ≠ 1 then s
  else
    modZone s z (fun x => { x with restore := (List.range (zcount v)).map (fun q =>
      let phi := nth 0 phis (zstitch v q)
      let hi := match kget noRec s.pair.zstitch (z * 2 ^ 20 + q) with
        | some r => r.p48hi
        | none => 0
      (wrapS 48 (hi * 4294967296 + (bitsOf 32 phi : Nat)), phi)) })

/-- The gauges of a port take phi_acc once its last sample of shot 1 has been delivered; those not adopted owe DISCONT (17
R368, R369). -/
def adoptNow (s : State) (p tL : Nat) : State :=
  let xs := adoptPort s p tL
  let s := modPort s p (fun x =>
    let gs := x.ph.gauges
    let e := x.ph
    { x with ph := { e with gauges := (List.range gs.length).map (fun i =>
      let q := nth (0, false) xs i
      { nth gaugeNone gs i with phi := q.1, base := q.1, oweDisc := !q.2 }) } })
  let lost := (xs.filter (fun (q : Nat × Bool) => !q.2)).length
  let s := addP s 0x0B 0 lDISCONT_LAST lost
  let s := modPair s (fun x => { x with adopting := x.adopting.filter (· ≠ p) })
  let phis := xs.map (fun (q : Nat × Bool) => wrapS 32 (((q.1 + 2) / 4 : Nat) : Int))
  (zonesOfPort s p).foldl (fun s z => restoreZone s z phis) s

/-- LAST_GAP is measured at the first valid sample after a claim, in µs, rounded up (17 R371; log 97). -/
def gapMeasure (s : State) (r : PhaseRow) : State :=
  match s.pair.gapFrom with
  | none => s
  | some t =>
    if r.qual.all (fun q => q.testBit 4) then s
    else
      let clk := nowClk s - (s.time.ticks - tickOf r.tL)
      modPair (setP s 0x0B 0 lLAST_GAP ((ceilDiv (clk - t) usTicks : Nat) : Int)) (fun x => { x with gapFrom := none })

/-- A row of shots 0 and 1 of a port that a claim has started enters the quality test (17 R370). -/
def qtestRow (s : State) (p : Nat) (r : Row) : State :=
  if s.pair.role ≠ .claiming || !s.pair.started.contains p || decide (2 ≤ r.l.planShot) then s
  else
    let v := pv s p
    let first := vn v pSWATCH_FIRST
    let swatch := (r.zs.drop first).take (vn v pSWATCH_COUNT)
    let all := r.zs.take 1024 ++ (if first < 1024 then swatch.drop (1024 - first) else swatch)
    let pow := fun (z : Stitch) => (z.xr * z.xr + z.xi * z.xi + z.yr * z.yr + z.yi * z.yi).natAbs
    modPair s (fun x => { x with qtest := kmod qtestBlank x.qtest p (fun q =>
      ⟨q.rows + 1, q.missing || r.l.missing, q.degraded || r.flags.testBit 6, q.seen + all.length,
        q.flagged + (all.filter (fun z => decide (z.flags % 16 ≠ 0))).length, q.power + sumN (swatch.map pow),
        q.count + swatch.length⟩) })

/-- A claimant hands no frame, hank or event to a ring before its quality test (17 R369). -/
def withheld (s : State) (ring : Nat) : Bool := decide (s.pair.role = .claiming) && decide (ring < 130)

/-- In a planned swap the active unit's launches have stopped: its role is RELEASING (17 Table 17-6). -/
def pairDrains (s : State) : State :=
  if s.pair.release && decide (s.pair.role = .active) then setRole s .releasing else s

end Sys2Proof.Machine
end

