-- ==== Sys2Proof/Machine/SliceOps.lean ====
section
/-! DEFINITION. Machine/SliceOps.lean: the slices of the ADC channels: spares and map, slice steps and their slots, foreground
runs (03 R54 to R60; 19 R397 to R401). -/

namespace Sys2Proof.Machine

/-! ### Channels and spares (03 Table 03-5, 19 Table 19-3) -/

/-- An ADC channel of a port. -/
def adcOf (s : State) (p c : Nat) : AdcChan := kget adcBlank (portOf s p).adc c

/-- The state with an ADC channel replaced. -/
def setAdc (s : State) (p c : Nat) (x : AdcChan) : State :=
  modPort s p (fun q => { q with adc := kput adcBlank q.adc c x })

/-- The factors of a slice. -/
def factorsOf (x : Port) (c slice : Nat) : SliceFactors := kget sliceUnity x.factors (c * 18 + slice)

/-- A tick that is a multiple of 16, an interleave frame boundary, not before `t` (03 R56). -/
def frameTick (t : Nat) : Nat := ceilDiv t 16 * 16

/-- What a channel's map, factors and interpolation now are is in force from a tick on; the last 64 such changes are kept (03
R56). -/
def logSet (s : State) (p c tick : Nat) : State :=
  let a := adcOf s p c
  let x := portOf s p
  setAdc s p c { a with sets := (⟨tick, a.map, a.map.map (factorsOf x c), a.interp⟩ :: a.sets).take 64 }

/-- Spares of a channel: slices neither in the map nor held out (03 Table 03-5). -/
def spares (x : AdcChan) : List Nat :=
  (List.range 18).filter (fun i => !x.map.contains i && !x.out.contains i)

/-- SPARES_LEFT of a port (03 Table 03-5). -/
def sparesLeft (s : State) (p : Nat) : Nat :=
  sumN ((List.range 4).map (fun c => 16 ^ c * (spares (adcOf s p c)).length))

/-- SLICE_MAP of a channel: the physical slices in service (03 Table 03-5). -/
def sliceMapItem (x : AdcChan) : Nat := sumN ((x.map.filter (fun i => !x.out.contains i)).map (fun i => 2 ^ i))

/-- The SCLK count at which a slice last passed its calibration; none: never. -/
def passedAt (x : AdcChan) (n : Nat) : Option Nat := kget (fun _ => none) x.passed n

/-- Spares that hold factors from a passing run (19 R402). -/
def readySpares (x : AdcChan) : List Nat := (spares x).filter (fun i => (passedAt x i).isSome)

/-- The slice of a list with the greatest `f`, the first of those that tie. -/
def bestSlice (f : Nat → Nat) : List Nat → Option Nat
  | [] => none
  | i :: is =>
    match bestSlice f is with
    | some j => if f i < f j then some j else some i
    | none => some i

/-- The spare with the most recent passing factors (19 R397, Table 19-3). -/
def bestSpare (x : AdcChan) : Option Nat := bestSlice (fun i => (passedAt x i).getD 0) (readySpares x)

/-- The slice that was judged longest ago, one that never was before any other: in eighteen steps every slice has its turn (19 R397; log
101). -/
def oldestSlice (x : AdcChan) : Nat :=
  let tried := fun (i : Nat) => kget (fun _ => none) x.tried i
  let last := maxN ((List.range 18).map (fun i => (tried i).getD 0))
  (bestSlice (fun i => match tried i with
    | some t => last - t
    | none => last + 1) (List.range 18)).getD 0

/-- Slots whose slice is held out take a ready spare, or are interpolated (03 R58, R60; 19 R400). -/
def remapFrom : Nat → AdcChan → AdcChan
  | 0, x => x
  | n + 1, x =>
    let slot := 15 - n
    let x :=
      if x.out.contains (nth 0 x.map slot) then
        match bestSpare x with
        | some i => { x with map := setNth x.map slot i, interp := x.interp.filter (fun j => j ≠ slot) }
        | none => { x with interp := if x.interp.contains slot then x.interp else x.interp ++ [slot] }
      else { x with interp := x.interp.filter (fun j => j ≠ slot) }
    remapFrom n x

/-- The channel's map after its slices have been judged. -/
def remap (x : AdcChan) : AdcChan := remapFrom 16 x

/-! ### Judging a slice (19 R399, R400) -/

/-- Do a measurement's factors lie in the ranges of 03 R55, with a residual error within the limit (19 R399)? -/
def sliceOk (r : SliceResult) : Bool :=
  decide (r.residual ≤ 512) && decide (-512 ≤ r.ofs) && decide (r.ofs ≤ 511) && decide (14746 ≤ r.gain) && decide (r.gain ≤ 18022) &&
    decide (-3277 ≤ r.skew) && decide (r.skew ≤ 3276)

/-- Do the two passes of a slice at cast-on agree (19 R400)? -/
def passesAgree (a : SliceFactors) (r : SliceResult) : Bool :=
  decide ((a.ofs - r.ofs).natAbs ≤ 8) && decide ((a.gain - r.gain).natAbs ≤ 33) && decide ((a.skew - r.skew).natAbs ≤ 164)

/-- A channel has a spare again, or a held-out slice has passed: source 34 or 35 clears with the port's last such channel (03 R60,
Table 03-6). -/
def shortEnds (s : State) (p c : Nat) : State :=
  if !(adcOf s p c).short then s
  else
    let s := setAdc s p c { adcOf s p c with short := false }
    if (List.range 4).any (fun d => (adcOf s p d).short) then s else clearIf s (34 + p)

/-- A channel has no spare for a faulty slot: source 34 or 35 (03 R60). -/
def shortStarts (s : State) (p c : Nat) : State :=
  detect (setAdc s p c { adcOf s p c with short := true }) { portRaise (34 + p) p 0 0 with ins := c }

/-- A slice passes: factors, a spare again if it was held out (19 R399, R410; 03 Table 03-6). -/
def slicePasses (s : State) (p c n : Nat) (r : SliceResult) : State :=
  let a := adcOf s p c
  let held := a.out.contains n
  let s := setAdc s p c { a with
    out := a.out.filter (fun i => i ≠ n), passed := kput (fun _ => none) a.passed n (some (nowClk s)) }
  let s := modPort s p (fun x => { x with factors := kput sliceUnity x.factors (c * 18 + n) ⟨r.ofs, r.gain, r.skew⟩ })
  let s := repairDrop s (.slice p c n)
  if held || (readySpares (adcOf s p c)).contains n then shortEnds s p c else s

/-- A slice fails: held out, in the repair map, source 32 or 33, whose live bit clears at the end of the step (19 R399; 03 Table
03-6). -/
def sliceFails (s : State) (p c n : Nat) : State :=
  let a := adcOf s p c
  let s := setAdc s p c { a with out := if a.out.contains n then a.out else a.out ++ [n] }
  let s := bumpP (calFail (repairAdd s (.slice p c n)) 0 p) 0x09 p aSLICE_FAILS
  quietIn (detect s { portRaise (32 + p) p 0 0 with ins := c * 256 + n }) (32 + p) 0

/-- A measured slice is judged. -/
def sliceJudge (s : State) (p c n : Nat) (ok : Bool) (r : SliceResult) : State :=
  let a := adcOf s p c
  let s := setAdc s p c { a with tried := kput (fun _ => none) a.tried n (some (nowClk s)) }
  if ok then slicePasses s p c n r else sliceFails s p c n

/-- The map of a channel after judging, from the next frame boundary on; a channel newly left with fewer than sixteen runs under
03 R60 (03 R56; 19 R400). -/
def channelSettle (s : State) (p c : Nat) : State :=
  let a := adcOf s p c
  let b := remap a
  let s := logSet (setAdc s p c b) p c (frameTick s.time.ticks)
  if a.interp.isEmpty && !b.interp.isEmpty then shortStarts s p c else s

/-! ### Steps (19 R397, R398) -/

/-- Bursts of a step. -/
abbrev stepBursts : Nat := 15

/-- SCLK ticks of a burst, 8 µs. -/
abbrev burstTicks : Nat := 10000

/-- Bursts a step has made by now. -/
def burstsMade (s : State) (k : CalStep) : Nat :=
  k.bursts + (match k.freeFrom with
    | some t => (nowClk s - t) / burstTicks
    | none => 0)

/-- Has the last of a step's bursts ended (19 R397)? -/
def stepOver (s : State) (k : CalStep) : Bool := decide (stepBursts ≤ burstsMade s k) && decide (k.busyTo ≤ nowClk s)

/-- The slice that a step takes on a channel, which a spare replaces if it is in service; a channel with no spare or out of service
takes none, and the change waits while the channel waits for a repair (19 R397; 03 R58; log 101). -/
def stepTake (x : AdcChan) : AdcChan :=
  if !x.waits.isEmpty then { x with testing := none, stepDue := true }
  else if x.fgSince.isSome then { x with testing := none }
  else match bestSpare x with
    | none => { x with testing := none }
    | some sp =>
      let n := oldestSlice x
      match (List.range 16).find? (fun i => decide (nth 18 x.map i = n)) with
      | some slot => { x with map := setNth x.map slot sp, testing := some n }
      | none => { x with testing := some n }

/-- A step makes its planned change on a channel, at the next frame boundary (03 R56). -/
def stepChange (s : State) (p c : Nat) : State :=
  logSet (setAdc s p c (stepTake (adcOf s p c))) p c (frameTick s.time.ticks)

/-- A step begins on the four channels of a port. -/
def stepBegin (s : State) (p bursts : Nat) (freeFrom : Option Nat) (ofRun : Bool) : State :=
  let s := (List.range 4).foldl (fun s c => stepChange s p c) s
  modPort s p (fun x => { x with calStep := some ⟨bursts, freeFrom, ofRun, nowClk s + bursts * burstTicks⟩ })

/-- A repair of a channel is complete: a planned change that waited for it is made (03 R58). -/
def stepResume (s : State) (p c : Nat) : State :=
  let a := adcOf s p c
  if a.stepDue && a.waits.isEmpty then
    let s := setAdc s p c { a with stepDue := false }
    if (portOf s p).calStep.isSome then stepChange s p c else s
  else s

/-- A step is abandoned: its slices keep their previous factors (19 Table 19-2). -/
def stepAbandon (s : State) (p : Nat) : State :=
  let s := (List.range 4).foldl (fun s c => setAdc s p c { adcOf s p c with testing := none, stepDue := false }) s
  modPort s p (fun x => { x with calStep := none })

/-- Does the rotation run on a port: ADC_AUTOCAL = 1, in force from the end of the cast-on calibrations (19 R398, R406)? -/
def rotates (s : State) (p : Nat) : Bool := s.boot.userApplied && decide (getP s 0x09 p aADC_AUTOCAL = 1)

/-- While a port is ARMED or IDLE the next step follows at once: a CAL_RUN's, then the rotation's (19 R398). -/
def stepKick (s : State) (p : Nat) : State :=
  let x := portOf s p
  if x.calStep.isSome || x.calFg.isSome || !(x.st = .idle || x.st = .armed) then s
  else if x.calLeft ≠ 0 then stepBegin s p 0 (some (nowClk s)) true
  else if rotates s p then stepBegin s p 0 (some (nowClk s)) false
  else s

/-- A port has stopped: the bursts left run without slots (19 Table 19-2). -/
def stepToFree (s : State) (p : Nat) : State :=
  stepKick (modPort s p (fun x => { x with calStep := x.calStep.map (fun k => { k with freeFrom := some (k.freeFrom.getD (max (nowClk s) k.busyTo)) }) })) p

/-- A port starts: the bursts left wait for its slots (19 R398). -/
def stepToSlots (s : State) (p : Nat) : State :=
  modPort s p (fun x => { x with calStep := x.calStep.map (fun k => ⟨burstsMade s k, none, k.ofRun, k.busyTo⟩) })

/-- Is a slot of a plan long enough for a burst: an open selvedge of at least 8 µs (19 R398)? -/
def slotFits (v : PlanView) : Bool := decide (80000000 ≤ planOpen v)

/-- Will the slot of a shot without a proof pulse hold a burst (19 R398; 02 Table 02-5 CAL_IN_SHOT; log 102)? -/
def slotWanted (s : State) (p : Nat) : Bool :=
  let x := portOf s p
  slotFits (pv s p) && x.calFg.isNone &&
    (match x.calStep with
    | some k => decide (k.bursts < stepBursts) && k.freeFrom.isNone
    | none => decide (x.calLeft ≠ 0) || rotates s p)

/-- A slot is offered: the next burst of the step in progress, or the first of a CAL_RUN's or of the rotation's (19 R398). -/
def slotCalibrate (s : State) (p : Nat) : State :=
  let x := portOf s p
  if !x.calIn || !slotWanted s p then s
  else match x.calStep with
    | some k => modPort s p (fun x => { x with calStep := some { k with bursts := k.bursts + 1, busyTo := nowClk s + burstTicks } })
    | none => stepBegin s p 1 none (decide (x.calLeft ≠ 0))

/-! ### Foreground runs (19 R400) -/

/-- SCLK ticks that a channel is out: 18 slices at 120 µs and 40 µs (19 R400). -/
abbrev fgChannelTicks : Nat := 2200 * usTicks

/-- The gap between XQ and YI in SCLK ticks: τ + 2h + 1 µs rounded up to a whole microsecond (19 R400; 03 R59). -/
def fgGapTicks (v : PlanView) : Nat := ceilDiv (planTau v + 384000 * planP_ v + 10000000) 10000000 * usTicks

/-- The channel of a stage; none: the gap. -/
def fgChannel (stage : Nat) : Option Nat :=
  match stage with
  | 0 => some 0
  | 1 => some 1
  | 3 => some 2
  | 4 => some 3
  | _ => none

/-- The channel of a stage leaves service (03 R76). -/
def fgTake (s : State) (p stage : Nat) : State :=
  match fgChannel stage with
  | some c => setAdc s p c { adcOf s p c with fgSince := some s.time.ticks }
  | none => s

/-- The channel of a stage returns to service at a tick; the repair of a fault declared meanwhile is due at the next frame boundary, and no
suspect interval starts later (03 R76). -/
def fgReturn (s : State) (p stage now : Nat) : State :=
  match fgChannel stage with
  | some c =>
    let a := adcOf s p c
    let past := a.fgPast ++ (a.fgSince.toList).map (fun t => (t, now))
    setAdc s p c { a with
      fgSince := none, fgPast := past.drop (past.length - 4)
      waits := a.waits.map (fun w => (w.1, max w.2 (frameTick now)))
      suspect := a.suspect.map (fun i => if i.2.isNone then (min i.1 now, none) else i) }
  | none => s

/-- A foreground run starts on a port; a step in progress is abandoned (19 R400; log 103). -/
def fgBegin (s : State) (p pass : Nat) : State :=
  let s := stepAbandon s p
  let s := modPort s p (fun x => { x with
    calLeft := 0, calFgDue := false, calFg := some ⟨0, nowClk s + fgChannelTicks, pass, []⟩ })
  calBegin (fgTake s p 0) 0 p .foreground

/-- A foreground run ends early: its channel returns at the next frame boundary with its previous factors (19 R401). -/
def fgDrop (s : State) (p : Nat) : State :=
  match (portOf s p).calFg with
  | some f => modPort (fgReturn s p f.stage (frameTick s.time.ticks)) p (fun x => { x with calFg := none })
  | none => s

/-- A new plan is in force on a port, or it starts: with an open selvedge below 8 µs a step is abandoned and a CAL_RUN in the
background changes to the foreground at shot 0 (19 Table 19-2). -/
def stepOnPlan (s : State) (p : Nat) : State :=
  let x := portOf s p
  if x.st ≠ .running then s
  else
    let s := stepToSlots s p
    if slotFits (pv s p) then s
    else modPort (stepAbandon s p) p (fun x => { x with calFgDue := x.calFgDue || decide (x.calLeft ≠ 0) })

/-- Shot 0 of a plan starts: a CAL_RUN that was to change to the foreground does (19 Table 19-2). -/
def fgAtShot (s : State) (p : Nat) : State := if (portOf s p).calFgDue then fgBegin s p 0 else s

/-! ### States that CAL_STATUS and CAL_SUMMARY show (19 R396) -/

/-- Does a slice step of the rotation run on a port, or on either for inst 0xFF? -/
def rotationRuns (s : State) (ins : Nat) : Bool :=
  (if ins = 0xFF then [0, 1] else [ins]).any (fun p => (portOf s p).calStep.isSome)

/-- STATE of CAL_STATUS (19 R396; log 104). -/
def calState (s : State) (dom ins : Nat) : Nat :=
  match (calGet s dom ins).st with
  | .idle => bitN (decide (dom = 0) && rotationRuns s ins)
  | .background => 1
  | .foreground => 2
  | .queued => 3

/-- CAL_SUMMARY: bit 8 + d while domain d runs on any inst, bit d while the last run of any inst did not pass (19 R396;
14 Table 14-2). -/
def calSummary (s : State) : Nat :=
  sumN ((List.range 8).map (fun d =>
    2 ^ (8 + d) * bitN (s.cal.recs.any (fun p => decide (p.1 / 256 = d) && decide (p.2.st ≠ .idle)) ||
      (decide (d = 0) && rotationRuns s 0xFF)) +
    2 ^ d * bitN (s.cal.recs.any (fun p => decide (p.1 / 256 = d) && decide (p.2.lastStatus ≠ 0)))))

end Sys2Proof.Machine
end

