-- ==== Sys2Proof/Machine/Links.lean ====
section
/-! DEFINITION. Machine/Links.lean: what one chapter asks of another's state. -/

namespace Sys2Proof.Machine

/-! ### Ports -/

/-- Is a port IDLE (08 R190)? -/
def portIdle (s : State) (p : Nat) : Bool := decide ((portOf s p).st = .idle)

/-- Does a port use a TRIGIN pin for its launches while ARMED or RUNNING (08 R190)? -/
def trigOfArmed (s : State) (pin : Nat) : Bool :=
  [0, 1].any (fun p =>
    (decide ((portOf s p).st = .armed) || decide ((portOf s p).st = .running)) &&
      decide (launchMode s p ≠ 0) && decide (natP s 0x03 (governor s p) pLAUNCH_TRIG = pin))

/-- Is the timebase in use: a port not IDLE, a skein not IDLE or UNDEFINED, a start time AT pending (08 R186)? -/
def timebaseInUse (s : State) : Bool :=
  [0, 1].any (fun p => !portIdle s p) || !(skeinsWith (skRuns s)).isEmpty ||
    (List.range 128).any (fun z => (zoneOf s z).syncAt.isSome)

/-! ### What a port does to zones and skeins (06 R144, 07 R171) -/

/-- A new plan is in force on a port. -/
def onPlanInForce (s : State) (p : Nat) : State :=
  loopsWatch (compKick (skeinsMark (zonesPlanInForce (stepOnPlan s p) p) p (nowTs s) .plan))

/-- A port has started. -/
def onPortStarted (s : State) (p : Nat) : State := loopsWatch (compKick (zonesPortStarted (stepOnPlan s p) p))

/-- A port's drain has ended with a stop. -/
def onPortStopped (s : State) (p : Nat) : State :=
  loopsWatch (compKick (skeinsStopped (zonesPortStopped (stepToFree s p) p) p))

/-- A break is declared on a port. -/
def onBreak (s : State) (p : Nat) : State := skeinsMark s p (nowTs s) .dead

/-- The budgets of a PORT_APPLY after its port checks (15 R330). -/
def planBudget (s : State) (ps : List Nat) : Option Reply := budgetFault s (scenePlans s ps) (ps.headD 0)

/-- A row of the phase engine goes to the zones, the fusion's interval means, the statistics and the checkpoints (04 R95, 05
R120, 09 R204, 17 R361, R371). -/
def deliverPhase (s : State) (p : Nat) (r : PhaseRow) : State :=
  let s := pairNoteRow (gapMeasure s r) p r
  zonesTakePhase (statsTake (fusionTake s p r) p r) p r

/-- An update of TR, FT or FS goes to the zones (05 R115, R120). -/
def deliverTemp (s : State) (p product : Nat) (r : TRow) : State := zonesTakeTemp s p product r

/-- An output row of a zone goes to skeins and kernels (07 R163; 09 R210). -/
def onZoneRow (s : State) (z : Nat) (r : ZRow) : State := kernelsRow (skeinsRow s z r) z r

/-! ### What the host link asks of the consumers of its rings (14 R312, R313) -/

/-- A frame has been delivered: the last frame of a CAP_READ completes it (07 R173). -/
def frameDelivered (s : State) (j : Job) : State :=
  match j with
  | .capRead k =>
    (match (skOf s k).reading with
    | some info => complete (modSk s k (fun x => { x with reading := none })) j (okWith (readPayload info))
    | none => s)
  | _ => s

/-- KRN_LOADs in progress end ABORTED, each past its descriptor (09 R213; 14 R308, R312, R313). -/
def abortLoads (s : State) : State :=
  (List.range 16).foldl (fun s n => if (krnOf s n).st = .loading then dropShadow s n else s) s

/-- What consumes from an H2C ring, by ring number, ends ABORTED (14 R312). -/
def abortConsumers (s : State) (ring : Nat) : State :=
  match ring with
  | 132 => stageLost s stAborted
  | 133 => abortLoads s
  | 135 => abortJobs s
  | _ => s

/-- KRN_LOAD, FW_STAGE and compression jobs end ABORTED at an endpoint reset (14 R313). -/
def abortHostTransfers (s : State) : State := abortJobs (abortLoads (stageLost s stAborted))

end Sys2Proof.Machine
end

