-- ==== Sys2Proof/Machine/Host.lean ====
section
/-! DEFINITION. Machine/Host.lean: BAR0 and BAR4 accesses, rings, interrupts, link and endpoint events (14). -/

namespace Sys2Proof.Machine

/-! ### Writing into host memory (14 R304) -/

/-- Bytes written into a ring's data area from an offset, wrapping to its start (14 R304). -/
def ringWrite (m : Memory) (base len off : Nat) (bs : List Byte) : Memory :=
  memWrite (memWrite m (base + off) (bs.take (len - off))) base (bs.drop (len - off))

/-- A frame is written at PROD, padded, and the status block after it (14 R304). -/
def writeFrame (s : State) (r : Nat) (f : Frame) : State :=
  let x := ringOf s r
  let f := if x.gapNext then { f with flags := f.flags ||| 8 } else f
  let s := if x.gapNext && decide (r < 128) then bumpP s 0x04 r zGAP_COUNT else s
  let bs := frameBytes f
  let len := ringDataLen x
  let prod := (x.prod + bs.length) % len
  let s := { s with link := { s.link with
    hostMem := ringWrite s.link.hostMem x.base len x.prod bs, bytesNow := s.link.bytesNow + bs.length } }
  let s := setRing s r { x with
    prod := prod, seq := (x.seq + 1) % 2 ^ 32, gapNext := false, ends := x.ends ++ [prod] }
  announce (writeStatus s r) r

/-- C2H_FRAME_WRITE: the oldest frame that waits for the ring fits and is written; on ring 130 the oldest closed journal
frame (14 R304, R306; 18 R388; 07 R173). -/
def execC2hFrameWrite (ring : Nat) (s : State) : Host.Outcome State Fault Refusal :=
  if ring = 130 then
    match s.col.closed with
    | [] => .next (clearBehind s)
    | x :: _ =>
      let f := journalFrame s x
      if ringTakes s 130 (frameSize f) then .next (journalDelivered (writeFrame s 130 f)) else .next (setBehind s)
  else
    match (ringOf s ring).queue with
    | [] => .next s
    | q :: qs =>
      if decide (ring < 132) && !withheld s ring && ringTakes s ring (frameSize q.frame) then
        let s := setRing s ring { ringOf s ring with queue := qs }
        .next (frameDelivered (writeFrame s ring q.frame) q.last)
      else .next s

/-! ### Ring registers (14 R302, R303, R305) -/

/-- May an ENABLE take effect now: at READY, or rings C2H 130 and H2C 0 in RECOVERY (14 R314, 20 R429; in FAILED the
journal ring stays available, 20 R420)? -/
def ringsMayRun (s : State) (r : Nat) : Bool :=
  decide (s.boot.st = .ready) ||
    (decide (s.boot.st = .recovery) && (decide (r = 130) || decide (r = 132))) ||
    (decide (s.boot.st = .failed) && decide (r = 130))

/-- ENABLE of a ring is written 1: it starts; before READY at READY, and while it is STOPPING once it has stopped (14 R303, R314). -/
def enableRing (s : State) (r : Nat) : State :=
  let x := ringOf s r
  if 136 ≤ r || x.enable then s
  else if ringsMayRun s r && x.st ≠ .stopping then ringStart s r
  else setRing s r { x with enable := true }

/-- Is a descriptor of an H2C ring in progress: a FW_STAGE or a KRN_LOAD (14 R303, R308)? -/
def ringWorks (s : State) (r : Nat) : Bool :=
  match r with
  | 132 => s.boot.staging.isSome
  | 133 => decide (krnLoads s ≠ 0)
  | _ => false

/-- ENABLE of a ring is written 0: it is STOPPING until the descriptor in progress is complete; then the status block is written and it is
DISABLED. What waits stays queued (14 R303). -/
def disableRing (s : State) (r : Nat) : State :=
  let x := ringOf s r
  if 136 ≤ r || !x.enable then s
  else if x.st = .running then settleRing (setRing s r { x with enable := false, st := .stopping }) r (ringWorks s r)
  else setRing s r { x with enable := false, st := if x.st = .stopping then .stopping else .disabled }

/-- RING_ENABLE (14 R303, R314). -/
def execRingEnable (ring : Nat) (s : State) : Host.Outcome State Fault Refusal :=
  .next (if s.link.endpointUp then enableRing s ring else s)

/-- RING_DISABLE (14 R303). -/
def execRingDisable (ring : Nat) (s : State) : Host.Outcome State Fault Refusal :=
  .next (if s.link.endpointUp then disableRing s ring else s)

/-- A ring stops in ERROR (14 R305, R312). -/
def ringError (s : State) (r code : Nat) : State := setRing s r { ringOf s r with st := .error, error := code }

/-- Source 81, live until 1 s with none (14 Table 14-11). -/
def badRequest (s : State) : State := quietIn (detectSrc s 81) 81 secTicks

/-- The frame ends after an offset that CONS may move to; none: CONS may not (14 R305). -/
def endsAfter (v : Nat) : List Nat → Option (List Nat)
  | [] => none
  | e :: es => if e = v then some es else endsAfter v es

/-- CONS of a C2H ring is written: the host releases frames it has read; a bad offset puts the ring into ERROR (14 R305). -/
def writeCons (s : State) (r v : Nat) : State :=
  let x := ringOf s r
  if 132 ≤ r || x.st ≠ .running || v = x.cons then s
  else match endsAfter v x.ends with
    | some es => setRing s r { x with cons := v, ends := es }
    | none => badRequest (ringError s r 1)

/-- C2H_CONS_WRITE (14 R305). -/
def execC2hConsWrite (ring v : Nat) (s : State) : Host.Outcome State Fault Refusal :=
  .next (if s.link.endpointUp then writeCons s ring v else s)

/-- Entries of an H2C ring (14 R302, R308). -/
def ringEntries (x : Ring) : Nat := ringDataLen x / 64

/-- PROD of an H2C ring is written; past CONS by more than the entries it sets ERROR 2 (14 R305, R308; log 192). -/
def writeProd (s : State) (r v : Nat) : State :=
  let x := ringOf s r
  if r < 132 || 136 ≤ r || x.st ≠ .running then s
  else if ringEntries x < (v % 2 ^ 32 + 2 ^ 32 - x.cons) % 2 ^ 32 then ringError s r 2
  else setRing s r { x with prod := v % 2 ^ 32 }

/-- H2C_PROD_WRITE: PROD of H2C ring `ring` (14 R305, R308). -/
def execH2cProdWrite (ring v : Nat) (s : State) : Host.Outcome State Fault Refusal :=
  .next (if s.link.endpointUp && decide (ring < 4) then writeProd s (132 + ring) v else s)

/-- The ring and register offset a BAR0 offset names (14 Table 14-2). -/
def ringRegister (off : Nat) : Option (Nat × Nat) :=
  if 0x100 ≤ off && off < 0x1100 then some ((off - 0x100) / 32, (off - 0x100) % 32)
  else if 0x1100 ≤ off && off < 0x1180 then some (128 + (off - 0x1100) / 32, off % 32)
  else if 0x1180 ≤ off && off < 0x1200 then some (132 + (off - 0x1180) / 32, off % 32)
  else none

/-- A ring register is written: BASE and SIZE_LOG2 only while ENABLE = 0; ENABLE, PROD and CONS act as R303 and R305 say (14 R302, R303,
R305). -/
def writeRingRegister (s : State) (r reg v : Nat) : State :=
  let x := ringOf s r
  match reg with
  | 0x00 => if x.enable then s else setRing s r { x with base := x.base / 2 ^ 32 * 2 ^ 32 + v / 4096 * 4096 }
  | 0x04 => if x.enable then s else setRing s r { x with base := x.base % 2 ^ 32 + v * 2 ^ 32 }
  | 0x08 =>
    let s := setRing s r { x with
      vector := bitField v 31 24, hold := bitField v 23 16, rlx := v.testBit 1
      size := if x.enable then x.size else bitField v 7 3 }
    if v.testBit 0 then enableRing s r else disableRing s r
  | 0x0C => setRing s r { x with modCount := bitField v 31 16, modUs := bitField v 15 0 }
  | 0x10 => writeProd s r v
  | 0x14 => writeCons s r v
  | _ => s

/-- A word of the MSI-X table is written; a vector unmasked with its PBA bit set is sent (14 R299, R306; log 30). -/
def writeMsix (s : State) (w v : Nat) : State :=
  let s := { s with link := { s.link with msixTable := kput msixReset s.link.msixTable w v } }
  let vec := w / 4
  if w % 4 = 3 && v % 2 = 0 && s.link.pba.testBit vec then
    raiseVector { s with link := { s.link with pba := putBit s.link.pba vec false } } vec
  else s

/-- A BAR0 write at an offset (14 Table 14-2): read-only and reserved offsets ignore it (00 R4, R5); a doorbell's requests are commands of
their own. -/
def writeBar0 (s : State) (off v : Nat) : State :=
  if off = 0x54 then { s with link := { s.link with faultVector := bitField v 15 8, mbxVector := bitField v 7 0 } }
  else if 0x80000 ≤ off && off < 0x80880 then writeMsix s ((off - 0x80000) / 4) v
  else match ringRegister off with
    | some p => writeRingRegister s p.1 p.2 v
    | none => s

/-- REGISTER_WRITE: a 32-bit write to a BAR0 register without behaviour of its own, or of MSI-X Enable (14 R299). -/
def execRegisterWrite (target : RegTarget) (v : Nat) (s : State) : Host.Outcome State Fault Refusal :=
  if !s.link.endpointUp then .next s
  else match target with
    | .bar0 off => .next (writeBar0 s off (v % 2 ^ 32))
    | .msixEnable => .next { s with link := { s.link with msixOn := decide (v ≠ 0), inta := s.link.inta && decide (v = 0) } }

/-! ### BAR0 and BAR4 reads (14 R299, R300, R306; 13 R280) -/

/-- STATE of BOOT_STATE as a number (14 Table 14-3). -/
def bootCode : BootSt → Nat
  | .reset => 0x0
  | .nvmLoaded => 0x1
  | .linkReady => 0x2
  | .fwBoot => 0x3
  | .dramTrain => 0x4
  | .calibrating => 0x5
  | .ready => 0x6
  | .recovery => 0xE
  | .failed => 0xF

/-- The BOOT_STATE word (14 Table 14-3). -/
def bootWord (s : State) : Nat := bootCode s.boot.st + 256 * s.boot.fwSlot + 2 ^ 24 * s.boot.failSource

/-- The host gets an answer. -/
def answerHost (s : State) (a : HostAnswer) : State := { s with link := { s.link with answer := a } }

/-- AER logs an error (14 R311). -/
def logAer (s : State) (e : AerError) : State :=
  { s with link := { s.link with aer := if s.link.aer.contains e then s.link.aer else s.link.aer ++ [e] } }

/-- A request that breaks the rules is logged in AER and raises source 81 (14 R311). -/
def logBad (s : State) (e : AerError) : State := badRequest (logAer s e)

/-- BAR4_READ: served through P7, or Completer Abort before DRAM training and during MEM_TRAIN (14 R300). -/
def execBar4Read (addr len : Nat) (s : State) : Host.Outcome State Fault Refusal :=
  if !s.link.endpointUp then .next s
  else if !s.boot.trainSeen || memTraining s then .next (logBad (answerHost s .completerAbort) .completerAbort)
  else .next (answerHost s (.data (memRead s.dram (addr % 2 ^ 32) len)))

/-- BAR4_WRITE: taken in the H2C staging area, discarded elsewhere and before the DRAM is trained; a training that runs delays it (13 R280,
R283; 14 R298, R300; log 192). -/
def execBar4Write (addr : Nat) (bytes : List Byte) (s : State) : Host.Outcome State Fault Refusal :=
  if !s.link.endpointUp then .next s
  else if s.boot.dramTrained && decide (addr + bytes.length ≤ 0x04000000) then
    .next { s with dram := memWrite s.dram addr bytes }
  else .next (logBad (answerHost s .unsupported) .unsupportedRequest)

/-- HOST_BAD_REQUEST: a request that does not follow the rules is answered as 14 Table 14-9 and 15 Table 15-6 state. -/
def execHostBadRequest (kind : BadRequest) (s : State) : Host.Outcome State Fault Refusal :=
  if !s.link.endpointUp then .next s
  else match kind with
    | .malformedTlp => .next (logBad s .malformedTlp)
    | .ecrcError => .next (logBad s .ecrcError)
    | .receiverOverflow => .next (logBad s .receiverOverflow)
    | .unsupported => .next (logBad (answerHost s .unsupported) .unsupportedRequest)
    | .vendorType1 => .next (answerHost s .none)
    | .poisonedWrite =>
      .next (quietIn (detectSrc (logAer s .poisonedTlp) 82) 82 secTicks)
    | .bar0Read => .next (logBad (answerHost s .completerAbort) .completerAbort)
    | .bar0Write => .next (logBad (answerHost s .unsupported) .unsupportedRequest)
    | .responseHalfWrite => .next (logBad (bumpP s 0x01 0 xMBX_VIOLATIONS) .unsupportedRequest)
    | .requestHalfWrite => .next (bumpP s 0x01 0 xMBX_VIOLATIONS)

/-! ### Link and endpoint (14 R310 to R314) -/

/-- PERST_N_RELEASE: the endpoint leaves reset; the LTSSM may leave Detect once LINK_READY has come (14 R314). -/
def execPerstNRelease (s : State) : Host.Outcome State Fault Refusal :=
  if s.link.perstLow && !s.boot.porstLow then
    .next { s with link := { s.link with perstLow := false, endpointUp := s.link.clkreqLow, mayTrain := s.link.clkreqLow } }
  else .next s

/-- LINK_UP: the link trains to a width and speed; below Gen4 ×8 source 86 is raised (14 R310). -/
def execLinkUp (width speed : Nat) (s : State) : Host.Outcome State Fault Refusal :=
  if s.link.mayTrain && s.link.endpointUp && [1, 2, 4, 8].contains width && decide (1 ≤ speed) && decide (speed ≤ 4) then
    let s := { s with link := { s.link with linkUp := true, width := width, speed := speed } }
    let s := clearLive s 80
    if width < 8 || speed < 4 then .next (detectSrc s 86) else .next (clearLive s 86)
  else .next s

/-- LINK_LOAD, 0.1 %: C2H bytes of the last second over the link's capacity (14 R310). -/
def linkLoad (s : State) : Nat :=
  let lane : Nat := match s.link.speed with
    | 1 => 234000000
    | 2 => 468100000
    | 3 => 921700000
    | 4 => 1843400000
    | _ => 0
  if lane * s.link.width = 0 then 0 else s.link.bytesLast * 1000 / (lane * s.link.width)

/-! ### What the host reads (14 R297, R299) -/

/-- A register of a ring as it reads (14 Table 14-6). -/
def ringWord (x : Ring) (reg : Nat) : Nat :=
  match reg with
  | 0x00 => x.base % 2 ^ 32
  | 0x04 => x.base / 2 ^ 32
  | 0x08 => x.vector * 2 ^ 24 + x.hold * 2 ^ 16 + x.size * 8 + bitN x.rlx * 2 + bitN x.enable
  | 0x0C => x.modCount * 2 ^ 16 + x.modUs
  | 0x10 => x.prod
  | 0x14 => x.cons
  | 0x18 => x.error * 2 ^ 24 + (match x.st with
      | .disabled => 0
      | .running => 1
      | .stopping => 2
      | .error => 3)
  | _ => x.dropped

/-- A 32-bit word of BAR0 as it reads (14 Table 14-2); a doorbell and what is not listed read as zero (00 R4, R5). -/
def bar0Word (s : State) (off : Nat) : Nat :=
  match off with
  | 0x00 => 0x64200001
  | 0x04 => s.boot.devRev
  | 0x10 => bootWord s
  | 0x20 => faultSummary s
  | 0x30 => calSummary s
  | 0x50 => linkLoad s * 2 ^ 16 + s.link.width * 16 + s.link.speed
  | 0x54 => s.link.faultVector * 256 + s.link.mbxVector
  | 0x58 => s.link.hkDrops
  | _ =>
    match ringRegister off with
    | some p => ringWord (ringOf s p.1) p.2
    | none =>
      if 0x80000 ≤ off && off < 0x80880 then kget msixReset s.link.msixTable ((off - 0x80000) / 4)
      else if 0x81000 ≤ off && off < 0x81018 then s.link.pba / 2 ^ (8 * (off - 0x81000)) % 2 ^ 32
      else 0

/-- The identities in configuration space, by the offset of their word: Vendor and Device ID, Class Code and Revision ID, Subsystem IDs (14
R297). -/
def configWord (s : State) (off : Nat) : Option Nat :=
  match off with
  | 0x00 => some 0x64201F2C
  | 0x08 => some (0x118000 * 256 + s.boot.devRev % 256)
  | 0x2C => some s.link.subsystem
  | _ => none

/-- BOOT_STATE_READ: the word is returned; INTA is deasserted while MSI-X is disabled (14 R306). -/
def execBootStateRead (s : State) : Host.Outcome State Fault Refusal :=
  if s.link.endpointUp then
    let s := answerHost s (.data (leBytes 4 (bar0Word s 0x10)))
    .next { s with link := { s.link with inta := if s.link.msixOn then s.link.inta else false } }
  else .next s

/-- A ring is stopped and cleared; the frames that wait stay queued (14 R313). -/
def clearRing (r : Nat) (x : Ring) : Ring := { ringBlank r with queue := x.queue, gapNext := x.gapNext, faults := x.faults }

/-- The endpoint is reset; the device keeps running (14 R313). -/
def resetEndpoint (s : State) (kind : EndpointReset) : State :=
  let s := abortHostTransfers s
  let keepLink := decide (kind = .flr)
  let rings := s.link.rings.foldl (fun m p => kput ringBlank m p.1 (clearRing p.1 p.2)) s.link.rings
  let s := { s with
    slots := []
    link := { s.link with
      rings := rings, faultVector := 0x82, mbxVector := 0x82, msixTable := [], msixOn := false, pba := 0, inta := false
      linkUp := s.link.linkUp && keepLink
      width := if keepLink then s.link.width else 0
      speed := if keepLink then s.link.speed else 0
      perstLow := s.link.perstLow || decide (kind = .perstN)
      endpointUp := s.link.endpointUp && !decide (kind = .perstN)
      mayTrain := s.link.mayTrain && !decide (kind = .perstN) } }
  if keepLink then s else detectSrc s 80

/-- ENDPOINT_RESET: FLR, hot reset, DL_Down or PERST_N (14 R313; 20 R418). -/
def execEndpointReset (kind : EndpointReset) (s : State) : Host.Outcome State Fault Refusal :=
  if s.link.endpointUp && !s.boot.porstLow then .next (resetEndpoint s kind) else .next s

/-- A DMA read has failed: the ring stops in ERROR, its source is raised, and what consumes from it ends ABORTED (14
R312). -/
def dmaFails (s : State) (ring code src : Nat) : State :=
  let x := ringOf s ring
  let s := setRing s ring { x with faults := x.faults.filter (· ≠ src) ++ [src] }
  abortConsumers (detect (ringError s ring code) { raiseBlank src with ins := ring }) ring

/-- Does a ring issue requests: running, or stopping with a descriptor in progress (14 R303, R312)? -/
def ringIssues (s : State) (r : Nat) : Bool := decide (r < 136) && (decide ((ringOf s r).st = .running) || decide ((ringOf s r).st = .stopping))

/-- DMA_COMPLETION_ERROR: UR, CA or poisoned data; ring 132 + h is H2C ring h (14 R312). -/
def execDmaCompletionError (ring : Nat) (s : State) : Host.Outcome State Fault Refusal :=
  if ringIssues s ring then .next (dmaFails s ring 4 84) else .next s

/-- DMA_COMPLETION_TIMEOUT: no completion in time (14 R312). -/
def execDmaCompletionTimeout (ring : Nat) (s : State) : Host.Outcome State Fault Refusal :=
  if ringIssues s ring then .next (dmaFails s ring 5 83) else .next s

/-- IRQ_MOD_TIMER: MOD_US expires and the ring's vector is raised (14 R306). -/
def execIrqModTimer (ring : Nat) (s : State) : Host.Outcome State Fault Refusal :=
  let x := ringOf s ring
  match x.modAt with
  | some t =>
    if t ≤ nowClk s then .next (raiseVector (setRing s ring { x with unannounced := 0, modAt := none }) x.vector)
    else .next s
  | none => .next s

/-! ### Waiting frames (14 R307, R449) -/

/-- Has a waiting frame outstayed HOLD, and may it be dropped: any zone frame, housekeeping types 0 to 4 (14 R307)? -/
def mayDrop (s : State) (r : Nat) (x : Ring) (q : QFrame) : Bool :=
  decide (q.since + x.hold * 10 * msTicks ≤ nowClk s) && (decide (r < 128) || (decide (r = 131) && decide (q.frame.product ≠ 5)))

/-- The queue without its first frame that a test drops, and that frame. -/
def dropFirst (f : QFrame → Bool) : List QFrame → Option (QFrame × List QFrame)
  | [] => none
  | q :: qs => if f q then some (q, qs) else (dropFirst f qs).map (fun p => (p.1, q :: p.2))

/-- A housekeeping frame's records are dropped: DROPPED, HK_DROPS, source 87, GAP on the next (14 R307). -/
def dropHkFrame (s : State) (q : QFrame) (qs : List QFrame) : State :=
  let x := ringOf s 131
  let s := setRing s 131 { x with
    queue := qs, dropped := (x.dropped + q.frame.sampleCount) % 2 ^ 32, gapNext := true }
  let s := { s with link := { s.link with hkDrops := (s.link.hkDrops + q.frame.sampleCount) % 2 ^ 32 } }
  quietIn (detectSrc s 87) 87 secTicks

/-- RING_HOLD_EXPIRY: a zone or housekeeping frame has waited HOLD × 10 ms and is dropped (14 R307). -/
def execRingHoldExpiry (ring : Nat) (s : State) : Host.Outcome State Fault Refusal :=
  let x := ringOf s ring
  match dropFirst (mayDrop s ring x) x.queue with
  | none => .next s
  | some p => if ring < 128 then .next (dropZoneFrame s ring p.2) else .next (dropHkFrame s p.1 p.2)

/-- HOUSEKEEPING_FRAME_CLOSE: an open frame is 10 ms old (14 R449); its size limit closes it in hkPut, the end of its
second in STATISTICS_SECOND. -/
def execHousekeepingFrameClose (key : Nat) (s : State) : Host.Outcome State Fault Refusal :=
  let h := hkGet s key
  if !h.recs.isEmpty && decide (h.since + 10 * msTicks ≤ nowClk s) then .next (hkClose s key) else .next s

end Sys2Proof.Machine
end

