-- ==== Sys2Proof/Machine/Comp.lean ====
section
/-! DEFINITION. Machine/Comp.lean: blocks, host jobs, engine faults and configuration of the stream compressor (10). -/

namespace Sys2Proof.Machine

/-! ### Zone frames (10 R222, R223) -/

/-- A zone frame's block is done: its payload as carried goes to the zone's ring (10 R222, R223). -/
def frameDone (s : State) (f : CompFrame) : State :=
  let z := f.frame.zone
  let p := f.frame.payload
  let t := if f.pre then preTransform (p.length / max 1 f.frame.sampleCount) f.frame.stitchCount f.wbits p else p
  let out := frameStream f.format t
  let raw := decide (f.format ≠ 2) && decide (p.length ≤ out.length)
  let carried := if raw then p else out
  let s := if raw then bumpP s 0x0F z cZNOT_SHRUNK else s
  let s := { s with comp := { s.comp with
    ratioIn := kmod (fun _ => 0) s.comp.ratioIn z (· + p.length)
    ratioOut := kmod (fun _ => 0) s.comp.ratioOut z (· + carried.length) } }
  queueZone s z { f.frame with payload := carried, flags := f.frame.flags ||| (if raw then 2 else 64) }

/-! ### Blocks of jobs (10 R228 to R232) -/

/-- Is there a block or a marker of a job still to be formed? -/
def jobNeeds (j : HostJob) : Bool := !j.ended && (!j.more || decide (blockLen j.format ≤ j.rest.length) || j.flush)

/-- The codes of a block in a job's format, `off` bits into a byte; a stream's block that would not shrink is stored (10 R231,
R232). -/
def jobBlockCodes (j : HostJob) (window block : List Byte) (off : Nat) (final : Bool) : List Code :=
  let stored := storedCodes 2 block final
  if j.format = 2 then stored
  else
    let dyn := dynamicCodes window block final
    if j.stream.isSome && decide ((codesBits stored off).length ≤ (codesBits dyn off).length) then stored else dyn

/-- A job with the codes of its next block formed; a FLUSH that ends its stream leaves an empty final block after the marker (10
R219, R220, R228, R231). -/
def formBlock (j : HostJob) : HostJob :=
  let lim := blockLen j.format
  let block := j.rest.take lim
  let rest := j.rest.drop lim
  let last := rest.isEmpty && !j.more
  let flushes := rest.isEmpty && j.flush && (!j.more || decide (block.length < lim))
  let head := if j.begun || j.format = 0 then [] else zlibHead
  let sums := adlerRun j.sumA j.sumB block
  let body := if flushes && block.isEmpty then []
    else jobBlockCodes j j.window block j.partBits.length (last && !flushes)
  let w := j.window ++ block
  let marker := if flushes then storedBlock [] false else []
  let close := if flushes && last then jobBlockCodes j w [] 0 true else []
  let tail := if last then streamTail j.format (sums.2 * 65536 + sums.1) else []
  { j with
    rest := rest, window := w.drop (w.length - 32768), codes := head ++ body ++ marker ++ close ++ tail, begun := true, ended := last
    flush := j.flush && !flushes, sumA := sums.1, sumB := sums.2 }

/-- A host stream's record changed. -/
def setStream (s : State) (n : Nat) (x : StreamSlot) : State :=
  { s with comp := { s.comp with streams := kput streamNone s.comp.streams n x } }

/-- SUSPEND_TIMEOUT from now, as an SCLK count (10 R230, R231). -/
def suspendEnd (s : State) : Nat := nowClk s + natP s 0x0F 0 cSUSPEND_TIMEOUT * msTicks

/-- A part that has ended OK leaves its stream open or closed (10 R231). -/
def keepStream (s : State) (j : HostJob) : State :=
  match j.stream with
  | none => s
  | some n =>
    if j.more then
      setStream s n (.opened ⟨j.format, j.preRow, j.preWords, j.preW, j.window, j.partBits, j.rest, j.base + j.src.length,
        j.consumed, j.total, j.sumA, j.sumB, j.begun, j.streamEnd⟩)
    else setStream s n .closed

/-- A completion is written and announced on the compression-job ring (10 R233). -/
def endJob (s : State) (j : HostJob) (status upTo : Nat) : State := announce (jobCompletion s j status upTo) 135

/-- `n` free bytes of memory (log 4). -/
def freeBytes (s : State) (n : Nat) : List Byte := (List.range n).map (fun i => Config.freeByte (s.free + i))

/-- A buffer holds nothing defined. -/
def freeBuffer (s : State) (q : Nat × Nat) : State :=
  { s with free := s.free + q.2, link := { s.link with hostMem := memWrite s.link.hostMem q.1 (freeBytes s q.2) } }

/-- A job has not shrunk: none of its output buffers holds anything defined (10 R229). -/
def jobNotShrunk (s : State) (j : HostJob) : State :=
  let s := (j.bufs ++ [(j.dst, j.dstLen), (j.ovf, j.ovfLen)]).foldl freeBuffer s
  endJob (bumpP s 0x0F 0 cJOBS_NOT_SHRUNK) j 0x09 j.consumed

/-- A stream is discarded: parts of it that wait end BAD_STATE (10 R228, R231). -/
def discardStream (s : State) (n : Nat) : State :=
  let js := s.comp.jobs.filter (fun j => decide (j.stream = some n))
  let s := { s with comp := { s.comp with jobs := s.comp.jobs.filter (fun j => !decide (j.stream = some n)) } }
  let s := js.foldl (fun s j => endJob s j 0x04 0) s
  setStream s n (if js.isEmpty then .discarded else .closed)

/-- A job for which no buffer has room left is suspended, unless 16 are (10 R230). -/
def suspendJob (s : State) (j : HostJob) : State :=
  if 16 ≤ s.comp.suspended.length then
    let s := match j.stream with
      | some n => discardStream s n
      | none => s
    endJob s j stAborted j.consumed
  else
    let j := { j with dropAt := suspendEnd s }
    endJob { s with comp := { s.comp with suspended := s.comp.suspended ++ [j] } } j 0x0D j.consumed

/-- Jobs in descriptor order. -/
def insertJob (j : HostJob) : List HostJob → List HostJob
  | [] => [j]
  | k :: ks => if j.order < k.order then j :: k :: ks else k :: insertJob j ks

/-- The output at which a single job of FORMAT 0 or 1 has not shrunk, counted from now (10 R229; log 72). -/
def shrinkLimit (j : HostJob) : Option Nat :=
  if j.stream.isNone && decide (j.format < 2) && decide (j.src.length ≠ 0) then some (j.src.length - j.total) else none

/-- A job's block is done: its codes go to the buffers; the job ends, waits for its next block, or is suspended (10 R228 to
R231). -/
def jobDone (s : State) (j : HostJob) : State :=
  let j := if j.codes.isEmpty && jobNeeds j then formBlock j else j
  let room := j.dstLen + j.ovfLen - (j.dstOut + j.ovfOut)
  let w := writeCodes room (shrinkLimit j) j.codes ⟨j.codes, j.partBits, [], 0, 0, .all⟩
  let s := { s with link := { s.link with hostMem := jobMem s.link.hostMem j w.out.reverse } }
  let j := { jobWrote j w.n with codes := w.left, partBits := w.bits, consumed := j.consumed + w.covered }
  match w.stop with
  | .notShrunk => jobNotShrunk s j
  | .full => suspendJob s j
  | .all =>
    if jobNeeds j then { s with comp := { s.comp with jobs := insertJob j s.comp.jobs } }
    else keepStream (endJob s j 0x00 (j.base + j.src.length)) j

/-! ### Descriptors (10 R227, R228, R231) -/

/-- The fields of a job descriptor's 64 bytes (10 Table 10-1). -/
def jobDescOf (b : Bulk) : JobDesc :=
  let f := fieldAt b.desc
  { magic := f 0 2, stream := f 8 1, flags := f 9 1, format := f 10 1, preW := f 11 1, preWords := f 12 2, preRow := f 14 2, tag := f 16 4,
    ovfLen := f 20 4, dstLen := f 24 4, srcLen := f 28 4, compl := f 32 8, ovf := f 40 8, dst := f 48 8, data := b.data }

/-- The first field of a descriptor that is wrong, in the order of Table 10-1: its least bit (10 R228; log 73). -/
def descFault (d : JobDesc) : Option Nat :=
  let inStream := d.flags.testBit 2
  if d.preRow ≠ 0 ∧ d.srcLen % d.preRow ≠ 0 then some 224
  else if d.dstLen < 64 then some 192
  else if d.ovfLen = 0 ∧ d.ovf ≠ 0 then some 160
  else if d.format = 2 ∧ d.preRow ≠ 0 then some 112
  else if d.preRow ≠ 0 ∧ d.preRow < d.preWords * d.preW / 8 then some 96
  else if d.preRow ≠ 0 ∧ d.preW ≠ 16 ∧ d.preW ≠ 32 then some 88
  else if 2 < d.format then some 80
  else if !inStream ∧ (d.flags.testBit 0 ∨ d.flags.testBit 1) then some 72
  else if inStream ∧ 3 < d.stream then some 64
  else none

/-- The job of a descriptor that opens what it names: a single job or the first part of a stream. -/
def freshJob (s : State) (d : JobDesc) : HostJob :=
  let src := fitBytes d.srcLen d.data
  { order := s.comp.orders, dst := d.dst, ovf := d.ovf, bufs := [], compl := d.compl, dstLen := d.dstLen
    ovfLen := if d.ovf = 0 then 0 else d.ovfLen, tag := d.tag, preRow := d.preRow, preWords := d.preWords, preW := d.preW
    format := d.format, more := d.flags.testBit 2 && d.flags.testBit 0, flush := d.flags.testBit 2 && d.flags.testBit 1
    stream := if d.flags.testBit 2 then some d.stream else none, src := src
    rest := preTransform d.preRow d.preWords d.preW src, base := 0, consumed := 0, mark := 0, window := [], codes := []
    partBits := [], dstOut := 0, ovfOut := 0, total := 0, sumA := 1, sumB := 0, begun := false, ended := false, joined := false, dropAt := 0
    streamEnd := suspendEnd s }

/-- A descriptor ends at once with a completion. -/
def refuseJob (s : State) (d : JobDesc) (status field : Nat) : State :=
  let rec_ := complRecord d.format status field d.tag 0 0 0 0 0
  let s := { s with link := { s.link with hostMem := memWrite s.link.hostMem d.compl rec_ } }
  announce (bumpP s 0x0F 0 cJOBS_DONE) 135

/-- What a stream's parts must agree in: FORMAT and the pre-transform, whose fields count for nothing without one (10 R228, Table
10-1). -/
def partSettings (format row words w : Nat) : Nat × Nat × Nat × Nat :=
  if row = 0 then (format, 0, 0, 0) else (format, row, words, w)

/-- The latest of some parts in descriptor order. -/
def latestPart (js : List HostJob) : Option HostJob :=
  js.foldl (fun a j => match a with
    | some k => if k.order < j.order then some j else some k
    | none => some j) none

/-- The settings of the stream that a new part goes on with: that of the latest part still at work, unless that one ends it, or the
open stream's; none: it opens one (10 R231). -/
def streamSettings (s : State) (n : Nat) : Option (Nat × Nat × Nat × Nat) :=
  let running := (List.range 9).filterMap (fun e => match (engineOf s e).work with
    | .job j => some j
    | _ => none)
  match latestPart ((running ++ s.comp.jobs ++ s.comp.suspended).filter (fun j => decide (j.stream = some n))) with
  | some j => if j.more then some (partSettings j.format j.preRow j.preWords j.preW) else none
  | none =>
    match kget streamNone s.comp.streams n with
    | .opened x => some (partSettings x.format x.preRow x.preWords x.preW)
    | _ => none

/-- Does a part's stream refuse it: discarded, or opened with other settings (10 R228)? -/
def streamRefuses (s : State) (d : JobDesc) : Bool :=
  d.flags.testBit 2 &&
    (decide (kget streamNone s.comp.streams d.stream = .discarded) ||
      (match streamSettings s d.stream with
      | some q => decide (q ≠ partSettings d.format d.preRow d.preWords d.preW)
      | none => false))

/-- COMP_JOB_DESCRIPTOR: the next descriptor of H2C ring 3 is taken and checked, and its job queued (10 R228, R231; 14 R308). -/
def execCompJobDescriptor (desc : Bulk) (s : State) : Host.Outcome State Fault Refusal :=
  let d := jobDescOf desc
  if !descriptorReady s 3 then .next s
  else
    let s := takeDescriptor s 3
    if d.magic ≠ 0x434A then .next (refuseJob s d stMalformed 0)
    else match descFault d with
      | some b => .next (refuseJob s d 0x03 b)
      | none =>
        if streamRefuses s d then
          let s := if kget streamNone s.comp.streams d.stream = .discarded then setStream s d.stream .closed else s
          .next (refuseJob s d 0x04 0)
        else
          let j := freshJob s d
          .next (compKick { s with comp := { s.comp with jobs := s.comp.jobs ++ [j], orders := s.comp.orders + 1 } })

/-! ### COMP_RESUME and SUSPEND_TIMEOUT (10 R230, R231) -/

/-- COMP_RESUME (10 R230). -/
def bodyCompResume (tag dst dstLen : Nat) (s : State) : State × Answer :=
  if dstLen < 64 then reply s (badField 128)
  else match s.comp.suspended.find? (fun j => decide (j.tag = tag)) with
    | none => reply s (badState 0 tag)
    | some j =>
      let j' := { j with
        bufs := j.bufs ++ [(j.dst, j.dstLen), (j.ovf, j.ovfLen)], dst := dst, dstLen := dstLen, ovf := 0, ovfLen := 0, dstOut := 0, ovfOut := 0, mark := max j.base j.consumed }
      let s := { s with comp := { s.comp with
        suspended := s.comp.suspended.filter (fun k => !decide (k.order = j.order)), jobs := insertJob j' s.comp.jobs } }
      (compKick s, .final okBare)

/-- COMP_RESUME (10 R230). -/
def execCompResume (r : Req) (jobTag dst dstLen : Nat) (s : State) : Host.Outcome State Fault Refusal :=
  .next (mbxRun (.compResume r jobTag dst dstLen) r 0x0F02 false (bodyCompResume jobTag dst dstLen) s)

/-- SUSPEND_TIMEOUT_EXPIRY: suspended jobs and idle streams that reached SUSPEND_TIMEOUT are discarded (10 R230, R231). -/
def execSuspendTimeoutExpiry (s : State) : Host.Outcome State Fault Refusal :=
  let lost := s.comp.suspended.filter (fun j => decide (j.dropAt ≤ nowClk s))
  let s := { s with comp := { s.comp with suspended := s.comp.suspended.filter (fun j => !decide (j.dropAt ≤ nowClk s)) } }
  let s := lost.foldl (fun s j =>
    let s := bumpP s 0x0F 0 cSUSPENDED_LOST
    match j.stream with
    | some n => discardStream s n
    | none => s) s
  .next ([0, 1, 2, 3].foldl (fun s n =>
    match kget streamNone s.comp.streams n with
    | .opened x =>
      if x.dropAt ≤ nowClk s ∧ !streamBusy s n ∧ !s.comp.jobs.any (fun j => decide (j.stream = some n)) then
        setStream s n .discarded
      else s
    | _ => s) s)

/-! ### Engine faults and spares (10 R234; 19 R402) -/

/-- Frames in the order of their closure. -/
def insertFrame (f : CompFrame) : List CompFrame → List CompFrame
  | [] => [f]
  | g :: gs => if f.order < g.order then f :: g :: gs else g :: insertFrame f gs

/-- An engine's block waits again in its place of the queue (10 R218, R234). -/
def redoWork (s : State) (w : EngineWork) : State :=
  match w with
  | .idle => s
  | .zone f => bumpP { s with comp := { s.comp with waiting := insertFrame f s.comp.waiting } } 0x0F 0 cBLOCKS_REDONE
  | .job j => bumpP { s with comp := { s.comp with jobs := insertJob j s.comp.jobs } } 0x0F 0 cBLOCKS_REDONE

/-- Is a spare engine free? -/
def spareEngine (s : State) : Option Nat := (List.range 9).find? (fun e => decide ((engineOf s e).st = .spare))

/-- An engine fault: its block is run again elsewhere; source 56, and 57 where no spare is left (10 R234). -/
def engineFails (s : State) (e : Nat) : State :=
  let x := engineOf s e
  let s := redoWork (setEngine s e ⟨.failed, .idle, 0⟩) x.work
  let s := detect (repairAdd s (.engine e)) { raiseBlank 56 with ins := e }
  let s := if (spareEngine s).isNone then detectSrc s 57 else s
  compKick s

/-- COMP_ENGINE_FAULT (10 R234). -/
def execCompEngineFault (engine : Nat) (s : State) : Host.Outcome State Fault Refusal :=
  if engine < 9 ∧ (engineOf s engine).st = .inService then .next (engineFails s engine) else .next s

/-- COMP_BLOCK_DONE: an engine's block passes its check decoder; the frame, or the job's part, goes on; under a COMP_FLIP
snag the check fails (10 R218 to R223, R228 to R234; 18 Table 18-5). -/
def execCompBlockDone (engine : Nat) (s : State) : Host.Outcome State Fault Refusal :=
  let x := engineOf s engine
  if 9 ≤ engine ∨ x.st ≠ .inService ∨ nowClk s < x.readyAt then .next s
  else
    let flip := decide (x.work ≠ .idle) && snagArmed s 0x0041 engine
    let s := if flip then spendSnag s 0x0041 engine else s
    if flip then .next (engineFails s engine)
    else
    let s := setEngine s engine { x with work := .idle }
    match x.work with
    | .idle => .next s
    | .zone f => .next (compKick (frameDone s f))
    | .job j => .next (compKick (jobDone s j))

/-- COMP_SPARE_IN_SERVICE: a spare takes the place of a failed engine; source 56 clears (10 R234, Table 10-3). -/
def execCompSpareInService (engine : Nat) (s : State) : Host.Outcome State Fault Refusal :=
  if engine < 9 ∧ (engineOf s engine).st = .spare ∧ enginesInService s < 8 then
    .next (compKick (clearIf (setEngine s engine ⟨.inService, .idle, 0⟩) 56))
  else .next s

/-! ### COMP_CONFIG (10 R225, R226, R237) -/

/-- Does an object belong to a scope of COMP_CONFIG: the general items, or a zone's? -/
def compScope (scope zone o : Nat) : Bool :=
  decide (objDom o = 0x0F) && (if scope = 0 then decide (objItem o < 0x100) else decide (0x100 ≤ objItem o) && decide (objInst o = zone))

/-- COMP_CONFIG (10 R225, R237). -/
def bodyCompConfig (scope zone : Nat) (s : State) : State × Answer :=
  if 1 < scope then reply s (badField 0)
  else if scope = 1 ∧ 128 ≤ zone then reply s (badField 8)
  else if scope = 0 then
    let r := planN s 0x0F 0 cHOST_RESERVE
    if natP s 0x0F 0 cHOST_RESERVE < r ∧ compOver s (sceneNow s) r then reply s (noResource 0x0F01 0)
    else (compKick (applyStaged s (compScope 0 0)), .final okBare)
  else if planP s 0x0F zone cZFORMAT = 2 ∧ planP s 0x0F zone cZPRE = 1 then reply s (badParam (objId 0x0F zone cZPRE) 0)
  else (applyStaged s (compScope 1 zone), .final okBare)

/-- COMP_CONFIG (10 R225). -/
def execCompConfig (r : Req) (scope zone : Nat) (s : State) : Host.Outcome State Fault Refusal :=
  .next (mbxRun (.compConfig r scope zone) r 0x0F01 false (bodyCompConfig scope zone) s)

end Sys2Proof.Machine
end

