-- ==== Sys2Proof/Machine/Time.lean ====
section
/-! DEFINITION. Machine/Time.lean: the timebase, PPS, PTM and the TDC channels (08). -/

namespace Sys2Proof.Machine

/-- TS72 units of 3.125 ps in a second (08 R187). -/
abbrev secUnits : Nat := 320000000000

/-- TS72 units in 10 µs (08 R187). -/
abbrev winUnits : Nat := 3200000

/-! ### Edges (08 R176 to R180, R184) -/

/-- CORES_IN_SERVICE of a channel (08 Table 08-4). -/
def coresOf (s : State) (c : Nat) : Nat := natP s 0x06 c tCORES_IN_SERVICE

/-- The core that converts: the one named if it is in rotation, the lowest in rotation otherwise (08 R183). -/
def coreFor (mask want : Nat) : Nat :=
  if want < 4 && mask.testBit want then want
  else ((List.range 4).find? (fun q => mask.testBit q)).getD 0

/-- f of a raw code: U_q(n) / 256 rounded, ties away from zero; 128 on overflow (08 R177). -/
def fineOf (x : TdcChan) (core : Nat) (code : Option Nat) : Nat :=
  match code with
  | none => 128
  | some n => (kget tdcReset x.table (core * 512 + n) + 128) / 256

/-- The TS72 of an edge registered at tick `c` (08 R177). -/
def edgeTs (s : State) (ch tick f : Nat) : Nat :=
  tsAdd (ts72 tick 0) (-(f : Int) - getP s 0x06 ch tTDC_DELAY)

/-- An edge that no one measures counts in EDGES_LOST and in LOST of the next record (08 R179, R180, R182, R184). -/
def loseEdge (s : State) (c : Nat) : State :=
  let s := bumpP s 0x06 c tEDGES_LOST
  setTdc s c { tdcOf s c with lost := min ((tdcOf s c).lost + 1) 0xFFFF }

/-- The 32 bytes of an edge record (08 Table 08-3). -/
def edgeRecord (m : Meas) (ch lost seq : Nat) (uncal : Bool) : List Byte :=
  tsBytes m.ts ++ zeros 11 ++ leBytes 1 (bitN uncal) ++ leBytes 1 ch ++
    leBytes 1 (bitN m.falling + 2 * bitN m.ovfl + 4 * m.core) ++ leBytes 2 lost ++ leBytes 4 seq

/-- The edge record of an accepted edge, unless 4 × 10⁶ were written within the last second over all channels (08 R184). -/
def logEdge (s : State) (c : Nat) (m : Meas) : State :=
  if natP s 0x06 c tTDC_LOG ≠ 1 then s
  else
    let recent := s.link.edgeTimes.filter (fun t => decide (nowClk s < t + secTicks))
    let s := { s with link := { s.link with edgeTimes := recent } }
    let x := tdcOf s c
    if 4000000 ≤ recent.length then setTdc s c { x with lost := min (x.lost + 1) 0xFFFF }
    else
      let s := { s with link := { s.link with edgeTimes := nowClk s :: recent } }
      let s := hkPut s 1 (edgeRecord m c x.lost x.seq (!x.calibrated.testBit m.core)) m.ts
      setTdc s c { tdcOf s c with lost := 0 }

/-- Does the channel's TDC_EDGE select a polarity (08 R179)? -/
def edgeSelected (s : State) (c : Nat) (falling : Bool) : Bool :=
  let e := natP s 0x06 c tTDC_EDGE
  decide (e = 2) || (decide (e = 1) == falling)

/-! ### Steps of the timebase (08 R185) -/

/-- A response that says a pending request of its kind was replaced (15 Table 15-2 NOTES, R321). -/
def noteReplaced (b : Bool) (r : Reply) : Reply := if b then { r with notes := r.notes ||| 2 } else r

/-- A tick count moved by a step. -/
def moveTick (d : Int) (t : Nat) : Nat := ((t : Int) + d).toNat

/-- An ADC channel's ticks moved by a step. -/
def moveChan (d : Int) (a : AdcChan) : AdcChan :=
  { a with
    waits := a.waits.map (fun w => (w.1, moveTick d w.2))
    suspect := a.suspect.map (fun w => (moveTick d w.1, w.2.map (moveTick d)))
    fgSince := a.fgSince.map (moveTick d)
    fgPast := a.fgPast.map (fun w => (moveTick d w.1, moveTick d w.2))
    sets := a.sets.map (fun x => { x with from_ := moveTick d x.from_ })
    evalAt := 0 }

/-- What a port keeps by tick follows a step; the samples taken before it are let go (log 13). -/
def movePort (d : Int) (q : Port) : Port :=
  { q with
    codes := [], tap := [], clips := [], hybAt := none
    hybPast := q.hybPast.map (fun (x : Nat × Hyb × Hyb) => (moveTick d x.1, x.2))
    adc := q.adc.map (fun (x : Nat × AdcChan) => (x.1, moveChan d x.2)) }

/-- The timebase is stepped by `d` ticks, and what the device keeps by tick follows: PPS_IN's e_(k−1), the measurements not yet
taken, the ADC channels, the cadence of checkpoints (08 R185; 17 R361; log 13). -/
def stepTimebase (s : State) (d : Int) : State :=
  let move (t : Nat) : Nat := tsAdd t (256 * d)
  let moveMeas (m : Meas) : Meas := { m with ts := move m.ts, tick := moveTick d m.tick }
  let moveTdc (x : Nat × TdcChan) : Nat × TdcChan := (x.1, { x.2 with meas := x.2.meas.map moveMeas })
  let ticks := (((s.time.ticks : Int) + d) % (2 ^ 64 : Int)).toNat
  let s := { s with
    time := { s.time with ticks := ticks, ppsLast := s.time.ppsLast.map move, tdc := s.time.tdc.map moveTdc }
    pair := { s.pair with cutAt := (ticks + 249999) / 250000 * 250000 } }
  modPort (modPort s 0 (movePort d)) 1 (movePort d)

/-- A TIME_SET of mode 1 is applied at the edge that measured `e`, and completes there (08 R185, R187). -/
def stepAt (s : State) (p : TimeStep) (e : Nat) : State :=
  let d : Int := (p.v : Int) - Int.fdiv ((e : Int) - getP s 0x06 0 tPPS_DELAY) 256
  let s := stepTimebase { s with time := { s.time with step := none, ppsSuspended := false } } d
  complete (clearIf s 7) .timeSet (noteReplaced p.replaced okBare)

/-- The TS72 of an edge that the present tick registers, in the scale in force once a pending TIME_SET has been applied to it:
an accepted edge of channel 6 applies it (08 R177, R185). -/
def edgeStep (s : State) (c ts : Nat) : State × Nat :=
  match c, s.time.step with
  | 6, some p =>
    let d : Int := (p.v : Int) - Int.fdiv ((ts : Int) - getP s 0x06 0 tPPS_DELAY) 256
    (stepAt s p ts, tsAdd ts (256 * d))
  | _, _ => (s, ts)

/-- Have the users of a channel a command that takes its measurements: launches, TRIGIN, PPS_IN and PEER_ACT_IN (08 Table 08-1)? -/
def measKept (c : Nat) : Bool := decide (c < 8)

/-- An accepted edge is measured, recorded, and kept for the channel's users (08 R176, R177, R184). -/
def acceptEdge (s : State) (c : Nat) (falling : Bool) (want : Nat) (code : Option Nat) : State :=
  let core := coreFor (coresOf s c) want
  let p := edgeStep s c (edgeTs s c s.time.ticks (fineOf (tdcOf s c) core code))
  let s := p.1
  let m : Meas := ⟨p.2, core, code.isNone, falling, s.time.ticks⟩
  let s := bumpP s 0x06 c tEDGES_ACCEPTED
  let s := if code.isNone then bumpP s 0x06 c tEDGES_OVFL else s
  let x := tdcOf s c
  let s := setTdc s c { x with
    lastEdge := some (nowClk s)
    seq := (x.seq + 1) % 2 ^ 32
    meas := if measKept c then x.meas ++ [m] else x.meas }
  logEdge s c m

/-- What becomes of an edge at a TDC channel: settling, no core, dead time, hold-off, or acceptance; both conditions run from the
channel's previous accepted edge of either polarity (08 R179, R180, R182, R183; log 143). -/
def edgeArrives (s : State) (c : Nat) (falling : Bool) (want : Nat) (code : Option Nat) : State :=
  let x := tdcOf s c
  let within (n : Nat) : Bool := x.lastEdge.any (fun t => decide (nowClk s < t + n))
  if x.settleUntil.any (fun t => decide (nowClk s < t)) then loseEdge s c
  else if x.foreground then s
  else if coresOf s c % 16 = 0 then loseEdge s c
  else if within 50 then loseEdge s c
  else if within (natP s 0x06 c tTDC_HOLDOFF) then bumpP s 0x06 c tHOLDOFF_COUNT
  else acceptEdge s c falling want code

/-- The channel that measures an input: inputs 0 to 15 are those of Table 08-1 with GATE_A at 11, and 16 is GATE_B, which channel 11
measures with TDC_GATE_SEL 1 (08 R176, Table 08-4). -/
def tdcInput (s : State) (input : Nat) : Option Nat :=
  let sel := natP s 0x06 11 tTDC_GATE_SEL
  if input = 16 then (if sel = 1 then some 11 else none)
  else if input = 11 then (if sel = 0 then some 11 else none)
  else if input < 16 then some input
  else none

/-- TDC_EDGE: an edge of polarity `falling` at an input is registered by the present tick; core `core` reads the raw code, none on
overflow (08 R176, R177, R179). -/
def execTdcEdge (input : Nat) (falling : Bool) (core : Nat) (code : Option Nat) (s : State) :
    Host.Outcome State Fault Refusal :=
  match tdcInput s input with
  | some ch =>
    if s.boot.rootLocked && decide (natP s 0x06 ch tTDC_ENABLE = 1) && edgeSelected s ch falling then
      .next (edgeArrives s ch falling core code)
    else .next s
  | none => .next s

/-- TDC_THRESH_SETTLED: the 2 µs of R180 end (08 R180). -/
def execTdcThreshSettled (ch : Nat) (s : State) : Host.Outcome State Fault Refusal :=
  match (tdcOf s ch).settleUntil with
  | some t => if t ≤ nowClk s then .next (setTdc s ch { tdcOf s ch with settleUntil := none }) else .next s
  | none => .next s

/-! ### Code-density calibration (08 R181 to R183) -/

/-- Converted edges of a test, H (08 R181). -/
abbrev tdcH : Nat := 262144

/-- U_q(n) of a histogram, n from 1, with the sum of the bins below it (08 R181). -/
def densityTable (core : Nat) : Nat → Nat → List Nat → KMap Nat → KMap Nat
  | _, _, [], m => m
  | n, below, h :: hs, m =>
    densityTable core (n + 1) (below + h) hs
      (kput tdcReset m (core * 512 + n) (roundDiv (65536 * (2 * below + h)) (2 * tdcH)))

/-- Does a core fail its test (08 R182)? -/
def densityFails (hist : List Nat) (overflows : Nat) : Bool :=
  decide (tdcH < overflows * 1000) || hist.any (fun h => decide (3 * tdcH < h * 256)) ||
    decide ((hist.filter (fun h => decide (0 < h))).length < 240)

/-- The first core that a background test has still to take: not one that is alone in service, so that the channel measures every
edge throughout (08 R183). -/
def nextTest (s : State) (ch : Nat) : Option Nat :=
  let mask := coresOf s ch % 16
  (List.range 4).find? (fun q => (tdcOf s ch).toTest.testBit q && decide (mask ≠ 2 ^ q))

/-- A channel's run ends: source 44 has no more to wait for once no other run has raised it (08 R182). -/
def coresTold (s : State) (ch : Nat) : State :=
  let told := (tdcOf s ch).coreTold
  let s := setTdc s ch { tdcOf s ch with testing := 0, toTest := 0, foreground := false, coreTold := false }
  if told && (List.range 16).all (fun c => !(tdcOf s c).coreTold) then quietIn s 44 0 else s

/-- A core leaves the rotation for a background test. -/
def testCore (s : State) (ch core : Nat) : State :=
  let x := tdcOf s ch
  let s := setP s 0x06 ch tCORES_IN_SERVICE (putBit (coresOf s ch) core false)
  setTdc s ch { x with testing := 2 ^ core, toTest := putBit x.toTest core false }

/-- The next core of a background test leaves the rotation, or the channel's run ends (08 R183, 19 R396; log 143). -/
def nextCore (s : State) (ch : Nat) : State :=
  let x := tdcOf s ch
  if x.testing ≠ 0 then s
  else
    match (if x.foreground then none else nextTest s ch) with
    | some core => testCore s ch core
    | none =>
      let s := { s with boot := { s.boot with tdcCalTemp := kput (fun _ => 2500) s.boot.tdcCalTemp ch s.boot.dieTemp } }
      calEnd (coresTold s ch) 1 ch

/-- A core fails: it stays out of rotation with its previous table; source 44, and source 45 when no core is in service (08 R182,
19 R410). -/
def coreFails (s : State) (ch core : Nat) : State :=
  let x := tdcOf s ch
  let s := setTdc s ch { x with
    failed := putBit x.failed core true, testing := putBit x.testing core false, coreTold := true }
  let s := setP s 0x06 ch tCORES_IN_SERVICE (putBit (coresOf s ch) core false)
  let s := calFail (repairAdd s (.tdcCore ch core)) 1 ch
  let s := detect s { raiseBlank 44 with ins := ch, d0 := core }
  if coresOf s ch % 16 = 0 && (tdcOf s ch).testing = 0 then
    let s := setTdc s ch { tdcOf s ch with chanTold := true }
    detect s { raiseBlank 45 with port := if ch < 2 then ch else 0xFF, ins := ch }
  else s

/-- A core of a channel is back in service: source 45 ends once no channel is without one (08 R182). -/
def chanBack (s : State) (ch : Nat) : State :=
  let told := (tdcOf s ch).chanTold
  let s := setTdc s ch { tdcOf s ch with chanTold := false }
  if told && (List.range 16).all (fun c => !(tdcOf s c).chanTold) then quietIn s 45 0 else s

/-- A core passes: its table takes effect as it returns to rotation (08 R181 to R183). -/
def corePasses (s : State) (ch core : Nat) (hist : List Nat) : State :=
  let x := tdcOf s ch
  let s := setTdc s ch { x with
    table := densityTable core 1 0 hist x.table
    calibrated := putBit x.calibrated core true
    failed := putBit x.failed core false
    testing := putBit x.testing core false }
  let s := setP s 0x06 ch tCORES_IN_SERVICE (putBit (coresOf s ch) core true)
  chanBack (repairDrop s (.tdcCore ch core)) ch

/-- TDC_CORE_TEST_DONE: the test of a core ends with its histogram and overflow count (08 R182). -/
def execTdcCoreTestDone (ch core : Nat) (hist : List Nat) (overflows : Nat) (s : State) :
    Host.Outcome State Fault Refusal :=
  if core < 4 && (tdcOf s ch).testing.testBit core then
    let s := if densityFails hist overflows then coreFails s ch core else corePasses s ch core (hist.take 256)
    .next (nextCore s ch)
  else .next s

/-- A TDC run of a channel starts: foreground on a channel with no user, one core at a time otherwise (08 R183). -/
def tdcRun (s : State) (ch : Nat) (foreground : Bool) : State :=
  let x := tdcOf s ch
  if foreground then
    let s := setTdc s ch { x with testing := 15, toTest := 0, foreground := true }
    calBegin (setP s 0x06 ch tCORES_IN_SERVICE 0) 1 ch .foreground
  else
    let s := setTdc s ch { x with testing := 0, toTest := 15, foreground := false }
    nextCore (calBegin s 1 ch .background) ch

/-- A TDC run ends early: its cores return with their previous tables (19 R401). -/
def tdcAbort (s : State) (ch : Nat) : State :=
  let s := setP s 0x06 ch tCORES_IN_SERVICE ((15 - (tdcOf s ch).failed : Nat) : Int)
  let s := coresTold s ch
  calAbortRun (if coresOf s ch % 16 = 0 then s else chanBack s ch) 1 ch

/-! ### TIME commands (08 R185, R186, R190; 15 Table 15-9) -/

/-- PPS_STATE as a number (08 Table 08-4). -/
def ppsCode : PpsSt → Nat
  | .off => 0
  | .acquiring => 1
  | .tracking => 2
  | .holdover => 3

/-- TIME_GET (15 Table 15-9). -/
def bodyTimeGet (s : State) : State × Answer :=
  reply s (okWith (tsBytes (nowTs s) ++ leBytes 1 (ppsCode s.time.pps) ++ zeros 3 ++
    leBytesI 4 (getP s 0x06 0 tPPS_OFFSET)))

/-- TIME_GET (15 R332). -/
def execTimeGet (r : Req) (s : State) : Host.Outcome State Fault Refusal :=
  .next (mbxRun (.timeGet r) r 0x0602 false bodyTimeGet s)

/-- TIME_SET (08 R185, R186). -/
def bodyTimeSet (v mode : Nat) (s : State) : State × Answer :=
  if 1 < mode then reply s (badField 64)
  else if timebaseInUse s then reply s (badState 0x0601 0)
  else
    let waits := s.time.step.isSome
    let s := if waits then complete s .timeSet (statusOnly stAborted) else s
    let v : Nat := v % 2 ^ 64
    if mode = 0 then
      let before := nowTs s
      (stepTimebase { s with time := { s.time with step := none } } ((v : Int) - s.time.ticks),
        .final (noteReplaced waits (okWith (tsBytes before))))
    else
      ({ s with time := { s.time with step := some ⟨v, nowClk s + 2 * secTicks, waits⟩ } }, .later .timeSet)

/-- TIME_SET (08 R185). -/
def execTimeSet (r : Req) (v mode : Nat) (s : State) : Host.Outcome State Fault Refusal :=
  .next (mbxRun (.timeSet r v mode) r 0x0601 false (bodyTimeSet v mode) s)

/-- TIME_SET_TIMEOUT: no PPS_IN edge within 2.0 s (08 R185). -/
def execTimeSetTimeout (s : State) : Host.Outcome State Fault Refusal :=
  match s.time.step with
  | some p =>
    if p.deadline ≤ nowClk s then
      .next (complete { s with time := { s.time with step := none } } .timeSet
        (noteReplaced p.replaced (statusOnly stTimeout)))
    else .next s
  | none => .next s

/-- Does a TDC_CONFIG change an item of a channel? -/
def tdcChanges (s : State) (c item : Nat) : Bool := decide (planP s 0x06 c item ≠ getP s 0x06 c item)

/-- Does it change one of the items of 08 R190? -/
def tdcChangesTiming (s : State) (c : Nat) : Bool :=
  tdcChanges s c tTDC_THRESH || tdcChanges s c tTDC_HYST || tdcChanges s c tTDC_EDGE || tdcChanges s c tTDC_DELAY

/-- Does the configuration of a channel conflict (08 R190)? -/
def tdcConflict (s : State) (c : Nat) : Bool :=
  (decide (c < 2) && tdcChangesTiming s c && !portIdle s c) ||
    (decide (2 ≤ c) && decide (c ≤ 5) && tdcChangesTiming s c && trigOfArmed s (c - 2)) ||
    (decide (12 ≤ c) && decide (planP s 0x06 c tTDC_ENABLE = 1) && chartUsesPin s c)

/-- The staged items of one channel take effect; RO counts restart, and a new threshold settles (08 R180, R190, R191). -/
def tdcApply (s : State) (c : Nat) : State :=
  let settle := (tdcChanges s c tTDC_THRESH || tdcChanges s c tTDC_HYST) && (decide (c < 8) || decide (12 ≤ c))
  let s := applyStaged s (fun o => decide (objDom o = 0x06) && decide (objInst o = c) && decide (0x10 ≤ objItem o))
  let s := [tEDGES_ACCEPTED, tEDGES_LOST, tHOLDOFF_COUNT, tEDGES_OVFL].foldl (fun s i => setP s 0x06 c i 0) s
  let x := tdcOf s c
  setTdc s c { x with
    seq := 0
    settleUntil := if settle then some (nowClk s + 2 * usTicks) else x.settleUntil }

/-- CORES_IN_SERVICE of all channels, four bits each (15 Table 15-9). -/
def allCores (s : State) : Nat := sumN ((List.range 16).map (fun c => coresOf s c % 16 * 16 ^ c))

/-- TIME_TDC_CONFIG (08 R180, R190). -/
def bodyTimeTdcConfig (mask : Nat) (s : State) : State × Answer :=
  let cs := (List.range 16).filter (fun c => mask.testBit c)
  match cs.find? (fun c => tdcConflict s c) with
  | some c => reply s (badState (0x0610 + c) c)
  | none =>
    let s := cs.foldl tdcApply s
    (s, .final (okWith (leBytes 8 (allCores s))))

/-- TIME_TDC_CONFIG (08 R190). -/
def execTimeTdcConfig (r : Req) (mask : Nat) (s : State) : Host.Outcome State Fault Refusal :=
  .next (mbxRun (.timeTdcConfig r mask) r 0x0604 false (bodyTimeTdcConfig mask) s)

/-- The timebase items of domain 0x06, inst 0 (08 R191). -/
def timeItem (o : Nat) : Bool := decide (objDom o = 0x06) && decide (objInst o = 0) && decide (objItem o < 0x10)

/-- The staged timebase items take effect: PPS_MODE = 2 takes its source-drive channel, PPS starts or stops, PTM starts
(08 R187 to R189, R191). -/
def commitTime (s : State) : State × Answer :=
  let mode := planN s 0x06 0 tPPS_MODE
  let want := if mode = 2 then planN s 0x06 0 tPPS_TUNE_SD else 0xFF
  let have_ := if natP s 0x06 0 tPPS_MODE = 2 then natP s 0x06 0 tPPS_TUNE_SD else 0xFF
  if want < 8 && want ≠ have_ && sdAllocated s want then reply s (badState 0x0602 want)
  else
    let was := natP s 0x06 0 tPPS_MODE
    let ptmWas := natP s 0x06 0 tPTM_PERIOD
    let s := applyStaged s timeItem
    let s := if want ≠ have_ then ppsTake (ppsDrop s have_) want else s
    let t := s.time
    let t := if mode = 0 then { t with pps := .off, ppsLast := none, ppsDeadline := none, ppsGood := 0 }
             else if was = 0 then { t with pps := .acquiring, ppsLast := none, ppsDeadline := none, ppsGood := 0 } else t
    let t := if natP s 0x06 0 tPTM_PERIOD ≠ ptmWas then { t with ptmAt := nowClk s } else t
    let s := { s with time := t }
    (s, .final (okWith (leBytes 1 (ppsCode s.time.pps))))

/-- TIME_PPS_CFG (15 R328). -/
def execTimePpsCfg (r : Req) (s : State) : Host.Outcome State Fault Refusal :=
  .next (mbxRun (.timePpsCfg r) r 0x0603 false commitTime s)

/-! ### PPS discipline (08 R187, R188) -/

/-- o_k: the distance to the nearest whole second (08 R187). -/
def ppsOffset (e : Nat) : Int :=
  let near := (e + secUnits / 2) / secUnits * secUnits
  (e : Int) - (near : Int)

/-- The steering loop, once per TRACKING edge: `d` is 320 y in units, `o` the offset (08 R188). -/
def steer (s : State) (d o : Int) : State :=
  let tau : Int := natP s 0x06 0 tPPS_LOOP_TAU
  let gain : Int := natP s 0x06 0 tPPS_TUNE_GAIN
  let num := clampI (-(3200000 * tau)) (3200000 * tau) (-(1000 * (d * tau + 2 * o)))
  let stepDuty := roundDivI num (320 * tau * gain)
  let duty := clampI 0 65535 (getP s 0x06 0 tPPS_TUNE_DUTY + stepDuty)
  ppsDuty (setP s 0x06 0 tPPS_TUNE_DUTY duty) duty.toNat

/-- An edge becomes the reference e_(k−1); the window of the next ends 1 s + 10 µs after it (08 R187). -/
def ppsReference (s : State) (e : Nat) (good : Nat) : State :=
  let age := Int.fdiv (tsDiff (nowTs s) e) 256
  { s with time := { s.time with
      ppsLast := some e, ppsGood := good
      ppsDeadline := some ((nowClk s + secTicks + 10 * usTicks : Nat) - age).toNat } }

/-- An in-window edge: offset, frequency, state, sources 6 and 7, steering (08 R187, R188). -/
def ppsInWindow (s : State) (last e : Nat) : State :=
  let d := tsDiff e last - (secUnits : Int)
  let o := ppsOffset e
  let good := s.time.ppsGood + 1
  let s := ppsReference s e good
  let s := setP s 0x06 0 tPPS_OFFSET (satS 32 o)
  let s := setP s 0x06 0 tPPS_FREQ_ERR (satS 32 (roundDivI (100 * d) 320))
  let s := if 3 ≤ good then clearLive { s with time := { s.time with pps := .tracking } } 6 else s
  if s.time.pps = .tracking then
    let far := decide (winUnits < o.natAbs)
    let s := if far then
      detectSrc { s with time := { s.time with ppsSuspended := true } } 7 else s
    if natP s 0x06 0 tPPS_MODE = 2 && !s.time.ppsSuspended && s.boot.activation.isNone then steer s d o else s
  else s

/-- An accepted edge at PPS_IN, `e` already less PPS_DELAY: the first sets the reference, and one out of the window only counts
(08 R187; log 13). -/
def ppsEdgeWork (s : State) (e : Nat) : State :=
  match s.time.ppsLast with
  | none => setP (ppsReference s e 0) 0x06 0 tPPS_OFFSET (satS 32 (ppsOffset e))
  | some last =>
    if winUnits < (tsDiff e last - (secUnits : Int)).natAbs then bumpP s 0x06 0 tPPS_REJECTS
    else ppsInWindow s last e

/-- PPS_EDGE: the oldest measurement of channel 6 that PPS discipline has not yet taken serves it; a TIME_SET of mode 1 was applied
when the edge was registered (08 R185, R187, R188; log 13). -/
def execPpsEdge (s : State) : Host.Outcome State Fault Refusal :=
  match popMeas s 6 with
  | none => .next s
  | some (m, t) =>
    if natP t 0x06 0 tPPS_MODE = 0 then .next t
    else .next (ppsEdgeWork t (tsAdd m.ts (-(getP t 0x06 0 tPPS_DELAY))))

/-- PPS_WINDOW_EXPIRY: no in-window edge by 1 s + 10 µs; HOLDOVER and source 6, and the window goes on to the next second after
the last in-window edge (08 R187; log 13). -/
def execPpsWindowExpiry (s : State) : Host.Outcome State Fault Refusal :=
  match s.time.ppsDeadline with
  | some t =>
    if t ≤ nowClk s ∧ (tdcOf s 6).meas = [] then
      let held := decide (s.time.pps = .holdover)
      let s := { s with time := { s.time with
        pps := .holdover, ppsGood := 0, ppsDeadline := some (t + secTicks)
        ppsLast := s.time.ppsLast.map (fun e => tsAdd e secUnits) } }
      .next (if held then s else detectSrc s 6)
    else .next s
  | none => .next s

/-- PPS_OUT_SECOND: at a multiple of 1,250,000,000 ticks PPS_OUT goes high when it is enabled (08 R188). -/
def execPpsOutSecond (s : State) : Host.Outcome State Fault Refusal :=
  if s.boot.rootLocked && decide (s.time.ticks % secTicks = 0) && decide (natP s 0x06 0 tPPS_OUT_ENABLE = 1) then
    .next { s with time := { s.time with
      ppsOut := true, ppsOutEnd := nowClk s + natP s 0x06 0 tPPS_OUT_WIDTH * usTicks } }
  else .next s

/-- PPS_OUT_PULSE_END: PPS_OUT_WIDTH expires (08 R188). -/
def execPpsOutPulseEnd (s : State) : Host.Outcome State Fault Refusal :=
  if s.time.ppsOut && decide (s.time.ppsOutEnd ≤ nowClk s) then .next { s with time := { s.time with ppsOut := false } }
  else .next s

/-! ### PTM (08 R189) -/

/-- PTM_DIALOG_START: PTM_PERIOD expires and a request leaves the link at the present tick plus a fraction (08 R189). -/
def execPtmDialogStart (fine : Nat) (s : State) : Host.Outcome State Fault Refusal :=
  let period := natP s 0x06 0 tPTM_PERIOD
  if period ≠ 0 && s.link.linkUp && s.time.ptmDialog.isNone && decide (s.time.ptmAt ≤ nowClk s) then
    .next { s with time := { s.time with
      ptmDialog := some (ts72 s.time.ticks fine, nowClk s + 10 * msTicks), ptmAt := nowClk s + period * msTicks } }
  else .next s

/-- The 48-byte correlation record: t1, t4, Master Time, delay (08 R189; the order DEDUCED, log 14). -/
def ptmRecord (t1 t4 master delay : Nat) : List Byte :=
  tsBytes t1 ++ tsBytes t4 ++ leBytes 8 master ++ leBytes 4 delay ++ zeros 12

/-- PTM_RESPONSE: a response arrives and a correlation record is written (08 R189). -/
def execPtmResponse (fine master delay : Nat) (s : State) : Host.Outcome State Fault Refusal :=
  match s.time.ptmDialog with
  | some p =>
    .next (clearLive (hkPut { s with time := { s.time with ptmDialog := none } } 2
      (ptmRecord p.1 (ts72 s.time.ticks fine) master delay) p.1) 88)
  | none => .next s

/-- PTM_TIMEOUT: no response within 10 ms; source 88, no record (08 R189). -/
def execPtmTimeout (s : State) : Host.Outcome State Fault Refusal :=
  match s.time.ptmDialog with
  | some p =>
    if p.2 ≤ nowClk s then .next (detectSrc { s with time := { s.time with ptmDialog := none } } 88)
    else .next s
  | none => .next s

end Sys2Proof.Machine
end

