-- ==== Sys2Proof/Machine/ReadItem.lean ====
section
/-! DEFINITION. Machine/ReadItem.lean: what each item reads: the applied value, or for RO items that show state, the state (15
R327; the item tables of each chapter). -/

namespace Sys2Proof.Machine

/-- Two 16-bit values in one word, the second in the upper half. -/
def pair16 (lo hi : Int) : Int := wrapS 32 (lo % 65536 + hi % 65536 * 65536)

/-- The low 32 bits of a number as an item shows them. -/
def word32 (n : Nat) : Int := wrapS 32 ((n % 2 ^ 32 : Nat) : Int)

/-! ### Ports (01 Table 01-5, 02 Table 02-7, 03 Table 03-5, 05 Table 05-5) -/

/-- RG_r that an inst of RG_USED reads (05 R128). -/
def rgUsed (s : State) (ins : Nat) : Nat :=
  if ins < 2 then nth 0 (portOf s ins).raman.rg 3
  else nth 0 (portOf s ((ins - 0x80) / 4)).raman.rg ((ins - 0x80) % 4)

/-- HYB_MEAN_EST: X at inst p, Y at p + 0x80 (03 Table 03-5). -/
def hybMean (s : State) (ins : Nat) : Int :=
  let h := if ins < 2 then (portOf s ins).hybX else (portOf s (ins - 0x80)).hybY
  pair16 h.mI h.mQ

/-- An item of domain 0x03 that shows state. -/
def readPort (s : State) (p item : Nat) : Option Int :=
  let x := portOf s p
  if item = pBREAK_STITCH then some (word32 (breakStitch x.det))
  else if item = pBREAK_STATE then some (breakCode x.det : Nat)
  else if item = pLOCK_STATE then some (lockCode x.lock.st : Nat)
  else if item = pDAC_SAT then some (word32 x.dacSat)
  else if item = pPORT_STATE then some (portStCode x.st : Nat)
  else if pSLICE_MAP ≤ item ∧ item < pSLICE_MAP + 4 then some (sliceMapItem (adcOf s p (item - pSLICE_MAP)) : Nat)
  else if item = pSPARES_LEFT then some (sparesLeft s p : Nat)
  else if item = pHYB_GAIN_EST then some (pair16 x.hybX.g x.hybY.g)
  else if item = pHYB_QUAD_EST then some (pair16 x.hybX.p x.hybY.p)
  else if item = pHYB_MEAN_EST then some (hybMean s p)
  else if item = pRG_USED then some (rgUsed s p : Nat)
  else none

/-! ### Zones and skeins (06 Table 06-10, 07 Tables 07-1, 07-4) -/

/-- ZONE_STATE (06 Table 06-10). -/
def zoneCode : ZoneSt → Nat
  | .undefined => 0
  | .defined => 1
  | .enabled => 2

/-- SAMPLE_PERIOD (06 R142): as last taken, or of the definition before the first reset. -/
def periodItem (s : State) (z : Nat) : Nat :=
  match (zoneOf s z).st with
  | .undefined => 0
  | .defined => samplePeriod s (zview s z)
  | .enabled => (zoneOf s z).period

/-- DET_STATE: asserted in bits 3..0, holding in bits 7..4 (07 R153). -/
def detStateItem (x : Zone) : Nat :=
  sumN ((List.range 4).map (fun d =>
    let y := nth detNone x.dets d
    2 ^ d * bitN y.active + 2 ^ (4 + d) * bitN y.hold))

/-- An item of domain 0x04 that shows state. -/
def readZone (s : State) (z item : Nat) : Option Int :=
  let x := zoneOf s z
  let v := zview s z
  let known := zoneDefined s z
  if item = zZONE_STATE then some (zoneCode x.st : Nat)
  else if item = zDC_FROZEN then some (bitN x.frozen : Nat)
  else if item = zSAMPLE_PERIOD_LO then some (word32 (periodItem s z))
  else if item = zSAMPLE_PERIOD_HI then some (word32 (periodItem s z / 2 ^ 32))
  else if item = zGROUP_DELAY then some (if known && !ztemp v then ((groupDelay16 v : Nat) : Int) else 0)
  else if item = zWARMUP_LEFT then some (if zoneEnabled s z then ((warmupLen v - x.outIdx : Nat) : Int) else 0)
  else if item = zZONE_LOAD then some (if known then ((zoneLoad (sceneNow s) (zaccepted s z) : Nat) : Int) else 0)
  else if item = zDET_STATE then some (detStateItem x : Nat)
  else if zDET_ENERGY ≤ item ∧ item < zDET_ENERGY + 4 then some ((nth detNone x.dets (item - zDET_ENERGY)).energy.getD 0x8000)
  else none

/-- SKEIN_STATE (07 Table 07-6). -/
def skeinCode : SkeinSt → Nat
  | .undefined => 0
  | .idle => 1
  | .armed => 2
  | .capturing => 3
  | .rearm => 4
  | .held => 5

/-- PRE_AVAILABLE: µs since the rings started, at most the ring's time, or the rows in the ring (07 R163). -/
def preHeld (s : State) (k : Nat) : Nat :=
  let v := skview s k
  if !skRuns s k then 0
  else if skRaw v then min ((nowClk s - (skOf s k).armedAt) / usTicks) (sn v kRING_KIB * 1024 / 2500)
  else min (skOf s k).rows.length (ringRows (zview s (sn v kSOURCE_ZONE)) v)

/-- An item of domain 0x05 that shows state. -/
def readSkein (s : State) (k item : Nat) : Option Int :=
  let x := skOf s k
  let v := skview s k
  let known := skDefined s k
  if item = kSKEIN_STATE then some (skeinCode x.st : Nat)
  else if item = kHANKS_HELD then some (x.hanks.length : Nat)
  else if item = kHANK_SEQ_NEXT then some (word32 x.seqNext)
  else if item = kMISSED_COUNT then some (word32 x.missed)
  else if item = kPRE_AVAILABLE then some (preHeld s k : Nat)
  else if item = kHANK_BYTES then
    some (if known then word32 (hankBytes (skPlan s v) (zview s (sn v kSOURCE_ZONE)) v) else 0)
  else if item = kSEG_RATE then some (if known then ((segRateKb s v : Nat) : Int) else 0)
  else if item = kINCAP_LOST then some (word32 (x.incapLost + capLost s k))
  else none

/-! ### Kernels, compressor, front end, sources (09, 10, 11, 12) -/

/-- KRN_STATE (09 Table 09-16). -/
def krnCode : KrnSt → Nat
  | .empty => 0
  | .loading => 1
  | .loaded => 2
  | .running => 3
  | .shadow => 4
  | .trapped => 5

/-- An item of domain 0x0C that shows state. -/
def readNeedle (s : State) (n item : Nat) : Option Int :=
  let load := vendorLoad (sceneNow s)
  if item = nKRN_STATE then some (krnCode (krnOf s n).st : Nat)
  else if item = nN_IN_SERVICE then some (nInService s : Nat)
  else if item = nN_SPARES_LEFT then some ((nSpares s).length : Nat)
  else if item = nX_IN_SERVICE then some (xInService s : Nat)
  else if item = nX_SPARES_LEFT then some ((xSpares s).length : Nat)
  else if item = nVENDOR_LOAD then some (permille load.cycles (cycleLimit s (natP s 0x0C 0 nUSER_CORES)) : Nat)
  else if item = nVENDOR_STATE then some (ceilQ (load.state / 1024))
  else none

/-- An item of domain 0x0F that shows state. -/
def readComp (s : State) (item : Nat) : Option Int :=
  if item = cENGINES_IN_SERVICE then some (enginesInService s : Nat)
  else if item = cCOMP_SPARES_LEFT then
    some (((List.range 9).filter (fun e => decide ((engineOf s e).st = .spare))).length : Nat)
  else if item = cCOMP_LOAD then some (permille (compLoad (sceneNow s) (natP s 0x0F 0 cHOST_RESERVE)) (compLimit s) : Nat)
  else if item = cJOBS_SUSPENDED then some (s.comp.suspended.length : Nat)
  else none

/-- An item of domain 0x07 that shows state. -/
def readFe (s : State) (n item : Nat) : Option Int :=
  if item = fCHART_STATE then some (chartCode s : Nat)
  else if item = fCHART_ENTRY then some (s.fe.last : Nat)
  else if item = fINJECT_QUEUED then some (s.fe.queue.length : Nat)
  else if item = fFE_CAL_STATE then some (s.fe.calState : Nat)
  else if item = fLOOP_STATE then some (loopCode s n : Nat)
  else if item = fREFX_MEAS then some (getP s 0x07 0 fREFX_MEAS)
  else none

/-- SD_STATE (12 Table 12-8). -/
def sdCode : SdSt → Nat
  | .off => 0
  | .on => 1
  | .stopping => 2
  | .tripped => 3

/-- SD_KIND as it reads: 4 under PPS tuning, 5 for the second channel of a bridge (12 R263). -/
def sdKindItem (s : State) (c : Nat) : Int :=
  match (sdOf s c).hold with
  | .pps => 4
  | .paired => 5
  | .none => sdP s c dSD_KIND

/-- An item of domain 0x08 that shows state. -/
def readSource (s : State) (c item : Nat) : Option Int :=
  let x := sdOf s c
  if 8 ≤ c then none
  else if item = dSD_KIND then some (sdKindItem s c)
  else if item = dSD_STATE then some (sdCode x.st : Nat)
  else if item = dSD_PRESENT then some (roundDivI x.p 65536)
  else if item = dSD_TARGET_NOW then some x.t
  else if item = dSD_COUNT then some x.count
  else if item = dSD_COMP_Y then some x.y
  else none

/-! ### Calibration, memory, mailbox, pair, collector (19, 13, 15, 16, 17, 18) -/

/-- SLICE_AGE_MAX: age of the oldest in-service factors of a port, ms (19 Table 19-8). -/
def sliceAgeMax (s : State) (p : Nat) : Nat :=
  maxN ((List.range 4).map (fun c =>
    let a := adcOf s p c
    maxN ((a.map.filter (fun i => !a.out.contains i)).map (fun i => (nowClk s - (passedAt a i).getD 0) / msTicks))))

/-- The active bank of region U (19 R407). -/
def bankU (s : State) : NvmBank := if s.cal.activeBank = 0 then s.cal.bank0 else s.cal.bank1

/-- An item of domain 0x09 that shows state. -/
def readCal (s : State) (p item : Nat) : Option Int :=
  if item = aSLICE_AGE_MAX then some (sliceAgeMax s p : Nat)
  else if item = aSRAM_SPARES_MIN then some ((4 - maxN (s.cal.sramUsed.map (fun q => q.2)) : Nat) : Int)
  else if item = aREPAIR_ENTRIES then some (s.cal.repair.length : Nat)
  else if item = aREPAIR_UNSTORED then some ((s.cal.repair.filter (fun u => !s.cal.regionR.contains u)).length : Nat)
  else if item = aNVM_U_GENERATION then some (word32 (if (bankU s).valid then (bankU s).generation else 0))
  else none

/-- Is an entry of the repair map a DRAM row? -/
def isDramRepair : RepairUnit → Bool
  | .dramRow _ _ _ _ _ => true
  | _ => false

/-- An item of domain 0x10 that shows state. -/
def readMem (s : State) (item : Nat) : Option Int :=
  if item = mMEM_LOAD then
    some (if s.boot.dramTrained then
      ((permille (dramLoad s (sceneNow s) [] [] (natP s 0x10 0 mP7_RESERVE)) (dramLimit (natP s 0x10 0 mFSP_NOW)) : Nat) : Int) else 0)
  else if item = mPPR_COUNT then some ((s.cal.repair.filter isDramRepair).length : Nat)
  else none

/-- An item of domain 0x0B that shows state. -/
def readPair (s : State) (item : Nat) : Option Int :=
  let peer := match s.pair.peer with
    | some q => q.health
    | none => 0
  if item = lPL_STATE then some (linkCode s : Nat)
  else if item = lPAIR_ROLE then some (roleCode s.pair.role : Nat)
  else if item = lPAIR_HEALTH then some (health s + 256 * peer : Nat)
  else if item = lCKPT_PERIOD_NOW then some (ckptPeriodNow s : Nat)
  else if item = lCKPT_BYTES then some (if pairOn s then ceilQ (ckptBytes s (sceneNow s)) else 0)
  else none

/-- An item of domain 0x0D that shows state. -/
def readCollector (s : State) (item : Nat) : Option Int :=
  if item = jJOURNAL_PENDING then some (s.col.store.length : Nat)
  else if item = jSNAGS_ACTIVE then some (s.col.snags.length : Nat)
  else none

/-- An item that shows state, by domain. -/
def readState (s : State) (dom ins item : Nat) : Option Int :=
  match dom with
  | 0x01 => if item = xMBX_DEFERRED_NOW then some ((deferredSlots s).length : Nat) else none
  | 0x03 => readPort s ins item
  | 0x04 => readZone s ins item
  | 0x05 => readSkein s ins item
  | 0x06 => if item = tPPS_STATE then some (ppsCode s.time.pps : Nat) else none
  | 0x07 => readFe s ins item
  | 0x08 => readSource s ins item
  | 0x09 => readCal s ins item
  | 0x0B => readPair s item
  | 0x0C => readNeedle s ins item
  | 0x0D => readCollector s item
  | 0x0F => readComp s item
  | 0x10 => readMem s item
  | _ => none

/-- What an object reads now. -/
def readItem (s : State) (o : Nat) : Int :=
  (readState s (objDom o) (objInst o) (objItem o)).getD (kget paramReset s.params o)

end Sys2Proof.Machine
end

