-- ==== Sys2Proof/Machine/Mailbox.lean ====
section
/-! DEFINITION. Machine/Mailbox.lean: the mailbox's own commands and violations: identity and status, items and the staged
set, debug unlock (15). -/

namespace Sys2Proof.Machine

/-- A request that fails before the command's own checks, in the order of 15 R319: the slot's state, the holds of R324,
then `body`. -/
def mbxEarly (r : Req) (op : Nat) (body : State → State × Reply) (s : State) : State :=
  if slotBusy s r.slot then busyDoorbell s r.slot
  else if !s.boot.fwRuns then
    { s with boot := { s.boot with heldBells := s.boot.heldBells ++ [(r.slot, op, r.tag, r.noIrq)] } }
  else
    let s := accept s r op
    if !mailboxServes s op then finish s r.slot (statusOnly stBooting)
    else
      let p := body s
      finish p.1 r.slot p.2

/-- A MALFORMED response: counted, with its protocol violation and source 89 (15 R323, R336). -/
def malformed (s : State) (slot : Nat) : State × Reply :=
  (violation (bumpP s 0x01 0 xMBX_MALFORMED) slot, statusOnly stMalformed)

/-- PHASE as a number (15 Table 15-2). -/
def phaseCode : SlotPhase → Nat
  | .free => 0
  | .accepted => 1
  | .deferred => 2
  | .done => 3

/-- The 256 bytes of a slot's response half: the header of 32 bytes and the payload (15 R317, Table 15-2). -/
def responseBytes (x : Slot) : List Byte :=
  leBytes 2 x.opcode ++ leBytes 1 x.reply.status ++ leBytes 1 (phaseCode x.phase) ++ leBytes 4 x.tag ++
    leBytes 2 x.reply.payload.length ++ leBytes 2 x.reply.notes ++ leBytes 2 x.reply.resource ++ leBytes 2 x.reply.which ++
    leBytes 4 x.reply.item ++ tsBytes x.ts ++ fitBytes 224 x.reply.payload

/-- The response half of a slot as BAR2 reads it: zero until firmware runs (14 R298; 15 R324). -/
def responseHalf (s : State) (n : Nat) : List Byte := if s.boot.fwRuns then responseBytes (slotOf s n) else zeros 256

/-- BAD_OPCODE: an opcode that does not exist (15 R319, step 3). -/
def execBadOpcode (r : Req) (opcode : Nat) (s : State) : Host.Outcome State Fault Refusal :=
  .next (mbxEarly r opcode (fun s => (s, statusOnly 0x02)) s)

/-- The slot, TAG and NO_IRQ of a request header's 16 bytes (15 Table 15-1). -/
def reqOf (slot : Nat) (header : List Byte) : Req := ⟨slot, fieldAt header 12 4, (fieldAt header 8 1).testBit 1⟩

/-- OPCODE of a request header (15 Table 15-1). -/
def reqOpcode (header : List Byte) : Nat := fieldAt header 0 2

/-- MALFORMED_REQUEST: a header that fails step 2 of 15 R319; the slot goes DONE with MALFORMED (15 R316, R323). -/
def execMalformedRequest (slot : Nat) (header : List Byte) (s : State) : Host.Outcome State Fault Refusal :=
  .next (mbxEarly (reqOf slot header) (reqOpcode header) (fun s => malformed s slot) s)

/-- MBX_DOORBELL_BUSY_SLOT: a doorbell on an ACCEPTED or DEFERRED slot is ignored and counted (15 R323). -/
def execMbxDoorbellBusySlot (slot : Nat) (s : State) : Host.Outcome State Fault Refusal :=
  if slotBusy s slot then .next (busyDoorbell s slot) else .next s

/-! ### Identity and status (15 R332, Table 15-7) -/

/-- SYS_IDENT (15 Table 15-7). -/
def bodySysIdent (s : State) : State × Answer :=
  reply s (okWith (leBytes 4 devId ++ leBytes 4 s.boot.devRev ++ leBytes 4 (fwVersion s.boot.slotA) ++
    leBytes 4 (fwVersion s.boot.slotB) ++ leBytes 1 s.boot.fwSlot ++ leBytes 1 s.boot.unitId ++ zeros 2 ++
    leBytes 4 (epochOf s) ++ leBytes 4 s.boot.rollback ++ fitBytes 16 s.boot.serial))

/-- SYS_IDENT (15 R332). -/
def execSysIdent (r : Req) (s : State) : Host.Outcome State Fault Refusal :=
  .next (mbxRun (.sysIdent r) r 0x0101 false bodySysIdent s)

/-- Slots ACCEPTED or DEFERRED, bit n for slot n (15 Table 15-7). -/
def busySlots (s : State) : Nat :=
  sumN ((s.slots.filter (fun p => slotBusy s p.1)).map (fun p => 2 ^ p.1))

/-- SYS_STATUS (15 Table 15-7). -/
def bodySysStatus (s : State) : State × Answer :=
  reply s (okWith (leBytes 4 (bootWord s) ++ leBytes 4 (faultSummary s) ++ leBytes 4 (calSummary s) ++
    leBytesI 1 (readItem s (objId 3 0 pPORT_STATE)) ++ leBytesI 1 (readItem s (objId 3 1 pPORT_STATE)) ++ zeros 2 ++
    leBytes 16 (zonesEnabled s) ++ leBytes 4 (skeinsActive s) ++ leBytesI 4 s.boot.dieTemp ++ tsBytes (nowTs s) ++
    leBytes 8 (busySlots s)))

/-- SYS_STATUS (15 R332). -/
def execSysStatus (r : Req) (s : State) : Host.Outcome State Fault Refusal :=
  .next (mbxRun (.sysStatus r) r 0x0102 false bodySysStatus s)

/-! ### Items (15 R325 to R329, R333) -/

/-- The access of an object: 0 RO, 1 RW, 2 WO. -/
def objAccess (o : Nat) : Nat :=
  match itemRow (objDom o) (objItem o) with
  | some r => r.acc
  | none => 0

/-- What PARAM_GET returns for an object (15 R327). -/
def getValue (s : State) (source o : Nat) : Int :=
  if objAccess o = 2 then 0
  else if source = 1 then (stagedOf s o).getD (readItem s o)
  else readItem s o

/-- STAGED_MASK of a list of IDs (15 R327). -/
def stagedMask (s : State) : Nat → List Nat → Nat
  | _, [] => 0
  | n, o :: os => 2 ^ n * bitN (stagedOf s o).isSome + stagedMask s (n + 1) os

/-- The first element that fails a test, with its index. -/
def firstBad {α : Type} (f : α → Bool) : Nat → List α → Option (Nat × α)
  | _, [] => none
  | n, x :: xs => if f x then firstBad f (n + 1) xs else some (n, x)

/-- PARAM_GET (15 R327); WHICH of a failure is the ID's own number of object (15 Table 15-2; log 126). -/
def bodyParamGet (source : Nat) (ids : List Nat) (s : State) : State × Answer :=
  if ids.length = 0 || 54 < ids.length then reply s (badField 0)
  else if 1 < source then reply s (badField 16)
  else match firstBad objExists 0 ids with
    | some p => reply s (badParam p.2 (objInst p.2))
    | none => reply s (okWith (leBytes 8 (stagedMask s 0 ids) ++ (ids.map (fun o => leBytesI 4 (getValue s source o))).flatten))

/-- PARAM_GET (15 R327); WHICH of a failure is the ID's own number of object (15 Table 15-2; log 126). -/
def execParamGet (r : Req) (source : Nat) (ids : List Nat) (s : State) : Host.Outcome State Fault Refusal :=
  .next (mbxRun (.paramGet r source ids) r 0x0201 false (bodyParamGet source ids) s)

/-- Does a pair pass PARAM_SET's checks: item, inst, access, range (15 R326)? -/
def pairOk (p : Nat × Int) : Bool :=
  objExists p.1 && decide (objAccess p.1 ≠ 0) &&
    (match itemRow (objDom p.1) (objItem p.1) with
    | some r => inRange r p.2
    | none => false)

/-- The values are staged in order (15 R325, R326). -/
def stageAll (s : State) (ps : List (Nat × Int)) : State := ps.foldl (fun s p => stage s p.1 p.2) s

/-- The pairs of a bulk descriptor: 8 bytes each (15 R333). -/
def pairsOf : Nat → List Byte → List (Nat × Int)
  | 0, _ => []
  | n + 1, bs => (fieldAt bs 0 4, fieldAtI bs 4 4) :: pairsOf n (bs.drop 8)

/-- All pairs are checked, then all are staged or none (15 R326). -/
def setPairs (tag : Nat) (ps : List (Nat × Int)) (s : State) : State × Answer :=
  match firstBad pairOk 0 ps with
  | some p => reply s (badParam p.2.1 p.1)
  | none => (stageAll s ps, .final { okBare with item := tag })

/-- A body that works on the next descriptor of H2C ring 2; an empty ring or a wrong descriptor is MALFORMED, and CONS
passes the descriptor (15 R333, Table 15-6; 14 R308). -/
def withBulk (slot : Nat) (b : Bulk) (good : Bulk → Bool) (f : List Byte → State → State × Answer) (s : State) :
    State × Answer :=
  if !descriptorReady s 2 then
    let p := malformed s slot
    (p.1, .final p.2)
  else
    let s := takeDescriptor s 2
    if bulkOk b && good b then f (bulkBytes s b) s
    else
      let p := malformed s slot
      (p.1, .final p.2)

/-- PARAM_SET, from the slot or from a bulk descriptor (15 R326, R333). -/
def bodyParamSet (slot : Nat) (pairs : List (Nat × Int)) (bulk : Option Bulk) (s : State) : State × Answer :=
  match bulk with
  | none => if pairs.length = 0 || 29 < pairs.length then reply s (badField 0) else setPairs 0 pairs s
  | some b =>
    withBulk slot b (fun b => decide (bulkLen b % 8 = 0) && decide (bulkLen b ≤ 65536))
      (fun bs s => setPairs (bulkTag b) (pairsOf (bulkLen b / 8) bs) s) s

/-- PARAM_SET (15 R326). -/
def execParamSet (r : Req) (pairs : List (Nat × Int)) (bulk : Option Bulk) (s : State) :
    Host.Outcome State Fault Refusal :=
  .next (mbxRun (.paramSet r pairs bulk) r 0x0202 false (bodyParamSet r.slot pairs bulk) s)

/-- The items of a domain and inst from a number upward, in item order, each with its row (15 R329). -/
def listItems (dom ins start : Nat) : List (Nat × Item) :=
  ((itemRowsOf dom).map (fun r => (List.range (r.hi + 1 - r.lo)).map (fun i => (r.lo + i, r)))).flatten.filter
    (fun p => decide (start ≤ p.1) && objExists (objId dom ins p.1))

/-- One entry of PARAM_LIST, 20 bytes (15 R329); MIN and MAX of an item with no range column are free (log 5). -/
def listEntry (dom ins : Nat) (p : Nat × Item) : List Byte :=
  let o := objId dom ins p.1
  let lo := if p.2.rng.isEmpty then Config.unlistedBound (2 * o) else rangeMin p.2
  let hi := if p.2.rng.isEmpty then Config.unlistedBound (2 * o + 1) else rangeMax p.2
  leBytes 2 p.1 ++ leBytes 1 p.2.acc ++ zeros 1 ++ leBytes 2 p.2.applyOp ++ zeros 2 ++ leBytesI 4 lo ++ leBytesI 4 hi ++
    leBytesI 4 (paramReset o)

/-- PARAM_LIST (15 R329). -/
def bodyParamList (dom ins start : Nat) (s : State) : State × Answer :=
  if (itemRowsOf dom).isEmpty then reply s (badField 0)
  else if (listItems dom ins 0).isEmpty then reply s (badField 8)
  else
    let xs := listItems dom ins start
    let next := ((xs.drop 11).head?).map (fun p => p.1)
    let es := xs.take 11
    reply s (okWith (leBytes 2 (next.getD 0xFFFF) ++ leBytes 2 es.length ++ (es.map (listEntry dom ins)).flatten))

/-- PARAM_LIST (15 R329). -/
def execParamList (r : Req) (dom ins start : Nat) (s : State) : Host.Outcome State Fault Refusal :=
  .next (mbxRun (.paramList r dom ins start) r 0x0204 false (bodyParamList dom ins start) s)

/-! ### Debug unlock (15 R335) -/

/-- DIAG_UNLOCK: step 0 issues a challenge; step 1 verifies its signed response, once (15 R335). -/
def bodyDiagUnlock (stepNo : Nat) (sig : List Byte) (s : State) : State × Answer :=
  if stepNo = 0 then
    let c := fitBytes 48 (Config.challenge s.free)
    ({ s with free := s.free + 1, boot := { s.boot with challenge := some c } }, .final (okWith c))
  else if stepNo = 1 then
    match s.boot.challenge with
    | none => reply s (statusOnly stAuthFail)
    | some c =>
      let ok := Config.debugSigOk c (fitBytes 16 s.boot.serial) (fitBytes 96 sig)
      ({ s with boot := { s.boot with challenge := none, unlocked := s.boot.unlocked || ok } },
        .final (if ok then okBare else statusOnly stAuthFail))
  else reply s (badField 0)

/-- DIAG_UNLOCK (15 R335). -/
def execDiagUnlock (r : Req) (stepNo : Nat) (sig : List Byte) (s : State) : Host.Outcome State Fault Refusal :=
  .next (mbxRun (.diagUnlock r stepNo sig) r 0x0E01 false (bodyDiagUnlock stepNo sig) s)

end Sys2Proof.Machine
end

