-- ==== Sys2Proof/Machine/FrontEnd.lean ====
section
/-! DEFINITION. Machine/FrontEnd.lean: the commands and events of the precision front end (11 R240 to R254). -/

namespace Sys2Proof.Machine

/-! ### Chart commands (11 R245, R247, R252; 15 Table 15-9) -/

/-- The first entry of a CHART_LOAD that breaks its table, as the payload's bit offset of its field. -/
def chartListFault : Nat → List ChartEntry → Option Nat
  | _, [] => none
  | i, e :: es =>
    match chartFault e with
    | some b => some (8 * (4 + 16 * i) + b)
    | none => chartListFault (i + 1) es

/-- FE_CHART_LOAD: an entry takes its new definition at its next start, and measures its leads anew (11 R245, R247, R249; 08 R190; log
81). -/
def bodyFeChartLoad (first count : Nat) (entries : List (List Byte)) (s : State) : State × Answer :=
  let es := (List.range count).map (fun i => chartOf (nth [] entries i))
  if 31 < first then reply s (badField 0)
  else if count = 0 || 14 < count || 32 < first + count then reply s (badField 8)
  else match chartListFault 0 es with
    | some b => reply s (badField b)
    | none =>
      match chartTdcClash s es with
      | some c => reply s (badState (0x0610 + c) c)
      | none =>
        (modFe s (fun x => { x with
          chart := (List.range count).foldl (fun m i => kput chartBlank m (first + i) (nth (chartBlank 0) es i)) x.chart
          entries := (List.range count).foldl (fun m i => kmod entryBlank m (first + i) (fun y => { y with leads := none })) x.entries }),
          .final okBare)

/-- FE_CHART_LOAD (11 R247). -/
def execFeChartLoad (r : Req) (first count : Nat) (entries : List (List Byte)) (s : State) :
    Host.Outcome State Fault Refusal :=
  .next (mbxRun (.feChartLoad r first count entries) r 0x0701 false (bodyFeChartLoad first count entries) s)

/-- The chart starts at entry 0, its run counts at 0 (11 R247, Table 11-6). -/
def chartStart (s : State) : State :=
  modFe s (fun x => { x with
    st := .running, next := 0, entries := x.entries.foldl (fun m p => kput entryBlank m p.1 { p.2 with runs := 0 }) x.entries })

/-- FE_CHART_RUN (11 R247). -/
def bodyFeChartRun (run : Nat) (s : State) : State × Answer :=
  if 1 < run then reply s (badField 0)
  else if s.fe.st = .stopping then
    match slotWaiting s .chartStart with
    | some n => reply s (busy n)
    | none =>
      if run = 0 then reply s (busy ((slotWaiting s .chartStop).getD 0))
      else (modFe s (fun x => { x with restart := true }), .later .chartStart)
  else if run = 1 then (feAdvance (chartStart s), .final okBare)
  else (modFe s (fun x => { x with st := .stopping }), .later .chartStop)

/-- FE_CHART_RUN (11 R247). -/
def execFeChartRun (r : Req) (run : Nat) (s : State) : Host.Outcome State Fault Refusal :=
  .next (feSettle (mbxRun (.feChartRun r run) r 0x0702 false (bodyFeChartRun run) s))

/-- FE_INJECT (11 R252): queued; at once when nothing runs. -/
def bodyFeInject (slot tag : Nat) (entry : List Byte) (s : State) : State × Answer :=
  let e := chartOf entry
  if tag = 0 || 255 < tag then reply s (badField 0)
  else match chartFault e with
    | some b => reply s (badField (128 + b))
    | none =>
      if 4 ≤ s.fe.queue.length then reply s (busy 0)
      else
        (modFe s (fun x => { x with queue := x.queue ++ [⟨tag, slot, e, x.calSince.isSome⟩] }), .later (.inject slot))

/-- FE_INJECT (11 R252). -/
def execFeInject (r : Req) (tag : Nat) (entry : List Byte) (s : State) : Host.Outcome State Fault Refusal :=
  .next (feAdvance (mbxRun (.feInject r tag entry) r 0x0703 false (bodyFeInject r.slot tag entry) s))

/-! ### Conversions (11 R240, R241, R249, R251) -/

/-- The tick at the end of the n-th filter output after the restart (11 R241, R246). -/
def outTick (x : FeRun) (n : Nat) : Nat := x.startTick + tdelay x.entry + n * tconv x.entry

/-- A conversion record, where the run writes records (11 R251). -/
def convRecord (s : State) (x : FeRun) (code : Int) (discard ovr : Bool) : State :=
  if !feLogs s x then s
  else
    let flags := baseFlags s x.task + 8 * bitN ovr + 16 * bitN discard
    let ts := ts72 (outTick x (x.outs + 1)) 0
    let type := if x.sub = .main then 1 else 2
    hkPut s 3 (feRecord ts 0 code flags (0, 0) x.task 0 type (taskSeq s x.task)) ts

/-- The next sub-conversion of a run, or its main conversions, start with a switch (11 R241, R249). -/
def nextSub (s : State) (x : FeRun) (sub : FeSub) : FeRun :=
  { x with sub := sub, startClk := nowClk s, startTick := s.time.ticks, outs := 0 }

/-- The crosspoint follows the conversion that a run makes next (11 R241, R243). -/
def followRun (s : State) (x : FeRun) : State :=
  modFe s (fun y => { y with run := some x, conn := some (connOf x.entry x.sub) })

/-- The run after a filter output with its code: the first two of a switch are discarded (11 R241, R249). -/
def takeCode (s : State) (x : FeRun) (code : Int) : FeRun :=
  let x := { x with outs := x.outs + 1 }
  if x.outs ≤ 2 then x
  else match x.sub with
    | .leadA => nextSub s { x with codeA := code, ovr := x.ovr || feOver code } .leadB
    | .leadB => nextSub s { x with codeB := code, ovr := x.ovr || feOver code } .main
    | .main => { x with codes := x.codes ++ [code], ovr := x.ovr || feOver code }

/-- FE_CONVERSION: the filter gives an output, `volts` being the voltages of AX0 to AX15 as it has averaged them (11 R240, R241,
R246). -/
def execFeConversion (volts : List Rat) (s : State) : Host.Outcome State Fault Refusal :=
  match s.fe.run with
  | none => .next s
  | some x =>
    if !x.opened && decide (x.codes.length < x.entry.times) &&
        decide (x.startClk + tdelay x.entry + (x.outs + 1) * tconv x.entry ≤ nowClk s) then
      let code := feCode s x.entry (feRaw (connOf x.entry x.sub) volts)
      let discard := decide (x.outs < 2)
      let s := convRecord s x code discard (feOver code)
      let s := if discard then bumpP s 0x07 0 fDISCARDED else s
      .next (followRun s (takeCode s x code))
    else .next s

/-! ### Results (11 R244, R246, R248 to R252) -/

/-- TS of a result: the centre of the span of the kept conversions (11 R246). -/
def resultTs (x : FeRun) : Nat :=
  ts72 (x.startTick + tdelay x.entry) 0 + (x.entry.times + 2) * tconv x.entry * 128

/-- A result is reported: RESULT items, record, sources, the source drive, INJECT's response; then what waits runs (11
R244, R251, R252). -/
def feReport (s : State) (x : FeRun) (value code : Int) (flags ts : Nat) (pair : Option (Rat × Rat)) (checked : Bool) :
    State :=
  let leads := leadField pair
  let rec_ := feRecord ts value code flags leads x.task x.codes.length 0 (taskSeq s x.task)
  let s := if feLogs s x then hkPut s 3 rec_ ts else s
  let s := feSources s x.task flags checked
  let s := modFe s (fun y => { y with run := none })
  let s := match x.task with
    | .entry n =>
      let s := setResult s n ts flags value code leads
      srcResult s n (wrapS 32 value) (feFailed flags) ts
    | .inject _ slot _ => complete s (.inject slot) (okWith rec_)
  feAdvance (match x.task with
    | .entry _ => chartStopped s
    | .inject _ _ _ => s)

/-- A run whose conversions are all kept gives its result (11 R246, R248 to R250). -/
def feFinish (s : State) (x : FeRun) : State :=
  let held := match x.task with
    | .entry n => (entryGet s n).leads
    | .inject _ _ _ => none
  let q := feReading s x held
  let s := match x.task with
    | .entry n => if x.leads then modEntry q.2.2 n (fun y => { y with leads := q.2.1 }) else q.2.2
    | .inject _ _ _ => q.2.2
  let suspect := match q.2.1 with
    | some p => leadsBad p
    | none => false
  let flags := baseFlags s x.task + 2 * bitN q.1.short + 4 * bitN suspect + 8 * bitN (x.ovr || q.1.ovr)
  feReport s x q.1.value (roundQ (meanCode x)) flags (resultTs x) q.2.1 (x.leads && !suspect)

/-- FE_ENTRY_RESULT: the last kept conversion of a run has come; the result is formed and the next entry, injection or
calibration starts (11 R246, R248 to R252, R254). -/
def execFeEntryResult (s : State) : Host.Outcome State Fault Refusal :=
  match s.fe.run with
  | none => .next s
  | some x =>
    if decide (x.sub = .main) && decide (x.codes.length = x.entry.times) && !x.opened then .next (feFinish s x) else .next s

/-- EXC_MONITOR_TRIP: the excitation is off and the run ends at once with OPEN or SHORT and VALUE 0x8000_0000; the code and
time of a run cut short are free (11 R244; log 85). -/
def execExcMonitorTrip (short : Bool) (s : State) : Host.Outcome State Fault Refusal :=
  match s.fe.run with
  | none => .next s
  | some x =>
    let exc := (connOf x.entry x.sub).exc
    if exc.isSome && (x.entry.excKind = 2 || (x.entry.excKind = 1 && !short)) then
      let f := takeFreeI s
      let g := takeFree f.2
      let flags := baseFlags s x.task + bitN (!short) + 2 * bitN short
      .next (feReport (modFe g.2 (fun y => { y with conn := none })) x 0x80000000 (satS 24 f.1) flags (g.1 % 2 ^ 72) none false)
    else .next s

/-! ### Self-calibration (11 R253, R254) -/

/-- The factors after a run: a step that failed keeps its old ones (11 R253, Table 11-8a). -/
def feNewFactors (old new : FeFactors) (failed : Nat) : FeFactors :=
  { ofs := if failed.testBit 0 then old.ofs else new.ofs
    gain := if failed.testBit 1 then old.gain else new.gain
    cur := if failed.testBit 2 then old.cur else new.cur
    vol := if failed.testBit 3 then old.vol else new.vol }

/-- The code of the 1.250 V reference divided by G, less the offset (11 R253, Table 11-8a). -/
def feRefCode (ofs refs : List Rat) (g : Nat) : Rat := nth 0 refs g - nth 0 ofs g

/-- The failed steps of a run: those named, and the gain step where a code leaves no gain (11 R253; log 184). -/
def selfcalFailed (failed : Nat) (ofs refs : List Rat) : Nat :=
  if (List.range 8).any (fun g => decide (feRefCode ofs refs g = 0)) then failed ||| 2 else failed

/-- The factors that the codes of a run give: by gain the offset, from the shorted input, and the gain, from the reference, whose code
stands for 2^23 (11 R253, Table 11-8a; log 184). -/
def feMeasured (ofs refs : List Rat) (cur vol : Rat) : FeFactors :=
  ⟨(List.range 8).map (fun g => nth 0 ofs g), (List.range 8).map (fun g => (2 ^ 23 : Nat) / feRefCode ofs refs g), cur, vol⟩

/-- The front end's self-calibration has ended (11 R253, R260; 19 R396). -/
def feCalEnd (s : State) (failed : Nat) (new : FeFactors) : State :=
  let ok := decide (failed % 16 = 0)
  let s := modFe s (fun x => { x with
    calSince := none, factors := feNewFactors x.factors new failed, calState := if ok then 1 else 2
    passed := x.passed || ok })
  let s := if ok then clearIf { s with boot := { s.boot with feCalTemp := s.boot.dieTemp } } 100
    else calFail (detect s { raiseBlank 100 with d0 := failed % 16 }) 2 0
  feAdvance (calEnd s 2 0)

/-- FE_SELFCAL_DONE: 12.0 ms after its start the factors are in force. `failed` has a bit for each failed step; `ofs` and `refs` are the
mean codes by gain of the shorted input and of the reference, `cur` and `vol` the measured over the programmed excitation (11 R253). -/
def execFeSelfcalDone (failed : Nat) (ofs refs : List Rat) (cur vol : Rat) (s : State) : Host.Outcome State Fault Refusal :=
  match s.fe.calSince with
  | some t =>
    if t + 12 * msTicks ≤ nowClk s then .next (feCalEnd s (selfcalFailed failed ofs refs) (feMeasured ofs refs cur vol)) else .next s
  | none => .next s

end Sys2Proof.Machine
end

