-- ==== Sys2Proof/Machine/Float.lean ====
section
/-! DEFINITION. Machine/Float.lean: binary32 and binary64 as an N-core computes them (09 R199): exact values, rounded to
nearest even, subnormals kept. -/

namespace Sys2Proof.Machine

/-- A format: bits of the fraction and of the exponent. -/
structure FFmt where
  mw : Nat
  ew : Nat
  deriving DecidableEq, Repr

/-- binary32. -/
abbrev f32 : FFmt := ⟨23, 8⟩

/-- binary64. -/
abbrev f64 : FFmt := ⟨52, 11⟩

/-- The format of an instruction. -/
def fmtOf (dbl : Bool) : FFmt := if dbl then f64 else f32

/-- The bias of the exponent. -/
def FFmt.bias (f : FFmt) : Nat := 2 ^ (f.ew - 1) - 1

/-- The width in bits. -/
def FFmt.width (f : FFmt) : Nat := f.mw + f.ew + 1

/-- What a pattern stands for: a NaN (signalling or quiet), an infinity, or sign and magnitude. -/
inductive FVal where
  | nan (signalling : Bool)
  | inf (neg : Bool)
  | fin (neg : Bool) (mag : Rat)
  deriving DecidableEq, Repr

/-- 2^e for any integer e. -/
def pow2Q (e : Int) : Rat := if e < 0 then 1 / ((2 ^ e.natAbs : Nat) : Rat) else ((2 ^ e.toNat : Nat) : Rat)

/-- The value of a pattern. -/
def fdec (f : FFmt) (b : Nat) : FVal :=
  let m := b % 2 ^ f.mw
  let e := b / 2 ^ f.mw % 2 ^ f.ew
  let neg := b.testBit (f.mw + f.ew)
  if e = 2 ^ f.ew - 1 then
    if m = 0 then .inf neg else .nan (!m.testBit (f.mw - 1))
  else if e = 0 then .fin neg ((m : Rat) * pow2Q (1 - (f.bias : Int) - (f.mw : Int)))
  else .fin neg (((2 ^ f.mw + m : Nat) : Rat) * pow2Q ((e : Int) - (f.bias : Int) - (f.mw : Int)))

/-- The sign bit of a pattern. -/
def fsign (f : FFmt) (neg : Bool) : Nat := if neg then 2 ^ (f.mw + f.ew) else 0

/-- The pattern of an infinity. -/
def finf (f : FFmt) (neg : Bool) : Nat := fsign f neg + (2 ^ f.ew - 1) * 2 ^ f.mw

/-- A quiet NaN whose sign and payload come from a free number. -/
def fnan (f : FFmt) (free : Nat) : Nat :=
  fsign f (free % 2 = 1) + (2 ^ f.ew - 1) * 2 ^ f.mw + 2 ^ (f.mw - 1) + free / 2 % 2 ^ (f.mw - 1)

/-- The greatest e with 2^e ≤ q, for a positive q. -/
def expOf (q : Rat) : Int :=
  let e : Int := (Nat.log2 q.num.toNat : Int) - (Nat.log2 q.den : Int)
  if pow2Q e ≤ q then e else e - 1

/-- The weight of the last place of a positive q in a format. -/
def ulpExp (f : FFmt) (q : Rat) : Int := max (expOf q) (1 - (f.bias : Int)) - (f.mw : Int)

/-- The pattern of n units of 2^u, n at most 2^(mw + 1), with a sign; too large gives an infinity. -/
def fpack (f : FFmt) (neg : Bool) (n : Nat) (u : Int) : Nat :=
  let base : Int := u + (f.mw : Int) + (f.bias : Int)
  let bits : Nat :=
    if n < 2 ^ f.mw then n
    else if n < 2 ^ (f.mw + 1) then base.toNat * 2 ^ f.mw + (n - 2 ^ f.mw)
    else (base.toNat + 1) * 2 ^ f.mw
  if (2 ^ f.ew - 1) * 2 ^ f.mw ≤ bits then finf f neg else fsign f neg + bits

/-- A magnitude rounded to nearest even, and whether it was inexact. -/
def fround (f : FFmt) (neg : Bool) (q : Rat) : Nat × Bool :=
  if q ≤ 0 then (fsign f neg, false)
  else
    let u := ulpExp f q
    let x := q / pow2Q u
    let n := (roundEvenI x.num (x.den : Int)).toNat
    let b := fpack f neg n u
    (b, decide (((n : Nat) : Rat) ≠ x) || b == finf f neg)

/-- A result: its pattern, invalid, inexact. -/
structure FRes where
  bits : Nat
  inv : Bool
  inx : Bool

/-- Does any operand signal? -/
def signals (xs : List FVal) : Bool := xs.any (fun x => decide (x = .nan true))

/-- Is any operand a NaN? -/
def anyNan (xs : List FVal) : Bool := xs.any (fun x => match x with
  | .nan _ => true
  | _ => false)

/-- A signed exact value rounded; `zneg` is the sign of an exact zero. -/
def froundS (f : FFmt) (zneg : Bool) (q : Rat) : FRes :=
  if q = 0 then ⟨fsign f zneg, false, false⟩
  else
    let r := fround f (decide (q < 0)) (if q < 0 then -q else q)
    ⟨r.1, false, r.2⟩

/-- Sign and magnitude as a number. -/
def signedQ (neg : Bool) (q : Rat) : Rat := if neg then -q else q

/-- The sum of two values; `free` fills a NaN. -/
def fadd (f : FFmt) (free : Nat) (a b : FVal) : FRes :=
  if anyNan [a, b] then ⟨fnan f free, signals [a, b], false⟩
  else match a, b with
    | .inf x, .inf y => if x = y then ⟨finf f x, false, false⟩ else ⟨fnan f free, true, false⟩
    | .inf x, _ => ⟨finf f x, false, false⟩
    | _, .inf y => ⟨finf f y, false, false⟩
    | .fin x p, .fin y q => froundS f (x && y) (signedQ x p + signedQ y q)
    | _, _ => ⟨fnan f free, false, false⟩

/-- The product of two values. -/
def fmul (f : FFmt) (free : Nat) (a b : FVal) : FRes :=
  if anyNan [a, b] then ⟨fnan f free, signals [a, b], false⟩
  else match a, b with
    | .inf x, .inf y => ⟨finf f (x != y), false, false⟩
    | .inf x, .fin y q => if q = 0 then ⟨fnan f free, true, false⟩ else ⟨finf f (x != y), false, false⟩
    | .fin x p, .inf y => if p = 0 then ⟨fnan f free, true, false⟩ else ⟨finf f (x != y), false, false⟩
    | .fin x p, .fin y q => froundS f (x != y) (signedQ (x != y) (p * q))
    | _, _ => ⟨fnan f free, false, false⟩

/-- a · b + c with one rounding. -/
def fmadd (f : FFmt) (free : Nat) (a b c : FVal) : FRes :=
  if anyNan [a, b, c] then ⟨fnan f free, signals [a, b, c], false⟩
  else match a, b with
    | .fin x p, .fin y q =>
      (match c with
      | .fin z r => froundS f ((x != y) && z) (signedQ (x != y) (p * q) + signedQ z r)
      | .inf z => ⟨finf f z, false, false⟩
      | .nan _ => ⟨fnan f free, false, false⟩)
    | _, _ =>
      let m := fmul f free a b
      if m.inv then m
      else
        let neg := m.bits.testBit (f.mw + f.ew)
        match c with
        | .inf z => if z = neg then ⟨finf f z, false, false⟩ else ⟨fnan f free, true, false⟩
        | _ => ⟨finf f neg, false, false⟩

/-- Comparison: less, equal; none: unordered. -/
def fcmp (a b : FVal) : Option (Bool × Bool) :=
  match a, b with
  | .nan _, _ => none
  | _, .nan _ => none
  | .inf x, .inf y => some (x && !y, decide (x = y))
  | .inf x, .fin _ _ => some (x, false)
  | .fin _ _, .inf y => some (!y, false)
  | .fin x p, .fin y q => some (decide (signedQ x p < signedQ y q), decide (signedQ x p = signedQ y q))

/-- A value to a format. -/
def fconv (f : FFmt) (free : Nat) (a : FVal) : FRes :=
  match a with
  | .nan sg => ⟨fnan f free, sg, false⟩
  | .inf x => ⟨finf f x, false, false⟩
  | .fin x q => froundS f x (signedQ x q)

/-- A value to a 32-bit signed integer, to nearest even; outside its range the operation is invalid and the result
free. -/
def fint (free : Nat) (a : FVal) : FRes :=
  match a with
  | .fin x q =>
    let v := signedQ x q
    let n := roundEvenI v.num (v.den : Int)
    if ovfS 32 n then ⟨free % 2 ^ 32, true, false⟩ else ⟨bitsOf 32 n, false, decide ((n : Rat) ≠ v)⟩
  | _ => ⟨free % 2 ^ 32, true, false⟩

/-! ### SQRT, RCP, LOG2, EXP2: within 1 ulp in binary32 and 2 ulp in binary64 (09 R199) -/

/-- The scale of this file's logarithms: 2^200. -/
abbrev lx : Int := 2 ^ 200

/-- 2 · atanh series from a power of z on, at scale 2^200. -/
def atanhL (z2 : Int) : Nat → Int → Nat → Int
  | 0, _, _ => 0
  | n + 1, t, i => 2 * t / (i : Int) + atanhL z2 n (t * z2 / lx) (i + 2)

/-- ln 2 at scale 2^200: twice the inverse hyperbolic tangent of 1/3. -/
def ln2L : Int := atanhL (lx / 9) 130 (lx / 3) 1

/-- log2 of a positive rational at scale 2^200. -/
def log2L (q : Rat) : Int :=
  let e := expOf q
  let y := q / pow2Q e
  let z := (y.num - (y.den : Int)) * lx / (y.num + (y.den : Int))
  e * lx + atanhL (z * z / lx) 130 z 1 * lx / ln2L

/-- The exponential series at scale 2^200 from a term on. -/
def expL (y : Int) : Nat → Int → Nat → Int
  | 0, _, _ => 0
  | n + 1, t, i => t + expL y n (t * y / lx / (i : Int)) (i + 1)

/-- 2^q for −1,200 ≤ q ≤ 1,200. -/
def exp2Q (q : Rat) : Rat :=
  let k := floorQ q
  let r := q - (k : Rat)
  let y := r.num * ln2L / (r.den : Int)
  ((expL y 60 lx 1 : Int) : Rat) / ((lx : Int) : Rat) * pow2Q k

/-- Special functions (09 Table 09-6 class 0xB). -/
inductive SpecialOp where
  | sqrt
  | rcp
  | log2
  | exp2
  deriving DecidableEq, Repr

/-- The pattern `k` units of the last place above the greatest one not above a positive q, k drawn by a free number from
those within the bound: `w` ulp. -/
def fnear (f : FFmt) (neg : Bool) (w free : Nat) (q : Rat) (exact : Bool) : Nat × Bool :=
  let u := ulpExp f q
  let n := floorQ (q / pow2Q u)
  let exact := exact && decide ((n : Rat) * pow2Q u = q)
  let span : Int := (if exact then 2 * w + 1 else 2 * w : Nat)
  let lo : Int := n - (w : Int) + (if exact then 0 else 1)
  let v := max 0 (lo + (free : Int) % span)
  let r := fround f neg ((v : Rat) * pow2Q u)
  (r.1, !exact || decide (v ≠ n) || r.2)

/-- A special function of a value. -/
def fspecial (f : FFmt) (free : Nat) (op : SpecialOp) (a : FVal) : FRes :=
  let w := if f.mw = 23 then 1 else 2
  match a with
  | .nan sg => ⟨fnan f free, sg, false⟩
  | .inf x =>
    (match op with
    | .sqrt => if x then ⟨fnan f free, true, false⟩ else ⟨finf f false, false, false⟩
    | .rcp => ⟨fsign f x, false, false⟩
    | .log2 => if x then ⟨fnan f free, true, false⟩ else ⟨finf f false, false, false⟩
    | .exp2 => if x then ⟨0, false, false⟩ else ⟨finf f false, false, false⟩)
  | .fin x q =>
    if q = 0 then
      (match op with
      | .sqrt => ⟨fsign f x, false, false⟩
      | .rcp => ⟨finf f x, false, false⟩
      | .log2 => ⟨finf f true, false, false⟩
      | .exp2 =>
        let r := fnear f false w free 1 true
        ⟨r.1, false, r.2⟩)
    else
      match op with
      | .sqrt =>
        if x then ⟨fnan f free, true, false⟩
        else
          let e := expOf q
          let u := 2 * (Int.fdiv e 2 - 2 * (f.mw : Int) - 8)
          let t := floorQ (q / pow2Q u)
          let n := isqrt t.toNat
          let root := (n : Rat) * pow2Q (Int.fdiv u 2)
          let exact := decide (root * root = q) && decide (floorQ (root / pow2Q (ulpExp f root)) * 1 = root / pow2Q (ulpExp f root))
          let r := fnear f false w free root exact
          ⟨r.1, false, r.2⟩
      | .rcp =>
        let v := 1 / q
        let t := v / pow2Q (ulpExp f v)
        let r := fnear f x w free v (decide (t.den = 1))
        ⟨r.1, false, r.2⟩
      | .log2 =>
        if x then ⟨fnan f free, true, false⟩
        else
          let e := expOf q
          if q = pow2Q e then
            if e = 0 then ⟨0, false, false⟩
            else
              let r := fnear f (decide (e < 0)) w free ((e.natAbs : Nat) : Rat) true
              ⟨r.1, false, r.2⟩
          else
            let v := log2L q
            let r := fnear f (decide (v < 0)) w free (((v.natAbs : Nat) : Rat) / ((lx : Int) : Rat)) false
            ⟨r.1, false, r.2⟩
      | .exp2 =>
        let y := signedQ x q
        if 1200 < y then ⟨finf f false, false, true⟩
        else
          let v := exp2Q (max y (-1200))
          let r := fnear f false w free v (decide (y.den = 1))
          ⟨r.1, false, r.2⟩

end Sys2Proof.Machine
end

