-- ==== Sys2Proof/Machine/Operands.lean ====
section
/-! DEFINITION. Machine/Operands.lean: the registers, pipeline, addressing and memory of a Needle core, as its instructions use
them (09 R193 to R203). -/

namespace Sys2Proof.Machine

/-! ### Registers -/

/-- An unwritten register. -/
def regZero (_ : Nat) : Nat := 0

/-- An unwritten signed register. -/
def regZeroI (_ : Nat) : Int := 0

/-- G register i. -/
def gAt (k : Core) (i : Nat) : Nat := kget regZero k.g (i % 32)

/-- The low `w` bits of a G register. -/
def gLow (k : Core) (i w : Nat) : Nat := gAt k i % 2 ^ w

/-- The scalar in a G register, as a signed number. -/
def gInt (k : Core) (i : Nat) : Int := wrapS 32 (gAt k i)

/-- The 16-bit lane j of a G register. -/
def gLane (k : Core) (i j : Nat) : Int := wrapS 16 ((gAt k i / 2 ^ (16 * j) : Nat) : Int)

/-- The 8 lanes of a G register. -/
def gLanes (k : Core) (i : Nat) : List Int := (List.range 8).map (gLane k i)

/-- A 128-bit value from lanes of `w` bits, the first lowest. -/
def packLanes (w : Nat) : List Int → Nat
  | [] => 0
  | x :: xs => bitsOf w x + 2 ^ w * packLanes w xs

/-- A core with a whole G register written. -/
def gSet (k : Core) (i v : Nat) : Core := { k with g := kput regZero k.g (i % 32) (v % 2 ^ 128) }

/-- The state with the low `w` bits of a G register written; the bits above are free (log 58). -/
def putLow (s : State) (c i w v : Nat) : State :=
  let f := takeFree s
  modCore f.2 c (fun k => gSet k i (v % 2 ^ w + 2 ^ w * f.1))

/-- Accumulator i. -/
def acAt (k : Core) (i : Nat) : Int := kget regZeroI k.ac (i % 8)

/-- A core with an accumulator written: it saturates at 40 bits and sets AOV (09 R199). -/
def acSet (k : Core) (i : Nat) (v : Int) : Core :=
  { k with ac := kput regZeroI k.ac (i % 8) (satS 40 v), st := if ovfS 40 v then putBit k.st 5 true else k.st }

/-- Address register n. -/
def aAt (k : Core) (n : Nat) : Nat := kget regZero k.a (n % 8)

/-- A core with an address register written. -/
def aSet (k : Core) (n v : Nat) : Core := { k with a := kput regZero k.a (n % 8) (v % 2 ^ 32) }

/-- A flag of ST (09 Table 09-3). -/
def stFlag (k : Core) (f : StFlag) : Bool :=
  k.st.testBit (match f with
    | .z => 0
    | .n => 1
    | .c => 2
    | .v => 3)

/-- A core with Z, N, C and V written. -/
def setFlags (k : Core) (z n cy v : Bool) : Core :=
  { k with st := putBit (putBit (putBit (putBit k.st 0 z) 1 n) 2 cy) 3 v }

/-- A core with a sticky bit of ST set where a test holds. -/
def sticky (k : Core) (bit : Nat) (on : Bool) : Core := { k with st := if on then putBit k.st bit true else k.st }

/-! ### Pipeline (09 R197, R198, R201) -/

/-- Key of accumulator i in the table of results. -/
def rAc (i : Nat) : Nat := 32 + i % 8

/-- Key of address register n. -/
def rA (n : Nat) : Nat := 40 + n % 8

/-- Key of the scalar flags. -/
abbrev rSt : Nat := 48

/-- An instruction issues once its sources are ready: it takes `n` cycles and `stall` more, its results are ready `lat`
cycles after issue (09 R201). -/
def issue (k : Core) (reads : List Nat) (n stall : Nat) (writes : List Nat) (lat : Nat) : Core :=
  let start := maxN (k.cyc :: reads.map (fun r => kget regZero k.ready r)) + stall
  { k with cyc := start + n, ready := writes.foldl (fun m w => kput regZero m w (start + lat)) k.ready }

/-- A stream instruction that may have waited goes on: CYC counts the cycles until now (09 R201). -/
def catchUp (s : State) (k : Core) : Core := { k with cyc := max k.cyc (nowClk s - k.startClk) }

/-- Slots of a repeat's body. -/
def bodySlots (r : RepLevel) : Nat := (r.after - r.first) / 4

/-- Does the loop cache serve the present fetch: a later iteration of a body of at most 64 slots (09 R198)? -/
def fromCache (k : Core) : Bool := k.reps.any (fun r => decide (bodySlots r ≤ 64) && decide (r.left < r.total))

/-- The program counter after an instruction that ends at `next`: the innermost repeat that ends there goes back, or is
over; a body that the loop cache cannot serve costs a bubble on an N-core (09 R197, R203). -/
def closeReps (x : Bool) (next : Nat) : List RepLevel → Nat × List RepLevel × Nat
  | [] => (next, [], 0)
  | r :: rs =>
    if next = r.after then
      (if 1 < r.left then (r.first, { r with left := r.left - 1 } :: rs, if !x && decide (64 < bodySlots r) then 1 else 0)
      else closeReps x next rs)
    else (next, r :: rs, 0)

/-- An instruction of `size` bytes is done: on to the next one. -/
def advance (c size : Nat) (k : Core) : Core :=
  let r := closeReps (isX c) (k.pc + size) k.reps
  { k with pc := r.1, reps := r.2.1, cyc := k.cyc + r.2.2 }

/-- The state after an instruction of a core. -/
def retire (s : State) (c size : Nat) : State := modCore s c (advance c size)

/-- Does a transfer of control to an address leave the innermost active body (09 R197)? -/
def leavesBody (k : Core) (target : Nat) : Bool :=
  match k.reps with
  | [] => false
  | r :: _ => decide (target < r.first) || decide (r.after ≤ target)

/-- The end of what a core may fetch: a kernel its 30 KiB, vendor firmware the runtime program too; an X-core its 32 KiB (09 R194,
R203). -/
def fetchEnd (s : State) (c : Nat) : Nat :=
  match coreUse s c with
  | .user _ => 0x7800
  | _ => 0x8000

/-- A core executes an instruction, `f` being its effect; a fetch outside the regions that hold its program traps BOUNDS (09 R194,
R202). -/
def onCore (s : State) (c : Nat) (f : Core → State) : State :=
  if !coreRuns s c then s
  else
    let k := coreOf s c
    if fetchEnd s c ≤ k.pc then coreTrap s c 6 else f k

/-- An instruction of a class that an X-core lacks is ILLEGAL there (09 R202, R203; log 62). -/
def onN (s : State) (c : Nat) (f : Core → State) : State := onCore s c (fun k => if isX c then coreTrap s c 1 else f k)

/-- An instruction of class 0xE is ILLEGAL on an N-core (09 R202). -/
def onX (s : State) (c : Nat) (f : Core → State) : State := onCore s c (fun k => if isX c then f k else coreTrap s c 1)

/-! ### Addresses (09 R194 to R196) -/

/-- An after a post-modification or ADDA, with a single wrap (09 R196). -/
def nextAddr (k : Core) (n : Nat) (inc : Int) : Nat :=
  let a : Int := (aAt k n : Int) + inc
  let mb : Int := (kget regZero k.mb (n % 8) : Nat)
  let ml : Int := (kget regZero k.ml (n % 8) : Nat)
  let a' := if ml = 0 then a else if mb + ml ≤ a then a - ml else if a < mb then a + ml else a
  bitsOf 32 a'

/-- The address of an access. -/
def effAddr (k : Core) (r : MemRef) : Nat :=
  match r.mode with
  | .pre b => bitsOf 32 ((aAt k r.an : Int) + b)
  | _ => aAt k r.an

/-- A core after an access of `size` bytes through an operand (09 R196). -/
def afterAccess (k : Core) (r : MemRef) (size : Nat) : Core :=
  match r.mode with
  | .plain => k
  | .pre _ => k
  | .postO => aSet k r.an (nextAddr k r.an (kget regZeroI k.o (r.an % 8)))
  | .postImm u => aSet k r.an (nextAddr k r.an (u * size))

/-- May a core read, or write, `size` bytes at an address (09 Table 09-4, R203)? The causes of a trap. -/
def regionTraps (x store : Bool) (a size : Nat) : List Nat :=
  if x then (if a + size ≤ 0x10000 then [] else [6])
  else if store then
    (if a < 0x8000 then [3]
    else if a < krnData ∨ 0x30000 < a + size then [6]
    else if a < krnCarry ∧ krnRuntime < a + size then [3]
    else [])
  else if a + size ≤ 0x7800 ∨ (krnData ≤ a ∧ a + size ≤ 0x30000) then []
  else [6]

/-- The causes for which an access traps (09 R194 to R196). -/
def accessTraps (k : Core) (x store : Bool) (r : MemRef) (size : Nat) : List Nat :=
  let a := effAddr k r
  let ml := kget regZero k.ml (r.an % 8)
  let past := decide (ml ≠ 0) && decide (kget regZero k.mb (r.an % 8) + ml < a + size)
  let odd := decide (size = 16) && decide (a % 16 ≠ 0)
  (if past || odd then [2] else []) ++ regionTraps x store a size

/-- One of several causes that hold at once: the spec gives no order among them, so a free number chooses (log 60). -/
def pickTrap (s : State) (c : Nat) (causes : List Nat) : State :=
  match causes with
  | [one] => coreTrap s c one
  | _ =>
    let f := takeFree s
    coreTrap f.2 c (nth 6 causes (f.1 % causes.length))

/-- Where a core's data address lies in its memory: Y memory follows X memory (09 R203). -/
def memKey (x : Bool) (an a : Nat) : Nat := if x ∧ 4 ≤ an % 8 then 0x10000 + a else a

/-- The cycles a data read of the program region waits for the program bus (09 R195). -/
def progStall (k : Core) (x : Bool) (a : Nat) : Nat := if !x && decide (a < 0x8000) && !fromCache k then 1 else 0

/-- The cycle that bus B waits when two accesses meet in a bank of the data region (09 R195). -/
def bankStall (x : Bool) (a b : Nat) : Nat :=
  if !x && decide (krnData ≤ a) && decide (krnData ≤ b) && decide (a / 16 % 8 = b / 16 % 8) then 1 else 0

end Sys2Proof.Machine
end

