-- ==== Sys2Proof/Machine/CoreStream.lean ====
section
/-! DEFINITION. Machine/CoreStream.lean: the stream and system instructions of a Needle core, and the events of its DMA and
output ring (09 R203, R210 to R212). -/

namespace Sys2Proof.Machine

/-! ### WAIT and DONE (09 R210, R213, R214) -/

/-- Rows that a core's subscription holds: WR_COUNT − RD_COUNT; a vendor core's own streams by its descriptors. -/
def rowsHeld (s : State) (c sub : Nat) : Nat :=
  match coreUse s c with
  | .user n => match (krnOf s n).subs[sub]? with
    | some r => r.wr - r.rd
    | none => 0
  | _ =>
    let m := (coreOf s c).mem
    (memWord m (krnRuntime + 32 * sub + 8) 4 + 2 ^ 32 - memWord m (krnRuntime + 32 * sub + 12) 4) % 2 ^ 32

/-- RD_COUNT of subscription 0 of a slot. -/
def rowsRead (x : UserSlot) : Nat := ((x.subs.head?).map (fun r => r.rd)).getD 0

/-- Does a kernel halt at this WAIT: it is to stop, or a swap's old core has passed row r (09 R213, R214)? -/
def haltsAtWait (s : State) (c : Nat) : Bool :=
  match coreUse s c with
  | .user n =>
    let x := krnOf s n
    x.stopping || (match x.swap with
      | some w => decide (w.row ≤ rowsRead x)
      | none => false)
  | _ => false

/-- WAIT Si, k: it goes on once the ring holds k rows; until then the core stalls and nothing changes (09 R210). -/
def waitEffect (s : State) (c sub k : Nat) (_ : Core) : State :=
  if haltsAtWait s c then modCore s c (fun q => { q with halted := true })
  else if rowsHeld s c sub < k then s
  else
    let s := modCore s c (fun q =>
      let q := issue (catchUp s q) [] 1 0 [] 1
      { q with waited := kput regZero q.waited sub q.cyc })
    retire s c 4

/-- WAIT (09 R210). -/
def execWaitInstr (core sub k : Nat) (s : State) : Host.Outcome State Fault Refusal :=
  .next (onCore s core (waitEffect s core sub k))

/-- DONE Si, k on a kernel's subscription: RD_COUNT, KRN_ROWS and KRN_MAX_CYCLES (09 R210, R217). -/
def doneUser (s : State) (c n sub k : Nat) : State :=
  match (krnOf s n).subs[sub]? with
  | some r =>
    let r' := { r with rd := r.rd + k, lens := r.lens.drop k }
    let q := coreOf s c
    let cycles := q.cyc - kget regZero q.waited sub
    let s := modKrn s n (fun x => { x with subs := setNth x.subs sub r' })
    let s := modCore s c (fun q => { q with mem := subDesc q.mem sub r' })
    let s := addP s 0x0C n nKRN_ROWS k
    setP s 0x0C n nKRN_MAX_CYCLES (wrapS 32 (max (natP s 0x0C n nKRN_MAX_CYCLES) cycles : Nat))
  | none => s

/-- DONE Si, k: k rows are freed (09 R210). -/
def doneEffect (s : State) (c sub k : Nat) (_ : Core) : State :=
  let s := modCore s c (fun q => issue q [] 1 0 [] 1)
  let s := match coreUse s c with
    | .user n => doneUser s c n sub k
    | _ => modCore s c (fun q =>
        let a := krnRuntime + 32 * sub + 12
        { q with mem := memPutWord q.mem a 4 (memWord q.mem a 4 + k) })
  retire s c 4

/-- DONE (09 R210). -/
def execDoneInstr (core sub k : Nat) (s : State) : Host.Outcome State Fault Refusal :=
  .next (onCore s core (doneEffect s core sub k))

/-! ### PUT and the output ring (09 R211) -/

/-- The generation of a slot. -/
def krnGen (s : State) (n : Nat) : Nat := natP s 0x0C n nKRN_GENERATION

/-- Bytes of the output ring that undrained records of the present generation take. -/
def outUsed (s : State) (n : Nat) : Nat :=
  sumN (((krnOf s n).out.filter (fun q => (nth 0 q.2 15).toNat = krnGen s n)).map (fun q => q.2.length))

/-- The descriptor of the output ring brought up to date. -/
def outDesc (s : State) (n : Nat) : State :=
  let x := krnOf s n
  match x.core with
  | some c => modCore s c (fun q => { q with mem := ringDesc q.mem 4 x.outBase x.outBytes x.outWr x.outRd 0 0 })
  | none => s

/-- A record goes into a slot's output ring (09 R211). -/
def putRecord (s : State) (c n ts : Nat) (body : List Byte) : State :=
  let x := krnOf s n
  let rec_ := tsBytes ts ++ leBytes 2 body.length ++ leBytes 1 n ++ leBytes 1 (krnGen s n) ++ body
  let s := modCore s c (fun q => { q with mem := ringPut q.mem x.outBase x.outBytes x.outOff rec_ })
  let s := setKrn s n { x with
    out := x.out ++ [(ts % 2 ^ 72, rec_)], outOff := (x.outOff + rec_.length) % x.outBytes, outWr := x.outWr + 1
    drainAt := if x.out.isEmpty then max x.drainAt (nowClk s) else x.drainAt }
  outDesc s n

/-- PUT: TS72 from a G register, `len` bytes of body from An; it stalls while the ring lacks room, and traps BOUNDS for a
body too long (09 R211). A vendor core has no output ring. -/
def putEffect (s : State) (c ts an len : Nat) (k : Core) : State :=
  match coreUse s c with
  | .user n =>
    let x := krnOf s n
    let most := (x.image.map (fun i => i.outRecBytes)).getD 0
    let a := aAt k an
    if most < len || !(regionTraps false false a len).isEmpty then coreTrap s c 6
    else if x.outBytes < outUsed s n + 16 + len then s
    else
      let s := putRecord s c n (gLow k ts 72) (memRead k.mem a len)
      retire (modCore s c (fun q => issue (catchUp s q) [ts % 32, rA an] 1 0 [] 1)) c 4
  | _ => retire (modCore s c (fun q => issue q [ts % 32, rA an] 1 0 [] 1)) c 4

/-- PUT (09 R211). -/
def execPutInstr (core ts an len : Nat) (s : State) : Host.Outcome State Fault Refusal :=
  .next (onCore s core (putEffect s core ts an len))

/-- Does a closed kernel frame wait for ring 131: then the router stops draining (14 R307)? -/
def kernelFrameWaits (s : State) : Bool := (ringOf s 131).queue.any (fun q => decide (q.frame.product = 5))

/-- OUTPUT_RING_DRAIN: the router takes the oldest record of a slot's output ring, at most OUT_RECORDS_PER_S (09 R211; 14
R449). -/
def execOutputRingDrain (slot : Nat) (s : State) : Host.Outcome State Fault Refusal :=
  let x := krnOf s slot
  match x.out with
  | [] => .next s
  | (ts, rec_) :: rest =>
    let rate := (x.image.map (fun i => i.outRate)).getD 0
    if x.drainAt ≤ nowClk s ∧ 0 < rate ∧ !kernelFrameWaits s then
      let mine := decide ((nth 0 rec_ 15).toNat = krnGen s slot)
      let s := setKrn s slot { x with
        out := rest, drainAt := nowClk s + ceilDiv secTicks rate, outRd := if mine then x.outRd + 1 else x.outRd }
      .next (hkPut (outDesc s slot) 5 rec_ ts)
    else .next s

/-! ### DMA (09 R212) -/

/-- The window of a slot in the Needle area of DRAM (09 R212; 13 R280). -/
def krnWindow (n : Nat) : Nat := 0x30000000 + n * 0x1000000

/-- DMA of `units` × 16 bytes between An and an offset of the window: it begins once the last copy has ended; its paced end
follows from DRAM_BYTES_PER_S. An address outside the window or the local memory traps (09 R202, R212). -/
def dmaEffect (s : State) (c an window units : Nat) (out : Bool) (k : Core) : State :=
  let bytes := 16 * units
  let a := aAt k an
  let rate := match coreUse s c with
    | .user n => ((krnOf s n).image.map (fun i => i.dramRate)).getD 0
    | _ => 0
  let traps := (if 0x1000000 < window + bytes then [6] else []) ++ regionTraps (isX c) (!out) a bytes
  if k.dma.isSome then s
  else if !traps.isEmpty then pickTrap s c traps
  else
    let from_ := max (nowClk s) k.paceEnd
    let endClk := if rate = 0 then from_ else from_ + ceilDiv (bytes * secTicks) rate
    let s := modCore s c (fun q =>
      { issue (catchUp s q) [rA an] 1 0 [] 1 with dma := some (a, window, bytes, out, endClk), paceEnd := endClk })
    retire s c 4

/-- DMA (09 R212). -/
def execDmaInstr (core an window units : Nat) (toWindow : Bool) (s : State) : Host.Outcome State Fault Refusal :=
  .next (onCore s core (dmaEffect s core an window units toWindow))

/-- DMA_COMPLETE: the copy of a core has run its paced time; the bytes are in place and a DWAIT goes on (09 R212). A kernel
that declares no traffic gets none. What a vendor core copies is not stated (log 67). -/
def execDmaComplete (core : Nat) (s : State) : Host.Outcome State Fault Refusal :=
  match (coreOf s core).dma with
  | none => .next s
  | some (a, w, n, out, t) =>
    if nowClk s < t then .next s
    else
      let s := modCore s core (fun k => { k with dma := none })
      match coreUse s core with
      | .user u =>
        let rate := ((krnOf s u).image.map (fun i => i.dramRate)).getD 0
        if rate = 0 then .next s
        else if out then
          .next { s with dram := memWrite s.dram (krnWindow u + w) (memRead (coreOf s core).mem a n) }
        else .next (modCore s core (fun k => { k with mem := memWrite k.mem a (memRead s.dram (krnWindow u + w) n) }))
      | _ => .next s

/-- DWAIT: it goes on once no copy runs (09 R212). -/
def execDwait (core : Nat) (s : State) : Host.Outcome State Fault Refusal :=
  .next (onCore s core (fun k =>
    if k.dma.isSome then s
    else retire (modCore s core (fun q => issue (catchUp s q) [] 1 0 [] 1)) core 4))

/-! ### CYCRD, EVT, FSRC (09 R201, R203) -/

/-- CYCRD: CYC into a G register (09 R193, R201). -/
def execCycrd (core dst : Nat) (s : State) : Host.Outcome State Fault Refusal :=
  .next (onCore s core (fun k =>
    let s := modCore s core (fun q => issue q [] 1 0 [dst % 32] 1)
    retire (putLow s core dst 64 k.cyc) core 4))

/-- EVT: an X-core presents a condition of the detector that a G register names, at the TS72 of another (09 R203; 07 R158). -/
def execEvt (core det ts : Nat) (s : State) : Host.Outcome State Fault Refusal :=
  .next (onX s core (fun k =>
    let s := modCore s core (fun q => issue q [det % 32, ts % 32] 1 0 [] 1)
    retire (skeinDetector s (gLow k det 16) (gLow k ts 72)) core 4))

/-- FSRC: an X-core raises a source with INSTANCE, DETAIL0 and DETAIL1 from G registers (09 R203; 18 R380). -/
def execFsrc (core src ins d0 d1 : Nat) (s : State) : Host.Outcome State Fault Refusal :=
  .next (onX s core (fun k =>
    let s := modCore s core (fun q => issue q [ins % 32, d0 % 32, d1 % 32] 1 0 [] 1)
    retire (detect s { raiseBlank src with ins := gLow k ins 16, d0 := gLow k d0 32, d1 := gLow k d1 64 }) core 4))

/-! ### CKPT, CFR and CFW (09 R203) -/

/-- The checkpoint mirror in DRAM: its base and its bytes (13 Table 13-2). -/
abbrev mirrorBase : Nat := 0x10000000
/-- Bytes of the checkpoint mirror. -/
abbrev mirrorBytes : Nat := 0x10000000

/-- A block of X or Y memory goes to the checkpoint mirror; where it lies there is not stated, a free value (log 109). -/
def ckptEffect (s : State) (c an len : Nat) (k : Core) : State :=
  let a := aAt k an
  let traps := regionTraps true false a len
  if !traps.isEmpty then pickTrap s c traps
  else
    let q := takeFree s
    let at_ := mirrorBase + q.1 % (mirrorBytes + 1 - min len mirrorBytes)
    let s := { q.2 with dram := memWrite q.2.dram at_ (memRead k.mem (memKey true an a) len) }
    retire (modCore s c (fun q => issue q [rA an] 1 0 [] 1)) c 4

/-- CKPT: an X-core hands `len` bytes at An to the checkpoint mirror (09 R203). -/
def execCkpt (core an len : Nat) (s : State) : Host.Outcome State Fault Refusal :=
  .next (onX s core (ckptEffect s core an len))

/-- What a control-fabric register reads: a loop's setpoint, a channel's target; any other register's content is not stated, a
free value (log 110). -/
def fabricRead (s : State) (x : FabricReg) : Nat × State :=
  match x with
  | .loop n => ((lp s n fLOOP_SET % 2 ^ 32).toNat, s)
  | .source ch => (((sdOf s ch).t % 2 ^ 32).toNat, s)
  | .other _ => takeFree s

/-- A control-fabric register is written: a loop drives the setpoint, a channel takes the target for its next carrier period; what
another register does is not stated (log 110). -/
def fabricWrite (s : State) (x : FabricReg) (v : Int) : State :=
  match x with
  | .loop n => if n < 4 then loopDrive s n v else s
  | .source ch => if ch < 8 then modSd s ch (fun y => { y with t := v, u := v }) else s
  | .other _ => s

/-- CFR_CFW: an X-core reads a control-fabric register into a G register, or writes it from one (09 R203). -/
def execCfrCfw (core : Nat) (target : FabricReg) (write : Bool) (g : Nat) (s : State) : Host.Outcome State Fault Refusal :=
  .next (onX s core (fun k =>
    if write then
      let s := modCore s core (fun q => issue q [g % 32] 1 0 [] 1)
      retire (fabricWrite s target (gInt k g)) core 4
    else
      let v := fabricRead s target
      let s := modCore v.2 core (fun q => issue q [] 1 0 [g % 32] 1)
      retire (putLow s core g 32 v.1) core 4))

end Sys2Proof.Machine
end

