-- ==== Sys2Proof/Machine/Needle.lean ====
section
/-! DEFINITION. Machine/Needle.lean: loading, starting, stopping and swapping user kernels, core faults and spares (09 R207 to
R217). -/

namespace Sys2Proof.Machine

/-! ### Images (09 R208, R209) -/

/-- The fields of an image's header, its program and data (09 Table 09-11). -/
def krnImageOf (bs : List Byte) : KrnImage :=
  let sub := fun (i : Nat) => (fieldAt bs (32 + 4 * i + 3) 1, fieldAt bs (32 + 4 * i + 2) 1, fieldAt bs (32 + 4 * i) 2)
  let np := fieldAt bs 52 4
  let nd := fieldAt bs 56 4
  { cyclesPerRow := fieldAt bs 76 4, dramRate := fieldAt bs 72 4, outRingKib := fieldAt bs 70 2, outRecBytes := fieldAt bs 68 2
    outRate := fieldAt bs 64 4, bss := fieldAt bs 60 4, entry := fieldAt bs 48 4, subs := [sub 0, sub 1, sub 2, sub 3]
    carry := (fieldAt bs 4 2).testBit 1, prog := fitBytes np (bs.drop 128), data := fitBytes nd (bs.drop (128 + np)) }

/-- DIGEST of an image: SHA-384 of the header with DIGEST zero, the program and the data (09 R208). -/
def krnDigest (bs : List Byte) : List Byte :=
  sha384 (bs.take 80 ++ zeros 48 ++ (bs.drop 128).take (fieldAt bs 52 4 + fieldAt bs 56 4))

/-- Does the signature that follows the data verify (09 R208, R209)? -/
def krnSigned (bs : List Byte) : Bool :=
  Config.krnSigOk ((bs.drop 80).take 48) ((bs.drop (128 + fieldAt bs 52 4 + fieldAt bs 56 4)).take 96)

/-- Is the image format wrong: MAGIC, HEADER_BYTES, ABI (09 R209, check 1)? The bit offset of the field. -/
def krnFormat (bs : List Byte) : Option Nat :=
  if fieldAt bs 0 2 ≠ 0x4E4B then some 0
  else if fieldAt bs 2 2 ≠ 0x80 then some 16
  else if fieldAt bs 6 2 ≠ 1 then some 48
  else none

/-- Does the program or the layout not fit (09 R209, check 4)? The bit offset of the field. -/
def krnSize (bs : List Byte) (i : KrnImage) : Option Nat :=
  if 30720 < fieldAt bs 52 4 then some 416
  else if fieldAt bs 52 4 ≤ i.entry then some 384
  else if krnRuntime < (krnLayout i).2.2 + 1024 then some 448
  else none

/-- The first subscription whose zone gives no rows (09 R209, check 5). -/
def krnBadSub (s : State) (i : KrnImage) : Option Nat :=
  [0, 1, 2, 3].find? (fun j =>
    let q := nth (0, 0, 0) i.subs j
    decide (q.1 = 1) && !(decide (q.2.1 < 128) && zoneDefined s q.2.1))

/-- The state with a slot's own image left out, where a new one replaces it. -/
def withoutImage (s : State) (n : Nat) : State :=
  if krnRuns (krnOf s n) then s else modKrn s n (fun x => { x with image := none })

/-- Bytes per second of kernel records (14 R309). -/
def hkRate (is : List KrnImage) : Nat := sumN (is.map (fun i => i.outRate * (16 + i.outRecBytes)))

/-- The checks of KRN_LOAD in their order (09 R209; 13 R288; 14 R309). -/
def krnFault (s : State) (n : Nat) (bs : List Byte) : Option Reply :=
  let i := krnImageOf bs
  let c := sceneNow s
  let t := withoutImage s n
  match krnFormat bs with
  | some b => some (badHeader b)
  | none =>
    if krnDigest bs ≠ (bs.drop 80).take 48 then some (statusOnly stAuthFail)
    else if (getP s 0x0C 0 nKRN_SIGNED_ONLY = 1 ∧ !(fieldAt bs 4 2).testBit 0) ∨ ((fieldAt bs 4 2).testBit 0 ∧ !krnSigned bs) then
      some (statusOnly stAuthFail)
    else match krnSize bs i with
      | some b => some (badHeader b)
      | none =>
        match krnBadSub s i with
        | some j => some (badHeader (256 + 32 * j))
        | none =>
          if kernelOver c i then some (noResource 0x0C03 n)
          else if krnRuns (krnOf s n) ∧ (nSpares s).length < 2 then some (noResource 0x0C04 n)
          else if dramLimit (natP s 0x10 0 mFSP_NOW) < dramLoad t c [] [i] (natP s 0x10 0 mP7_RESERVE) then
            some (noResource 0x1001 n)
          else if 200000000 < hkRate (((loadedSlots t).map (fun q => q.2)) ++ [i]) then some (noResource 0x1101 n)
          else none

/-! ### KRN_LOAD, KRN_START, KRN_STOP (09 R207, R213, R214) -/

/-- A KRN command on a slot: BAD_PARAM at or above USER_CORES, BUSY while LOADING (09 R207, R213). -/
def krnCommand (n : Nat) (f : State → State × Answer) (s : State) : State × Answer :=
  if natP s 0x0C 0 nUSER_CORES ≤ n then reply s (badField 0)
  else if (krnOf s n).st = .loading then reply s (busy n)
  else f s

/-- A core for a slot that lost its own: the lowest free spare takes its place (09 R216; log 68). -/
def slotGetsCore (s : State) (n : Nat) : Option State :=
  match (krnOf s n).core with
  | some _ => some s
  | none => ((nSpares s).head?).map (fun c => modKrn (setUse s c (.user n)) n (fun x => { x with core := some c }))

/-- Source 52 clears for its slot at KRN_START or KRN_LOAD (09 Table 09-15). -/
def clearTrap (s : State) (n : Nat) : State := if (srcRec s 52).data.ins = n then clearIf s 52 else s

/-- An image that passed its checks loads: on the slot's core, or beside a running kernel on a spare that is tested first (09 R213). -/
def krnBeginLoad (s : State) (n tag : Nat) (i : KrnImage) : State :=
  let runs := krnRuns (krnOf s n)
  let sp := if runs then (nSpares s).head? else none
  let testEnd := sp.map (fun _ => nowClk s + 40 * usTicks)
  let s := match sp with
    | some c => setUse s c (.shadow n)
    | none => s
  modKrn s n (fun x => { x with st := .loading, before := x.st, next := some i, tag := tag, shadowCore := sp, testEnd := testEnd })

/-- FW_KRN_LOAD (09 R209, R213). -/
def bodyFwKrnLoad (slot n : Nat) (b : Bulk) : State → State × Answer :=
  krnCommand n (fun s =>
    let x := ringOf s 133
    let ready := decide (x.st = .running) && decide (krnLoads s < (x.prod + 2 ^ 32 - x.cons) % 2 ^ 32)
    if (krnOf s n).st = .shadow then reply s (badState 0 n)
    else if !ready then
      let p := malformed s slot
      (p.1, .final p.2)
    else if !bulkOk b then
      let p := malformed (takeDescriptor s 1) slot
      (p.1, .final p.2)
    else
      let bs := bulkBytes s b
      match krnFault s n bs with
      | some r => reply (takeDescriptor s 1) r
      | none =>
        match slotGetsCore s n with
        | none => reply (takeDescriptor s 1) (noResource 0x0C04 n)
        | some s => (krnBeginLoad (clearTrap s n) n (bulkTag b) (krnImageOf bs), .later (.krnLoad n)))

/-- FW_KRN_LOAD: the next image of H2C ring 1 is checked and placed on the slot's core or on a spare (09 R209, R213). -/
def execFwKrnLoad (r : Req) (slot : Nat) (desc : Bulk) (s : State) : Host.Outcome State Fault Refusal :=
  .next (mbxRun (.fwKrnLoad r slot desc) r 0x0C04 false (bodyFwKrnLoad r.slot slot desc) s)

/-- The counts of a slot are zero again (09 R217). -/
def krnCountsZero (s : State) (n : Nat) : State :=
  [nKRN_ROWS, nKRN_DROPPED, nKRN_MAX_CYCLES, nKRN_RESTARTS].foldl (fun s i => setP s 0x0C n i 0) s

/-- A core with an image placed on it, waiting to start; a write to the program region empties the loop cache (09 R198,
R209). -/
def krnPlaced (s : State) (c : Nat) (i : KrnImage) : State :=
  let k := coreOf s c
  setCore s c { coreBlank 0 with halted := true, mem := placeImage k.mem i }

/-- KRN_LOAD_DONE: the image is in place, on a spare once that has passed its test; LOADED, or SHADOW beside a running kernel; the window is cleared (09 R209, R212,
R213). -/
def execKrnLoadDone (slot : Nat) (s : State) : Host.Outcome State Fault Refusal :=
  let x := krnOf s slot
  match x.next with
  | none => .next s
  | some i =>
    if x.st ≠ .loading ∨ x.testEnd.isSome then .next s
    else
      let s := krnCountsZero (takeDescriptor s 1) slot
      let w := krnWindow slot
      let s := { s with dram := kfilter (fun a => decide (a < w) || decide (w + 0x1000000 ≤ a)) s.dram }
      let s :=
        match x.shadowCore, x.core with
        | some c, _ => modKrn (krnPlaced s c i) slot (fun x => { x with st := .shadow })
        | none, some c => modKrn (krnPlaced s c i) slot (fun x => { x with st := .loaded, image := some i, next := none, out := [] })
        | none, none => modKrn s slot (fun x => { x with st := .loaded, image := some i, next := none, out := [] })
      .next (complete (settleRing s 133 (decide (krnLoads s ≠ 0))) (.krnLoad slot) (okWith (leBytes 4 x.tag)))

/-- A slot's kernel starts, or starts again, at ENTRY with its data initialised (09 R213). -/
def krnRun (s : State) (n : Nat) : State :=
  match (krnOf s n).core, (krnOf s n).image with
  | some c, some i => modKrn (startKernel s n c i) n (fun x => { x with st := .running, stopping := false })
  | _, _ => s

/-- FW_KRN_START (09 R213, R214). -/
def bodyFwKrnStart (n : Nat) : State → State × Answer :=
  krnCommand n (fun s =>
    let x := krnOf s n
    let done := fun (s : State) => (s, Answer.later (.krnStart n))
    match x.st with
    | .loaded =>
      (match slotGetsCore s n with
      | none => reply s (noResource 0x0C04 n)
      | some s => done (krnRun (clearTrap s n) n))
    | .trapped =>
      (match slotGetsCore s n with
      | none => reply s (noResource 0x0C04 n)
      | some s => done (krnRun (bumpP (clearTrap s n) 0x0C n nKRN_RESTARTS) n))
    | .shadow =>
      if x.swap.isSome ∨ x.stopping then reply s (busy n)
      else
        match x.next with
        | none => reply s (badState 0 n)
        | some i =>
          let row := ((x.subs.head?).map (fun r => r.wr)).getD 0
          (modKrn s n (fun x => { x with swap := some ⟨row, nowClk s + msTicks⟩, nextSubs := subRings s i }), .later (.krnStart n))
    | _ => reply s (badState 0 n))

/-- A KRN_START whose kernel runs at once completes after its interim response (09 R213; 15 R332). -/
def krnSettle (n : Nat) (s : State) : State :=
  if (krnOf s n).st = .running ∧ (krnOf s n).swap = none then complete s (.krnStart n) (okWith (leBytes 1 (krnGen s n))) else s

/-- FW_KRN_START (09 R213, R214). -/
def execFwKrnStart (r : Req) (slot : Nat) (s : State) : Host.Outcome State Fault Refusal :=
  .next (krnSettle slot (mbxRun (.fwKrnStart r slot) r 0x0C05 false (bodyFwKrnStart slot) s))

/-- FW_KRN_STOP (09 R213). -/
def bodyFwKrnStop (n : Nat) : State → State × Answer :=
  krnCommand n (fun s =>
    let x := krnOf s n
    match x.st with
    | .empty => reply s (badState 0 n)
    | .loaded => (setKrn s n { userBlank 0 with core := x.core }, .final okBare)
    | .trapped => (setKrn s n { userBlank 0 with core := x.core }, .final okBare)
    | _ =>
      if x.swap.isSome ∨ x.stopping then reply s (busy n)
      else (modKrn s n (fun x => { x with stopping := true }), .later (.krnStop n)))

/-- FW_KRN_STOP (09 R213). -/
def execFwKrnStop (r : Req) (slot : Nat) (s : State) : Host.Outcome State Fault Refusal :=
  .next (mbxRun (.fwKrnStop r slot) r 0x0C06 false (bodyFwKrnStop slot) s)

/-- KRN_STOP_DONE: the kernel has halted at its row boundary and its output ring is drained: LOADED; from SHADOW with the shadow
core and image (09 R213). -/
def execKrnStopDone (slot : Nat) (s : State) : Host.Outcome State Fault Refusal :=
  let x := krnOf s slot
  if krnStopped s x ∧ x.out = [] then
    let s :=
      match x.shadowCore with
      | some c =>
        let s := match x.core with
          | some o => setUse s o .spare
          | none => s
        modKrn (setUse s c (.user slot)) slot (fun x => { x with
          st := .loaded, stopping := false, core := some c, shadowCore := none, image := x.next, next := none })
      | none => modKrn s slot (fun x => { x with st := .loaded, stopping := false })
    .next (complete s (.krnStop slot) okBare)
  else .next s

/-! ### Swap (09 R214) -/

/-- The new core of a swap takes over: carry-over, start, generation, KRN_START completes; the old core is tested for 40 µs. -/
def swapCores (s : State) (n : Nat) : State :=
  let x := krnOf s n
  match x.core, x.shadowCore, x.image, x.next with
  | some o, some c, some old, some new =>
    let area := memRead (coreOf s o).mem krnCarry 0x1000
    let s := if old.carry && new.carry then modCore s c (fun k => { k with mem := memWrite k.mem krnCarry area }) else s
    let s := setCore s c (startedCore s (coreOf s c) new x.nextSubs)
    let s := setUse (setUse s c (.user n)) o (.testing (nowClk s + 40 * usTicks))
    let gen := (krnGen s n + 1) % 256
    let s := setP s 0x0C n nKRN_GENERATION gen
    let s := setKrn s n { x with
      st := .running, core := some c, shadowCore := none, image := some new, next := none, subs := x.nextSubs, nextSubs := []
      swap := none, outBase := (krnLayout new).2.1, outBytes := new.outRingKib * 1024, outOff := 0, outWr := 0, outRd := 0 }
    complete s (.krnStart n) (okWith (leBytes 1 gen))
  | _, _, _, _ => s

/-- Has the old core of a swap halted? -/
def oldHalted (s : State) (x : UserSlot) : Bool :=
  match x.core with
  | some c => (coreOf s c).halted
  | none => true

/-- KRN_SWAP_SWITCH: the old core has passed row r and halted (09 R214). -/
def execKrnSwapSwitch (slot : Nat) (s : State) : Host.Outcome State Fault Refusal :=
  let x := krnOf s slot
  match x.swap with
  | none => .next s
  | some w => if oldHalted s x ∧ w.row ≤ rowsRead x then .next (swapCores s slot) else .next s

/-- KRN_SWAP_FORCED_HALT: 1 ms after acceptance the old core has not passed row r; its unconsumed rows count as dropped (09
R214). -/
def execKrnSwapForcedHalt (slot : Nat) (s : State) : Host.Outcome State Fault Refusal :=
  let x := krnOf s slot
  match x.swap, x.core with
  | some w, some c =>
    if w.deadline ≤ nowClk s ∧ rowsRead x < w.row then
      let s := modCore s c (fun k => { k with halted := true })
      let lost := sumN (x.subs.map (fun r => r.lens.length))
      .next (swapCores (krnDrop s slot lost) slot)
    else .next s
  | _, _ => .next s

/-! ### USER_CORES (09 R207) -/

/-- Slots below the new number without a core take the highest-numbered vendor core each; slots at or above it give theirs
back (09 R207; log 53). -/
def setUserCores (s : State) (n : Nat) : State :=
  (List.range 16).foldl (fun s u =>
    let x := krnOf s u
    if u < n then
      if x.core.isSome then s
      else match (vendorPool s).getLast? with
        | some c => setCore (modKrn (setUse s c (.user u)) u (fun x => { x with core := some c })) c { coreBlank 0 with halted := true }
        | none => s
    else match x.core with
      | some c => setCore (setKrn (setUse s c .vendor) u (userBlank 0)) c { coreBlank 0 with startClk := nowClk s }
      | none => s) s

/-- The checks of a commit of USER_CORES (09 R206, R207). -/
def userCoresFault (s : State) (n : Nat) : Option Reply :=
  match (List.range 16).find? (fun u => decide (n ≤ u) && decide ((krnOf s u).st ≠ .empty)) with
  | some u => some (badState 0x0C07 u)
  | none =>
    if natP s 0x0C 0 nUSER_CORES < n ∧ cycleLimit s n < (vendorLoad (sceneNow s)).cycles then some (noResource 0x0C01 0)
    else none

/-! ### Core faults and spares (09 R215, R216) -/

/-- The source that a fault of a core raises, naming the physical core (09 R215). -/
def coreSource (c : Nat) : Raise := { raiseBlank (if isX c then 49 else 48) with ins := c }

/-- Does an index lie in slice `i` of `m` of `n` (09 R204; log 69)? -/
def inSlice (i m n q : Nat) : Bool := decide (i * n / max 1 m ≤ q) && decide (q < (i + 1) * n / max 1 m)

/-- The vendor functions of slice i of m resume: interval means and statistics start again, detectors hold (09 R215). -/
def resumeSlice (s : State) (i m : Nat) : State :=
  let s := [0, 1].foldl (fun s p =>
    let st := statsOf s p
    let s := setStats s p { st with acc := (List.range st.acc.length).map (fun q =>
      if inSlice i m st.acc.length q then statNone else nth statNone st.acc q) }
    modRaman s p (fun x => { x with e := (List.range x.e.length).map (fun q =>
      if inSlice i m x.e.length q then eRestart (nth eNone x.e q) else nth eNone x.e q) })) s
  (List.range 128).foldl (fun s z =>
    if !zoneDefined s z then s
    else
      let v := zview s z
      let n := planN_ (pv s (zport v))
      if (zstitches v).any (inSlice i m n) then
        modZone s z (fun x => { x with dets := x.dets.map (fun d => { d with since := 0, win := [], hold := true }) })
      else s) s

/-- The lowest slot whose shadow holds a spare core (09 R215). -/
def shadowHolder (s : State) : Option Nat := (List.range 16).find? (fun n => (krnOf s n).shadowCore.isSome)

/-- A spare of a core's kind, where need be from a shadow that is discarded (09 R215). -/
def findSpare (s : State) (c : Nat) : State × Option Nat :=
  if isX c then (s, (xSpares s).head?)
  else match (nSpares s).head? with
    | some p => (s, some p)
    | none =>
      match shadowHolder s with
      | some n =>
        let s := dropShadow s n
        (s, (nSpares s).head?)
      | none => (s, none)

/-- A slot loses its core: TRAPPED with cause 9 NO_CORE, keeping its image; one whose first image loads is EMPTY again (09 R216). -/
def slotLosesCore (s : State) (n : Nat) : State :=
  let s := if (krnOf s n).image.isSome then krnTrap s n 9 0 else dropShadow s n
  modKrn s n (fun x => { x with core := none })

/-- The highest-numbered RUNNING slot with a core (09 R216). -/
def topRunning (s : State) : Option Nat :=
  ((List.range 16).filter (fun n => decide ((krnOf s n).st = .running) && (krnOf s n).core.isSome)).getLast?

/-- The enabled detectors, highest number first (09 R216). -/
@[irreducible] def detectorsDown (s : State) : List Nat :=
  ((List.range 512).filter (fun d => zoneDefined s (d / 4) && detOn (zview s (d / 4)) (d % 4))).reverse

/-- A detector is disabled and held, and journalled with its number (09 R216). -/
def shedDetector (s : State) (d : Nat) : State :=
  let s := setP s 0x04 (d / 4) (zdet zDET_ENABLE (d % 4)) 0
  let hold := fun (t : Det) => { t with hold := true }
  let s := modZone s (d / 4) (fun x => { x with dets := setNth x.dets (d % 4) (hold (nth detNone x.dets (d % 4))) })
  detect s { raiseBlank 51 with zone := d / 4, d0 := d }

/-- The vendor load fits the cycles that are left (09 R206, R216). -/
def vendorFits (s : State) : Bool := decide ((vendorLoad (sceneNow s)).cycles ≤ cycleLimit s (natP s 0x0C 0 nUSER_CORES))

/-- One detector is disabled unless the load fits (09 R216). -/
def shedNext (s : State) (d : Nat) : State := if vendorFits s then s else shedDetector s d

/-- Detectors are disabled in descending number until the load fits (09 R216). -/
def shedDetectors (s : State) : State := (detectorsDown s).foldl shedNext s

/-- A user core goes to the vendor pool, and the vendor functions of a failed core resume there (09 R215, R216). -/
def vendorTakes (s : State) (c : Nat) (slice : Nat × Nat) : State :=
  resumeSlice (setCore (setUse s c .vendor) c { coreBlank 0 with startClk := nowClk s }) slice.1 slice.2

/-- A user slot gets the core of another, and its kernel starts again there if it ran (09 R215, R216). -/
def slotTakes (s : State) (n c : Nat) (ran : Bool) : State :=
  let s := modKrn (setUse s c (.user n)) n (fun x => { x with core := some c })
  if ran then bumpP (krnRun s n) 0x0C n nKRN_RESTARTS
  else match (krnOf s n).image with
    | some i => krnPlaced s c i
    | none => setCore s c { coreBlank 0 with halted := true }

/-- A fault found no spare: source 51, then the first measure of R216 that succeeds. -/
def degrade (s : State) (f : CoreFault) : State :=
  let s := detectSrc s 51
  let s := { s with needle := { s.needle with faults := s.needle.faults.filter (fun g => !decide (g.core = f.core)) } }
  if isX f.core then
    if xInService s = 1 then detectSrc s 53 else s
  else match f.use, topRunning s with
    | .vendor, some u =>
      (match (krnOf s u).core with
      | some c => vendorTakes (slotLosesCore s u) c f.slice
      | none => s)
    | .vendor, none => resumeSlice (shedDetectors s) f.slice.1 f.slice.2
    | .user n, some u =>
      if u = n then slotLosesCore s n
      else (match (krnOf s u).core with
        | some c => slotTakes (slotLosesCore s u) n c f.ran
        | none => slotLosesCore s n)
    | .user n, none => slotLosesCore s n
    | .shadow n, _ => dropShadow s n
    | _, _ => s

/-- Does a failed core need a spare: it did something (09 R215)? -/
def needsSpare (u : CoreUse) : Bool :=
  match u with
  | .vendor => true
  | .user _ => true
  | .shadow _ => true
  | _ => false

/-- The spare for a failed core: a shadow's own core is replaced by a free spare only (09 R215). -/
def spareFor (s : State) (f : CoreFault) : State × Option Nat :=
  match f.use with
  | .shadow _ => (s, (nSpares s).head?)
  | _ => findSpare s f.core

/-- NEEDLE_CORE_FAULT: a core fault is declared; its core leaves service, a spare is taken for it, or R216 applies; a spare or a
core under test has none to be replaced (09 R215, R216). -/
def execNeedleCoreFault (core : Nat) (s : State) : Host.Outcome State Fault Refusal :=
  match s.needle.faults.find? (fun f => f.core = core && !f.declared) with
  | none => .next s
  | some f =>
    let s := detect (repairAdd (setUse s core .failed) (.core core)) (coreSource core)
    if !needsSpare f.use then
      let s := { s with needle := { s.needle with faults := s.needle.faults.filter (fun g => !decide (g.core = core)) } }
      .next (quietIn s (coreSource core).src 0)
    else
      let q := spareFor s f
      let mark := fun (g : CoreFault) => if g.core = core then { g with declared := true, spare := q.2 } else g
      let s := { q.1 with needle := { q.1.needle with faults := q.1.needle.faults.map mark } }
      .next (if q.2.isSome then s else degrade s f)

/-- What the failed core did goes on on its spare (09 R215; log 69). -/
def resumeWork (s : State) (f : CoreFault) (sp : Nat) : State :=
  let s := setUse s sp f.use
  match f.use with
  | .user n =>
    let x := krnOf s n
    let s := setKrn s n { x with core := some sp }
    (match x.image with
    | none => setCore s sp { coreBlank 0 with halted := true }
    | some i =>
      if f.ran then
        let s := modKrn (startKernel s n sp i) n (fun x => { x with st := if x.st = .trapped then .running else x.st })
        bumpP s 0x0C n nKRN_RESTARTS
      else krnPlaced s sp i)
  | .shadow n =>
    let x := krnOf s n
    (match x.next with
    | none => setUse s sp .spare
    | some i =>
      let test := if x.st = .loading then some (nowClk s + 40 * usTicks) else none
      krnPlaced (setKrn s n { x with shadowCore := some sp, testEnd := test }) sp i)
  | _ =>
    let s := setCore s sp { coreBlank 0 with startClk := nowClk s }
    if isX sp then s else resumeSlice s f.slice.1 f.slice.2

/-- NEEDLE_SPARE_IN_SERVICE: the spare of a failed core enters service and the work resumes (09 R215, Table 09-15). -/
def execNeedleSpareInService (core : Nat) (s : State) : Host.Outcome State Fault Refusal :=
  match s.needle.faults.find? (fun f => f.core = core && f.declared) with
  | none => .next s
  | some f =>
    match f.spare with
    | none => .next s
    | some sp =>
      let s := { s with needle := { s.needle with faults := s.needle.faults.filter (fun g => !decide (g.core = core)) } }
      let s := resumeWork s f sp
      let s := if s.needle.faults.any (fun g => isX g.core == isX core) then s else clearIf s (coreSource core).src
      .next (if 2 ≤ xInService s then clearIf s 53 else s)

/-- NEEDLE_HEARTBEAT_TIMEOUT: a vendor core's heartbeat has been missing for 16 µs, by itself or muted by a snag
(09 R215; 18 Table 18-5). -/
def execNeedleHeartbeatTimeout (core : Nat) (s : State) : Host.Outcome State Fault Refusal :=
  let s := if snagArmed s 0x0042 core then spendSnag s 0x0042 core else s
  if core < 68 ∧ coreUse s core = .vendor ∧ s.boot.fwRuns then .next (coreFault s core) else .next s

/-- NEEDLE_ECC_ERROR: a single error of any core's memory is corrected and counted; a double error traps with ECC where a program
runs, and is a core fault (09 R195, R202, R215, R216). -/
def execNeedleEccError (core : Nat) (double : Bool) (s : State) : Host.Outcome State Fault Refusal :=
  if 68 ≤ core then .next s
  else if double then
    match coreUse s core with
    | .user n =>
      let run := coreRuns s core
      let s := coreFault s core
      .next (if run then krnTrap s n 7 (coreOf s core).pc else s)
    | .vendor => .next (coreTrap s core 7)
    | _ => .next (coreFault s core)
  else .next (quietIn (detect (bumpP s 0x0C 0 nECC_CORRECTED) { raiseBlank 55 with ins := core }) 55 secTicks)

/-! ### Statistics (09 R204; 14 R304, R449) -/

/-- A sum over n samples as a mean, in binary32. -/
def meanBits (sum : Int) (n : Nat) : Nat := (froundS f32 false (if n = 0 then 0 else (sum : Rat) / (n : Rat))).bits

/-- A variance in binary32: mean of squares less square of the mean. -/
def varBits (sum : Int) (sq n : Nat) : Nat :=
  let m : Rat := if n = 0 then 0 else (sum : Rat) / (n : Rat)
  (froundS f32 false (if n = 0 then 0 else (sq : Rat) / (n : Rat) - m * m)).bits

/-- The 24 bytes of a stitch (14 R304): means of AMP and DPHI, then their variances, then the four counts (log 66). -/
def statRecord (a : StatAcc) : List Byte :=
  leBytes 4 (meanBits a.amp a.n) ++ leBytes 4 (meanBits a.dphi a.n) ++ leBytes 4 (varBits a.amp a.ampSq a.n) ++
    leBytes 4 (varBits a.dphi a.dphiSq a.n) ++ leBytes 2 (min a.faded 0xFFFF) ++ leBytes 2 (min a.span 0xFFFF) ++
    leBytes 2 (min a.clip 0xFFFF) ++ leBytes 2 (min a.interp 0xFFFF)

/-- STATISTICS_SECOND: the second that a port's statistics cover has ended; a record for each stitch, and the frame closes after
the last (14 R304, R449). -/
def execStatisticsSecond (port : Nat) (s : State) : Host.Outcome State Fault Refusal :=
  let x := statsOf s port
  if x.acc.isEmpty ∨ s.time.ticks < (x.sec + 1) * secTicks ∨ 2 ≤ port then .next s
  else
    let ts := ts72 (x.sec * secTicks) 0
    let key := 0x40 + port
    let s := (List.range x.acc.length).foldl (fun s q =>
      hkPutAt s key (q + port * 2 ^ 31) (statRecord (nth statNone x.acc q)) ts) s
    .next (setStats (hkClose s key) port (statsNone 0))

end Sys2Proof.Machine
end

