-- ==== Sys2Proof/Machine/PhaseOps.lean ====
section
/-! DEFINITION. Machine/PhaseOps.lean: the phase engine: gauge products, unwrapping, ply alignment, common mode, fades, the
four products, spectra (04). -/

namespace Sys2Proof.Machine

/-- AMP² of a stitch-sample over both polarisations (01 R30, 04 R90, R96). -/
def power (z : Stitch) : Nat := (z.xr * z.xr + z.xi * z.xi + z.yr * z.yr + z.yi * z.yi).natAbs

/-- wrap18 (04 R82). -/
def wrap18 (v : Int) : Int := wrapS 18 v

/-- The gauge product of two stitch-samples: z(s) × conj z(s + G) of one polarisation (04 R78). -/
def gaugeMul (ar ai br bi : Int) : Int × Int := (ar * br + ai * bi, ai * br - ar * bi)

/-- What the two stitches of a gauge give (04 R79, R80): θ, m, both or one polarisation excluded, and the reason. -/
structure GaugeIn where
  theta : Int
  m : Nat
  formed : Bool
  oneOut : Bool
  reason : Nat
  deriving DecidableEq, Repr

/-- The common right shift of a pair of 38-bit components: the smallest that brings both within 24-bit signed range (04 R80). -/
def cordicShift (re im : Int) : Nat :=
  ((List.range 15).find? (fun n => !ovfS 24 (Int.fdiv re (2 ^ n)) && !ovfS 24 (Int.fdiv im (2 ^ n)))).getD 15

/-- θ of a gauge product: the CORDIC's angle for the shifted pair, within the 1 LSB of the argument that R80 allows; a negated θ of
−131,072 wraps to itself (log 42). -/
def gaugeTheta (sign re im : Int) : Int :=
  let n := cordicShift re im
  let t := argWithin re im (Config.cordicAngle (Int.fdiv re (2 ^ n)) (Int.fdiv im (2 ^ n)))
  if sign = 1 then wrap18 (-t) else t

/-- m of a gauge product (04 R80). -/
def gaugeMag (re im : Int) : Nat := min ((isqrt (re * re + im * im).natAbs + 8) / 16) (2 ^ 32 - 1)

/-- The combined product of a gauge (04 R78 to R80). -/
def gaugeIn (sign : Int) (a b : Stitch) : GaugeIn :=
  let f := a.flags ||| b.flags
  let xOut := f.testBit 0 || f.testBit 2
  let yOut := f.testBit 1 || f.testBit 3
  let gx := if xOut then (0, 0) else gaugeMul a.xr a.xi b.xr b.xi
  let gy := if yOut then (0, 0) else gaugeMul a.yr a.yi b.yr b.yi
  let re := gx.1 + gy.1
  let im := gx.2 + gy.2
  if xOut && yOut then ⟨0, 0, false, false, if f % 4 ≠ 0 then 1 else 2⟩
  else ⟨gaugeTheta sign re im, gaugeMag re im, true, xOut || yOut, 0⟩

/-- 20·log10(m / M) < −d dB? -/
def belowDb (d : Nat) (m : Nat) (mag : Rat) : Bool := decide ((m : Rat) ^ 20 * (10 ^ d : Nat) < mag ^ 20)

/-- Is a sample faded (04 R88)? -/
def isFaded (v : PlanView) (m : Nat) (mag : Option Rat) : Bool :=
  decide (m < vn v pFADE_ABS) ||
    (match mag with | some x => belowDb (v pFADE_REL).natAbs m x | none => false)

/-- M_j after a usable sample (04 R88). -/
def magStep (v : PlanView) (mag : Option Rat) (m : Nat) : Rat :=
  match mag with
  | none => m
  | some x => x + ((m : Rat) - x) * ((planShot v : Rat) / (vn v pMAG_TAU * 10 ^ 12 : Nat))

/-- The grade of a sample before its caps (04 R93). -/
def rawGrade (m : Nat) (mag : Option Rat) : Nat :=
  match mag with
  | none => 7
  | some x =>
    if !belowDb 3 m x then 7 else if !belowDb 6 m x then 6 else if !belowDb 9 m x then 5
    else if !belowDb 12 m x then 4 else if !belowDb 15 m x then 3 else if !belowDb 18 m x then 2 else 1

/-- The ply record of a gauge. -/
def plyOf (g : Gauge) (j : Nat) : PlyAlign := nth plyNone g.plies j

/-- The gauge with a ply record replaced. -/
def setPly (g : Gauge) (j : Nat) (x : PlyAlign) : Gauge :=
  { g with plies := setNth (g.plies ++ List.replicate (j + 1 - g.plies.length) plyNone) j x }

/-! ### Alignment (04 R84 to R86) -/

/-- Full magnitude of the 24-bit alignment vectors, from 1 to 2^23 − 1 (04 R84; log 49). -/
def alignOne : Int := ((Config.alignUnit % (2 ^ 23 - 1) + 1 : Nat) : Int)

/-- cis of an angle of 18 bits at full magnitude (04 R84). -/
def cis24 (e : Int) : Int × Int :=
  let c := cisTurn e (2 ^ 18)
  (roundDivI (alignOne * c.1) fx, roundDivI (alignOne * c.2) fx)

/-- ALIGN_TAU in units of 0.1 ps. -/
def alignTau (v : PlanView) : Nat := vn v pALIGN_TAU * 10 ^ 11

/-- alpha as a 24-bit fraction, rounded to nearest (04 R84; log 49). -/
def alignAlpha (v : PlanView) : Int := roundDiv (planShot v * 2 ^ 24) (max 1 (alignTau v))

/-- One update of c_j and β̂_j towards an error; `tL` is the launch of shot n (04 R84). -/
def alignStep (v : PlanView) (x : PlyAlign) (e : Int) (tL : Nat) : PlyAlign :=
  let c := cis24 e
  let a := alignAlpha v
  let cr := x.cr + roundDivI (a * (c.1 - x.cr)) (2 ^ 24)
  let ci := x.ci + roundDivI (a * (c.2 - x.ci)) (2 ^ 24)
  { x with cr := cr, ci := ci, beta := argTurn 18 cr ci, updated := tL }

/-- The lag of ply j behind the anchor, in P-ths of a shot (04 R84). -/
def plyLag (p a j : Nat) : Nat := (j + p - a) % p

/-- The anchor interpolated to ply j's launch, rounded (04 R84). -/
def anchorAt (p a j : Nat) (psi0 psi1 : Int) : Int := psi0 + roundDivI ((plyLag p a j : Int) * (psi1 - psi0)) p

/-- The update of every ply of a gauge once the anchor row of shot n + 1 has been unwrapped; `old` and `now` are the anchor's
samples of shots n and n + 1 (04 R84). -/
def alignAll (v : PlanView) (g : Gauge) (old now : PlyAlign) : Gauge :=
  let p := planP_ v
  let a := g.anchor
  if old.ok && decide (old.shot + 1 = now.shot) && !old.missing && !now.missing then
    (List.range p).foldl (fun g j =>
      let x := plyOf g j
      let nj := if a < j then old.shot else now.shot
      if j = a || !x.ok || x.missing || x.shot ≠ nj then g
      else setPly g j (alignStep v x (wrap18 (x.theta - anchorAt p a j old.psi now.psi)) old.tL)) g
  else g

/-- The ply with the largest value, the lowest-numbered of equals (04 R85). -/
def largestPly (p : Nat) (f : Nat → Rat) : Nat :=
  (List.range p).foldl (fun best j => if f best < f j then j else best) 0

/-- M_j, 0 where none. -/
def magOf (g : Gauge) (j : Nat) : Rat := ((plyOf g j).mag).getD 0

/-- Once a shot, the anchor moves when its M falls below half the largest; `tL` is the launch at the change (04 R85; log 174). -/
def moveAnchor (p : Nat) (g : Gauge) (tL : Nat) : Gauge :=
  let best := largestPly p (magOf g)
  if 2 * magOf g g.anchor < magOf g best then
    let old := plyOf g g.anchor
    let c := cis24 old.beta
    let g := setPly g g.anchor { old with cr := c.1, ci := c.2, updated := tL }
    { g with anchor := best }
  else g

/-- The sample of a ply among those of shots 0 and 1: θ, m, usable. -/
def seedOf (g : Gauge) (p shot ply : Nat) : Int × Nat × Bool :=
  ((g.seed[shot * p + ply]?).map (fun q => q.2)).getD (0, 0, false)

/-- A gauge initialised from the rows of shots 0 and 1 (04 R85, R86, R94). -/
def seedGauge (v : PlanView) (g : Gauge) : Gauge :=
  let p := planP_ v
  let a := largestPly p (fun j => ((seedOf g p 0 j).2.1 : Rat))
  let a0 := seedOf g p 0 a
  let a1 := seedOf g p 1 a
  let step := if a1.2.2 then wrap18 (a1.1 - a0.1) else 0
  let psi := if a0.2.2 then a0.1 + step else if a1.2.2 then a1.1 else 0
  let g := (List.range p).foldl (fun g j =>
    if j = a then
      setPly g j { plyOf g j with beta := 0, cr := alignOne, ci := 0, updated := g.since, psi := psi }
    else
      let q := if a < j then seedOf g p 0 j else seedOf g p 1 j
      if q.2.2 && a0.2.2 then
        let c := cis24 (wrap18 (q.1 - anchorAt p a j a0.1 (a0.1 + step)))
        setPly g j { plyOf g j with cr := c.1, ci := c.2, beta := argTurn 18 c.1 c.2, updated := g.since }
      else setPly g j { plyOf g j with beta := 0, cr := 0, ci := 0, updated := g.since }) g
  { g with anchor := a, psi := psi, seed := [] }

/-- θ'_last and ψ of a seeded gauge: the latest usable sample of shots 0 and 1, aligned; it is usable in this alone, so that no
reference increment spans it (04 R82, R87, R94). -/
def seedLast (v : PlanView) (before g : Gauge) : Gauge :=
  let p := planP_ v
  match ((List.range (2 * p)).reverse).find? (fun i => (seedOf before p (i / p) (i % p)).2.2) with
  | none => { g with last := none, prevOk := false }
  | some i =>
    let th := wrap18 ((seedOf before p (i / p) (i % p)).1 - (plyOf g (i % p)).beta)
    { g with last := some th, prevOk := false, psi := g.psi + wrap18 (th - wrap18 g.psi) }

/-- Is a ply of a gauge stale at the launch `tL`: out of settling, and its last update too old (04 R86)? -/
def stale (v : PlanView) (g : Gauge) (j tL : Nat) : Bool :=
  decide (j ≠ g.anchor) && !settling v g tL && decide (((8 * alignTauTs v : Nat) : Int) < tsDiff tL (plyOf g j).updated)

/-! ### Unwrapping a row (04 R82, R86, R87, R92, R93) -/

/-- A sample of a gauge before the common mode is known. -/
structure Pre where
  inp : GaugeIn
  dead : Bool
  faded : Bool
  usable : Bool
  /-- θ', and u_raw where there is a θ'_last. -/
  aligned : Int
  raw : Option Int
  deriving DecidableEq, Repr

/-- Are the stitches of a gauge beyond the break of a row (01 R31; 04 R94)? -/
def rowDead (v : PlanView) (row : Row) (i : Nat) : Bool :=
  match row.dead with
  | some sb => decide (sb ≤ i + vn v pGAUGE)
  | none => false

/-- Is this the first recovered sample of a gauge after a break (04 R94)? -/
def rowHealed (v : PlanView) (row : Row) (i : Nat) : Bool :=
  match row.healed with
  | some sb => decide (sb ≤ i + vn v pGAUGE) && !rowDead v row i
  | none => false

/-- A gauge at the end of a break: M is initialised anew, and β̂, c and the anchor are kept (04 R94; log 165). -/
def healGauge (g : Gauge) : Gauge := { g with plies := g.plies.map (fun x => { x with mag := none, ok := false }) }

/-- The sample of a gauge in a row (04 R79, R82, R88). -/
def preSample (v : PlanView) (row : Row) (i : Nat) (g : Gauge) (q : GaugeIn) : Pre :=
  let dead := rowDead v row i
  let x := plyOf g row.l.ply
  let faded := q.formed && isFaded v q.m x.mag
  let usable := q.formed && !faded && !dead
  let al := wrap18 (q.theta - x.beta)
  ⟨q, dead, faded, usable, al, g.last.map (fun t => wrap18 (al - t))⟩

/-- The reference gauges of a port (04 R87). -/
def isRef (v : PlanView) (i : Nat) : Bool :=
  decide (vn v pSWATCH_FIRST ≤ i) && decide (i + vn v pGAUGE < vn v pSWATCH_FIRST + vn v pSWATCH_COUNT)

/-- The increments of the reference gauges that qualify (04 R87). -/
def refIncs (v : PlanView) (row : Row) (gs : List Gauge) (ps : List Pre) : List Int :=
  if row.l.missing then []
  else ((List.range ps.length).filter (isRef v)).filterMap (fun i =>
    let p := nth ⟨⟨0, 0, false, false, 0⟩, false, false, false, 0, none⟩ ps i
    if p.usable && (nth gaugeNone gs i).prevOk then p.raw else none)

/-- The common-mode correction of a sample: c, whether it is held, and the engine's counters (04 R87). -/
def commonMode (v : PlanView) (e : PhaseEng) (incs : List Int) : Int × Bool × PhaseEng :=
  if vn v pCM_ENABLE ≠ 1 || vn v pSWATCH_COUNT = 0 then (0, false, { e with c := 0, heldRun := 0, goodRun := 0 })
  else if vn v pCM_MIN ≤ incs.length then
    let mean := roundDivI (sumI incs) incs.length
    let good := e.goodRun + 1
    if e.lost && good < 64 then (0, true, { e with c := 0, heldRun := 0, goodRun := good })
    else (mean, false, { e with c := mean, heldRun := 0, goodRun := good, lost := false })
  else
    let held := e.heldRun + 1
    let c := if e.lost then 0 else e.c
    (c, true, { e with c := c, heldRun := held, goodRun := 0, lost := e.lost || decide (64 ≤ held) })

/-- The grade of a sample with its caps (04 R93, Table 04-4). -/
def cappedGrade (v : PlanView) (row : Row) (g : Gauge) (p : Pre) (held : Bool) : Nat :=
  let n := row.l.tL
  let cap := fun (b : Bool) (c x : Nat) => if b then min c x else x
  cap p.inp.oneOut 4 (cap row.l.missing 3 (cap (row.flags.testBit 6) 3 (cap held 5
    (cap (settling v g n || stale v g row.l.ply n) 5 (rawGrade p.inp.m (plyOf g row.l.ply).mag)))))

/-- A seed sample of shots 0 and 1 enters a gauge; it is INVALID, so that M and the later alignment do not use it, and after the last
of them the gauge is seeded (04 R82, R86, R88, R89, R94). -/
def seedSample (v : PlanView) (row : Row) (g : Gauge) (p : Pre) : Gauge :=
  let j := row.l.ply
  let ok := p.inp.formed && !p.faded
  let since := if g.seed.isEmpty then row.l.tL else g.since
  let g := { g with since := since, seed := g.seed ++ [(j, p.inp.theta, p.inp.m, ok)] }
  let x := plyOf g j
  let g := setPly g j { x with
    theta := p.inp.theta, ok := false, missing := row.l.missing, shot := row.l.planShot, tL := row.l.tL }
  let reason := if p.dead then 4 else 0
  let g := { g with ahead := g.ahead ++ [⟨false, 0, false, reason, 0, false, false⟩] }
  if 2 * planP_ v ≤ g.seed.length then seedLast v g (seedGauge v g) else g

/-- A later sample enters a gauge: unwrapped, aligned, and put in line for its look-ahead (04 R82 to R89, R94). -/
def liveSample (v : PlanView) (row : Row) (c : Int) (held : Bool) (i : Nat) (g : Gauge) (p : Pre) : Gauge :=
  let j := row.l.ply
  let grade := cappedGrade v row g p held
  if rowHealed v row i then
    let ok := p.inp.formed && !p.faded
    { g with
      last := if ok then some p.aligned else none, prevOk := ok, psi := if ok then p.aligned else g.psi
      since := row.l.tL
      ahead := g.ahead ++ [⟨false, 0, false, 0, 0, false, true⟩] }
  else if p.usable then
    let u := match p.raw with | some r => r - c | none => 0
    let x := plyOf g j
    let psi := match p.raw with | some r => g.psi + r | none => p.aligned
    let g := { g with
      psi := psi, last := some p.aligned, prevOk := true
      ahead := g.ahead ++ [⟨true, u, false, 0, grade, p.raw.isNone, false⟩] }
    let y := { x with
      mag := some (magStep v x.mag p.inp.m), theta := p.inp.theta, psi := psi, ok := true, missing := row.l.missing
      shot := row.l.planShot, tL := row.l.tL }
    let g := setPly g j y
    let g := if j = g.anchor then alignAll v g x y else g
    if j + 1 = planP_ v then moveAnchor (planP_ v) g row.l.tL else g
  else
    let reason := if p.dead then 4 else if !p.inp.formed then p.inp.reason else 3
    let x := plyOf g j
    let g := setPly g j { x with ok := false, missing := row.l.missing, shot := row.l.planShot, tL := row.l.tL }
    let g := { g with
      prevOk := false
      ahead := g.ahead ++ [⟨false, 0, p.inp.formed && !p.dead, reason, 0, false, false⟩] }
    if j + 1 = planP_ v && !p.dead then moveAnchor (planP_ v) g row.l.tL else g

/-- The gauges that a row brings, N − G of them (04 R78). -/
def rowInputs (v : PlanView) (zs : List Stitch) : List GaugeIn :=
  List.zipWith (gaugeIn (v pPHASE_SIGN)) zs (zs.drop (vn v pGAUGE))

/-- A row is unwrapped: every gauge's sample, the common mode, the counters (04 R82 to R88). -/
def unwrapRow (s : State) (p : Nat) (row : Row) : State :=
  let v := pv s p
  let e := (portOf s p).ph
  let ins := rowInputs v row.zs
  let gs := (List.range ins.length).map (fun i =>
    let g := nth gaugeNone e.gauges i
    if rowHealed v row i then healGauge g else g)
  let ps := (List.range ins.length).map (fun i => preSample v row i (nth gaugeNone gs i) (nth ⟨0, 0, false, false, 0⟩ ins i))
  let none_ : Pre := ⟨⟨0, 0, false, false, 0⟩, false, false, false, 0, none⟩
  let seeding := decide (row.l.planShot < 2)
  let cm := commonMode v e (if seeding then [] else refIncs v row gs ps)
  let gs := (List.range ins.length).map (fun i =>
    if seeding then seedSample v row (nth gaugeNone gs i) (nth none_ ps i)
    else liveSample v row cm.1 cm.2.1 i (nth gaugeNone gs i) (nth none_ ps i))
  let staleNow := (gs.filter (fun g => (List.range (planP_ v)).any (fun j => stale v g j row.l.tL))).length
  let s := setP s 0x03 p pCM_LAST cm.1
  let s := if cm.2.1 then bumpP s 0x03 p pCM_HELD else s
  let s := addP s 0x03 p pFADED_COUNT (ps.filter (fun q => q.faded || !q.inp.formed)).length
  let s := setP s 0x03 p pSTALE_STITCHES (staleNow : Int)
  let s := if e.lost && !cm.2.2.lost then clearIf s (24 + p) else s
  modPort s p (fun x => { x with ph := { cm.2.2 with
    rows := x.ph.rows.drop 1, ahead := x.ph.ahead ++ [row], gauges := gs } })

/-! ### Spectra (04 R96) -/

/-- One stitch of a row enters the spectral accumulators (04 R96). -/
def specStitch (row : Row) (a : SpecAcc) (i : Nat) : SpecAcc :=
  let z := nth ⟨0, 0, 0, 0, 0⟩ row.zs i
  if z.flags % 16 ≠ 0 then a
  else { a with
    sum := kmod (fun _ => 0) a.sum (i * 16 + row.l.ply) (fun y => y + power z)
    rows := kmod (fun _ => 0) a.rows i (fun y => y + 1) }

/-- The record of closed sums: a stitch's P words and its count of rows used (04 R96). -/
def specClose (v : PlanView) (a : SpecAcc) : SpecRec :=
  ⟨vn v pSPEC_ROWS, (List.range (planN_ v)).map (fun i =>
    ((List.range (planP_ v)).map (fun j =>
      min 65535 (kget (fun _ => 0) a.sum (i * 16 + j) / vn v pSPEC_ROWS / 2 ^ vn v pSPEC_SHIFT)),
      min 65535 (kget (fun _ => 0) a.rows i)))⟩

/-- A row enters the spectral accumulators; stitches with SPAN_INVALID or CLIP are skipped, and after SPEC_ROWS shots the sums are
closed and new ones begun (04 R96). -/
def specRow (s : State) (p : Nat) (row : Row) : State :=
  let v := pv s p
  if vn v pSPEC_ENABLE ≠ 1 then s
  else
    let a := (List.range row.zs.length).foldl (specStitch row) (portOf s p).spec
    let a := { a with shots := if row.l.ply + 1 = planP_ v then a.shots + 1 else a.shots }
    modPort s p (fun x =>
      if vn v pSPEC_ROWS ≤ a.shots then { x with spec := specAccNone, specDone := x.specDone ++ [specClose v a] } else { x with spec := a })

/-! ### Delivery (04 R83, R89 to R92, R95) -/

/-- Φ after an increment, 34 bits wrapping (04 R83). -/
def phiAdd (phi : Nat) (u : Int) : Nat := bitsOf 34 ((phi : Int) + u)

/-- PHI of Φ (04 R83). -/
def phiOut (phi : Nat) : Int := wrapS 32 (((phi + 2) / 4 : Nat) : Int)

/-- DPHI between two Φ; the shifted terms have 30 bits, and their difference wraps with Φ (04 R83; log 166). -/
def dphiOut (phi before : Nat) : Int :=
  clampI (-32767) 32767 (wrapS 30 ((((phi + 8) % 2 ^ 34 / 16 : Nat) : Int) - (((before + 8) % 2 ^ 34 / 16 : Nat) : Int)))

/-- The length of the fade run at the head of a queue and the increment of the usable sample that ends it (04 R89). -/
def fadeRun : Nat → List Sample → Option (Nat × Int)
  | _, [] => none
  | n, x :: xs => if x.ok then (if x.first then none else some (n, x.u)) else if x.faded then fadeRun (n + 1) xs else none

/-- What a delivered sample gives: DPHI, PHI, QUAL without DEAD, interpolated, discontinuous. -/
structure Out where
  dphi : Int
  phi : Int
  qual : Nat
  interp : Bool
  disc : Bool
  deriving DecidableEq, Repr

/-- The oldest sample of a gauge is delivered. The first sample of shot 2 carries DISCONT whatever it is, as does a first usable sample
that had no θ'_last (04 R83, R89, R91, R94; log 165). -/
def deliverGauge (interpMax : Nat) (g : Gauge) : Gauge × Out :=
  match g.ahead with
  | [] => (g, ⟨0, phiOut g.phi, 0x10, false, false⟩)
  | x :: xs =>
    let g := { g with ahead := xs }
    if x.zero then
      ({ g with phi := 0, base := 0, run := 0, bridge := none, oweDisc := false }, ⟨0, 0, 0x30, false, false⟩)
    else if !x.ok && decide (x.reason = 0) then (g, ⟨0, phiOut g.phi, 0x10, false, false⟩)
    else if x.ok then
      let phi := if x.first then g.base else phiAdd g.base x.u
      let long := decide (interpMax < g.run) && g.bridge.isNone
      let disc := g.oweDisc || x.first || long
      let d := if x.first then 0 else dphiOut phi g.phi
      ({ g with phi := phi, base := phi, run := 0, bridge := none, oweDisc := false },
        ⟨d, phiOut phi, x.grade + 32 * bitN disc, false, long && !g.oweDisc && !x.first⟩)
    else
      let start := if g.run = 0 then
        (if x.faded then (fadeRun 1 xs).filter (fun (r : Nat × Int) => decide (r.1 ≤ interpMax)) else none)
          else none
      let bridge := match g.bridge with | some b => some b | none => start.map (fun (r : Nat × Int) => (r.2, r.1))
      let k := g.run + 1
      match bridge with
      | some b =>
        let phi := phiAdd g.base (roundDivI (b.1 * (k : Int)) ((b.2 + 1 : Nat) : Int))
        ({ g with phi := phi, run := k, bridge := some b, oweDisc := false },
          ⟨dphiOut phi g.phi, phiOut phi, 0x08 + 32 * bitN g.oweDisc, true, false⟩)
      | none =>
        ({ g with run := k, oweDisc := false }, ⟨0, phiOut g.phi, 0x10 + x.reason + 32 * bitN g.oweDisc, false, false⟩)

/-- AMP of a stitch-sample, an unsigned 16-bit word (04 R90, Table 00-5; log 154). -/
def ampOf (z : Stitch) : Int := min ((isqrt (power z) + 1) / 2 : Nat) 65535

/-- The oldest unwrapped row is delivered to the zones, with its products (04 R91, R95); after a claim the last sample of shot
1 re-anchors the gauges (17 R368). -/
def deliverOldest (s : State) (p : Nat) : State :=
  let v := pv s p
  let e := (portOf s p).ph
  match e.ahead with
  | [] => s
  | row :: rest =>
    let rs := e.gauges.map (deliverGauge (vn v pINTERP_MAX))
    let outs := rs.map (fun r => r.2)
    let n := row.zs.length
    let dead := fun (i reach : Nat) => match row.dead with | some sb => decide (sb ≤ i + reach) | none => false
    let none_ : Out := ⟨0, 0, 0x15, false, false⟩
    let full := outs ++ List.replicate (n - outs.length) none_
    let qual := (List.range n).map (fun i =>
      (nth none_ full i).qual + 128 * bitN (dead i (if i < outs.length then vn v pGAUGE else 0)))
    let r : PhaseRow := ⟨row.l.tL, e.idx, full.map (fun o => o.dphi), full.map (fun o => o.phi), row.zs.map ampOf, qual, row.dead⟩
    let s := addP s 0x03 p pINTERP_COUNT (outs.filter (fun o => o.interp)).length
    let s := addP s 0x03 p pDISCONT_COUNT (outs.filter (fun o => o.disc)).length
    let s := modPort s p (fun x => { x with ph := { x.ph with
      ahead := rest, gauges := rs.map (fun q => q.1), idx := x.ph.idx + 1, out := some r } })
    let s := deliverPhase s p r
    if s.pair.adopting.contains p && decide (row.l.planShot = 1) && decide (row.l.ply + 1 = planP_ v) then adoptNow s p row.l.tL else s

/-- The rows that have come enter the spectra and are unwrapped, oldest first (04 R82, R96). -/
def unwrapRows (s : State) (p : Nat) : State :=
  (portOf s p).ph.rows.foldl (fun s row => unwrapRow (specRow s p row) p row) s

/-- Every row that has come is unwrapped and delivered: no more will (04 R95; log 163). -/
def flushPhase (s : State) (p : Nat) : State :=
  let s := unwrapRows s p
  (List.range (portOf s p).ph.ahead.length).foldl (fun s _ => deliverOldest s p) s

end Sys2Proof.Machine
end

