-- ==== Sys2Proof/Machine/Port.lean ====
section
/-! DEFINITION. Machine/Port.lean: the port commands: arming, starting, stopping, applying a plan, status and the fibre-end
probe (01, 02). -/

namespace Sys2Proof.Machine

/-! ### Plans coming into force (01 R24, 02 R45, R447) -/

/-- A plan's values come into force on a port: items, reports, hybrid start (01 R23; 03 R65, R77). -/
def forcePlan (s : State) (p : Nat) (vals : List (Nat × Int)) : State :=
  let s := fusionOnPlan s p vals
  let s := vals.foldl (fun s q => { s with params := kput paramReset s.params q.1 q.2 }) s
  let s := modPort s p (fun x => { x with nextPlan := [], changing := false })
  hybRestart (planReports s p) p

/-- The staged plan of a port as values, over a plan accepted before it. -/
def planValues (s : State) (p : Nat) : List (Nat × Int) :=
  let fresh := (stagedIds s (planItem p)).map (fun o => (o, stagedView s p (objItem o)))
  fresh ++ ((portOf s p).nextPlan.filter (fun q => !fresh.any (fun r => r.1 = q.1)))

/-- The staged items of a port's plan leave the staged set (15 R325). -/
def dropStagedPlan (s : State) (p : Nat) : State := { s with staged := s.staged.filter (fun q => !planItem p q.1) }

/-- Is a drain or a wait for one in progress on a running port? -/
def drainsOrWaits (x : Port) : Bool := x.drain.isSome || x.changing || decide (x.stop ≠ .none)

/-- The drain of a port begins at t_b, a TS72 time: no further launches until it ends, one shot period later (01 R24; 02 R45). -/
def beginDrain (s : State) (p : Nat) (tb : Nat) : State :=
  let s := pairDrains s
  let x := portOf s p
  let change := decide (x.stop = .none)
  let s := modPort s p (fun x => { x with
    st := if change then x.st else .draining
    drain := some ⟨clkOfTick s (tickOf tb + planNShot (pv s p)), tb, change⟩
    shotNext := none
    trigTick := none
    shotOpen := false })
  if change then skeinsMark (ramanDiscard s p) p tb .drain else loopsWatch s

/-- A start time rounded up to a multiple of 8 ticks (02 R40). -/
def ceil8 (t : Nat) : Nat := ceilDiv t 8 * 8

/-- A port that has launched nothing waits under its plan: in FREE_RUN its first shot is placed, in LOCKED mode it is ACQUIRING, in
either triggered mode it waits for its edge; port B of a pair waits for port A (02 R40, R43, R44, R447; log 173). -/
def placeFirst (s : State) (p at_ : Nat) : State :=
  let mode := launchMode s p
  let own := decide (governor s p = p)
  let s := setP s 0x03 p pREF_PERIOD 0
  modPort s p (fun x => { x with
    shotNext := if mode = 0 && own then some (ts72 (ceil8 (max at_ s.time.ticks)) 0 + Config.pinDelay) else none
    trigTick := none, trigIn := false, holdIn := false
    lock := if mode = 2 && own then { lockOff with st := .acquiring } else lockOff })

/-- Has a running port launched, or its pair's port A (02 R447)? -/
def hasLaunched (s : State) (p : Nat) : Bool := (portOf s p).launched || (dualOn s && (portOf s 0).launched)

/-- Is a shot of a port in progress, or, on port B of a pair, still due for the shot that port A has in progress (01 R24, R25)? -/
def shotOngoing (s : State) (p : Nat) : Bool :=
  (portOf s p).shotOpen || (decide (governor s p ≠ p) && (portOf s p).shotNext.isSome)

/-- An accepted plan takes effect: at once on a port that is not launching or has launched nothing, and otherwise at the end of a
drain, which begins at t_b, or, with no shot in progress, now (01 R24; 02 R45, R447; log 146). -/
def takePlan (s : State) (p : Nat) : State :=
  let x := portOf s p
  let vals := planValues s p
  let launched := hasLaunched s p
  let s := dropStagedPlan s p
  if (x.st = .idle ∨ x.st = .armed) ∨ (x.st = .running ∧ !launched) then
    let s := forcePlan s p vals
    onPlanInForce (if x.st = .running then placeFirst s p x.startAt else s) p
  else
    let s := modPort s p (fun x => { x with nextPlan := vals })
    if drainsOrWaits x then s
    else
      let s := modPort s p (fun x => { x with changing := true })
      if shotOngoing s p then s else beginDrain s p (nowTs s)

/-! ### Checks of PORT_APPLY (01 R13, R22, R25; 02 R39, R51; 04 R87; 05 R110) -/

/-- The items that both ports of a pair must share (01 R25). -/
def sharedItems : List Nat := [pLENGTH, pGROUP_INDEX, pSPACING_K, pPLIES, pSELVEDGE]

/-- BAD_PARAM for an item of a port. -/
def badItem (p item : Nat) : Reply := badParam (objId 3 p item) p

/-- The rules between the items of one port's plan: the item named by the first that fails. -/
def planItemFault (v : PlanView) : Option Nat :=
  if vn v pLENGTH = 0 then some pLENGTH
  else if vn v pSELVEDGE ≠ 0 && vn v pSELVEDGE * 10000 < planSelvMin v then some pSELVEDGE
  else if planNShot v < vn v pTGATE_OFFSET + vn v pTGATE_WIDTH then some pTGATE_OFFSET
  else if vn v pLMON_WINDOW ≤ vn v pLMON_WINDOW_MIN then some pLMON_WINDOW
  else if planN_ v ≤ vn v pGAUGE then some pGAUGE
  else if vn v pCM_ENABLE = 1 && vn v pSWATCH_COUNT ≠ 0 && v pSWATCH_COUNT - v pGAUGE < v pCM_MIN then some pGAUGE
  else none

/-- Does a pair of Raman pulses break 05 R110? `oa`, `ob` are the RAMAN_ORIGIN values. -/
def ramanClash (va vb : PlanView) (oa ob : Nat) : Bool :=
  if vn va pTGATE_ENABLE = 1 && vn vb pTGATE_ENABLE = 1 then
    let n : Int := planNShot va
    let d := ((planOffsetB va : Int) + vb pTGATE_OFFSET - va pTGATE_OFFSET) % n
    let nw : Int := 5 * max (planNR va oa) (planNR vb ob)
    let half : Int := (planTicks va / 2 : Nat)
    let w : Int := max (vn va pTGATE_WIDTH) (vn vb pTGATE_WIDTH)
    !(decide (nw - half + w ≤ d) && decide (d ≤ n - nw + half - w))
  else false

/-- The ports a PORT_APPLY applies: both where dual-ended operation is in force, begins or ends (01 R25). -/
def applyPorts (s : State) (p : Nat) (v : Nat → PlanView) : List Nat :=
  if dualOn s || (vn (v 0) pDUAL_ENDED = 1 && vn (v 1) pDUAL_ENDED = 1) then [0, 1] else [p]

/-- The first rule between items that a PORT_APPLY breaks (15 R319, step 5). -/
def applyParamFault (s : State) (p : Nat) (v : Nat → PlanView) : Option Reply :=
  let da := vn (v 0) pDUAL_ENDED
  let db := vn (v 1) pDUAL_ENDED
  let first := (applyPorts s p v).findSome? (fun q => (planItemFault (v q)).map (badItem q))
  if da ≠ db then
    match planItemFault (v p) with
    | some i => if i < pDUAL_ENDED then some (badItem p i) else some (badItem (if da = 0 then 0 else 1) pDUAL_ENDED)
    | none => some (badItem (if da = 0 then 0 else 1) pDUAL_ENDED)
  else if da = 1 then
    match sharedItems.find? (fun i => decide (v 0 i ≠ v 1 i)) with
    | some i => some (badItem 1 i)
    | none =>
      match first with
      | some r => some r
      | none =>
        if ramanClash (v 0) (v 1) (natP s 0x03 0 pRAMAN_ORIGIN) (natP s 0x03 1 pRAMAN_ORIGIN) then
          some (badItem 1 pTGATE_OFFSET)
        else none
  else first

/-- Does a PORT_APPLY change DUAL_ENDED (01 R25)? -/
def dualChanges (s : State) (v : Nat → PlanView) : Bool := decide (vn (v 0) pDUAL_ENDED = 1) != dualOn s

/-- The views PORT_APPLY checks: staged for the ports it applies. -/
def applyViews (s : State) (_p : Nat) : Nat → PlanView := fun q => stagedView s q

/-- The conflicts of state and the budgets of a PORT_APPLY, in their order (15 R319, R330). -/
def applyStateFault (s : State) (ps : List Nat) (v : Nat → PlanView) : Option Reply :=
  match (if dualChanges s v then [0, 1].find? (fun q => !portIdle s q) else none) with
  | some q => some (badState 0x0105 q)
  | none =>
    match planConflict s ps with
    | some r => some r
    | none =>
      match ps.findSome? (fun q => (planCheck (v q)).map (fun id => noResource id q)) with
      | some r => some r
      | none => planBudget s ps

/-- The payload of PORT_APPLY (15 Table 15-7). -/
def applyPayload (v : PlanView) : List Byte :=
  leBytes 4 (planNShot v) ++ leBytes 4 (planN_ v) ++ leBytes 4 (planEffRate v) ++ leBytes 4 (planStitchRate v) ++
    leBytes 4 (planOpen v / 8000)

/-- The first PORT_APPLY of a port drives its GATE, TGATE and GLVL pins to the inactive level (21 R439, Table 21-5). -/
def drivePins (s : State) (ps : List Nat) : State :=
  let b := s.boot.pinsDriven
  { s with boot := { s.boot with pinsDriven := b ++ ps.filter (fun p => !b.contains p) } }

/-- PORT_APPLY (01 R22 to R25). -/
def bodyPortApply (p : Nat) (s : State) : State × Answer :=
  if 1 < p then reply s (badField 0)
  else
    let v := applyViews s p
    match applyParamFault s p v with
    | some r => reply s r
    | none =>
      let ps := applyPorts s p v
      if ps.any (fun q => (portOf s q).probing) then reply s (badState 0 p)
      else
        match applyStateFault s ps v with
        | some r => reply s r
        | none =>
          let blind := ps.any (fun q => planBlind (v q))
          let s := ps.foldl (fun s q => gateEstablish s q (v q) true) s
          let t := drivePins (ps.foldl takePlan s) ps
          (t, .final { okWith (applyPayload (v p)) with notes := bitN blind })

/-- PORT_APPLY (01 R24). -/
def execPortApply (r : Req) (port : Nat) (s : State) : Host.Outcome State Fault Refusal :=
  .next (mbxRun (.portApply r port) r 0x0304 false (bodyPortApply port) s)

/-! ### Arming, starting, stopping (02 R40, R45, R447) -/

/-- PORT_ARM (02 R45). -/
def bodyPortArm (p : Nat) (s : State) : State × Answer :=
  if 1 < p then reply s (badField 0)
  else
    let ps := pairedPorts s p
    if ps.any (fun q => (portOf s q).probing || !portIdle s q || decide (natP s 0x03 q pLENGTH = 0)) then
      reply s (badState 0 p)
    else (ps.foldl (fun s q => modPort s q (fun x => { x with st := .armed, stop := .none })) s, .final okBare)

/-- PORT_ARM (02 R45). -/
def execPortArm (r : Req) (port : Nat) (s : State) : Host.Outcome State Fault Refusal :=
  .next (mbxRun (.portArm r port) r 0x0301 false (bodyPortArm port) s)

/-- A port is RUNNING from now: counts, phases, detector and dither start again, and the common-mode correction with them (02 R40,
R43; 03 R77; 04 R98; 05 R103, R128; log 162). -/
def startPort (s : State) (p : Nat) (at_ : Nat) : State :=
  let s := startCounts.foldl (fun s i => setP s 0x03 p i 0) s
  let s := setP s 0x03 p pCM_LAST 0
  let s := ramanDiscard (breakRestart (phaseRestart s p) p) p
  let s := modPort s p (fun x => { x with
    st := .running, stop := .none, drain := none, changing := false, startAt := at_, launched := false,
    shotOpen := false, shots := 0, planShots := 0, plyNext := 0, dacSat := 0,
    secFrom := nowClk s, clipNow := 0, rawNow := 0, satNow := 0, outNow := 0, clips := []
    ph := { x.ph with c := 0, heldRun := 0, goodRun := 0 }
    raman := { x.raman with lfsr := p + 1 } })
  onPortStarted (placeFirst s p at_) p

/-- PORT_START (02 R40, R44). -/
def bodyPortStart (p at_ : Nat) (s : State) : State × Answer :=
  if 1 < p then reply s (badField 0)
  else if at_ ≠ 0 && at_ < s.time.ticks then reply s (badFieldOf 64 p)
  else
    let ps := pairedPorts s p
    if ps.any (fun q => decide ((portOf s q).st ≠ .armed) || (portOf s q).probing) then reply s (badState 0 p)
    else if standbyRefuses s 0x0302 then reply s (statusOnly stPeerActive)
    else (ps.foldl (fun s q => startPort s q at_) (pairStart s), .final okBare)

/-- PORT_START (02 R40). -/
def execPortStart (r : Req) (port at_ : Nat) (s : State) : Host.Outcome State Fault Refusal :=
  .next (mbxRun (.portStart r port at_) r 0x0302 false (bodyPortStart port at_) s)

/-- What PORT_STOP does to one port: with no shot in progress its drain begins at once, and a shot that was due does not start (02
Table 02-4, R447; log 146). -/
def stopPort (s : State) (p : Nat) : State :=
  let x := portOf s p
  match x.st with
  | .idle => s
  | .armed => modPort s p (fun x => { x with st := .idle })
  | .draining => modPort s p (fun x => { x with stop := .idle })
  | .running =>
    if !hasLaunched s p then
      let s := modPort s p (fun x => { x with st := .armed, shotNext := none, trigTick := none, lock := lockOff })
      loopsWatch (stepToFree (setP s 0x03 p pREF_PERIOD 0) p)
    else
      match x.drain with
      | some d =>
        loopsWatch (modPort s p (fun x => { x with
          st := .draining, stop := .armed, shotNext := none, drain := some { d with change := false } }))
      | none =>
        let s := modPort s p (fun x => { x with stop := .armed })
        if shotOngoing s p then s else beginDrain s p (nowTs s)

/-- PORT_STOP (02 R45, R447). -/
def bodyPortStop (p : Nat) (s : State) : State × Answer :=
  if 1 < p then reply s (badField 0)
  else
    let ps := pairedPorts s p
    if ps.any (fun q => portIdle s q || (portOf s q).probing) then reply s (badState 0 p)
    else (ps.foldl stopPort s, .final okBare)

/-- PORT_STOP (02 R447). -/
def execPortStop (r : Req) (port : Nat) (s : State) : Host.Outcome State Fault Refusal :=
  .next (mbxRun (.portStop r port) r 0x0303 false (bodyPortStop port) s)

/-- PORT_STATUS (15 Table 15-7). -/
def bodyPortStatus (p : Nat) (s : State) : State × Answer :=
  if 1 < p then reply s (badField 0)
  else
    let x := portOf s p
    reply s (okWith (leBytes 1 (portStCode x.st) ++ leBytes 1 (lockCode x.lock.st) ++ leBytes 1 (breakCode x.det) ++
      leBytesI 1 (getP s 0x08 (0x40 + p) dGATE_DIAG) ++ leBytes 4 (breakStitch x.det) ++ leBytes 8 x.shots ++
      leBytesI 4 (getP s 0x03 p pLMON_MISSED) ++ leBytesI 4 (getP s 0x03 p pTRIG_EARLY) ++ tsBytes x.lastLaunch))

/-- PORT_STATUS (15 R332, 02 R45). -/
def execPortStatus (r : Req) (port : Nat) (s : State) : Host.Outcome State Fault Refusal :=
  .next (mbxRun (.portStatus r port) r 0x0305 false (bodyPortStatus port) s)

/-! ### The fibre-end probe (01 R29) -/

/-- PORT_PROBE (01 R29). -/
def bodyPortProbe (p : Nat) (s : State) : State × Answer :=
  if 1 < p then reply s (badField 0)
  else if !portIdle s p || (portOf s p).probing then reply s (badState 0 p)
  else if standbyRefuses s 0x0306 then reply s (statusOnly stPeerActive)
  else (modPort s p (fun x => { x with probing := true }), .later (.portProbe p))

/-- PORT_PROBE (01 R29). -/
def execPortProbe (r : Req) (port : Nat) (s : State) : Host.Outcome State Fault Refusal :=
  .next (mbxRun (.portProbe r port) r 0x0306 false (bodyPortProbe port) s)

/-- Stitches of the probe's window: 64.0 km at k = 6, at most 131,072 (01 R29). -/
def probeStitches (v : PlanView) : Nat :=
  min 131072 (ceilDiv (ceilDiv (640000 * vn v pGROUP_INDEX * 20000) 2398339664) 6)

/-- The mean over at most 64 values from the head of a list, as sum and count (01 R29). -/
def mean64 (xs : List Nat) : Nat × Nat := (sumN (xs.take 64), (xs.take 64).length)

/-- Is sum / count at least 10^(db / 10) times `y`? -/
def dbAbove (db : Nat) (m : Nat × Nat) (y : Nat) : Bool := decide (10 ^ db * (y * m.2) ^ 10 ≤ m.1 ^ 10)

/-- The last stitch whose 64-stitch mean is at least 3 dB above the floor (01 R29; the window DEDUCED, log 43). -/
def probeEnd (floor : Nat) : Nat → List Nat → Option Nat
  | _, [] => none
  | i, x :: xs =>
    match probeEnd floor (i + 1) xs with
    | some e => some e
    | none => if dbAbove 3 (mean64 (x :: xs)) floor then some i else none

/-- END_KIND (01 R29). -/
def probeKind (v : PlanView) (profile : List Nat) (e : Option Nat) : Nat :=
  match e with
  | none => 3
  | some e =>
    let localMean := mean64 ((profile.drop (e - 16 - 64)).take 64)
    let near := maxN ((profile.drop (e - 16)).take 33)
    if decide (probeStitches v ≤ e + 1) then 0
    else if decide (10 * localMean.1 ≤ near * localMean.2) then 1
    else 2

/-- HEAD_LEVEL: the mean of stitches 0 to 63 in 0.01 dB relative to ADC full scale, whose power is 2^64 (01 R29; log 43). -/
def headLevel (sum count : Nat) : Int := roundDivI (1000 * lnFx sum (count * 2 ^ 64)) (lnFx 10 1)

/-- The payload of PORT_PROBE; `free` stands for END_TICKS with no light and for the level of no backscatter, which the spec does
not give (15 Table 15-7; log 43). -/
def probePayload (v : PlanView) (profile : List Nat) (floor : Nat) (free : Nat × Int) : List Byte :=
  let e := probeEnd floor 0 profile
  let head := mean64 profile
  leBytes 4 (match e with | some i => 6 * i | none => free.1 % 2 ^ 32) ++ leBytes 1 (probeKind v profile e) ++ zeros 3 ++
    leBytesI 4 (if head.1 = 0 then free.2 else headLevel head.1 head.2) ++ leBytes 4 (Config.fitAtten profile)

/-- PORT_PROBE_DONE: the probe ends with the mean backscatter power of each stitch and the floor it measured, in 2^−64 of ADC full
scale (01 R29; log 43). -/
def execPortProbeDone (port : Nat) (profile : List Nat) (floor : Nat) (s : State) :
    Host.Outcome State Fault Refusal :=
  if (portOf s port).probing then
    let v := pv s port
    let a := takeFree (modPort s port (fun x => { x with probing := false }))
    let b := takeFreeI a.2
    .next (complete b.2 (.portProbe port) (okWith (probePayload v (profile.take (probeStitches v)) floor (a.1, b.1))))
  else .next s

end Sys2Proof.Machine
end

