-- ==== Sys2Proof/Machine/Launch.lean ====
section
/-! DEFINITION. Machine/Launch.lean: the scheduler of a port: shots, plies, triggers, the locked mode, LMON timestamping,
TGATE and the selvedge slots (02). -/

namespace Sys2Proof.Machine

/-- The launch edge of a triggered shot follows the SCLK edge that registers the trigger by 23.6 ns, 29.5 ticks
(02 R41). -/
abbrev trigLatency : Nat := 29 * 256 + 128

/-- 24.0 ns (02 R43). -/
abbrev nominalLatency : Nat := 30 * 256

/-- 1.0 µs (02 R43). -/
abbrev lockWindow : Nat := 1250 * 256

/-- N_shot of the plan in force, in TS72 units. -/
def shotUnits (s : State) (p : Nat) : Nat := tk (planNShot (pv s p))

/-- The earliest start of port A's shot for which port B's, its offset later, does not fall in port B's drain (01 R24, R25; 02 R44; log
167). -/
def pairFloor (s : State) (p : Nat) : Nat :=
  if dualOn s && decide (p = 0) then
    match (portOf s 1).drain with
    | some d => d.tb + tk (d.endClk + s.time.ticks - nowClk s - tickOf d.tb) - tk (planOffsetB (pv s 0))
    | none => 0
  else 0

/-- The earliest launch that R42 accepts: N_shot after the previous shot's start. -/
def earliestStart (s : State) (p : Nat) : Nat :=
  let x := portOf s p
  max (pairFloor s p) (if x.launched then x.shotStart + shotUnits s p else 0)

/-- LOCK_MULT. -/
def lockMult (s : State) (p : Nat) : Nat := max 1 (natP s 0x03 p pLOCK_MULT)

/-- Is a reference period long enough for LOCK_MULT shots (02 R43)? -/
def refFits (s : State) (p tRef : Nat) : Bool := decide (shotUnits s p * lockMult s p ≤ tRef)

/-- round(i × T_ref / LOCK_MULT) ticks in TS72 units (02 R43). -/
def cycleOffset (tRef mult i : Nat) : Nat := tk (roundDiv (i * tRef) (mult * 256))

/-- A time rounded to the nearest tick. -/
def nearestTick (t : Nat) : Nat := tk ((t + 128) / 256)

/-- The state with T_ref reported (02 R43, REF_PERIOD). -/
def reportRef (s : State) (p tRef : Nat) : State := setP s 0x03 p pREF_PERIOD (((tRef + 128) / 256 : Nat) : Int)

/-- Entering HOLDOVER or TOO_FAST raises source 22 or 23 (02 R43). -/
def refLost (s : State) (p : Nat) : State := detect s (portRaise (22 + p) p 0 0)

/-- The lock state of a port changes, with its fault source (02 R43). -/
def setLockSt (s : State) (p : Nat) (st : LockSt) : State :=
  let was := (portOf s p).lock.st
  let s := modPort s p (fun x => { x with lock := { x.lock with st := st } })
  if st = .locked then clearIf s (22 + p)
  else if (st = .holdover ∨ st = .tooFast) ∧ was ≠ st then refLost s p
  else s

/-- An edge that starts nothing counts in TRIG_EARLY (02 R42, R43). -/
def earlyEdge (s : State) (p : Nat) : State := bumpP s 0x03 p pTRIG_EARLY

/-- A shot is to start at `t`, or N_shot after the previous one if that is later. -/
def schedule (s : State) (p t : Nat) (tick : Option Nat) (trig hold : Bool) : State :=
  modPort s p (fun x => { x with
    shotNext := some (max t (earliestStart s p)), trigTick := tick, trigIn := trig, holdIn := hold })

/-- A cycle starts: its anchor, its length and the T_ref it uses (02 R43). -/
def startCycle (s : State) (p edge anchor size tRef done : Nat) : State :=
  modPort s p (fun x => { x with lock := { x.lock with
    cycleEdge := some edge, anchor := anchor, size := size, cycleRef := tRef, done := done } })

/-- The next cycle of HOLDOVER starts on prediction, `n` reference periods after the present one, and its shot 0 is scheduled (02
R43). -/
def predictCycle (s : State) (p n : Nat) (trig : Bool) : State :=
  let k := (portOf s p).lock
  let edge := k.cycleEdge.getD 0 + n * k.tRef
  let anchor := nearestTick (edge + nominalLatency)
  schedule (startCycle s p edge anchor (lockMult s p) k.tRef 0) p anchor none trig true

/-- The next shot of the present cycle is scheduled, if one is left. TRIGGERED marks the shot that an edge starts, HOLDOVER the shots
of cycles that start without one (02 R43, R48; log 168). -/
def scheduleCycle (s : State) (p : Nat) (trig : Bool) : State :=
  let x := portOf s p
  let k := x.lock
  if k.done < k.size then
    let own :=
      if k.st = .tooFast then k.anchor + k.done * shotUnits s p
      else k.anchor + cycleOffset k.cycleRef (lockMult s p) k.done
    schedule s p own none trig (decide (k.st = .holdover))
  else if k.st = .holdover then predictCycle s p 1 trig
  else modPort s p (fun x => { x with shotNext := none })

/-! ### Reference edges in LOCKED mode (02 R43) -/

/-- An edge starts a cycle whose shot 0 it triggers. -/
def edgeCycle (s : State) (p ts anchor size tRef tick : Nat) : State :=
  schedule (startCycle s p ts anchor size tRef 0) p anchor (some tick) true false

/-- A reference edge while ACQUIRING; the second measures T_ref, and starts a cycle if R42 accepts it. -/
def edgeAcquiring (s : State) (p ts tick : Nat) (mayStart : Bool) : State :=
  let x := portOf s p
  let anchor := tk tick + trigLatency
  match x.lock.edge with
  | none =>
    let s := modPort s p (fun x => { x with lock := { x.lock with edge := some ts } })
    if !mayStart then s
    else if earliestStart s p ≤ anchor then edgeCycle s p ts anchor 1 0 tick
    else earlyEdge s p
  | some e =>
    let tRef := ts - e
    let s := modPort s p (fun x => { x with lock := { x.lock with edge := some ts, tRef := tRef } })
    let s := reportRef s p tRef
    let st := if refFits s p tRef then LockSt.locked else LockSt.tooFast
    let s := setLockSt s p st
    let s := modPort s p (fun x => { x with lock := { x.lock with cycleEdge := some ts, size := 0 } })
    if !mayStart then s
    else if earliestStart s p ≤ anchor then edgeCycle s p ts anchor (lockMult s p) tRef tick
    else earlyEdge s p

/-- A reference edge while LOCKED: the first in the window starts the next cycle and measures T_ref. -/
def edgeLocked (s : State) (p ts tick : Nat) (mayStart : Bool) : State :=
  let k := (portOf s p).lock
  let pred := k.cycleEdge.getD 0 + k.tRef
  let anchor := tk tick + trigLatency
  if pred ≤ ts + lockWindow && ts ≤ pred + lockWindow then
    let tRef := ts - k.cycleEdge.getD 0
    let s := modPort s p (fun x => { x with lock := { x.lock with
      edge := some ts, tRef := tRef, cycleEdge := some ts, size := 0 } })
    let s := reportRef s p tRef
    let s := setLockSt s p (if refFits s p tRef then .locked else .tooFast)
    if mayStart then edgeCycle s p ts anchor (lockMult s p) tRef tick else s
  else earlyEdge s p

/-- The predicted reference time of a shot start (02 R43). -/
def predictedRef (start : Nat) : Nat := start - nominalLatency

/-- A reference edge in HOLDOVER: within 1.0 µs of a shot's predicted reference time it restores lock. -/
def edgeHoldover (s : State) (p ts tick : Nat) (mayStart : Bool) : State :=
  let x := portOf s p
  let k := x.lock
  let near := fun (t : Nat) => decide (predictedRef t ≤ ts + lockWindow) && decide (ts ≤ predictedRef t + lockWindow)
  let anchor := tk tick + trigLatency
  let keep := fun (s : State) =>
    modPort (setLockSt s p .locked) p (fun x => { x with lock := { x.lock with edge := some ts } })
  if x.shotNext.isSome && near (x.shotNext.getD 0) then
    edgeCycle (keep s) p ts anchor (lockMult s p) k.tRef tick
  else if x.launched && near x.shotStart && mayStart then
    let s := startCycle (keep s) p ts anchor (lockMult s p) k.tRef 1
    scheduleCycle s p false
  else earlyEdge s p

/-- A reference edge while TOO_FAST: every edge measures T_ref. -/
def edgeTooFast (s : State) (p ts tick : Nat) (mayStart : Bool) : State :=
  let k := (portOf s p).lock
  let tRef := ts - k.edge.getD 0
  let anchor := tk tick + trigLatency
  let s := modPort s p (fun x => { x with lock := { x.lock with edge := some ts, tRef := tRef } })
  let s := reportRef s p tRef
  if !mayStart then s
  else if k.done < k.size || anchor < earliestStart s p then earlyEdge s p
  else
    let s := if refFits s p tRef then setLockSt s p .locked else s
    edgeCycle s p ts anchor (lockMult s p) tRef tick

/-- A reference edge at a port in LOCKED mode (02 R43). -/
def lockEdge (s : State) (p ts tick : Nat) (mayStart : Bool) : State :=
  match (portOf s p).lock.st with
  | .acquiring => edgeAcquiring s p ts tick mayStart
  | .locked => edgeLocked s p ts tick mayStart
  | .holdover => edgeHoldover s p ts tick mayStart
  | .tooFast => edgeTooFast s p ts tick mayStart
  | .off => s

/-- A trigger edge at a port in TRIGGERED mode (02 R41, R42). -/
def triggerEdge (s : State) (p tick : Nat) : State :=
  let x := portOf s p
  let t := tk tick + trigLatency
  if x.shotNext.isSome || t < earliestStart s p then earlyEdge s p
  else schedule s p t (some tick) true false

/-- What an edge does at a port whose launches its pin governs (02 R42, R43, R450; log 47 for edges in a drain). -/
def portEdge (s : State) (pin ts tick p : Nat) : State :=
  let x := portOf s p
  if x.st ≠ .running || natP s 0x03 p pLAUNCH_TRIG ≠ pin || tick < x.startAt || launchesHeld s p then s
  else
    let mayStart := x.drain.isNone
    match launchMode s p with
    | 1 => if mayStart then triggerEdge s p tick else s
    | 2 => lockEdge s p ts tick mayStart
    | _ => s

/-- TRIGIN_EDGE: the measurement of channel 2 + pin serves launch triggering, locking and the skeins (02 R41 to R43; 07
R167). -/
def execTriginEdge (pin : Nat) (s : State) : Host.Outcome State Fault Refusal :=
  match popMeas s (2 + pin) with
  | none => .next s
  | some (m, s) =>
    if 3 < pin then .next s
    else
      let ps := if dualOn s then [0] else [0, 1]
      let s := ps.foldl (fun s p => portEdge s pin m.ts m.tick p) s
      .next (skeinTrigin s pin m.ts m.tick)

/-- LOCK_WINDOW_EXPIRY: no edge by the end of the window; HOLDOVER, and the cycle starts on prediction at the end of the
window (02 R43). -/
def execLockWindowExpiry (port : Nat) (s : State) : Host.Outcome State Fault Refusal :=
  let x := portOf s port
  let pred := x.lock.cycleEdge.getD 0 + x.lock.tRef
  if x.st = .running ∧ x.lock.st = .locked ∧ x.lock.tRef ≠ 0 ∧ reached s (pred + lockWindow + 1) then
    let s := setLockSt s port .holdover
    let anchor := nearestTick (pred + nominalLatency)
    if x.drain.isSome then
      .next (startCycle s port pred anchor 0 x.lock.tRef 0)
    else
      .next (schedule (startCycle s port pred anchor (lockMult s port) x.lock.tRef 0) port
        (max anchor (pred + lockWindow)) none false true)
  else .next s

/-! ### Shots (02 R40, R43 to R45) -/

/-- The shot after the one that has just started is scheduled (02 R40, R43). -/
def scheduleNext (s : State) (p : Nat) : State :=
  let x := portOf s p
  if governor s p ≠ p then modPort s p (fun x => { x with shotNext := none })
  else
    match launchMode s p with
    | 0 => modPort s p (fun x => { x with shotNext := some (x.shotStart + shotUnits s p) })
    | 1 => modPort s p (fun x => { x with shotNext := none })
    | _ =>
      let s := modPort s p (fun x => { x with
        shotNext := none, lock := { x.lock with done := x.lock.done + 1 } })
      if x.lock.st = .acquiring then s else scheduleCycle s p false

/-- Port B of a pair follows port A's shot, also out of the drain that port A's shot waited for (01 R24, R25; 02 R44). -/
def pairFollow (s : State) (t : Nat) (trig hold : Bool) : State :=
  let b := portOf s 1
  if dualOn s && decide (b.st = .running) && decide (b.stop = .none) then
    modPort s 1 (fun x => { x with
      shotNext := some (t + tk (planOffsetB (pv s 1))), trigTick := none, trigIn := trig, holdIn := hold })
  else s

/-- Does the shot carry a proof pulse: its turn, and not blind (02 R49, R50)? -/
def proofShot (s : State) (p n : Nat) : Bool :=
  let e := natP s 0x03 p pPROOF_EVERY
  decide (e ≠ 0) && decide (n % e = e - 1) && !planBlind (pv s p)

/-- SHOT_START: the next shot of a running port starts at its time, and a Raman interval with it where none is in progress; shot 0 of a
plan starts the break detector anew (01 R446; 02 R40, R43, R44; 05 R107). -/
def execShotStart (port : Nat) (s : State) : Host.Outcome State Fault Refusal :=
  let x := portOf s port
  match x.shotNext with
  | none => .next s
  | some t =>
    if x.st = .running ∧ !x.shotOpen ∧ x.drain.isNone ∧ reached s t ∧ !launchesHeld s port then
      let s := intervalBegins (if x.planShots = 0 then fgAtShot (breakRestart s port) port else s) port t
      let proof := proofShot s port x.planShots
      let cal := !proof && slotWanted s port
      let s := modPort s port (fun x => { x with
        shotStart := t, shotOpen := true, launched := true, trigTick := none,
        firstLaunch := if x.launched then x.firstLaunch else t,
        shots := x.shots + 1, planShots := x.planShots + 1, plyNext := 0, tgateDone := false, slotDone := false,
        shotTrig := x.trigIn, shotHold := x.holdIn, trigIn := false, holdIn := false, proofIn := proof, calIn := cal })
      let s := scheduleNext s port
      .next (if port = 0 then pairFollow s t x.trigIn x.holdIn else s)
    else .next s

/-- LMON_SUPPRESS and GATE_SHIFT of a port act on its next launch (18 Table 18-5). -/
def spendLaunchSnags (s : State) (p : Nat) : State :=
  let s := if snagArmed s 0x0010 p then spendSnag s 0x0010 p else s
  if snagArmed s 0x0011 p then spendSnag s 0x0011 p else s

/-- PLY_LAUNCH: the next ply's gate opens at its offset, its chirp plays, and its NCO starts from phase 0 at T0 (01 R15; 02 R33 to R35,
R38; 03 R68). -/
def execPlyLaunch (port : Nat) (s : State) : Host.Outcome State Fault Refusal :=
  let x := portOf s port
  let v := pv s port
  let t := x.shotStart + tk (planPlyAt v x.plyNext)
  if x.shotOpen ∧ x.plyNext < planP_ v ∧ reached s t then
    let t0 := tk (tickOf t)
    let l : Launch := {
      shot := (x.shots - 1) % 2 ^ 32, planShot := x.planShots - 1, ply := x.plyNext, gate := t, t0 := t0
      t0Prev := kget (fun _ => none) x.plyT0 x.plyNext, trig := x.shotTrig, hold := x.shotHold, proof := x.proofIn
      cal := x.calIn, tL := 0, missing := false, hidden := snagArmed s 0x0010 port }
    let shift := if snagArmed s 0x0011 port then tk (snagValue s 0x0011 port).toNat else 0
    let s := spendLaunchSnags s port
    let s := modPort s port (fun x => { x with
      plyNext := x.plyNext + 1
      lmonWait := x.lmonWait ++ [l]
      lastLaunch := t
      plyT0 := kput (fun _ => none) x.plyT0 x.plyNext (some t0)
      chirp := some ⟨x.plyNext, chirpF0 v x.plyNext, chirpK v, tsAdd t (128 * v pDAC_SKEW)⟩
      dacSat := x.dacSat + chirpSats v x.plyNext
      gateFrom := t + shift
      gateTo := t + shift + planTauTs v + tk (vn v pGATE_TAIL) })
    .next (gateTestStart s port false x.plyNext)
  else .next s

/-- SHOT_END: the shot in progress ends at t_b, and a Raman interval that is long enough with it; a pending stop or plan change begins
its drain (01 R24; 02 R447; 05 R107). -/
def execShotEnd (port : Nat) (s : State) : Host.Outcome State Fault Refusal :=
  let x := portOf s port
  let e := x.shotStart + shotUnits s port
  if x.shotOpen ∧ planP_ (pv s port) ≤ x.plyNext ∧ reached s e then
    let s := intervalEnds s port e
    if x.stop ≠ .none ∨ x.changing then .next (beginDrain s port e)
    else .next (modPort s port (fun x => { x with shotOpen := false }))
  else .next s

/-- The lock placer of a port after a plan change: kept where the port was locked and stays so, in the state that T_ref gives under
the new plan, and otherwise anew or off, with REF_PERIOD 0; a fit is found again at an edge only (02 R43; log 48). -/
def lockAfterChange (s : State) (p : Nat) (k : Lock) : State :=
  let put := fun (s : State) (k : Lock) => modPort s p (fun x => { x with lock := k })
  if launchMode s p ≠ 2 || governor s p ≠ p then setP (put s lockOff) 0x03 p pREF_PERIOD 0
  else if k.st = .off then setP (put s { lockOff with st := .acquiring }) 0x03 p pREF_PERIOD 0
  else
    let s := put s { k with size := 0, done := 0 }
    if (k.st = .locked || k.st = .holdover) && !refFits s p k.tRef then setLockSt s p .tooFast else s

/-- Shot 0 of the new plan is placed: at the end of the drain in FREE_RUN; in HOLDOVER with the first predicted cycle from there on; at
the next edge or the end of its window otherwise; on port B of a pair with port A's (01 R24, R25, R450; log 167). -/
def firstAfterChange (s : State) (p endTs : Nat) : State :=
  if governor s p ≠ p then s
  else
    let s := modPort s p (fun x => { x with shotNext := none, trigIn := false, holdIn := false })
    let from_ := max endTs (pairFloor s p)
    match launchMode s p with
    | 0 => modPort s p (fun x => { x with shotNext := some from_ })
    | 1 => s
    | _ =>
      let k := (portOf s p).lock
      if k.st = .holdover then
        let first := nearestTick (k.cycleEdge.getD 0 + nominalLatency)
        predictCycle s p (ceilDiv (from_ - first) k.tRef) false
      else s

/-- The end of the drain of a plan change: what has come under the old plan is delivered, rows that have not are not produced, and the
new plan is in force; the break detector goes on until shot 0 (01 R24, R446; 03 R75; 04 R94; log 163). -/
def endChange (s : State) (p endTs : Nat) : State :=
  let s := flushPhase s p
  let k := (portOf s p).lock
  let s := forcePlan s p (portOf s p).nextPlan
  let s := ramanDiscard (phaseRestart s p) p
  let s := modPort s p (fun x => { x with drain := none, planShots := 0, rowsDue := [], lmonWait := [] })
  onPlanInForce (firstAfterChange (lockAfterChange s p k) p endTs) p

/-- The end of the drain of a stop: ARMED, or IDLE when another stop came (02 Table 02-4, R447). -/
def endStop (s : State) (p : Nat) : State :=
  let x := portOf s p
  let s := modPort s p (fun x => { x with
    st := if x.stop = .idle then .idle else .armed, stop := .none, drain := none, changing := false, shotNext := none
    trigTick := none, lock := lockOff })
  let s := ramanDiscard (setP s 0x03 p pREF_PERIOD 0) p
  let s := if x.nextPlan.isEmpty then s else forcePlan s p x.nextPlan
  let s := onPortStopped s p
  if x.nextPlan.isEmpty then s else onPlanInForce s p

/-- The drain of a port ends, if it is time (01 R24; 02 R45, R447). -/
def drainEnds (s : State) (port : Nat) : State :=
  match (portOf s port).drain with
  | none => s
  | some d =>
    if d.endClk ≤ nowClk s then (if d.change then endChange s port (d.tb + shotUnits s port) else endStop s port)
    else s

/-! ### LMON (02 R46 to R48) -/

/-- LAUNCH_DELAY of a history: its mean, to nearest, ties away from zero; 0 for none (02 R47). -/
def delayMean (ds : List Int) : Int := roundDivI (sumI ds) ds.length

/-- FLAGS of a launch record (02 Table 02-5). -/
def launchFlags (l : Launch) : Nat :=
  bitN l.missing + 2 * bitN l.trig + 4 * bitN l.hold + 8 * bitN l.proof + 16 * bitN l.cal

/-- The 32 bytes of a launch record (02 Table 02-5). -/
def launchRecord (p : Nat) (l : Launch) : List Byte :=
  tsBytes l.tL ++ tsBytes l.gate ++ leBytes 4 l.shot ++ leBytes 1 l.ply ++ leBytes 1 p ++ leBytes 1 (launchFlags l) ++
    zeros 1

/-- A launch whose reference is known is recorded and its row comes due (02 R47, R48; 03 R74). -/
def launchKnown (s : State) (p : Nat) (l : Launch) : State :=
  let s := modPort s p (fun x => { x with
    lmonWait := x.lmonWait.filter (fun m => !(decide (m.shot = l.shot) && decide (m.ply = l.ply)))
    rowsDue := x.rowsDue ++ [l] })
  let s := skeinsLaunch s p l
  if natP s 0x03 p pLAUNCH_LOG = 1 then hkPut s 0 (launchRecord p l) l.tL else s

/-- Does an edge lie in a launch's LMON window (02 R46)? -/
def inLmonWindow (s : State) (p ts : Nat) (l : Launch) : Bool :=
  let d := tsDiff ts l.gate
  !l.hidden && decide ((tk (natP s 0x03 p pLMON_WINDOW_MIN) : Int) ≤ d) && decide (d ≤ (tk (natP s 0x03 p pLMON_WINDOW) : Int))

/-- A launch is confirmed by its LMON edge: delay, drift check, live bits (02 R47). -/
def confirm (s : State) (p : Nat) (l : Launch) (ts : Nat) : State :=
  let x := portOf s p
  let d := tsDiff ts l.gate
  let mean := delayMean x.delays
  let near := x.delays.isEmpty || decide ((d - mean).natAbs ≤ 320)
  let ds := (d :: x.delays).take 256
  let s := modPort s p (fun x => { x with
    delays := ds, missRun := 0, lostTold := false, okRun := x.okRun + 1, nearRun := if near then x.nearRun + 1 else 0 })
  let s := setP s 0x03 p pLAUNCH_DELAY (delayMean ds)
  let s := if near then s else detect s (portRaise (20 + p) p 0 0)
  let s := if 64 ≤ (portOf s p).okRun then clearIf s (18 + p) else s
  let s := if 64 ≤ (portOf s p).nearRun then clearIf s (20 + p) else s
  launchKnown s p { l with tL := ts }

/-- LMON_EDGE: the measurement of the port's LMON channel confirms the launch whose window it lies in (02 R46, R47). -/
def execLmonEdge (port : Nat) (s : State) : Host.Outcome State Fault Refusal :=
  match popMeas s port with
  | none => .next s
  | some (m, s) =>
    if 1 < port then .next s
    else
      match (portOf s port).lmonWait.find? (inLmonWindow s port m.ts) with
      | some l => .next (confirm s port l m.ts)
      | none => .next s

/-- LMON_WINDOW_EXPIRY: the window of the oldest waiting launch ends with no edge (02 R47). -/
def execLmonWindowExpiry (port : Nat) (s : State) : Host.Outcome State Fault Refusal :=
  match (portOf s port).lmonWait with
  | [] => .next s
  | l :: _ =>
    if reached s (l.gate + tk (natP s 0x03 port pLMON_WINDOW + 1)) then
      let d := delayMean (portOf s port).delays
      let s := bumpP s 0x03 port pLMON_MISSED
      let s := modPort s port (fun x => { x with missRun := x.missRun + 1, okRun := 0, nearRun := 0 })
      .next (launchKnown s port { l with tL := tsAdd l.gate d, missing := true })
    else .next s

/-- LAUNCH_LOST: four consecutive missing edges raise source 18 or 19 (02 R47). -/
def execLaunchLost (port : Nat) (s : State) : Host.Outcome State Fault Refusal :=
  let x := portOf s port
  if 4 ≤ x.missRun ∧ !x.lostTold then
    .next (detect (modPort s port (fun x => { x with lostTold := true })) (portRaise (18 + port) port 0 0))
  else .next s

/-! ### TGATE and the selvedge slots (02 R39, R49; 05 R101, R103) -/

/-- The 23-bit LFSR of the dither after `n` steps, feedback x^23 + x^18 + 1 (05 R103). -/
def lfsrSteps : Nat → Nat → Nat
  | 0, x => x
  | n + 1, x => lfsrSteps n ((x * 2 + bitN (x.testBit 22 != x.testBit 17)) % 2 ^ 23)

/-- The dither of an LFSR state (05 R103). -/
def ditherOf (st : Nat) : Int := ((st % 65536 * 17 / 65536 : Nat) : Int) - 8

/-- φ of 05 R101: SCLK ticks from a tick of the timebase to the next TCLK edge, one every fifth SCLK from root lock on, which no step of
the timebase moves (20 R413). -/
def tclkPhase (s : State) (tick : Nat) : Nat := (((s.time.ticks : Int) - (s.time.sclk : Int) - (tick : Int)) % 5).toNat

/-- TGATE_OPEN: on its shots TGATE opens and a signal window starts; on the shot after, a background window (02 R39; 05
R101, R103). -/
def execTgateOpen (port : Nat) (s : State) : Host.Outcome State Fault Refusal :=
  let x := portOf s port
  let v := pv s port
  let t := x.shotStart + tk (vn v pTGATE_OFFSET)
  let every := max 1 (vn v pTGATE_EVERY)
  let n := x.planShots - 1
  let signal := decide (n % every = 0)
  let background := decide (n % every = 1) && decide (2 ≤ every) && decide (vn v pBG_ENABLE = 1)
  if x.shotOpen ∧ !x.tgateDone ∧ vn v pTGATE_ENABLE = 1 ∧ reached s t then
    let st := lfsrSteps 16 x.raman.lfsr
    let d := if vn v pDITHER_ENABLE = 1 then ditherOf st else 0
    let w := windowAt s port signal (tickOf t) (tclkPhase s (tickOf t)) d
    .next (modPort s port (fun x => { x with
      tgateDone := true
      tgateFrom := if signal && x.raman.ofsRun.isNone then t else x.tgateFrom
      tgateTo := if signal && x.raman.ofsRun.isNone then t + tk (vn v pTGATE_WIDTH) else x.tgateTo
      raman := if signal || background then { x.raman with lfsr := st, win := some w } else x.raman }))
  else .next s

/-- The proof window at the end of a slot: GLVL and GATE (02 Table 02-6). -/
def proofPulse (s : State) (p : Nat) : State :=
  let e := (portOf s p).shotStart + shotUnits s p
  let s := modPort s p (fun x => { x with
    glvlFrom := e - 64000, glvlTo := e - 12800, proofFrom := e - 53760, proofTo := e - 23040 })
  gateTestStart s p true 0

/-- SELVEDGE_SLOT: a shot's slot opens after T_rt + τ and goes to a proof pulse or is offered to calibration (02 R49; 03
R56). -/
def execSelvedgeSlot (port : Nat) (s : State) : Host.Outcome State Fault Refusal :=
  let x := portOf s port
  let v := pv s port
  let t := x.shotStart + (planRtt v + planTau v) * 256 / 8000
  if x.shotOpen ∧ !x.slotDone ∧ reached s t then
    let s := modPort s port (fun x => { x with slotDone := true })
    .next (if x.proofIn then proofPulse s port else slotCalibrate s port)
  else .next s

end Sys2Proof.Machine
end

