-- ==== Sys2Proof/Machine/Slice.lean ====
section
/-! DEFINITION. Machine/Slice.lean: the events of ADC_SLICE, RAMAN_GAIN and RAMAN_OFFSET runs (19 R397 to R401; 05 R117,
R118). -/

namespace Sys2Proof.Machine

/-! ### Slice steps (19 R397 to R399) -/

/-- A slice's result when the command gives none: it fails. -/
def sliceNoResult : SliceResult := ⟨0, 0, 0, 1024⟩

/-- A step ends on one channel: its slice is judged and the map follows (19 R397, R399). -/
def stepEndChannel (s : State) (p c : Nat) (r : SliceResult) : State :=
  match (adcOf s p c).testing with
  | none => s
  | some n =>
    let s := setAdc s p c { adcOf s p c with testing := none, stepDue := false }
    bumpP (channelSettle (sliceJudge s p c n (sliceOk r) r) p c) 0x09 p aSLICE_STEPS

/-- A step of a CAL_RUN has ended; the run ends with its eighteenth (19 R398, R395). -/
def runStepEnds (s : State) (p : Nat) : State :=
  let left := (portOf s p).calLeft - 1
  let s := modPort s p (fun x => { x with calLeft := left })
  if left = 0 then calEnd s 0 p else s

/-- A step of the rotation has ended; eighteen are a run of the domain (19 R396, R397). -/
def turnStepEnds (s : State) (p : Nat) : State :=
  let turn := (portOf s p).calTurn + 1
  if turn < 18 then modPort s p (fun x => { x with calTurn := turn })
  else
    let s := modPort s p (fun x => { x with calTurn := 0 })
    let x := calGet s 0 p
    calSet s 0 p { calDoneRec s x (bitN x.failed) with st := x.st }

/-- SLICE_STEP_DONE: the fifteenth burst of a step has ended; the removed slices are judged (19 R397, R399). -/
def execSliceStepDone (port : Nat) (results : List SliceResult) (s : State) : Host.Outcome State Fault Refusal :=
  match (portOf s port).calStep with
  | none => .next s
  | some k =>
    if !stepOver s k then .next s
    else
      let s := (List.range 4).foldl (fun s c => stepEndChannel s port c (nth sliceNoResult results c)) s
      let s := modPort s port (fun x => { x with calStep := none })
      .next (stepKick (if k.ofRun then runStepEnds s port else turnStepEnds s port) port)

/-! ### Foreground runs (19 R400) -/

/-- The slices of a channel are judged at the end of its stage; at cast-on the first pass is only kept, and the second must
repeat it (19 R400). -/
def fgJudge (s : State) (p c : Nat) (f : FgRun) (results : List SliceResult) : State :=
  let res := fun n => nth sliceNoResult results n
  if f.pass = 2 then
    let first := (List.range 18).foldl (fun m n =>
      let r := res n
      kput (fun _ => none) m (c * 18 + n) (if sliceOk r then some ⟨r.ofs, r.gain, r.skew⟩ else none)) f.first
    modPort s p (fun x => { x with calFg := some { f with first := first } })
  else
    let s := (List.range 18).foldl (fun s n =>
      let r := res n
      let agrees := match kget (fun _ => none) f.first (c * 18 + n) with
        | some a => passesAgree a r
        | none => decide (f.pass = 0)
      sliceJudge s p c n (sliceOk r && agrees) r) s
    channelSettle s p c

/-- The next stage of a foreground run, or its next pass, or its end (19 R400). -/
def fgAdvance (s : State) (p : Nat) : State :=
  match (portOf s p).calFg with
  | none => s
  | some f =>
    if f.stage = 4 then
      if f.pass = 2 then
        let s := modPort s p (fun x => { x with calFg := some ⟨0, f.endClk + fgChannelTicks, 1, f.first⟩ })
        fgTake s p 0
      else stepKick (calEnd (modPort s p (fun x => { x with calFg := none })) 0 p) p
    else
      let ticks := if f.stage = 1 then fgGapTicks (pv s p) else fgChannelTicks
      let s := modPort s p (fun x => { x with calFg := some { f with stage := f.stage + 1, endClk := f.endClk + ticks } })
      fgTake s p (f.stage + 1)

/-- SLICE_FG_CHANNEL: a foreground run moves to its next channel or gap, or completes (19 R400). -/
def execSliceFgChannel (port : Nat) (results : List SliceResult) (s : State) : Host.Outcome State Fault Refusal :=
  match (portOf s port).calFg with
  | none => .next s
  | some f =>
    if nowClk s < f.endClk then .next s
    else
      let s := fgReturn s port f.stage s.time.ticks
      let s := match fgChannel f.stage with
        | some c => fgJudge s port c f results
        | none => s
      .next (fgAdvance s port)

/-! ### RAMAN_GAIN and RAMAN_OFFSET (05 R107, R117, R118; 19 R401) -/

/-- A run of the port's Raman path starts: a window in progress is discarded (05 R107), and RAMAN_OFFSET holds TGATE off
(05 R118). -/
def ramanCalStart (s : State) (dom p : Nat) : State :=
  let now := nowTs s
  let s := modPort s p (fun x =>
    let win := x.raman.win.map (fun (w : RamanWin) => { w with spoilt := true })
    if dom = 3 then { x with raman := { x.raman with win := win, gainRun := some (nowClk s + 2 * msTicks) } }
    else { x with tgateTo := min x.tgateTo now, raman := { x.raman with win := win, ofsRun := some ⟨nowClk s, 0⟩ } })
  calSet s dom p { calGet s dom p with st := .foreground, failed := false }

/-- A RAMAN run of a port is asked for: it waits while the other domain runs (19 R401). -/
def ramanCalAsk (s : State) (dom p : Nat) : State :=
  if calBusy s (7 - dom) p then calBegin s dom p .queued else ramanCalStart s dom p

/-- A run of one of the two domains has ended: the other's starts if it waits (19 R401). -/
def ramanCalNext (s : State) (dom p : Nat) : State :=
  if (calGet s (7 - dom) p).st = .queued then ramanCalStart s (7 - dom) p else s

/-- 2.000 µA in CU: 4 µA are 8 × 32,768 CU (05 R100, R117). -/
abbrev calCurrent : Int := 131072

/-- A gain from the one before it and two codes of one current, rounded and saturated to 24 bits; none where the code is 0 (05 R117). -/
def gainChain (g before code : Int) : Option Nat :=
  if code = 0 then none else some (satU 24 (roundDivI (g * before) code)).toNat

/-- RG_3 to RG_0 of a run: from the codes, less OFS_r, of 2.000 µA in ranges 3 and 2, 16.00 µA in ranges 2 and 1, and 80.00 µA in
ranges 1 and 0; a gain that a code of 0 leaves open is a free value (05 R117; log 177). -/
def gainRunResult (s : State) (ofs : List Int) (codes : List Int) : State × List Nat :=
  let c := fun (i r : Nat) => nth 0 codes i - nth 0 ofs r
  let open_ := fun (s : State) (g : Option Nat) => match g with
    | some n => (s, n)
    | none => ((takeFree s).2, (takeFree s).1 % 2 ^ 24)
  let g3 := open_ s (gainChain calCurrent 8192 (c 0 3))
  let g2 := open_ g3.1 (gainChain g3.2 (c 0 3) (c 1 2))
  let g1 := open_ g2.1 (gainChain g2.2 (c 2 2) (c 3 1))
  let g0 := open_ g1.1 (gainChain g1.2 (c 4 1) (c 5 0))
  (g0.1, [g0.2, g1.2, g2.2, g3.2])

/-- RAMAN_GAIN_CAL_DONE: 2.0 ms after its start the run ends with RG_3 to RG_0 set from its six codes (05 R117). -/
def execRamanGainCalDone (port : Nat) (codes : List Int) (s : State) : Host.Outcome State Fault Refusal :=
  match (portOf s port).raman.gainRun with
  | none => .next s
  | some t =>
    if nowClk s < t then .next s
    else
      let r := gainRunResult s (portOf s port).raman.ofs codes
      let s := modPort r.1 port (fun x => { x with raman := { x.raman with gainRun := none, rg := r.2 } })
      .next (ramanCalNext (calEnd s 3 port) 3 port)

/-- A run ends NOT_QUIET: CAL_RUN completes with CAL_INPUT_NOT_QUIET, naming the range (05 R118; 19 R396). -/
def ramanNotQuiet (s : State) (p range : Nat) : State :=
  let answer : Reply := ⟨0x0A, 0, range, 0, 0, []⟩
  let s := calSet s 4 p (calDoneRec s (calGet s 4 p) 2)
  let s := complete s (.calRun 4 p) answer
  if calBusy s 4 0xFF then
    complete (calSet s 4 0xFF (calDoneRec s (calGet s 4 0xFF) 2)) (.calRun 4 0xFF) answer
  else s

/-- Samples of a range in a RAMAN_OFFSET run (05 R118). -/
abbrev ofsSamples : Nat := 2 ^ 18

/-- n² times the variance of a list of integers. -/
def spread (xs : List Int) : Int := (xs.length : Int) * sumI (xs.map (fun x => x * x)) - sumI xs * sumI xs

/-- The sums of the blocks of a number of samples. -/
def blockSums (size n : Nat) (xs : List Int) : List Int := (List.range n).map (fun i => sumI ((xs.drop (i * size)).take size))

/-- Is a range's input quiet: a standard deviation of at most 64 codes, and that of the 256 means of 1,024 samples at most four times
it divided by 32 (05 R118)? -/
def rangeQuiet (xs : List Int) : Bool :=
  decide (xs.length = ofsSamples) && decide (spread xs ≤ 4096 * (ofsSamples * ofsSamples : Nat)) &&
    decide (spread (blockSums 1024 256 xs) * 64 ≤ spread xs)

/-- Has a run taken its samples: 4 × ⌈2^18 / N_R⌉ windows of a running port, or a free run of 4 × 2^18 TCLK edges (05 R118; log 178)? -/
def ofsTaken (s : State) (p : Nat) (r : OfsRun) : Bool :=
  let windows := decide ((portOf s p).st = .running) && decide (getP s 0x03 p pTGATE_ENABLE = 1)
  if windows then decide (4 * ceilDiv ofsSamples (planNR (pv s p) (natP s 0x03 p pRAMAN_ORIGIN)) ≤ r.windows)
  else decide (r.since + 4 * ofsSamples * 5 ≤ nowClk s)

/-- RAMAN_OFFSET_CAL_DONE: with the samples of the forced ranges 0 and 1 and of 2 and 3, the run ends with OFS_r the mean of each range's samples, or names the first range whose input was not quiet
and keeps the old ones (05 R118). -/
def execRamanOffsetCalDone (port : Nat) (low high : List (List Int)) (s : State) : Host.Outcome State Fault Refusal :=
  match (portOf s port).raman.ofsRun with
  | none => .next s
  | some r =>
    if ofsTaken s port r then
      let noisy := [0, 1, 2, 3].find? (fun i => !rangeQuiet (nth [] (low ++ high) i))
      let s := modPort s port (fun x => { x with raman := { x.raman with
        ofsRun := none
        ofs := if noisy.isSome then x.raman.ofs
          else [0, 1, 2, 3].map (fun i => satS 16 (roundDivI (sumI (nth [] (low ++ high) i)) (ofsSamples : Nat))) } })
      let s := match noisy with
        | some i => ramanNotQuiet s port i
        | none => calEnd s 4 port
      .next (ramanCalNext s 4 port)
    else .next s

end Sys2Proof.Machine
end

