-- ==== Sys2Proof/Machine/Cal.lean ====
section
/-! DEFINITION. Machine/Cal.lean: CAL_RUN, CAL_STATUS and CAL_ABORT, tests of spares, and on-chip SRAM rows (19 R395, R396,
R401 to R403). -/

namespace Sys2Proof.Machine

/-! ### Domains (19 R395, Table 19-1) -/

/-- The insts of a domain; 0xFF, where allowed, names them all. -/
def calIns (dom : Nat) : List Nat :=
  match dom with
  | 0 => [0, 1]
  | 1 => List.range 16
  | 3 => [0, 1]
  | 4 => [0, 1]
  | _ => [0]

/-- Does the domain have an inst: its column of Table 19-1? -/
def calHas (dom ins : Nat) : Bool := (calIns dom).contains ins || (decide (ins = 0xFF) && decide (1 < (calIns dom).length))

/-- The insts that a command names. -/
def calNamed (dom ins : Nat) : List Nat := if ins = 0xFF then calIns dom else [ins]

/-- Do skeins have a user of a TRIGIN pin: a defined skein that selects it and is not IDLE (07 R158)? -/
def skeinUsesPin (s : State) (pin : Nat) : Bool :=
  (List.range 32).any (fun k => skRuns s k && (sn (skview s k) kTRIGIN_MASK).testBit pin)

/-- Has a TDC channel a user (08 Table 08-1, R183)? -/
def tdcUsed (s : State) (c : Nat) : Bool :=
  let log := decide (natP s 0x06 c tTDC_ENABLE = 1) && decide (natP s 0x06 c tTDC_LOG = 1)
  log || (match c with
    | 0 => !portIdle s 0
    | 1 => !portIdle s 1
    | 6 => decide (natP s 0x06 0 tPPS_MODE ≠ 0) || s.time.step.isSome
    | 7 => pairOn s
    | _ => decide (2 ≤ c) && decide (c ≤ 5) && (trigOfArmed s (c - 2) || skeinUsesPin s (c - 2)))

/-! ### Tests of cores and engines (09 R214 to R216; 10 R234; 19 R395, R402, R410) -/

/-- Free spare cores, and with `mapped` the cores of the working repair map. -/
def testableCores (s : State) (mapped : Bool) : List Nat :=
  (List.range 68).filter (fun c =>
    (nSpares s).contains c || (xSpares s).contains c || (mapped && decide (coreUse s c = .failed) && repairHas s (.core c)))

/-- The free spare engine, and with `mapped` the engines of the working repair map. -/
def testableEngines (s : State) (mapped : Bool) : List Nat :=
  (List.range 9).filter (fun e =>
    decide ((engineOf s e).st = .spare) || (mapped && decide ((engineOf s e).st = .failed) && repairHas s (.engine e)))

/-- Cores go into their self-tests one after another, 40 µs each (09 R214; 19 Table 19-1). -/
def testCores (s : State) : Nat → List Nat → State
  | _, [] => s
  | i, c :: cs =>
    let s := setUse s c (.testing (nowClk s + (i + 1) * 40 * usTicks))
    testCores { s with cal := { s.cal with underTest := s.cal.underTest ++ [c] } } (i + 1) cs

/-- Engines go into their tests one after another, 70 µs each (10 R234; 19 Table 19-1). -/
def testEngines (s : State) : Nat → List Nat → State
  | _, [] => s
  | i, e :: es =>
    let s := setEngine s e ⟨.testing (nowClk s + (i + 1) * 70 * usTicks), .idle, 0⟩
    testEngines { s with cal := { s.cal with underTest := s.cal.underTest ++ [256 + e] } } (i + 1) es

/-- The domain of a unit under test: 5 NEEDLE_TEST, 7 COMP_TEST. -/
def unitDomain (u : Nat) : Nat := if u < 256 then 5 else 7

/-- Has the run of a domain no unit left under test? -/
def testsOver (s : State) (dom : Nat) : Bool := !s.cal.underTest.any (fun u => decide (unitDomain u = dom))

/-- A run of NEEDLE_TEST or COMP_TEST whose last unit has been tested ends (19 R396). -/
def testsSettle (s : State) (dom : Nat) : State :=
  if calBusy s dom 0 && testsOver s dom then calEnd s dom 0 else s

/-- A unit under test has its result (19 R396). -/
def unitTested (s : State) (u : Nat) (pass : Bool) : State :=
  if s.cal.underTest.contains u then
    let s := { s with cal := { s.cal with underTest := s.cal.underTest.filter (fun v => v ≠ u) } }
    testsSettle (if pass then s else calFail s (unitDomain u) 0) (unitDomain u)
  else s

/-- A core that fails its self-test is out of service: repair map, source; the source covers nothing that a spare replaces (09
R215, R216; log 70). -/
def testFails (s : State) (c : Nat) : State :=
  quietIn (detect (repairAdd (setUse s c .failed) (.core c)) (coreSource c)) (coreSource c).src 0

/-- CORE_SELFTEST_DONE: a tested core joins the spares and leaves the repair map, or is a core fault; a spare on which an image
loads is tested too (09 R213 to R216; 19 R402, R410). -/
def execCoreSelftestDone (core : Nat) (pass : Bool) (s : State) : Host.Outcome State Fault Refusal :=
  match coreUse s core with
  | .testing t =>
    if nowClk s < t then .next s
    else if pass then .next (unitTested (clearIf (repairDrop (setUse s core .spare) (.core core)) 51) core true)
    else .next (unitTested (testFails s core) core false)
  | .shadow n =>
    (match (krnOf s n).testEnd with
    | none => .next s
    | some t =>
      if nowClk s < t then .next s
      else if pass then .next (modKrn s n (fun x => { x with testEnd := none }))
      else
        let s := testFails s core
        (match (nSpares s).head? with
        | some c => .next (modKrn (setUse s c (.shadow n)) n (fun x => { x with
            shadowCore := some c, testEnd := some (nowClk s + 40 * usTicks) }))
        | none => .next (dropShadow s n)))
  | .failed => .next (unitTested s core false)
  | _ => .next s

/-- COMP_TEST_DONE: 70 µs of a test end: a passing engine is the spare, and source 57 clears; a failing one enters the repair
map (10 R234, Table 10-3; 19 R402, R410). -/
def execCompTestDone (engine : Nat) (pass : Bool) (s : State) : Host.Outcome State Fault Refusal :=
  match (engineOf s engine).st with
  | .testing t =>
    if nowClk s < t then .next s
    else if pass then
      .next (unitTested (clearIf (repairDrop (setEngine s engine ⟨.spare, .idle, 0⟩) (.engine engine)) 57) (256 + engine) true)
    else .next (unitTested (repairAdd (setEngine s engine ⟨.failed, .idle, 0⟩) (.engine engine)) (256 + engine) false)
  | _ => .next s

/-- SPARE_TEST_PERIOD in SCLK ticks; 0: off (19 Table 19-8). -/
def spareTestTicks (s : State) : Nat := natP s 0x09 0 aSPARE_TEST_PERIOD * secTicks

/-- The unit to test next: the first free spare from the pointer on, wrapping (19 R402). -/
def nextSpareUnit (s : State) : Option Nat :=
  let free := (testableCores s false) ++ (testableEngines s false).map (68 + ·)
  ((List.range 77).map (fun i => (s.cal.spareTestNext + i) % 77)).find? (fun u => free.contains u)

/-- SPARE_TEST_TIMER: SPARE_TEST_PERIOD expires, and the next free spare Needle or engine is tested (19 R402). -/
def execSpareTestTimer (s : State) : Host.Outcome State Fault Refusal :=
  let period := spareTestTicks s
  if period = 0 ∨ !s.boot.userApplied ∨ nowClk s < s.cal.spareTestSince + period then .next s
  else
    let s := { s with cal := { s.cal with spareTestSince := nowClk s } }
    match nextSpareUnit s with
    | none => .next s
    | some u =>
      let dom := if u < 68 then 5 else 7
      if calBusy s dom 0 then .next s
      else
        let s := calBegin { s with cal := { s.cal with spareTestNext := (u + 1) % 77 } } dom 0 .background
        .next (if u < 68 then testCores s 0 [u] else testEngines s 0 [u - 68])

/-! ### On-chip SRAM (19 R403) -/

/-- Spare rows of an array that are in use. -/
def rowsUsed (s : State) (array : Nat) : Nat := kget (fun _ => 0) s.cal.sramUsed array

/-- A failing row goes to a spare row of its array and into the working repair map (19 R403, R410). -/
def rowRepair (s : State) (array row : Nat) : State :=
  repairAdd { s with cal := { s.cal with sramUsed := kput (fun _ => 0) s.cal.sramUsed array (rowsUsed s array + 1) } } (.sramRow array row)

/-- The journal data of sources 59 and 60: the array and the row. -/
def rowRaise (src array row : Nat) : Raise := { raiseBlank src with ins := array, d0 := row }

/-- The corrected errors of a row, as SCLK counts, that lie within the last second (19 R403). -/
def errorsRecent (s : State) (errs : List Nat) : Nat :=
  (errs.filter (fun t => decide (t ≤ nowClk s) && decide (nowClk s < t + secTicks))).length

/-- SRAM_ROW_REPAIR: `errs` holds the SCLK counts of a row's corrected errors. With SRAM_REPAIR_COUNT of them within 1 s the row moves to
a spare row, or its owner is a core or engine fault; any other array runs on (19 R403, R411). -/
def execSramRowRepair (r : SramRow) (errs : List Nat) (s : State) : Host.Outcome State Fault Refusal :=
  if !s.boot.marchDone || errorsRecent s errs < natP s 0x09 0 aSRAM_REPAIR_COUNT then .next s
  else if rowsUsed s r.array < 4 then
    let s := bumpP (rowRepair s r.array r.row) 0x09 0 aSRAM_REPAIRS
    .next (quietIn (detect s (rowRaise 59 r.array r.row)) 59 (2 * usTicks))
  else
    let s := detect s (rowRaise 60 r.array r.row)
    if r.array < 68 then .next (if inService (coreUse s r.array) then coreFault s r.array else s)
    else if 256 ≤ r.array ∧ r.array < 265 ∧ (engineOf s (r.array - 256)).st = .inService then .next (engineFails s (r.array - 256))
    else .next s

/-- Is an array one that CAL_RUN of SRAM tests: of a free spare, or of a unit out of service (19 R403)? -/
def arrayIdle (s : State) (array : Nat) : Bool :=
  if array < 68 then (nSpares s).contains array || (xSpares s).contains array || decide (coreUse s array = .failed)
  else decide (256 ≤ array) && decide (array < 265) &&
    (decide ((engineOf s (array - 256)).st = .spare) || decide ((engineOf s (array - 256)).st = .failed))

/-- A mapped row that passes leaves the map and its spare row is free again (19 R410). -/
def rowPasses (s : State) (q : Nat × Nat) : State :=
  if arrayIdle s q.1 && repairHas s (.sramRow q.1 q.2) then
    repairDrop { s with cal := { s.cal with sramUsed := kput (fun _ => 0) s.cal.sramUsed q.1 (rowsUsed s q.1 - 1) } } (.sramRow q.1 q.2)
  else s

/-- SRAM_CAL_DONE: a CAL_RUN of SRAM ends; mapped rows that passed leave the map (19 R396, R403, R410). -/
def execSramCalDone (failed : Bool) (passed : List (Nat × Nat)) (s : State) : Host.Outcome State Fault Refusal :=
  if calBusy s 6 0 then
    let s := passed.foldl rowPasses s
    .next (calEnd (if failed then calFail s 6 0 else s) 6 0)
  else .next s

/-! ### CAL_RUN (15 Table 15-10, R321; 19 R395, R398, R400, R401) -/

/-- Does the domain and inst run already, or wait to (19 R401)? -/
def calTaken (s : State) (dom ins : Nat) : Bool := calBusy s dom ins || (decide (ins = 0xFF) && calAnyBusy s dom)

/-- The slot whose CAL_RUN is in the way; 0: the run was not asked for by a command. -/
def calTakenBy (s : State) (dom ins : Nat) : Nat :=
  (([ins, 0xFF] ++ calNamed dom ins).findSome? (fun i => slotWaiting s (.calRun dom i))).getD 0

/-- A run of ADC_SLICE on a port: in the foreground, or as background steps (19 R400). -/
def sliceRun (s : State) (p : Nat) : State :=
  if (portOf s p).st = .running ∧ slotFits (pv s p) then
    calBegin (modPort s p (fun x => { x with calLeft := 18 })) 0 p .background
  else fgBegin s p 0

/-- A run of one inst starts, or waits (19 R395). -/
def calStart (s : State) (dom ins : Nat) : State :=
  match dom with
  | 0 => sliceRun s ins
  | 1 => tdcRun s ins (!tdcUsed s ins)
  | 2 => feRequestCal s
  | 3 => ramanCalAsk s 3 ins
  | 4 => ramanCalAsk s 4 ins
  | 5 => testCores (calBegin s 5 0 .background) 0 (testableCores s true)
  | 6 => calBegin s 6 0 .background
  | _ => testEngines (calBegin s 7 0 .background) 0 (testableEngines s true)

/-- The checks of a domain and inst (19 R395; 15 R319). -/
def calFault (dom ins : Nat) : Option Reply :=
  if 7 < dom then some (badField 0) else if !calHas dom ins then some (badField 16) else none

/-- CAL_RUN (19 R395, R401). -/
def bodyCalRun (dom ins : Nat) (s : State) : State × Answer :=
  match calFault dom ins with
  | some r => reply s r
  | none =>
    if calTaken s dom ins then reply s (busy (calTakenBy s dom ins))
    else
      let s := if ins = 0xFF then calBegin s dom 0xFF .foreground else s
      ((calNamed dom ins).foldl (fun s i => calStart s dom i) s, .later (.calRun dom ins))

/-- CAL_RUN (19 R395); a test with no unit to test ends at once. -/
def execCalRun (r : Req) (dom ins : Nat) (s : State) : Host.Outcome State Fault Refusal :=
  .next (testsSettle (testsSettle (mbxRun (.calRun r dom ins) r 0x0901 false (bodyCalRun dom ins) s) 5) 7)

/-- STATE as CAL_STATUS shows it: for 0xFF, of the insts together (19 R396). -/
def calStateOf (s : State) (dom ins : Nat) : Nat := maxN ((calNamed dom ins).map (calState s dom))

/-- CAL_STATUS (19 R396; 15 Table 15-10). -/
def bodyCalStatus (dom ins : Nat) (s : State) : State × Answer :=
  match calFault dom ins with
  | some r => reply s r
  | none =>
    let x := calGet s dom ins
    reply s (okWith (leBytes 1 (calStateOf s dom ins) ++ leBytes 1 x.lastStatus ++ zeros 2 ++ leBytes 4 x.count ++ tsBytes x.last))

/-- CAL_STATUS (19 R396). -/
def execCalStatus (r : Req) (dom ins : Nat) (s : State) : Host.Outcome State Fault Refusal :=
  .next (mbxRun (.calStatus r dom ins) r 0x0902 false (bodyCalStatus dom ins) s)

/-! ### CAL_ABORT (15 R322; 19 R401) -/

/-- Slice runs of a port end: channel and slices return with their previous factors (19 R401). -/
def sliceAbort (s : State) (p : Nat) : State :=
  let turns := (portOf s p).calStep.isSome
  let s := fgDrop (stepAbandon s p) p
  let s := modPort s p (fun x => { x with calLeft := 0, calFgDue := false, calTurn := if turns then 0 else x.calTurn })
  let s := if calBusy s 0 p then calAbortRun s 0 p
    else if turns then calSet s 0 p { calGet s 0 p with lastStatus := 3, failed := false } else s
  stepKick s p

/-- A self-calibration of the front end ends, or is not made; the chart goes on (11 R254; 19 R401). -/
def feAbort (s : State) : State :=
  feAdvance (calAbortRun (modFe s (fun x => { x with calDue := false, calSince := none })) 2 0)

/-- A RAMAN run of a port ends with its previous values; the other domain's starts if it waits (19 R401). -/
def ramanAbort (s : State) (dom p : Nat) : State :=
  let runs := decide ((calGet s dom p).st = .foreground)
  let s := modPort s p (fun x =>
    if !runs then x
    else if dom = 3 then { x with raman := { x.raman with gainRun := none } }
    else { x with raman := { x.raman with ofsRun := none } })
  let s := calAbortRun s dom p
  if runs then ramanCalNext s dom p else s

/-- Units under test go back to what they were (19 R401). -/
def unitBack (s : State) (u : Nat) : State :=
  if u < 256 then setUse s u (if repairHas s (.core u) then .failed else .spare)
  else setEngine s (u - 256) ⟨if repairHas s (.engine (u - 256)) then .failed else .spare, .idle, 0⟩

/-- A test run ends early (19 R401). -/
def testAbort (s : State) (dom : Nat) : State :=
  let mine := s.cal.underTest.filter (fun u => decide (unitDomain u = dom))
  let s := mine.foldl unitBack s
  calAbortRun { s with cal := { s.cal with underTest := s.cal.underTest.filter (fun u => !decide (unitDomain u = dom)) } } dom 0

/-- The run of a domain and inst, if there is one, ends early (19 R401). -/
def calAbortOne (s : State) (dom ins : Nat) : State :=
  if dom = 0 then sliceAbort s ins
  else if !calBusy s dom ins then s
  else match dom with
    | 1 => tdcAbort s ins
    | 2 => feAbort s
    | 3 => ramanAbort s 3 ins
    | 4 => ramanAbort s 4 ins
    | 5 => testAbort s 5
    | 6 => calAbortRun s 6 0
    | _ => testAbort s 7

/-- CAL_ABORT (19 R401; 15 R322). -/
def bodyCalAbort (dom ins : Nat) (s : State) : State × Answer :=
  match calFault dom ins with
  | some r => reply s r
  | none =>
    let s := (calNamed dom ins).foldl (fun s i => calAbortOne s dom i) s
    (calEndAll (if ins = 0xFF then calAbortRun s dom 0xFF else s) dom, .final okBare)

/-- CAL_ABORT (19 R401). -/
def execCalAbort (r : Req) (dom ins : Nat) (s : State) : Host.Outcome State Fault Refusal :=
  .next (mbxRun (.calAbort r dom ins) r 0x0903 false (bodyCalAbort dom ins) s)

end Sys2Proof.Machine
end

