-- ==== Sys2Proof/Machine/Loop.lean ====
section
/-! DEFINITION. Machine/Loop.lean: the commands and events of the loop outputs (11 R256 to R259). -/

namespace Sys2Proof.Machine

/-! ### LOOP_CFG (11 R259) -/

/-- The items of a loop. -/
def loopItem (n o : Nat) : Bool :=
  decide (objDom o = 0x07) && decide (objInst o = n) && decide (0x40 ≤ objItem o) && decide (objItem o < 0x80)

/-- A loop's item as LOOP_CFG would apply it. -/
def lpPlan (s : State) (n item : Nat) : Int := planP s 0x07 n item

/-- The checks of a LOOP_CFG, in their order; the zone's are those of a loop that takes a zone (11 R259; log 86). -/
def loopFault (s : State) (n : Nat) : Option Reply :=
  let z := (lpPlan s n fLOOP_ZONE).toNat
  let on := decide (lpPlan s n fLOOP_MODE ≠ 0)
  if lpPlan s n fLOOP_HI = lpPlan s n fLOOP_LO then some (badParam (objId 7 n fLOOP_HI) n)
  else if on && !zoneDefined s z then some (badParam (objId 7 n fLOOP_ZONE) n)
  else if on && (zcount (zaccepted s z) : Int) ≤ lpPlan s n fLOOP_STITCH then some (badParam (objId 7 n fLOOP_STITCH) n)
  else if on && decide (n = 3) && decide ((loopOf s 3).st = .off) && sdAllocated s 7 then some (badState 0x0701 7)
  else none

/-- A loop's staged items as pairs. -/
def loopStaged (s : State) (n : Nat) : List (Nat × Int) := stagedPairs s (loopItem n)

/-- FE_LOOP_CFG (11 R259). -/
def bodyFeLoopCfg (n : Nat) (s : State) : State × Answer :=
  if 3 < n then reply s (badField 0)
  else match slotWaiting s (.loopRelease n) with
    | some k => reply s (busy k)
    | none =>
      match loopFault s n with
      | some r => reply s r
      | none =>
        let on := decide (lpPlan s n fLOOP_MODE ≠ 0)
        match (loopOf s n).st with
        | .releasing =>
          if on then
            let ps := loopStaged s n
            (modLoop { s with staged := s.staged.filter (fun p => !loopItem n p.1) } n (fun x => { x with next := ps }),
              .later (.loopRelease n))
          else (applyStaged s (loopItem n), .final okBare)
        | .off =>
          let s := applyStaged s (loopItem n)
          (if on then loopStart s n else s, .final okBare)
        | _ =>
          if on then (loopsWatch (applyStaged s (loopItem n)), .final okBare)
          else
            let s := loopRelease s n
            (applyStaged s (loopItem n), .final okBare)

/-- FE_LOOP_CFG (11 R259). -/
def execFeLoopCfg (r : Req) (loop : Nat) (s : State) : Host.Outcome State Fault Refusal :=
  .next (mbxRun (.feLoopCfg r loop) r 0x0704 false (bodyFeLoopCfg loop) s)

/-! ### Values (11 R256, R257) -/

/-- v of a row: the value at LOOP_STITCH, or the mean, least or greatest of those not INVALID; none: no valid value (11
R256). -/
def loopValue (s : State) (n : Nat) (r : ZRow) : Option Rat :=
  let ok := (r.vals.filter (fun q => !q.2.testBit 4)).map (fun q => (q.1 : Int))
  match natP s 0x07 n fLOOP_AGG with
  | 0 =>
    match r.vals[natP s 0x07 n fLOOP_STITCH]? with
    | some q => if q.2.testBit 4 then none else some ((q.1 : Int) : Rat)
    | none => none
  | 1 => if ok.isEmpty then none else some (meanQ (ok.map (fun v : Int => (v : Rat))))
  | 2 => ok.head?.map (fun v => ((ok.foldl min v : Int) : Rat))
  | _ => ok.head?.map (fun v => ((ok.foldl max v : Int) : Rat))

/-- x of a value (11 R256). -/
def loopX (s : State) (n : Nat) (v : Rat) : Rat :=
  (v - (lp s n fLOOP_LO : Rat)) / ((lp s n fLOOP_HI - lp s n fLOOP_LO : Int) : Rat)

/-- A valid value reaches a loop: its output follows, unless a condition holds it at its fault level (11 R256, R257). -/
def loopTakes (s : State) (n : Nat) (x : Rat) : State :=
  let s := modLoop s n (fun y => { y with x := x, validAt := nowClk s })
  if loopBlocked s n then s
  else loopDrive (modLoop s n (fun y => { y with st := .normal })) n (loopMap s n x)

/-- LOOP_UPDATE: a loop takes the latest row of its zone, at most once per 1 ms (11 R256). -/
def execLoopUpdate (loop : Nat) (s : State) : Host.Outcome State Fault Refusal :=
  let x := loopOf s loop
  match (zoneOf s (loopZone s loop)).last with
  | none => .next s
  | some r =>
    let rested := match x.updated with
      | some t => decide (t + msTicks ≤ nowClk s)
      | none => true
    if loopOn s loop && rested && decide (x.label ≠ some r.label) then
      let s := modLoop s loop (fun y => { y with label := some r.label, updated := some (nowClk s) })
      match loopValue s loop r with
      | some v => .next (loopTakes s loop (loopX s loop v))
      | none => .next s
    else .next s

/-- V(REFX) leaves or enters its range, or has moved: the loops that use it follow; source 102 (11 R256, R257, Table 11-10; log 185). -/
def refxChecks (s : State) : State :=
  let users := [0, 1, 2, 3].filter (fun n => loopOn s n && decide (2 ≤ loopMode s n))
  let s := users.foldl (fun s n =>
    if loopRefxBad s n || decide ((loopOf s n).st = .faultLevel) then loopToFault s n
    else loopDrive s n (loopMap s n (loopOf s n).x)) s
  if refxOk s then (if isLive s 102 && (srcRec s 102).quietAt.isNone then quietIn s 102 (100 * msTicks) else s)
  else
    let s := if isLive s 102 then setSrcRec s 102 { srcRec s 102 with quietAt := none } else s
    if users.isEmpty then s else raiseOnce s (raiseBlank 102)

/-- REFX_MEASURE: V(REFX) is measured every 1 ms (11 R256, R257). -/
def execRefxMeasure (mv : Nat) (s : State) : Host.Outcome State Fault Refusal :=
  if s.loops.refxAt ≤ nowClk s then
    let s := setP s 0x07 0 fREFX_MEAS (mv : Int)
    .next (refxChecks { s with loops := { s.loops with refxAt := s.loops.refxAt + msTicks } })
  else .next s

/-- LOOP_HOLD_EXPIRY: LOOP_HOLD has passed without a valid value, or with the zone or port down (11 R257). -/
def execLoopHoldExpiry (loop : Nat) (s : State) : Host.Outcome State Fault Refusal :=
  if decide ((loopOf s loop).st = .normal) && loopStale s loop then .next (loopToFault s loop) else .next s

/-! ### Sense and release (11 R258, R259) -/

/-- The distance that counts as a mismatch: 0.5 mA, or 1 % of V(REFX) (11 R258). -/
def senseBand (s : State) (n : Nat) : Nat := if loopMode s n = 2 then refx s else 5000

/-- Does every loop that reported a mismatch agree again, and was there one (11 R258)? -/
def loopsAgree (s : State) : Bool :=
  [0, 1, 2, 3].any (fun n => (loopOf s n).sense.isSome) && !([0, 1, 2, 3].any (loopDiffers s))

/-- LOOP_SENSE_MISMATCH: for 10 ms the sensed value has stood at `sensed`: OPEN, OVERCURRENT, or agreement; 100 ms
of it clear source 101 once no loop is left in mismatch (11 R258; 18 Table 18-5). -/
def execLoopSenseMismatch (loop : Nat) (sensed : Int) (s : State) : Host.Outcome State Fault Refusal :=
  if !loopOn s loop || decide (s.pair.role = .standby) then .next s
  else
    let v := sensed + (if snagArmed s 0x0051 loop then snagValue s 0x0051 loop else 0)
    let s := if snagArmed s 0x0051 loop then spendSnag s 0x0051 loop else s
    let s := setP s 0x07 loop fLOOP_MEAS v
    let set := lp s loop fLOOP_SET
    if senseBand s loop < (v - set).natAbs then
      let x := loopOf s loop
      let above := decide (set < v)
      let s := modLoop s loop (fun x => { x with sense := some above, agreeAt := none })
      let s := setSrcRec s 101 { srcRec s 101 with quietAt := none }
      .next (if x.sense = some above ∧ x.agreeAt = none then s else detect s { raiseBlank 101 with ins := loop })
    else
      let t := nowClk s + 100 * msTicks
      let s := modLoop s loop (fun x => { x with
        agreeAt := if x.sense.isSome && x.agreeAt.isNone then some t else x.agreeAt })
      .next (if loopsAgree s && (srcRec s 101).quietAt.isNone then quietIn s 101 (100 * msTicks) else s)

/-- A release has ended: the transistor is off; a LOOP_CFG that waited enables the loop (11 R259). -/
def loopReleased (s : State) (n : Nat) : State :=
  let ps := (loopOf s n).next
  let s := loopDrive (modLoop s n (fun _ => loopBlank n)) n 0
  let s := modLoop s n (fun x => { x with drive := 0 })
  match slotWaiting s (.loopRelease n) with
  | some _ =>
    let s := { s with params := ps.foldl (fun m p => kput paramReset m p.1 p.2) s.params }
    complete (loopStart s n) (.loopRelease n) okBare
  | none => s

end Sys2Proof.Machine
end

