-- ==== Sys2Proof/Machine/Mem.lean ====
section
/-! DEFINITION. Machine/Mem.lean: the commands and events of the memory controller (13). -/

namespace Sys2Proof.Machine

/-! ### MEM_FREQ, MEM_TRAIN, MEM_PPR (13 R283 to R285, R293; 15 Table 15-12) -/

/-- MEM_FREQ (13 R285): at once, or queued while training runs, the newer one replacing the older (15 R321). -/
def bodyMemFreq (fsp : Nat) (s : State) : State × Answer :=
  if 1 < fsp then reply s (badField 0)
  else if memTraining s || !s.boot.dramTrained then
    let waits := s.mem.freqWaits.isSome
    let s := if waits then complete s .memFreq (statusOnly stAborted) else s
    ({ s with mem := { s.mem with freqWaits := some fsp, freqReplaced := waits } }, .later .memFreq)
  else
    let p := freqApply s fsp
    (p.1, .final p.2)

/-- MEM_FREQ (13 R285). -/
def execMemFreq (r : Req) (fsp : Nat) (s : State) : Host.Outcome State Fault Refusal :=
  .next (mbxRun (.memFreq r fsp) r 0x1001 false (bodyMemFreq fsp) s)

/-- Training begins (13 R283). -/
def beginTraining (s : State) : State :=
  let s := closeAllRows s
  { s with mem := { s.mem with training := some (nowClk s) } }

/-- MEM_TRAIN (13 R283). -/
def bodyMemTrain (s : State) : State × Answer :=
  match slotWaiting s .memTrain with
  | some n => reply s (busy n)
  | none =>
    match slotWaiting s .memPpr with
    | some n => reply s (busy n)
    | none =>
      if memInUse s then reply s (badState 0x1003 0)
      else (beginTraining s, .later .memTrain)

/-- MEM_TRAIN (13 R283). -/
def execMemTrain (r : Req) (s : State) : Host.Outcome State Fault Refusal :=
  .next (mbxRun (.memTrain r) r 0x1002 false bodyMemTrain s)

/-- MEM_TRAIN_DONE: training ends, `failed` having a bit for each channel that failed: the old results are then restored
and the command completes with TIMEOUT; a queued MEM_FREQ is taken up (13 R283 to R285). -/
def execMemTrainDone (failed : Nat) (s : State) : Host.Outcome State Fault Refusal :=
  match s.mem.training with
  | none => .next s
  | some _ =>
    let s := { s with mem := { s.mem with training := none } }
    let bad := [0, 1, 2, 3].filter (fun c => failed.testBit c)
    let s :=
      if bad.isEmpty then
        let s := (List.range 8).foldl (fun s i => modDev s (i / 2) i (fun d => { d with drift := 0 })) s
        complete (clearIf s 64) .memTrain okBare
      else
        let s := bad.foldl (fun s c => detect s { raiseBlank 64 with ins := c }) s
        complete s .memTrain (statusOnly stTimeout)
    .next (freqResume s)

/-- The key of a bank among all. -/
def repairKey (ch rank bank : Nat) : Nat := ch * 32 + rank * 16 + bank

/-- A confirmed repair: entered in the repair map, counted, sources 74 (of its row) and 75 clear (13 R293, Table 13-6). -/
def pprDone (s : State) (ch rank bank row kind : Nat) : State :=
  let s := repairAdd s (.dramRow ch rank bank row kind)
  let key := repairKey ch rank bank
  let s := { s with mem := { s.mem with
    repairs := kmod (fun _ => 0) s.mem.repairs key (· + 1)
    hardRepairs := if kind = 1 then kmod (fun _ => 0) s.mem.hardRepairs key (· + 1) else s.mem.hardRepairs } }
  let left := s.mem.ecs.filter (· ≠ ⟨ch, rank, bank, row⟩)
  let s := if left.isEmpty then clearIf s 74 else s
  clearIf { s with mem := { s.mem with ecs := left } } 75

/-- A repair that the device does not confirm (13 R293). -/
def pprFails (s : State) (ch row : Nat) : State := detect s { raiseBlank 75 with ins := ch, d0 := row }

/-- Has the bank no repair resource left: one at first, and as many more as the device has, which is not stated (13 R293; log
91)? -/
def pprSpent (s : State) (ch rank bank : Nat) : Bool :=
  decide (Config.pprResources (repairKey ch rank bank) < kget (fun _ => 0) s.mem.repairs (repairKey ch rank bank))

/-- MEM_PPR (13 R293): whether the device confirms a soft repair is free (log 92). -/
def bodyMemPpr (ch rank bank kind row : Nat) (s : State) : State × Answer :=
  if 3 < ch then reply s (badField 0)
  else if max 1 (memRanks s) ≤ rank then reply s (badFieldOf 8 ch)
  else if 15 < bank then reply s (badFieldOf 16 ch)
  else if 1 < kind then reply s (badFieldOf 24 ch)
  else match slotWaiting s .memPpr with
    | some n => reply s (busy n)
    | none =>
      if kind = 1 ∧ memInUse s then reply s (badState 0x1003 0)
      else if pprSpent s ch rank bank then reply s (noResource 0x1004 0)
      else
        let s := wake s ch
        if kind = 1 then ({ s with mem := { s.mem with hard := some ⟨ch, rank, bank, row⟩ } }, .later .memPpr)
        else
          let f := takeFree s
          if f.1 % 2 = 0 then (pprDone f.2 ch rank bank row 0, .final okBare)
          else (pprFails f.2 ch row, .final (statusOnly stTimeout))

/-- MEM_PPR (13 R293). -/
def execMemPpr (r : Req) (ch rank bank kind row : Nat) (s : State) : Host.Outcome State Fault Refusal :=
  .next (mbxRun (.memPpr r ch rank bank kind row) r 0x1003 false (bodyMemPpr ch rank bank kind row) s)

/-- PPR_HARD_DONE: the device confirms a hard repair, or does not (13 R293). -/
def execPprHardDone (confirmed : Bool) (s : State) : Host.Outcome State Fault Refusal :=
  match s.mem.hard with
  | none => .next s
  | some h =>
    let s := { s with mem := { s.mem with hard := none } }
    if confirmed then .next (complete (pprDone s h.ch h.rank h.bank h.row 1) .memPpr okBare)
    else .next (complete (pprFails s h.ch h.row) .memPpr (statusOnly stTimeout))

/-- FSP_CHANGE_COMPLETE: traffic resumes at the new set point (13 Table 13-3). -/
def execFspChangeComplete (s : State) : Host.Outcome State Fault Refusal :=
  match s.mem.change with
  | none => .next s
  | some q =>
    let s := setP s 0x10 0 mFSP_NOW (q.1 : Int)
    .next (freqResume { s with mem := { s.mem with change := none } })

/-! ### Accesses and rows (13 R286, R287, R292) -/

/-- DRAM_ACCESS: requests arrive at a channel, and it performs the next access of those its ports may send (13 R286, R287,
R292; 18 Table 18-5 DRAM_STALL). -/
def execDramAccess (ch : Nat) (arrived : List DramReq) (s : State) : Host.Outcome State Fault Refusal :=
  if 3 < ch then .next s
  else
    let s := if arrived.isEmpty then s else modChan s ch (fun x => { x with
      queue := x.queue ++ (arrived.filter (fun r => decide (r.addr / 256 % 4 = ch))).map (waiting s), lastReq := nowClk s })
    let x := chanOf s ch
    let q := x.queue.filter (fun r => !snagEffect s 0x0031 r.port)
    if !memServes s || x.asleep then .next s
    else match nextReq s ch q with
      | some r => .next (serve s ch r)
      | none => .next s

/-- ROW_IDLE_CLOSE: under PREDICT, an open row has had no access for 200 ns (13 R287). -/
def execRowIdleClose (ch rank bank : Nat) (s : State) : Host.Outcome State Fault Refusal :=
  let b := bankOf s ch rank bank
  if getP s 0x10 0 mPAGE_POLICY = 0 ∧ b.row.isSome ∧ b.used + 250 ≤ nowClk s then
    .next (modBank s ch rank bank (fun x => { x with row := none }))
  else .next s

/-- ACT_COUNT_RESET: all activate counts reset every 32 ms (13 R292). -/
def execActCountReset (s : State) : Host.Outcome State Fault Refusal :=
  if s.mem.actAt ≤ nowClk s then
    let s := { s with mem := { s.mem with actAt := s.mem.actAt + 32 * msTicks } }
    .next ([0, 1, 2, 3].foldl (fun s c => (List.range 32).foldl (fun s i =>
      modBank s c (i / 16) i (fun b => { b with acts := [] })) s) s)
  else .next s

/-- NEIGHBOUR_REFRESH: the neighbours of a row that reached ACT_THRESH are activated and precharged, or an RFM command is
sent; its count is 0 again (13 R292). -/
def execNeighbourRefresh (ch rank bank : Nat) (s : State) : Host.Outcome State Fault Refusal :=
  let b := bankOf s ch rank bank
  match b.hot with
  | [] => .next s
  | row :: rest =>
    let s := modBank s ch rank bank (fun x => { x with
      row := none, hot := rest, acts := x.acts.map (fun q => if q.1 = row then (q.1, 0) else q) })
    let s := if s.mem.rfm then s else (neighbours row).foldl (fun s r => activate s ch rank bank r) s
    let s := bumpP s 0x10 0 mNEIGHBOUR_REFRESHES
    .next (quietIn (detect s { raiseBlank 73 with ins := ch, d0 := row }) 73 (32 * msTicks))

/-! ### Refresh, temperature, drift (13 R282, R289) -/

/-- REFRESH_DUE: a per-bank refresh falls due: issued where no P0 or P1 request waits for the bank; where the rank has fallen
behind, by all-bank refresh once no burst waits on it, and by force at a debt of 8 tREFI (13 R289; 18 Table 18-5
REFRESH_HOLD). -/
def execRefreshDue (ch rank bank : Nat) (s : State) : Host.Outcome State Fault Refusal :=
  let x := chanOf s ch
  if 3 < ch || x.asleep || !s.boot.dramTrained || memTraining s then .next s
  else
    let held := snagArmed s 0x0032 ch
    let s := modBank s ch rank bank (fun b => { b with owed := b.owed + 1 })
    let s := if held || burstWaits s ch (rank % 2) (some (bank % 16)) then s else refreshBank s ch rank bank
    let behind := decide (0 < refreshDebt s ch rank)
    let s := if behind && !held && !burstWaits s ch (rank % 2) none then refreshRank s ch rank else s
    let debt := refreshDebt s ch rank
    let s := if natP s 0x10 0 mPOSTPONE_MAX < debt then setP s 0x10 0 mPOSTPONE_MAX (debt : Int) else s
    if 8 ≤ debt then
      let s := refreshForced s ch rank
      .next (if held then spendSnag s 0x0032 ch else s)
    else .next s

/-- What a poll reads of device i: `r` is its MR4 code and its multiple of the base rate × 4 (13 R289, R294). -/
def mr4Device (s : State) (i : Nat) (r : Nat × Nat) : State :=
  let was := (devOf s (i / 2) i).hot
  let hot := decide (16 ≤ r.2) || (was && decide (r.2 ≠ 4) && decide (r.2 ≠ 8))
  let s := modDev s (i / 2) i (fun d => { d with rate := r.2, hot := hot })
  let s := if hot && !was then detect s { raiseBlank 72 with ins := i / 2, d0 := i % 2 } else s
  if natP s 0x10 0 mDRAM_TEMP_MAX < r.1 then setP s 0x10 0 mDRAM_TEMP_MAX (r.1 : Int) else s

/-- MR4_POLL: every 16 ms each device's rate is read, as its MR4 code and its multiple of the base rate × 4 (13 R289, R294,
Table 13-6). -/
def execMr4Poll (rates : List (Nat × Nat)) (s : State) : Host.Outcome State Fault Refusal :=
  if s.mem.mr4At ≤ nowClk s then
    let s := { s with mem := { s.mem with mr4At := s.mem.mr4At + 16 * msTicks } }
    let s := (List.range (min 8 rates.length)).foldl (fun s i => mr4Device s i (nth (0, 4) rates i)) s
    .next (if (List.range 8).any (fun i => (devOf s (i / 2) i).hot) then s else clearIf s 72)
  else .next s

/-- Is a drift above 0.25 UI (13 R282)? -/
def drifted (drift : Rat) : Bool := decide ((1 / 4 : Rat) < drift) || decide (drift < (-1 / 4 : Rat))

/-- WCK_DRIFT_CHECK: every RETRAIN_PERIOD, out of self-refresh, the delays move by the drift since the last training, in
UI (13 R282). -/
def execWckDriftCheck (ch rank : Nat) (drift : Rat) (s : State) : Host.Outcome State Fault Refusal :=
  let d := devOf s ch rank
  if (chanOf s ch).asleep ∨ 3 < ch ∨ nowClk s < d.checkAt then .next s
  else
    let s := modDev s ch rank (fun d => { d with
      drift := drift, checkAt := nowClk s + natP s 0x10 0 mRETRAIN_PERIOD * msTicks })
    if drifted drift then .next (detect s { raiseBlank 71 with ins := ch, d0 := rank % 2 })
    else .next (if (List.range 8).any (fun i => drifted (devOf s (i / 2) i).drift) then s else clearIf s 71)

/-- SELF_REFRESH_ENTER: a channel has had no request for SR_IDLE (13 R291). -/
def execSelfRefreshEnter (ch : Nat) (s : State) : Host.Outcome State Fault Refusal :=
  let x := chanOf s ch
  let idle := natP s 0x10 0 mSR_IDLE
  let repairs := match s.mem.hard with
    | some h => decide (h.ch = ch)
    | none => false
  if ch < 4 ∧ memServes s ∧ !x.asleep ∧ idle ≠ 0 ∧ !repairs ∧ x.queue.isEmpty ∧ x.lastReq + idle * usTicks ≤ nowClk s then
    .next (modChan (prechargeAll s ch) ch (fun x => { x with asleep := true }))
  else .next s

/-- SELF_REFRESH_EXIT: a request wakes a channel (13 R291). -/
def execSelfRefreshExit (ch : Nat) (s : State) : Host.Outcome State Fault Refusal :=
  let x := chanOf s ch
  if x.asleep ∧ !x.queue.isEmpty then .next (modChan s ch (fun x => { x with asleep := false })) else .next s

/-! ### Errors (13 R290, R293, R294) -/

/-- LINK_ECC_ERROR: corrected and counted, or uncorrectable after its retry: the user of the data has a parity fault, which
is an engine fault of the compressor and a core fault of the Needle array (13 R294; 10 R234; 09 R215; log 93). -/
def execLinkEccError (port unit : Nat) (corrected : Bool) (s : State) : Host.Outcome State Fault Refusal :=
  if corrected then
    .next (quietIn (detect (bumpP s 0x10 0 mLINK_ECC_CORRECTED) { raiseBlank 65 with ins := port }) 65 secTicks)
  else
    let s := quietIn (detect s { raiseBlank 66 with ins := port }) 66 secTicks
    if port = 3 ∧ unit < 9 ∧ (engineOf s unit).st = .inService then .next (engineFails s unit)
    else if port = 4 ∧ unit < 68 then .next (coreFault s unit)
    else .next s

/-- ECS_COUNT_CHECK: a row's count has passed 16 (13 R293). -/
def execEcsCountCheck (ch rank bank row count : Nat) (s : State) : Host.Outcome State Fault Refusal :=
  let r : HardRepair := ⟨ch, rank, bank, row⟩
  if 16 < count then
    let s := { s with mem := { s.mem with ecs := s.mem.ecs.filter (· ≠ r) ++ [r] } }
    .next (detect s { raiseBlank 74 with ins := ch, d0 := row, d1 := rank * 16 + bank })
  else .next s

/-- WRITE_BUFFER_OVERFLOW: data that do not fit are dropped, and with them the segments or rows named by their launch edges or labels:
`p0`, of skein `which`'s hank, which carries GAP; otherwise of port `which`'s look-back rings, whose hole marks the hanks that include
it (13 R290; 07 R165). -/
def execWriteBufferOverflow (p0 : Bool) (d : DroppedUnits) (s : State) : Host.Outcome State Fault Refusal :=
  if p0 then
    if (skOf s d.which).cap.isSome then
      .next (detect (modSk s d.which (fun x => { x with gap := true, lost := x.lost ++ d.units })) { raiseBlank 68 with ins := d.which })
    else .next s
  else .next (quietIn (detect (skeinsHole s d.which d.units) { raiseBlank 69 with port := d.which }) 69 secTicks)

end Sys2Proof.Machine
end

