-- ==== Sys2Proof/Machine/Nvm.lean ====
section
/-! DEFINITION. Machine/Nvm.lean: NVM_STORE, NVM_RESTORE and NVM_ERASE_USER (19 R405 to R410). -/

namespace Sys2Proof.Machine

/-! ### What a store writes (19 R407, R408) -/

/-- The applied values of a domain's RW items that differ from their Reset values; 0xFF: of every domain (19 R407). -/
def storedPairs (s : State) (dom : Nat) : List (Nat × Int) :=
  s.params.filter (fun p => (decide (dom = 0xFF) || decide (objDom p.1 = dom)) && decide (objAccess p.1 = 1))

/-- A pair's place in ascending ID order. -/
def insertPair (p : Nat × Int) : List (Nat × Int) → List (Nat × Int)
  | [] => [p]
  | q :: qs => if p.1 < q.1 then p :: q :: qs else q :: insertPair p qs

/-- The bank that a store of a domain makes: the domain's values, and of the other domains what the active bank holds (19
R407). -/
def bankStored (s : State) (dom : Nat) : NvmBank :=
  let old := if (bankU s).valid then bankU s else bankBlank
  let kept := old.pairs.filter (fun p => !(decide (dom = 0xFF) || decide (objDom p.1 = dom)))
  ⟨true, (old.generation + 1) % 2 ^ 32, (storedPairs s dom).foldl (fun ps p => insertPair p ps) kept,
    if dom = 0xFF ∨ dom = 0x07 then s.fe.chart else old.chart,
    if dom = 0xFF ∨ dom = 0x08 then s.src.tables else old.tables⟩

/-- The image of a bank: the header of Table 19-6, then ID and value of each pair (19 R408). -/
def bankImage (b : NvmBank) : List Byte :=
  let body := (b.pairs.map (fun p => leBytes 4 p.1 ++ leBytesI 4 p.2)).flatten
  leBytes 2 0x5552 ++ leBytes 1 1 ++ zeros 13 ++ leBytes 4 devId ++ leBytes 4 b.pairs.length ++ leBytes 4 b.generation ++
    leBytes 4 (crc32c body) ++ body

/-- The bytes of a bank's image (19 R408). -/
def imageBytes (b : NvmBank) : Nat := (bankImage b).length

/-- The bytes that a store writes: the image; the form of chart entries, tables and the repair map in NVM is not stated, so that
theirs are free (log 107). -/
def storeBytes (s : State) (bank : Option NvmBank) (map : Bool) : Nat × State :=
  let q := takeFree s
  let open_ := map || (match bank with | some b => !b.chart.isEmpty || !b.tables.isEmpty | none => false)
  let image := match bank with | some b => imageBytes b | none => 0
  (image + (if open_ then q.1 else 0), q.2)

/-- The slot of the NVM command in progress (15 R321). -/
def nvmSlot (s : State) : Nat := ((slotWaiting s .nvmStore).or (slotWaiting s .nvmErase)).getD 0

/-- NVM_STORE (19 R407, R410). -/
def bodyNvmStore (dom : Nat) (s : State) : State × Answer :=
  let user := (decide (1 ≤ dom) && decide (dom ≤ 0x10)) || decide (dom = 0xFF)
  let map := decide (dom = 0xF0) || decide (dom = 0xFF)
  if !user && !map then reply s (badField 0)
  else if s.cal.nvmOp.isSome then reply s (busy (nvmSlot s))
  else
    let bank := if user then some (bankStored s dom) else none
    let q := storeBytes s bank map
    let op := NvmOp.store dom bank (if map then some s.cal.repair else none) q.1
    ({ q.2 with cal := { q.2.cal with nvmOp := some op } }, .later .nvmStore)

/-- NVM_STORE (19 R407). -/
def execNvmStore (r : Req) (dom : Nat) (s : State) : Host.Outcome State Fault Refusal :=
  .next (mbxRun (.nvmStore r dom) r 0x0A01 false (bodyNvmStore dom) s)

/-- The inactive bank has been written and is made active (19 R407, Table 19-8). -/
def bankWritten (s : State) (b : NvmBank) : State :=
  let c := s.cal
  let c := if c.activeBank = 0 then { c with bank1 := b, activeBank := 1 } else { c with bank0 := b, activeBank := 0 }
  nvmGood (bumpP { s with cal := c } 0x09 0 aNVM_U_WRITES) regionU

/-- NVM_STORE_DONE: the write ends with the new bank active, or fails and keeps the previous one (19 R407, R411). -/
def execNvmStoreDone (written : Bool) (s : State) : Host.Outcome State Fault Refusal :=
  match s.cal.nvmOp with
  | some (.store _ bank map bytes) =>
    let s := { s with cal := { s.cal with nvmOp := none } }
    if written then
      let s := match bank with
        | some b => bankWritten s b
        | none => s
      let s := match map with
        | some m => nvmGood { s with cal := { s.cal with regionR := m } } regionR
        | none => s
      .next (complete s .nvmStore (okWith (leBytes 4 bytes)))
    else
      let s := nvmError s (if bank.isSome then regionU else regionR) 0
      let both := bank.isSome && map.isSome && !s.cal.nvmBad.contains regionR
      let bad := if both then s.cal.nvmBad ++ [regionR] else s.cal.nvmBad
      let s := { s with cal := { s.cal with nvmBad := bad } }
      .next (complete s .nvmStore (statusOnly stTimeout))
  | _ => .next s

/-! ### NVM_RESTORE (19 R408; 15 R333) -/

/-- The first pair whose ID does not rise above the one before it (19 R408). -/
def pairOutOfOrder : Nat → List (Nat × Int) → Option (Nat × Nat)
  | _, [] => none
  | _, [_] => none
  | i, p :: q :: rest => if p.1 < q.1 then pairOutOfOrder (i + 1) (q :: rest) else some (i + 1, q.1)

/-- All pairs are checked and staged, or none; `tag` is the descriptor's TAG (19 R408; 15 R326, R333). -/
def restorePairs (tag : Nat) (ps : List (Nat × Int)) (s : State) : State × Answer :=
  match firstBad pairOk 0 ps with
  | some p => reply s (badParam p.2.1 p.1)
  | none => (stageAll s ps, .final { okWith (leBytes 4 ps.length) with item := tag })

/-- A bulk image: its header's checks in their order, then its pairs (19 R408; a COUNT beyond the image, log 108). -/
def restoreImage (tag : Nat) (bs : List Byte) (s : State) : State × Answer :=
  let count := fieldAt bs 20 4
  let body := (bs.drop 32).take (8 * count)
  if fieldAt bs 0 2 ≠ 0x5552 then reply s (badHeader 0)
  else if fieldAt bs 2 1 ≠ 1 then reply s (badHeader 16)
  else if fieldAt bs 18 2 ≠ devId / 65536 then reply s (badHeader 128)
  else if bs.length < 32 + 8 * count then reply s (badHeader 160)
  else if fieldAt bs 28 4 ≠ crc32c body then reply s (badHeader 224)
  else
    let ps := pairsOf count body
    match pairOutOfOrder 0 ps with
    | some q => reply s (badParam q.2 q.1)
    | none => restorePairs tag ps s

/-- NVM_RESTORE, from the active bank or from a bulk image (19 R407, R408). -/
def bodyNvmRestore (slot dom : Nat) (bulk : Option Bulk) (s : State) : State × Answer :=
  if s.cal.nvmOp.isSome then reply s (busy (nvmSlot s))
  else match bulk with
    | some b => withBulk slot b (fun _ => true) (fun bs s => restoreImage (bulkTag b) bs s) s
    | none =>
      if (dom = 0 ∨ 0x10 < dom) ∧ dom ≠ 0xFF then reply s (badField 0)
      else
        let b := bankU s
        restorePairs 0 (if b.valid then b.pairs.filter (fun p => decide (dom = 0xFF) || decide (objDom p.1 = dom)) else []) s

/-- NVM_RESTORE (19 R408; 15 R333). -/
def execNvmRestore (r : Req) (dom : Nat) (bulk : Option Bulk) (s : State) : Host.Outcome State Fault Refusal :=
  .next (mbxRun (.nvmRestore r dom bulk) r 0x0A02 false (bodyNvmRestore r.slot dom bulk) s)

/-! ### NVM_ERASE_USER (19 R409) -/

/-- NVM_ERASE_USER (19 R409). -/
def bodyNvmEraseUser (confirm : Nat) (s : State) : State × Answer :=
  if confirm ≠ 0x4555 then reply s (badField 0)
  else if s.cal.nvmOp.isSome then reply s (busy (nvmSlot s))
  else ({ s with cal := { s.cal with nvmOp := some .erase } }, .later .nvmErase)

/-- NVM_ERASE_USER (19 R409). -/
def execNvmEraseUser (r : Req) (confirm : Nat) (s : State) : Host.Outcome State Fault Refusal :=
  .next (mbxRun (.nvmEraseUser r confirm) r 0x0A03 false (bodyNvmEraseUser confirm) s)

/-- A bank of region U whose erase was cut short holds a valid image or not: a free value (log 106). -/
def bankCut (s : State) (b : NvmBank) : NvmBank × State :=
  let q := takeFree s
  ({ b with valid := b.valid && decide (q.1 % 2 = 0) }, q.2)

/-- An NVM operation in progress ends: a store leaves the active bank in force (19 R407). -/
def endNvm (s : State) : State :=
  match s.cal.nvmOp with
  | some .erase =>
    let a := bankCut s s.cal.bank0
    let b := bankCut a.2 a.2.cal.bank1
    let t := b.2
    { t with cal := { t.cal with bank0 := a.1, bank1 := b.1, nvmOp := none } }
  | _ => { s with cal := { s.cal with nvmOp := none } }

/-- NVM_ERASE_DONE: both banks of region U are erased; one that fails is a failed write (19 R409; log 106). -/
def execNvmEraseDone (written : Bool) (s : State) : Host.Outcome State Fault Refusal :=
  match s.cal.nvmOp with
  | some .erase =>
    if written then
      let s := { s with cal := { s.cal with nvmOp := none, bank0 := bankBlank, bank1 := bankBlank } }
      .next (complete s .nvmErase okBare)
    else .next (complete (nvmError (endNvm s) regionU 0) .nvmErase (statusOnly stTimeout))
  | _ => .next s

end Sys2Proof.Machine
end

