-- ==== Sys2Proof/Machine/Purl.lean ====
section
/-! DEFINITION. Machine/Purl.lean: the commands and events of the Purl Link (16). -/

namespace Sys2Proof.Machine

/-! ### DETECT and TRAIN (16 R343 to R345) -/

/-- PL_DETECT_STEP: in DETECT a common-mode step goes out on every lane, every 100 µs (16 R343). -/
def execPlDetectStep (s : State) : Host.Outcome State Fault Refusal :=
  if s.purl.st = .detect ∧ s.purl.stepAt ≤ nowClk s then
    .next (modPurl s (fun x => { x with stepAt := x.stepAt + 100 * usTicks, steps := x.steps + 1 }))
  else .next s

/-- PL_PEER_STEP: the peer's step is seen on the lanes of a mask; on two or more of them the link enters TRAIN (16 R343,
R344). In any state after LOCK the peer's step means that the peer has gone to DETECT, and the link follows (16 R343). -/
def execPlPeerStep (lanes : Nat) (s : State) : Host.Outcome State Fault Refusal :=
  if popCount 4 lanes < 2 then .next s
  else
    match s.purl.st with
    | .detect => .next (enterTrain s)
    | .align => .next (linkFails s 0)
    | .caps => .next (linkFails s 0)
    | .active => .next (linkFails s 0)
    | _ => .next s

/-- PL_ACTIVITY_DETECTED: activity has been held for 80 µs on the lanes of a mask (16 R344). -/
def execPlActivityDetected (lanes : Nat) (s : State) : Host.Outcome State Fault Refusal :=
  if s.purl.st = .detect ∧ 2 ≤ popCount 4 lanes then .next (enterTrain s) else .next s

/-- PL_CTLE_STEP: the next step of the sweep ends, 0.1 ms + 0.2 ms × (k + 1) after entry, with the error counts of the four
lanes' checkers (16 R345). -/
def execPlCtleStep (errors : List Nat) (s : State) : Host.Outcome State Fault Refusal :=
  let k := s.purl.ctleStep
  if s.purl.st = .train ∧ k < 16 ∧ s.purl.since + 100 * usTicks + 200 * usTicks * (k + 1) ≤ nowClk s then
    let s := [0, 1, 2, 3].foldl (fun s l =>
      if errors[l]? = some 0 then modLane s l (fun x => { x with passed := x.passed ||| 2 ^ k }) else s) s
    .next (modPurl s (fun x => { x with ctleStep := k + 1 }))
  else .next s

/-- The runs of passing steps of a mask: first step and length, in order (16 R345). -/
def passRuns (mask : Nat) : List (Nat × Nat) :=
  (List.range 16).filterMap (fun i =>
    if mask.testBit i && (i = 0 || !mask.testBit (i - 1)) then
      some (i, ((List.range (16 - i)).takeWhile (fun j => mask.testBit (i + j))).length)
    else none)

/-- The CTLE step a lane settles at: the middle of its longest run, the lower one of two; among runs of equal length a free
choice (16 R345; log 98). -/
def settleStep (mask free : Nat) : Nat :=
  let rs := passRuns mask
  let best := maxN (rs.map (fun (r : Nat × Nat) => r.2))
  let longest := rs.filter (fun (r : Nat × Nat) => decide (r.2 = best))
  let r := nth (0, 0) longest (free % max 1 longest.length)
  r.1 + (r.2 - 1) / 2

/-- The usable lane set: all four, or {0, 1} or {2, 3} when PL_LANES_MIN = 2 (16 R345). -/
def usableSet (ok : List Nat) (least : Nat) : List Nat :=
  if ok.length = 4 then [0, 1, 2, 3]
  else if least ≠ 2 then []
  else if ok.contains 0 && ok.contains 1 then [0, 1]
  else if ok.contains 2 && ok.contains 3 then [2, 3] else []

/-- Every lane settles, by the sweep or at PL_CTLE_FIX (16 R345). -/
def settleLanes (s : State) : State :=
  let f := takeFree s
  let s := [0, 1, 2, 3].foldl (fun s l => modLane s l (fun x => { x with
    ctle := if s.purl.ctleFix = 0xFF then settleStep x.passed f.1 else s.purl.ctleFix })) f.2
  setP s 0x0B 0 lPL_CTLE_USED ((sumN ([0, 1, 2, 3].map (fun l => (rxLane s l).ctle % 16 * 16 ^ l)) : Nat) : Int)

/-- The block stream starts: LOCK (16 R342, R343). -/
def enterLock (s : State) (lanes : List Nat) : State :=
  setLink (modPurl s (fun x => { x with
    lanes := lanes, streamAt := nowClk s, markers := 0, nextBlock := 0, lfsr := [0, 0, 0, 0] })) .lock

/-- PL_TRAIN_END: 3.5 ms after entry into TRAIN; `offsetPpb` is the frequency offset measured, in 10⁻⁹ (16 R338, R343,
R345). -/
def execPlTrainEnd (offsetPpb : Nat) (s : State) : Host.Outcome State Fault Refusal :=
  if s.purl.st = .train ∧ s.purl.since + 3500 * usTicks ≤ nowClk s then
    if 20000 < offsetPpb then .next (linkFails s causeFreq)
    else
      let s := settleLanes s
      let lanes := usableSet ([0, 1, 2, 3].filter (fun l => decide ((rxLane s l).passed ≠ 0))) s.purl.lanesMin
      if lanes.isEmpty then .next (linkFails (purlRaise s 92 causeLanes) causeLanes) else .next (enterLock s lanes)
  else .next s

/-! ### LOCK and ALIGN (16 R342, R343) -/

/-- PL_BLOCK_LOCK: 64 consecutive valid headers on every lane of the set (16 R339, R343). -/
def execPlBlockLock (s : State) : Host.Outcome State Fault Refusal :=
  if s.purl.st = .lock then .next (setLink s .align) else .next s

/-- Does the transmitter run its block stream (16 Table 16-3)? -/
def streaming (s : State) : Bool :=
  (decide (s.purl.st = .lock) || decide (s.purl.st = .align) || decide (s.purl.st = .caps) || decide (s.purl.st = .active) ||
    decide (s.purl.st = .blocked)) && !s.purl.txIdle

/-- A stitch marker goes out on every active lane; the scramblers are loaded (16 R340, R342). -/
def sendMarker (s : State) : State :=
  modPurl s (fun x => { x with
    wire := (txLanes s).map (fun l => plainControl l (markerBytes l x.markers))
    markers := x.markers + 1, nextBlock := max 1 (x.nextBlock - 16384), lfsr := [0, 1, 2, 3].map laneSeed })

/-- PL_MARKER_SEND: block index 0 of the stream, and every 16,384 blocks of 65/6 ticks after it (16 R342). -/
def execPlMarkerSend (s : State) : Host.Outcome State Fault Refusal :=
  if streaming s && decide (65 * 16384 * s.purl.markers ≤ 6 * (nowClk s - s.purl.streamAt)) then .next (sendMarker s) else .next s

/-- PL_LANE_MAP: the logical lane of each physical lane, bit 3 when inverted (16 Table 16-7). -/
def laneMap (s : State) : Nat :=
  sumN ([0, 1, 2, 3].map (fun l =>
    let x := rxLane s l
    (if x.seen = 0 then 0 else x.logical % 8 + 8 * bitN x.inverted) * 16 ^ l))

/-- The largest skew between the markers of one count on the lanes of the set, TS72 units; none until every lane has it. -/
def laneSkew (s : State) : Option Nat :=
  let xs := s.purl.lanes.map (rxLane s)
  match xs with
  | [] => none
  | x :: _ =>
    if xs.all (fun y => decide (1 ≤ y.seen) && decide (y.count = x.count)) then
      some (maxN (xs.map (fun y => y.at_)) - (xs.map (fun y => y.at_)).foldl min x.at_)
    else none

/-- The link enters CAPS (16 R343, R347). -/
def enterCaps (s : State) : State :=
  setLink (modPurl s (fun x => { x with peerSeen := false, caps := [], capsAt := nowClk s, seq := 0 })) .caps

/-- Does a marker disagree with its lane's earlier ones, or stand out of place (16 R342)? -/
def markerBad (x : RxLane) (logical count blocks : Nat) : Bool :=
  decide (x.seen ≠ 0) &&
    (decide (logical ≠ x.logical) || (!x.resync && (decide (blocks ≠ 16384) || decide (count ≠ (x.count + 1) % 2 ^ 32))))

/-- A marker is taken: lane number, count, arrival, polarity; the descrambler is loaded (16 R340, R342). -/
def takeMarker (s : State) (lane logical count arrival : Nat) (inverted : Bool) : State :=
  let s := modLane s lane (fun x => { x with
    logical := logical, count := count, at_ := arrival, seen := x.seen + 1, inverted := inverted, resync := false
    lfsr := laneSeed logical })
  setP s 0x0B 0 lPL_LANE_MAP ((laneMap s : Nat) : Int)

/-- After a marker in ALIGN: skew above 20 ns fails, two markers on each lane of the set lead to CAPS (16 R343, Table
16-5). PL_SKEW is in 0.1 ns, 32 units of 3.125 ps. -/
def alignCheck (s : State) : State :=
  match laneSkew s with
  | none => s
  | some d =>
    let s := setP s 0x0B 0 lPL_SKEW ((roundDiv d 32 : Nat) : Int)
    if 6400 < d then linkFails s causeSkew
    else if s.purl.st = .align && s.purl.lanes.all (fun l => decide (2 ≤ (rxLane s l).seen)) then enterCaps s
    else s

/-- STITCH_MARKER_RX: a marker's payload arrives on a physical lane, `blocks` after that lane's previous one, at the TS72
`arrival`, its header inverted or not (16 R342, R352). -/
def execStitchMarkerRx (lane : Nat) (body : List Byte) (blocks arrival : Nat) (inverted : Bool) (s : State) :
    Host.Outcome State Fault Refusal :=
  let st := s.purl.st
  let on := decide (st = .align) || decide (st = .caps) || decide (st = .active)
  if !on || !s.purl.lanes.contains lane || fieldAt body 0 1 ≠ 4 then .next s
  else
    let logical := fieldAt body 1 1
    let count := fieldAt body 4 4
    if markerBad (rxLane s lane) logical count blocks then .next (linkFails s causeMarker)
    else
      let s := takeMarker s lane logical count arrival inverted
      .next (if st = .align then alignCheck s else s)

/-! ### Errors (16 R339, R341, R352) -/

/-- PL_HDR_ERRORS with one more error on a lane, each field saturating (16 Table 16-7). -/
def hdrErrors (s : State) (lane : Nat) : State :=
  let v := natP s 0x0B 0 lPL_HDR_ERRORS
  if v / 256 ^ lane % 256 = 255 then s else setP s 0x0B 0 lPL_HDR_ERRORS (((v + 256 ^ lane : Nat)) : Int)

/-- PL_INVALID_HEADER: a block with an invalid header or of an undefined control type on a lane; `again` says that the block
before it on the lane was one too (16 R352, Table 16-5). -/
def execPlInvalidHeader (lane : Nat) (again : Bool) (s : State) : Host.Outcome State Fault Refusal :=
  let st := s.purl.st
  let counts := decide (st = .lock) || decide (st = .align) || decide (st = .caps) || decide (st = .active) || decide (st = .blocked)
  if 3 < lane || !counts then .next s
  else
    let s := if snagArmed s 0x0060 lane then spendSnag s 0x0060 lane else s
    let s := quietIn (detect (hdrErrors s lane) { raiseBlank 91 with ins := lane }) 91 secTicks
    let s := modLane s lane (fun x => { x with
      run := if again then x.run + 1 else 1
      errs := (x.errs.filter (fun t => decide (nowClk s < t + msTicks))) ++ [nowClk s] })
    let x := rxLane s lane
    let answers := decide (st ≠ .blocked) && s.purl.lanes.contains lane
    if answers && decide (16 ≤ x.run) then .next (linkFails s causeLock)
    else if decide (st ≠ .blocked) && decide (natP s 0x0B 0 lPL_ERR_LIMIT < x.errs.length) then .next (linkFails s causeRate)
    else .next s

/-- PL_INVALID_PACKET: a packet fails its checks (16 R348). -/
def execPlInvalidPacket (s : State) : Host.Outcome State Fault Refusal :=
  if linkUp s || decide (s.purl.st = .blocked) then .next (discardPacket s) else .next s

/-- The timeout of a state, SCLK ticks; none: the state has none, or its end has its own event (16 Table 16-3). -/
def linkTimeout (st : LinkSt) : Option Nat :=
  match st with
  | .lock => some (300 * usTicks)
  | .align => some (400 * usTicks)
  | .caps => some (200 * usTicks)
  | _ => none

/-- PL_STATE_TIMEOUT: the state's timeout has run from entry into it (16 R343). Table 16-5 names no cause for it. -/
def execPlStateTimeout (s : State) : Host.Outcome State Fault Refusal :=
  match linkTimeout s.purl.st with
  | some t => if s.purl.since + t ≤ nowClk s then .next (linkFails s 0) else .next s
  | none => .next s

/-- PL_LOSS_TIMEOUT: no valid STATUS for PL_LOSS_TIME; with either unit in idle mode the time runs PL_IDLE_WAKE longer, from
the peer's last wake (16 R350, R352). -/
def execPlLossTimeout (s : State) : Host.Outcome State Fault Refusal :=
  let t := natP s 0x0B 0 lPL_LOSS_TIME * usTicks + (if s.purl.idleMode || s.purl.peerIdle then natP s 0x0B 0 lPL_IDLE_WAKE * usTicks else 0)
  if linkUp s && decide (s.purl.heardAt + t ≤ nowClk s) then .next (linkFails s causeSilent) else .next s

/-! ### CAPS (16 R346, R347) -/

/-- A CAPS goes out, a whole copy on every lane (16 R346). -/
def sendCaps (s : State) : State :=
  sendBytes s true (packetBytes 0x02 1 s.boot.unitId s.purl.seq (capsPayload s))

/-- PL_CAPS_SEND: in CAPS every 10 µs; after entering ACTIVE two further rounds, 10 µs apart (16 R347). -/
def execPlCapsSend (s : State) : Host.Outcome State Fault Refusal :=
  let due := decide (s.purl.capsAt ≤ nowClk s)
  if s.purl.st = .caps && due then
    .next (modPurl (sendCaps s) (fun x => { x with capsAt := x.capsAt + 10 * usTicks, seq := 0 }))
  else if canSend s && due && decide (0 < s.purl.capsLeft) then
    .next (modPurl (sendCaps s) (fun x => { x with capsAt := x.capsAt + 10 * usTicks, capsLeft := x.capsLeft - 1 }))
  else .next s

/-- Are the reserved fields of a CAPS payload zero (16 R346, R347)? -/
def capsClean (p : List Byte) : Bool :=
  decide (p.length = 32) && decide (fieldAt p 7 1 = 0) && decide (fieldAt p 21 11 = 0)

/-- Is a valid CAPS incompatible (16 R347)? -/
def capsAlien (s : State) (p : List Byte) : Bool :=
  decide (fieldAt p 1 1 ≠ 1) || decide (fieldAt p 2 2 ≠ Config.ckptVer % 65536) || decide (fieldAt p 4 1 = s.boot.unitId) ||
    decide (fieldAt p 10 2 ≠ 0x6420)

/-- The lanes that both directions have aligned, as logical lanes (16 R347). -/
def commonLanes (mine peers : Nat) : List Nat :=
  if mine = 15 && peers = 15 then [0, 1, 2, 3]
  else if mine % 4 = 3 && peers % 4 = 3 then [0, 1]
  else if mine / 4 % 4 = 3 && peers / 4 % 4 = 3 then [2, 3] else []

/-- A compatible CAPS is accepted; with PEER_SEEN = 1 the link enters ACTIVE (16 R347). -/
def takeCaps (s : State) (p : List Byte) : State :=
  let s := modPair s (fun x => { x with peerEpoch := fieldAt p 16 4 })
  let s := modPurl s (fun x => { x with peerSeen := true, caps := p })
  let lanes := commonLanes (rxAligned s) (fieldAt p 6 1)
  if lanes.isEmpty then linkFails (purlRaise s 92 causeLanes) causeLanes
  else if fieldAt p 5 1 = 1 then enterActive s lanes else s

/-- CAPS_RX: a CAPS packet is received; `clean` says that no block of it had an invalid header (16 R346, R347, R352). -/
def execCapsRx (packet : List Byte) (clean : Bool) (s : State) : Host.Outcome State Fault Refusal :=
  let ok := packetOk packet clean && decide (fieldAt packet 7 1 = 2)
  let p := packetPayload packet
  match s.purl.st with
  | .caps =>
    if fieldAt packet 6 1 % 2 = 0 then .next s
    else if !ok || !capsClean p then .next (rejectCaps s)
    else if capsAlien s p then .next (toBlocked s)
    else .next (takeCaps s p)
  | .active =>
    if !ok then .next (discardPacket s)
    else if decide (nowClk s ≤ s.purl.since + 50 * usTicks) && decide (p = s.purl.caps) then
      .next (ckptPasses s (fieldAt packet 12 4))
    else .next (rejectCaps s)
  | .blocked => if !ok then .next (discardPacket s) else .next s
  | _ => .next s

/-! ### STATUS (16 R349, R353) -/

/-- PL_STATUS_SEND: every PL_STATUS_PERIOD in ACTIVE and BLOCKED (16 R349). -/
def execPlStatusSend (s : State) : Host.Outcome State Fault Refusal :=
  if (canSend s || decide (s.purl.st = .blocked)) && decide (s.purl.statusAt ≤ nowClk s) then .next (sendStatus s) else .next s

/-- PL_LINK_DELAY and PL_PEER_OFFSET of a STATUS that echoes one of this unit's (16 R349). -/
def linkTimes (s : State) (p : List Byte) (t4 : Nat) : State :=
  let t3 := fieldAt p 0 12
  let t1 := fieldAt p 12 12
  let t2 := fieldAt p 24 12
  if t1 = 0 && t2 = 0 then s
  else
    let d := roundDivI (tsDiff t4 t1 - tsDiff t3 t2) 2
    let o := roundDivI (tsDiff t2 t1 + tsDiff t3 t4) 2
    setP (setP s 0x0B 0 lPL_LINK_DELAY d) 0x0B 0 lPL_PEER_OFFSET (satS 32 o)

/-- A claim out of turn: ignored, counted, HOLD sent, source 94 (16 R353). -/
def claimOutOfTurn (s : State) : State :=
  let s := quietIn (detectSrc (bumpP s 0x0B 0 lPL_CLAIMS_IGNORED) 94) 94 secTicks
  modPair s (fun x => { x with holdSent := true })

/-- A takeover by the peer: this unit leaves the fibre (17 R358). -/
def takenOver (s : State) : State := setRole s (if pairCause s then .faulted else .standby)

/-- What the times of the last STATUS with a role are, and the contradiction of R366 (17 R360, R366). -/
def noteStatus (s : State) (p : PeerStatus) : State :=
  let fibre := decide (2 ≤ p.role) && decide (p.role ≤ 4)
  let contra := decide (p.role = 2) && waveAbsent s
  modPair s (fun x => { x with
    peer := some p, peerEpoch := p.epoch
    activeAt := if p.role = 2 then some (nowClk s) else x.activeAt
    fibreAt := if fibre then some (nowClk s) else x.fibreAt
    wiringSince := if contra then some (x.wiringSince.getD (nowClk s)) else none
    holdSent := x.holdSent && decide (p.role = 2) })

/-- A swap ends as the peer's STATUS tells (17 R373). -/
def swapHeard (s : State) (p : PeerStatus) : State :=
  let swapOver := fun (s : State) (r : Reply) =>
    complete (modPair s (fun x => { x with swapEnd := none, release := false })) .pairSwap r
  match s.pair.swapEnd with
  | none => s
  | some t =>
    if s.pair.role = .standby && s.pair.release then
      if p.role = 2 then swapOver s (okWith (leBytes 4 p.epoch))
      else if p.role = 5 then swapOver s (statusOnly stAborted) else s
    else if t ≤ nowClk s && decide (s.pair.role ≠ .claiming) && decide (s.pair.role ≠ .releasing) then
      swapOver s (statusOnly stAborted)
    else s

/-- A valid STATUS of the accepted peer (16 R349, R353; 17 R358, R366, Table 17-7). -/
def takeStatus (s : State) (p : List Byte) (arrival : Nat) : State :=
  let st : PeerStatus := ⟨fieldAt p 40 1, fieldAt p 43 1, fieldAt p 36 4, decide (fieldAt p 42 1 = 1), nowClk s⟩
  let s := linkTimes s p arrival
  let s := modPurl s (fun x => { x with echo := some (fieldAt p 0 12, arrival), heardAt := nowClk s, peerIdle := false })
  let own := epochOf s
  if !pairOn s then modPair s (fun x => { x with peer := some st, peerEpoch := st.epoch })
  else
    let s := noteStatus s st
    let s := if st.role = 1 && healthReady st.health then clearIf s 30 else s
    let s := if s.pair.wiringSince.isNone && isLive s 118 && (srcRec s 118).quietAt.isNone then quietIn s 118 secTicks
      else if s.pair.wiringSince.isSome then quietSet s 118 none else s
    let s := if s.pair.role = .active && st.role = 2 && st.epoch ≤ own then claimOutOfTurn s
      else if s.pair.role = .active && (st.role = 2 || st.role = 3) && own < st.epoch then takenOver s else s
    swapHeard s st

/-- STATUS_RX: a STATUS packet arrives at a TS72 (16 R348, R349, R352, R353). -/
def execStatusRx (packet : List Byte) (clean : Bool) (arrival : Nat) (s : State) : Host.Outcome State Fault Refusal :=
  if !(linkUp s || decide (s.purl.st = .blocked)) then .next s
  else if !packetOk packet clean || fieldAt packet 7 1 ≠ 1 || packetLen packet ≠ 48 then .next (discardPacket s)
  else
    let p := packetPayload packet
    if linkUp s && decide (fieldAt p 41 1 ≠ fieldAt s.purl.caps 4 1) then .next (rejectCaps s)
    else .next (takeStatus (ckptPasses s (fieldAt packet 12 4)) p arrival)

/-! ### Electrical idle (16 R350) -/

/-- Time of 256 EXIT blocks, of 65 bits each, on a lane (16 R350). -/
def exitTicks : Nat := ceilDiv (256 * 65) 6

/-- What each lane sends first when it wakes: 256 EXIT blocks and a marker (16 R350). -/
def wakeBlocks (s : State) : List Block :=
  ((List.range 256).map (fun _ => (txLanes s).map (fun l => plainControl l exitBytes))).flatten ++
    (txLanes s).map (fun l => plainControl l (markerBytes l 0))

/-- PL_IDLE_WAKE: a packet waits, or PL_IDLE_WAKE has passed since the last wake: 256 EXIT blocks, a marker, a STATUS and the
waiting packets (16 R350). -/
def execPlIdleWake (s : State) : Host.Outcome State Fault Refusal :=
  let x := s.purl
  if x.txIdle && (!x.waiting.isEmpty || decide (x.wokeAt + natP s 0x0B 0 lPL_IDLE_WAKE * usTicks ≤ nowClk s)) then
    let s := modPurl s (fun x => { x with
      txIdle := false, wokeAt := nowClk s, lastPacket := nowClk s, sent := x.waiting, waiting := []
      streamAt := nowClk s + exitTicks, markers := 0, nextBlock := 0 })
    let s := sendStatus (sendMarker s)
    .next (modPurl s (fun x => { x with
      wire := wakeBlocks s ++ x.wire }))
  else .next s

/-- Four block sets of IDLE_ENTER, then electrical idle (16 R350; log 193). -/
def goIdle (s : State) : State :=
  let idx := max s.purl.nextBlock (blocksNow s)
  modPurl s (fun x => { x with
    txIdle := true
    wire := ((List.range 4).map (fun i => x.chosen.map (fun l => controlBlock l (idx + i) 5))).flatten })

/-- PL_IDLE_HOLD_EXPIRY: PL_IDLE_HOLD has passed with no packet other than STATUS (16 R350). -/
def execPlIdleHoldExpiry (s : State) : Host.Outcome State Fault Refusal :=
  if linkUp s && s.purl.idleMode && !s.purl.txIdle &&
      decide (s.purl.lastPacket + natP s 0x0B 0 lPL_IDLE_HOLD * usTicks ≤ nowClk s) then
    .next (goIdle s)
  else .next s

/-- EXIT_RX: the peer's fast-exit burst; a receiver not aligned within 10 µs of its end goes to DETECT (16 R350). -/
def execExitRx (relocked : Bool) (s : State) : Host.Outcome State Fault Refusal :=
  if !linkUp s then .next s
  else if !relocked then .next (linkFails s 0)
  else
    let s := s.purl.lanes.foldl (fun s l => modLane s l (fun x => { x with resync := true })) s
    .next (modPurl s (fun x => { x with peerIdle := false, heardAt := nowClk s }))

/-- IDLE_ENTER_RX: the peer's transmitter goes idle (16 R350). -/
def execIdleEnterRx (s : State) : Host.Outcome State Fault Refusal :=
  if linkUp s then .next (modPurl s (fun x => { x with peerIdle := true })) else .next s

/-! ### Commands (16 R351) -/

/-- ACTION 2: idle mode; outside ACTIVE and IDLE no effect (16 R350). -/
def linkIdle (s : State) : State :=
  if linkUp s && !s.purl.txIdle then modPurl (goIdle s) (fun x => { x with idleMode := true, wokeAt := nowClk s }) else s

/-- PAIR_LINK (16 R350, R351; 17 R360). -/
def bodyPairLink (action : Nat) (s : State) : State × Answer :=
  if 2 < action then reply s (badField 0)
  else match slotWaiting s .pairLink with
    | some k => reply s (busy k)
    | none =>
      if action = 0 then
        if standbyRefuses s 0x0B04 then reply s (statusOnly stPeerActive) else
          (modPurl (linkDown s) (fun x => { x with retrainAt := none }), .later .pairLink)
      else if action = 1 then (modPurl (linkRetrain s) (fun x => { x with retrainAt := some (nowClk s + 5000 * usTicks) }), .later .pairLink)
      else (modPurl (linkIdle s) (fun x => { x with retrainAt := none }), .later .pairLink)

/-- A PAIR_LINK of ACTION 0 or 2 completes at once. -/
def pairLinkSettle (action : Nat) (s : State) : State :=
  if action = 1 then s else if s.purl.retrainAt.isSome then s else complete s .pairLink (okWith (leBytes 1 (linkCode s)))

/-- PAIR_LINK (16 R351). -/
def execPairLink (r : Req) (action : Nat) (s : State) : Host.Outcome State Fault Refusal :=
  .next (pairLinkSettle action (mbxRun (.pairLink r action) r 0x0B04 false (bodyPairLink action) s))

/-- PAIR_LINK_TIMEOUT: 5.0 ms after a retrain was accepted; the link keeps trying (16 R351). -/
def execPairLinkTimeout (s : State) : Host.Outcome State Fault Refusal :=
  match s.purl.retrainAt with
  | none => .next s
  | some t =>
    if t ≤ nowClk s then
      let s := modPurl s (fun x => { x with retrainAt := none })
      .next (complete s .pairLink { statusOnly stTimeout with payload := leBytes 1 (linkCode s) })
    else .next s

end Sys2Proof.Machine
end

