-- ==== Sys2Proof/Machine/Dechirp.lean ====
section
/-! DEFINITION. Machine/Dechirp.lean: from raw codes to stitch-samples: slice correction, channel delay, hybrid correction, ply
channeliser, matched filter and stitch resampler (03 R52 to R73). -/

namespace Sys2Proof.Machine

/-! ### Slice correction and channel delay (03 R54 to R56, R60, R64) -/

/-- What is in force on a channel at a tick (03 R56). -/
def setAt (a : AdcChan) (tick : Nat) : SlotSet :=
  match a.sets.find? (fun e => decide (e.from_ ≤ tick)) with
  | some e => e
  | none => (a.sets.getLast?).getD slotSetBlank

/-- The slice that takes the sample of a tick (03 R54). -/
def sliceAt (a : AdcChan) (tick : Nat) : Nat := nth 0 (setAt a tick).map (tick % 16)

/-- The raw code of a channel at a tick; free where no command has brought it (log 51). -/
def codeAt (s : State) (p c tick : Nat) : Int :=
  match (portOf s p).codes.find? (fun q => q.1 = tick) with
  | some q => satS 12 (nth 0 q.2 c)
  | none => satS 12 (Config.rawCode p c tick)

/-- v of a raw code: offset and gain applied (03 R55). -/
def sliceGain (f : SliceFactors) (code : Int) : Int := roundDivI ((16 * code - f.ofs) * f.gain) 16384

/-- y of a sample from v and its neighbours' v (03 R55). -/
def sliceSkew (f : SliceFactors) (v before after : Int) : Int :=
  satS 16 (v + roundDivI (f.skew * (after - before)) 131072)

/-- The factors of the sample of a tick. -/
def factorsAt (a : AdcChan) (tick : Nat) : SliceFactors := nth (sliceUnity 0) (setAt a tick).facs (tick % 16)

/-- v of the sample of a tick. -/
def gainAt (s : State) (p c tick : Nat) : Int := sliceGain (factorsAt (adcOf s p c) tick) (codeAt s p c tick)

/-- y of the sample of a tick. -/
def skewAt (s : State) (p c tick : Nat) : Int :=
  sliceSkew (factorsAt (adcOf s p c) tick) (gainAt s p c tick) (gainAt s p c (tick - 1)) (gainAt s p c (tick + 1))

/-- The corrected word of a tick; an interpolated slot takes the mean of its corrected neighbours (03 R60). -/
def correctedAt (s : State) (p c tick : Nat) : Int :=
  if (setAt (adcOf s p c) tick).interp.contains (tick % 16) then
    roundDivI (skewAt s p c (tick - 1) + skewAt s p c (tick + 1)) 2
  else skewAt s p c tick

/-- The word of a tick after channel delay, from the sixteen words round it (03 R64; log 41). -/
def delayedAt (s : State) (p c tick : Nat) : Int :=
  satS 16 (Config.chanDelay (getP s 0x03 p (pRX_CH_DELAY + c))
    ((List.range 16).map (fun j => correctedAt s p c (tick + j - 7))))

/-- The raw-tap words of a tick, one for each channel (03 R61). -/
def tapAt (s : State) (p tick : Nat) : Nat × List Int := (tick, (List.range 4).map (fun c => delayedAt s p c tick))

/-- A tick's word needs the codes up to this many ticks later: eight taps of the delay, one neighbour of an interpolated slot, one of
the timing correction. -/
abbrev tapLag : Nat := 10

/-! ### Codes arrive (03 R61, R62) -/

/-- Words that the tap keeps: the 16 MiB look-back ring of a channel (03 R61, 07 R160). -/
abbrev tapKeep : Nat := 8388608

/-- Codes that are kept: the monitor's 4,096 samples of every slot, the same again for evaluations that come late, and the
corrections' neighbours (03 R57). -/
abbrev codesKeep : Nat := 131136

/-- The last `n` of a list. -/
def lastN {α : Type} (n : Nat) (xs : List α) : List α := xs.drop (xs.length - n)

/-- The raw codes with those of a slice under a SLICE_STUCK snag replaced (18 Table 18-5). -/
def stuckCodes (s : State) (p : Nat) (codes : List (Nat × List Int)) : List (Nat × List Int) :=
  match snagOf s 0x0020 p with
  | some g =>
    if g.endAt.isNone then codes
    else
      let c := g.sub / 256
      let a := adcOf s p c
      codes.map (fun q => if sliceAt a q.1 = g.sub % 256 then (q.1, setNth q.2 c g.value) else q)
  | none => codes

/-- Codes of consecutive ticks from `from_` on, those already brought left out. -/
def freshCodes (x : Port) (from_ : Nat) (codes : List (List Int)) : List (Nat × List Int) :=
  let next := match x.codes.getLast? with
    | some q => q.1 + 1
    | none => 0
  (List.zipWith (fun i cs => (from_ + i, cs)) (List.range codes.length) codes).filter (fun q => decide (next ≤ q.1))

/-- Ticks and polarisations of the clipped codes of a run (03 R62). -/
def clipsOf (codes : List (Nat × List Int)) : List (Nat × Nat) :=
  (codes.map (fun q =>
    (List.range 4).filterMap (fun c =>
      let v := nth 0 q.2 c
      if v ≤ -2048 || 2047 ≤ v then some (q.1, c / 2) else none))).flatten

/-- The tap grows by the words whose codes are now complete (03 R61). -/
def growTap (s : State) (p first last : Nat) (keepAll : Bool) : State :=
  let x := portOf s p
  let next := match x.tap.getLast? with
    | some q => q.1 + 1
    | none => 0
  let a := max next (first - tapLag)
  let words := (List.range (last + 1 - tapLag - a)).map (fun i => tapAt s p (a + i))
  modPort s p (fun x => { x with
    tap := if keepAll then x.tap ++ words else lastN tapKeep (x.tap ++ words)
    hybAt := if x.hybAt.isNone && !words.isEmpty then some a else x.hybAt })

/-- Raw codes of a port arrive, the four channels' at each of consecutive ticks: clips counted and remembered, the tap extended
(03 R54, R61, R62). -/
def takeCodes (s : State) (p from_ : Nat) (codes : List (List Int)) : State :=
  let new := stuckCodes s p (freshCodes (portOf s p) from_ codes)
  match new.head?, new.getLast? with
  | some f, some l =>
    let clipped := clipsOf new
    let capturing := !(skeinsWith (fun k => (skOf s k).cap.isSome && skRaw (skview s k) && decide (skPort s (skview s k) = p))).isEmpty
    let s := addP s 0x03 p pADC_CLIP clipped.length
    let s := modPort s p (fun x => { x with
      codes := lastN codesKeep (x.codes ++ new)
      clips := x.clips ++ clipped
      clipNow := x.clipNow + clipped.length
      rawNow := x.rawNow + 4 * new.length })
    growTap s p f.1 l.1 capturing
  | _, _ => s

/-! ### Hybrid correction (03 R65) -/

/-- The corrected pair i', q' of one polarisation (03 R65). -/
def hybridPair (h : Hyb) (i q : Int) : Int × Int :=
  (satS 16 (i - h.mI), satS 16 (roundDivI ((32768 + h.g) * (q - h.mQ) + h.p * (i - h.mI)) 32768))

/-- The terms in force at a tick: of X, of Y (03 R65). -/
def hybAtTick (x : Port) (tick : Nat) : Hyb × Hyb :=
  match x.hybPast.find? (fun e => decide (e.1 ≤ tick)) with
  | some e => e.2
  | none => (x.hybX, x.hybY)

/-- The corrected pair of a polarisation from the four raw-tap words of a tick. -/
def pairOfWords (h : Hyb × Hyb) (y : Bool) (ws : List Int) : Int × Int :=
  if y then hybridPair h.2 (nth 0 ws 2) (nth 0 ws 3) else hybridPair h.1 (nth 0 ws 0) (nth 0 ws 1)

/-- The raw-tap words of a tick; free where the tap does not hold them (07 R163; log 51). -/
def tapWordsAt (x : Port) (tick : Nat) : List Int :=
  match x.tap.find? (fun q => q.1 = tick) with
  | some q => q.2
  | none => (List.range 4).map (fun c => satS 16 (Config.rawWord c tick))

/-- The corrected complex sample of a polarisation at a tick (03 R65). -/
def iqAt (x : Port) (y : Bool) (tick : Int) : Int × Int :=
  pairOfWords (hybAtTick x tick.toNat) y (tapWordsAt x tick.toNat)

/-! ### Ply channeliser, matched filter, resampler (03 R67 to R73) -/

/-- A complex word of 18-bit components, and whether a component of it, or of a word it was formed from, saturated. -/
structure Word2 where
  re : Int
  im : Int
  sat : Bool
  deriving DecidableEq, Repr

/-- A complex word saturated to 18 bits (03 Table 03-1). -/
def word18 (re im : Int) (sat : Bool) : Word2 := ⟨satS 18 re, satS 18 im, sat || ovfS 18 re || ovfS 18 im⟩

/-- The NCO's phase `n` ticks after T0 of its launch, 32 bits; before T0 it runs from the launch of the ply before (03 R67, R68; log
161). -/
def ncoPhase (v : PlanView) (l : Launch) (n : Int) : Nat :=
  let back : Int := match l.t0Prev with
    | some t => tsDiff l.t0 t / 256
    | none => 0
  bitsOf 32 ((ncoWord (planP_ v) l.ply : Int) * (if n < 0 then n + back else n))

/-- A sample shifted by −f_j: the product with the 18-bit cosine and sine of the NCO's phase (03 R67; log 161). -/
def ncoMix (v : PlanView) (l : Launch) (x : Port) (y : Bool) (n : Int) : Int × Int :=
  let q := iqAt x y ((tickOf l.t0 : Int) + n)
  let cs := cisTurn (ncoPhase v l n : Nat) (2 ^ 32)
  let c := roundDivI (131071 * cs.1) fx
  let d := roundDivI (131071 * cs.2) fx
  (q.1 * c - q.2 * d, q.1 * d + q.2 * c)

/-- Ply sample `m` of a launch, one every P ticks from T0 on (03 R67, R68). -/
def plySample (v : PlanView) (l : Launch) (x : Port) (y : Bool) (m : Int) : Word2 :=
  let p := planP_ v
  if p = 1 then
    let q := iqAt x y ((tickOf l.t0 : Int) + m)
    word18 (4 * q.1) (4 * q.2) false
  else
    let xs := (List.range (32 * p)).map (fun (i : Nat) => ncoMix v l x y (m * (p : Int) - 16 * (p : Int) + (i : Int)))
    word18 (Config.plyFilter p (xs.map (fun q => q.1))) (Config.plyFilter p (xs.map (fun q => q.2))) false

/-- round(acc / 2^S) for echo-start position `m`, the reference read backwards on the ply samples from `m` on, and whether a ply
sample saturated (03 R69 to R71; log 164). -/
def filterAcc (v : PlanView) (l : Launch) (x : Port) (y : Bool) (m : Int) : Int × Int × Bool :=
  let len := planRef v
  let terms := (List.range len).map (fun u =>
    let r := refCoef v (len - 1 - u)
    let w := plySample v l x y (m + (u : Int))
    (r.1 * w.re - r.2 * w.im, r.1 * w.im + r.2 * w.re, w.sat))
  let cut := fun (n : Int) => roundDivI n (2 ^ planShift v)
  (cut (sumI (terms.map (fun t => t.1))), cut (sumI (terms.map (fun t => t.2.1))), terms.any (fun t => t.2.2))

/-- The matched filter's output (03 R70). -/
def filterOut (v : PlanView) (l : Launch) (x : Port) (y : Bool) (m : Int) : Word2 :=
  let a := filterAcc v l x y m
  word18 a.1 a.2.1 a.2.2

/-- x_s × 256 P: d + ORIGIN_TICKS + s × k + δ in 1/256 tick (03 R73). -/
def stitchPos (v : PlanView) (shift : Nat) (l : Launch) (k : Nat) : Int :=
  tsDiff l.tL l.t0 + (tk (vn v pORIGIN_TICKS + k * planK v + shift) : Nat)

/-- The whole part of x_s and the phase, one of 64 (03 R73). -/
def stitchTap (v : PlanView) (shift : Nat) (l : Launch) (k : Nat) : Int × Nat :=
  let den : Int := 256 * (planP_ v : Int)
  let pos := stitchPos v shift l k
  let ph := (roundDivI (64 * (pos % den)) den).toNat
  if ph = 64 then (pos / den + 1, 0) else (pos / den, ph)

/-- The filter outputs that a stitch is interpolated from, seven before x_s to eight after (03 R73). -/
def stitchInputs (v : PlanView) (shift : Nat) (l : Launch) (x : Port) (y : Bool) (k : Nat) : List Word2 :=
  let q := stitchTap v shift l k
  (List.range 16).map (fun (i : Nat) => filterOut v l x y (q.1 - 7 + (i : Int)))

/-- The stitch-sample of a polarisation (03 R73; log 161). -/
def stitchWord (v : PlanView) (shift : Nat) (l : Launch) (x : Port) (y : Bool) (k : Nat) : Word2 :=
  let ws := stitchInputs v shift l x y k
  let ph := (stitchTap v shift l k).2
  word18 (Config.stitchFilter ph (ws.map (fun w => w.re))) (Config.stitchFilter ph (ws.map (fun w => w.im)))
    (ws.any (fun w => w.sat))

/-- The positions of the filter outputs that a row uses (03 R70; log 164). -/
def rowOutputs (v : PlanView) (shift : Nat) (l : Launch) : List Int :=
  let a := (stitchTap v shift l 0).1 - 7
  let b := (stitchTap v shift l (planN_ v - 1)).1 + 8
  (List.range (b + 1 - a).toNat).map (fun (i : Nat) => a + (i : Int))

/-- Does the matched filter saturate at an output (03 R70)? -/
def filterSat (v : PlanView) (l : Launch) (x : Port) (y : Bool) (m : Int) : Bool :=
  let a := filterAcc v l x y m
  ovfS 18 a.1 || ovfS 18 a.2.1

/-- Saturated filter outputs of a row, both polarisations (03 R70). -/
def rowSats (v : PlanView) (shift : Nat) (l : Launch) (x : Port) : Nat :=
  sumN ((rowOutputs v shift l).map (fun m => bitN (filterSat v l x false m) + bitN (filterSat v l x true m)))

end Sys2Proof.Machine
end

