-- ==== Sys2Proof/Machine/Receive.lean ====
section
/-! DEFINITION. Machine/Receive.lean: the events of the coherent receivers and the de-chirp engine: rows of stitch-samples with their
flags, the break detector, slices and their repair, the hybrid estimator, the rates (03; 01 R30 to R32). -/

namespace Sys2Proof.Machine

/-! ### Flags of a stitch-sample (03 R59, R74) -/

/-- The input span of stitch `k` of a launch, from t_s − h to t_s + τ + h, in TS72 units (03 R59). -/
def spanOf (s : State) (p : Nat) (l : Launch) (k : Nat) : Int × Int :=
  let v := pv s p
  let t : Int := (l.tL + tk (vn v pORIGIN_TICKS + k * planK v + gridShift s p) : Nat)
  (t - planH v, t + planTauTs v + planH v)

/-- Does a span meet the samples from tick `a` up to tick `b` (none: open)? -/
def meets (sp : Int × Int) (a : Nat) (b : Option Nat) : Bool :=
  decide ((tk a : Int) ≤ sp.2) && (match b with | some e => decide (sp.1 < (tk e : Int)) | none => true)

/-- Is a span of a polarisation invalid: suspect interval, foreground calibration, or start of the stream (03 R58, R74,
R76)? -/
def spanBad (s : State) (p : Nat) (y : Bool) (sp : Int × Int) : Bool :=
  let cs := if y then [2, 3] else [0, 1]
  decide (sp.1 < ((portOf s p).firstLaunch : Int)) ||
    cs.any (fun c =>
      let a := adcOf s p c
      a.suspect.any (fun i => meets sp i.1 i.2) || a.fgPast.any (fun i => meets sp i.1 (some i.2)) ||
        (match a.fgSince with | some t => meets sp t none | none => false))

/-- Does a span hold a clipped sample of a polarisation (03 R62)? -/
def spanClipped (x : Port) (y : Bool) (sp : Int × Int) : Bool :=
  x.clips.any (fun c => decide (c.2 = bitN y) && decide (sp.1 ≤ (tk c.1 : Int)) && decide ((tk c.1 : Int) ≤ sp.2))

/-- Stitch-sample `k` of a row with its flags (03 R73, R74). -/
def stitchOf (s : State) (p : Nat) (l : Launch) (k : Nat) : Stitch :=
  let sp := spanOf s p l k
  let x := portOf s p
  let v := pv s p
  let zx := stitchWord v (gridShift s p) l x false k
  let zy := stitchWord v (gridShift s p) l x true k
  ⟨zx.re, zx.im, zy.re, zy.im,
    bitN (spanBad s p false sp) + 2 * bitN (spanBad s p true sp) + 4 * bitN (zx.sat || spanClipped x false sp) +
      8 * bitN (zy.sat || spanClipped x true sp)⟩

/-- The N stitch-samples of a row (03 R74). -/
def rowStitches (s : State) (p : Nat) (l : Launch) : List Stitch :=
  (List.range (planN_ (pv s p))).map (stitchOf s p l)

/-- Flags of a row, Table 03-4 bits 6..4 (03 R74). -/
def rowFlags (s : State) (p : Nat) (l : Launch) : Nat :=
  16 * bitN l.missing + 32 * bitN (decide (l.planShot < 2)) +
    64 * bitN ((List.range 4).any (fun c => !(adcOf s p c).interp.isEmpty))

/-! ### Break detection (01 R30 to R32) -/

/-- Is `x` at least `drop` tenths of a dB below `ref`? -/
def dropped (drop : Nat) (x ref : Rat) : Bool := decide (10 ^ drop * x ^ 100 ≤ ref ^ 100) && decide (0 < ref)

/-- Is `x` within 3 dB of `ref`? -/
def within3 (x ref : Rat) : Bool := decide (ref ^ 10 ≤ 1000 * x ^ 10) && decide (x ^ 10 ≤ 1000 * ref ^ 10)

/-- The running sums of a list, starting with 0. -/
def prefixes (acc : Rat) : List Rat → List Rat
  | [] => [acc]
  | x :: xs => acc :: prefixes (acc + x) xs

/-- The sum over stitches `a` to `b − 1`. -/
def spanSum (pre : List Rat) (a b : Nat) : Rat := nth 0 pre b - nth 0 pre a

/-- The first element of a list for which a test holds. -/
def firstWith (f : Nat → Bool) (xs : List Nat) : Option Nat := xs.find? f

/-- The candidate s_b of a row (01 R30). -/
def breakCandidate (drop : Nat) (xs ref : List Rat) : Option Nat :=
  let n := xs.length
  let px := prefixes 0 xs
  let pr := prefixes 0 ref
  let wEnd := fun (w : Nat) => min n (w + 64)
  let low := fun (w : Nat) => dropped drop (spanSum px w (wEnd w)) (spanSum pr w (wEnd w))
  match firstWith low (List.range (n - 7)) with
  | none => none
  | some w =>
    let a := w - 64
    if 8 ≤ w && within3 (spanSum px a w) (spanSum pr a w) then
      let dark := fun (i : Nat) => dropped drop (nth 0 xs i) (nth 0 ref i)
      let sb := ((List.range (wEnd w - w)).map (fun i => w + i)).find? (fun i =>
        ((List.range (wEnd w - i)).map (fun j => i + j)).all dark)
      match sb with
      | some i => if i + 8 ≤ n then some i else none
      | none => none
    else none

/-- Are all windows that start at or after the break back within 3 dB (01 R32)? -/
def breakRecovered (sb : Nat) (xs ref : List Rat) : Bool :=
  let n := xs.length
  let px := prefixes 0 xs
  let pr := prefixes 0 ref
  ((List.range (n - 7)).filter (fun w => decide (sb ≤ w))).all (fun w =>
    within3 (spanSum px w (min n (w + 64))) (spanSum pr w (min n (w + 64))))

/-- The reference profile after a row; stitches from a break on are frozen (01 R30, R32). -/
def learn (v : PlanView) (brk : Option Break) (ref xs : List Rat) : List Rat :=
  if ref.isEmpty then xs
  else
    let a : Rat := (planShot v : Rat) / (planP_ v * vn v pBREAK_TAU * 10 ^ 13 : Nat)
    let lim := match brk with | some b => b.stitch | none => xs.length
    (List.range xs.length).map (fun i =>
      let r := nth 0 ref i
      if i < lim then r + (nth 0 xs i - r) * a else r)

/-- BREAK_DECLARED: a candidate is confirmed in the next row; a nearer one replaces a break that is present, and is raised too (01
R31, R32). -/
def breakDeclared (s : State) (p sb firstTick : Nat) : State :=
  let s := modPort s p (fun x => { x with det := { x.det with brk := some ⟨sb, nowTs s, 0⟩, cand := none } })
  detect (onBreak s p) (portRaise (16 + p) p sb firstTick)

/-- BREAK_END: the windows beyond recover in two rows (01 R32). -/
def breakEnded (s : State) (p : Nat) : State :=
  let sb := breakStitch (portOf s p).det
  clearIf (modPort s p (fun x => { x with det := { x.det with brk := none, cand := none, healed := some sb } })) (16 + p)

/-- The break detector sees a row (01 R30 to R32). -/
def breakRow (s : State) (p : Nat) (l : Launch) (zs : List Stitch) : State :=
  let v := pv s p
  if vn v pBREAK_ENABLE ≠ 1 then s
  else
    let xs := zs.map (fun z => (power z : Rat))
    let det := (portOf s p).det
    let lim := match det.brk with | some b => b.stitch | none => xs.length
    let cand := if det.armed && !det.ref.isEmpty then
      (breakCandidate (vn v pBREAK_DROP) xs det.ref).filter (fun c => decide (c < lim)) else none
    let good := match det.brk with
      | some b => if breakRecovered b.stitch xs det.ref then b.good + 1 else 0
      | none => 0
    let s := modPort s p (fun x => { x with det := { x.det with
      ref := learn v det.brk det.ref xs
      cand := cand.map (fun c => (c, tickOf l.tL))
      brk := det.brk.map (fun b => { b with good := good })
      healed := none } })
    match det.cand, cand with
    | some old, some new => if old.1 = new then breakDeclared s p new old.2 else s
    | _, _ => if det.brk.isSome && decide (2 ≤ good) then breakEnded s p else s

/-- BREAK_DETECTOR_ARM: shot 64 of the plan has launched (01 R30). -/
def execBreakDetectorArm (port : Nat) (s : State) : Host.Outcome State Fault Refusal :=
  let x := portOf s port
  if getP s 0x03 port pBREAK_ENABLE = 1 ∧ x.st = .running ∧
      (65 < x.planShots ∨ (x.planShots = 65 ∧ 0 < x.plyNext)) ∧ !x.det.armed then
    .next (modPort s port (fun x => { x with det := { x.det with armed := true } }))
  else .next s

/-! ### Rows (03 R71 to R75) -/

/-- Is the row of a launch of the old plan not produced, its last span reaching past t_b (03 R75)? -/
def rowCut (s : State) (p : Nat) (l : Launch) : Bool :=
  match (portOf s p).drain with
  | some d => d.change && decide ((d.tb : Int) < (spanOf s p l (planN_ (pv s p) - 1)).2)
  | none => false

/-- Clipped samples that no coming row and no block of the estimator can hold are forgotten. -/
def pruneClips (s : State) (p : Nat) : State :=
  match (portOf s p).rowsDue with
  | [] => s
  | l :: _ =>
    let runs := !(skeinsWith (fun k => skRuns s k && skRaw (skview s k) && decide (skPort s (skview s k) = p))).isEmpty
    let from_ := if runs then (tk (((portOf s p).tap.head?.map (fun q => q.1)).getD 0) : Int) else (spanOf s p l 0).1
    modPort s p (fun x =>
      let from_ := match x.hybAt with
        | some b => min from_ (tk b : Int)
        | none => from_
      { x with clips := x.clips.filter (fun c => decide (from_ ≤ (tk c.1 : Int))) })

/-- The row of a launch is delivered: counts, break detector, phase engine. DEAD runs from the row that confirms a break to the row
that ends it (01 R31, R32; 03 R70, R74; 17 R370). -/
def deliverRow (s : State) (p : Nat) (l : Launch) : State :=
  let v := pv s p
  let st := rowStitches s p l
  let marked := (st.filter (fun z => decide (z.flags % 4 ≠ 0))).length
  let sats := rowSats v (gridShift s p) l (portOf s p)
  let outs := 2 * (rowOutputs v (gridShift s p) l).length
  let flags := rowFlags s p l
  let before := (portOf s p).det
  let s := addP (addP s 0x03 p pMF_SAT sats) 0x03 p pSPAN_INVALIDS marked
  let s := modPort s p (fun x => { x with satNow := x.satNow + sats, outNow := x.outNow + outs })
  let s := breakRow s p l st
  let brk := match (portOf s p).det.brk with
    | some b => some b
    | none => before.brk
  let row : Row := ⟨l, flags, brk.map (fun b => b.stitch), before.healed, st⟩
  let s := qtestRow s p row
  modPort s p (fun x => { x with ph := { x.ph with rows := x.ph.rows ++ [row] } })

/-- DECHIRP_ROW: codes of consecutive ticks arrive, and the row of the oldest launch whose reference is known is formed from what has
come; a row that 03 R75 cuts is dropped (03 R74, R75). -/
def execDechirpRow (port from_ : Nat) (codes : List (List Int)) (s : State) : Host.Outcome State Fault Refusal :=
  if 2 ≤ port then .next s
  else
    let s := takeCodes s port from_ codes
    match (portOf s port).rowsDue with
    | [] => .next s
    | l :: ls =>
      let s := modPort s port (fun x => { x with rowsDue := ls })
      .next (pruneClips (if rowCut s port l then s else deliverRow s port l) port)

/-! ### Slice monitor and repair (03 R57, R58, R60, R63) -/

/-- What the monitor holds of a slice over its last 4,096 samples in a slot: how many it took, the sum of their squares and their sum
after correction, the longest run of one raw code (03 R57; log 169). -/
structure SlotStat where
  n : Nat
  sq : Int
  sum : Int
  run : Nat
  deriving DecidableEq, Repr

/-- The longest run of equal values of a list; `cur` is the run that ends before its head. -/
def longestRun : Option Int → Nat → Nat → List Int → Nat
  | _, cur, best, [] => max cur best
  | last, cur, best, x :: xs =>
    if last = some x then longestRun (some x) (cur + 1) best xs else longestRun (some x) 1 (max cur best) xs

/-- The statistics of a slot at an evaluation tick, over the samples of the slice that holds it (03 R57). -/
def slotStat (s : State) (p c at_ slot : Nat) : SlotStat :=
  let a := adcOf s p c
  let ticks := ((List.range 4096).map (fun i => at_ - 65536 + 16 * i + slot)).filter (fun t =>
    decide (sliceAt a t = nth 0 a.map slot))
  let ys := ticks.map (correctedAt s p c)
  ⟨ticks.length, sumI (ys.map (fun y => y * y)), sumI ys, longestRun none 0 0 (ticks.map (codeAt s p c))⟩

/-- Do two mean squares differ by more than 6 dB (03 R57)? -/
def by6dB (a b : Rat) : Bool := decide (10 ^ 6 * b ^ 10 < a ^ 10) || decide (10 ^ 6 * a ^ 10 < b ^ 10)

/-- Is the slice of a slot faulty by its statistics? The first two tests need its full 4,096 samples (03 R57; log 169). -/
def slotFaulty (stats : List SlotStat) (i : Nat) : Bool :=
  let none_ : SlotStat := ⟨0, 0, 0, 0⟩
  let ms := fun (x : SlotStat) => if x.n = 0 then (0 : Rat) else (x.sq : Rat) / (x.n : Rat)
  let mean := fun (x : SlotStat) => if x.n = 0 then (0 : Rat) else (x.sum : Rat) / (x.n : Rat)
  let x := nth none_ stats i
  let others := ((List.range stats.length).filter (fun j => j ≠ i)).map (fun j => nth none_ stats j)
  let off := mean x - meanQ (stats.map mean)
  (decide (x.n = 4096) && (by6dB (ms x) (meanQ (others.map ms)) || decide (512 < off) || decide (off < -512))) ||
    decide (256 ≤ x.run)

/-- 58.98 µs in ticks (03 R58). -/
abbrev suspectBack : Nat := 73725

/-- 0.2 µs in ticks (03 R58). -/
abbrev swapLead : Nat := 250

/-- A faulty slice is declared: suspect interval, repair map, sources, and the repair that is due; a step on the channel is
abandoned. Of a channel in a foreground calibration the suspect interval starts no earlier than the calibration's end (03 R58, R60,
R76; 19 R401, R410). -/
def declareSlice (s : State) (p c slot : Nat) : State :=
  let a := adcOf s p c
  let now := s.time.ticks
  let slice := nth 0 a.map slot
  let fgEnd := match a.fgSince, (portOf s p).calFg with
    | some _, some f => now + (f.endClk - nowClk s)
    | _, _ => 0
  let from_ := max (max (now - suspectBack) fgEnd) (maxN (a.fgPast.map (fun i => i.2)))
  let none_ := decide ((readySpares a).length ≤ a.waits.length)
  let s := setAdc s p c { a with
    out := if a.out.contains slice then a.out else a.out ++ [slice]
    testing := none
    suspect := a.suspect ++ [(from_, none)]
    waits := a.waits ++ [(slot, frameTick (now + swapLead))] }
  let s := repairAdd s (.slice p c slice)
  let s := detect s { portRaise (32 + p) p 0 from_ with ins := c * 256 + slice }
  if none_ then shortStarts s p c else s

/-- Evaluations lie 512 samples of each slot apart, 8,192 ticks (03 R57). -/
abbrev evalTicks : Nat := 8192

/-- The tick of a channel's next evaluation: the first with the full window among the codes kept (03 R57). -/
def evalTick (s : State) (p c : Nat) : Nat :=
  let first := match (portOf s p).codes.head? with
    | some q => ceilDiv (q.1 + 1) evalTicks * evalTicks + 65536
    | none => 65536
  max first (adcOf s p c).evalAt

/-- The slots of a channel that an evaluation finds faulty, those interpolated or waiting for their repair left out (03 R57). -/
def faultySlots (s : State) (p c at_ : Nat) : List Nat :=
  let a := adcOf s p c
  let stats := (List.range 16).map (slotStat s p c at_)
  (List.range 16).filter (fun i => !a.interp.contains i && !a.waits.any (fun w => w.1 = i) && slotFaulty stats i)

/-- SLICE_MONITOR_EVAL: codes of consecutive ticks arrive, and the slices of a channel are evaluated, once the codes reach the next
evaluation; each faulty one is declared (03 R57, R58). -/
def execSliceMonitorEval (port chan : Nat) (codes : CodeRun) (s : State) : Host.Outcome State Fault Refusal :=
  if 2 ≤ port ∨ 4 ≤ chan then .next s
  else
    let s := takeCodes s port codes.start codes.codes
    let at_ := evalTick s port chan
    match (portOf s port).codes.getLast? with
    | some q =>
      if q.1 < at_ then .next s
      else
        let bad := faultySlots s port chan at_
        let s := setAdc s port chan { adcOf s port chan with evalAt := at_ + evalTicks }
        .next (bad.foldl (fun s i => declareSlice s port chan i) s)
    | none => .next s

/-- The oldest open suspect interval of a channel ends (03 R58, R60). -/
def closeSuspect : List (Nat × Option Nat) → Nat → List (Nat × Option Nat)
  | [], _ => []
  | i :: is, now => if i.2.isNone then (i.1, some now) :: is else i :: closeSuspect is now

/-- The live bit of source 32 or 33 clears once no fault of R57 waits for its repair on any channel of the port (03 Table 03-6). -/
def sliceQuiet (s : State) (p : Nat) : State :=
  if (List.range 4).all (fun c => (adcOf s p c).waits.isEmpty) then clearIf s (32 + p) else s

/-- The oldest fault of a channel that waits is repaired at its boundary: the map, or the interpolation, is in force from there (03
R56, R58, R60). -/
def repairSlot (s : State) (p c : Nat) (w : Nat × Nat) (f : AdcChan → AdcChan) : State :=
  let a := adcOf s p c
  let s := setAdc s p c (f { a with waits := a.waits.drop 1, suspect := closeSuspect a.suspect w.2 })
  stepResume (sliceQuiet (logSet s p c w.2) p) p c

/-- SLICE_SPARE_SWAP: the spare with the most recent passing factors takes the faulty slot at the boundary that is due (03
R56, R58, R63, R76; 19 Table 19-3). -/
def execSliceSpareSwap (port chan : Nat) (s : State) : Host.Outcome State Fault Refusal :=
  let a := adcOf s port chan
  match a.waits.head?, bestSpare a with
  | some w, some pick =>
    if w.2 ≤ s.time.ticks ∧ a.fgSince.isNone then
      .next (repairSlot s port chan w (fun a => { a with map := setNth a.map w.1 pick }))
    else .next s
  | _, _ => .next s

/-- SLICE_INTERPOLATE: with no spare the faulty slot is interpolated and rows carry DEGRADED (03 R60, R63). -/
def execSliceInterpolate (port chan : Nat) (s : State) : Host.Outcome State Fault Refusal :=
  let a := adcOf s port chan
  match a.waits.head? with
  | some w =>
    if (readySpares a).isEmpty ∧ w.2 ≤ s.time.ticks ∧ a.fgSince.isNone then
      .next (repairSlot s port chan w (fun a => { a with interp := a.interp ++ [w.1] }))
    else .next s
  | none => .next s

/-! ### Hybrid estimator and rates (03 R62, R63, R65, R66, R70) -/

/-- round(a × x) with a = 52.4288 µs / HYB_TAU (03 R65). -/
def hybStep (tau : Nat) (x : Rat) : Int := roundQ ((524288 : Rat) / (tau * 10 ^ 10 : Nat) * x)

/-- √(p / q) as a rational within 2^−40. -/
def sqrtRatio (p q : Nat) : Rat := if q = 0 then 1 else (isqrt (p * 2 ^ 80 / q) : Rat) / (2 ^ 40 : Nat)

/-- What a block of the estimator sums over its samples without CLIP (03 R65). -/
structure HybSums where
  n : Nat
  sumI : Int
  sumQ : Int
  sumII : Int
  sumQQ : Int
  sumIQ : Int
  deriving DecidableEq, Repr

/-- The sums of a polarisation over the tap's words from tick `a` up to tick `b` (03 R65). -/
def hybSums (x : Port) (y : Bool) (h : Hyb × Hyb) (a b : Nat) : HybSums :=
  let ws := x.tap.filter (fun q => decide (a ≤ q.1) && decide (q.1 < b) && !x.clips.contains (q.1, bitN y))
  let zs := ws.map (fun q => pairOfWords h y q.2)
  ⟨zs.length, sumI (zs.map (fun z => z.1)), sumI (zs.map (fun z => z.2)), sumI (zs.map (fun z => z.1 * z.1)),
    sumI (zs.map (fun z => z.2 * z.2)), sumI (zs.map (fun z => z.1 * z.2))⟩

/-- The terms of a polarisation after a block, and whether g or p was clamped; `free` stands for the means of no sample and for the
quotients by a sum of 0, which the spec does not give (03 R65, R66; log 170). -/
def hybUpdate (h : Hyb) (tau : Nat) (b : HybSums) (free : Int) : Hyb × Bool :=
  let mean := fun (x : Int) => if b.n = 0 then free else hybStep tau ((x : Rat) / (b.n : Rat))
  let dg := if b.sumQQ = 0 then free else hybStep tau (32768 * (sqrtRatio b.sumII.toNat b.sumQQ.toNat - 1))
  let dp := if b.sumII = 0 then free else hybStep tau (32768 * (b.sumIQ : Rat) / (b.sumII : Rat))
  let g := h.g + dg
  let p := h.p - dp
  let g' := clampI (-8192) 8191 g
  let p' := clampI (-6144) 6143 p
  (⟨g', p', satS 16 (h.mI + mean b.sumI), satS 16 (h.mQ + mean b.sumQ)⟩, g' != g || p' != p)

/-- Did a foreground calibration of a polarisation's channels overlap the ticks from `a` to `b` (03 R65, R76)? -/
def fgOverlaps (s : State) (p : Nat) (y : Bool) (a b : Nat) : Bool :=
  (if y then [2, 3] else [0, 1]).any (fun c =>
    let x := adcOf s p c
    x.fgPast.any (fun i => decide (i.1 < b) && decide (a < i.2)) ||
      (match x.fgSince with | some t => decide (t < b) | none => false))

/-- A finished block of the estimator, from tick `a` up to tick `b`: each polarisation that no foreground calibration met is updated
from the next sample on (03 R65, R66; log 170). -/
def hybBlockEnd (s : State) (p a b : Nat) : State :=
  let f := takeFreeI s
  let s := f.2
  let x := portOf s p
  let tau := natP s 0x03 p pHYB_TAU
  let h := hybAtTick x a
  let one := fun (y : Bool) =>
    if fgOverlaps s p y a b then ((if y then x.hybY else x.hybX), none)
    else
      let r := hybUpdate (if y then x.hybY else x.hybX) tau (hybSums x y h a b) f.1
      (r.1, some r.2)
  let rx := one false
  let ry := one true
  let clamped := decide (rx.2 = some true) || decide (ry.2 = some true)
  let skipped := rx.2.isNone && ry.2.isNone
  let s := setHyb s p b rx.1 ry.1
  let s := modPort s p (fun x => { x with
    hybAt := some b, hybClean := if clamped then 0 else if skipped then x.hybClean else x.hybClean + 1 })
  let s := if clamped then detect s (portRaise (40 + p) p 0 0) else s
  if 64 ≤ (portOf s p).hybClean then clearIf s (40 + p) else s

/-- Samples of a block of the estimator (03 R65). -/
abbrev hybBlockTicks : Nat := 65536

/-- HYB_BLOCK: codes of consecutive ticks arrive, and a block of 65,536 samples that they complete updates the terms of both
polarisations (03 R65, R66). -/
def execHybBlock (port from_ : Nat) (codes : List (List Int)) (s : State) : Host.Outcome State Fault Refusal :=
  if 2 ≤ port then .next s
  else
    let s := takeCodes s port from_ codes
    match (portOf s port).hybAt, (portOf s port).tap.getLast? with
    | some a, some q =>
      if getP s 0x03 port pHYB_MODE = 1 ∧ a + hybBlockTicks ≤ q.1 + 1 then .next (hybBlockEnd s port a (a + hybBlockTicks))
      else .next s
    | _, _ => .next s

/-- A rate above 10⁻⁴ raises a source, and a second at or below it clears it (03 R62, R63, R70). -/
def rateSource (s : State) (src port bad all_ : Nat) : State :=
  if all_ < bad * 10000 then detect s (portRaise src port 0 0) else clearIf s src

/-- CLIP_RATE_SECOND: a whole second ends; the clip and saturation rates are judged. The seconds follow one another from PORT_START
on, so that those from a raise on are whole (03 R62, R63, R70; log 171). -/
def execClipRateSecond (port : Nat) (s : State) : Host.Outcome State Fault Refusal :=
  let x := portOf s port
  if 2 ≤ port ∨ nowClk s < x.secFrom + secTicks then .next s
  else
    let s := rateSource s (36 + port) port x.clipNow x.rawNow
    let s := rateSource s (38 + port) port x.satNow x.outNow
    .next (modPort s port (fun x => { x with
      secFrom := x.secFrom + secTicks, clipNow := 0, rawNow := 0, satNow := 0, outNow := 0 }))

end Sys2Proof.Machine
end

