-- ==== Sys2Proof/Machine/Phase.lean ====
section
/-! DEFINITION. Machine/Phase.lean: the events of the phase engine (04 R87, R95). -/

namespace Sys2Proof.Machine

/-- PHASE_SAMPLE: the rows that have come are unwrapped, and the oldest sample whose look-ahead is complete is delivered
(04 R82 to R95). -/
def execPhaseSample (port : Nat) (s : State) : Host.Outcome State Fault Refusal :=
  if 2 ≤ port then .next s
  else
    let s := unwrapRows s port
    let x := portOf s port
    if vn (pv s port) pINTERP_MAX < x.ph.ahead.length || streamEnded x then .next (deliverOldest s port) else .next s

/-- SWATCH_LOST: 64 consecutive samples were held; the correction is dropped and source 24 or 25 raised (04 R87). -/
def execSwatchLost (port : Nat) (s : State) : Host.Outcome State Fault Refusal :=
  if (portOf s port).ph.lost then .next (raiseOnce s (portRaise (24 + port) port 0 0)) else .next s

end Sys2Proof.Machine
end

