-- ==== Sys2Proof/Machine/Raman.lean ====
section
/-! DEFINITION. Machine/Raman.lean: Raman windows, accumulation intervals, Raman temperature, spectral tracks and fused
temperature (05; 04 R96). -/

namespace Sys2Proof.Machine

/-! ### Windows (05 R101 to R106) -/

/-- The range of a bin of a window with dither `d` (05 R102). -/
def rangeOfBin (r0 : Nat) (sw : List (Int × Nat)) (d b : Int) : Nat :=
  sw.foldl (fun r q => if q.1 + d ≤ b then q.2 else r) r0

/-- Is a bin one of the six after a switch (05 R104)? -/
def binSettling (sw : List (Int × Nat)) (d b : Int) : Bool :=
  sw.any (fun q => decide (q.1 + d ≤ b) && decide (b ≤ q.1 + d + 5))

/-- One sample of an input enters a bank: the bank, samples seen and samples excluded (05 R104, R105). -/
def ramanSample (x : Raman) (w : RamanWin) (acc : Bank × Nat × Nat) (q : Nat × Int) : Bank × Nat × Nat :=
  let b := if 3 ≤ w.phase then q.1 + 1 else q.1
  if binSettling w.switches w.dither b then acc
  else if q.2 ≤ -32768 || 32767 ≤ q.2 then (acc.1, acc.2.1 + 1, acc.2.2 + 1)
  else
    let r := rangeOfBin w.range0 w.switches w.dither b
    let y := roundDivI ((q.2 - nth 0 x.ofs r) * ((nth 0 x.rg r : Nat) : Int)) 8192
    (⟨kput (fun _ => 0) acc.1.sum b (satS 48 (kget (fun _ => 0) acc.1.sum b + y)),
      kmod (fun _ => 0) acc.1.cnt b (fun n => (n + 1) % 2 ^ 24)⟩, acc.2.1 + 1, acc.2.2)

/-- The samples of one input of a window. -/
def ramanInput (x : Raman) (w : RamanWin) (bank : Bank) (codes : List Int) : Bank × Nat × Nat :=
  ((List.range (min w.len codes.length)).map (fun i => (i, nth 0 codes i))).foldl (ramanSample x w) (bank, 0, 0)

/-- A window's samples join the interval's banks (05 R106, R107). -/
def ramanAdd (x : Raman) (w : RamanWin) (asCodes stCodes : List Int) (a : RamanSums) : RamanSums :=
  let ra := ramanInput x w (if w.signal then a.asSig else a.asBg) asCodes
  let rs := ramanInput x w (if w.signal then a.stSig else a.stBg) stCodes
  { a with
    asSig := if w.signal then ra.1 else a.asSig
    asBg := if w.signal then a.asBg else ra.1
    stSig := if w.signal then rs.1 else a.stSig
    stBg := if w.signal then a.stBg else rs.1
    sigWindows := if w.signal then a.sigWindows + 1 else a.sigWindows
    bgWindows := if w.signal then a.bgWindows else a.bgWindows + 1
    samples := a.samples + ra.2.1 + rs.2.1
    sats := a.sats + ra.2.2 + rs.2.2
    firstTs := if a.sigWindows + a.bgWindows = 0 then ts72 w.start 0 else a.firstTs }

/-- A spoilt window is discarded; one that a RAMAN_OFFSET run has taken whole counts for it (05 R107, R118). -/
def windowSpoilt (s : State) (p : Nat) (w : RamanWin) : State :=
  modRaman s p (fun x => { x with
    win := none
    ofsRun := x.ofsRun.map (fun r => if r.since ≤ clkOfTick s w.start then { r with windows := r.windows + 1 } else r) })

/-- RAMAN_WINDOW_END: a window of N_R samples on both inputs ends with its raw codes and joins the interval in which its shot started;
a window that a foreground calibration spoilt is discarded (05 R101 to R107). -/
def execRamanWindowEnd (port : Nat) (asCodes stCodes : List Int) (s : State) : Host.Outcome State Fault Refusal :=
  let x := (portOf s port).raman
  match x.win with
  | none => .next s
  | some w =>
    if w.start + 5 * w.len ≤ s.time.ticks then
      if w.spoilt then .next (windowSpoilt s port w)
      else
        let bank := match w.late, x.ended with
          | true, some e => e.sums
          | _, _ => x.acc
        let a := ramanAdd x w asCodes stCodes bank
        let s := addP s 0x03 port pRAMAN_SAT (a.sats - bank.sats)
        .next (modRaman s port (fun x => match w.late, x.ended with
          | true, some e => { x with win := none, ended := some { e with sums := a } }
          | _, _ => { x with win := none, acc := a }))
    else .next s

/-! ### Intervals (05 R107, R108) -/

/-- Mean current of a bank in nA: 1 CU is 4,000 / (8 × 32,768) nA (05 R100, R108). -/
def apdCurrent (b : Bank) : Int :=
  roundDivI (sumI (b.sum.map (fun q => q.2)) * 125) ((sumN (b.cnt.map (fun q => q.2)) * 8192 : Nat) : Int)

/-- The checks at the end of an interval: APD currents, where a signal window was taken, and saturation (05 R105, R108, R129; log
175). -/
def ramanChecks (s : State) (p : Nat) (a : RamanSums) : State :=
  let ia := apdCurrent a.asSig
  let is_ := apdCurrent a.stSig
  let lo := getP s 0x03 p pAPD_I_MIN
  let hi := getP s 0x03 p pAPD_I_MAX
  let bad := decide (ia < lo) || decide (hi < ia) || decide (is_ < lo) || decide (hi < is_)
  let s := if a.sigWindows = 0 then s
    else
      let s := setP (setP s 0x03 p pAPD_I_AS (satS 32 ia)) 0x03 p pAPD_I_ST (satS 32 is_)
      if bad then detect s (portRaise (26 + p) p 0 0) else clearIf s (26 + p)
  if a.samples < a.sats * 10000 then detect s (portRaise (42 + p) p 0 0) else clearIf s (42 + p)

/-- An interval completes: its sums join the moving sum of its epoch (05 R107 to R109). -/
def intervalComplete (s : State) (p : Nat) (e : RamanEnded) : State :=
  let a := e.sums
  let s := ramanChecks s p a
  let s := setP s 0x03 p pRAMAN_LAST_WINDOWS ((min a.bgWindows 65535 * 65536 + min a.sigWindows 65535 : Nat) : Int)
  let avg := natP s 0x03 p pRAMAN_AVG
  modRaman s p (fun r => { r with
    past := (a :: r.past.filter (fun b => b.epoch = a.epoch)).take avg
    ended := none, trDue := true, fuseDue := true, lastLen := e.len })

/-- RAMAN_INTERVAL_END: an interval that has ended with its shot has its last window, and the buffers swap (05 R107, R108). -/
def execRamanIntervalEnd (port : Nat) (s : State) : Host.Outcome State Fault Refusal :=
  let x := (portOf s port).raman
  let open_ := (x.win.map (fun (w : RamanWin) => w.late)).getD false
  match x.ended with
  | none => .next s
  | some e => if open_ then .next s else .next (underOld s (fun s => intervalComplete s port e))

/-! ### Raman temperature (05 R109, R111 to R115) -/

/-- Two banks added bin by bin (05 R109). -/
def bankAdd (a b : Bank) : Bank :=
  ⟨b.sum.foldl (fun m q => kmod (fun _ => 0) m q.1 (fun v => v + q.2)) a.sum,
    b.cnt.foldl (fun m q => kmod (fun _ => 0) m q.1 (fun v => v + q.2)) a.cnt⟩

/-- The totals of the last RAMAN_AVG intervals (05 R109). -/
def ramanTotals (xs : List RamanSums) : RamanSums :=
  xs.foldl (fun a b => { a with
    asSig := bankAdd a.asSig b.asSig, asBg := bankAdd a.asBg b.asBg
    stSig := bankAdd a.stSig b.stSig, stBg := bankAdd a.stBg b.stBg
    sigWindows := a.sigWindows + b.sigWindows, bgWindows := a.bgWindows + b.bgWindows
    firstTs := b.firstTs }) ramanZero

/-- A bank's mean in a bin, 0 where it holds nothing. -/
def bankMean (b : Bank) (i : Nat) : Rat :=
  let n := kget (fun _ => 0) b.cnt i
  if n = 0 then 0 else ((kget (fun _ => 0) b.sum i : Int) : Rat) / (n : Nat)

/-- x_b in ticks (05 R101). -/
def binPos (s : State) (p b : Nat) : Int := 5 * (b : Int) - natP s 0x03 p pRAMAN_ORIGIN + gridShift s p

/-- One bin of the totals: A_AS, A_ST and whether it is usable (05 R111). -/
def binOf (s : State) (p : Nat) (t : RamanSums) (b : Nat) : Rat × Rat × Bool :=
  let x := binPos s p b
  let aAs := bankMean t.asSig b - bankMean t.asBg b
  let aSt := bankMean t.stSig b - bankMean t.stBg b
  let enough := fun (k : Bank) (n : Nat) => decide (n ≤ 4 * kget (fun _ => 0) k.cnt b)
  let v := pv s p
  let dead := match (portOf s p).det.brk with
    | some k => decide (((k.stitch * planK v + gridShift s p : Nat) : Int) ≤ x)
    | none => false
  (aAs, aSt, enough t.asSig t.sigWindows && enough t.stSig t.sigWindows && decide (t.sigWindows ≠ 0) &&
    (decide (t.bgWindows = 0) || (enough t.asBg t.bgWindows && enough t.stBg t.bgWindows)) &&
    decide (0 ≤ x) && decide (x ≤ planTicks v) && !dead && decide (4 ≤ aAs) && decide (4 ≤ aSt))

/-- ln R of each bin, where usable, after the spatial mean of RAMAN_SMOOTH bins (05 R111). -/
def lnRatios (s : State) (p : Nat) (bins : List (Rat × Rat × Bool)) : List (Option Rat) :=
  let h := natP s 0x03 p pRAMAN_SMOOTH / 2
  (List.range bins.length).map (fun b =>
    if (nth (0, 0, false) bins b).2.2 then
      let near := ((bins.drop (b - h)).take (min b h + h + 1)).filter (fun q => q.2.2)
      some (lnQ (meanQ (near.map (fun q => q.1)) / meanQ (near.map (fun q => q.2.1))))
    else none)

/-- The bins of a port. -/
def portBins (s : State) (p : Nat) : List (Rat × Rat × Bool) :=
  let t := ramanTotals (portOf s p).raman.past
  (List.range (planNR (pv s p) (natP s 0x03 p pRAMAN_ORIGIN))).map (binOf s p t)

/-- Ticks as kilometres (01 R11). -/
def tickKm (s : State) (p : Nat) (x : Rat) : Rat := x * 2398339664 / (2 * natP s 0x03 p pGROUP_INDEX * 10 ^ 8 : Nat)

/-- γ in kelvin. -/
def ramanGamma (s : State) (p : Nat) : Rat := (getP s 0x03 p pRAMAN_GAMMA : Rat) / 100

/-- RAMAN_DALPHA in nepers per km (05 R112). -/
def dalphaNepers (d : Int) : Rat := (d : Rat) * lnQ 10 / 100000

/-- The swatch window's reference ratio and mean position, over usable bins (05 R112). -/
def swatchRef (s : State) (p : Nat) (bins : List (Rat × Rat × Bool)) : Option (Rat × Rat) :=
  let v := pv s p
  let lo : Int := (vn v pSWATCH_FIRST * planK v + gridShift s p : Nat)
  let hi : Int := lo + (((vn v pSWATCH_COUNT - 1) * planK v : Nat) : Int)
  let xs := (List.range bins.length).filter (fun b =>
    (nth (0, 0, false) bins b).2.2 && decide (lo ≤ binPos s p b) && decide (binPos s p b ≤ hi))
  if xs.isEmpty || vn v pSWATCH_COUNT = 0 then none
  else
    let sa := (xs.map (fun b => (nth (0, 0, false) bins b).1)).foldl (· + ·) 0
    let ss := (xs.map (fun b => (nth (0, 0, false) bins b).2.1)).foldl (· + ·) 0
    some (lnQ (sa / ss), meanQ (xs.map (fun b => ((binPos s p b : Int) : Rat))))

/-- How a port's T_ref stands at an update: the reference, and TQUAL state 0 or 3; none: NO_REF or FIXED (05 R113). -/
def refNow (s : State) (p : Nat) : Option (Rat × Nat) :=
  match refTemp s p with
  | some t => some ((t : Rat) / 10000, 0)
  | none =>
    let x := (portOf s p).raman
    if x.refLost then none else x.tRef.map (fun t => ((t : Rat) / 10000, 3))

/-- γ / T of the fixed constant C (05 R113). -/
def fixedInv (s : State) (p : Nat) (lnR x : Rat) : Rat :=
  (getP s 0x03 p pRAMAN_C_FIXED : Rat) / 1000000 - lnR - dalphaNepers (getP s 0x03 p pRAMAN_DALPHA) * tickKm s p x

/-- A bin's temperature in kelvin, single-ended, with its TQUAL state (05 R112, R113). -/
def singleT (s : State) (p : Nat) (ref : Option (Rat × Rat)) (b : Nat) (lnR : Rat) : Option (Rat × Nat) :=
  let x : Rat := (binPos s p b : Int)
  let g := ramanGamma s p
  let al := dalphaNepers (getP s 0x03 p pRAMAN_DALPHA)
  match refNow s p, ref with
  | some t, some r => some (1 / (1 / t.1 + (r.1 - lnR - al * tickKm s p (x - r.2)) / g), t.2)
  | _, _ =>
    if getP s 0x03 p pRAMAN_C_FIXED ≠ 0 then some (g / fixedInv s p lnR x, 6) else none

/-- Do both ends measure together, both ports launching Raman pulses (05 R114)? -/
def ramanDual (s : State) : Bool :=
  dualOn s && [0, 1].all (fun p => decide (getP s 0x03 p pRAMAN_DE = 1) && decide (getP s 0x03 p pTGATE_ENABLE = 1) &&
    decide ((portOf s p).st = .running))

/-- ln R_B interpolated linearly between port B's bins at a position in B's ticks (05 R114). -/
def lnAt (s : State) (p : Nat) (ln : List (Option Rat)) (x : Rat) : Option Rat :=
  let b := floorQ ((x - (binPos s p 0 : Int)) / 5)
  if b < 0 then none
  else
    match nth none ln b.toNat, nth none ln (b.toNat + 1) with
    | some u, some w => some (u + (w - u) * (x - (binPos s p b.toNat : Int)) / 5)
    | _, _ => none

/-- A reference of the dual-ended case: its position in A's ticks, T_ref, ln R_A and ln R_B there, and whether T_ref is held. -/
structure DualRef where
  x : Rat
  t : Rat
  lnA : Rat
  lnB : Rat
  held : Bool
  deriving DecidableEq, Repr

/-- The references of the two ends (05 R114). -/
def dualRefs (s : State) (ba bb : List (Rat × Rat × Bool)) (la lb : List (Option Rat)) : List DualRef :=
  let len : Rat := (planTicks (pv s 0) : Nat)
  [0, 1].filterMap (fun i =>
    match refNow s i, swatchRef s i (if i = 0 then ba else bb) with
    | some t, some r =>
      let x := if i = 0 then r.2 else len - r.2
      match (if i = 0 then some r.1 else lnAt s 0 la x), (if i = 0 then lnAt s 1 lb (len - x) else some r.1) with
      | some u, some w => some ⟨x, t.1, u, w, decide (t.2 = 3)⟩
      | _, _ => none
    | _, _ => none)

/-- The references that C_D is the mean over, and the TQUAL state: the usable ones, and held ones where none is usable (05 R113, R114;
log 179). -/
def usedRefs (rs : List DualRef) : List DualRef × Nat :=
  let good := rs.filter (fun r => !r.held)
  if good.isEmpty then (rs, 3) else (good, 0)

/-- The least-squares fit of ln K_A, ln K_B and α_d to the references of both ends (05 R114). -/
def dualFit (s : State) (rs : List DualRef) : Option (Rat × Rat × Rat) :=
  let g := ramanGamma s 0
  let len := tickKm s 0 (planTicks (pv s 0) : Nat)
  if rs.length < 2 then none
  else
    let xs := rs.map (fun r => tickKm s 0 r.x)
    let as_ := rs.map (fun r => r.lnA + g / r.t)
    let bs := rs.map (fun r => r.lnB + g / r.t)
    let mx := meanQ xs
    let cov : List Rat → Rat := fun ys => (List.zipWith (fun x y => (x - mx) * (y - meanQ ys)) xs ys).foldl (· + ·) 0
    let var : Rat := (xs.map (fun x => (x - mx) * (x - mx))).foldl (· + ·) 0
    if var = 0 then none
    else
      let al := (cov bs - cov as_) / (2 * var)
      some (meanQ as_ + al * mx, meanQ bs + al * (len - mx), al)

/-- Does a position of a port lie beyond its declared break (01 R31)? -/
def lostAt (s : State) (p : Nat) (x : Rat) : Bool :=
  match (portOf s p).det.brk with
  | some k => decide (((k.stitch * planK (pv s p) + gridShift s p : Nat) : Rat) ≤ x)
  | none => false

/-- γ / T where one port sees a point with its own C, FIXED (05 R113). -/
def fixedT (s : State) (p : Nat) (ln : Option Rat) (x : Rat) : Option (Rat × Nat) :=
  if getP s 0x03 p pRAMAN_C_FIXED = 0 then none else ln.map (fun u => (ramanGamma s p / fixedInv s p u x, 6))

/-- The temperature of A's bins from both ends; SINGLE from the surviving port beyond a break of the other, with the held fit; FIXED where
no reference is left (05 R113, R114; log 179). -/
def dualT (s : State) (rs : List DualRef) (la lb : List (Option Rat)) (fit : Option (Rat × Rat × Rat)) (b : Nat) :
    Option (Rat × Nat) :=
  let g := ramanGamma s 0
  let x : Rat := (binPos s 0 b : Int)
  let y : Rat := (planTicks (pv s 0) : Nat) - x
  let u := nth none la b
  let w := lnAt s 1 lb y
  let used := usedRefs rs
  let cd := meanQ (used.1.map (fun r => 2 * g / r.t + r.lnA + r.lnB))
  if lostAt s 0 x then
    match w, fit with
    | some w, some k => if lostAt s 1 y then none else some (g / (k.2.1 - w - k.2.2 * tickKm s 0 y), 5)
    | _, _ => none
  else if lostAt s 1 y then
    match u, fit with
    | some u, some k => some (g / (k.1 - u - k.2.2 * tickKm s 0 x), 5)
    | _, _ => none
  else if used.1.isEmpty then (match fixedT s 0 u x with | some t => some t | none => fixedT s 1 w y)
  else
    match u, w with
    | some u, some w => some (g / ((cd - u - w) / 2), used.2)
    | _, _ => none

/-- Is a stitch of the gauge that starts at a stitch beyond a declared break (01 R31; 05 R124)? -/
def deadGauge (s : State) (p i : Nat) : Bool :=
  match (portOf s p).det.brk with
  | some k => decide (k.stitch ≤ i + vn (pv s p) pGAUGE)
  | none => false

/-- TR of a stitch from the bins' temperatures, or the reason that there is none (05 R115, R125). -/
def trStitch (s : State) (p : Nat) (ts : List (Option (Rat × Nat))) (dead : Bool) (reason : Nat) (i : Nat) : TVal :=
  let v := pv s p
  let x : Int := (i * planK v + gridShift s p : Nat)
  let b := Int.fdiv (x - binPos s p 0) 5
  let at_ := fun (j : Int) => if j < 0 then none else nth none ts j.toNat
  let give := fun (t : Rat) (q : Nat) => (⟨satS 32 (roundQ ((t - 27315 / 100) * 1000)), q⟩ : TVal)
  if dead then ⟨0, 0x94⟩
  else
    match at_ b, at_ (b + 1) with
    | some u, some w => give (u.1 + (w.1 - u.1) * ((x - (binPos s p 0 + 5 * b) : Int) : Rat) / 5) (max u.2 w.2)
    | some u, none => give u.1 u.2
    | none, some w => give w.1 w.2
    | none, none => ⟨0, 0x10 + reason⟩

/-- TR of a stitch of port A in the dual-ended case: DEAD where both ports have lost it (05 R114; log 179). -/
def trDualStitch (s : State) (ts : List (Option (Rat × Nat))) (reason i : Nat) : TVal :=
  let x : Rat := (i * planK (pv s 0) : Nat)
  trStitch s 0 ts (lostAt s 0 x && lostAt s 1 ((planTicks (pv s 0) : Nat) - x)) reason i

/-- The reference bookkeeping of an update: T_ref held, REF_TEMP, RAMAN_C_EST, source 28 or 29 (05 R113). -/
def refUpdate (s : State) (p : Nat) (ref : Option (Rat × Rat)) : State :=
  match refTemp s p with
  | some t =>
    let s := modRaman s p (fun x => { x with tRef := some t, heldSince := none, refLost := false })
    let s := setP s 0x03 p pREF_TEMP (roundDivI (t - 2731500) 10)
    let s := clearIf s (28 + p)
    match ref with
    | some r =>
      let c := r.1 + ramanGamma s p / ((t : Rat) / 10000) +
        dalphaNepers (getP s 0x03 p pRAMAN_DALPHA) * tickKm s p r.2
      setP s 0x03 p pRAMAN_C_EST (satS 32 (roundQ (c * 1000000)))
    | none => s
  | none => modRaman s p (fun x => { x with heldSince := if x.heldSince.isNone then some (nowClk s) else x.heldSince })

/-- The held fit of the dual-ended case is refreshed (05 R114). -/
def fitUpdate (s : State) (fit : Option (Rat × Rat × Rat)) : State :=
  match fit with
  | none => s
  | some k =>
    let s := modRaman s 0 (fun x => { x with lnK := some (floorQ (k.1 * 2 ^ 80)), alpha := some (floorQ (k.2.2 * 2 ^ 80)) })
    let s := modRaman s 1 (fun x => { x with lnK := some (floorQ (k.2.1 * 2 ^ 80)), alpha := some (floorQ (k.2.2 * 2 ^ 80)) })
    let d := satS 32 (roundQ (k.2.2 * 100000 / lnQ 10))
    setP (setP s 0x03 0 pDALPHA_EST d) 0x03 1 pDALPHA_EST d

/-- The fit held from before (05 R114). -/
def fitHeld (s : State) : Option (Rat × Rat × Rat) :=
  match (portOf s 0).raman.lnK, (portOf s 1).raman.lnK, (portOf s 0).raman.alpha with
  | some a, some b, some c => some ((a : Rat) / (fx : Int), (b : Rat) / (fx : Int), (c : Rat) / (fx : Int))
  | _, _, _ => none

/-- A port's TR, from one end. -/
def trSingle (s : State) (p : Nat) : State × List TVal :=
  let bins := portBins s p
  let ln := lnRatios s p bins
  let ref := swatchRef s p bins
  let s := refUpdate s p ref
  let ts := (List.range ln.length).map (fun b => (nth none ln b).bind (singleT s p ref b))
  let noRef := ((refNow s p).isNone || ref.isNone) && decide (getP s 0x03 p pRAMAN_C_FIXED = 0)
  (s, (List.range (planN_ (pv s p))).map (fun i => trStitch s p ts (deadGauge s p i) (if noRef then 6 else 1) i))

/-- Port A's TR from both ends, which port B's mirrors (05 R114). -/
def trDual (s : State) : State × List TVal :=
  let ba := portBins s 0
  let bb := portBins s 1
  let la := lnRatios s 0 ba
  let lb := lnRatios s 1 bb
  let s := refUpdate (refUpdate s 0 (swatchRef s 0 ba)) 1 (swatchRef s 1 bb)
  let rs := dualRefs s ba bb la lb
  let s := fitUpdate s (dualFit s rs)
  let ts := (List.range la.length).map (dualT s rs la lb (fitHeld s))
  let fixed := [0, 1].any (fun p => decide (getP s 0x03 p pRAMAN_C_FIXED ≠ 0))
  (s, (List.range (planN_ (pv s 0))).map (trDualStitch s ts (if rs.isEmpty && !fixed then 6 else 1)))

/-- A port's TR is formed: it is stamped with the first window of its totals, and delivered (05 R109, R115). -/
def trGive (s : State) (p : Nat) (vals : List TVal) : State :=
  let ts := (ramanTotals (portOf s p).raman.past).firstTs
  deliverTemp (modRaman s p (fun x => { x with trDue := false, tr := vals, trTs := ts })) p 3 ⟨ts, vals⟩

/-- TR_UPDATE: after an interval the profile is formed from the moving sums and delivered; in the dual-ended case on both ports, once both
intervals are complete (05 R109, R111 to R115; log 179). -/
def execTrUpdate (port : Nat) (s : State) : Host.Outcome State Fault Refusal :=
  if (portOf s port).raman.trDue then
    if ramanDual s then
      if (portOf s 0).raman.trDue ∧ (portOf s 1).raman.trDue then
        .next (underOld s (fun s => let r := trDual s; trGive (trGive r.1 0 r.2) 1 r.2.reverse))
      else .next s
    else .next (underOld s (fun s => let r := trSingle s port; trGive r.1 port r.2))
  else .next s

/-- RAMAN_REF_HOLD_EXPIRY: REF_HOLD runs out with no usable T_ref (05 R113). -/
def execRamanRefHoldExpiry (port : Nat) (s : State) : Host.Outcome State Fault Refusal :=
  let x := (portOf s port).raman
  match x.heldSince with
  | some t =>
    if !x.refLost ∧ t + natP s 0x03 port pREF_HOLD * secTicks ≤ nowClk s then
      .next (raiseOnce (modRaman s port (fun x => { x with refLost := true })) (portRaise (28 + port) port 0 0))
    else .next s
  | none => .next s

/-! ### Spectral tracks (04 R96, 05 R119) -/

/-- A gauge's track after a record of its stitches; a shift outside ±Δ/2 loses it, and it starts from zero at the record, as it does at
the first (05 R119). -/
def trackStep (half : Nat) (f : Fuse) (now : List (List Nat)) : Fuse :=
  let d := Config.specShift f.record now
  if f.record.isEmpty then { f with track := 0, restarts := f.restarts + 1, record := now }
  else if d.natAbs ≤ half then { f with track := f.track + d, record := now }
  else { f with track := 0, restarts := f.restarts + 1, record := now, lostSince := true }

/-- The records of stitches s to s + G, where none has fewer rows than SPEC_ROWS / 2 (05 R119). -/
def gaugeRecord (r : SpecRec) (g i : Nat) : Option (List (List Nat)) :=
  let xs := (r.words.drop i).take (g + 1)
  if xs.any (fun q => decide (2 * q.2 < r.need)) then none else some (xs.map (fun q => q.1))

/-- A record reaches the fusion kernel: each gauge's track, and the first record after a gap (05 R119, R122). -/
def specTake (s : State) (p : Nat) (r : SpecRec) : State :=
  let v := pv s p
  let g := vn v pGAUGE
  let n := planN_ v - g
  let half := plySpacing (planP_ v) * 500000
  let old := (portOf s p).raman.fuse
  let recs := (List.range n).map (gaugeRecord r g)
  let new := (List.range n).map (fun i => match nth none recs i with
    | some now => trackStep half (nth fuseNone old i) now
    | none => nth fuseNone old i)
  let lost := (List.range n).filter (fun i => (nth none recs i).isSome && !(nth fuseNone old i).record.isEmpty &&
    decide ((nth fuseNone new i).restarts ≠ (nth fuseNone old i).restarts))
  let mark := fun (es : List EAcc) => (List.range es.length).map (fun i =>
    if (nth none recs i).isSome then gapRecord (nth fuseNone new i) (nth eNone es i) else nth eNone es i)
  modRaman (addP s 0x03 p pSPEC_LOST_COUNT lost.length) p (fun x => { x with
    fuse := new, e := mark x.e, eDone := x.eDone.map mark })

/-- SPEC_RECORD: the record of SPEC_ROWS shots goes to the Needle array and the tracks move; with fewer than 8 plies no track exists (04
R96, 05 R119). -/
def execSpecRecord (port : Nat) (s : State) : Host.Outcome State Fault Refusal :=
  match (portOf s port).specDone with
  | [] => .next s
  | r :: rest =>
    let s := modPort s port (fun x => { x with specDone := rest })
    .next (if getP s 0x03 port pSPEC_ENABLE = 1 ∧ 8 ≤ planP_ (pv s port) then specTake s port r else s)

/-! ### Fusion (05 R97, R120 to R125) -/

/-- nε per LSB of PHI (04 R97). -/
def strainPerLsb (s : State) (p : Nat) : Rat :=
  let v := pv s p
  (getP s 0x03 p pWAVELENGTH : Rat) * 10 ^ 12 / (1000 * 131072 * 78 * 1199169832 * (vn v pGAUGE * planK v) : Nat)

/-- E(s) in nε, where available (05 R120). -/
def fuseE (s : State) (p : Nat) (a : EAcc) : Option Rat :=
  if eAvailable a then some ((a.sum : Rat) / (a.used : Nat) * strainPerLsb s p) else none

/-- T_g(s) in kelvin, where available (05 R120). -/
def fuseT (tr : List TVal) (i g : Nat) : Option Rat :=
  let xs := (tr.drop i).take (g + 1)
  let ok := xs.filter (fun t => !t.q.testBit 4)
  if ok.isEmpty || 2 * ok.length < xs.length then none
  else some (meanQ (ok.map (fun t => (t.v : Rat))) / 1000 + 27315 / 100)

/-- ν × 0.78 in Hz (05 R119). -/
def nuXi (s : State) (p : Nat) : Rat := (299792458 * 10 ^ 12 : Nat) / (getP s 0x03 p pWAVELENGTH : Rat) * 78 / 100

/-- The strain equivalent of a track, −V / (ν × 0.78), in nε (05 R119, R123). -/
def trackStrain (s : State) (p : Nat) (v : Rat) : Rat := -v / nuXi s p * 1000000000

/-- The mean of V over the samples that E is the mean of (05 R122). -/
def vMean (a : EAcc) : Rat := (a.vSum : Rat) / (a.used : Nat)

/-- What a gauge's update gives: its state, FT and FS. -/
structure FuseOut where
  f : Fuse
  ft : TVal
  fs : TVal
  deriving DecidableEq, Repr

/-- FT from kelvin (05 R121). -/
def ftVal (t : Rat) (q : Nat) : TVal := ⟨satS 32 (roundQ (10000 * (t - 27315 / 100))), q⟩

/-- SPEC_LOST of a TQUAL. -/
def lostBit (f : Fuse) : Nat := 8 * bitN f.lostSince

/-- HOLDOVER of a gauge: since when, and whether FUSE_HOLD has run out (05 Table 05-3). -/
def holdStep (s : State) (p : Nat) (f : Fuse) : Fuse :=
  let t := f.holdSince.getD (nowClk s)
  { f with holdSince := some t
           holdOver := f.holdOver || decide (t + natP s 0x03 p pFUSE_HOLD * secTicks ≤ nowClk s) }

/-- No HOLDOVER. -/
def holdNone (f : Fuse) : Fuse := { f with holdSince := none, holdOver := false }

/-- b set from T_g, CONVERGING (05 R121). -/
def converge (s : State) (p : Nat) (f : Fuse) (x t : Rat) : Fuse :=
  { f with b := some (t - x), st := 1, stEnd := nowClk s + 3 * natP s 0x03 p pFUSE_TAU_FAST * secTicks }

/-- A gauge with E after its gaps: b and e_b carry over where the track does; otherwise b is to be set again and e_b keeps FS, and the next
FT and FS carry DISCONT (05 R122, R123; log 176). -/
def crossGaps (s : State) (p : Nat) (f : Fuse) (a : EAcc) (e : Rat) : Fuse :=
  let kt : Rat := getP s 0x03 p pFUSE_KT
  let y := trackStrain s p (vMean a) - trackStrain s p f.vBefore
  let tg := f.tgLast.getD 0
  if a.gaps.isEmpty then f
  else if a.gaps.all (gapBridged s p) && f.strainLast.isSome then
    { f with
      b := if f.b.isSome then f.ftLast.map (fun t => t - e / kt + y / kt) else none
      eb := f.strainLast.getD 0 - e + y
      st := 4, stEnd := nowClk s + natP s 0x03 p pFUSE_TAU * secTicks / 10 }
  else
    { f with
      b := none, oweFt := f.oweFt || f.b.isSome, oweFs := f.oweFs || f.fsLast.isSome
      eb := match f.fsLast, f.e0 with
        | some fs, some z => fs + kt * (tg - z.2) + z.1 - e
        | _, _ => f.eb }

/-- What an interval with E leaves behind: FT_last, E + e_b and the mean of V (05 R122, R123). -/
def noteE (f : Fuse) (a : EAcc) (e x : Rat) : Fuse :=
  { f with ftLast := f.b.map (fun b => x + b), strainLast := some (e + f.eb), vBefore := vMean a }

/-- One step of b towards T_g − X (05 R121). -/
def biasStep (s : State) (p : Nat) (f : Fuse) (b x t : Rat) : Fuse :=
  let tau := natP s 0x03 p (if f.st = 1 then pFUSE_TAU_FAST else pFUSE_TAU)
  { f with b := some (b + (t - x - b) * (((portOf s p).raman.lastLen : Nat) : Rat) / (tau * secTicks : Nat)) }

/-- THERMAL mode, after the gaps (05 R121, R122, R124). -/
def fuseThermal (s : State) (p : Nat) (f : Fuse) (crossed : Bool) (e t : Option Rat) : Fuse × TVal :=
  let l := lostBit f
  let d := 32 * bitN f.oweFt
  match e, t with
  | some e, some t =>
    let x := e / (getP s 0x03 p pFUSE_KT : Rat)
    let f := match f.b with
      | none => converge s p f x t
      | some b => if crossed then f else biasStep s p f b x t
    (holdNone { f with oweFt := false }, ftVal (x + f.b.getD 0) (d + f.st + l))
  | some e, none =>
    let x := e / (getP s 0x03 p pFUSE_KT : Rat)
    match f.b with
    | none => (f, ⟨0, 0x12 + l⟩)
    | some b =>
      let f := holdStep s p f
      if f.holdOver then (f, ⟨0, 0x12 + l⟩) else ({ f with oweFt := false }, ftVal (x + b) (d + 3 + l))
  | none, some t => (holdNone { f with oweFt := false }, ftVal t (d + 2 + l))
  | none, none => (f, ⟨0, 0x12 + l⟩)

/-- FS of SPLIT mode, after the gaps: a zero is captured at the first update with both routes after an FS_ZERO commit (05 R123, R124). -/
def fuseSplit (s : State) (p : Nat) (f : Fuse) (e t : Option Rat) : Fuse × TVal :=
  let l := lostBit f
  match e with
  | none => (f, ⟨0, 0x12 + l⟩)
  | some e =>
    let f := if t.isSome then holdNone f else holdStep s p f
    let tg := f.tgLast.getD 0
    let n := (portOf s p).raman.fsZero
    let f := if f.zeroed < n ∧ t.isSome then { f with e0 := some (e + f.eb, tg), zeroed := n } else f
    match f.e0 with
    | none => (f, ⟨0, 0x10 + l⟩)
    | some z =>
      if t.isNone && f.holdOver then (f, ⟨0, 0x12 + l⟩)
      else
        let fs := e + f.eb - z.1 - (getP s 0x03 p pFUSE_KT : Rat) * (tg - z.2)
        ({ f with fsLast := some fs, oweFs := false },
          ⟨satS 32 (roundQ (10 * fs)), 32 * bitN f.oweFs + l + (if t.isNone then 3 else 0)⟩)

/-- FT from Raman alone (05 R120, R123, R124). -/
def ftRaman (l : Nat) (t : Option Rat) : TVal :=
  match t with
  | some t => ftVal t (2 + l)
  | none => ⟨0, 0x11 + l⟩

/-- A gauge's products in the port's FUSE_MODE, from E and T_g, after the gaps (05 R120, R123, R124). -/
def fuseMode (s : State) (p : Nat) (f : Fuse) (crossed : Bool) (e t : Option Rat) : FuseOut :=
  let l := lostBit f
  match natP s 0x03 p pFUSE_MODE with
  | 0 => let q := fuseThermal s p f crossed e t; ⟨q.1, q.2, ⟨0, 0x13 + l⟩⟩
  | 1 => let q := fuseSplit s p f e t; ⟨q.1, ftRaman l t, q.2⟩
  | _ => ⟨holdNone f, ftRaman l t, ⟨0, 0x13 + l⟩⟩

/-- A gauge's update: its gaps are crossed, its products formed, unless it is DEAD, and E noted (05 R120 to R124). -/
def fuseGauge (s : State) (p i : Nat) : FuseOut :=
  let x := (portOf s p).raman
  let a := nth eNone (x.eDone.getD x.e) i
  let e := fuseE s p a
  let t := fuseT x.tr i (vn (pv s p) pGAUGE)
  let f := nth fuseNone x.fuse i
  let f := { f with tgLast := if t.isSome then t else f.tgLast }
  let f := match e with
    | some e => crossGaps s p f a e
    | none => f
  let r : FuseOut := if deadGauge s p i then ⟨f, ⟨0, 0x94⟩, ⟨0, 0x94⟩⟩ else fuseMode s p f (!a.gaps.isEmpty) e t
  let g := match e with
    | some e => noteE r.f a e (e / (getP s 0x03 p pFUSE_KT : Rat))
    | none => r.f
  { r with f := { g with lostSince := false } }

/-- The products of a port after an interval, with the fusion's state (05 R120 to R125). -/
def fuseUpdate (s : State) (p : Nat) : State :=
  let x := (portOf s p).raman
  let n := planN_ (pv s p)
  let g := vn (pv s p) pGAUGE
  let rs := (List.range (n - g)).map (fuseGauge s p)
  let tail := (List.range n).drop (n - g)
  let ft := rs.map (fun r => r.ft) ++ tail.map (fun i => if deadGauge s p i then ⟨0, 0x94⟩ else ftRaman 0 (fuseT x.tr i g))
  let fs := rs.map (fun r => r.fs) ++ tail.map (fun i => if deadGauge s p i then ⟨0, 0x95⟩ else ⟨0, 0x15⟩)
  let s := modRaman s p (fun x => { x with
    fuseDue := false, fuse := rs.map (fun r => r.f), ft := ft, fs := fs, eDone := none
    e := if x.eDone.isSome then x.e else x.e.map eRestart, eEnd := if x.eDone.isSome then x.eEnd else none })
  deliverTemp (deliverTemp s p 4 ⟨x.trTs, ft⟩) p 5 ⟨x.trTs, fs⟩

/-- FUSION_UPDATE: after an interval every gauge's FT and FS are formed and delivered, and the values that were in force in it are done with
(05 R107, R120 to R125). -/
def execFusionUpdate (port : Nat) (s : State) : Host.Outcome State Fault Refusal :=
  let x := (portOf s port).raman
  if x.fuseDue ∧ !x.trDue then
    let s := underOld s (fun s => fuseUpdate s port)
    .next (modRaman s port (fun x => { x with old := if productsDue x then x.old else [] }))
  else .next s

/-- The state with a gauge's fusion record changed. -/
def modFuse (s : State) (p i : Nat) (f : Fuse → Fuse) : State :=
  modRaman s p (fun x => { x with fuse := setNth x.fuse i (f (nth fuseNone x.fuse i)) })

/-- FUSION_STATE_TIMER: CONVERGING or BRIDGED ends and the gauge is NORMAL (05 R121, R122). -/
def execFusionStateTimer (port gauge : Nat) (s : State) : Host.Outcome State Fault Refusal :=
  let f := nth fuseNone (portOf s port).raman.fuse gauge
  if f.b.isSome ∧ f.st ≠ 0 ∧ f.stEnd ≤ nowClk s then .next (modFuse s port gauge (fun f => { f with st := 0 })) else .next s

/-- A value in HOLDOVER made INVALID with NO_SOURCE (05 Table 05-3). -/
def noSource (xs : List TVal) (i : Nat) : List TVal :=
  if (nth tvNone xs i).q.testBit 4 then xs else setNth xs i ⟨0, 0x12⟩

/-- FUSE_HOLD_EXPIRY: FUSE_HOLD runs out in HOLDOVER of the mode's product (05 R124). -/
def execFuseHoldExpiry (port gauge : Nat) (s : State) : Host.Outcome State Fault Refusal :=
  let f := nth fuseNone (portOf s port).raman.fuse gauge
  let mode := natP s 0x03 port pFUSE_MODE
  match f.holdSince with
  | some t =>
    if !f.holdOver ∧ mode < 2 ∧ t + natP s 0x03 port pFUSE_HOLD * secTicks ≤ nowClk s then
      let s := modFuse s port gauge (fun f => { f with holdOver := true })
      .next (modRaman s port (fun x => { x with
        ft := if mode = 0 then noSource x.ft gauge else x.ft, fs := if mode = 1 then noSource x.fs gauge else x.fs }))
    else .next s
  | none => .next s

/-! ### Takeover (05 R126) -/

/-- FT and FS of an adopted gauge, before the first interval of the new unit: HOLDOVER (05 R126). -/
def fuseAdopted (s : State) (p : Nat) (f : Fuse) : TVal × TVal :=
  let mode := natP s 0x03 p pFUSE_MODE
  let ft := match f.ftLast with
    | some t => ftVal t 3
    | none => ⟨0, 0x12⟩
  let fs := match f.fsLast with
    | some v => ⟨satS 32 (roundQ (10 * v)), 3⟩
    | none => ⟨0, 0x10⟩
  (if mode = 0 then ft else ⟨0, 0x11⟩, if mode = 1 then fs else ⟨0, 0x13⟩)

/-- A port's fusion runs on from the state of a checkpoint: TR is NOT_READY, FT and FS are in HOLDOVER, and a gap counts from now (05
R126). -/
def fusionAdopt (s : State) (p : Nat) (fuse : List Fuse) : State :=
  let n := planN_ (pv s p)
  let tail := List.replicate (n - fuse.length)
  let vs := fuse.map (fuseAdopted s p)
  modRaman s p (fun x => { x with
    fuse := fuse, tr := List.replicate n tvNone
    ft := vs.map (fun v => v.1) ++ tail ⟨0, 0x11⟩, fs := vs.map (fun v => v.2) ++ tail ⟨0, 0x15⟩
    e := fuse.map (fun f => { eNone with lastClk := nowClk s, lastRestarts := f.restarts, lastTrack := f.track })
    eEnd := none, eDone := none, trDue := false, fuseDue := false, ended := none, old := [] })

end Sys2Proof.Machine
end

