-- ==== Sys2Proof/Machine/Pair.lean ====
section
/-! DEFINITION. Machine/Pair.lean: the commands and events of an active and standby pair (17). -/

namespace Sys2Proof.Machine

/-! ### Checkpoints (17 R361, R362) -/

/-- The ports are drained: none RUNNING, none DRAINING. -/
def portsQuiet (s : State) : Bool :=
  [0, 1].all (fun p => decide ((portOf s p).st ≠ .running) && decide ((portOf s p).st ≠ .draining))

/-- CKPT_CUT: while ACTIVE, every CKPT_PERIOD_NOW at multiples of 250,000 ticks; while RELEASING the final one, at the end
of the drain (17 R361, Table 17-6). With one X-core left checkpoints stop (09 R216). -/
def execCkptCut (s : State) : Host.Outcome State Fault Refusal :=
  if xInService s < 2 then .next s
  else if s.pair.role = .active ∧ s.pair.cutAt ≤ s.time.ticks then
    let t := cutCkpt s (ts72 s.pair.cutAt 0)
    let at_ := s.pair.cutAt + ckptPeriodNow s * usTicks
    .next (modPair t (fun x => { x with cutAt := at_ }))
  else if s.pair.role = .releasing ∧ !s.pair.finalCut ∧ portsQuiet s then
    .next (modPair (cutCkpt s (nowTs s)) (fun x => { x with finalCut := true }))
  else .next s

/-- CKPT_PACKET_RX: a checkpoint packet is received; `whole` says, of CKPT_END, that the CRC over all payloads agrees (17
R362). -/
def execCkptPacketRx (packet : CkptPacket) (whole : Bool) (s : State) : Host.Outcome State Fault Refusal :=
  if linkUp s && pairOn s then .next (ckptTake s packet whole) else .next s

/-- CKPT_STALE_TIMER: no complete checkpoint for 1 ms on the standby (17 R362). -/
def execCkptStaleTimer (s : State) : Host.Outcome State Fault Refusal :=
  if s.pair.role = .standby ∧ max s.pair.ckptClk s.pair.roleAt + msTicks ≤ nowClk s then .next (raiseOnce s (raiseBlank 116))
  else .next s

/-! ### The wave (17 R356, R372) -/

/-- PEER_ACT_EDGE: the measurement of TDC channel 7 shows the peer's wave (17 R356). -/
def execPeerActEdge (s : State) : Host.Outcome State Fault Refusal :=
  match popMeas s 7 with
  | none => .next s
  | some (m, s) =>
    let clk := nowClk s - (s.time.ticks - m.tick)
    let s := modPair s (fun x => { x with peerEdge := some clk, wiringSince := none })
    .next (if isLive s 118 && (srcRec s 118).quietAt.isNone then quietIn s 118 secTicks else s)

/-- PAIR_WATCHDOG_LAPSE: the firmware has not fed the pair watchdog for 100 µs (17 R356). -/
def execPairWatchdogLapse (s : State) : Host.Outcome State Fault Refusal :=
  .next (modPair s (fun x => { x with lapsed := x.lapsed || x.wave }))

/-- A port is cut off at this instant: gates close, launches stop, nothing more of it is delivered; it is ARMED, with an
accepted plan in force (17 R356, R360, R372). -/
def cutPort (s : State) (p : Nat) : State :=
  let x := portOf s p
  if x.st ≠ .running ∧ x.st ≠ .draining then s
  else
    let now := nowTs s
    let s := modPort s p (fun x => { x with
      st := .armed, stop := .none, drain := none, changing := false, shotNext := none, trigTick := none, shotOpen := false
      lmonWait := [], rowsDue := [], lock := lockOff, gateTo := min x.gateTo now, tgateTo := min x.tgateTo now
      glvlTo := min x.glvlTo now, proofTo := min x.proofTo now, chirp := none, ph := { x.ph with rows := [], ahead := [] } })
    let s := ramanDiscard s p
    let s := if x.nextPlan.isEmpty then s else forcePlan s p x.nextPlan
    let s := (zonesOfPort s p).foldl (fun s z => modZone s z (fun y => { y with inq := [], inqB := [] })) s
    onPortStopped s p

/-- The wave stops, with every gate and launch; closing frames are handed over and hanks truncated (17 R356, R372). -/
def stopWave (s : State) : State :=
  let holds := decide (s.pair.role = .active) || decide (s.pair.role = .claiming) || decide (s.pair.role = .releasing)
  let s := if holds then setRole s .faulted else s
  let s := modPair s (fun x => { x with wave := false, lapsed := false, adopting := [], release := false })
  loopsHold (compKick ([0, 1].foldl cutPort s))

/-- The wave stops if a change to a role without a wave, a lapsed watchdog, or a live source of the stopping severity asks it to
(17 R356). -/
def waveStops (s : State) : State :=
  let role := s.pair.role
  let keeps := decide (role = .active) || decide (role = .claiming) || decide (role = .releasing)
  if s.pair.wave && (s.pair.lapsed || pairStops s || !keeps) then stopWave s else s

/-- PAIR_WIRING_TIMER: STATUS has shown ROLE ACTIVE for 100 µs with the wave absent (17 R366). -/
def execPairWiringTimer (s : State) : Host.Outcome State Fault Refusal :=
  match s.pair.wiringSince with
  | some t =>
    if s.pair.role = .standby && waveAbsent s && decide (t + 100 * usTicks ≤ nowClk s) then .next (raiseOnce s (raiseBlank 118))
    else .next s
  | none => .next s

/-! ### Claims (17 R366 to R369) -/

/-- May the standby claim (17 R366; 16 R353 HOLD; Table 17-6)? -/
def mayClaim (s : State) : Bool :=
  let held := match s.pair.peer with
    | some p => p.hold
    | none => false
  let waits := s.pair.release && (match s.pair.swapEnd with | some t => decide (nowClk s < t) | none => false)
  pairOn s && decide (s.pair.role = .standby) && decide (s.pair.roleAt + peerLoss s ≤ nowClk s) && waveAbsent s &&
    lostSince s s.pair.fibreAt && !held && !waits

/-- The earliest shot of a claim: claim + PAIR_SWITCH_US, in ticks (17 R367). -/
def claimTick (s : State) : Nat := s.time.ticks + natP s 0x0B 0 lPAIR_SWITCH_US * usTicks

/-- The first predicted start at or after a time, as its cycle's edge and its index in the cycle (17 R367; 02 R43). -/
def predictedStart (refTs tRef mult least : Nat) : Nat × Nat :=
  let k0 := if tRef = 0 then 0 else (least - refTs) / tRef - 1
  let cands := ((List.range 4).map (fun k => (List.range mult).map (fun i => (refTs + (k0 + k) * tRef, i)))).flatten
  (cands.find? (fun (q : Nat × Nat) => decide (least ≤ nearestTick (q.1 + nominalLatency) + cycleOffset tRef mult q.2))).getD
    (refTs, 0)

/-- A port in LOCKED mode starts in HOLDOVER (17 R367). -/
def claimLocked (s : State) (p : Nat) (c : CkptPort) : State :=
  let mult := lockMult s p
  let tRef := tk c.refPeriod
  if tRef = 0 then modPort s p (fun x => { x with lock := { lockOff with st := .acquiring } })
  else
    let q := predictedStart c.refTs tRef mult (ts72 (claimTick s) 0)
    let anchor := nearestTick (q.1 + nominalLatency)
    let s := modPort s p (fun x => { x with
      lock := ⟨.holdover, tRef, some c.refTs, some q.1, anchor, q.2, mult, tRef⟩ })
    let s := refLost (reportRef s p tRef) p
    scheduleCycle s p false

/-- A claimed port starts: shots 0 and 1 are the restart of 04 R94; its counts go on (17 R367, R369; 01 R30; 04 R98). -/
def claimPort (s : State) (p : Nat) (c : CkptPort) : State :=
  let s := ramanDiscard (breakRestart (phaseRestart s p) p) p
  let n := planN_ (pv s p)
  let mode := launchMode s p
  let leads := decide (governor s p = p)
  let first := if leads && decide (mode ≠ 2) then some (ts72 (ceil8 (claimTick s)) 0 + Config.pinDelay) else none
  let fuse := (List.range (n - vn (pv s p) pGAUGE)).map (fun i => (kget noRec s.pair.fusion (p * 2 ^ 20 + i)).getD fuseNone)
  let s := modPort (fusionAdopt s p fuse) p (fun x => { x with
      st := .running, stop := .none, drain := none, changing := false, startAt := 0, launched := false, shotNext := first
      trigTick := none, trigIn := false, holdIn := false, shotOpen := false, shots := 0, planShots := 0, plyNext := 0
      clips := [], secFrom := nowClk s, clipNow := 0, rawNow := 0, satNow := 0, outNow := 0, lock := lockOff })
  let s := if leads && decide (mode = 2) then claimLocked s p c else s
  let s := if (portOf s p).calFg.isSome then calAbortRun (calAbortRun (fgDrop s p) 0 p) 0 0xFF else s
  onPortStarted s p

/-- A zone keeps the checkpointed freeze and μ, and its first frame carries GAP (17 R369). -/
def claimZone (s : State) (z : Nat) : State :=
  let rec_ := (s.pair.ckpt.map (fun c => c.zones)).getD []
  let s := setRing s z { ringOf s z with gapNext := true }
  match rec_.find? (fun r => r.zone = z) with
  | none => s
  | some r => modZone s z (fun x => { x with
      resetDue := true, frozen := r.frozen, keepMu := true
      mu := (List.range (zcount (zview s z))).map (fun q => (kget noRec s.pair.zstitch (z * 2 ^ 20 + q)).bind (fun y => y.mu)) })

/-- The rings of armed skeins start empty (17 R360). -/
def claimSkeins (s : State) : State :=
  (skeinsWith (skRuns s)).foldl (fun s k => modSk s k (fun x => { x with
    rows := [], launches := [], armedAt := nowClk s, armedTick := s.time.ticks })) s

/-- The ports that a claim starts: RUNNING in the checkpoint and ARMED here (17 R367). -/
def claimPorts (s : State) : List (Nat × CkptPort) :=
  match s.pair.ckpt with
  | none => []
  | some c => (ckptRuns c).filter (fun (q : Nat × CkptPort) => decide ((portOf s q.1).st = .armed))

/-- The standby claims the fibre (17 R358, R367). -/
def claim (s : State) : State :=
  let ps := claimPorts s
  let s := bumpP (raiseEpoch s) 0x0B 0 lTAKEOVERS
  let s := setP s 0x0B 0 lDISCONT_LAST 0
  let s := modPair (setRole s .claiming) (fun x => { x with
    wave := true, claimAt := nowClk s, started := ps.map (fun (q : Nat × CkptPort) => q.1)
    adopting := ps.map (fun (q : Nat × CkptPort) => q.1), qtest := [], gapFrom := some (x.peerEdge.getD (nowClk s))
    lapsed := false, release := false, finalCut := false })
  let s := detectSrc s 30
  let s := if canSend s then sendStatus s else s
  let s := ps.foldl (fun s (q : Nat × CkptPort) => claimPort s q.1 q.2) s
  let s := ((List.range 128).filter (zoneEnabled s)).foldl claimZone s
  loopsHold (claimSkeins s)

/-- PEER_LOSS_CLAIM: the peer's wave and STATUS have been absent for PEER_LOSS_US (17 R366). -/
def execPeerLossClaim (s : State) : Host.Outcome State Fault Refusal :=
  if mayClaim s then .next (claim s) else .next s

/-! ### The quality test (17 R370) -/

/-- Have the rows of shots 0 and 1 of a port been delivered? -/
def qtestReady (s : State) (p : Nat) : Bool :=
  decide (2 * planP_ (pv s p) ≤ (kget qtestBlank s.pair.qtest p).rows)

/-- Does a port fail, with the noise floor measured in the open selvedge as a mean AMP² (17 R370)? AMP² is |z|² / 4. A port
without a swatch window has no window to judge. -/
def qtestFails (s : State) (p : Nat) (floor : Rat) : Bool :=
  let q := kget qtestBlank s.pair.qtest p
  let mean : Rat := (q.power : Rat) / (4 * max 1 q.count : Nat)
  q.missing || q.degraded || decide (q.seen < 100 * q.flagged) ||
    (decide (q.count ≠ 0) && decide (mean ^ 10 < floor ^ 10 * (10 ^ natP s 0x0B 0 lQTEST_MARGIN : Nat)))

/-- Is the peer healthy: its STATUS within the last 1 ms showed STANDBY or RELEASING with NO_CAUSE (17 R370)? -/
def peerHealthy (s : State) : Bool :=
  match s.pair.peer with
  | some p => decide (nowClk s ≤ p.clk + msTicks) && (decide (p.role = 1) || decide (p.role = 4)) && healthNoCause p.health
  | none => false

/-- Withheld output since the claim is discarded (17 R370). -/
def dropWithheld (s : State) : State :=
  let s := (List.range 130).foldl (fun s r =>
    let x := ringOf s r
    if x.queue.isEmpty then s
    else setRing s r { x with queue := x.queue.filter (fun q => decide (q.since < s.pair.claimAt)) }) s
  { s with comp := { s.comp with waiting := [] }, cap := { s.cap with evRecs := [] } }

/-- The swap that this unit's claim belongs to ends (17 R373). -/
def swapOver (s : State) (r : Reply) : State :=
  complete (modPair s (fun x => { x with swapEnd := none })) .pairSwap r

/-- QUALITY_TEST: the rows of shots 0 and 1 are judged, `floors` being the noise floors measured, by port (17 R370). -/
def execQualityTest (floors : List Rat) (s : State) : Host.Outcome State Fault Refusal :=
  if s.pair.role = .claiming ∧ s.pair.started.all (qtestReady s) then
    if s.pair.started.any (fun p => qtestFails s p (nth 0 floors p)) then
      if peerHealthy s then
        .next (swapOver (detectSrc (dropWithheld (stopWave s)) 119) (statusOnly stAborted))
      else .next (swapOver (detectSrc (enterRoleActive s) 31) (okWith (leBytes 4 (epochOf s))))
    else .next (swapOver (clearIf (clearIf (enterRoleActive s) 31) 119) (okWith (leBytes 4 (epochOf s))))
  else .next s

/-! ### Planned swap (17 R373) -/

/-- SCLK ticks within which a swap ends: 3 × T_shot + PAIR_SWITCH_US + 2 ms (17 R373). -/
def swapSpan (s : State) : Nat :=
  3 * max (planNShot (pv s 0)) (planNShot (pv s 1)) + natP s 0x0B 0 lPAIR_SWITCH_US * usTicks + 2 * msTicks

/-- Is one unit ACTIVE and the other STANDBY with READY set (17 R373)? -/
def swapReadyNow (s : State) : Bool :=
  match s.pair.peer with
  | none => false
  | some p =>
    (decide (s.pair.role = .active) && decide (p.role = 1) && healthReady p.health) ||
      (decide (s.pair.role = .standby) && decide (p.role = 2) && healthReady (health s))

/-- A swap begins: the active unit asks with SWAP_PREPARE, a ready standby answers at once with SWAP_READY (17 R373; log
99). -/
def swapBegin (s : State) : State :=
  let s := sendBodies s [if s.pair.role = .active then .swapPrepare else .swapReady]
  modPair s (fun x => { x with swapEnd := some (nowClk s + swapSpan s) })

/-- PAIR_SWAP (17 R373). -/
def bodyPairSwap (s : State) : State × Answer :=
  match slotWaiting s .pairSwap with
  | some k => reply s (busy k)
  | none => if pairOn s && swapReadyNow s then (swapBegin s, .later .pairSwap) else reply s (badState 0 0)

/-- PAIR_SWAP (17 R373). -/
def execPairSwap (r : Req) (s : State) : Host.Outcome State Fault Refusal :=
  .next (mbxRun (.pairSwap r) r 0x0B03 false bodyPairSwap s)

/-- SWAP_PREPARE_RX: the standby replies SWAP_READY when READY still holds (17 R373). -/
def execSwapPrepareRx (s : State) : Host.Outcome State Fault Refusal :=
  if s.pair.role = .standby ∧ healthReady (health s) then .next (swapBegin s) else .next s

/-- SWAP_READY_RX: the active unit releases at the end of its shot (17 Table 17-6). -/
def execSwapReadyRx (s : State) : Host.Outcome State Fault Refusal :=
  if s.pair.role = .active then
    let s := modPair s (fun x => { x with release := true, finalCut := false, swapEnd := some (x.swapEnd.getD (nowClk s + swapSpan s)) })
    let s := ([0, 1].filter (fun p => decide ((portOf s p).st = .running))).foldl stopPort s
    .next (if portsQuiet s then pairDrains s else s)
  else .next s

/-- The final checkpoint is complete at the peer: the wave stops, STANDBY (17 Table 17-6). -/
def swapReleased (s : State) : State :=
  if s.pair.role = .releasing ∧ s.pair.finalCut then
    loopsHold (modPair (setRole s .standby) (fun x => { x with wave := false, finalCut := false }))
  else s

/-! ### PAIR_CONFIG and PAIR_STATUS (16 R351; 17 R357, R375) -/

/-- The RW items of domain 0x0B. -/
def pairItem (o : Nat) : Bool := decide (objDom o = 0x0B) && decide (objInst o = 0)

/-- PAIR_ENABLE has gone from one value to another: STANDBY or UNPAIRED, both without a wave (17 R357; log 100). -/
def pairEnabled (s : State) (was : Bool) : State :=
  if was == pairOn s then s
  else if pairOn s then
    let s := modPair (setRole s .standby) (fun x => { x with wave := false, release := false, swapEnd := none })
    loopsHold (([0, 1].filter (fun p => decide ((portOf s p).st = .running))).foldl stopPort s)
  else
    loopsHold { s with pair := { pairBlank with ckptSeq := s.pair.ckptSeq, roleAt := nowClk s } }

/-- The items of the link act: PL_ENABLE = 0 as ACTION 0; PL_ENABLE = 1 leaves DISABLED and BLOCKED (16 R351, Table
16-3). -/
def linkEnabled (s : State) : State :=
  if getP s 0x0B 0 lPL_ENABLE = 0 then (if s.purl.st = .disabled then s else linkDown s)
  else if s.purl.st = .disabled || s.purl.st = .blocked then enterDetect (modPurl s (fun x => { x with capsFails := 0 })) else s

/-- The staged items of domain 0x0B take effect (16 R351; 17 R375). -/
def pairCommit (s : State) : State :=
  linkEnabled (pairEnabled (applyStaged s pairItem) (pairOn s))

/-- PAIR_CONFIG (15 R328; 16 R351). -/
def execPairConfig (r : Req) (s : State) : Host.Outcome State Fault Refusal :=
  .next (mbxRun (.pairConfig r) r 0x0B01 false (fun s => (pairCommit s, .final okBare)) s)

/-- PAIR_STATUS (15 Table 15-11). -/
def bodyPairStatus (s : State) : State × Answer :=
  let peer := match s.pair.peer with
    | some p => p.role
    | none => 0
  reply s (okWith (leBytes 1 (roleCode s.pair.role) ++ leBytes 1 peer ++ leBytes 1 (linkCode s) ++ zeros 1 ++
    leBytes 4 (epochOf s) ++ tsBytes s.pair.lastCkpt))

/-- PAIR_STATUS (15 R332). -/
def execPairStatus (r : Req) (s : State) : Host.Outcome State Fault Refusal :=
  .next (mbxRun (.pairStatus r) r 0x0B02 false bodyPairStatus s)

end Sys2Proof.Machine
end

