-- ==== Sys2Proof/Machine/Skein.lean ====
section
/-! DEFINITION. Machine/Skein.lean: skeins: definition, arming, hanks, reading (07 R158 to R173). -/

namespace Sys2Proof.Machine

/-! ### Definition (07 R159 to R162) -/

/-- BAD_PARAM naming an item of a skein. -/
def badSkein (k item : Nat) : Reply := badParam (objId 5 k item) k

/-- The zone of a zone skein fails R161: not defined, or PRE too long. -/
def zoneSkeinFault (s : State) (v : SView) : Option Nat :=
  let z := sn v kSOURCE_ZONE
  if !zoneDefined s z then some kSOURCE_ZONE
  else if ringRows (zview s z) v < sn v kPRE + 64 then some kPRE
  else none

/-- The first item of a definition that fails: ranges of the kind, then R160 or R161. -/
def skeinItemFault (s : State) (v : SView) : Option Nat :=
  let raw := skRaw v
  let w := pv s (sn v kSOURCE_KIND)
  if raw && decide (6690 < sn v kPRE) then some kPRE
  else if raw && decide (100000 < sn v kPOST) then some kPOST
  else if raw && decide (sn v kRING_KIB < 1024) then some kRING_KIB
  else if raw then
    if planN_ w ≤ sn v kRAW_FIRST_STITCH + sn v kRAW_STITCH_COUNT - 1 then some kRAW_STITCH_COUNT
    else if segPlies w v = 0 then some kRAW_PLY_MASK
    else if preTooLong v then some kPRE
    else none
  else zoneSkeinFault s v

/-- The skein that holds the TRIGOUT pin of a definition, if another does (07 R162). -/
def pinHolder (s : State) (k : Nat) (v : SView) : Option Nat :=
  match skPin v with
  | none => none
  | some _ => (skeinsWith (fun j => decide (j ≠ k) && skDefined s j && decide (sn (skview s j) kTRIGOUT_SEL = sn v kTRIGOUT_SEL))).head?

/-- Bytes of the capture area that every defined skein but one takes. -/
def spaceUsed (s : State) (but : Nat) : Nat :=
  sumN ((skeinsWith (fun j => decide (j ≠ but) && skDefined s j)).map (fun j =>
    let v := skview s j
    skSpace (skPlan s v) (zview s (sn v kSOURCE_ZONE)) v))

/-- The objects that a SKEIN_CREATE applies. -/
def skeinItem (k o : Nat) : Bool :=
  decide (objDom o = 0x05) && decide (objInst o = k) && decide (objItem o < 0x80)

/-- CAP_SKEIN_CREATE (07 R159 to R162, R166). -/
def bodyCapSkeinCreate (k : Nat) (s : State) : State × Answer :=
  if 31 < k then reply s (badField 0)
  else
    let v := skstaged s k
    let st := (skOf s k).st
    if sn v kSOURCE_KIND = 15 then
      if st ≠ .idle then reply s (badState 0 k)
      else
        let s := applyStaged s (skeinItem k)
        (setSk s k (skeinBlank k), .final (okWith (zeros 12)))
    else
      match skeinItemFault s v with
      | some i => reply s (badSkein k i)
      | none =>
        if st ≠ .idle && st ≠ .undefined then reply s (badState 0 k)
        else
          match pinHolder s k v with
          | some j => reply s (badState (0x0502 + sn v kTRIGOUT_SEL) j)
          | none =>
            let z := zview s (sn v kSOURCE_ZONE)
            if skRaw v && decide ((10000000000 : Rat) < segRate (skPlan s v) v) then reply s (noResource 0x0506 k)
            else if captureArea s < spaceUsed s k + skSpace (skPlan s v) z v then reply s (noResource 0x0505 k)
            else
              let s := applyStaged s (skeinItem k)
              (setSk s k { skeinBlank k with st := .idle },
                .final (okWith (leBytes 8 (hankBytes (skPlan s v) z v) ++ leBytes 4 (segRateKb s v))))

/-- CAP_SKEIN_CREATE (07 R162). -/
def execCapSkeinCreate (r : Req) (skein : Nat) (s : State) : Host.Outcome State Fault Refusal :=
  .next (mbxRun (.capSkeinCreate r skein) r 0x0501 false (bodyCapSkeinCreate skein) s)

/-! ### Arming (07 R163, R164, R166) -/

/-- Another raw skein of a port that is not IDLE (07 R164). -/
def rawArmed (s : State) (k : Nat) (v : SView) : Option Nat :=
  if !skRaw v then none
  else (skeinsWith (fun j => decide (j ≠ k) && skRuns s j && decide (sn (skview s j) kSOURCE_KIND = sn v kSOURCE_KIND))).head?

/-- CAP_ARM (07 R161, R164, R166). -/
def bodyCapArm (k : Nat) (s : State) : State × Answer :=
  if 31 < k then reply s (badField 0)
  else
    let v := skview s k
    match (if skDefined s k && !skRaw v then zoneSkeinFault s v else none) with
    | some i => reply s (badSkein k i)
    | none =>
      if (skOf s k).st ≠ .idle then reply s (badState 0 k)
      else
        match rawArmed s k v with
        | some j => reply s (badState (0x0501 + sn v kSOURCE_KIND) j)
        | none =>
          if dramLimit (natP s 0x10 0 mFSP_NOW) < dramLoad s (sceneNow s) [v] [] (natP s 0x10 0 mP7_RESERVE) then
            reply s (noResource 0x1001 k)
          else
            (modSk s k (fun x => { x with
              st := .armed, rows := [], launches := [], marks := [], cap := none, armedAt := nowClk s
              armedTick := s.time.ticks, truncated := false, gap := false, holes := [], lost := [] }), .final okBare)

/-- CAP_ARM (07 R164). -/
def execCapArm (r : Req) (skein : Nat) (s : State) : Host.Outcome State Fault Refusal :=
  .next (mbxRun (.capArm r skein) r 0x0502 false (bodyCapArm skein) s)

/-! ### Writing a hank (07 R167 to R172) -/

/-- The raw word of a channel at a tick (07 R172; log 51). -/
def rawWordAt (tap : List (Nat × List Int)) (c t : Nat) : Int :=
  match tap.find? (fun q => q.1 = t) with
  | some q => nth 0 q.2 c
  | none => Config.rawWord c t

/-- The bytes of the four words of a tick: XI, XQ, YI, YQ. -/
def tickBytes (tap : List (Nat × List Int)) (t : Nat) : List Byte :=
  ([0, 1, 2, 3].map (fun c => leBytesI 2 (rawWordAt tap c t))).flatten

/-- FLAGS of a segment (07 Table 07-8). -/
def segFlags (s : State) (p : Nat) (l : Launch) (start w : Nat) : Nat :=
  let sp : Int × Int := (start, (start + w : Nat) - 1)
  let bad := [0, 1, 2, 3].any (fun c =>
    let a := adcOf s p c
    a.suspect.any (fun i => meets sp i.1 i.2) || a.fgPast.any (fun i => meets sp i.1 (some i.2)) ||
      (match a.fgSince with | some t => meets sp t none | none => false))
  let clip := spanClipped (portOf s p) false sp || spanClipped (portOf s p) true sp
  bitN l.missing + 2 * bitN bad + 4 * bitN clip

/-- A segment: its header and W ticks of samples (07 R172, Table 07-8). -/
def segmentBytes (s : State) (p : Nat) (q : Launch × Nat × Nat) : List Byte :=
  tsBytes q.1.tL ++ tsBytes (ts72 q.2.1 0) ++ leBytes 4 q.1.shot ++ zeros 1 ++ leBytes 1 q.1.ply ++
    leBytes 1 (segFlags s p q.1 q.2.1 q.2.2) ++ zeros 1 ++
    ((List.range q.2.2).map (fun i => tickBytes (portOf s p).tap (q.2.1 + i))).flatten

/-- What a hank holds of its source: units before and from the trigger point on, the data, their flags, whether the ring
was short, UNIT_SIZE. -/
structure HankData where
  pre : Nat
  post : Nat
  bytes : List Byte
  flags : Nat
  short : Bool
  unit : Nat

/-- Does a mark of a kind lie in a window? -/
def marked (x : Skein) (kind : MarkKind) (a b : Nat) : Bool :=
  x.marks.any (fun m => decide (m.2 = kind) && decide (a ≤ m.1) && decide (m.1 < b))

/-- FLAGS bits that the marks in a window set: GAP of a hole before the trigger, DISCONT of a plan change in a raw hank, DEAD of a
declared break (07 R171; 13 R290). -/
def markFlags (raw : Bool) (x : Skein) (a trig b : Nat) : Nat :=
  2 * bitN (marked x .hole a trig) + 8 * bitN (raw && marked x .plan a b) + 16 * bitN (marked x .dead a b)

/-- A unit that was lost is absent: to the ring, where it comes before the trigger, or at the capture writer (07 R165; 13 R290). -/
def unitLost (x : Skein) (trig unit : Nat) : Bool :=
  x.lost.contains unit || (decide (unit < trig) && x.holes.contains unit)

/-- Does a segment reach into the drain of a plan change (07 R171; log 182)? -/
def inDrain (x : Skein) (q : Launch × Nat × Nat) : Bool :=
  x.marks.any (fun m => decide (m.2 = .drain) && decide (q.1.gate < m.1) && decide (tickOf m.1 < q.2.1 + q.2.2))

/-- The segments of a raw hank: launches whose edge lies in the window, as far as they have been written (07 R167). -/
def rawHank (s : State) (k trig heldFrom : Nat) : HankData :=
  let v := skview s k
  let x := skOf s k
  let p := skPort s v
  let from_ := trig - tk (sn v kPRE * usTicks)
  let upTo := trig + tk (sn v kPOST * usTicks)
  let segs := x.launches.filter (fun (q : Launch × Nat × Nat) =>
    decide (from_ ≤ q.1.gate) && decide (q.1.gate < upTo) && decide (q.2.1 + q.2.2 ≤ s.time.ticks + 1) &&
      !unitLost x trig q.1.gate && !inDrain x q)
  ⟨(segs.filter (fun (q : Launch × Nat × Nat) => decide (q.1.gate < trig))).length,
    (segs.filter (fun (q : Launch × Nat × Nat) => decide (trig ≤ q.1.gate))).length,
    (segs.map (segmentBytes s p)).flatten, markFlags true x from_ trig upTo, decide (from_ < ts72 heldFrom 0), segTicks (pv s p) v⟩

/-- The index of the trigger row. -/
def triggerIndex (x : Skein) (trig : Nat) : Nat := (x.rows.takeWhile (fun r => decide (r.label < trig))).length

/-- The rows of a zone hank, with their indices from the trigger row, but for those that were lost (07 R165, R167). -/
def zoneHank (s : State) (k trig : Nat) : HankData :=
  let v := skview s k
  let x := skOf s k
  let i := triggerIndex x trig
  let pre := min (sn v kPRE) i
  let all := (x.rows.drop (i - pre)).take (pre + sn v kPOST)
  let rows := ((List.range all.length).map (fun (n : Nat) => ((((n : Nat) : Int) - pre), nth ⟨0, [], 0⟩ all n))).filter
    (fun (q : Int × RingRow) => !unitLost x trig q.2.label)
  let data := rows.map (fun (q : Int × RingRow) => tsBytes q.2.label ++ leBytesI 4 q.1 ++ q.2.body)
  let q := rows.foldl (fun f (r : Int × RingRow) => f ||| r.2.qual) 0
  let first := ((all.head?).map (fun r => r.label)).getD trig
  let last := ((all.getLast?).map (fun r => r.label)).getD trig
  let before := (rows.filter (fun (q : Int × RingRow) => decide (q.1 < 0))).length
  ⟨before, rows.length - before, data.flatten,
    (8 * bitN (q.testBit 5) + 16 * bitN (q.testBit 7)) ||| markFlags false x first trig (last + 1),
    decide (pre < sn v kPRE), skRowBytes (zview s (sn v kSOURCE_ZONE))⟩

/-- SIGNAL_DELAY of a hank in ticks (07 R154, Table 07-7). -/
def signalDelay (s : State) (v : SView) (cause : Nat) : Nat :=
  if skRaw v then 0
  else
    match [0, 1, 2, 3].find? (fun n => cause.testBit n) with
    | some n =>
      let det := sn v (kTRIG_DET + n)
      let z := det / 4
      let zv := zview s z
      let per := (zoneOf s z).period
      let win := zn zv (zdet zDET_WIN (det % 4))
      (roundQ ((chainDelay zv per + ((61 + win : Nat) : Rat) / 2 * (per : Rat)) / 256)).toNat
    | none =>
      let z := sn v kSOURCE_ZONE
      (roundQ (chainDelay (zview s z) (zoneOf s z).period / 256)).toNat

/-- An entry of the in-capture list (07 R172). -/
def inCapEntry (c : Cond) : List Byte := tsBytes c.ts ++ leBytes 2 c.mask ++ zeros 2

/-- The hank of the present capture is written and held (07 R167 to R172). -/
def writeHank (s : State) (k : Nat) (truncated : Bool) : State :=
  let v := skview s k
  let x := skOf s k
  match x.cap with
  | none => s
  | some c =>
    let raw := skRaw v
    let sp := splitConds raw x c.conds
    let trig := trigTs raw x c.conds
    let cause := sp.1.foldl (fun a (q : Cond) => a ||| q.mask) 0
    let extra := sp.2.length
    let d := if raw then rawHank s k trig c.heldFrom else zoneHank s k trig
    let list := ((sp.2.take 8).map inCapEntry).flatten
    let list := list ++ zeros (128 - list.length)
    let s := if x.gap || d.flags.testBit 1 then s else clearIf s 68
    let flags := bitN d.short + 4 * bitN (cause.testBit 8) + (d.flags ||| (2 * bitN x.gap)) + 32 * bitN (decide (8 < extra)) +
      64 * bitN truncated
    let zone := if sn v kSOURCE_KIND = 2 then sn v kSOURCE_ZONE else 0
    let head := leBytes 2 0x484B ++ leBytes 1 1 ++ zeros 4 ++ leBytes 1 k ++ leBytes 1 (sn v kSOURCE_KIND) ++ leBytes 1 zone ++
      leBytes 1 s.boot.unitId ++ leBytes 1 flags ++ leBytes 4 (epochOf s) ++ leBytes 4 x.seqNext ++ tsBytes trig ++
      leBytes 2 cause ++ leBytes 2 extra ++ leBytes 4 d.pre ++ leBytes 4 d.post ++ leBytes 4 d.unit ++
      leBytes 8 d.bytes.length ++ leBytes 4 (signalDelay s v cause) ++ leBytes 4 (crc32c (list ++ d.bytes))
    setSk s k { x with
      cap := none, hanks := x.hanks ++ [⟨x.seqNext, trig, flags, head ++ list ++ d.bytes⟩]
      seqNext := (x.seqNext + 1) % 2 ^ 32, incapLost := x.incapLost + (extra - 8) }

/-- Is the post window of a raw capture complete (07 R167)? -/
def rawPostDone (s : State) (k trig : Nat) : Bool :=
  let v := skview s k
  let x := skOf s k
  let y := portOf s (skPort s v)
  let upTo := trig + tk (sn v kPOST * usTicks)
  decide (tickOf upTo ≤ s.time.ticks) && !y.lmonWait.any (fun l => decide (l.gate < upTo)) &&
    x.launches.all (fun (q : Launch × Nat × Nat) => decide (upTo ≤ q.1.gate) || decide (q.2.1 + q.2.2 ≤ s.time.ticks + 1))

/-- Is the post window of a zone capture complete? -/
def zonePostDone (s : State) (k trig : Nat) : Bool :=
  let x := skOf s k
  decide (triggerIndex x trig + sn (skview s k) kPOST ≤ x.rows.length)

/-- HANK_POST_COMPLETE: the post window of a capture is complete, or its port or zone has stopped; the hank is written and
the skein re-arms (07 R166, R169, R171). -/
def execHankPostComplete (skein : Nat) (s : State) : Host.Outcome State Fault Refusal :=
  let x := skOf s skein
  match x.cap with
  | none => .next s
  | some c =>
    let raw := skRaw (skview s skein)
    let trig := trigTs raw x c.conds
    let done := if raw then rawPostDone s skein trig else zonePostDone s skein trig
    if done || x.truncated then
      let s := writeHank s skein (x.truncated && !done)
      .next (modSk s skein (fun y => { y with st := .rearm, truncated := false, gap := false, lost := [], rearmAt := nowClk s }))
    else .next s

/-- A skein leaves its running states: a CAP_FORCE that waits is aborted (15 Table 15-8). -/
def skeinStops (s : State) (k : Nat) : State :=
  let s := modSk s k (fun x => { x with st := .idle, forceAt := none })
  complete s (.capForce k) (statusOnly stAborted)

/-- SKEIN_REARM: ARMED, or HELD with every buffer full, or IDLE after a one-shot (07 Table 07-6). -/
def execSkeinRearm (skein : Nat) (s : State) : Host.Outcome State Fault Refusal :=
  let x := skOf s skein
  let v := skview s skein
  if x.st ≠ .rearm then .next s
  else if sn v kONESHOT = 1 then .next (skeinStops s skein)
  else if sn v kHANK_DEPTH ≤ x.hanks.length then .next (modSk s skein (fun y => { y with st := .held }))
  else .next (modSk s skein (fun y => { y with st := .armed }))

/-- Conditions registered in the tick of a CAP_DISARM are not counted: neither as missed nor in a hank (07 R169). -/
def disarmMissed (x : Skein) (now : Nat) : Skein :=
  let old := x.missedList.filter (fun m => decide (m.1.at_ ≠ now))
  { x with missed := x.missed - (x.missedList.length - old.length), missedList := old }

/-- A capture that a CAP_DISARM ends: its hank closes with TRUNCATED, or, where the tick itself opened it, there is none and the pin is not
pulsed (07 R166, R169). -/
def disarmCapture (s : State) (k : Nat) (c : Capture) : State :=
  let now := s.time.ticks
  let old := c.conds.filter (fun q => decide (q.at_ ≠ now))
  if old.isEmpty then
    let s := modSk s k (fun y => { y with cap := none })
    match skPin (skview s k) with
    | some p => { s with cap := { s.cap with trigOut := setNth s.cap.trigOut p c.pulse } }
    | none => s
  else writeHank (modSk s k (fun y => { y with cap := some { c with conds := old } })) k true

/-- CAP_DISARM (07 R166, R169). -/
def bodyCapDisarm (k : Nat) (s : State) : State × Answer :=
  if 31 < k then reply s (badField 0)
  else
    let x := skOf s k
    match x.st with
    | .armed => (skeinStops s k, .final okBare)
    | .held => (skeinStops (setSk s k (disarmMissed x s.time.ticks)) k, .final okBare)
    | .capturing =>
      let s := match x.cap with
        | some c => disarmCapture s k c
        | none => s
      (skeinStops s k, .final okBare)
    | _ => reply s (badState 0 k)

/-- CAP_DISARM (07 R166). -/
def execCapDisarm (r : Req) (skein : Nat) (s : State) : Host.Outcome State Fault Refusal :=
  .next (mbxRun (.capDisarm r skein) r 0x0503 false (bodyCapDisarm skein) s)

/-! ### Software conditions (07 R158) -/

/-- CAP_FORCE (07 R158, R166; 17 R360). -/
def bodyCapForce (k at_ : Nat) (s : State) : State × Answer :=
  if 31 < k then reply s (badField 0)
  else if at_ ≠ 0 ∧ at_ < s.time.ticks then reply s (badFieldOf 64 k)
  else if standbyRefuses s 0x0504 then reply s (statusOnly stPeerActive)
  else if (skOf s k).forceAt.isSome then reply s (busy k)
  else if !skRuns s k || sn (skview s k) kSOFT_ENABLE = 0 then reply s (badState 0 k)
  else if at_ = 0 then (skeinCondition s k (nowTs s) 256 (nowTs s), .final okBare)
  else (modSk s k (fun x => { x with forceAt := some at_ }), .later (.capForce k))

/-- CAP_FORCE (07 R158). -/
def execCapForce (r : Req) (skein forceAt : Nat) (s : State) : Host.Outcome State Fault Refusal :=
  .next (mbxRun (.capForce r skein forceAt) r 0x0504 false (bodyCapForce skein forceAt) s)

/-- CAP_FORCE_AT_REACHED: the timebase has reached the AT of a CAP_FORCE (07 R158). -/
def execCapForceAtReached (skein : Nat) (s : State) : Host.Outcome State Fault Refusal :=
  match (skOf s skein).forceAt with
  | none => .next s
  | some t =>
    if t ≤ s.time.ticks then
      let s := modSk s skein (fun x => { x with forceAt := none })
      let s := skeinCondition s skein (ts72 t 0) 256 (ts72 t 0)
      .next (complete s (.capForce skein) okBare)
    else .next s

/-! ### Reading (07 R173) -/

/-- The bytes in pieces of at most 65,536, each with its offset. -/
def pieces : Nat → Nat → List Byte → List (Nat × List Byte)
  | 0, _, _ => []
  | n + 1, off, bs => if bs.isEmpty then [] else (off, bs.take 65536) :: pieces n (off + 65536) (bs.drop 65536)

/-- The frames of a read go to ring 129; the last completes the command (07 R173). -/
def queueRead (s : State) (k ts flags count : Nat) (first : Nat → Nat) (ps : List (Nat × List Byte)) : State :=
  (List.range ps.length).foldl (fun s i =>
    let p := nth (0, []) ps i
    let f := { streamFrame s 129 0x0F ts (first p.1) k count p.2 with flags := flags }
    queueFrame s 129 f (if i + 1 = ps.length then .capRead k else .none)) s

/-- An entry of the missed list (07 R173). -/
def missedEntry (m : Cond × Nat) : List Byte := tsBytes m.1.ts ++ leBytes 2 m.1.mask ++ leBytes 1 m.2 ++ zeros 1

/-- A read begins: it is done at once if it has no frame. -/
def beginRead (s : State) (k seq ts flags : Nat) (first : Nat → Nat) (bs : List Byte) : State × Answer :=
  let ps := pieces (bs.length / 65536 + 1) 0 bs
  let info := (seq, ps.length, bs.length)
  if ps.isEmpty then (s, .final (okWith (readPayload info)))
  else (queueRead (modSk s k (fun x => { x with reading := some info })) k ts flags seq first ps, .later (.capRead k))

/-- FLAGS of the frames of a hank: GAP, DISCONT and DEAD of the hank (07 R173; 06 Table 06-7). -/
def hankFrameFlags (flags : Nat) : Nat := 8 * bitN (flags.testBit 1) + 4 * bitN (flags.testBit 3) + 16 * bitN (flags.testBit 4)

/-- CAP_READ (07 R173); the HANK_SEQ and SAMPLE_COUNT of the missed list are stated nowhere: a free value (log 4). -/
def bodyCapRead (k sel : Nat) (s : State) : State × Answer :=
  if 31 < k then reply s (badField 0)
  else
    let x := skOf s k
    let hank := if sel = 0xFFFFFFFF then x.hanks.head? else x.hanks.find? (fun h => h.seq = sel)
    if sel ≠ 0xFFFFFFFE && hank.isNone && skDefined s k then reply s (badFieldOf 32 k)
    else if !skDefined s k then reply s (badState 0 k)
    else if x.reading.isSome then reply s (busy k)
    else if sel = 0xFFFFFFFE then
      let q := takeFree s
      let seq := q.1 % 2 ^ 32
      let ts := ((x.missedList.head?).map (fun (m : Cond × Nat) => m.1.ts)).getD 0
      beginRead q.2 k seq ts 0 (fun _ => 0xFFFFFFFF) ((x.missedList.map missedEntry).flatten)
    else
      match hank with
      | none => reply s (badFieldOf 32 k)
      | some h => beginRead s k h.seq h.trigTs (hankFrameFlags h.flags) (fun o => o) h.bytes

/-- CAP_READ (07 R173). -/
def execCapRead (r : Req) (skein select : Nat) (s : State) : Host.Outcome State Fault Refusal :=
  .next (mbxRun (.capRead r skein select) r 0x0505 false (bodyCapRead skein select) s)

/-- CAP_RELEASE (07 R166, R173). -/
def bodyCapRelease (k seq : Nat) (s : State) : State × Answer :=
  if 31 < k then reply s (badField 0)
  else if !skDefined s k then reply s (badState 0 k)
  else if (skOf s k).hanks.all (fun h => decide (h.seq ≠ seq)) then reply s (badFieldOf 32 k)
  else
    (modSk s k (fun x => { x with
      hanks := x.hanks.filter (fun h => decide (h.seq ≠ seq)), st := if x.st = .held then .rearm else x.st }), .final okBare)

/-- CAP_RELEASE (07 R173). -/
def execCapRelease (r : Req) (skein hank : Nat) (s : State) : Host.Outcome State Fault Refusal :=
  .next (mbxRun (.capRelease r skein hank) r 0x0506 false (bodyCapRelease skein hank) s)

/-- TRIGOUT_PULSE_END: the pulse's width has run out and the pin goes low (07 R170). -/
def execTrigoutPulseEnd (pin : Nat) (s : State) : Host.Outcome State Fault Refusal :=
  match nth none s.cap.trigOut pin with
  | none => .next s
  | some q =>
    if reached s q.2 then .next { s with cap := { s.cap with trigOut := setNth s.cap.trigOut pin none } } else .next s

end Sys2Proof.Machine
end

