-- ==== Sys2Proof/Machine/Source.lean ====
section
/-! DEFINITION. Machine/Source.lean: the commands and events of the source drive (12 R266 to R276). -/

namespace Sys2Proof.Machine

/-! ### SRC_CONFIG (12 R269, R271, R277, R278) -/

/-- The items of a channel or gate set. -/
def srcItem (c o : Nat) : Bool := decide (objDom o = 0x08) && decide (objInst o = c)

/-- An item as SRC_CONFIG would apply it. -/
def sdPlan (s : State) (c item : Nat) : Int := planP s 0x08 c item

/-- BAD_PARAM for an item of a channel or gate set. -/
def badSd (c item : Nat) : Reply := badParam (objId 8 c item) c

/-- Is a Q16 value outside its kind's range (12 R265, Table 12-6)? -/
def kindRangeBad (kind : Int) (v : Int) : Bool :=
  if kind = 2 then decide (v < -32768) || decide (32767 < v) else decide (v < 0) || decide (65535 < v)

/-- Does a channel that a port's gate items name as proof channel fit: REFERENCE, OPEN, no table (12 R277)? -/
def proofFits (kind mode table : Int) : Bool := decide (kind = 1) && decide (mode = 0) && decide (table = 0xFF)

/-- Does a table hold another wavelength than the channel's port (12 R271)? -/
def tableClash (s : State) (port table : Int) : Bool :=
  match kget (fun _ => none) s.src.tables table.toNat with
  | some t => decide (port ≠ 0xFF) && decide (t.wl ≠ 0) && decide ((t.wl : Int) ≠ getP s 0x03 port.toNat pWAVELENGTH)
  | none => false

/-- The BAD_PARAM cases of a channel's SRC_CONFIG (12 R263, R265, R269, R271, R277). -/
def sdParamFault (s : State) (c : Nat) : Option Reply :=
  let v := fun i => sdPlan s c i
  let kind := v dSD_KIND
  let table := v dSD_TABLE
  if kind = 2 ∧ c % 2 = 1 then some (badSd c dSD_KIND)
  else match [dSD_SET, dSD_MIN, dSD_MAX, dSD_SAFE].find? (fun i => decide (kind ≠ 0) && kindRangeBad kind (v i)) with
    | some i => some (badSd c i)
    | none =>
      if v dSD_MAX < v dSD_MIN then some (badSd c dSD_MAX)
      else if v dSD_MODE = 1 ∧ kind = 1 then some (badSd c dSD_MODE)
      else if table ≠ 0xFF ∧ (List.range 8).any (fun d => decide (d ≠ c) && decide (sdP s d dSD_TABLE = table) &&
          decide (sdP s d dSD_MODE ≠ v dSD_MODE)) then some (badSd c dSD_TABLE)
      else if tableClash s (v dSD_PORT) table then some (badSd c dSD_TABLE)
      else match proofPort s c with
        | some p => if proofFits kind (v dSD_MODE) table then none else some (badSd (0x40 + p) dGATE_PROOF_SD)
        | none => none

/-- The BAD_STATE cases of a channel's SRC_CONFIG (12 R263, R269). -/
def sdStateFault (s : State) (c : Nat) : Option Reply :=
  let kind := sdPlan s c dSD_KIND
  let changes := [dSD_KIND, dSD_BITS, dSD_MODE, dSD_POL].any (fun i => decide (sdPlan s c i ≠ sdP s c i))
  if (sdOf s c).st ≠ .off ∧ changes then some (badState 0x0801 c)
  else if ((c = 7 ∧ kind ≠ 0) ∨ (c = 6 ∧ kind = 2)) ∧ (loopOf s 3).st ≠ .off then some (badState 0x0701 3)
  else if kind = 2 ∧ sdKind s c ≠ 2 ∧ sdAllocated s (c + 1) then some (badState 0x0805 (c + 1))
  else none

/-- A held channel refuses every command that names it (12 R263). -/
def sdHeld (s : State) (c : Nat) : Option Reply :=
  match (sdOf s c).hold with
  | .pps => some (badState 0x0602 c)
  | .paired => some (badState 0x0805 c)
  | .none => none

/-- A channel that no longer watches an entry, or names no table, ends its part of the conditions that only their results end (12
R271, R273, Table 12-5; log 188). -/
def sdUnwatch (s : State) (c : Nat) : State :=
  let s := if sdKind s c = 0 || (sdWatched s c).isNone then
      sdClear (modSd s c (fun x => { x with lost := false })) 103 (fun x => x.lost) else s
  let s := if sdKind s c = 0 || !(List.range 32).any (sdFeels s c) then
      sdClear (modSd s c (fun x => { x with hot := false })) 104 (fun x => x.hot) else s
  if sdKind s c = 0 || (sdTable s c).isNone then
    sdClear (modSd s c (fun x => { x with outSpan := false })) 105 (fun x => x.outSpan) else s

/-- A channel's staged items take effect; a bridge takes or gives back its second channel (12 R263, R269). -/
def sdApply (s : State) (c : Nat) : State :=
  let was := sdKind s c
  let table := sdP s c dSD_TABLE
  let s := applyStaged s (srcItem c)
  let s := if sdP s c dSD_TABLE ≠ table then modSd s c (fun x => { x with y := 0 }) else s
  let s := if was = 2 && sdKind s c ≠ 2 then modSd s (c + 1) (fun x => { x with hold := .none })
    else if sdKind s c = 2 then modSd s (c + 1) (fun x => { x with hold := .paired }) else s
  let s := sdUnwatch s c
  if (sdOf s c).st = .on then modSd s c (fun x => { x with t := sdTarget s c }) else s

/-- SRC_CONFIG of a channel (12 R269). -/
def sdConfig (s : State) (c : Nat) : State × Answer :=
  match sdHeld s c with
  | some r => reply s r
  | none =>
    match sdParamFault s c with
    | some r => reply s r
    | none =>
      match sdStateFault s c with
      | some r => reply s r
      | none => (sdApply s c, .final okBare)

/-- SRC_CONFIG of a port's gate items (12 R269, R276, R277). -/
def gateConfig (s : State) (p : Nat) : State × Answer :=
  let c := sdPlan s (0x40 + p) dGATE_PROOF_SD
  let d := c.toNat
  if c ≠ 0xFF ∧ !proofFits (sdP s d dSD_KIND) (sdP s d dSD_MODE) (sdP s d dSD_TABLE) then
    reply s (badSd (0x40 + p) dGATE_PROOF_SD)
  else if c ≠ 0xFF ∧ sdP s (0x41 - p) dGATE_PROOF_SD = c then reply s (badState 0x0804 p)
  else
    let s := applyStaged s (srcItem (0x40 + p))
    let s := gateEstablish s p (acceptedView s p) false
    (s, .final (okWith (leBytesI 1 (getP s 0x08 (0x40 + p) dGATE_DIAG))))

/-- SRC_CONFIG (12 R269). -/
def bodySrcConfig (ins : Nat) (s : State) : State × Answer :=
  if ins < 8 then sdConfig s ins
  else if ins = 0x40 || ins = 0x41 then gateConfig s (ins - 0x40)
  else reply s (badField 0)

/-- SRC_CONFIG (12 R269). -/
def execSrcConfig (r : Req) (ins : Nat) (s : State) : Host.Outcome State Fault Refusal :=
  .next (mbxRun (.srcConfig r ins) r 0x0801 false (bodySrcConfig ins) s)

/-! ### SRC_ENABLE, SRC_DISABLE (12 R263, R267, R268; 20 R432) -/

/-- SRC_ENABLE (12 Table 12-3). -/
def bodySrcEnable (c : Nat) (s : State) : State × Answer :=
  if 7 < c then reply s (badField 0)
  else match sdHeld s c with
    | some r => reply s r
    | none =>
      match (sdOf s c).st with
      | .off =>
        if sdKind s c = 0 then reply s (badState 0 c)
        else (modSd (sdOn s c 0) c (fun x => { x with periodAt := nowClk s }), .final okBare)
      | .on => reply s (badState 0 c)
      | .stopping =>
        let s := complete s (.srcDisable c) (statusOnly stAborted)
        (sdOn s c (sdOf s c).p, .final okBare)
      | .tripped =>
        if sdCooled s c then (sdOn s c (sdP s c dSD_SAFE * 65536), .final okBare)
        else reply s (badState 0x0806 c)

/-- SRC_DISABLE (12 Table 12-3). -/
def bodySrcDisable (c : Nat) (s : State) : State × Answer :=
  if 7 < c then reply s (badField 0)
  else match sdHeld s c with
    | some r => reply s r
    | none =>
      match (sdOf s c).st with
      | .off => reply s okBare
      | .on => (sdStop s c, .later (.srcDisable c))
      | .stopping => reply s (busy ((slotWaiting s (.srcDisable c)).getD 0))
      | .tripped => (sdOff s c, .final okBare)

/-- SRC_DISABLE (12 R268). -/
def execSrcDisable (r : Req) (ch : Nat) (s : State) : Host.Outcome State Fault Refusal :=
  .next (mbxRun (.srcDisable r ch) r 0x0803 false (bodySrcDisable ch) s)

/-! ### SRC_COMP_TABLE (12 R270) -/

/-- The points of a table's bytes: T and Y (12 Table 12-4). -/
def tablePoints : Nat → List Byte → List (Int × Int)
  | 0, _ => []
  | n + 1, bs => (fieldAtI bs 0 4, fieldAtI bs 4 4) :: tablePoints n (bs.drop 8)

/-- The first point that does not rise in T (12 R270). -/
def firstFalling : Nat → List (Int × Int) → Option Nat
  | _, [] => none
  | _, [_] => none
  | i, p :: q :: rest => if p.1 < q.1 then firstFalling (i + 1) (q :: rest) else some (i + 1)

/-- SRC_COMP_TABLE: `bytes` are the header and the points (12 R270). -/
def bodySrcCompTable (n : Nat) (bytes : List Byte) (s : State) : State × Answer :=
  let count := fieldAt bytes 5 1
  let entry := fieldAt bytes 4 1
  let ps := tablePoints count (bytes.drop 8)
  if 7 < n then reply s (badField 0)
  else if count < 2 || 16 < count then reply s (badFieldOf 104 n)
  else if 31 < entry then reply s (badFieldOf 96 n)
  else match firstFalling 0 ps with
    | some i => reply s (badFieldOf (128 + 64 * i) n)
    | none =>
      ({ s with src := { s.src with
          tables := kput (fun _ => none) s.src.tables n (some ⟨entry, fieldAt bytes 0 4, ps⟩) } }, .final okBare)

/-- SRC_COMP_TABLE (12 R270). -/
def execSrcCompTable (r : Req) (table : Nat) (bytes : List Byte) (s : State) : Host.Outcome State Fault Refusal :=
  .next (mbxRun (.srcCompTable r table bytes) r 0x0804 false (bodySrcCompTable table bytes) s)

/-! ### Events (12 R266, R268, R272, R273, R275, R276) -/

/-- A STOPPING channel that has reached SD_SAFE turns OFF, and its SRC_DISABLE completes (12 Table 12-3). -/
def sdArrive (s : State) (c : Nat) : State :=
  let x := sdOf s c
  if x.st = .stopping ∧ x.p = sdP s c dSD_SAFE * 65536 then
    complete (sdOff s c) (.srcDisable c) okBare
  else s

/-- A carrier period of a channel that drives its pin starts, if it is time (12 R262, R266, R268). -/
def carrierPeriod (s : State) (ch : Nat) : State :=
  let x := sdOf s ch
  if (x.st ≠ .off ∨ x.hold = .pps) ∧ x.periodAt + sdPeriod s ch ≤ nowClk s then sdArrive (sdAdvance s ch) ch
  else s

/-- SD_FB_HOLD_EXPIRY: no good result of the watched entry within SD_FB_HOLD (12 R273). -/
def execSdFbHoldExpiry (ch : Nat) (s : State) : Host.Outcome State Fault Refusal :=
  let x := sdOf s ch
  if x.st = .on ∧ (sdWatched s ch).isSome ∧ !x.lost ∧ x.goodAt + natP s 0x08 ch dSD_FB_HOLD * msTicks ≤ nowClk s then
    let s := sdLose s ch
    .next (modSd s ch (fun x => { x with t := sdTarget s ch }))
  else .next s

/-- SD_SATURATION_TIMER: u has stood at a limit for 10 s (12 R272). -/
def execSdSaturationTimer (ch : Nat) (s : State) : Host.Outcome State Fault Refusal :=
  .next (sdSaturated s ch)

/-- A gate test is decided: counts, source 107 or 108 (12 R275, R276). -/
def gateDecide (s : State) (p above : Nat) (g : GateTest) (rest : List GateTest) : State :=
  let pass := decide (24 ≤ above)
  let n := if pass then (kget gateBlank s.src.gates p).passes + 1 else 0
  let s := { s with src := { s.src with gates := kput gateBlank s.src.gates p ⟨rest, n⟩ } }
  let s := bumpP s 0x08 (0x40 + p) dGATE_TESTS
  if pass then (if 64 ≤ n then clearIf s (107 + p) else s)
  else
    let s := bumpP s 0x08 (0x40 + p) dGATE_FAILS
    detect s { raiseBlank (107 + p) with port := p, ins := if g.proof then 0xFFFF else g.ply, d0 := g.shot }

/-- How many of a test window's samples lie above the threshold of its gate (12 R275). -/
def gateAbove (s : State) (p : Nat) (g : GateTest) (samples : List Nat) : Nat :=
  (samples.filter (fun v => decide (natP s 0x08 (0x40 + p) (if g.proof then dISNS_THRESH_PROOF else dISNS_THRESH_RUN) < v))).length

/-- GATE_TEST_DECISION: a test window has ended; `samples` are the ISNS levels of its 30 ticks, in mV (12 R275, R276). -/
def execGateTestDecision (port : Nat) (samples : List Nat) (s : State) : Host.Outcome State Fault Refusal :=
  match (kget gateBlank s.src.gates port).tests with
  | [] => .next s
  | g :: gs => if g.endClk ≤ nowClk s then .next (gateDecide s port (gateAbove s port g samples) g gs) else .next s

end Sys2Proof.Machine
end

