-- ==== Sys2Proof/Machine/BindOff.lean ====
section
/-! DEFINITION. Machine/BindOff.lean: deferred commands that SYS_RESET and SYS_BIND_OFF end, and the bind-off with the events that
carry it on (15 R322; 20 R431, R432, Table 20-9). -/

namespace Sys2Proof.Machine

/-! ### Ending deferred commands (15 R322, Table 15-4; log 105) -/

/-- What a deferred command waited for ends with it; an operation not named here runs on without it. -/
def cutJob (s : State) (j : Job) : State :=
  match j with
  | .portProbe p => modPort s p (fun x => { x with probing := false })
  | .capForce k => modSk s k (fun x => { x with forceAt := none })
  | .capRead k => modSk s k (fun x => { x with reading := none })
  | .timeSet => { s with time := { s.time with step := none } }
  | .chartStart => modFe s (fun x => { x with restart := false })
  | .inject n => modFe s (fun x => { x with queue := x.queue.filter (fun i => i.slot ≠ n) })
  | .loopRelease n => modLoop s n (fun x => { x with next := [] })
  | .calRun dom ins =>
    (calNamed dom ins).foldl (fun s i => calAbortOne s dom i) (if ins = 0xFF then calAbortRun s dom 0xFF else s)
  | .nvmStore => endNvm s
  | .nvmErase => endNvm s
  | .fwStage => stageLost s stAborted
  | .fwVerify n => { s with boot := { s.boot with verifying := s.boot.verifying.filter (fun i => i ≠ n) } }
  | .krnLoad n => dropShadow s n
  | .krnStart n => dropShadow s n
  | .memFreq => { s with mem := { s.mem with freqWaits := none } }
  | _ => s

/-- Every DEFERRED command completes ABORTED (15 R322). -/
def endDeferred (s : State) : State :=
  let s := { s with held := [] }
  (deferredSlots s).foldl (fun s n =>
    let s := cutJob s (slotOf s n).job
    if (slotOf s n).phase = .deferred then finish s n (statusOnly stAborted) else s) s

/-! ### Bind-off (20 Table 20-9) -/

/-- The bind-off in progress. -/
def setBindOff (s : State) (b : BindOff) : State := { s with boot := { s.boot with bindOff := some b } }

/-- A skein in one of its running states stops; a hank in progress is closed TRUNCATED (07 R166; 20 Table 20-9). -/
def disarmSkein (s : State) (k : Nat) : State :=
  if (skOf s k).st = .rearm then skeinStops s k else (bodyCapDisarm k s).1

/-- A user slot that runs stops as KRN_STOP stops it (09 R213). -/
def stopSlot (s : State) (n : Nat) : State := if krnRuns (krnOf s n) then (bodyFwKrnStop n s).1 else s

/-- PORT_STOP on both ports, skeins disarmed, user slots stopped (20 Table 20-9, row 2). -/
def bindOffStop (s : State) : State :=
  let s := [0, 1].foldl stopPort s
  let s := (skeinsWith (skRuns s)).foldl disarmSkein s
  (List.range 16).foldl stopSlot s

/-- Loops released, chart stopped, UNPAIRED, link DISABLED, ramps begun but those of the channels in `left` (20 Table 20-9, rows 3
and 4; R432). -/
def bindOffRelease (s : State) (left : List Nat) : State :=
  let s := [0, 1, 2, 3].foldl (fun s n => if loopOn s n then setP (loopRelease s n) 0x07 n fLOOP_MODE 0 else s) s
  let s := if s.fe.st = .running then feSettle (modFe s (fun x => { x with st := .stopping, restart := false })) else s
  let was := pairOn s
  let s := pairEnabled (setP s 0x0B 0 lPAIR_ENABLE 0) was
  let s := if s.purl.st = .disabled then s else linkDown s
  (List.range 8).foldl (fun s c => if decide ((sdOf s c).st = .on) && !left.contains c then sdStop s c else s) s

/-- Does the hand-over go on: this unit still has to release the fibre, within the swap's time (17 R373)? -/
def handingOver (s : State) : Bool :=
  decide (s.pair.role = .releasing) ||
    (decide (s.pair.role = .active) && (match s.pair.swapEnd with | some t => decide (nowClk s < t) | none => false))

/-- Is the unit at rest: no ramp, no release in progress (20 Table 20-9, last row)? -/
def atRest (s : State) : Bool :=
  (List.range 8).all (fun c => decide ((sdOf s c).st ≠ .stopping)) &&
    [0, 1, 2, 3].all (fun n => decide ((loopOf s n).st ≠ .releasing))

/-- The next stages of a bind-off whose conditions hold (20 Table 20-9). -/
def bindOffCheck (s : State) : State :=
  match s.boot.bindOff with
  | none => s
  | some b =>
    if b.swapping && handingOver s then s
    else
      let s := if b.stopped then s else setBindOff (bindOffStop s) ⟨false, true, false, b.left⟩
      if !portsQuiet s then s
      else
        let s := if b.releasing then s else setBindOff (bindOffRelease s b.left) ⟨false, true, true, b.left⟩
        if atRest s then complete { s with boot := { s.boot with bindOff := none } } .bindOff okBare else s

/-- Does this unit hand the fibre over first (20 Table 20-9, row 1)? -/
def handsOver (s : State) : Bool :=
  pairOn s && decide (s.pair.role = .active) && (match s.pair.peer with | some p => decide (p.role = 1) | none => false)

/-- SYS_BIND_OFF (20 R431, R432). -/
def bodySysBindOff (s : State) : State × Answer :=
  if s.boot.bindOff.isSome then reply s (busy ((slotWaiting s .bindOff).getD 0))
  else
    let s := endDeferred s
    let hands := handsOver s
    (setBindOff (if hands then swapBegin s else s) ⟨hands, false, false, []⟩, .later .bindOff)

/-- SYS_BIND_OFF (20 R431): what can be done at once is. -/
def execSysBindOff (r : Req) (s : State) : Host.Outcome State Fault Refusal :=
  .next (bindOffCheck (mbxRun (.sysBindOff r) r 0x0104 false bodySysBindOff s))

/-! ### Events that carry a bind-off on -/

/-- DRAIN_END: the drain ends (01 R24; 02 R45, R447; 20 Table 20-9). -/
def execDrainEnd (port : Nat) (s : State) : Host.Outcome State Fault Refusal := .next (bindOffCheck (drainEnds s port))

/-- ACT_WAVE_STOP (17 R356). -/
def execActWaveStop (s : State) : Host.Outcome State Fault Refusal := .next (bindOffCheck (waveStops s))

/-- SWAP_RELEASE_DONE (17 Table 17-6; 20 Table 20-9). -/
def execSwapReleaseDone (s : State) : Host.Outcome State Fault Refusal := .next (bindOffCheck (swapReleased s))

/-- LOOP_RELEASE_END: the 100 ms downscale hold of a release ends (11 R259; 20 Table 20-9). -/
def execLoopReleaseEnd (loop : Nat) (s : State) : Host.Outcome State Fault Refusal :=
  let x := loopOf s loop
  .next (bindOffCheck
    (if decide (x.st = .releasing) && decide (x.releaseAt ≤ nowClk s) then loopReleased s loop else s))

/-- SD_CARRIER_PERIOD: a carrier period of a channel starts (12 R262, R266, R268; 20 R431). -/
def execSdCarrierPeriod (ch : Nat) (s : State) : Host.Outcome State Fault Refusal := .next (bindOffCheck (carrierPeriod s ch))

/-- A channel that is ON after SRC_ENABLE stays so through the bind-off (20 R432). -/
def leaveBindOff (s : State) (ch : Nat) : State :=
  match s.boot.bindOff with
  | some b => if decide ((sdOf s ch).st = .on) && !b.left.contains ch then setBindOff s { b with left := b.left ++ [ch] } else s
  | none => s

/-- SRC_ENABLE: a channel enabled while bind-off runs leaves it (12 R268; 20 R432). -/
def execSrcEnable (r : Req) (ch : Nat) (s : State) : Host.Outcome State Fault Refusal :=
  .next (bindOffCheck (leaveBindOff (mbxRun (.srcEnable r ch) r 0x0802 false (bodySrcEnable ch) s) ch))

end Sys2Proof.Machine
end

