-- ==== Sys2Proof/Machine/Firmware.lean ====
section
/-! DEFINITION. Machine/Firmware.lean: firmware images, FW_STAGE, FW_VERIFY and the live activation (20 R421 to R427). -/

namespace Sys2Proof.Machine

/-! ### Images (20 R422, Table 20-6) -/

/-- IMAGE_BYTES of an image header, [639:608]. -/
def imgBytes (im : List Byte) : Nat := fieldAt im 76 4

/-- ROLLBACK of an image header, [607:576]. -/
def imgRollback (im : List Byte) : Nat := fieldAt im 72 4

/-- MIN_DEV_REV of an image header, [511:496]. -/
def imgMinRev (im : List Byte) : Nat := fieldAt im 62 2

/-- Bytes of header and signature around the code. -/
abbrev imgFrame : Nat := 224

/-- DIGEST as the header carries it, [1023:640]. -/
def imgDigest (im : List Byte) : List Byte := fitBytes 48 (im.drop 80)

/-- What DIGEST covers: the header with DIGEST as zero, then the code (20 R422). -/
def imgCovered (im : List Byte) : List Byte := im.take 80 ++ zeros 48 ++ (im.drop 128).take (imgBytes im)

/-- The signature after the code. -/
def imgSignature (im : List Byte) : List Byte := fitBytes 96 (im.drop (128 + imgBytes im))

/-- How a verification ends (20 R425). -/
inductive Verdict where
  | pass
  | auth
  | devRev
  deriving DecidableEq, Repr

/-- The checks of FW_VERIFY in their order; recovery boot leaves ROLLBACK out (20 R425, R428). A slot whose bytes end before the
image does fails the first. -/
def verdict (s : State) (im : List Byte) (rollback : Bool) : Verdict :=
  if im.length < imgFrame + imgBytes im then .auth
  else if imgDigest im ≠ sha384 (imgCovered im) then .auth
  else if !Config.ecdsaOk (imgDigest im) (imgSignature im) then .auth
  else if rollback && decide (imgRollback im < s.boot.rollback) then .auth
  else if s.boot.devRev % 65536 < imgMinRev im then .devRev
  else .pass

/-- Source 114 for a slot whose verification failed (20 R421, R425). -/
def authFails (s : State) (slot : Nat) : State := detect s { raiseBlank 114 with ins := slot }

/-! ### FW_STAGE (20 R424) -/

/-- Is a slot in use: the one that the running main firmware came from? -/
def slotInUse (s : State) (n : Nat) : Bool := decide (s.boot.st ≠ .recovery) && decide (n = s.boot.fwSlot)

/-- The header checks of FW_STAGE; `len` is the descriptor's LEN (20 R424). -/
def stageFault (im : List Byte) (len : Nat) : Option Reply :=
  if fieldAt im 0 2 ≠ 0x4657 then some (badHeader 0)
  else if fieldAt im 2 2 ≠ 0x0080 then some (badHeader 16)
  else if fieldAt im 6 2 ≠ 0x0001 then some (badHeader 48)
  else if 1572640 < imgBytes im ∨ len < imgFrame + imgBytes im then some (badHeader 608)
  else none

/-- FW_STAGE: checks, then the write begins and the slot is unverified (20 R424). -/
def bodyFwStage (slot n : Nat) (b : Bulk) (s : State) : State × Answer :=
  if 1 < n || slotInUse s n then reply s (badField 0)
  else if s.boot.staging.isSome then reply s (busy ((slotWaiting s .fwStage).getD 0))
  else if s.boot.verifying.contains n then reply s (busy ((slotWaiting s (.fwVerify n)).getD 0))
  else if !descriptorReady s 0 then
    let p := malformed s slot
    (p.1, .final p.2)
  else if !bulkOk b then
    let p := malformed (takeDescriptor s 0) slot
    (p.1, .final p.2)
  else
    let bs := bulkBytes s b
    match stageFault bs (bulkLen b) with
    | some r => reply (takeDescriptor s 0) r
    | none =>
      let s := setFwSlot s n { fwSlotOf s n with verified := false }
      ({ s with boot := { s.boot with staging := some (n, bs.take (imgFrame + imgBytes bs), bulkTag b) } }, .later .fwStage)

/-- FW_STAGE (20 R424). -/
def execFwStage (r : Req) (slot : Nat) (desc : Bulk) (s : State) : Host.Outcome State Fault Refusal :=
  .next (mbxRun (.fwStage r slot desc) r 0x0C01 false (bodyFwStage r.slot slot desc) s)

/-- FW_STAGE_DONE: the NVM write ends; BYTES counts header and code (20 R424, Table 20-10), or fails with TIMEOUT and source 113. -/
def execFwStageDone (written : Bool) (s : State) : Host.Outcome State Fault Refusal :=
  match s.boot.staging with
  | none => .next s
  | some (n, im, tag) =>
    if written then
      let s := settleRing (takeDescriptor { s with boot := { s.boot with staging := none } } 0) 132 false
      let s := nvmGood (setFwSlot s n ⟨im, false⟩) (regionFw n)
      .next (complete s .fwStage (okWith (leBytes 4 (fwVersion (fwSlotOf s n)) ++ leBytes 4 (128 + imgBytes im) ++ leBytes 4 tag)))
    else .next (nvmError (stageLost s stTimeout) (regionFw n) 0)

/-! ### FW_VERIFY (20 R425) -/

/-- FW_VERIFY (20 R425). -/
def bodyFwVerify (n : Nat) (s : State) : State × Answer :=
  if 1 < n then reply s (badField 0)
  else if (s.boot.staging.map (fun (x : Nat × List Byte × Nat) => x.1)) = some n then reply s (busy ((slotWaiting s .fwStage).getD 0))
  else if s.boot.verifying.contains n then reply s (busy ((slotWaiting s (.fwVerify n)).getD 0))
  else ({ s with boot := { s.boot with verifying := s.boot.verifying ++ [n] } }, .later (.fwVerify n))

/-- FW_VERIFY (20 R425). -/
def execFwVerify (r : Req) (slot : Nat) (s : State) : Host.Outcome State Fault Refusal :=
  .next (mbxRun (.fwVerify r slot) r 0x0C02 false (bodyFwVerify slot) s)

/-- A slot passes: verified, and source 114 clears (20 R425). -/
def slotPasses (s : State) (n : Nat) : State := clearIf (setFwSlot s n { fwSlotOf s n with verified := true }) 114

/-- A slot fails: unverified, and source 114 unless only MIN_DEV_REV failed (20 R425). -/
def slotFails (s : State) (n : Nat) (v : Verdict) : State :=
  let s := setFwSlot s n { fwSlotOf s n with verified := false }
  if v = .auth then authFails s n else s

/-- FW_VERIFY_DONE: the oldest verification ends (20 R425). -/
def execFwVerifyDone (s : State) : Host.Outcome State Fault Refusal :=
  match s.boot.verifying with
  | [] => .next s
  | n :: rest =>
    let s := { s with boot := { s.boot with verifying := rest } }
    let x := fwSlotOf s n
    match verdict s x.image true with
    | .pass => .next (complete (slotPasses s n) (.fwVerify n)
        (okWith (leBytes 4 (fwVersion x) ++ leBytes 4 (imgRollback x.image))))
    | .auth => .next (complete (slotFails s n .auth) (.fwVerify n) (statusOnly stAuthFail))
    | .devRev => .next (complete (slotFails s n .devRev) (.fwVerify n) (badHeader 496))

/-! ### FW_ACTIVATE (20 R426, R427, R429) -/

/-- The lowest slot with a DEFERRED command other than the command's own (15 R322). -/
def deferredBut (s : State) (slot : Nat) : Option Nat := (deferredSlots s).find? (fun n => n ≠ slot)

/-- The staged set is emptied and debug is locked (15 R325, R335). -/
def lockDebug (s : State) : State :=
  { s with staged := [], boot := { s.boot with unlocked := false, challenge := none } }

/-- FW_ACTIVATE; in RECOVERY it writes the active-slot record and then acts as SYS_RESET (20 R426, R429). -/
def bodyFwActivate (slot n : Nat) (s : State) : State × Answer :=
  if 1 < n then reply s (badField 0)
  else match deferredBut s slot with
    | some w => reply s (busy w)
    | none =>
      if !(fwSlotOf s n).verified then reply s (statusOnly stAuthFail)
      else if !canRecordMany s s.col.snags.length then reply s (busy 0)
      else if s.boot.st = .recovery then ({ s with boot := { s.boot with activeSlot := n, resetDue := true } }, .final okBare)
      else
        let s := lockDebug s
        let a : Activation := ⟨n, s.boot.fwSlot, nowClk s + 200 * msTicks, false⟩
        ({ s with boot := { s.boot with activation := some a } }, .final okBare)

/-- An activation that has been answered ends every snag (18 R391; 20 Table 20-7). -/
def activateSettle (s : State) : State := if s.boot.activation.isSome then endAllSnags s else s

/-- What the firmware that has reached the mailbox records (20 Table 20-7, R427). -/
def activationEnds (s : State) (a : Activation) : State :=
  let b := { s.boot with activation := none }
  let b := if a.fallback then { b with fwSlot := a.before }
    else { b with fwSlot := a.slot, activeSlot := a.slot, rollback := max b.rollback (min 64 (imgRollback (fwSlotOf s a.slot).image)) }
  let s := { s with boot := b, col := { s.col with fedAt := nowClk s } }
  clearIf s 112

/-- FW_ACTIVATION_DONE: the firmware that was started reaches the mailbox; a new one only if the boot ROM verifies it again, and
within the 200 ms (20 Table 20-7, R427). -/
def execFwActivationDone (s : State) : Host.Outcome State Fault Refusal :=
  match s.boot.activation with
  | none => .next s
  | some a =>
    if a.fallback || (decide (verdict s (fwSlotOf s a.slot).image true = .pass) && decide (nowClk s < a.deadline)) then .next (activationEnds s a) else .next s

/-- FW_FALLBACK: no feed within 200 ms of the final response: source 112, and the slot that ran before is restarted (20 R427). -/
def execFwFallback (s : State) : Host.Outcome State Fault Refusal :=
  match s.boot.activation with
  | none => .next s
  | some a =>
    if a.fallback || decide (nowClk s < a.deadline) then .next s
    else .next (detectSrc { s with boot := { s.boot with activation := some { a with fallback := true } } } 112)

end Sys2Proof.Machine
end

