-- ==== Sys2Proof/Machine/Boot.lean ====
section
/-! DEFINITION. Machine/Boot.lean: resets, supplies, die temperature, root and cast-on up to running firmware (18 R376, R378; 20
R413 to R423, R428, R429; 21 R439, R444). -/

namespace Sys2Proof.Machine

/-! ### Resets (20 R418, Table 20-4) -/

/-- NVM writes in progress are cut short: region U as 19 R407 says, a firmware slot that was being written is lost (20 R424). -/
def cutNvm (s : State) : State :=
  let s := endNvm s
  match s.boot.staging with
  | none => s
  | some (n, im, _) => fwSlotLost { s with boot := { s.boot with staging := none } } n im.length

/-- A firmware slot after its firmware has stopped: its mark is gone. -/
def slotUnmarked (x : FwSlot) : FwSlot := { x with verified := false }

/-- Boot data that no reset touches: straps as sampled, fuses, slots, die temperature, holds and retained flags. -/
def bootKept (b : Boot) : Boot :=
  { bootBlank with
    porstLow := b.porstLow, thermalHold := b.thermalHold, supplyHold := b.supplyHold, carried := b.carried, bootSel := b.bootSel
    unitId := b.unitId, devRev := b.devRev, slotA := slotUnmarked b.slotA, slotB := slotUnmarked b.slotB
    activeSlot := b.activeSlot, rollback := b.rollback, dieTemp := b.dieTemp }

/-- The NVM as a reset leaves it. -/
def nvmKept (c : Cal) : Cal :=
  { calStateBlank with regionR := c.regionR, bank0 := c.bank0, bank1 := c.bank1, activeBank := c.activeBank }

/-- The reset of PORST_N, of a thermal shutdown and of a supply trip: what non-volatile parts and the world outside hold stays (20
Table 20-4; 13 R293; 19 Table 19-8 NVM_U_WRITES). -/
def coldReset (s : State) : State :=
  let s := cutNvm s
  { State.reset with
    pending := s.pending, free := s.free
    params := kfilter (fun o => decide (o = objId 9 0 aNVM_U_WRITES)) s.params
    link := { hostLinkBlank with perstLow := s.link.perstLow, hostMem := s.link.hostMem, sent := s.link.sent }
    boot := bootKept s.boot, cal := nvmKept s.cal
    mem := { memBlank with hardRepairs := s.mem.hardRepairs } }

/-- RO counts that SYS_RESET keeps: those whose tables reset them at PORST_N only (20 Table 20-4; 15 R336, 19 R412, 13 R295 and
the item tables of 09, 10, 16, 17, 18). -/
def countKept (o : Nat) : Bool :=
  decide (objAccess o = 0) &&
    ([0x01, 0x09, 0x0B, 0x0D, 0x0F, 0x10].contains (objDom o) || (decide (objDom o = 0x0C) && decide (objInst o = 0))) &&
    decide (o ≠ objId 0x10 0 mFSP_NOW)

/-- A ring across SYS_RESET: it runs on; what waited for it was in DRAM and is gone (20 Table 20-4; log 112). -/
def ringKept (x : Ring) : Ring := { x with queue := [], gapNext := x.gapNext || !x.queue.isEmpty }

/-- The control-processor area of DRAM (13 Table 13-2). -/
def controlArea (a : Nat) : Bool := decide (0x04000000 ≤ a) && decide (a < 0x08000000)

/-- The collector across SYS_RESET: journal and SEQ kept, sticky bits cleared, FAULT_N low until READY (18 R384; 20 Table 20-4). -/
def collectorKept (s : State) : Collector :=
  { s.col with
    sources := s.col.sources.foldl (fun m p => kput sourceBlank m p.1 { srcRec s p.1 with sticky := false }) s.col.sources
    pinLow := true, snags := [] }

/-- DRAM across SYS_RESET: the control area is kept, and what was written elsewhere is undefined, free bytes (20 Table 20-4; log
112). -/
def dramAfterReset (s : State) : Memory :=
  let lost := s.dram.filter (fun p => !controlArea p.1)
  (List.zip lost (takeFreeBytes s lost.length).1).foldl (fun m q => memPut m q.1.1 q.2) (kfilter controlArea s.dram)

/-- SYS_RESET after its response: launches stop without a drain, timebase, endpoint, journal and counts stay, and cast-on runs from
the NVM load onward (20 R418; log 112). -/
def warmReset (s : State) : State :=
  let s := cutNvm (endAllSnags (endDeferred s))
  let time := s.time
  { State.reset with
    pending := s.pending, free := s.free + s.dram.length, slots := s.slots
    params := kfilter countKept s.params
    link := { s.link with rings := s.link.rings.foldl (fun m p => kput ringBlank m p.1 (ringKept p.2)) s.link.rings, hkOpen := [] }
    boot := { bootKept s.boot with rootLocked := true, warm := true, serial := s.boot.serial }
    cal := { nvmKept s.cal with recs := s.cal.recs.map (fun (p : Nat × CalRec) => (p.1, { p.2 with st := .idle, failed := false })), nvmBad := s.cal.nvmBad }
    col := collectorKept s
    time := { timingBlank with sclk := time.sclk, ticks := time.ticks }
    mem := { memBlank with hardRepairs := s.mem.hardRepairs }
    dram := dramAfterReset s }

/-- A reset that a response has announced follows it (20 R418, R429). -/
def resetSettle (s : State) : State := if s.boot.resetDue then warmReset s else s

/-- SYS_RESET (20 R418; 15 R322). -/
def bodySysReset (confirm : Nat) (s : State) : State × Answer :=
  if confirm ≠ 0x5253 then reply s (badField 0)
  else if !canRecordMany s s.col.snags.length then reply s (busy 0)
  else
    let s := endDeferred s
    ({ s with boot := { s.boot with resetDue := true, bindOff := none } }, .final okBare)

/-- SYS_RESET (20 R418). -/
def execSysReset (r : Req) (confirm : Nat) (s : State) : Host.Outcome State Fault Refusal :=
  .next (resetSettle (mbxRun (.sysReset r confirm) r 0x0103 false (bodySysReset confirm) s))

/-- FW_ACTIVATE; a RECOVERY unit resets after its response (20 R426, R429). -/
def execFwActivate (r : Req) (slot : Nat) (s : State) : Host.Outcome State Fault Refusal :=
  .next (resetSettle (activateSettle (mbxRun (.fwActivate r slot) r 0x0C03 false (bodyFwActivate r.slot slot) s)))

/-- PORST_N_ASSERT: PORST_N goes low and everything is reset (20 R418; 21 R439). -/
def execPorstNAssert (s : State) : Host.Outcome State Fault Refusal :=
  let t := coldReset s
  .next { t with boot := { t.boot with porstLow := true } }

/-! ### Die temperature and supplies (18 R376, R378; 20 R414, R416; 21 R444) -/

/-- A flag carried across the reset (18 R378; 20 R416). -/
def carry (s : State) (src : Nat) : State :=
  let c := s.boot.carried
  { s with boot := { s.boot with carried := if c.contains src then c else c ++ [src] } }

/-- The die has reached 165 °C: the device stops, holds itself in reset, and carries the event (18 R378). -/
def thermalTrip (s : State) (temp : Int) : State :=
  let t := coldReset (carry s 8)
  { t with boot := { t.boot with thermalHold := true, dieTemp := temp } }

/-- THERMAL_SHUTDOWN (18 R378). -/
def execThermalShutdown (s : State) : Host.Outcome State Fault Refusal :=
  if s.boot.porstLow || s.boot.thermalHold then .next s else .next (thermalTrip s (max 16500 s.boot.dieTemp))

/-- The reading of the on-die sensors, in 0.01 °C: the highest (21 R444). -/
def hottest (sensors : List Int) : Int := sensors.foldl max (sensors.headD 0)

/-- THERMAL_RECOVER: below 140 °C the hold ends and cast-on starts (18 R378; 21 R444). -/
def execThermalRecover (sensors : List Int) (s : State) : Host.Outcome State Fault Refusal :=
  let temp := hottest sensors
  if s.boot.thermalHold && decide (temp < 14000) then
    .next { s with boot := { s.boot with thermalHold := false, dieTemp := temp } }
  else .next s

/-- A rail of Table 20-2: nominal in mV, monitor window in %, source. -/
structure Rail where
  nominal : Nat
  window : Nat
  src : Nat
  deriving DecidableEq, Repr

/-- The rails VDD, VDDSX, VDDA09, VDD2H, VDDA18, VDDIO18, VDDQ, VDDIO33 (20 Table 20-2). -/
def railOf (n : Nat) : Rail :=
  nth ⟨0, 0, 0⟩ [⟨750, 5, 2⟩, ⟨850, 5, 2⟩, ⟨900, 4, 3⟩, ⟨1050, 5, 4⟩, ⟨1800, 5, 3⟩, ⟨1800, 7, 4⟩, ⟨500, 7, 4⟩, ⟨3300, 7, 4⟩] n

/-- Does a rail at a level in µV lie below its monitor window (20 R414)? -/
def railBelow (n : Nat) (uv : Int) : Bool := decide (uv < 10 * ((railOf n).nominal : Int) * (100 - (railOf n).window : Int))

/-- Does a rail at a level in µV lie above its monitor window (20 R414)? -/
def railAbove (n : Nat) (uv : Int) : Bool := decide (10 * ((railOf n).nominal : Int) * (100 + (railOf n).window : Int) < uv)

/-- Does a rail below its window hold the device in reset: VDD, VDDSX and VDDA09 (20 R416)? -/
def railHolds (n : Nat) : Bool := decide (n < 3)

/-- SUPPLY_TRIP: VDD, VDDSX or VDDA09 has been below its window for 2 µs, at a level in µV: the device is held in reset; source 2 or 3 is
carried unless PORST_N was low already (20 R416; 21 R444). -/
def execSupplyTrip (r : RailReading) (s : State) : Host.Outcome State Fault Refusal :=
  if railHolds r.rail && railBelow r.rail r.uv then
    let t := if s.boot.porstLow then s else coldReset (carry s (railOf r.rail).src)
    .next { t with boot := { t.boot with supplyHold := putBit t.boot.supplyHold r.rail true } }
  else .next s

/-- SUPPLY_RETURN: a rail of SUPPLY_TRIP no longer lies below its window (20 R416). -/
def execSupplyReturn (r : RailReading) (s : State) : Host.Outcome State Fault Refusal :=
  if railBelow r.rail r.uv then .next s
  else .next { s with boot := { s.boot with supplyHold := putBit s.boot.supplyHold r.rail false } }

/-- RAIL_EXCURSION: a rail has been outside its window for 2 µs, at a level in µV, without the fall that SUPPLY_TRIP stands for: its source is
raised, the device running on; the live bit clears after 1 ms within the window (20 R414, R416; 18 Table 18-2; log 12). -/
def execRailExcursion (r : RailReading) (s : State) : Host.Outcome State Fault Refusal :=
  let out := railAbove r.rail r.uv || (railBelow r.rail r.uv && !railHolds r.rail)
  if s.boot.rootLocked && decide (r.rail < 8) && out then
    .next (quietIn (detectSrc s (railOf r.rail).src) (railOf r.rail).src msTicks)
  else .next s

/-- ROOT_UNLOCK: source 0, live until lock returns (18 Table 18-2). -/
def execRootUnlock (s : State) : Host.Outcome State Fault Refusal :=
  if s.boot.rootLocked then .next (detectSrc s 0) else .next s

/-- REFCLK_LOST: source 1, live until 1 ms of REFCLK (18 Table 18-2; log 12). -/
def execRefclkLost (s : State) : Host.Outcome State Fault Refusal :=
  if s.boot.rootLocked then .next (quietIn (detectSrc s 1) 1 msTicks) else .next s

/-- A drift of more than 10 °C since a channel's last calibration starts a background test of it (08 R183). -/
def driftTdc (s : State) (ch : Nat) : State :=
  let last := kget (fun _ => 2500) s.boot.tdcCalTemp ch
  if getP s 0x06 0 tTDC_AUTOCAL = 1 ∧ 1000 < (s.boot.dieTemp - last).natAbs ∧ !calBusy s 1 ch then tdcRun s ch false else s

/-- The same for the front end (11 R253). -/
def driftFe (s : State) : State :=
  if getP s 0x07 0 fFE_AUTOCAL = 1 ∧ 1000 < (s.boot.dieTemp - s.boot.feCalTemp).natAbs then feRequestCal s else s

/-- DIE_TEMP_SAMPLE: the eight sensors in 0.01 °C, DIE_TEMP being the highest: DIE_HOT above 150 °C and below 145 °C, the trip at 165 °C, recalibration on drift (08
R183; 11 R253; 18 Table 18-2, R378; 21 R444). -/
def execDieTempSample (sensors : List Int) (s : State) : Host.Outcome State Fault Refusal :=
  let temp := hottest sensors
  if s.boot.porstLow || s.boot.thermalHold then .next { s with boot := { s.boot with dieTemp := temp } }
  else if 16500 ≤ temp then .next (thermalTrip s temp)
  else
    let s := { s with boot := { s.boot with dieTemp := temp } }
    if !s.boot.rootLocked then .next s
    else
      let s := if 15000 < temp then raiseOnce s (raiseBlank 5) else if temp < 14500 then clearIf s 5 else s
      if s.boot.userApplied then .next (driftFe ((List.range 16).foldl driftTdc s)) else .next s

/-! ### Cast-on to the root lock (20 R417, R419, R420) -/

/-- CAST_ON_START: PORST_N is released and the straps are sampled (20 R417, Table 20-3). -/
def execCastOnStart (bootSel pairId : Nat) (s : State) : Host.Outcome State Fault Refusal :=
  if s.boot.porstLow then
    .next { s with boot := { s.boot with porstLow := false, bootSel := bootSel % 4, unitId := pairId % 8 } }
  else .next s

/-- Does the root synthesiser start: no reset held, not yet locked, not given up (20 R416, R419, R420)? -/
def rootStarts (s : State) : Bool :=
  !s.boot.porstLow && !s.boot.thermalHold && decide (s.boot.supplyHold = 0) && !s.boot.rootLocked && !s.boot.rootFailed &&
    decide (s.boot.st = .reset)

/-- The SCLK ticks after which the live bit of a carried source clears (18 Table 18-2). -/
def carriedQuiet (src : Nat) : Nat := if src = 8 then 0 else msTicks

/-- Events carried across the reset are registered in one FCLK cycle, as the journal's first entries (18 R378; 20 R416; 21 R444). -/
def raiseCarried (s : State) : State :=
  let xs := s.boot.carried
  let s := xs.foldl detectSrc { s with boot := { s.boot with carried := [] } }
  xs.foldl (fun s src => quietIn s src (carriedQuiet src)) (registerRaises s)

/-- ROOT_LOCK: at cast-on the timebase starts at 0 and all clocks run; later, lock returns and source 0 clears (08 R174; 18 Table
18-2; 20 Table 20-5). -/
def execRootLock (s : State) : Host.Outcome State Fault Refusal :=
  if s.boot.rootLocked then .next (clearIf s 0)
  else if rootStarts s then
    .next (raiseCarried { s with time := { s.time with sclk := 0, ticks := 0 }, boot := { s.boot with rootLocked := true } })
  else .next s

/-- ROOT_LOCK_TIMEOUT: no lock within 2 ms: the device stays in reset, FAULT_N low (20 R420). -/
def execRootLockTimeout (s : State) : Host.Outcome State Fault Refusal :=
  if rootStarts s then .next { s with boot := { s.boot with rootFailed := true } } else .next s

/-! ### NVM load and march test (19 R403, R405, R406, R410; 20 R419, R420) -/

/-- Cast-on ends in FAILED (20 R420). -/
def castOnFails (s : State) (src : Nat) : State :=
  setBootSt { s with boot := { s.boot with failSource := src } } .failed

/-- A unit of the repair map is kept out of service (19 R410). -/
def unitOut (s : State) (u : RepairUnit) : State :=
  match u with
  | .slice p c n => setAdc s p c { adcOf s p c with out := (adcOf s p c).out ++ [n] }
  | .tdcCore ch core => setTdc s ch { tdcOf s ch with failed := putBit (tdcOf s ch).failed core true }
  | .core c => setUse s c .failed
  | .engine e => setEngine s e ⟨.failed, .idle, 0⟩
  | .sramRow a _ => { s with cal := { s.cal with sramUsed := kput (fun _ => 0) s.cal.sramUsed a (rowsUsed s a + 1) } }
  | .dramRow _ _ _ _ _ => s

/-- The repair map of region R is the working map again, and its units stay out (19 R406, R410). -/
def applyRepair (s : State) : State :=
  s.cal.regionR.foldl unitOut { s with cal := { s.cal with repair := s.cal.regionR, sramUsed := [] } }

/-- The march test finds a failing row: a spare row and source 59, or its owner leaves service, or, on any other array, source 60
(19 R403, R411). -/
def marchRow (s : State) (q : Nat × Nat) : State :=
  if repairHas s (.sramRow q.1 q.2) then s
  else if rowsUsed s q.1 < 4 then
    let s := bumpP (rowRepair s q.1 q.2) 0x09 0 aSRAM_REPAIRS
    quietIn (detect s (rowRaise 59 q.1 q.2)) 59 (2 * usTicks)
  else if q.1 < 68 then repairAdd (setUse s q.1 .failed) (.core q.1)
  else if 256 ≤ q.1 ∧ q.1 < 265 then repairAdd (setEngine s (q.1 - 256) ⟨.failed, .idle, 0⟩) (.engine (q.1 - 256))
  else castOnFails (detect s (rowRaise 60 q.1 q.2)) 60

/-- The failing rows of a march test (19 R403). -/
def marchRows (s : State) (rows : List (Nat × Nat)) : State := rows.foldl marchRow s

/-- A slot that no FW_STAGE has written holds what it held as shipped. -/
def shippedSlot (x : FwSlot) (im : List Byte) : FwSlot := if x.image.isEmpty then ⟨im, false⟩ else x

/-- A bank of region U whose CRC fails is not used (19 R405). -/
def bankRead (s : State) (n : Nat) (ok : Bool) : State :=
  if ok then s
  else
    let c := s.cal
    let c := if n = 0 then { c with bank0 := bankBlank } else { c with bank1 := bankBlank }
    nvmError { s with cal := c } regionU 0

/-- What region R gives: the repair map and the active-slot record, or, with a bad CRC, neither (19 R405, R410; 20 R421). -/
def regionRRead (s : State) (ok : Bool) : State :=
  if ok then applyRepair s
  else
    let s := { s with cal := { s.cal with regionR := [] }, boot := { s.boot with activeSlot := 0 } }
    nvmError (applyRepair s) regionR 0

/-- The NVM load with region F good: identity, slots, repair map, banks, first march test (19 R406; 20 Table 20-5). -/
def nvmLoad (s : State) (v : NvmLoad) : State :=
  let b := s.boot
  let b := { b with serial := fitBytes 16 v.serial, slotA := shippedSlot b.slotA v.shippedA, slotB := shippedSlot b.slotB v.shippedB }
  let s := { s with boot := b, link := { s.link with subsystem := v.subsystem } }
  let s := bankRead (bankRead (regionRRead s v.regionROk) 0 v.bank0Ok) 1 v.bank1Ok
  let s := marchRows s v.march
  if s.boot.st = .failed then s
  else
    let s := setBootSt s .nvmLoaded
    if s.boot.warm then setBootSt s .linkReady else s

/-- NVM_LOADED (19 R405, R406; 20 Table 20-5, R420). -/
def execNvmLoaded (nvm : NvmLoad) (s : State) : Host.Outcome State Fault Refusal :=
  if s.boot.rootLocked && decide (s.boot.st = .reset) then
    if nvm.regionFOk then .next (nvmLoad s nvm) else .next (castOnFails (nvmError s regionF 0) 113)
  else .next s

/-! ### Link, boot ROM, recovery (14 R314; 20 R420 to R423, R428, R429) -/

/-- LINK_READY: 5 ms after PORST_N release; the endpoint stays available in FAILED too (14 R314; 20 R420). -/
def execLinkReady (s : State) : Host.Outcome State Fault Refusal :=
  if s.link.clkreqLow || !(s.boot.st = .nvmLoaded || s.boot.st = .failed) then .next s
  else
    let up := !s.link.perstLow
    let s := { s with link := { s.link with clkreqLow := true, endpointUp := up, mayTrain := up } }
    if s.boot.st = .nvmLoaded then .next (setBootSt s .linkReady) else .next s

/-- A doorbell that was held until firmware ran is answered BOOTING (15 R324). -/
def answerHeld (s : State) (b : Nat × Nat × Nat × Bool) : State :=
  finish (accept s ⟨b.1, b.2.2.1, b.2.2.2⟩ b.2.1) b.1 (statusOnly stBooting)

/-- Firmware starts; held doorbells are answered (15 R324). -/
def firmwareStarts (s : State) : State :=
  let bells := s.boot.heldBells
  bells.foldl answerHeld { s with boot := { s.boot with fwRuns := true, heldBells := [] }, col := { s.col with fedAt := nowClk s } }

/-- The boot ROM starts a slot that has passed (20 R421). -/
def bootSlot (s : State) (n : Nat) : State :=
  let s := slotPasses s n
  firmwareStarts (setBootSt { s with boot := { s.boot with fwSlot := n } } .fwBoot)

/-- Does a slot pass the boot ROM's verification (20 R421)? -/
def slotBoots (s : State) (n : Nat) : Bool := decide (verdict s (fwSlotOf s n).image true = .pass)

/-- Neither slot starts: FAILED under BOOT_SEL 0b10, recovery boot otherwise (20 R422). -/
def noSlot (s : State) : State :=
  if s.boot.bootSel = 2 then castOnFails s 114 else { s with boot := { s.boot with recovering := true } }

/-- BOOT_VERIFY: the slot of the active-slot record, then the other; source 114 for each that fails, which the other's success
clears (20 R421, R422, R425). -/
def execBootVerify (s : State) : Host.Outcome State Fault Refusal :=
  if s.boot.st ≠ .linkReady ∨ s.boot.fwRuns ∨ s.boot.recovering then .next s
  else if s.boot.bootSel = 1 then .next { s with boot := { s.boot with recovering := true } }
  else
    let a := s.boot.activeSlot
    if slotBoots s a then .next (bootSlot s a)
    else
      let s := authFails s a
      if slotBoots s (1 - a) then .next (bootSlot s (1 - a)) else .next (noSlot (authFails s (1 - a)))

/-- Is an image from the flash a recovery image that passes; ROLLBACK is not checked (20 R428)? -/
def recoveryOk (s : State) (im : List Byte) : Bool :=
  decide (im.head? ≠ some 0xFF) && decide (fieldAt im 6 2 = 0x0002) && decide (verdict s im false = .pass)

/-- A ring whose ENABLE was written before it could take effect starts (14 R314; 20 R429). -/
def ringIfEnabled (s : State) (r : Nat) : State :=
  if (ringOf s r).enable && decide ((ringOf s r).st = .disabled) && ringsMayRun s r then ringStart s r else s

/-- RECOVERY_BOOT: the recovery image is verified, which clears source 114, and started, or cast-on ends FAILED with 114 (20 R428, R429). -/
def execRecoveryBoot (image : List Byte) (s : State) : Host.Outcome State Fault Refusal :=
  if !s.boot.recovering then .next s
  else
    let s := { s with boot := { s.boot with recovering := false } }
    if recoveryOk s image then
      let s := setBootSt (firmwareStarts (clearIf s 114)) .recovery
      .next (ringIfEnabled (ringIfEnabled s 130) 132)
    else .next (castOnFails (detectSrc s 114) 114)

/-- MARCH_TEST_DONE: the march test of the remaining arrays ends; source 60 clears where every array keeps a spare row (19 R403,
R411; 20 Table 20-5, R420). -/
def execMarchTestDone (rows : List (Nat × Nat)) (s : State) : Host.Outcome State Fault Refusal :=
  if s.boot.marchDone || !(s.boot.st = .linkReady || s.boot.st = .fwBoot || s.boot.st = .recovery) then .next s
  else
    let s := marchRows s rows
    let s := if s.cal.sramUsed.all (fun p => p.2 < 4) then clearIf s 60 else s
    .next { s with boot := { s.boot with marchDone := true } }

/-- FW_BOOT gives way to DRAM_TRAIN once the march test has ended (20 Table 20-5; log 113). -/
def trainStarts (s : State) : State :=
  if s.boot.st = .fwBoot ∧ s.boot.marchDone then
    setBootSt { s with boot := { s.boot with trainSeen := true } } .dramTrain
  else s

end Sys2Proof.Machine
end

