-- ==== Sys2Proof/Machine/Commit.lean ====
section
/-! DEFINITION. Machine/Commit.lean: PARAM_COMMIT over the domains whose items it applies (15 R325, R328; the item tables of 05,
07, 08, 09, 11, 13, 16, 18, 19), and FAULT_CLEAR (15 R334). -/

namespace Sys2Proof.Machine

/-- The insts a commit covers among those given; 0xFF covers them all (15 R328). -/
def commitIns (ins : Nat) (all : List Nat) : List Nat := all.filter (fun i => ins = 0xFF || i = ins)

/-- The staged values of the objects a test names, in object order. -/
def stagedVals (s : State) (f : Nat → Bool) : List (Nat × Int) :=
  (stagedIds s f).map (fun o => (o, (stagedOf s o).getD 0))

/-- The state without the staged values of the objects a test names (15 R325). -/
def unstage (s : State) (f : Nat → Bool) : State := { s with staged := s.staged.filter (fun p => !f p.1) }

/-! ### Raman and fusion items (05 R104, R107, R110, R128; 12 R271) -/

/-- Is an object a Raman or fusion item of a port? -/
def ramanItem (p o : Nat) : Bool := decide (objDom o = 3) && decide (objInst o = p) && decide (0x60 ≤ objItem o) && decide (objItem o ≤ 0x7C)

/-- A Raman item as the commit would leave it: staged, accepted for the next interval, or applied. -/
def ramanView (s : State) (p item : Nat) : Int :=
  let o := objId 3 p item
  (stagedOf s o).getD (((((portOf s p).raman.next.find? (fun (q : Nat × Int) => q.1 = o)).map (fun (q : Nat × Int) => q.2))).getD (getP s 3 p item))

/-- The first RSW_i that does not rise above a non-zero one before it, or is not zero after a zero (05 R104). -/
def rswFault (s : State) (p : Nat) : Option Nat :=
  [1, 2].find? (fun i =>
    let a := ramanView s p (pRSW + (i - 1))
    let b := ramanView s p (pRSW + i)
    decide (b ≠ 0) && decide (b ≤ a || a = 0))

/-- The lowest channel, not OFF, whose table would not fit a port's wavelength (12 R271). -/
def wavelengthClash (s : State) (p : Nat) : Option Nat :=
  (List.range 8).find? (fun c =>
    decide ((sdOf s c).st ≠ .off) && decide (sdP s c dSD_PORT = (p : Int)) &&
      (match sdTable s c with
      | some t => decide (t.wl ≠ 0) && decide ((t.wl : Int) ≠ ramanView s p pWAVELENGTH)
      | none => false))

/-- The port whose new RAMAN_ORIGIN breaks 05 R110. -/
def originFault (s : State) (ps : List Nat) : Option Nat :=
  let moved := ps.filter (fun p => (stagedOf s (objId 3 p pRAMAN_ORIGIN)).isSome && decide (ramanView s p pRAMAN_ORIGIN ≠ getP s 3 p pRAMAN_ORIGIN))
  let o := fun p => if ps.contains p then (ramanView s p pRAMAN_ORIGIN).toNat else natP s 3 p pRAMAN_ORIGIN
  if dualOn s && ramanClash (pv s 0) (pv s 1) (o 0) (o 1) then moved.head? else none

/-- The checks of a commit of Raman items (05 R104, R110; 12 R271). -/
def ramanFault (s : State) (ps : List Nat) : Option Reply :=
  match ps.findSome? (fun p => (rswFault s p).map (fun i => badItem p (pRSW + i))) with
  | some r => some r
  | none => match originFault s ps with
    | some p => some (badItem p pRAMAN_ORIGIN)
    | none => ps.findSome? (fun p => if (stagedOf s (objId 3 p pWAVELENGTH)).isSome then (wavelengthClash s p).map (badState 0x0803) else none)

/-- Raman items wait for the next interval; with none in progress they are in force at once (05 R107, R128). -/
def ramanTake (s : State) (p : Nat) : State :=
  let vals := stagedVals s (ramanItem p)
  let s := modRaman (unstage s (ramanItem p)) p (fun x => { x with
    next := x.next.filter (fun (q : Nat × Int) => !vals.any (fun (v : Nat × Int) => v.1 = q.1)) ++ vals })
  if (portOf s p).raman.intStart.isNone then ramanItemsApply s p else s

/-- PARAM_COMMIT of domain 0x03. -/
def commitRaman (ins : Nat) (s : State) : State × Answer :=
  let ps := (commitIns ins [0, 1]).filter (fun p => !(stagedIds s (ramanItem p)).isEmpty)
  match ramanFault s ps with
  | some r => reply s r
  | none => (ps.foldl ramanTake s, .final okBare)

/-! ### Detectors, front end, Needles, calibration, memory -/

/-- Items 0x0025 + 8d to 0x0027 + 8d of a zone (07 R150). -/
def detLiveItem (ins o : Nat) : Bool :=
  decide (objDom o = 4) && (decide (ins = 0xFF) || decide (objInst o = ins)) && decide (0x20 ≤ objItem o) && decide (objItem o < 0x40) &&
    decide (5 ≤ objItem o % 8)

/-- Is an object a general item of the front end (11 Table 11-8)? -/
def feGeneralItem (o : Nat) : Bool := decide (objDom o = 7) && decide (objInst o = 0) && decide (objItem o < 0x10)

/-- Is an object an entry item of an entry (11 Table 11-8)? -/
def feEntryItem (n o : Nat) : Bool := decide (objDom o = 7) && decide (objInst o = n) && decide (0x10 ≤ objItem o) && decide (objItem o < 0x14)

/-- Entry items wait for the entry's next start (11 R261). -/
def feTakeEntry (s : State) (n : Nat) : State :=
  let vals := stagedVals s (feEntryItem n)
  if vals.isEmpty then s
  else modEntry (unstage s (feEntryItem n)) n (fun x => { x with
    next := x.next.filter (fun (q : Nat × Int) => !vals.any (fun (v : Nat × Int) => v.1 = q.1)) ++ vals })

/-- PARAM_COMMIT of domain 0x07 (11 R261). -/
def commitFe (ins : Nat) (s : State) : State × Answer :=
  let s := if ins = 0 ∨ ins = 0xFF then applyStaged s feGeneralItem else s
  ((commitIns ins (List.range 32)).foldl feTakeEntry s, .final okBare)

/-- Is an object an item of a domain's inst 0 that a commit applies? -/
def domainItem (dom o : Nat) : Bool := decide (objDom o = dom) && decide (objInst o = 0)

/-- PARAM_COMMIT of domain 0x0C (09 R206, R207). -/
def commitNeedle (s : State) : State × Answer :=
  match stagedOf s (objId 0x0C 0 nUSER_CORES) with
  | none => (applyStaged s (domainItem 0x0C), .final okBare)
  | some v =>
    match userCoresFault s v.toNat with
    | some r => reply s r
    | none => (setUserCores (applyStaged s (domainItem 0x0C)) v.toNat, .final okBare)

/-- PARAM_COMMIT of domain 0x09 (19 R412). -/
def commitCal (ins : Nat) (s : State) : State × Answer :=
  let s := applyStaged s (fun o => decide (objDom o = 9) && (decide (ins = 0xFF) || decide (objInst o = ins)))
  (stepKick (stepKick s 0) 1, .final okBare)

/-- PARAM_COMMIT of domain 0x10; P7_RESERVE makes the check of R288 (13 R295). -/
def commitMem (s : State) : State × Answer :=
  let isOver := match stagedOf s (objId 0x10 0 mP7_RESERVE) with
    | some v => decide (dramLimit (natP s 0x10 0 mFSP_NOW) < dramLoad s (sceneNow s) [] [] v.toNat)
    | none => false
  if isOver then reply s (noResource 0x1001 0) else (applyStaged s (domainItem 0x10), .final okBare)

/-! ### The command (15 R328) -/

/-- An OK answer without the payload that the dedicated command returns. -/
def bareAnswer : Answer → Answer
  | .final r => .final { r with payload := [] }
  | a => a

/-- What a commit of a domain does: the checks, allocations and effect of its items (15 R328). -/
def commitDomain (dom ins : Nat) (s : State) : State × Answer :=
  let zero := decide (ins = 0) || decide (ins = 0xFF)
  match dom with
  | 0x03 => commitRaman ins s
  | 0x04 => (applyStaged s (detLiveItem ins), .final okBare)
  | 0x06 => if zero then commitTime s else reply s okBare
  | 0x07 => commitFe ins s
  | 0x09 => commitCal ins s
  | 0x0B => if zero then (pairCommit s, .final okBare) else reply s okBare
  | 0x0C => if zero then commitNeedle s else reply s okBare
  | 0x0D => if zero then commitCollector s else reply s okBare
  | 0x10 => if zero then commitMem s else reply s okBare
  | _ => reply s okBare

/-- PARAM_COMMIT (15 R325, R328). -/
def bodyParamCommit (dom ins action : Nat) (s : State) : State × Answer :=
  if (itemRowsOf dom).isEmpty then reply s (badField 0)
  else if ins ≠ 0xFF ∧ (listItems dom ins 0).isEmpty then reply s (badField 8)
  else if 1 < action then reply s (badField 16)
  else if action = 1 then
    (unstage s (fun o => decide (objDom o = dom) && (decide (ins = 0xFF) || decide (objInst o = ins))), .final okBare)
  else
    let p := commitDomain dom ins s
    (p.1, bareAnswer p.2)

/-- PARAM_COMMIT (15 R328). -/
def execParamCommit (r : Req) (dom ins action : Nat) (s : State) : Host.Outcome State Fault Refusal :=
  .next (mbxRun (.paramCommit r dom ins action) r 0x0203 false (bodyParamCommit dom ins action) s)

/-! ### FAULT_CLEAR (15 R334; 17 R357; 18 R381, R390) -/

/-- The sources a mask names. -/
def maskSources (mask : Nat) : List Nat := (List.range 128).filter (fun i => mask.testBit i && sourceExists i)

/-- FAULT_CLEAR: the sticky bits of named sources no longer live; a FAULTED unit may return to STANDBY (15 R334; 17 R357). -/
def bodyFaultClear (mask : Nat) (s : State) : State × Answer :=
  let srcs := maskSources mask
  let go := srcs.filter (fun i => !isLive s i && !raiseWins s i && (srcRec s i).sticky)
  if !canRecordMany s go.length then reply s (busy 0)
  else
    let still := sumN ((srcs.filter (fun i => isLive s i || raiseWins s i)).map (fun i => 2 ^ i))
    let s := clearSticky s go
    let s := modPair s (fun x => { x with faultCleared := decide (x.role = .faulted) })
    (pairRecover s, .final (okWith (leBytes 16 still)))

/-- FAULT_CLEAR (15 R334). -/
def execFaultClear (r : Req) (mask : Nat) (s : State) : Host.Outcome State Fault Refusal :=
  .next (mbxRun (.faultClear r mask) r 0x0D02 false (bodyFaultClear mask) s)

end Sys2Proof.Machine
end

