-- ==== Sys2Proof/Machine/Zone.lean ====
section
/-! DEFINITION. Machine/Zone.lean: the zone commands, and a zone's samples through stages, DC stage, output words and frames
(06). -/

namespace Sys2Proof.Machine

/-! ### Samples in (06 R133, R134) -/

/-- The value and QUAL of one stitch of a dual-ended or plain zone, and whether it comes from port B (01 R27; 06 R134). -/
def pickStitch (product gaugeB : Nat) (a : PhaseRow) (b : Option PhaseRow) (st : Nat) : QVal × Bool :=
  let value := fun (r : PhaseRow) (i : Nat) =>
    if product = 0 then nth 0 r.dphi i else if product = 1 then nth 0 r.phi i else nth 0 r.amp i
  let own : QVal := (value a st, nth 0x15 a.qual st)
  match b with
  | none => (own, false)
  | some rb =>
    let m := a.amp.length - 1 - st
    let dead := fun (r : PhaseRow) (i : Nat) => match r.dead with | some d => decide (d ≤ i) | none => false
    if product = 2 then
      if dead a st && !dead rb m then ((value rb m, nth 0x15 rb.qual m ||| 64), true) else (own, false)
    else if own.2.testBit 7 && decide (gaugeB ≤ m) && !(nth 0x15 rb.qual (m - gaugeB)).testBit 7 then
      let x := value rb (m - gaugeB)
      ((if product = 0 then -x else x, nth 0x15 rb.qual (m - gaugeB) ||| 64), true)
    else (own, false)

/-- A stitch's input: DISCONT where its source port changes; a PHI value unwrapped onto P48 (06 R133, R134). -/
def enterStitch (product : Nat) (q : QVal × Bool) (was : Bool) (p : Int × Int) : QVal × (Int × Int) :=
  let qual := if q.2 != was then q.1.2 ||| 32 else q.1.2
  if product = 1 then
    let p48 := if qual.testBit 5 then q.1.1 else wrapS 48 (p.1 + wrapS 32 (q.1.1 - p.2))
    ((p48, qual), (p48, q.1.1))
  else ((q.1.1, qual), p)

/-! ### Stages (06 R136, R139) -/

/-- The rank of an INVALID reason, highest first (04 Table 04-3). -/
def reasonRank (r : Nat) : Nat :=
  match r with
  | 5 => 7
  | 4 => 6
  | 0 => 5
  | 6 => 4
  | 1 => 3
  | 2 => 2
  | 3 => 1
  | _ => 0

/-- The highest reason of a list. -/
def topReason (rs : List Nat) : Nat := rs.foldl (fun a r => if reasonRank a < reasonRank r then r else a) 7

/-- NO_GAUGE, DEAD or RESTART (06 R139). -/
def hardReason (r : Nat) : Bool := decide (r = 5) || decide (r = 4) || decide (r = 0)

/-- QUAL of a stage's output from those under its taps (06 R139). -/
def mixQual (qs : List Nat) : Nat :=
  let flags := qs.foldl (fun a q => a ||| (q &&& 0xE8)) 0
  let bad := (qs.filter (fun q => q.testBit 4)).map (fun q => q % 8)
  let hard := bad.filter hardReason
  if !hard.isEmpty then flags ||| 16 ||| topReason hard
  else if qs.length < 4 * bad.length then flags ||| 16 ||| topReason bad
  else
    flags ||| ((qs.filter (fun q => !q.testBit 4)).map (fun q => if q.testBit 3 then 0 else q % 8)).foldl min 7

/-- One stitch of a stage's output, and whether it saturated (06 R136). -/
def stageOut (hs : List Int) (shift : Nat) (line : List (List QVal)) (q : Nat) : QVal × Bool :=
  let xs := line.map (fun row => nth (0, 0) row q)
  let acc := sumI ((List.range xs.length).map (fun t => nth 0 hs t * (nth (0, 0) xs t).1))
  let y := roundDivI (acc * 2 ^ shift) (2 ^ 18)
  ((satS 48 y, mixQual (xs.map (fun (x : QVal) => x.2))), ovfS 48 y)

/-- A row enters a stage: the stage, its output where one falls due, and saturations (06 R136). -/
def stagePush (hs : List Int) (shift : Nat) (decim : Bool) (st : Stage) (row : List QVal) :
    Stage × Option (List QVal) × Nat :=
  let line := (row :: st.line).take hs.length
  let st' : Stage := ⟨st.n + 1, line⟩
  if decim && st.n % 2 = 1 then (st', none, 0)
  else
    let ys := (List.range row.length).map (stageOut hs shift line)
    (st', some (ys.map (fun (y : QVal × Bool) => y.1)), (ys.filter (fun (y : QVal × Bool) => y.2)).length)

/-- A row enters the stages from index `i` on. -/
def chainPush (v : ZView) : Nat → List Stage → List QVal → List Stage × Option (List QVal) × Nat
  | _, [], row => ([], some row, 0)
  | i, st :: rest, row =>
    let r := stagePush (stageCoefs (zn v zPRESET) (zminPhase v)) (zn v (zSHIFT + i)) true st row
    match r.2.1 with
    | none => (r.1 :: rest, none, r.2.2)
    | some ys =>
      let q := chainPush v (i + 1) rest ys
      (r.1 :: q.1, q.2.1, r.2.2 + q.2.2)

/-! ### DC stage and output words (06 R140, R141) -/

/-- QUAL of an output sample in warm-up (06 R139). -/
def warmQual (q : Nat) : Nat := if q.testBit 4 && hardReason (q % 8) then q else (q &&& 0xE8) ||| 0x16

/-- One stitch through the DC stage: output and μ (06 R140). -/
def dcStep (shift : Nat) (warm first frozen phi : Bool) (x : QVal) (mu : Option Int) : Int × Option Int :=
  if shift = 0 || warm then (x.1, mu)
  else
    let loads := (first && (!frozen || mu.isNone)) || (phi && x.2.testBit 5 && !frozen) || mu.isNone
    if loads then (0, some (x.1 * 65536))
    else
      let m := mu.getD 0
      (x.1 - roundDivI m 65536, some (if frozen then m else wrapS 64 (m + roundDivI (x.1 * 65536 - m) (2 ^ shift))))

/-- The output word of a value, and whether it saturated (06 R141). -/
def outWord (v : ZView) (x : Int) : Int × Bool :=
  match zn v zPRODUCT with
  | 0 => if zn v zOUT_WIDTH = 16 then (clampI (-32767) 32767 x, clampI (-32767) 32767 x != x) else (satS 32 x, ovfS 32 x)
  | 1 => (wrapS 32 x, false)
  | 2 => if zn v zOUT_WIDTH = 16 then (satU 16 x, satU 16 x != x) else (satS 32 x, ovfS 32 x)
  | _ => (x, false)

/-! ### Rows out -/

/-- A zone's detectors receive a row: each enabled one will decide on it (07 R152, R153). -/
def feedDetectors (s : State) (z : Nat) (r : ZRow) (warm : Bool) : State :=
  let v := zview s z
  modZone s z (fun x => { x with dets := (List.range 4).map (fun d =>
    let t := nth detNone x.dets d
    if detOn v d then
      { t with queue := t.queue ++ [⟨r, x.outIdx - 1, warm, v (zdet zDET_LEVEL d), v (zdet zDET_HYST d), decide (v (zdet zDET_EDGE d) = 1)⟩] }
    else t) })

/-- An output row goes to the frame, the detectors, the skeins and the kernels (06 R146; 07 R152, R163; 09 R210). -/
def emitRow (s : State) (z : Nat) (r : ZRow) (warm first : Bool) : State :=
  let s := bumpP s 0x04 z zSAMPLES_OUT
  let s := modZone s z (fun x => { x with last := some r, outIdx := x.outIdx + 1 })
  let s := frameRow s z r first
  let s := feedDetectors s z r warm
  onZoneRow s z r

/-- The first REF_PERIOD has been measured: SAMPLE_PERIOD is taken again (06 R142). -/
def takePeriod (s : State) (z : Nat) : State :=
  let v := zview s z
  if (zoneOf s z).periodWaits && !refUnknown s v then
    let per := samplePeriod s v
    modZone s z (fun x => { x with period := per, periodWaits := false })
  else s

/-- A row that has left the chain becomes an output row (06 R139 to R142). -/
def outputRow (s : State) (z label : Nat) (row : List QVal) : State :=
  let v := zview s z
  let x := zoneOf s z
  let w := warmupLen v
  let warm := decide (x.outIdx < w)
  let first := decide (x.outIdx = w)
  let row := if warm then row.map (fun (q : QVal) => (q.1, warmQual q.2)) else row
  let dc := (List.range row.length).map (fun q =>
    dcStep (zn v zDC_SHIFT) warm (first && !x.keepMu) x.frozen (decide (zn v zPRODUCT = 1)) (nth (0, 0) row q) (nth none x.mu q))
  let words := dc.map (fun (y : Int × Option Int) => outWord v y.1)
  let sats := (words.filter (fun (y : Int × Bool) => y.2)).length
  let s := addP s 0x04 z zSAT_COUNT sats
  let s := modZone s z (fun x => { x with
    mu := dc.map (fun (y : Int × Option Int) => y.2), keepMu := x.keepMu && warm, satNow := x.satNow + sats, outNow := x.outNow + words.length })
  let s := takePeriod s z
  emitRow s z ⟨label, (List.range row.length).map (fun q => ((nth (0, false) words q).1, (nth (0, 0) row q).2))⟩ warm first

/-- A synchronising reset is due at a sample with a label (06 R143). -/
def resetFalls (x : Zone) (label : Nat) : Bool :=
  x.resetDue || (match x.syncAt with | some t => decide (t ≤ label) | none => false)

/-- A phase row passes through the zone (06 R133 to R146): its frame closes and it resets at new shot 0 (R144). -/
def phaseInput (s : State) (z : Nat) (a : PhaseRow) (b : Option PhaseRow) : State :=
  let s := if a.idx = 0 then modZone (closeZoneFrame s z) z (fun x => { x with resetDue := true }) else s
  let s := if resetFalls (zoneOf s z) a.tL then zoneReset s z a.tL else s
  let v := zview s z
  let s := if !(zoneOf s z).restore.isEmpty && decide (2 * planP_ (pv s (zport v)) ≤ a.idx) then
    modZone s z (fun x => { x with p48 := x.restore, restore := [] }) else s
  let x := zoneOf s z
  let picked := (zstitches v).map (pickStitch (zn v zPRODUCT) (natP s 0x03 1 pGAUGE) a b)
  let entered := (List.range picked.length).map (fun q =>
    enterStitch (zn v zPRODUCT) (nth ((0, 0), false) picked q) (nth false x.fromB q) (nth (0, 0) x.p48 q))
  let r := chainPush v 0 x.stages (entered.map (fun (e : QVal × (Int × Int)) => e.1))
  let s := addP s 0x04 z zSAT_COUNT r.2.2
  let s := modZone s z (fun x => { x with
    stages := r.1, p48 := entered.map (fun (e : QVal × (Int × Int)) => e.2)
    fromB := picked.map (fun (q : QVal × Bool) => q.2) })
  match r.2.1 with
  | none => s
  | some row =>
    if zn v zPRESET = 3 ∧ 1 ≤ zdecim v then
      let e := stagePush (equaliserCoefs (zdecim v)) 0 false (zoneOf s z).equaliser row
      let s := addP s 0x04 z zSAT_COUNT e.2.2
      let s := modZone s z (fun x => { x with equaliser := e.1 })
      outputRow s z a.tL (e.2.1.getD row)
    else outputRow s z a.tL row

/-- TR, FT or FS of one stitch, taken from port B where A's is DEAD and B's is not (06 R134). -/
def tempStitch (s : State) (v : ZView) (r : TRow) (st : Nat) : QVal :=
  let own := nth tvNone r.vals st
  let bs := if zn v zPRODUCT = 4 then (portOf s 1).raman.ft else (portOf s 1).raman.fs
  let i := planN_ (pv s 0) - 1 - st
  let g := natP s 0x03 1 pGAUGE
  let other := nth tvNone bs (i - g)
  if zn v zPORT = 2 ∧ zn v zPRODUCT ≠ 3 ∧ own.q.testBit 7 ∧ g ≤ i ∧ !other.q.testBit 7 then (other.v, other.q ||| 64)
  else (own.v, own.q)

/-- An update of TR, FT or FS passes through the zone unfiltered (06 R133, R139, R142). -/
def tempInput (s : State) (z : Nat) (r : TRow) : State :=
  let s := if resetFalls (zoneOf s z) r.ts then zoneReset s z r.ts else s
  let v := zview s z
  outputRow s z r.ts ((zstitches v).map (tempStitch s v r))

/-- How a row of port B stands to sample i of port A at a label: of an older plan or index, its pair, or later. Both ports start together,
so the pair follows within a shot (06 R134; log 181). -/
inductive PairSide where
  | before
  | pair
  | after
  deriving DecidableEq, Repr

/-- Where a row of port B stands (06 R134; log 181). -/
def pairSide (s : State) (a b : PhaseRow) : PairSide :=
  let d := tsDiff b.tL a.tL
  if d < 0 then .before
  else if ((tk (planNShot (pv s 0)) : Nat) : Int) ≤ d ∨ a.idx < b.idx then .after
  else if b.idx = a.idx then .pair else .before

/-- Port B's sample for one of port A, if it has come; the second says that none will (06 R134). -/
def pairedRow (s : State) (x : Zone) (a : PhaseRow) : Option PhaseRow × Bool :=
  match x.inqB.find? (fun r => pairSide s a r = .pair) with
  | some r => (some r, true)
  | none => (none, x.inqB.any (fun r => pairSide s a r = .after) || streamEnded (portOf s 1))

/-- The oldest waiting input leaves the queue, with port B's rows up to its pair. -/
def popInput (s : State) (z : Nat) (i : ZIn) : State :=
  modZone s z (fun x => { x with
    inq := x.inq.drop 1, oldLeft := x.oldLeft.map (fun n => n - 1)
    inqB := match i with | .phase a => x.inqB.filter (fun r => pairSide s a r = .after) | .temp _ => x.inqB })

/-- After a sample: the frame closes where it was the last of the old plan, or of a stopped port (06 R144). -/
def inputDone (s : State) (z : Nat) : State :=
  let s := if (zoneOf s z).oldLeft = some 0 then compKick (zoneOldEnds s z) else s
  if (zoneOf s z).stopping && zoneQuiet s z then compKick (zoneStopped s z) else s

/-- ZONE_INPUT_SAMPLE: an ENABLED zone takes its oldest waiting sample: a pending redefinition switches there, and the
sample passes through the zone in force; when its port has stopped and no sample is left, the frame closes (06 R131 to
R148). -/
def execZoneInputSample (zone : Nat) (s : State) : Host.Outcome State Fault Refusal :=
  if !zoneEnabled s zone then .next s
  else
    let x := zoneOf s zone
    match x.inq with
    | [] => .next (inputDone s zone)
    | i :: _ =>
      let paired := match i with
        | .phase a => if zn (zview s zone) zPORT = 2 then pairedRow s x a else (none, true)
        | .temp _ => (none, true)
      if !paired.2 then .next s
      else
        let s := popInput s zone i
        let old := zview s zone
        let kept := zoneOf s zone
        let s := if kept.pendingDef then zoneSwitch s zone else s
        let v := zview s zone
        let same := decide (zn v zPORT = zn old zPORT) && zphase v == zphase old &&
          (zphase v || decide (zn v zPRODUCT = zn old zPRODUCT))
        let s := if kept.pendingDef && same then
            modZone s zone (fun x => { x with inq := kept.inq, inqB := kept.inqB, oldLeft := kept.oldLeft })
          else s
        let s := if !same then s else match i with
          | .phase a => phaseInput s zone a paired.1
          | .temp r => tempInput s zone r
        .next (inputDone (compKick s) zone)

/-! ### Commands (06 R131) -/

/-- BAD_PARAM naming an item of a zone. -/
def badZone (z item : Nat) : Reply := badParam (objId 4 z item) z

/-- The items of a definition that fail, in item order (06 R132 to R136; 07 R150, R151). -/
def zoneItemFault (s : State) (c : Scene) (v : ZView) : Option Nat :=
  let product := zn v zPRODUCT
  let temp := ztemp v
  let tests : List (Nat × Bool) := [
    (zPORT, decide (zn v zPORT = 2) && !dualOn s),
    (zSTITCH_COUNT, zoneBeyond ⟨pv s, []⟩ v || zoneBeyond c v),
    (zDECIM, temp && decide (zn v zDECIM ≠ 0)),
    (zMIN_PHASE, decide (zn v zMIN_PHASE = 1) && decide (zn v zPRESET ≠ 1)),
    (zSHIFT, decide (15 < sumN ((List.range (zn v zDECIM)).map (fun i => zn v (zSHIFT + i)))) ||
      (decide (product = 1) && decide (zn v zSHIFT ≠ 0)))] ++
    (List.range 9).map (fun i => (zSHIFT + 1 + i, decide (product = 1) && decide (zn v (zSHIFT + 1 + i) ≠ 0))) ++ [
    (zDC_SHIFT, temp && decide (zn v zDC_SHIFT ≠ 0)),
    (zOUT_WIDTH, (temp || decide (product = 1)) && decide (zn v zOUT_WIDTH ≠ 32))] ++
    ((List.range 4).map (fun d => [
      (zdet zDET_ENABLE d, detOn v d && !zphase v),
      (zdet zDET_BAND_HI d, zphase v && detBandBad c v d)])).flatten
  (tests.find? (fun t => t.2)).map (fun t => t.1)

/-- The items of a release that fail: an enabled detector on PRODUCT = NONE (07 R150). -/
def releaseItemFault (v : ZView) : Option Nat := ([0, 1, 2, 3].find? (detOn v)).map (fun d => zdet zDET_ENABLE d)

/-- The objects that a ZONE_DEFINE applies. -/
def zoneItem (z o : Nat) : Bool :=
  decide (objDom o = 0x04) && decide (objInst o = z) &&
    (match itemRow 0x04 (objItem o) with
    | some r => decide (r.applyOp = 0x0401)
    | none => false)

/-- The values that a ZONE_DEFINE accepts, and the staged set without them (15 R325). -/
def takeStaged (s : State) (f : Nat → Bool) : State × List (Nat × Int) :=
  ({ s with staged := s.staged.filter (fun p => !f p.1) }, stagedPairs s f)

/-- RO counts restart at ZONE_DEFINE (06 R130, 10 R237). -/
def zoneCounts (s : State) (z : Nat) : State :=
  let s := [zFRAMES_OUT, zSAMPLES_OUT, zGAP_COUNT, zSAT_COUNT].foldl (fun s i => setP s 0x04 z i 0) s
  setP (setP s 0x0F z cZRATIO 0) 0x0F z cZNOT_SHRUNK 0

/-- The lowest armed zone skein of a zone (07 R161). -/
def skeinSource (s : State) (z : Nat) : Option Nat :=
  (skeinsWith (fun k => skRuns s k && !skRaw (skview s k) && decide (sn (skview s k) kSOURCE_ZONE = z))).head?

/-- The lowest loaded slot that subscribes a zone (09 R209). -/
def kernelSource (s : State) (z : Nat) : Option Nat :=
  ((loadedSlots s).find? (fun q => q.2.subs.any (fun t => decide (t.1 = 1) && decide (t.2.1 = z)))).map (fun q => q.1)

/-- What ZONE_DEFINE answers (15 Table 15-8). -/
def definePayload (s : State) (v : ZView) : List Byte :=
  leBytes 4 (zoneLoad (sceneNow s) v) ++ leBytes 4 (if zphase v then groupDelay16 v else 0) ++ leBytes 8 (samplePeriod s v)

/-- ZONE_DEFINE of a product: checks, then the definition takes effect at once, or at the switch sample of a RUNNING port
(06 R131, R145). -/
def defineZone (z : Nat) (s : State) : State × Answer :=
  let v := zstaged s z
  let c := sceneZone s z
  match zoneItemFault s c v with
  | some i => reply s (badZone z i)
  | none =>
    match (if zoneEnabled s z then pendingZone s else none) with
    | some w => reply s (busy w)
    | none =>
      match skeinSource s z with
      | some k => reply s (badState 0x0508 k)
      | none =>
        match budgetFault s c z with
        | some r => reply s r
        | none =>
          let p := takeStaged s (zoneItem z)
          let s := zoneCounts p.1 z
          if zoneEnabled s z then
            let running := decide ((portOf s (zport (zview s z))).st = .running)
            let s := modZone s z (fun x => { x with next := p.2, pendingDef := true })
            let s := if running then s else zoneSwitch s z
            (s, .final (okWith (definePayload s v)))
          else
            let s := zoneApply s z p.2
            let s := modZone s z (fun x => { x with st := .defined, period := samplePeriod s (zview s z) })
            (s, .final (okWith (definePayload s v)))

/-- ZONE_DEFINE with PRODUCT = NONE: a DEFINED zone is released with its budget (06 R131; 09 R209). -/
def releaseZone (z : Nat) (s : State) : State × Answer :=
  match releaseItemFault (zstaged s z) with
  | some i => reply s (badZone z i)
  | none =>
    if (zoneOf s z).st ≠ .defined then reply s (badState 0 z)
    else
      match skeinSource s z, kernelSource s z with
      | some k, _ => reply s (badState 0x0508 k)
      | none, some n => reply s (badState 0x0C06 n)
      | none, none =>
        let p := takeStaged s (zoneItem z)
        let s := zoneApply (zoneCounts p.1 z) z p.2
        (modZone s z (fun x => { zoneBlank z with dets := x.dets.map detKept }), .final (okWith (zeros 16)))

/-- ZONE_DEFINE (06 R131, R145). -/
def bodyZoneDefine (z : Nat) (s : State) : State × Answer :=
  if 127 < z then reply s (badField 0)
  else if zn (zstaged s z) zPRODUCT = 15 then releaseZone z s
  else defineZone z s

/-- ZONE_DEFINE (06 R145). -/
def execZoneDefine (r : Req) (zone : Nat) (s : State) : Host.Outcome State Fault Refusal :=
  .next (mbxRun (.zoneDefine r zone) r 0x0401 false (bodyZoneDefine zone) s)

/-- ZONE_ENABLE (06 R131): a reset is due at the next input sample. -/
def bodyZoneEnable (z : Nat) (s : State) : State × Answer :=
  if 127 < z then reply s (badField 0)
  else if (zoneOf s z).st ≠ .defined then reply s (badState 0 z)
  else (loopsWatch (zoneBuild (modZone s z (fun x => { x with st := .enabled })) z), .final okBare)

/-- ZONE_ENABLE (06 R131). -/
def execZoneEnable (r : Req) (zone : Nat) (s : State) : Host.Outcome State Fault Refusal :=
  .next (mbxRun (.zoneEnable r zone) r 0x0402 false (bodyZoneEnable zone) s)

/-- ZONE_DISABLE: the frame closes at the last sample produced; a pending definition is the one that stays (06 R131; log
55). -/
def bodyZoneDisable (z : Nat) (s : State) : State × Answer :=
  if 127 < z then reply s (badField 0)
  else if !zoneEnabled s z then reply s (badState 0 z)
  else
    let s := closeZoneFrame s z
    let s := if (zoneOf s z).pendingDef then zoneApply s z (zoneOf s z).next else s
    let s := modZone s z (fun x => { x with st := .defined, inq := [], inqB := [], oldLeft := none, syncAt := none, stopping := false })
    (loopsWatch (compKick (skeinsZoneOff s z)), .final okBare)

/-- ZONE_DISABLE (06 R131). -/
def execZoneDisable (r : Req) (zone : Nat) (s : State) : Host.Outcome State Fault Refusal :=
  .next (mbxRun (.zoneDisable r zone) r 0x0403 false (bodyZoneDisable zone) s)

/-- ZONE_SYNC (06 R143). -/
def bodyZoneSync (mask at_ : Nat) (s : State) : State × Answer :=
  let zs := (List.range 128).filter (fun z => mask.testBit z)
  if at_ ≠ 0 ∧ at_ < s.time.ticks then reply s (badField 128)
  else
    match zs.find? (fun z => !zoneEnabled s z) with
    | some z => reply s (badState 0 z)
    | none =>
      match zs.find? (fun z => (zoneOf s z).pendingDef) with
      | some z => reply s (busy z)
      | none =>
        (zs.foldl (fun s z => modZone s z (fun x =>
          { x with resetDue := decide (at_ = 0), syncAt := if at_ = 0 then none else some (ts72 at_ 0) })) s, .final okBare)

/-- ZONE_SYNC (06 R143). -/
def execZoneSync (r : Req) (mask at_ : Nat) (s : State) : Host.Outcome State Fault Refusal :=
  .next (mbxRun (.zoneSync r mask at_) r 0x0404 false (bodyZoneSync mask at_) s)

/-- ZONE_FREEZE_DC (06 R140). -/
def bodyZoneFreezeDc (z freeze : Nat) (s : State) : State × Answer :=
  if 127 < z then reply s (badField 0)
  else if 1 < freeze then reply s (badFieldOf 8 z)
  else if (zoneOf s z).st = .undefined then reply s (badState 0 z)
  else
    let f := decide (freeze = 1)
    (modZone s z (fun x => { x with frozen := f, nextFrozen := if x.pendingDef then some f else none }), .final okBare)

/-- ZONE_FREEZE_DC (06 R140). -/
def execZoneFreezeDc (r : Req) (zone freeze : Nat) (s : State) : Host.Outcome State Fault Refusal :=
  .next (mbxRun (.zoneFreezeDc r zone freeze) r 0x0405 false (bodyZoneFreezeDc zone freeze) s)

/-- ZONE_STATUS (15 Table 15-8): items 0x0080 to 0x008F. -/
def bodyZoneStatus (z : Nat) (s : State) : State × Answer :=
  if 127 < z then reply s (badField 0)
  else reply s (okWith (((List.range 16).map (fun i => leBytesI 4 (readItem s (objId 4 z (0x80 + i))))).flatten))

/-- ZONE_STATUS (06 R131). -/
def execZoneStatus (r : Req) (zone : Nat) (s : State) : Host.Outcome State Fault Refusal :=
  .next (mbxRun (.zoneStatus r zone) r 0x0406 false (bodyZoneStatus zone) s)

/-! ### Saturation (06 R141) -/

/-- The values of a second saturated too often. -/
def zoneSatBad (x : Zone) : Bool := decide (x.outNow < x.satNow * 10000)

/-- ZONE_SAT_SECOND: a second has ended. Source 50 is raised for each zone with more than 10⁻⁴ of its values saturated; the live bit clears
after a second with none (06 R141). -/
def execZoneSatSecond (s : State) : Host.Outcome State Fault Refusal :=
  if nowClk s < s.cap.secFrom + secTicks then .next s
  else
    let bad := (List.range 128).filter (fun z => zoneSatBad (zoneOf s z))
    let s := compSecond ((List.range 128).foldl (fun s z => modZone s z (fun x => { x with satNow := 0, outNow := 0 })) s)
    let s := { s with cap := { s.cap with secFrom := s.cap.secFrom + secTicks } }
    .next (if bad.isEmpty then clearIf s 50 else bad.foldl (fun s z => detect s { raiseBlank 50 with zone := z }) s)

end Sys2Proof.Machine
end

