-- ==== Sys2Proof/Machine/CastOn.lean ====
section
/-! DEFINITION. Machine/CastOn.lean: cast-on from DRAM training to READY: training, calibrations, roles of the Needles, region U (13
R281, R284; 18 R384; 19 R395, R406; 20 R419, Table 20-5). -/

namespace Sys2Proof.Machine

/-! ### Training and the calibrations (13 R281, R284; 20 Table 20-5) -/

/-- The soft repairs of the repair map, applied again beside the hard ones that the devices keep (13 R293; 19 R410). -/
def rowsRepaired (s : State) : KMap Nat :=
  s.cal.repair.foldl (fun m u => match u with
    | .dramRow ch rank bank _ 0 => kmod (fun _ => 0) m (repairKey ch rank bank) (· + 1)
    | _ => m) s.mem.hardRepairs

/-- Every core and engine that is not in the repair map goes into its test (19 Table 19-1). -/
def testAll (s : State) : State :=
  let s := testCores (calBegin s 5 0 .background) 0 ((List.range 68).filter (fun c => coreUse s c ≠ .failed))
  testEngines (calBegin s 7 0 .background) 0 ((List.range 9).filter (fun e => (engineOf s e).st ≠ .failed))

/-- ADC_SLICE (two passes), TDC, FE, RAMAN_GAIN, NEEDLE_TEST and COMP_TEST start together (20 Table 20-5). -/
def castOnCals (s : State) : State :=
  let s := fgBegin (fgBegin s 0 2) 1 2
  let s := (List.range 16).foldl (fun s ch => tdcRun s ch true) s
  testAll (ramanCalAsk (ramanCalAsk (feRequestCal s) 3 0) 3 1)

/-- The memory as training leaves it. -/
def trained (s : State) (config : Nat) (rfm : Bool) : State :=
  let m := { s.mem with rfm := rfm, repairs := rowsRepaired s, mr4At := nowClk s, actAt := nowClk s + 32 * msTicks }
  setP { s with mem := m, boot := { s.boot with dramTrained := true } } 0x10 0 mMEM_CONFIG (word32 config)

/-- Are the ranks and the density in Gb of a channel's devices supported (13 Table 13-1)? -/
def devicesFit (q : Nat × Nat) : Bool := (q.1 = 1 || q.1 = 2) && [8, 16, 32].contains q.2

/-- MEM_CONFIG of the fitted devices: ranks, density, and the capacity of four channels in MiB (13 Table 13-7). -/
def memConfig (q : Nat × Nat) : Nat := q.1 + q.2 * 16 + q.1 * q.2 * 512 * 4096

/-- DRAM_TRAINING_DONE: `fitted` holds the ranks and density of each channel's devices and `failed` a bit for each channel that failed a
step. With equal, supported devices and none failed, BAR4 reads are served and the calibrations start; otherwise cast-on ends FAILED with 64
for each channel that failed (13 R279, R281, R284; 20 Table 20-5, R420). -/
def execDramTrainingDone (fitted : List (Nat × Nat)) (failed : Nat) (rfm : Bool) (s : State) : Host.Outcome State Fault Refusal :=
  let first := nth (0, 0) fitted 0
  let bad := [0, 1, 2, 3].filter (fun c => failed.testBit c || !devicesFit (nth (0, 0) fitted c) || nth (0, 0) fitted c ≠ first)
  if s.boot.st ≠ .dramTrain then .next s
  else if bad.isEmpty then .next (castOnCals (freqResume (setBootSt (trained s (memConfig first) rfm) .calibrating)))
  else .next (castOnFails (bad.foldl (fun s c => detect s { raiseBlank 64 with ins := c }) s) 64)

/-! ### Roles (09 R192, R214 to R216; 10 R218, R234) -/

/-- The first `n` of the units that have passed are in service, the rest are spares. -/
def takeRoles (f : State → Nat → Bool → State) (n : Nat) (xs : List Nat) (s : State) : State :=
  let s := (xs.take n).foldl (fun s c => f s c true) s
  (xs.drop n).foldl (fun s c => f s c false) s

/-- A passing core takes its role. -/
def coreRole (s : State) (c : Nat) (on : Bool) : State :=
  setCore (setUse s c (if on then .vendor else .spare)) c { coreOf s c with startClk := nowClk s }

/-- A passing engine takes its role. -/
def engineRole (s : State) (e : Nat) (on : Bool) : State := setEngine s e ⟨if on then .inService else .spare, .idle, 0⟩

/-- 60 N-cores, 3 X-cores and 8 engines in service, lowest numbers first; too few raise 51, 53 and 57 (09 R216, Table 09-15; 10
Table 10-3; 19 Table 19-3). -/
def roles (s : State) : State :=
  let ok := (List.range 68).filter (fun c => coreUse s c ≠ .failed)
  let en := (List.range 9).filter (fun e => (engineOf s e).st ≠ .failed)
  let ns := ok.filter (fun c => !isX c)
  let xs := ok.filter isX
  let s := takeRoles engineRole 8 en (takeRoles coreRole 3 xs (takeRoles coreRole 60 ns s))
  let s := if ns.length < 60 ∨ xs.length < 3 then raiseOnce s (raiseBlank 51) else s
  let s := if xs.length < 2 then raiseOnce s (raiseBlank 53) else s
  if en.length < 8 then raiseOnce s (raiseBlank 57) else s

/-! ### Region U (19 R406) -/

/-- Stored values of one applying command: staged and applied as by that command with its checks, or left at their Reset values with
source 113 naming the failing item (19 R406; log 114). -/
def applyStored (vals : List (Nat × Int)) (body : State → State × Answer) (s : State) : State :=
  match vals with
  | [] => s
  | v :: _ =>
    match firstBad pairOk 0 vals with
    | some p => nvmError s regionU p.2.1
    | none =>
      let r := body (stageAll s vals)
      match r.2 with
      | .final q => if q.status = 0 then r.1 else nvmError s regionU (if q.item = 0 then v.1 else q.item)
      | .later _ => r.1

/-- The stored values that a test names. -/
def storedOf (b : NvmBank) (f : Nat → Bool) : List (Nat × Int) := b.pairs.filter (fun (p : Nat × Int) => f p.1)

/-- Stored values of a domain and an inst. -/
def storedIns (b : NvmBank) (dom ins : Nat) : List (Nat × Int) := storedOf b (fun o => decide (objDom o = dom) && decide (objInst o = ins))

/-- The insts of a domain, each by its own applying command. -/
def applyEach (b : NvmBank) (dom : Nat) (insts : List Nat) (body : Nat → State → State × Answer) (s : State) : State :=
  insts.foldl (fun s i => applyStored (storedIns b dom i) (body i) s) s

/-- Domain 0x06: the timebase items, then the channels (08 R190, R191). -/
def applyTime (b : NvmBank) (s : State) : State :=
  let s := applyStored (storedOf b timeItem) commitTime s
  (List.range 16).foldl (fun s c =>
    applyStored ((storedIns b 6 c).filter (fun (p : Nat × Int) => decide (0x10 ≤ objItem p.1))) (bodyTimeTdcConfig (2 ^ c)) s) s

/-- Domain 0x07: the stored chart, general and entry items, loops (11 R247, R259, R261). -/
def applyFe (b : NvmBank) (s : State) : State :=
  let s := modFe s (fun x => { x with chart := b.chart })
  let s := applyStored ((storedIns b 7 0).filter (fun (p : Nat × Int) => feGeneralItem p.1)) (commitFe 0) s
  let s := (List.range 32).foldl (fun s n =>
    applyStored ((storedIns b 7 n).filter (fun (p : Nat × Int) => feEntryItem n p.1)) (fun s => (feTakeEntry s n, .final okBare)) s) s
  (List.range 4).foldl (fun s n =>
    applyStored ((storedIns b 7 n).filter (fun (p : Nat × Int) => decide (0x40 ≤ objItem p.1))) (bodyFeLoopCfg n) s) s

/-- Domain 0x08: the stored tables, then channels and gate items (12 R269, R270). -/
def applySrc (b : NvmBank) (s : State) : State :=
  applyEach b 8 [0, 1, 2, 3, 4, 5, 6, 7, 0x40, 0x41] bodySrcConfig { s with src := { s.src with tables := b.tables } }

/-- Stored plan items of a port. -/
def storedPlan (b : NvmBank) (p : Nat) : List (Nat × Int) :=
  (storedIns b 3 p).filter (fun (q : Nat × Int) => !ramanItem p q.1)

/-- Does the bank hold a dual-ended plan (01 R25)? -/
def storedDual (b : NvmBank) : Bool := [0, 1].all (fun p => b.pairs.contains (objId 3 p pDUAL_ENDED, 1))

/-- Domain 0x03: plans by PORT_APPLY, both ports at once where they are dual-ended; then the Raman items (01 R25; 05 R128). -/
def applyPorts03 (b : NvmBank) (s : State) : State :=
  let s :=
    if storedDual b then applyStored (storedPlan b 0 ++ storedPlan b 1) (bodyPortApply 0) s
    else applyStored (storedPlan b 1) (bodyPortApply 1) (applyStored (storedPlan b 0) (bodyPortApply 0) s)
  [0, 1].foldl (fun s p =>
    applyStored ((storedIns b 3 p).filter (fun (q : Nat × Int) => ramanItem p q.1)) (commitRaman p) s) s

/-- Domain 0x0F: general items, then zones (10 R225). -/
def applyComp (b : NvmBank) (s : State) : State :=
  let s := applyStored ((storedIns b 0x0F 0).filter (fun (p : Nat × Int) => compScope 0 0 p.1)) (bodyCompConfig 0 0) s
  (List.range 128).foldl (fun s z =>
    applyStored ((storedIns b 0x0F z).filter (fun (p : Nat × Int) => compScope 1 z p.1)) (bodyCompConfig 1 z) s) s

/-- Domain 0x0B: PAIR_ENABLE gives the role; the link enters DETECT only at READY (17 R357; 20 Table 20-5). -/
def applyPair (s : State) : State × Answer := (pairEnabled (applyStaged s pairItem) (pairOn s), .final okBare)

/-- Region U, domain by domain in the order of 19 R406. -/
def applyRegionU (b : NvmBank) (s : State) : State :=
  let s := applyEach b 0x10 [0] (fun _ => commitMem) s
  let s := applyEach b 0x09 [0, 1] commitCal s
  let s := applyEach b 0x0D [0] (fun _ => commitCollector) s
  let s := applyPorts03 b (applySrc b (applyFe b (applyTime b s)))
  let s := applyEach b 0x04 (List.range 128) bodyZoneDefine s
  let s := applyEach b 0x05 (List.range 32) bodyCapSkeinCreate s
  let s := applyEach b 0x0C [0] (fun _ => commitNeedle) s
  let s := applyEach b 0x0B [0] (fun _ => applyPair) (applyComp b s)
  { s with staged := [] }

/-! ### The end of cast-on (11 R247; 18 R384; 19 R406; 20 Table 20-5) -/

/-- Have all cast-on calibrations ended? -/
def calsOver (s : State) : Bool := s.cal.recs.all (fun (p : Nat × CalRec) => p.2.st = .idle)

/-- Region U is in force: background runs follow its items, and the chart starts if it says so (11 R247; 19 R402, R406). -/
def userInForce (s : State) : State :=
  let s := { s with boot := { s.boot with userApplied := true }, cal := { s.cal with spareTestSince := nowClk s } }
  let s := if getP s 0x07 0 fCHART_AUTORUN = 1 then feAdvance (chartStart s) else s
  stepKick (stepKick s 0) 1

/-- CAST_ON_CAL_DONE (19 R406; 20 Table 20-5). -/
def execCastOnCalDone (s : State) : Host.Outcome State Fault Refusal :=
  if s.boot.st = .calibrating ∧ !s.boot.userApplied ∧ calsOver s then
    let s := roles s
    .next (userInForce (if (bankU s).valid then applyRegionU (bankU s) s else s))
  else .next s

/-- FAULT_N at READY: released unless a source at or above FAULT_N_SEV has been raised since PORST_N (18 R384; log 115). -/
def pinAtReady (s : State) : State :=
  let c := s.col
  { s with col := { c with pinLow := c.raisedSince || c.hostHolds || c.pulseEnd.isSome } }

/-- BOOT_READY: the mailbox accepts commands, enabled rings start, the link enters DETECT if PL_ENABLE = 1, FAULT_N is released (14
R303, R314; 18 R384; 20 Table 20-5). -/
def execBootReady (s : State) : Host.Outcome State Fault Refusal :=
  if s.boot.st = .calibrating ∧ s.boot.userApplied then
    let s := (List.range 136).foldl ringIfEnabled (setBootSt s .ready)
    .next (pinAtReady (linkEnabled s))
  else .next s

end Sys2Proof.Machine
end

