-- ==== Sys2Proof/Machine/CoreInstr.lean ====
section
/-! DEFINITION. Machine/CoreInstr.lean: the instructions of classes 0x0 to 0xB and 0xD of a Needle core (09 R195 to R203). -/

namespace Sys2Proof.Machine

/-! ### Control, repeats, traps (09 R197, R202) -/

/-- A taken transfer of control: two cycles, and REPBR where it leaves the innermost active body (09 R197, R201). -/
def jump (s : State) (c target : Nat) (reads : List Nat) (f : Core → Core) : State :=
  if leavesBody (coreOf s c) target then coreTrap s c 5
  else modCore s c (fun k => f { issue k reads 2 0 [] 0 with pc := target })

/-- A control instruction. A return with no call to return from goes to a free address (log 52). -/
def controlEffect (s : State) (c : Nat) (op : CtlOp) (k : Core) : State :=
  match op with
  | .b t => jump s c t [] id
  | .bc f sense t =>
    if stFlag k f = sense then jump s c t [rSt] id
    else retire (modCore s c (fun k => issue k [rSt] 1 0 [] 0)) c 4
  | .call t => jump s c t [] (fun k' => { k' with ret := (k.pc + 4) :: k.ret })
  | .ret =>
    (match k.ret with
    | a :: rest => jump s c a [] (fun k' => { k' with ret := rest })
    | [] =>
      let f := takeFree s
      jump f.2 c (4 * (f.1 % 2 ^ 30)) [] id)
  | .nop => retire (modCore s c (fun k => issue k [] 1 0 [] 0)) c 4
  | .halt => modCore s c (fun k => { issue k [] 1 0 [] 0 with halted := true })

/-- CONTROL_CLASS_INSTR: b, bc, call, ret, nop or halt (09 R197, R201). -/
def execControlClassInstr (core : Nat) (op : CtlOp) (s : State) : Host.Outcome State Fault Refusal :=
  .next (onCore s core (controlEffect s core op))

/-- A repeat opens: the body runs from the next slot to `after`; a fourth level traps NEST, a count of 0 skips the body, at
whose end an outer body may end (09 R197). -/
def repEffect (s : State) (c : Nat) (count : RepCount) (after : Nat) (k : Core) : State :=
  let n := match count with
    | .imm n => n % 2 ^ 16
    | .reg g => gLow k g 16
  let reads := match count with
    | .imm _ => []
    | .reg g => [g % 32]
  if 3 ≤ k.reps.length then coreTrap s c 4
  else
    let s := modCore s c (fun k => issue k reads 1 0 [] 0)
    if n = 0 then modCore s c (fun k =>
      let q := closeReps (isX c) after k.reps
      { k with pc := q.1, reps := q.2.1, cyc := k.cyc + q.2.2 })
    else modCore s c (fun k => { k with pc := k.pc + 4, reps := ⟨k.pc + 4, after, n, n⟩ :: k.reps })

/-- REP n, end or REPR Gx, end, `after` being the address after the last instruction of the body (09 R197). -/
def execRepInstr (core : Nat) (count : RepCount) (after : Nat) (s : State) : Host.Outcome State Fault Refusal :=
  .next (onCore s core (repEffect s core count after))

/-- The innermost repeat ends and execution goes on after its end (09 R197); with none active there is none to end. -/
def breakEffect (s : State) (c : Nat) (k : Core) : State :=
  match k.reps with
  | r :: rs =>
    modCore s c (fun k =>
      let q := closeReps (isX c) r.after rs
      { issue k [] 1 q.2.2 [] 0 with pc := q.1, reps := q.2.1 })
  | [] => retire (modCore s c (fun k => issue k [] 1 0 [] 0)) c 4

/-- BREAK (09 R197). -/
def execBreakInstr (core : Nat) (s : State) : Host.Outcome State Fault Refusal :=
  .next (onCore s core (breakEffect s core))

/-- TRAP: cause 8, or 1 for an instruction that is ILLEGAL (09 R202). -/
def execTrapInstr (core : Nat) (op : TrapOp) (s : State) : Host.Outcome State Fault Refusal :=
  .next (onCore s core (fun _ => coreTrap s core (match op with
    | .trap => 8
    | .illegal => 1)))

/-! ### Scalar (09 R193, R196, R201) -/

/-- The value of a second source. -/
def srcVal (k : Core) (x : ScalarSrc) : Int :=
  match x with
  | .reg g => gInt k g
  | .imm v => wrapS 32 v
  | .long v => wrapS 32 v

/-- The registers that a second source reads. -/
def srcReads (x : ScalarSrc) : List Nat :=
  match x with
  | .reg g => [g % 32]
  | _ => []

/-- The size of an instruction with a second source. -/
def srcSize (x : ScalarSrc) : Nat :=
  match x with
  | .long _ => 8
  | _ => 4

/-- A scalar result in 32 bits with its carry and overflow; none: the spec does not state it (log 63). -/
structure ScalarRes where
  val : Option Nat
  cy : Option Bool
  ov : Option Bool

/-- The result of a scalar operation. -/
def scalarRes (op : ScalarOp) (a b : Int) : ScalarRes :=
  let ua := bitsOf 32 a
  let ub := bitsOf 32 b
  match op with
  | .add => ⟨some ((ua + ub) % 2 ^ 32), some (decide (2 ^ 32 ≤ ua + ub)), some (ovfS 32 (a + b))⟩
  | .sub => ⟨some (bitsOf 32 (a - b)), none, some (ovfS 32 (a - b))⟩
  | .cmp => ⟨some (bitsOf 32 (a - b)), none, some (ovfS 32 (a - b))⟩
  | .and => ⟨some (ua &&& ub), none, none⟩
  | .or => ⟨some (ua ||| ub), none, none⟩
  | .xor => ⟨some (ua ^^^ ub), none, none⟩
  | .shl => ⟨if ub < 32 then some (ua * 2 ^ ub % 2 ^ 32) else none, none, none⟩
  | .shr => ⟨if ub < 32 then some (ua / 2 ^ ub) else none, none, none⟩
  | .sar => ⟨if ub < 32 then some (bitsOf 32 (a >>> ub)) else none, none, none⟩
  | .min => ⟨some (bitsOf 32 (min a b)), none, none⟩
  | .max => ⟨some (bitsOf 32 (max a b)), none, none⟩
  | .mul => ⟨some (bitsOf 32 (a * b)), none, none⟩
  | .mov => ⟨some ub, none, none⟩

/-- A scalar operation: result, Z and N, carry and overflow; what is not stated is free (log 63). -/
def aluEffect (s : State) (c : Nat) (op : ScalarOp) (dst src1 : Nat) (src2 : ScalarSrc) (k : Core) : State :=
  let r := scalarRes op (gInt k src1) (srcVal k src2)
  let f := takeFree s
  let v := r.val.getD (f.1 / 4 % 2 ^ 32)
  let reads := (if op = .mov then [] else [src1 % 32]) ++ srcReads src2
  let writes := if op = .cmp then [] else [dst % 32]
  let s := modCore f.2 c (fun k =>
    let k := issue k reads 1 0 writes (if op = .mul then 3 else 1)
    let k := { k with ready := kput regZero k.ready rSt k.cyc }
    setFlags k (decide (v = 0)) (v.testBit 31) (r.cy.getD (f.1.testBit 0)) (r.ov.getD (f.1.testBit 1)))
  let s := if op = .cmp then s else putLow s c dst 32 v
  retire s c (srcSize src2)

/-- ADDA: An moves by an increment in bytes, with the modulo rule (09 R196). -/
def addaEffect (s : State) (c an : Nat) (inc : ScalarSrc) (k : Core) : State :=
  let v := srcVal k inc
  let s := modCore s c (fun k => aSet (issue k (rA an :: srcReads inc) 1 0 [rA an] 1) an (nextAddr k an v))
  retire s c (srcSize inc)

/-- A register beside G and AC is written; LC0 to LC2 and DEPTH are read-only (09 Tables 09-2, 09-3; log 65). -/
def regSet (k : Core) (file : RegFile) (n : Nat) (v : Int) : Core :=
  match file with
  | .a => aSet k n (bitsOf 32 v)
  | .o => { k with o := kput regZeroI k.o (n % 8) (wrapS 32 v) }
  | .mb => { k with mb := kput regZero k.mb (n % 8) (bitsOf 32 v) }
  | .ml => { k with ml := kput regZero k.ml (n % 8) (bitsOf 32 v) }
  | .lc => k
  | .st => { k with st := bitsOf 8 v }

/-- A register beside G and AC as 32 bits; LC n counts the n-th open repeat, the outermost first (09 Tables 09-2, 09-3). -/
def regGet (k : Core) (file : RegFile) (n : Nat) : Nat :=
  match file with
  | .a => aAt k n
  | .o => bitsOf 32 (kget regZeroI k.o (n % 8))
  | .mb => kget regZero k.mb (n % 8)
  | .ml => kget regZero k.ml (n % 8)
  | .lc => nth 0 (k.reps.reverse.map (fun r => r.left)) n
  | .st => k.st + 256 * k.reps.length

/-- The key of a register beside G and AC in the table of results. -/
def fileKey (file : RegFile) (n : Nat) : List Nat :=
  match file with
  | .a => [rA n]
  | .st => [rSt]
  | _ => []

/-- A move to a register beside G and AC (log 65). -/
def toRegEffect (s : State) (c : Nat) (file : RegFile) (n : Nat) (src : ScalarSrc) (k : Core) : State :=
  let v := srcVal k src
  let s := modCore s c (fun k => regSet (issue k (srcReads src) 1 0 (fileKey file n) 1) file n v)
  retire s c (srcSize src)

/-- A move from a register beside G and AC (log 65). -/
def fromRegEffect (s : State) (c dst : Nat) (file : RegFile) (n : Nat) (k : Core) : State :=
  let s := modCore s c (fun k => issue k (fileKey file n) 1 0 [dst % 32] 1)
  retire (putLow s c dst 32 (regGet k file n)) c 4

/-- SCALAR_INSTR (09 R196, R201). -/
def execScalarInstr (core : Nat) (op : ScalarInstr) (s : State) : Host.Outcome State Fault Refusal :=
  .next (onCore s core (match op with
    | .alu o dst src1 src2 => aluEffect s core o dst src1 src2
    | .adda an inc => addaEffect s core an inc
    | .toReg file n src => toRegEffect s core file n src
    | .fromReg dst file n => fromRegEffect s core dst file n))

/-! ### Loads and stores (09 R194 to R196) -/

/-- A load of `size` bytes into a G register and the register after it; a scalar load leaves the bits above free (log 58). -/
def loadInto (s : State) (c g : Nat) (r : MemRef) (size : Nat) (k : Core) : State :=
  let v := memWord k.mem (memKey (isX c) r.an (effAddr k r)) size
  let s := if size = 16 then modCore s c (fun k => gSet k g v) else putLow s c g (8 * size) v
  modCore s c (fun k => afterAccess k r size)

/-- A load or store that does not trap. -/
def memEffect (s : State) (c : Nat) (op : MemInstr) (k : Core) : State :=
  let x := isX c
  let a := effAddr k op.ref
  let post := match op.ref.mode with
    | .plain => []
    | .pre _ => []
    | _ => [rA op.ref.an]
  if op.store then
    let s := modCore s c (fun k =>
      let k := issue k [op.g % 32, rA op.ref.an] 1 0 post 1
      let k := { k with mem := memPutWord k.mem (memKey x op.ref.an a) op.size (gAt k op.g) }
      afterAccess k op.ref op.size)
    retire s c 4
  else
    let s := modCore s c (fun k =>
      let k := issue k [rA op.ref.an] 1 (progStall k x a) [op.g % 32] 3
      { k with ready := post.foldl (fun m w => kput regZero m w k.cyc) k.ready })
    retire (loadInto s c op.g op.ref op.size k) c 4

/-- LOAD_STORE_INSTR: ld, st of 1, 2, 4 or 8 bytes, vld, vst of 16 (09 R194 to R196); another size is no instruction. -/
def execLoadStoreInstr (core : Nat) (op : MemInstr) (s : State) : Host.Outcome State Fault Refusal :=
  .next (onCore s core (fun k =>
    if !([1, 2, 4, 8, 16] : List Nat).contains op.size then coreTrap s core 1
    else match accessTraps k (isX core) op.store op.ref op.size with
      | [] => memEffect s core op k
      | cs => pickTrap s core cs))

/-! ### Vector ALU (09 R199) -/

/-- The exact result of a lane; none: not stated, a right shift of a negative lane (log 63). -/
def laneRes (op : VecOp) (count : Nat) (a b : Int) : Option Int :=
  match op with
  | .vadd => some (a + b)
  | .vsub => some (a - b)
  | .vmin => some (min a b)
  | .vmax => some (max a b)
  | .vabs => some a.natAbs
  | .vshl => some (a * 2 ^ count)
  | .vshr => if a < 0 then none else some (a >>> count)

/-- The lanes of a vector result, free where not stated. -/
def laneVals (op : VecOp) (sat : Bool) (count free : Nat) (xs : List (Int × Int)) : List Int :=
  (List.range xs.length).map (fun i =>
    let q := nth (0, 0) xs i
    let v := (laneRes op count q.1 q.2).getD (wrapS 16 ((free / 2 ^ (16 * i) : Nat) : Int))
    if sat then satS 16 v else wrapS 16 v)

/-- A vector instruction with lanes of two sources: it wraps, or saturates and sets SAT (09 R199). -/
def laneEffect (s : State) (c : Nat) (op : VecOp) (sat : Bool) (dst src1 src2 count : Nat) (k : Core) : State :=
  let xs := (gLanes k src1).zip (gLanes k src2)
  let f := takeFree s
  let ovr := sat && xs.any (fun q => match laneRes op count q.1 q.2 with
    | some v => ovfS 16 v
    | none => false)
  let v := packLanes 16 (laneVals op sat count f.1 xs)
  let s := modCore f.2 c (fun k => sticky (gSet (issue k [src1 % 32, src2 % 32] 1 0 [dst % 32] 2) dst v) 4 ovr)
  retire s c 4

/-- A vector instruction that moves lanes: no arithmetic. -/
def moveLanes (s : State) (c dst : Nat) (reads : List Nat) (xs : List Int) : State :=
  retire (modCore s c (fun k => gSet (issue k reads 1 0 [dst % 32] 2) dst (packLanes 16 xs))) c 4

/-- VECTOR_ALU_INSTR (09 R199). -/
def execVectorAluInstr (core : Nat) (op : VecInstr) (s : State) : Host.Outcome State Fault Refusal :=
  .next (onCore s core (fun k => match op with
    | .lane o sat dst src1 src2 count => laneEffect s core o sat dst src1 src2 (count % 32) k
    | .vperm dst src sel => moveLanes s core dst [src % 32] ((List.range 8).map (fun i => gLane k src (nth 0 sel i % 8)))
    | .vbcastImm dst v => moveLanes s core dst [] (List.replicate 8 v)
    | .vbcastLane dst src lane => moveLanes s core dst [src % 32] (List.replicate 8 (gLane k src (lane % 8)))))

/-! ### MAC and accumulators (09 R199) -/

/-- What a MAC adds to, or writes into, each accumulator it names. -/
def macTerms (k : Core) (op : MacOp) (s1 s2 : Nat) : List Int :=
  let a := gLane k s1
  let b := gLane k s2
  let conj : Int := if op = .cmacj then -1 else 1
  match op with
  | .vmul => (List.range 8).map (fun i => a i * b i)
  | .vmac => (List.range 8).map (fun i => a i * b i)
  | .vmsu => (List.range 8).map (fun i => -(a i * b i))
  | .vsqac => (List.range 8).map (fun i => a i * a i)
  | _ => ([0, 1, 2, 3].map (fun i =>
      [a (2 * i) * b (2 * i) - a (2 * i + 1) * (conj * b (2 * i + 1)),
       a (2 * i) * (conj * b (2 * i + 1)) + a (2 * i + 1) * b (2 * i)])).flatten

/-- Does a MAC replace the accumulators rather than add? -/
def macWrites (op : MacOp) : Bool := decide (op = .vmul) || decide (op = .cmul)

/-- The accumulators after a MAC; adding to an accumulator that an earlier MAC still forms costs no stall (log 64). -/
def macEffect (k : Core) (op : MacOp) (s1 s2 stall : Nat) : Core :=
  let ts := macTerms k op s1 s2
  let k' := issue k (if op = .vsqac then [s1 % 32] else [s1 % 32, s2 % 32]) 1 stall ((List.range 8).map rAc) 4
  (List.range 8).foldl (fun q i => acSet q i ((if macWrites op then 0 else acAt k i) + nth 0 ts i)) k'

/-- The parallel-load form: two vector loads, one on each data bus, beside the MAC, which uses the registers as they were
(09 R195, R201). -/
def macLoads (s : State) (c : Nat) (op : MacInstr) (l1 l2 : Nat × MemRef) (k : Core) : State :=
  let cs := accessTraps k false false l1.2 16 ++ accessTraps k false false l2.2 16
  if !cs.isEmpty then pickTrap s c cs
  else
    let a := effAddr k l1.2
    let b := effAddr k l2.2
    let stall := bankStall false a b + progStall k false a + progStall k false b
    let s := modCore s c (fun k =>
      let k := macEffect k op.op op.src1 op.src2 stall
      { k with ready := [l1.1 % 32, l2.1 % 32].foldl (fun m w => kput regZero m w (k.cyc + 2)) k.ready })
    retire (loadInto (loadInto s c l1.1 l1.2 16 k) c l2.1 l2.2 16 k) c 8

/-- MAC_INSTR: N-cores only; the parallel-load form takes one operand from A0 to A3 and one from A4 to A7 (09 R199, R201,
R203). -/
def execMacInstr (core : Nat) (op : MacInstr) (s : State) : Host.Outcome State Fault Refusal :=
  .next (onN s core (fun k => match op.loads with
    | none => retire (modCore s core (fun k => macEffect k op.op op.src1 op.src2 0)) core 4
    | some (l1, l2) => if l1.2.an % 8 < 4 ∧ 4 ≤ l2.2.an % 8 then macLoads s core op l1 l2 k else coreTrap s core 1))

/-- AEXT: ACi shifted right, rounded with ties away from zero, saturated to a lane (09 R199). -/
def aextVal (v : Int) (shift w : Nat) : Int × Bool :=
  let r := roundDivI v (2 ^ shift)
  (satS w r, ovfS w r)

/-- A G register with one lane of `w` bits replaced. -/
def putLane (g w lane v : Nat) : Nat :=
  let lo := g % 2 ^ (w * lane)
  let hi := g / 2 ^ (w * (lane + 1))
  lo + 2 ^ (w * lane) * (v % 2 ^ w) + 2 ^ (w * (lane + 1)) * hi

/-- The accumulator instructions. -/
def accEffect (k : Core) (op : AccInstr) : Core :=
  match op with
  | .aclr => { issue k [] 1 0 ((List.range 8).map rAc) 2 with ac := [] }
  | .aext dst lane ac shift wide =>
    let w := if wide then 32 else 16
    let r := aextVal (acAt k ac) (shift % 32) w
    let g := putLane (gAt k dst) w (lane % (128 / w)) (bitsOf w r.1)
    sticky (gSet (issue k [rAc ac, dst % 32] 1 0 [dst % 32] 2) dst g) 4 r.2
  | .ashift ac n =>
    let v := if n < 0 then acAt k ac >>> n.natAbs else acAt k ac * 2 ^ n.toNat
    acSet (issue k [rAc ac] 1 0 [rAc ac] 2) ac v
  | .amov dst src => acSet (issue k [rAc src] 1 0 [rAc dst] 2) dst (acAt k src)

/-- ACCUMULATOR_INSTR (09 R199). -/
def execAccumulatorInstr (core : Nat) (op : AccInstr) (s : State) : Host.Outcome State Fault Refusal :=
  .next (onCore s core (fun _ => retire (modCore s core (fun k => accEffect k op)) core 4))

/-! ### Floating point (09 R199) -/

/-- One operation of a float class on patterns. -/
def floatRes (op : FloatOp) (f : FFmt) (free a b c : Nat) : FRes :=
  match op with
  | .fadd => fadd f free (fdec f a) (fdec f b)
  | .fmul => fmul f free (fdec f a) (fdec f b)
  | .fmadd => fmadd f free (fdec f a) (fdec f b) (fdec f c)

/-- A scalar float result goes to a register with its sticky flags, `n` issue and `lat` latency cycles. -/
def floatPut (s : State) (c : Nat) (reads : List Nat) (n lat dst w : Nat) (r : FRes) : State :=
  let s := modCore s c (fun k => sticky (sticky (issue k reads n 0 [dst % 32] lat) 7 r.inv) 6 r.inx)
  retire (putLow s c dst w r.bits) c 4

/-- The sources an operation reads. -/
def floatReads (op : FloatOp) (a b c : Nat) : List Nat := if op = .fmadd then [a % 32, b % 32, c % 32] else [a % 32, b % 32]

/-- A scalar float operation. -/
def fscalar (s : State) (c : Nat) (op : FloatOp) (dbl : Bool) (dst a b d : Nat) (k : Core) : State :=
  let f := fmtOf dbl
  let t := takeFree s
  let w := f.width
  let r := floatRes op f t.1 (gLow k a w) (gLow k b w) (gLow k d w)
  floatPut t.2 c (floatReads op a b d) (if dbl then 2 else 1) (if dbl then 6 else 4) dst w r

/-- A vector float operation: four lanes of binary32 (09 R199, R203: not on an X-core). -/
def fvector (s : State) (c : Nat) (op : FloatOp) (dst a b d : Nat) (k : Core) : State :=
  let t := takeFree s
  let ln := fun (g i : Nat) => gAt k g / 2 ^ (32 * i) % 2 ^ 32
  let rs := [0, 1, 2, 3].map (fun i => floatRes op f32 (t.1 / 2 ^ (32 * i)) (ln a i) (ln b i) (ln d i))
  let v := packLanes 32 (rs.map (fun r => (r.bits : Int)))
  let s := modCore t.2 c (fun k =>
    sticky (sticky (gSet (issue k (floatReads op a b d) 1 0 [dst % 32] 4) dst v) 7 (rs.any (fun r => r.inv))) 6
      (rs.any (fun r => r.inx)))
  retire s c 4

/-- FCVT (09 R199). -/
def fcvtEffect (s : State) (c : Nat) (op : CvtOp) (dst src : Nat) (k : Core) : State :=
  let t := takeFree s
  let put := fun (dbl : Bool) (w : Nat) (r : FRes) =>
    floatPut t.2 c [src % 32] (if dbl then 2 else 1) (if dbl then 6 else 4) dst w r
  match op with
  | .intToF32 => put false 32 (froundS f32 false (gInt k src))
  | .intToF64 => put true 64 (froundS f64 false (gInt k src))
  | .f32ToInt => put false 32 (fint t.1 (fdec f32 (gLow k src 32)))
  | .f64ToInt => put true 32 (fint t.1 (fdec f64 (gLow k src 64)))
  | .f32ToF64 => put true 64 (fconv f64 t.1 (fdec f32 (gLow k src 32)))
  | .f64ToF32 => put true 32 (fconv f32 t.1 (fdec f64 (gLow k src 64)))

/-- FCMP: Z equal, N less; C and V, and all four where unordered, are free (log 63). -/
def fcmpEffect (s : State) (c : Nat) (dbl : Bool) (a b : Nat) (k : Core) : State :=
  let f := fmtOf dbl
  let x := fdec f (gLow k a f.width)
  let y := fdec f (gLow k b f.width)
  let t := takeFree s
  let q := (fcmp x y).getD (t.1.testBit 2, t.1.testBit 3)
  let inv := signals [x, y] || (anyNan [x, y] && t.1.testBit 4)
  let s := modCore t.2 c (fun k =>
    sticky (setFlags (issue k [a % 32, b % 32] (if dbl then 2 else 1) 0 [rSt] (if dbl then 6 else 4)) q.2 q.1 (t.1.testBit 0)
      (t.1.testBit 1)) 7 inv)
  retire s c 4

/-- FLOAT_INSTR: scalar and vector float (09 R199). -/
def execFloatInstr (core : Nat) (op : FloatInstr) (s : State) : Host.Outcome State Fault Refusal :=
  .next (match op with
    | .scalar o dbl dst a b d => onCore s core (fscalar s core o dbl dst a b d)
    | .vector o dst a b d => onN s core (fvector s core o dst a b d)
    | .fcvt o dst src => onCore s core (fcvtEffect s core o dst src)
    | .fcmp dbl a b => onCore s core (fcmpEffect s core dbl a b))

/-- SQRT, RCP, LOG2 or EXP2 of a register. -/
def specialEffect (s : State) (c : Nat) (op : SpecialOp) (dbl : Bool) (dst src : Nat) (k : Core) : State :=
  let f := fmtOf dbl
  let t := takeFree s
  floatPut t.2 c [src % 32] (if dbl then 8 else 4) (if dbl then 24 else 12) dst f.width
    (fspecial f t.1 op (fdec f (gLow k src f.width)))

/-- CORDIC: atan2(y, x) as an 18-bit angle (09 R199; 04 R80); its error is free within 1 LSB (log 42). -/
def cordicEffect (s : State) (c dst y x : Nat) (k : Core) : State :=
  let a := argWithin (gInt k x) (gInt k y) (Config.cordicAngle (gInt k x) (gInt k y))
  let s := modCore s c (fun k => issue k [y % 32, x % 32] 2 0 [dst % 32] 10)
  retire (putLow s c dst 18 (bitsOf 18 a)) c 4

/-- SPECIAL_FUNCTION_INSTR (09 R199). -/
def execSpecialFunctionInstr (core : Nat) (op : SpecialInstr) (s : State) : Host.Outcome State Fault Refusal :=
  .next (onCore s core (match op with
    | .sqrt dbl dst src => specialEffect s core .sqrt dbl dst src
    | .rcp dbl dst src => specialEffect s core .rcp dbl dst src
    | .log2 dbl dst src => specialEffect s core .log2 dbl dst src
    | .exp2 dbl dst src => specialEffect s core .exp2 dbl dst src
    | .cordic dst y x => cordicEffect s core dst y x))

end Sys2Proof.Machine
end

