-- ==== Sys2Proof/Machine/Detector.lean ====
section
/-! DEFINITION. Machine/Detector.lean: band-energy detectors, their conditions and the event stream (07 R150 to R157). -/

namespace Sys2Proof.Machine

/-! ### Band filter and energy (07 R152) -/

/-- 2f · sinc(2fm) of a band edge at f = `num / den` of the output rate, × 2^80. -/
def edgeTap (num : Nat) (den : Nat) (m : Int) : Int :=
  if den = 0 then 0
  else if m = 0 then 2 * fx * (num : Int) / (den : Int)
  else (cisTurn (m * (num : Int)) den).2 * fx / (piFx * m)

/-- Tap n of the 63-tap band filter with a Hamming window, × 2^80 (07 R152). -/
def bandTap (lo hi : Rat) (n : Nat) : Int :=
  let m : Int := (n : Int) - 31
  let ideal := edgeTap hi.num.toNat hi.den m - (if lo = 0 then 0 else edgeTap lo.num.toNat lo.den m)
  ideal * (54 * fx - 46 * (cisTurn n 62).1) / (100 * fx)

/-- The taps of a detector's filter. -/
def bandTaps (s : State) (v : ZView) (d : Nat) : List Int :=
  let f := fOut ⟨pv s, []⟩ v * 10
  let lo : Rat := if f = 0 then 0 else (zn v (zdet zDET_BAND_LO d) : Rat) / f
  let hi : Rat := if f = 0 then 0 else (zn v (zdet zDET_BAND_HI d) : Rat) / f
  (List.range 63).map (bandTap lo hi)

/-- A magnitude as the nearest binary32 pattern; patterns of magnitudes stand in the order of their values. -/
def single (q : Rat) : Nat := (fround f32 false q).1

/-- The magnitude of a binary32 pattern. -/
def singleVal (b : Nat) : Rat :=
  match fdec f32 b with
  | .fin _ m => m
  | _ => 0

/-- y² of one stitch in single precision, where its QUAL is not INVALID (07 R152). -/
def bandPower (taps : List Int) (line : List (List QVal)) (q : Nat) : Option Nat :=
  let xs := line.map (fun row => nth (0, 0x10) row q)
  if (nth (0, 0x10) xs 0).2.testBit 4 then none
  else
    let y := sumI ((List.range xs.length).map (fun t => nth 0 taps t * (nth (0, 0) xs t).1))
    let r := singleVal (single (((y.natAbs : Nat) : Rat) / ((2 ^ 80 : Nat) : Rat)))
    some (single (r * r))

/-- The mean of single-precision numbers in single precision; the order of the sum, which the spec leaves open, is free (07 R152; log 57). -/
def singleMean (xs : List Nat) : Nat :=
  let ys := Config.sumOrder xs
  let total := (if ys.isPerm xs then ys else xs).foldl (fun a y => single (singleVal a + singleVal y)) 0
  single (singleVal total / (xs.length : Nat))

/-- e_q of one stitch over the window, in single precision; none: excluded (07 R152). -/
def stitchEnergy (win : Nat) (rows : List (List (Option Nat))) (q : Nat) : Option Nat :=
  let xs := (rows.map (fun r => nth none r q)).filterMap (fun y => y)
  if 2 * xs.length < win then none else if xs.isEmpty then none else some (singleMean xs)

/-- The largest of a list of (index, energy), the first of equals. -/
def peakOf (es : List (Nat × Nat)) : Nat × Nat :=
  match es with
  | [] => (0, 0)
  | e :: rest => rest.foldl (fun (a : Nat × Nat) b => if a.2 < b.2 then b else a) e

/-- E of an aggregate: round(1,000 · log10 a), saturated; a of 0 is below every number (07 R152). -/
def levelOf (a : Rat) : Int :=
  if a ≤ 0 then -32767 else clampI (-32767) 32767 (roundDivI (1000 * lnFx a.num.toNat a.den) (lnFx 10 1))

/-! ### Decision (07 R153, R154) -/

/-- 10^(e / 1000) relative to 10^(base / 1000), × 2^80. -/
def powTen (e base : Int) : Int := expFx ((e - base) * lnFx 10 1 / 1000)

/-- The time of a condition between the labels of two samples (07 R154). -/
def crossingTime (label0 label1 : Nat) (e0 e1 level : Int) : Nat :=
  let base := min (min e0 e1) level
  let x0 := powTen e0 base
  let x1 := powTen e1 base
  let d := tsDiff label1 label0
  if e0 = e1 then label1
  else
    let num := powTen level base - x0
    let den := x1 - x0
    tsAdd label0 (clampI (min 0 d) (max 0 d) (roundDivI (num * d) den))

/-- The new state of a detector (07 R153). -/
def detNext (active fall : Bool) (e level hyst : Int) : Bool :=
  if fall then (if active then decide (e < level + hyst) else decide (e ≤ level))
  else (if active then decide (level - hyst < e) else decide (level ≤ e))

/-! ### Event records (07 R156, R157) -/

/-- The 48 bytes of an event record (07 Table 07-2). -/
def eventRecord (det : Nat) (c : DetChange) (summary : Bool) : List Byte :=
  zeros 11 ++ leBytes 1 (bitN c.active + 2 * bitN summary) ++ leBytes 2 det ++ leBytesI 2 c.energy ++ leBytes 4 c.peak ++
    leBytes 4 c.count ++ tsBytes c.firstTs ++ tsBytes c.lastTs

/-- The open event frame closes (07 R156). -/
def eventClose (s : State) : State :=
  if s.cap.evRecs.isEmpty then s
  else
    let f := streamFrame s 128 0x0F s.cap.evFirst 0 0 s.cap.evRecs.length s.cap.evRecs.flatten
    queueFrame { s with cap := { s.cap with evRecs := [] } } 128 f .none

/-- A record joins the event frame, which closes first if it would pass 65,536 bytes (07 R156). -/
def eventPut (s : State) (rec : List Byte) (ts : Nat) : State :=
  let s := if 65536 < 48 * (s.cap.evRecs.length + 1) then eventClose s else s
  let opened := s.cap.evRecs.isEmpty
  { s with cap := { s.cap with
      evRecs := s.cap.evRecs ++ [rec], evFirst := if opened then ts else s.cap.evFirst
      evSince := if opened then nowClk s else s.cap.evSince } }

/-- Can ring 128 accept no frame now (07 R157)? -/
def eventBlocked (s : State) : Bool :=
  !(ringOf s 128).queue.isEmpty || decide ((ringOf s 128).st ≠ .running)

/-- A change joins those of its detector that no record has reported. -/
def mergeChange (old : Option DetChange) (c : DetChange) : DetChange :=
  match old with
  | none => c
  | some o => { c with count := o.count + c.count, firstTs := o.firstTs }

/-- A change of state is recorded, or kept while the ring accepts nothing (07 R156, R157). -/
def reportChange (s : State) (z d : Nat) (c : DetChange) : State :=
  let t := nth detNone (zoneOf s z).dets d
  if eventBlocked s || t.unsent.isSome then
    modZone s z (fun x => { x with dets := setNth x.dets d { t with unsent := some (mergeChange t.unsent c) } })
  else eventPut s (eventRecord (z * 4 + d) c false) c.firstTs

/-- The state with one detector of a zone replaced. -/
def setDet (s : State) (z d : Nat) (x : Det) : State := modZone s z (fun y => { y with dets := setNth y.dets d x })

/-- The stitches of a row that have an energy, with it (07 R152). -/
def detEnergies (win n : Nat) (rows : List (List (Option Nat))) : List (Nat × Nat) :=
  (List.range n).filterMap (fun q => (stitchEnergy win rows q).map (fun e => (q, e)))

/-- The level of a decision: of the strongest stitch, or of the mean over the usable ones (07 R152). -/
def detLevel (agg : Nat) (es : List (Nat × Nat)) : Int :=
  levelOf (if agg = 0 then singleVal (peakOf es).2 else meanQ (es.map (fun (e : Nat × Nat) => singleVal e.2)))

/-- A detector after it has taken a row: its lines, windows and hold (07 R152, R153). -/
def detTakes (v : ZView) (taps : List Int) (d : Nat) (t : Det) (j : DetJob) (rest : List DetJob) : Det :=
  let win := zn v (zdet zDET_WIN d)
  let t := if j.idx = 0 then { t with since := 0, line := [], win := [], prevE := none } else t
  let line := (j.row.vals :: t.line).take 63
  let rows := ((List.range j.row.vals.length).map (bandPower taps line) :: t.win).take win
  let hold := (detEnergies win j.row.vals.length rows).isEmpty || j.warm || decide (t.since < 62 + win)
  { t with queue := rest, line := line, win := rows, since := t.since + 1, hold := hold }

/-- The time of a change: the crossing between the two samples where the detector asserts, the sample's where it releases (07
R154). -/
def changeTime (t : Det) (j : DetJob) (e : Int) (active : Bool) : Nat :=
  if !active then j.row.label
  else match t.prevE with
    | some e0 => crossingTime t.prevLabel j.row.label e0 e j.level
    | none => j.row.label

/-- A change of state is reported, and one that asserts is a condition of skeins (07 R154, R156, R158). -/
def detFlips (s : State) (z d : Nat) (c : DetChange) : State :=
  let s := reportChange s z d c
  if c.active then skeinDetector s (z * 4 + d) c.lastTs else s

/-- A detector that does not hold decides (07 R152 to R154). -/
def detDecides (s : State) (z d : Nat) (t : Det) (j : DetJob) (es : List (Nat × Nat)) (e : Int) : State :=
  let active := detNext t.active j.fall e j.level j.hyst
  let s := setDet s z d { t with prevE := some e, prevLabel := j.row.label, energy := some e, active := active }
  if active = t.active then s
  else
    let ts := changeTime t j e active
    detFlips s z d ⟨1, ts, ts, e, zstitch (zview s z) (peakOf es).1, active⟩

/-- DETECTOR_DECISION: a detector judges the oldest row that waits for it (07 R152 to R157). -/
def execDetectorDecision (zone det : Nat) (s : State) : Host.Outcome State Fault Refusal :=
  let t := nth detNone (zoneOf s zone).dets det
  match t.queue with
  | [] => .next s
  | j :: rest =>
    if 4 ≤ det then .next s
    else
      let v := zview s zone
      let t := detTakes v (bandTaps s v det) det t j rest
      let es := detEnergies (zn v (zdet zDET_WIN det)) j.row.vals.length t.win
      if t.hold then .next (setDet s zone det { t with prevE := none, prevLabel := j.row.label, energy := none })
      else .next (detDecides s zone det t j es (detLevel (zn v (zdet zDET_AGG det)) es))

/-- EVENT_FRAME_CLOSE: the open event frame is 10 ms old or full (07 R156). -/
def execEventFrameClose (s : State) : Host.Outcome State Fault Refusal :=
  if s.cap.evSince + 10 * msTicks ≤ nowClk s ∨ 65536 < 48 * (s.cap.evRecs.length + 1) then .next (eventClose s) else .next s

/-- The SUMMARY record of one detector, at most once in 10 ms (07 R157). -/
def summarise (s : State) (n : Nat) : State :=
  let z := n / 4
  let d := n % 4
  let t := nth detNone (zoneOf s z).dets d
  let due := match t.summaryAt with | some c => decide (c + 10 * msTicks ≤ nowClk s) | none => true
  match t.unsent with
  | none => s
  | some c =>
    if due then
      let s := modZone s z (fun x => { x with dets := setNth x.dets d { t with unsent := none, summaryAt := some (nowClk s) } })
      eventPut s (eventRecord n c true) c.firstTs
    else s

/-- EVENT_SUMMARY: ring 128 accepts again; one SUMMARY record for each detector with a count (07 R157). -/
def execEventSummary (s : State) : Host.Outcome State Fault Refusal :=
  if eventBlocked s then .next s else .next ((List.range 512).foldl summarise s)

end Sys2Proof.Machine
end

