-- ==== Sys2Proof/Machine/Dispatch.lean ====
section
/-! DEFINITION. Machine/Dispatch.lean: one arm per command, each a direct call of its meaning. -/

namespace Sys2Proof.Machine

/-- The effect of a command on everything but the queue. -/
def exec (i : Instr) (s : State) : Host.Outcome State Fault Refusal :=
  match i with
  | .sysIdent r => Sys2Proof.Machine.execSysIdent r s
  | .sysStatus r => Sys2Proof.Machine.execSysStatus r s
  | .sysReset r confirm => Sys2Proof.Machine.execSysReset r confirm s
  | .sysBindOff r => Sys2Proof.Machine.execSysBindOff r s
  | .paramGet r source ids => Sys2Proof.Machine.execParamGet r source ids s
  | .paramSet r pairs bulk => Sys2Proof.Machine.execParamSet r pairs bulk s
  | .paramCommit r dom ins action => Sys2Proof.Machine.execParamCommit r dom ins action s
  | .paramList r dom ins start => Sys2Proof.Machine.execParamList r dom ins start s
  | .portArm r port => Sys2Proof.Machine.execPortArm r port s
  | .portStart r port startAt => Sys2Proof.Machine.execPortStart r port startAt s
  | .portStop r port => Sys2Proof.Machine.execPortStop r port s
  | .portApply r port => Sys2Proof.Machine.execPortApply r port s
  | .portStatus r port => Sys2Proof.Machine.execPortStatus r port s
  | .portProbe r port => Sys2Proof.Machine.execPortProbe r port s
  | .portProbeDone port profile floor => Sys2Proof.Machine.execPortProbeDone port profile floor s
  | .zoneDefine r zone => Sys2Proof.Machine.execZoneDefine r zone s
  | .zoneEnable r zone => Sys2Proof.Machine.execZoneEnable r zone s
  | .zoneDisable r zone => Sys2Proof.Machine.execZoneDisable r zone s
  | .zoneSync r mask syncAt => Sys2Proof.Machine.execZoneSync r mask syncAt s
  | .zoneFreezeDc r zone freeze => Sys2Proof.Machine.execZoneFreezeDc r zone freeze s
  | .zoneStatus r zone => Sys2Proof.Machine.execZoneStatus r zone s
  | .capSkeinCreate r skein => Sys2Proof.Machine.execCapSkeinCreate r skein s
  | .capArm r skein => Sys2Proof.Machine.execCapArm r skein s
  | .capDisarm r skein => Sys2Proof.Machine.execCapDisarm r skein s
  | .capForce r skein forceAt => Sys2Proof.Machine.execCapForce r skein forceAt s
  | .capForceAtReached skein => Sys2Proof.Machine.execCapForceAtReached skein s
  | .capRead r skein select => Sys2Proof.Machine.execCapRead r skein select s
  | .capRelease r skein hank => Sys2Proof.Machine.execCapRelease r skein hank s
  | .timeSet r v mode => Sys2Proof.Machine.execTimeSet r v mode s
  | .timeSetTimeout => Sys2Proof.Machine.execTimeSetTimeout s
  | .timeGet r => Sys2Proof.Machine.execTimeGet r s
  | .timePpsCfg r => Sys2Proof.Machine.execTimePpsCfg r s
  | .timeTdcConfig r mask => Sys2Proof.Machine.execTimeTdcConfig r mask s
  | .feChartLoad r first count entries => Sys2Proof.Machine.execFeChartLoad r first count entries s
  | .feChartRun r run => Sys2Proof.Machine.execFeChartRun r run s
  | .feInject r tag entry => Sys2Proof.Machine.execFeInject r tag entry s
  | .feLoopCfg r loop => Sys2Proof.Machine.execFeLoopCfg r loop s
  | .srcConfig r ins => Sys2Proof.Machine.execSrcConfig r ins s
  | .srcEnable r ch => Sys2Proof.Machine.execSrcEnable r ch s
  | .srcDisable r ch => Sys2Proof.Machine.execSrcDisable r ch s
  | .srcCompTable r table bytes => Sys2Proof.Machine.execSrcCompTable r table bytes s
  | .calRun r dom ins => Sys2Proof.Machine.execCalRun r dom ins s
  | .calStatus r dom ins => Sys2Proof.Machine.execCalStatus r dom ins s
  | .calAbort r dom ins => Sys2Proof.Machine.execCalAbort r dom ins s
  | .nvmStore r dom => Sys2Proof.Machine.execNvmStore r dom s
  | .nvmStoreDone written => Sys2Proof.Machine.execNvmStoreDone written s
  | .nvmRestore r dom bulk => Sys2Proof.Machine.execNvmRestore r dom bulk s
  | .nvmEraseUser r confirm => Sys2Proof.Machine.execNvmEraseUser r confirm s
  | .pairConfig r => Sys2Proof.Machine.execPairConfig r s
  | .pairStatus r => Sys2Proof.Machine.execPairStatus r s
  | .pairSwap r => Sys2Proof.Machine.execPairSwap r s
  | .pairLink r action => Sys2Proof.Machine.execPairLink r action s
  | .fwStage r slot desc => Sys2Proof.Machine.execFwStage r slot desc s
  | .fwVerify r slot => Sys2Proof.Machine.execFwVerify r slot s
  | .fwActivate r slot => Sys2Proof.Machine.execFwActivate r slot s
  | .fwKrnLoad r slot desc => Sys2Proof.Machine.execFwKrnLoad r slot desc s
  | .fwKrnStart r slot => Sys2Proof.Machine.execFwKrnStart r slot s
  | .fwKrnStop r slot => Sys2Proof.Machine.execFwKrnStop r slot s
  | .faultRead r first count => Sys2Proof.Machine.execFaultRead r first count s
  | .faultClear r mask => Sys2Proof.Machine.execFaultClear r mask s
  | .faultSeverity r src sev => Sys2Proof.Machine.execFaultSeverity r src sev s
  | .faultJournalCfg r => Sys2Proof.Machine.execFaultJournalCfg r s
  | .faultPinRelease r action => Sys2Proof.Machine.execFaultPinRelease r action s
  | .diagUnlock r stepNo sig => Sys2Proof.Machine.execDiagUnlock r stepNo sig s
  | .diagSnagSet r snag args => Sys2Proof.Machine.execDiagSnagSet r snag args s
  | .diagSnagClear r snag => Sys2Proof.Machine.execDiagSnagClear r snag s
  | .compConfig r scope zone => Sys2Proof.Machine.execCompConfig r scope zone s
  | .compResume r jobTag dst dstLen => Sys2Proof.Machine.execCompResume r jobTag dst dstLen s
  | .memFreq r fsp => Sys2Proof.Machine.execMemFreq r fsp s
  | .memTrain r => Sys2Proof.Machine.execMemTrain r s
  | .memPpr r ch rank bank kind row => Sys2Proof.Machine.execMemPpr r ch rank bank kind row s
  | .badOpcode r opcode => Sys2Proof.Machine.execBadOpcode r opcode s
  | .mbxDoorbellBusySlot slot => Sys2Proof.Machine.execMbxDoorbellBusySlot slot s
  | .malformedRequest slot header => Sys2Proof.Machine.execMalformedRequest slot header s
  | .ringEnable ring => Sys2Proof.Machine.execRingEnable ring s
  | .ringDisable ring => Sys2Proof.Machine.execRingDisable ring s
  | .c2hConsWrite ring v => Sys2Proof.Machine.execC2hConsWrite ring v s
  | .h2cProdWrite ring v => Sys2Proof.Machine.execH2cProdWrite ring v s
  | .bootStateRead => Sys2Proof.Machine.execBootStateRead s
  | .registerWrite target v => Sys2Proof.Machine.execRegisterWrite target v s
  | .bar4Read addr len => Sys2Proof.Machine.execBar4Read addr len s
  | .bar4Write addr bytes => Sys2Proof.Machine.execBar4Write addr bytes s
  | .hostBadRequest kind => Sys2Proof.Machine.execHostBadRequest kind s
  | .endpointReset kind => Sys2Proof.Machine.execEndpointReset kind s
  | .linkUp width speed => Sys2Proof.Machine.execLinkUp width speed s
  | .dmaCompletionError ring => Sys2Proof.Machine.execDmaCompletionError ring s
  | .dmaCompletionTimeout ring => Sys2Proof.Machine.execDmaCompletionTimeout ring s
  | .irqModTimer ring => Sys2Proof.Machine.execIrqModTimer ring s
  | .c2hFrameWrite ring => Sys2Proof.Machine.execC2hFrameWrite ring s
  | .ringHoldExpiry ring => Sys2Proof.Machine.execRingHoldExpiry ring s
  | .housekeepingFrameClose key => Sys2Proof.Machine.execHousekeepingFrameClose key s
  | .statisticsSecond port => Sys2Proof.Machine.execStatisticsSecond port s
  | .ptmDialogStart fine => Sys2Proof.Machine.execPtmDialogStart fine s
  | .ptmResponse fine master delay => Sys2Proof.Machine.execPtmResponse fine master delay s
  | .ptmTimeout => Sys2Proof.Machine.execPtmTimeout s
  | .castOnStart bootSel pairId => Sys2Proof.Machine.execCastOnStart bootSel pairId s
  | .rootLock => Sys2Proof.Machine.execRootLock s
  | .rootLockTimeout => Sys2Proof.Machine.execRootLockTimeout s
  | .nvmLoaded nvm => Sys2Proof.Machine.execNvmLoaded nvm s
  | .bootVerify => Sys2Proof.Machine.execBootVerify s
  | .recoveryBoot image => Sys2Proof.Machine.execRecoveryBoot image s
  | .marchTestDone rows => Sys2Proof.Machine.execMarchTestDone rows s
  | .dramTrainingDone fitted failed rfm => Sys2Proof.Machine.execDramTrainingDone fitted failed rfm s
  | .castOnCalDone => Sys2Proof.Machine.execCastOnCalDone s
  | .bootReady => Sys2Proof.Machine.execBootReady s
  | .thermalShutdown => Sys2Proof.Machine.execThermalShutdown s
  | .thermalRecover sensors => Sys2Proof.Machine.execThermalRecover sensors s
  | .supplyTrip r => Sys2Proof.Machine.execSupplyTrip r s
  | .railExcursion r => Sys2Proof.Machine.execRailExcursion r s
  | .rootUnlock => Sys2Proof.Machine.execRootUnlock s
  | .refclkLost => Sys2Proof.Machine.execRefclkLost s
  | .dieTempSample sensors => Sys2Proof.Machine.execDieTempSample sensors s
  | .shotStart port => Sys2Proof.Machine.execShotStart port s
  | .plyLaunch port => Sys2Proof.Machine.execPlyLaunch port s
  | .shotEnd port => Sys2Proof.Machine.execShotEnd port s
  | .drainEnd port => Sys2Proof.Machine.execDrainEnd port s
  | .lmonEdge port => Sys2Proof.Machine.execLmonEdge port s
  | .lmonWindowExpiry port => Sys2Proof.Machine.execLmonWindowExpiry port s
  | .launchLost port => Sys2Proof.Machine.execLaunchLost port s
  | .triginEdge pin => Sys2Proof.Machine.execTriginEdge pin s
  | .lockWindowExpiry port => Sys2Proof.Machine.execLockWindowExpiry port s
  | .ppsEdge => Sys2Proof.Machine.execPpsEdge s
  | .ppsWindowExpiry => Sys2Proof.Machine.execPpsWindowExpiry s
  | .ppsOutSecond => Sys2Proof.Machine.execPpsOutSecond s
  | .tdcEdge input falling core code => Sys2Proof.Machine.execTdcEdge input falling core code s
  | .tdcThreshSettled ch => Sys2Proof.Machine.execTdcThreshSettled ch s
  | .tdcCoreTestDone ch core hist overflows => Sys2Proof.Machine.execTdcCoreTestDone ch core hist overflows s
  | .tgateOpen port => Sys2Proof.Machine.execTgateOpen port s
  | .ramanWindowEnd port asCodes stCodes => Sys2Proof.Machine.execRamanWindowEnd port asCodes stCodes s
  | .ramanIntervalEnd port => Sys2Proof.Machine.execRamanIntervalEnd port s
  | .trUpdate port => Sys2Proof.Machine.execTrUpdate port s
  | .ramanRefHoldExpiry port => Sys2Proof.Machine.execRamanRefHoldExpiry port s
  | .fusionUpdate port => Sys2Proof.Machine.execFusionUpdate port s
  | .fusionStateTimer port gauge => Sys2Proof.Machine.execFusionStateTimer port gauge s
  | .fuseHoldExpiry port gauge => Sys2Proof.Machine.execFuseHoldExpiry port gauge s
  | .selvedgeSlot port => Sys2Proof.Machine.execSelvedgeSlot port s
  | .gateTestDecision port samples => Sys2Proof.Machine.execGateTestDecision port samples s
  | .dechirpRow port from_ codes => Sys2Proof.Machine.execDechirpRow port from_ codes s
  | .breakDetectorArm port => Sys2Proof.Machine.execBreakDetectorArm port s
  | .phaseSample port => Sys2Proof.Machine.execPhaseSample port s
  | .swatchLost port => Sys2Proof.Machine.execSwatchLost port s
  | .specRecord port => Sys2Proof.Machine.execSpecRecord port s
  | .sliceMonitorEval port chan codes => Sys2Proof.Machine.execSliceMonitorEval port chan codes s
  | .sliceSpareSwap port chan => Sys2Proof.Machine.execSliceSpareSwap port chan s
  | .sliceInterpolate port chan => Sys2Proof.Machine.execSliceInterpolate port chan s
  | .hybBlock port from_ codes => Sys2Proof.Machine.execHybBlock port from_ codes s
  | .clipRateSecond port => Sys2Proof.Machine.execClipRateSecond port s
  | .zoneInputSample zone => Sys2Proof.Machine.execZoneInputSample zone s
  | .zoneSatSecond => Sys2Proof.Machine.execZoneSatSecond s
  | .detectorDecision zone det => Sys2Proof.Machine.execDetectorDecision zone det s
  | .eventFrameClose => Sys2Proof.Machine.execEventFrameClose s
  | .eventSummary => Sys2Proof.Machine.execEventSummary s
  | .hankPostComplete skein => Sys2Proof.Machine.execHankPostComplete skein s
  | .skeinRearm skein => Sys2Proof.Machine.execSkeinRearm skein s
  | .trigoutPulseEnd pin => Sys2Proof.Machine.execTrigoutPulseEnd pin s
  | .controlClassInstr core op => Sys2Proof.Machine.execControlClassInstr core op s
  | .repInstr core count after => Sys2Proof.Machine.execRepInstr core count after s
  | .breakInstr core => Sys2Proof.Machine.execBreakInstr core s
  | .trapInstr core op => Sys2Proof.Machine.execTrapInstr core op s
  | .scalarInstr core op => Sys2Proof.Machine.execScalarInstr core op s
  | .loadStoreInstr core op => Sys2Proof.Machine.execLoadStoreInstr core op s
  | .vectorAluInstr core op => Sys2Proof.Machine.execVectorAluInstr core op s
  | .macInstr core op => Sys2Proof.Machine.execMacInstr core op s
  | .accumulatorInstr core op => Sys2Proof.Machine.execAccumulatorInstr core op s
  | .floatInstr core op => Sys2Proof.Machine.execFloatInstr core op s
  | .specialFunctionInstr core op => Sys2Proof.Machine.execSpecialFunctionInstr core op s
  | .waitInstr core sub k => Sys2Proof.Machine.execWaitInstr core sub k s
  | .doneInstr core sub k => Sys2Proof.Machine.execDoneInstr core sub k s
  | .putInstr core ts an len => Sys2Proof.Machine.execPutInstr core ts an len s
  | .dmaInstr core an window units toWindow => Sys2Proof.Machine.execDmaInstr core an window units toWindow s
  | .dmaComplete core => Sys2Proof.Machine.execDmaComplete core s
  | .dwait core => Sys2Proof.Machine.execDwait core s
  | .cycrd core dst => Sys2Proof.Machine.execCycrd core dst s
  | .evt core det ts => Sys2Proof.Machine.execEvt core det ts s
  | .ckpt core an len => Sys2Proof.Machine.execCkpt core an len s
  | .cfrCfw core target write g => Sys2Proof.Machine.execCfrCfw core target write g s
  | .fsrc core src ins d0 d1 => Sys2Proof.Machine.execFsrc core src ins d0 d1 s
  | .krnLoadDone slot => Sys2Proof.Machine.execKrnLoadDone slot s
  | .krnSwapSwitch slot => Sys2Proof.Machine.execKrnSwapSwitch slot s
  | .krnSwapForcedHalt slot => Sys2Proof.Machine.execKrnSwapForcedHalt slot s
  | .krnStopDone slot => Sys2Proof.Machine.execKrnStopDone slot s
  | .coreSelftestDone core pass => Sys2Proof.Machine.execCoreSelftestDone core pass s
  | .needleHeartbeatTimeout core => Sys2Proof.Machine.execNeedleHeartbeatTimeout core s
  | .needleCoreFault core => Sys2Proof.Machine.execNeedleCoreFault core s
  | .needleSpareInService core => Sys2Proof.Machine.execNeedleSpareInService core s
  | .needleEccError core double => Sys2Proof.Machine.execNeedleEccError core double s
  | .spareTestTimer => Sys2Proof.Machine.execSpareTestTimer s
  | .compJobDescriptor desc => Sys2Proof.Machine.execCompJobDescriptor desc s
  | .compBlockDone engine => Sys2Proof.Machine.execCompBlockDone engine s
  | .compEngineFault engine => Sys2Proof.Machine.execCompEngineFault engine s
  | .compSpareInService engine => Sys2Proof.Machine.execCompSpareInService engine s
  | .suspendTimeoutExpiry => Sys2Proof.Machine.execSuspendTimeoutExpiry s
  | .feConversion volts => Sys2Proof.Machine.execFeConversion volts s
  | .feEntryResult => Sys2Proof.Machine.execFeEntryResult s
  | .excMonitorTrip short => Sys2Proof.Machine.execExcMonitorTrip short s
  | .feSelfcalDone failed ofs refs cur vol => Sys2Proof.Machine.execFeSelfcalDone failed ofs refs cur vol s
  | .loopUpdate loop => Sys2Proof.Machine.execLoopUpdate loop s
  | .refxMeasure mv => Sys2Proof.Machine.execRefxMeasure mv s
  | .loopHoldExpiry loop => Sys2Proof.Machine.execLoopHoldExpiry loop s
  | .loopSenseMismatch loop sensed => Sys2Proof.Machine.execLoopSenseMismatch loop sensed s
  | .loopReleaseEnd loop => Sys2Proof.Machine.execLoopReleaseEnd loop s
  | .sdCarrierPeriod ch => Sys2Proof.Machine.execSdCarrierPeriod ch s
  | .sdFbHoldExpiry ch => Sys2Proof.Machine.execSdFbHoldExpiry ch s
  | .sdSaturationTimer ch => Sys2Proof.Machine.execSdSaturationTimer ch s
  | .refreshDue ch rank bank => Sys2Proof.Machine.execRefreshDue ch rank bank s
  | .mr4Poll rates => Sys2Proof.Machine.execMr4Poll rates s
  | .wckDriftCheck ch rank drift => Sys2Proof.Machine.execWckDriftCheck ch rank drift s
  | .selfRefreshEnter ch => Sys2Proof.Machine.execSelfRefreshEnter ch s
  | .selfRefreshExit ch => Sys2Proof.Machine.execSelfRefreshExit ch s
  | .rowIdleClose ch rank bank => Sys2Proof.Machine.execRowIdleClose ch rank bank s
  | .actCountReset => Sys2Proof.Machine.execActCountReset s
  | .neighbourRefresh ch rank bank => Sys2Proof.Machine.execNeighbourRefresh ch rank bank s
  | .fspChangeComplete => Sys2Proof.Machine.execFspChangeComplete s
  | .memTrainDone failed => Sys2Proof.Machine.execMemTrainDone failed s
  | .pprHardDone confirmed => Sys2Proof.Machine.execPprHardDone confirmed s
  | .linkEccError port unit corrected => Sys2Proof.Machine.execLinkEccError port unit corrected s
  | .ecsCountCheck ch rank bank row count => Sys2Proof.Machine.execEcsCountCheck ch rank bank row count s
  | .writeBufferOverflow p0 d => Sys2Proof.Machine.execWriteBufferOverflow p0 d s
  | .plDetectStep => Sys2Proof.Machine.execPlDetectStep s
  | .plPeerStep lanes => Sys2Proof.Machine.execPlPeerStep lanes s
  | .plActivityDetected lanes => Sys2Proof.Machine.execPlActivityDetected lanes s
  | .plCtleStep errors => Sys2Proof.Machine.execPlCtleStep errors s
  | .plTrainEnd offsetPpb => Sys2Proof.Machine.execPlTrainEnd offsetPpb s
  | .plBlockLock => Sys2Proof.Machine.execPlBlockLock s
  | .plMarkerSend => Sys2Proof.Machine.execPlMarkerSend s
  | .stitchMarkerRx lane body blocks arrival inverted => Sys2Proof.Machine.execStitchMarkerRx lane body blocks arrival inverted s
  | .plInvalidHeader lane again => Sys2Proof.Machine.execPlInvalidHeader lane again s
  | .plCapsSend => Sys2Proof.Machine.execPlCapsSend s
  | .capsRx packet clean => Sys2Proof.Machine.execCapsRx packet clean s
  | .plStatusSend => Sys2Proof.Machine.execPlStatusSend s
  | .statusRx packet clean arrival => Sys2Proof.Machine.execStatusRx packet clean arrival s
  | .plInvalidPacket => Sys2Proof.Machine.execPlInvalidPacket s
  | .plStateTimeout => Sys2Proof.Machine.execPlStateTimeout s
  | .plLossTimeout => Sys2Proof.Machine.execPlLossTimeout s
  | .plIdleWake => Sys2Proof.Machine.execPlIdleWake s
  | .plIdleHoldExpiry => Sys2Proof.Machine.execPlIdleHoldExpiry s
  | .exitRx relocked => Sys2Proof.Machine.execExitRx relocked s
  | .idleEnterRx => Sys2Proof.Machine.execIdleEnterRx s
  | .ckptCut => Sys2Proof.Machine.execCkptCut s
  | .ckptPacketRx packet whole => Sys2Proof.Machine.execCkptPacketRx packet whole s
  | .ckptStaleTimer => Sys2Proof.Machine.execCkptStaleTimer s
  | .swapPrepareRx => Sys2Proof.Machine.execSwapPrepareRx s
  | .swapReadyRx => Sys2Proof.Machine.execSwapReadyRx s
  | .swapReleaseDone => Sys2Proof.Machine.execSwapReleaseDone s
  | .peerActEdge => Sys2Proof.Machine.execPeerActEdge s
  | .peerLossClaim => Sys2Proof.Machine.execPeerLossClaim s
  | .pairWiringTimer => Sys2Proof.Machine.execPairWiringTimer s
  | .pairWatchdogLapse => Sys2Proof.Machine.execPairWatchdogLapse s
  | .actWaveStop => Sys2Proof.Machine.execActWaveStop s
  | .qualityTest floors => Sys2Proof.Machine.execQualityTest floors s
  | .faultRaise => Sys2Proof.Machine.execFaultRaise s
  | .actionWindowEnd => Sys2Proof.Machine.execActionWindowEnd s
  | .faultQuietTimer src => Sys2Proof.Machine.execFaultQuietTimer src s
  | .faultNPulseEnd => Sys2Proof.Machine.execFaultNPulseEnd s
  | .tokenRefill => Sys2Proof.Machine.execTokenRefill s
  | .journalSummaryTick => Sys2Proof.Machine.execJournalSummaryTick s
  | .journalFrameClose => Sys2Proof.Machine.execJournalFrameClose s
  | .fwWatchdogExpiry => Sys2Proof.Machine.execFwWatchdogExpiry s
  | .snagApply num target => Sys2Proof.Machine.execSnagApply num target s
  | .snagLiveExpiry num target => Sys2Proof.Machine.execSnagLiveExpiry num target s
  | .sliceStepDone port results => Sys2Proof.Machine.execSliceStepDone port results s
  | .sliceFgChannel port results => Sys2Proof.Machine.execSliceFgChannel port results s
  | .ramanGainCalDone port codes => Sys2Proof.Machine.execRamanGainCalDone port codes s
  | .ramanOffsetCalDone port low high => Sys2Proof.Machine.execRamanOffsetCalDone port low high s
  | .sramRowRepair r errs => Sys2Proof.Machine.execSramRowRepair r errs s
  | .fwStageDone written => Sys2Proof.Machine.execFwStageDone written s
  | .fwVerifyDone => Sys2Proof.Machine.execFwVerifyDone s
  | .fwActivationDone => Sys2Proof.Machine.execFwActivationDone s
  | .fwFallback => Sys2Proof.Machine.execFwFallback s
  | .porstNAssert => Sys2Proof.Machine.execPorstNAssert s
  | .supplyReturn r => Sys2Proof.Machine.execSupplyReturn r s
  | .linkReady => Sys2Proof.Machine.execLinkReady s
  | .perstNRelease => Sys2Proof.Machine.execPerstNRelease s
  | .ppsOutPulseEnd => Sys2Proof.Machine.execPpsOutPulseEnd s
  | .snagEffectEnd num target => Sys2Proof.Machine.execSnagEffectEnd num target s
  | .outputRingDrain slot => Sys2Proof.Machine.execOutputRingDrain slot s
  | .dramAccess ch arrived => Sys2Proof.Machine.execDramAccess ch arrived s
  | .compTestDone engine pass => Sys2Proof.Machine.execCompTestDone engine pass s
  | .sramCalDone failed passed => Sys2Proof.Machine.execSramCalDone failed passed s
  | .nvmEraseDone written => Sys2Proof.Machine.execNvmEraseDone written s
  | .pairLinkTimeout => Sys2Proof.Machine.execPairLinkTimeout s

end Sys2Proof.Machine
end

