-- ==== Sys2Proof/Machine/Tick.lean ====
section
/-! DEFINITION. Machine/Tick.lean: what the block does while no command waits: one SCLK tick, and the commands that a bind-off held
back (08 R174; 20 R432; log 113, log 116). -/

namespace Sys2Proof.Machine

/-- The timebase advances by one, wrapping at 64 bits, and with it the SCLK count (08 R174; log 1). -/
def advanceTime (s : State) : State :=
  { s with time := { s.time with ticks := (s.time.ticks + 1) % 2 ^ 64, sclk := s.time.sclk + 1 } }

/-- One SCLK tick: time advances, and what waits for nothing but a condition goes on: a bind-off's next stage, training after the
march test, the return of a FAULTED unit (17 R357; 20 Tables 20-5, 20-9). Without the root clock nothing happens. -/
def tick (s : State) : State :=
  if s.boot.rootLocked then pairRecover (trainStarts (bindOffCheck (advanceTime s))) else s

/-- The command that runs next of those a bind-off held back, once it has completed, in acceptance order (20 R432). -/
def heldNext (s : State) : Option (Instr × State) :=
  if s.boot.bindOff.isSome then none
  else match s.held with
    | [] => none
    | c :: cs => some (c, { s with held := cs, boot := { s.boot with releaseHeld := true } })

end Sys2Proof.Machine
end

