-- ==== Sys2Proof/WellFormed.lean ====
section
/-! DEFINITION. WellFormed.lean: the commands that the block can be given: every operand within the width of the payload field or
the number of objects that the spec gives (15 R315, Tables 15-1, 15-7 to 15-12; the chapter of each event). -/

namespace Sys2Proof

/-- A value fits an unsigned field of a width. -/
def fits (w v : Nat) : Bool := decide (v < 2 ^ w)

/-- A request names one of 64 slots and carries a 32-bit TAG (15 R315, Table 15-1). -/
def reqOk (r : Req) : Bool := decide (r.slot < 64) && fits 32 r.tag

/-- A descriptor has 64 bytes (10 Table 10-1; 14 Table 14-8). -/
def bulkFits (b : Bulk) : Bool := decide (b.desc.length = 64)

/-- The same for a bulk command. -/
def bulkOptFits (b : Option Bulk) : Bool := match b with
  | none => true
  | some x => bulkFits x

/-- The IDs of a PARAM_GET: as many as a 240-byte payload holds, 32 bits each (15 Tables 15-1, 15-7). -/
def idsOk (ids : List Nat) : Bool := decide (ids.length ≤ 59) && ids.all (fits 32)

/-- The pairs of a PARAM_SET: as many as a 240-byte payload holds, values of 32 bits signed (15 Tables 15-1, 15-7). -/
def pairsOk (ps : List (Nat × Int)) : Bool :=
  decide (ps.length ≤ 29) && ps.all (fun p => fits 32 p.1 && decide (-2147483648 ≤ p.2) && decide (p.2 < 2147483648))

/-- A branch goes to a 4-byte-aligned slot (09 R200). -/
def ctlOk (op : CtlOp) : Bool :=
  match op with
  | .b t => decide (t % 4 = 0)
  | .bc _ _ t => decide (t % 4 = 0)
  | .call t => decide (t % 4 = 0)
  | _ => true

/-- Is a command well formed? -/
def Instr.wf (i : Instr) : Bool :=
  match i with
  | .sysIdent r => reqOk r
  | .sysStatus r => reqOk r
  | .sysReset r confirm => reqOk r && fits 32 confirm
  | .sysBindOff r => reqOk r
  | .paramGet r source ids => reqOk r && fits 8 source && idsOk ids
  | .paramSet r pairs bulk => reqOk r && pairsOk pairs && bulkOptFits bulk
  | .paramCommit r dom ins action => reqOk r && fits 8 dom && fits 8 ins && fits 8 action
  | .paramList r dom ins start => reqOk r && fits 8 dom && fits 8 ins && fits 16 start
  | .portArm r port => reqOk r && fits 8 port
  | .portStart r port startAt => reqOk r && fits 8 port && fits 64 startAt
  | .portStop r port => reqOk r && fits 8 port
  | .portApply r port => reqOk r && fits 8 port
  | .portStatus r port => reqOk r && fits 8 port
  | .portProbe r port => reqOk r && fits 8 port
  | .portProbeDone port _ _ => decide (port < 2)
  | .zoneDefine r zone => reqOk r && fits 8 zone
  | .zoneEnable r zone => reqOk r && fits 8 zone
  | .zoneDisable r zone => reqOk r && fits 8 zone
  | .zoneSync r mask syncAt => reqOk r && fits 128 mask && fits 64 syncAt
  | .zoneFreezeDc r zone freeze => reqOk r && fits 8 zone && fits 8 freeze
  | .zoneStatus r zone => reqOk r && fits 8 zone
  | .capSkeinCreate r skein => reqOk r && fits 8 skein
  | .capArm r skein => reqOk r && fits 8 skein
  | .capDisarm r skein => reqOk r && fits 8 skein
  | .capForce r skein forceAt => reqOk r && fits 8 skein && fits 64 forceAt
  | .capForceAtReached skein => decide (skein < 32)
  | .capRead r skein select => reqOk r && fits 8 skein && fits 32 select
  | .capRelease r skein hank => reqOk r && fits 8 skein && fits 32 hank
  | .timeSet r v mode => reqOk r && fits 64 v && fits 8 mode
  | .timeSetTimeout => true
  | .timeGet r => reqOk r
  | .timePpsCfg r => reqOk r
  | .timeTdcConfig r mask => reqOk r && fits 16 mask
  | .feChartLoad r first count entries => reqOk r && fits 8 first && fits 8 count && decide (entries.length ≤ 14) && entries.all (fun x => decide (x.length = 16))
  | .feChartRun r run => reqOk r && fits 8 run
  | .feInject r tag entry => reqOk r && fits 8 tag && decide (entry.length ≤ 240)
  | .feLoopCfg r loop => reqOk r && fits 8 loop
  | .srcConfig r ins => reqOk r && fits 8 ins
  | .srcEnable r ch => reqOk r && fits 8 ch
  | .srcDisable r ch => reqOk r && fits 8 ch
  | .srcCompTable r table bytes => reqOk r && fits 8 table && decide (bytes.length ≤ 240)
  | .calRun r dom ins => reqOk r && fits 16 dom && fits 8 ins
  | .calStatus r dom ins => reqOk r && fits 16 dom && fits 8 ins
  | .calAbort r dom ins => reqOk r && fits 16 dom && fits 8 ins
  | .nvmStore r dom => reqOk r && fits 8 dom
  | .nvmStoreDone _ => true
  | .nvmRestore r dom bulk => reqOk r && fits 8 dom && bulkOptFits bulk
  | .nvmEraseUser r confirm => reqOk r && fits 32 confirm
  | .pairConfig r => reqOk r
  | .pairStatus r => reqOk r
  | .pairSwap r => reqOk r
  | .pairLink r action => reqOk r && fits 8 action
  | .fwStage r slot desc => reqOk r && fits 8 slot && bulkFits desc
  | .fwVerify r slot => reqOk r && fits 8 slot
  | .fwActivate r slot => reqOk r && fits 8 slot
  | .fwKrnLoad r slot desc => reqOk r && fits 8 slot && bulkFits desc
  | .fwKrnStart r slot => reqOk r && fits 8 slot
  | .fwKrnStop r slot => reqOk r && fits 8 slot
  | .faultRead r first count => reqOk r && fits 8 first && fits 8 count
  | .faultClear r mask => reqOk r && fits 128 mask
  | .faultSeverity r src sev => reqOk r && fits 8 src && fits 8 sev
  | .faultJournalCfg r => reqOk r
  | .faultPinRelease r action => reqOk r && fits 8 action
  | .diagUnlock r stepNo sig => reqOk r && fits 8 stepNo && decide (sig.length ≤ 240)
  | .diagSnagSet r snag args => reqOk r && fits 16 snag && decide (args.length ≤ 240)
  | .diagSnagClear r snag => reqOk r && fits 16 snag
  | .compConfig r scope zone => reqOk r && fits 8 scope && fits 8 zone
  | .compResume r jobTag dst dstLen => reqOk r && fits 32 jobTag && fits 64 dst && fits 32 dstLen
  | .memFreq r fsp => reqOk r && fits 8 fsp
  | .memTrain r => reqOk r
  | .memPpr r ch rank bank kind row => reqOk r && fits 8 ch && fits 8 rank && fits 8 bank && fits 8 kind && fits 32 row
  | .badOpcode r opcode => reqOk r && fits 16 opcode
  | .mbxDoorbellBusySlot slot => decide (slot < 64)
  | .malformedRequest slot header => decide (slot < 64) && decide (header.length = 16)
  | .ringEnable ring => decide (ring < 136)
  | .ringDisable ring => decide (ring < 136)
  | .c2hConsWrite ring v => decide (ring < 136) && decide (v < 2 ^ 32)
  | .h2cProdWrite ring v => decide (ring < 4) && decide (v < 2 ^ 32)
  | .bootStateRead => true
  | .registerWrite _ v => decide (v < 2 ^ 32)
  | .bar4Read _ _ => true
  | .bar4Write _ _ => true
  | .hostBadRequest _ => true
  | .endpointReset _ => true
  | .linkUp width speed => decide (width < 9) && decide (speed < 5)
  | .dmaCompletionError ring => decide (ring < 136)
  | .dmaCompletionTimeout ring => decide (ring < 136)
  | .irqModTimer ring => decide (ring < 136)
  | .c2hFrameWrite ring => decide (ring < 136)
  | .ringHoldExpiry ring => decide (ring < 136)
  | .housekeepingFrameClose _ => true
  | .statisticsSecond port => decide (port < 2)
  | .ptmDialogStart fine => decide (fine < 256)
  | .ptmResponse fine _ _ => decide (fine < 256)
  | .ptmTimeout => true
  | .castOnStart bootSel pairId => decide (bootSel < 4) && decide (pairId < 8)
  | .rootLock => true
  | .rootLockTimeout => true
  | .nvmLoaded _ => true
  | .bootVerify => true
  | .recoveryBoot _ => true
  | .marchTestDone _ => true
  | .dramTrainingDone fitted failed _ => decide (fitted.length = 4) && decide (failed < 16)
  | .castOnCalDone => true
  | .bootReady => true
  | .thermalShutdown => true
  | .thermalRecover sensors => decide (sensors.length = 8)
  | .supplyTrip r => decide (r.rail < 3)
  | .railExcursion r => decide (r.rail < 8)
  | .rootUnlock => true
  | .refclkLost => true
  | .dieTempSample sensors => decide (sensors.length = 8)
  | .shotStart port => decide (port < 2)
  | .plyLaunch port => decide (port < 2)
  | .shotEnd port => decide (port < 2)
  | .drainEnd port => decide (port < 2)
  | .lmonEdge port => decide (port < 2)
  | .lmonWindowExpiry port => decide (port < 2)
  | .launchLost port => decide (port < 2)
  | .triginEdge pin => decide (pin < 4)
  | .lockWindowExpiry port => decide (port < 2)
  | .ppsEdge => true
  | .ppsWindowExpiry => true
  | .ppsOutSecond => true
  | .tdcEdge input _ core code => decide (input < 17) && decide (core < 4) &&
    code.all (fun n => decide (1 ≤ n) && decide (n ≤ 256))
  | .tdcThreshSettled ch => decide (ch < 16)
  | .tdcCoreTestDone ch core _ _ => decide (ch < 16) && decide (core < 4)
  | .tgateOpen port => decide (port < 2)
  | .ramanWindowEnd port _ _ => decide (port < 2)
  | .ramanIntervalEnd port => decide (port < 2)
  | .trUpdate port => decide (port < 2)
  | .ramanRefHoldExpiry port => decide (port < 2)
  | .fusionUpdate port => decide (port < 2)
  | .fusionStateTimer port gauge => decide (port < 2) && decide (gauge < 131072)
  | .fuseHoldExpiry port gauge => decide (port < 2) && decide (gauge < 131072)
  | .selvedgeSlot port => decide (port < 2)
  | .gateTestDecision port samples => decide (port < 2) && decide (samples.length = 30)
  | .dechirpRow port _ _ => decide (port < 2)
  | .breakDetectorArm port => decide (port < 2)
  | .phaseSample port => decide (port < 2)
  | .swatchLost port => decide (port < 2)
  | .specRecord port => decide (port < 2)
  | .sliceMonitorEval port chan _ => decide (port < 2) && decide (chan < 4)
  | .sliceSpareSwap port chan => decide (port < 2) && decide (chan < 4)
  | .sliceInterpolate port chan => decide (port < 2) && decide (chan < 4)
  | .hybBlock port _ _ => decide (port < 2)
  | .clipRateSecond port => decide (port < 2)
  | .zoneInputSample zone => decide (zone < 128)
  | .zoneSatSecond => true
  | .detectorDecision zone det => decide (zone < 128) && decide (det < 4)
  | .eventFrameClose => true
  | .eventSummary => true
  | .hankPostComplete skein => decide (skein < 32)
  | .skeinRearm skein => decide (skein < 32)
  | .trigoutPulseEnd pin => decide (pin < 4)
  | .controlClassInstr core op => decide (core < 68) && ctlOk op
  | .repInstr core _ after => decide (core < 68) && decide (after % 4 = 0)
  | .breakInstr core => decide (core < 68)
  | .trapInstr core _ => decide (core < 68)
  | .scalarInstr core _ => decide (core < 68)
  | .loadStoreInstr core _ => decide (core < 68)
  | .vectorAluInstr core _ => decide (core < 68)
  | .macInstr core _ => decide (core < 68)
  | .accumulatorInstr core _ => decide (core < 68)
  | .floatInstr core _ => decide (core < 68)
  | .specialFunctionInstr core _ => decide (core < 68)
  | .waitInstr core sub _ => decide (core < 68) && decide (sub < 8)
  | .doneInstr core sub _ => decide (core < 68) && decide (sub < 8)
  | .putInstr core ts an _ => decide (core < 68) && decide (ts < 32) && decide (an < 8)
  | .dmaInstr core an _ _ _ => decide (core < 68) && decide (an < 8)
  | .dmaComplete core => decide (core < 68)
  | .dwait core => decide (core < 68)
  | .cycrd core dst => decide (core < 68) && decide (dst < 32)
  | .evt core det ts => decide (core < 68) && decide (det < 32) && decide (ts < 32)
  | .ckpt core an _ => decide (core < 68) && decide (an < 8)
  | .cfrCfw core _ _ g => decide (core < 68) && decide (g < 32)
  | .fsrc core src ins d0 d1 => decide (core < 68) && decide (src < 128) && decide (ins < 32) && decide (d0 < 32) && decide (d1 < 32)
  | .krnLoadDone slot => decide (slot < 16)
  | .krnSwapSwitch slot => decide (slot < 16)
  | .krnSwapForcedHalt slot => decide (slot < 16)
  | .krnStopDone slot => decide (slot < 16)
  | .coreSelftestDone core _ => decide (core < 68)
  | .needleHeartbeatTimeout core => decide (core < 68)
  | .needleCoreFault core => decide (core < 68)
  | .needleSpareInService core => decide (core < 68)
  | .needleEccError core _ => decide (core < 68)
  | .spareTestTimer => true
  | .compJobDescriptor desc => bulkFits desc
  | .compBlockDone engine => decide (engine < 9)
  | .compEngineFault engine => decide (engine < 9)
  | .compSpareInService engine => decide (engine < 9)
  | .suspendTimeoutExpiry => true
  | .feConversion volts => decide (volts.length = 16)
  | .feEntryResult => true
  | .excMonitorTrip _ => true
  | .feSelfcalDone failed ofs refs _ _ => decide (failed < 16) && decide (ofs.length = 8) && decide (refs.length = 8)
  | .loopUpdate loop => decide (loop < 4)
  | .refxMeasure _ => true
  | .loopHoldExpiry loop => decide (loop < 4)
  | .loopSenseMismatch loop _ => decide (loop < 4)
  | .loopReleaseEnd loop => decide (loop < 4)
  | .sdCarrierPeriod ch => decide (ch < 8)
  | .sdFbHoldExpiry ch => decide (ch < 8)
  | .sdSaturationTimer ch => decide (ch < 8)
  | .refreshDue ch rank bank => decide (ch < 4) && decide (rank < 2) && decide (bank < 16)
  | .mr4Poll rates => decide (rates.length ≤ 8)
  | .wckDriftCheck ch rank _ => decide (ch < 4) && decide (rank < 2)
  | .selfRefreshEnter ch => decide (ch < 4)
  | .selfRefreshExit ch => decide (ch < 4)
  | .rowIdleClose ch rank bank => decide (ch < 4) && decide (rank < 2) && decide (bank < 16)
  | .actCountReset => true
  | .neighbourRefresh ch rank bank => decide (ch < 4) && decide (rank < 2) && decide (bank < 16)
  | .fspChangeComplete => true
  | .memTrainDone _ => true
  | .pprHardDone _ => true
  | .linkEccError port _ _ => decide (port < 8)
  | .ecsCountCheck ch rank bank _ _ => decide (ch < 4) && decide (rank < 2) && decide (bank < 16)
  | .writeBufferOverflow p0 d => decide (d.which < (if p0 then 32 else 2))
  | .plDetectStep => true
  | .plPeerStep _ => true
  | .plActivityDetected _ => true
  | .plCtleStep _ => true
  | .plTrainEnd _ => true
  | .plBlockLock => true
  | .plMarkerSend => true
  | .stitchMarkerRx lane _ _ _ _ => decide (lane < 4)
  | .plInvalidHeader lane _ => decide (lane < 4)
  | .plCapsSend => true
  | .capsRx _ _ => true
  | .plStatusSend => true
  | .statusRx _ _ _ => true
  | .plInvalidPacket => true
  | .plStateTimeout => true
  | .plLossTimeout => true
  | .plIdleWake => true
  | .plIdleHoldExpiry => true
  | .exitRx _ => true
  | .idleEnterRx => true
  | .ckptCut => true
  | .ckptPacketRx _ _ => true
  | .ckptStaleTimer => true
  | .swapPrepareRx => true
  | .swapReadyRx => true
  | .swapReleaseDone => true
  | .peerActEdge => true
  | .peerLossClaim => true
  | .pairWiringTimer => true
  | .pairWatchdogLapse => true
  | .actWaveStop => true
  | .qualityTest _ => true
  | .faultRaise => true
  | .actionWindowEnd => true
  | .faultQuietTimer src => decide (src < 128)
  | .faultNPulseEnd => true
  | .tokenRefill => true
  | .journalSummaryTick => true
  | .journalFrameClose => true
  | .fwWatchdogExpiry => true
  | .snagApply _ _ => true
  | .snagLiveExpiry _ _ => true
  | .sliceStepDone port _ => decide (port < 2)
  | .sliceFgChannel port _ => decide (port < 2)
  | .ramanGainCalDone port codes => decide (port < 2) && decide (codes.length = 6)
  | .ramanOffsetCalDone port low high => decide (port < 2) && decide (low.length = 2) && decide (high.length = 2)
  | .sramRowRepair _ _ => true
  | .fwStageDone _ => true
  | .fwVerifyDone => true
  | .fwActivationDone => true
  | .fwFallback => true
  | .porstNAssert => true
  | .supplyReturn r => decide (r.rail < 3)
  | .linkReady => true
  | .perstNRelease => true
  | .ppsOutPulseEnd => true
  | .snagEffectEnd _ _ => true
  | .outputRingDrain slot => decide (slot < 16)
  | .dramAccess ch arrived => decide (ch < 4) && arrived.all (fun r => decide (r.port < 8) && decide (r.addr / 256 % 4 = ch))
  | .compTestDone engine _ => decide (engine < 9)
  | .sramCalDone _ _ => true
  | .nvmEraseDone _ => true
  | .pairLinkTimeout => true

end Sys2Proof
end

