-- ==== Sys2Proof/Safety.lean ====
section
/-! DEFINITION. Safety.lean: the terms that claims use for what a state of the block must look like, in reset, at rest and at
work, and for what a command does to it. -/

namespace Sys2Proof.Machine

/-- No light may leave a port: it neither arms nor runs, and no plan of it drains. -/
def portDark (s : State) (p : Nat) : Bool := decide ((portOf s p).st = .idle)

/-- Both ports are dark (18 R378; 20 R416, R418). -/
def unitDark (s : State) : Bool := portDark s 0 && portDark s 1

/-- Nothing runs that a bind-off would have to end (20 Table 20-9). -/
def unitAtRest (s : State) : Bool :=
  unitDark s && !pairOn s && decide (s.purl.st = .disabled) && decide (s.fe.st ≠ .running) && (skeinsWith (skRuns s)).isEmpty &&
    (List.range 16).all (fun n => !krnRuns (krnOf s n)) &&
    [0, 1, 2, 3].all (fun n => decide ((loopOf s n).st = .off)) && (List.range 8).all (fun c => decide ((sdOf s c).st = .off))

/-- The mailbox takes commands: READY, firmware running, no activation, no bind-off, the slot not occupied, and no final response
held back (15 R318, R319, R324; 18 Table 18-5). -/
def mailboxOpen (s : State) (slot : Nat) : Bool :=
  decide (s.boot.st = .ready) && s.boot.fwRuns && s.boot.activation.isNone && s.boot.bindOff.isNone && !s.boot.releaseHeld &&
    !slotBusy s slot && s.col.snags.isEmpty && s.slots.all (fun p => p.2.held.isNone)

/-- The canonical form of the two memories: device DRAM and host memory. -/
def memoriesOk (s : State) : Prop := Memory.wf s.dram ∧ Memory.wf s.link.hostMem

/-- A slot is DONE with a reply (15 Table 15-3). -/
def answered (s : State) (slot : Nat) (r : Reply) : Prop := (slotOf s slot).phase = .done ∧ (slotOf s slot).reply = r

/-- A slot is DEFERRED and waits for a job (15 Table 15-3). -/
def deferredFor (s : State) (slot : Nat) (j : Job) : Prop :=
  (slotOf s slot).phase = .deferred ∧ (slotOf s slot).job = j ∧ (slotOf s slot).reply = statusOnly 0x06

/-- `b` differs from `a` only in what the mailbox itself writes when it takes and answers a request: the slot, MBX_ACCEPTED, and
MBX_VECTOR's message or pending bit (15 R315, R317, Table 15-13). -/
def onlyMail (slot : Nat) (a b : State) : Prop :=
  b = { a with params := b.params, slots := b.slots, link := { a.link with pba := b.link.pba, sent := b.link.sent } } ∧
    (∀ o, o ≠ objId 0x01 0 xMBX_ACCEPTED → kget paramReset b.params o = kget paramReset a.params o) ∧
    (∀ n, n ≠ slot → slotOf b n = slotOf a n)

/-- The command ends at once with a final answer in its slot, and beside the mailbox's own writes takes `s` to `s'`. -/
def Answers (c : Instr) (slot : Nat) (s s' : State) (r : Reply) : Prop :=
  ∃ t, exec c s = .next t ∧ answered t slot r ∧ onlyMail slot s' t

/-- The command is deferred with an interim response in its slot, and beside the mailbox's own writes takes `s` to `s'`. -/
def Defers (c : Instr) (slot : Nat) (s s' : State) (j : Job) : Prop :=
  ∃ t, exec c s = .next t ∧ deferredFor t slot j ∧ onlyMail slot s' t

/-! ### What a definition's checks ask -/

/-- A ZONE_DEFINE of a product passes on a zone that is not ENABLED: its items, the skeins that hold it, the budgets (06 R132 to
R136; 15 R330). -/
def zoneAdmits (s : State) (z : Nat) : Bool :=
  decide (zn (zstaged s z) zPRODUCT ≠ 15) && (zoneItemFault s (sceneZone s z) (zstaged s z)).isNone && !zoneEnabled s z &&
    (skeinSource s z).isNone && (budgetFault s (sceneZone s z) z).isNone

/-- A ZONE_DEFINE of a product passes on an ENABLED zone: the same checks, and no redefinition pending (06 R145). -/
def zoneRedefines (s : State) (z : Nat) : Bool :=
  decide (zn (zstaged s z) zPRODUCT ≠ 15) && (zoneItemFault s (sceneZone s z) (zstaged s z)).isNone && zoneEnabled s z &&
    (pendingZone s).isNone && (skeinSource s z).isNone && (budgetFault s (sceneZone s z) z).isNone

/-- A ZONE_DEFINE with PRODUCT = NONE passes: nothing holds the DEFINED zone (06 R131; 07 R150, R161; 09 R209). -/
def zoneReleases (s : State) (z : Nat) : Bool :=
  decide (zn (zstaged s z) zPRODUCT = 15) && (releaseItemFault (zstaged s z)).isNone && decide ((zoneOf s z).st = .defined) &&
    (skeinSource s z).isNone && (kernelSource s z).isNone

/-- A CAP_SKEIN_CREATE of a source passes: its items, state, pin, rate and space (07 R159 to R162). -/
def skeinAdmits (s : State) (k : Nat) : Bool :=
  let v := skstaged s k
  decide (sn v kSOURCE_KIND ≠ 15) && (skeinItemFault s v).isNone && (decide ((skOf s k).st = .idle) || decide ((skOf s k).st = .undefined)) &&
    (pinHolder s k v).isNone && !(skRaw v && decide ((10000000000 : Rat) < segRate (skPlan s v) v)) &&
    !decide (captureArea s < spaceUsed s k + skSpace (skPlan s v) (zview s (sn v kSOURCE_ZONE)) v)

/-- A CAP_ARM passes on an IDLE skein: its zone, the port's other raw skeins, DRAM's rate (07 R161, R164, R166). -/
def skeinArms (s : State) (k : Nat) : Bool :=
  let v := skview s k
  (skRaw v || (zoneSkeinFault s v).isNone) && decide ((skOf s k).st = .idle) && (rawArmed s k v).isNone &&
    !decide (dramLimit (natP s 0x10 0 mFSP_NOW) < dramLoad s (sceneNow s) [v] [] (natP s 0x10 0 mP7_RESERVE))

/-! ### What a command leaves alone -/

/-- The items of `b` are those of `a` but for the objects named. -/
def itemsBut (os : List Nat) (a b : State) : Prop := ∀ o, o ∉ os → kget paramReset b.params o = kget paramReset a.params o

/-- The collector's record of every source but one is the same in `b` as in `a`. -/
def sourcesBut (src : Nat) (a b : State) : Prop := ∀ n, n ≠ src → srcRec b n = srcRec a n

/-- The live bit of a source will clear when `ticks` SCLK ticks have passed (18 R381); no other source is touched. -/
def quietFrom (src ticks : Nat) (a b : State) : Prop :=
  srcRec b src = { srcRec a src with quietAt := some (nowClk a + ticks) } ∧ sourcesBut src a b

/-- What PORST_N, a thermal shutdown or a supply trip makes of a state: everything as at reset but what non-volatile parts, straps
and the world outside hold (20 Table 20-4; 13 R293; 19 Table 19-8). -/
def coldFrom (s t : State) : Prop :=
  t = { State.reset with
      pending := s.pending, free := t.free, params := t.params
      link := { hostLinkBlank with perstLow := s.link.perstLow, hostMem := s.link.hostMem, sent := s.link.sent }
      boot := { bootBlank with
        porstLow := t.boot.porstLow, thermalHold := t.boot.thermalHold, supplyHold := t.boot.supplyHold
        carried := t.boot.carried, dieTemp := t.boot.dieTemp, bootSel := s.boot.bootSel, unitId := s.boot.unitId
        devRev := s.boot.devRev, slotA := ⟨t.boot.slotA.image, false⟩, slotB := ⟨t.boot.slotB.image, false⟩
        activeSlot := s.boot.activeSlot, rollback := s.boot.rollback }
      cal := { calStateBlank with
        regionR := s.cal.regionR, bank0 := t.cal.bank0, bank1 := t.cal.bank1, activeBank := s.cal.activeBank }
      mem := { memBlank with hardRepairs := s.mem.hardRepairs } } ∧
    (∀ o, o ≠ objId 9 0 aNVM_U_WRITES → kget paramReset t.params o = paramReset o) ∧
    getP t 9 0 aNVM_U_WRITES = getP s 9 0 aNVM_U_WRITES ∧
    (s.boot.staging = none → t.boot.slotA.image = s.boot.slotA.image ∧ t.boot.slotB.image = s.boot.slotB.image) ∧
    (s.cal.nvmOp ≠ some .erase → t.cal.bank0 = s.cal.bank0 ∧ t.cal.bank1 = s.cal.bank1)

/-! ### Cores of the Needle array -/

/-- A core executes its next instruction now: it runs, and fetches from its program region (09 R194, R202). -/
def coreReady (s : State) (c : Nat) : Bool := coreRuns s c && decide ((coreOf s c).pc < fetchEnd s c)

/-- An instruction of a core is done and takes it from `k` to `k'`; beside that core nothing changes but the free values used. -/
def CoreGoes (c : Nat) (i : Instr) (s : State) (k' : Core) : Prop :=
  ∃ t, exec i s = .next t ∧ coreOf t c = k' ∧ (∀ d, d ≠ c → coreOf t d = coreOf s d) ∧
    t = { s with free := t.free, needle := { s.needle with cores := t.needle.cores } }

/-- The program counter and the repeats go on past an instruction of `size` bytes (09 R197). -/
def goesOn (c size : Nat) (k k' : Core) : Prop :=
  k'.pc = (closeReps (isX c) (k.pc + size) k.reps).1 ∧ k'.reps = (closeReps (isX c) (k.pc + size) k.reps).2.1

/-- `k'` is `k` but for what every instruction writes (program counter, repeats, CYC, the table of results) and the G registers and
ST; G registers but `dst` are unchanged. -/
def onlyG (dst : Nat) (k k' : Core) : Prop :=
  k' = { k with g := k'.g, st := k'.st, pc := k'.pc, reps := k'.reps, cyc := k'.cyc, ready := k'.ready } ∧
    ∀ i, i % 32 ≠ dst % 32 → gAt k' i = gAt k i

/-- A core traps: it halts at the instruction (09 R202). -/
def CoreTraps (c : Nat) (i : Instr) (s : State) : Prop :=
  ∃ t, exec i s = .next t ∧ (coreOf t c).halted = true ∧ (coreOf t c).pc = (coreOf s c).pc

/-- The Purl Link has left its state with a cause: DETECT, PL_LAST_CAUSE, source 90 with the cause in DATA0, no width and no lane
chosen, an exit from ACTIVE counted; nothing else of the unit changes (16 R343, R352, Table 16-5). -/
def LinkLost (s t : State) (cause : Nat) : Prop :=
  t = { s with params := t.params, purl := t.purl, col := (detect s { raiseBlank 90 with d0 := cause }).col } ∧
  t.purl.st = .detect ∧ t.purl.since = nowClk s ∧ t.purl.stepAt = nowClk s ∧ t.purl.chosen = [] ∧ t.purl.txIdle = false ∧
  getP t 0x0B 0 lPL_LAST_CAUSE = (cause : Int) ∧ getP t 0x0B 0 lPL_WIDTH = 0 ∧
  getP t 0x0B 0 lPL_RETRAINS = (if s.purl.st = .active then inc32 (getP s 0x0B 0 lPL_RETRAINS) else getP s 0x0B 0 lPL_RETRAINS) ∧
  itemsBut [objId 0x0B 0 lPL_LAST_CAUSE, objId 0x0B 0 lPL_WIDTH, objId 0x0B 0 lPL_RETRAINS] s t

end Sys2Proof.Machine
end

