-- ==== Sys2Proof/Certificates/Slice0/Obligations.lean ====
section
/-! DEFINITION. Certificates/Slice0/Obligations.lean: the statements for the provers, chapter by chapter. -/

open Sys2Proof Sys2Proof.Machine

/-- A step takes the command in front of the queue and is `exec` of it with the queue's rest; with nothing waiting it is one SCLK
tick (what an empty queue does is the model's choice, log 116). -/
def Obligations.StepRunsFrontCommand : Prop :=
  (∀ (c : Instr) (cs : List Instr) (s : State), step { s with pending := c :: cs } = exec c { s with pending := cs }) ∧
  (∀ s : State, s.pending = [] → s.held = [] → ∃ t, step s = .next t ∧
    (s.boot.rootLocked = false → t = s) ∧
    (s.boot.rootLocked = true → s.boot.bindOff = none →
      t.time.ticks = (s.time.ticks + 1) % 2 ^ 64 ∧ t.time.sclk = s.time.sclk + 1))

/-- Every command of the table answers a next state, and no command touches the queue of the commands that wait. -/
def Obligations.CommandsAnswerAndKeepQueue : Prop :=
  ∀ (c : Instr) (s : State), ∃ t, exec c s = .next t ∧ t.pending = s.pending

/-- Every step keeps both memories in their canonical form, so that equal memories stay equal data. -/
def Obligations.StepKeepsMemoryForm : Prop :=
  ∀ s t : State, memoriesOk s → step s = .next t → memoriesOk t

/-- 20 R423: the fuses only ever blow, 64 of them at most, and only when a new firmware has reached the mailbox; an image below the
counter does not pass; SYS_IDENT reports the count at offset 24. -/
def Obligations.RollbackCounterOnlyRises : Prop :=
  (∀ s t : State, s.boot.rollback ≤ 64 → step s = .next t →
    s.boot.rollback ≤ t.boot.rollback ∧ t.boot.rollback ≤ 64 ∧
    ((∀ cs, s.pending ≠ .fwActivationDone :: cs) → (∀ cs, s.held ≠ .fwActivationDone :: cs) →
      t.boot.rollback = s.boot.rollback)) ∧
  (∀ (s : State) (image : List Byte), imgRollback image < s.boot.rollback → verdict s image true = .auth) ∧
  (∀ (r : Req) (s : State), mailboxOpen s r.slot = true → ∃ t, exec (.sysIdent r) s = .next t ∧
    fieldAt (slotOf t r.slot).reply.payload 24 4 = s.boot.rollback % 2 ^ 32)

/-- What PORST_N leaves (20 Tables 20-4, 20-5; 18 R384; 08 R174; 14 R305; 15 Table 15-3), and the invariants at reset. -/
def Obligations.ResetState : Prop :=
  State.reset.boot.st = .reset ∧ State.reset.boot.porstLow = true ∧ State.reset.boot.rootLocked = false ∧
  State.reset.col.pinLow = true ∧ State.reset.time.ticks = 0 ∧ unitDark State.reset = true ∧
  (∀ z, (zoneOf State.reset z).st = .undefined) ∧ (∀ r, (ringOf State.reset r).st = .disabled) ∧
  (∀ n, (slotOf State.reset n).phase = .free) ∧
  (∀ n, (srcRec State.reset n).live = false ∧ (srcRec State.reset n).sticky = false) ∧
  (∀ o, kget paramReset State.reset.params o = paramReset o) ∧ (∀ o, stagedOf State.reset o = none) ∧
  State.reset.boot.rollback ≤ 64 ∧ memoriesOk State.reset ∧ State.reset.pending = []

/-- 02 R40, R45, R447, 01 R29: the port commands. -/
def Obligations.PortCommands : Prop :=
  (∀ (r : Req) (p : Nat) (s : State), mailboxOpen s r.slot = true → p ≤ 1 → dualOn s = false → (portOf s p).probing = false →
    portIdle s p = true → natP s 0x03 p pLENGTH ≠ 0 → ∃ s', Answers (.portArm r p) r.slot s s' okBare ∧
      s' = { s with ports := s'.ports } ∧ portOf s' p = { portOf s p with st := .armed, stop := .none } ∧
      ∀ q, q ≠ p → portOf s' q = portOf s q) ∧
  (∀ (r : Req) (p at_ : Nat) (s : State), mailboxOpen s r.slot = true → p ≤ 1 → dualOn s = false → (portOf s p).st = .armed →
    (portOf s p).probing = false → pairOn s = false → (at_ = 0 ∨ s.time.ticks ≤ at_) →
    ∃ t, exec (.portStart r p at_) s = .next t ∧ answered t r.slot okBare ∧
      (portOf t p).st = .running ∧ (portOf t p).startAt = at_ ∧ (portOf t p).launched = false ∧ (portOf t p).shots = 0 ∧ (portOf t p).drain = none ∧
      getP t 0x03 p pLMON_MISSED = 0 ∧ getP t 0x03 p pTRIG_EARLY = 0 ∧
      ∀ q, q ≤ 1 → q ≠ p → (portOf t q).st = (portOf s q).st) ∧
  (∀ (r : Req) (p : Nat) (s : State), mailboxOpen s r.slot = true → p ≤ 1 → dualOn s = false → (portOf s p).st = .armed →
    (portOf s p).probing = false → ∃ s', Answers (.portStop r p) r.slot s s' okBare ∧ s' = { s with ports := s'.ports } ∧
      portOf s' p = { portOf s p with st := .idle } ∧ ∀ q, q ≠ p → portOf s' q = portOf s q) ∧
  (∀ (r : Req) (p : Nat) (s : State), mailboxOpen s r.slot = true → p ≤ 1 → dualOn s = false → (portOf s p).st = .running →
    (portOf s p).launched = false → (portOf s p).probing = false → ∃ t, exec (.portStop r p) s = .next t ∧
      answered t r.slot okBare ∧ (portOf t p).st = .armed ∧ (portOf t p).shotNext = none) ∧
  (∀ (r : Req) (p : Nat) (s : State), mailboxOpen s r.slot = true → p ≤ 1 → portIdle s p = true → (portOf s p).probing = false →
    pairOn s = false → ∃ s', Defers (.portProbe r p) r.slot s s' (.portProbe p) ∧ s' = { s with ports := s'.ports } ∧
      portOf s' p = { portOf s p with probing := true } ∧ ∀ q, q ≠ p → portOf s' q = portOf s q) ∧
  (∀ (p floor : Nat) (prof : List Nat) (s : State), (portOf s p).probing = true → ∃ t, exec (.portProbeDone p prof floor) s = .next t ∧
    t = { s with ports := t.ports, slots := t.slots, link := t.link, free := t.free } ∧
    portOf t p = { portOf s p with probing := false } ∧
    ∀ q, q ≠ p → portOf t q = portOf s q) ∧
  (∀ (r : Req) (p : Nat) (s : State), mailboxOpen s r.slot = true → 1 < p → Answers (.portArm r p) r.slot s s (badField 0) ∧
    Answers (.portStart r p 0) r.slot s s (badField 0) ∧ Answers (.portStop r p) r.slot s s (badField 0) ∧
    Answers (.portProbe r p) r.slot s s (badField 0))

/-- 01 R22 to R24: PORT_APPLY on an idle port. -/
def Obligations.PlanApplies : Prop :=
  (∀ (r : Req) (p : Nat) (s : State), mailboxOpen s r.slot = true → p ≤ 1 → (portOf s p).st = .idle → (portOf s p).nextPlan = [] →
    (portOf s p).probing = false → dualOn s = false → vn (stagedView s 0) pDUAL_ENDED = 0 → vn (stagedView s 1) pDUAL_ENDED = 0 →
    applyParamFault s p (stagedView s) = none → applyStateFault s [p] (stagedView s) = none →
    ∃ t, exec (.portApply r p) s = .next t ∧ (slotOf t r.slot).phase = .done ∧ (slotOf t r.slot).reply.status = 0 ∧
      ∀ i v, i < 65536 → planItem p (objId 3 p i) = true → stagedOf s (objId 3 p i) = some v →
        getP t 3 p i = v ∧ stagedOf t (objId 3 p i) = none) ∧
  (∀ (r : Req) (p i : Nat) (s : State), mailboxOpen s r.slot = true → p ≤ 1 → vn (stagedView s 0) pDUAL_ENDED = 0 →
    vn (stagedView s 1) pDUAL_ENDED = 0 → dualOn s = false → planItemFault (stagedView s p) = some i →
    Answers (.portApply r p) r.slot s s (badParam (objId 3 p i) p))

/-- 01 R15, R24, 02 R40, R447: the scheduler of a port. -/
def Obligations.ShotsAndPlies : Prop :=
  (∀ (p u : Nat) (s : State), p ≤ 1 → (portOf s p).shotNext = some u → (portOf s p).st = .running → (portOf s p).shotOpen = false →
    (portOf s p).drain = none → reached s u = true → launchesHeld s p = false →
    ∃ t, exec (.shotStart p) s = .next t ∧ (portOf t p).shotOpen = true ∧
      (portOf t p).shotStart = u ∧ (portOf t p).shots = (portOf s p).shots + 1 ∧ (portOf t p).plyNext = 0 ∧
      (portOf t p).launched = true ∧
      ((portOf s p).planShots ≠ 0 → t = { s with ports := t.ports, params := t.params } ∧
        (dualOn s = false → ∀ q, q ≠ p → portOf t q = portOf s q)) ∧
      ((portOf s p).planShots ≠ 0 → (portOf s p).raman.next = [] → dualOn s = false → launchMode s p = 0 →
        (portOf t p).shotNext = some (u + 256 * planNShot (pv s p)))) ∧
  (∀ (p : Nat) (s : State), (portOf s p).shotOpen = true → (portOf s p).plyNext < planP_ (pv s p) →
    reached s ((portOf s p).shotStart + 256 * planPlyAt (pv s p) (portOf s p).plyNext) = true → s.col.snags = [] →
    ∃ t l, exec (.plyLaunch p) s = .next t ∧ (portOf t p).plyNext = (portOf s p).plyNext + 1 ∧
      (portOf t p).lmonWait = (portOf s p).lmonWait ++ [l] ∧ l.gate = (portOf s p).shotStart + 256 * planPlyAt (pv s p) (portOf s p).plyNext ∧
      l.ply = (portOf s p).plyNext ∧ (portOf t p).lastLaunch = l.gate ∧ ∀ q, q ≠ p → portOf t q = portOf s q) ∧
  (∀ (p : Nat) (s : State), (portOf s p).shotOpen = true → planP_ (pv s p) ≤ (portOf s p).plyNext →
    reached s ((portOf s p).shotStart + 256 * planNShot (pv s p)) = true → (portOf s p).stop = .none → (portOf s p).changing = false →
    ∃ t, exec (.shotEnd p) s = .next t ∧ t = { s with ports := t.ports } ∧
      portOf t p = { portOf s p with shotOpen := false, raman := (portOf t p).raman } ∧
      ∀ q, q ≠ p → portOf t q = portOf s q) ∧
  (∀ (p : Nat) (s : State), (portOf s p).shotOpen = true → planP_ (pv s p) ≤ (portOf s p).plyNext → pairOn s = false →
    reached s ((portOf s p).shotStart + 256 * planNShot (pv s p)) = true → (portOf s p).stop = .armed →
    ∃ t d, exec (.shotEnd p) s = .next t ∧ (portOf t p).st = .draining ∧ (portOf t p).drain = some d ∧ d.change = false ∧
      (portOf t p).shotNext = none ∧ (portOf t p).shotOpen = false)

/-- 02 R46 to R48. -/
def Obligations.LaunchMonitor : Prop :=
  (∀ (p : Nat) (m : Meas) (ms : List Meas) (l : Launch) (s : State), p ≤ 1 → (tdcOf s p).meas = m :: ms →
    (portOf s p).lmonWait.find? (inLmonWindow s p m.ts) = some l → ∃ t, exec (.lmonEdge p) s = .next t ∧
      (tdcOf t p).meas = ms ∧ (portOf t p).rowsDue = (portOf s p).rowsDue ++ [{ l with tL := m.ts }] ∧
      (∀ w ∈ (portOf t p).lmonWait, ¬ (w.shot = l.shot ∧ w.ply = l.ply)) ∧ (portOf t p).missRun = 0 ∧
      (portOf t p).delays = (tsDiff m.ts l.gate :: (portOf s p).delays).take 256) ∧
  (∀ (p : Nat) (l : Launch) (rest : List Launch) (s : State), (portOf s p).lmonWait = l :: rest →
    reached s (l.gate + 256 * (natP s 0x03 p pLMON_WINDOW + 1)) = true → ∃ t, exec (.lmonWindowExpiry p) s = .next t ∧
      getP t 0x03 p pLMON_MISSED = inc32 (getP s 0x03 p pLMON_MISSED) ∧ (portOf t p).missRun = (portOf s p).missRun + 1 ∧
      (portOf t p).rowsDue = (portOf s p).rowsDue ++
        [{ l with tL := tsAdd l.gate (delayMean (portOf s p).delays), missing := true }]) ∧
  (∀ (p : Nat) (s : State), 4 ≤ (portOf s p).missRun → (portOf s p).lostTold = false → ∃ t, exec (.launchLost p) s = .next t ∧
    t = { s with ports := t.ports, col := t.col } ∧ t.col = (detect s { raiseBlank (18 + p) with port := p }).col ∧
    portOf t p = { portOf s p with lostTold := true }) ∧
  (∀ (p : Nat) (s : State), (portOf s p).missRun < 4 ∨ (portOf s p).lostTold = true → exec (.launchLost p) s = .next s)

/-- 02 R39, R41 to R43, R49. -/
def Obligations.TriggersAndSlots : Prop :=
  (∀ (pin p : Nat) (m : Meas) (ms : List Meas) (s : State), pin ≤ 3 → p ≤ 1 → (tdcOf s (2 + pin)).meas = m :: ms → dualOn s = false →
    (portOf s p).st = .running → natP s 0x03 p pLAUNCH_TRIG = pin → natP s 0x03 (1 - p) pLAUNCH_TRIG ≠ pin →
    (portOf s p).startAt ≤ m.tick → launchesHeld s p = false → (portOf s p).drain = none → launchMode s p = 1 →
    (∀ k, skRuns s k = false) →
    ∃ t, exec (.triginEdge pin) s = .next t ∧ (tdcOf t (2 + pin)).meas = ms ∧
      ((portOf s p).shotNext = none → earliestStart s p ≤ 256 * m.tick + 7552 →
        (portOf t p).shotNext = some (256 * m.tick + 7552) ∧ (portOf t p).trigIn = true) ∧
      ((portOf s p).shotNext = none → 256 * m.tick + 7552 < earliestStart s p →
        (portOf t p).shotNext = none ∧ getP t 0x03 p pTRIG_EARLY = inc32 (getP s 0x03 p pTRIG_EARLY))) ∧
  (∀ (p : Nat) (s : State), (portOf s p).st = .running → (portOf s p).lock.st = .locked → (portOf s p).lock.tRef ≠ 0 →
    reached s ((portOf s p).lock.cycleEdge.getD 0 + (portOf s p).lock.tRef + 320001) = true →
    ∃ t, exec (.lockWindowExpiry p) s = .next t ∧ (portOf t p).lock.st = .holdover ∧
      { raiseBlank (22 + p) with port := p } ∈ t.col.detected ∧
      ∀ q, q ≠ p → portOf t q = portOf s q) ∧
  (∀ (p : Nat) (s : State), (portOf s p).shotOpen = true → (portOf s p).tgateDone = false → vn (pv s p) pTGATE_ENABLE = 1 →
    reached s ((portOf s p).shotStart + 256 * vn (pv s p) pTGATE_OFFSET) = true →
    ((portOf s p).planShots - 1) % max 1 (vn (pv s p) pTGATE_EVERY) = 0 → (portOf s p).raman.ofsRun = none →
    ∃ t, exec (.tgateOpen p) s = .next t ∧ t = { s with ports := t.ports } ∧ (portOf t p).tgateDone = true ∧
      (portOf t p).tgateFrom = (portOf s p).shotStart + 256 * vn (pv s p) pTGATE_OFFSET ∧
      (portOf t p).tgateTo = (portOf t p).tgateFrom + 256 * vn (pv s p) pTGATE_WIDTH ∧ ∀ q, q ≠ p → portOf t q = portOf s q) ∧
  (∀ (p : Nat) (s : State), (portOf s p).shotOpen = true → (portOf s p).slotDone = false → (portOf s p).proofIn = true →
    reached s ((portOf s p).shotStart + (planRtt (pv s p) + planTau (pv s p)) * 256 / 8000) = true →
    ∃ t, exec (.selvedgeSlot p) s = .next t ∧ (portOf t p).slotDone = true ∧
      (portOf t p).glvlTo = (portOf s p).shotStart + 256 * planNShot (pv s p) - 12800 ∧
      (portOf t p).proofTo = (portOf s p).shotStart + 256 * planNShot (pv s p) - 23040 ∧
      (portOf t p).gateTo = (portOf s p).gateTo ∧ ∀ q, q ≠ p → portOf t q = portOf s q) ∧
  (∀ (p : Nat) (s : State), (portOf s p).shotOpen = true → (portOf s p).slotDone = false → (portOf s p).proofIn = false →
    (portOf s p).calIn = false →
    reached s ((portOf s p).shotStart + (planRtt (pv s p) + planTau (pv s p)) * 256 / 8000) = true →
    ∃ t, exec (.selvedgeSlot p) s = .next t ∧ t = { s with ports := t.ports } ∧ portOf t p = { portOf s p with slotDone := true })

/-- 03 R70, R74, R75: a row of stitch-samples. -/
def Obligations.RowsDelivered : Prop :=
  ∀ (p from_ : Nat) (codes : List (List Int)) (l : Launch) (ls : List Launch) (s : State), p < 2 →
    (portOf s p).rowsDue = l :: ls → (portOf s p).drain = none → getP s 0x03 p pBREAK_ENABLE = 0 →
    ∃ t row, exec (.dechirpRow p from_ codes) s = .next t ∧ (portOf t p).rowsDue = ls ∧
      (portOf t p).ph.rows = (portOf s p).ph.rows ++ [row] ∧ row.l = l ∧ row.zs.length = planN_ (pv s p) ∧
      (l.planShot < 2 → row.flags.testBit 5 = true) ∧ (l.missing = true → row.flags.testBit 4 = true) ∧
      (∀ z ∈ row.zs, -131072 ≤ z.xr ∧ z.xr ≤ 131071 ∧ -131072 ≤ z.xi ∧ z.xi ≤ 131071 ∧
        -131072 ≤ z.yr ∧ z.yr ≤ 131071 ∧ -131072 ≤ z.yi ∧ z.yi ≤ 131071) ∧
      getP t 0x03 p pMF_SAT = add32 (getP s 0x03 p pMF_SAT)
        (rowSats (pv s p) (gridShift s p) l (portOf (takeCodes s p from_ codes) p)) ∧
      ∀ q, q ≠ p → portOf t q = portOf s q

/-- 03 R57, R58, R60: slices. -/
def Obligations.SlicesRepaired : Prop :=
  (∀ (p c from_ : Nat) (codes : List (List Int)) (q : Nat × List Int) (s : State), p < 2 → c < 4 →
    (portOf (takeCodes s p from_ codes) p).codes.getLast? = some q → evalTick (takeCodes s p from_ codes) p c ≤ q.1 →
    ∃ t, exec (.sliceMonitorEval p c ⟨from_, codes⟩) s = .next t ∧
      (adcOf t p c).evalAt = evalTick (takeCodes s p from_ codes) p c + 8192 ∧ (adcOf t p c).map = (adcOf s p c).map ∧
      (∀ i ∈ faultySlots (takeCodes s p from_ codes) p c (evalTick (takeCodes s p from_ codes) p c),
        nth 0 (adcOf s p c).map i ∈ (adcOf t p c).out ∧ repairHas t (.slice p c (nth 0 (adcOf s p c).map i)) = true ∧
        (∃ b, (i, b) ∈ (adcOf t p c).waits ∧ b % 16 = 0 ∧ s.time.ticks + 250 ≤ b) ∧
        ∃ x ∈ t.col.detected, x.src = 32 + p ∧ x.port = p ∧ x.ins = c * 256 + nth 0 (adcOf s p c).map i) ∧
      (∀ d, d ≠ c → adcOf t p d = adcOf s p d) ∧ ∀ q, q ≠ p → portOf t q = portOf s q) ∧
  (∀ (p c slot due pick : Nat) (ws : List (Nat × Nat)) (s : State), (adcOf s p c).waits = (slot, due) :: ws →
    bestSpare (adcOf s p c) = some pick → due ≤ s.time.ticks → (adcOf s p c).fgSince = none →
    ∃ t, exec (.sliceSpareSwap p c) s = .next t ∧ (adcOf t p c).waits = ws ∧
      ((adcOf s p c).stepDue = false → (adcOf t p c).map = setNth (adcOf s p c).map slot pick) ∧
      (adcOf t p c).suspect = closeSuspect (adcOf s p c).suspect due ∧
      (ws = [] → (∀ d, d < 4 → d ≠ c → (adcOf s p d).waits = []) → (srcRec t (32 + p)).live = false) ∧
      (∀ d, d ≠ c → adcOf t p d = adcOf s p d)) ∧
  (∀ (p c slot due : Nat) (ws : List (Nat × Nat)) (s : State), (adcOf s p c).waits = (slot, due) :: ws →
    readySpares (adcOf s p c) = [] → due ≤ s.time.ticks → (adcOf s p c).fgSince = none →
    ∃ t, exec (.sliceInterpolate p c) s = .next t ∧ (adcOf t p c).waits = ws ∧
      (adcOf t p c).interp = (adcOf s p c).interp ++ [slot] ∧
      ((adcOf s p c).stepDue = false → (adcOf t p c).map = (adcOf s p c).map) ∧
      (adcOf t p c).suspect = closeSuspect (adcOf s p c).suspect due ∧ (∀ d, d ≠ c → adcOf t p d = adcOf s p d))

/-- 03 R62, R65, R66, 01 R30, 19 R397, R400, 05 R117, R118. -/
def Obligations.ReceiverCalibrated : Prop :=
  (∀ (p from_ a : Nat) (codes : List (List Int)) (q : Nat × List Int) (s : State), p < 2 → getP s 0x03 p pHYB_MODE = 1 →
    (portOf (takeCodes s p from_ codes) p).hybAt = some a → (portOf (takeCodes s p from_ codes) p).tap.getLast? = some q →
    a + 65536 ≤ q.1 + 1 → ∃ t, exec (.hybBlock p from_ codes) s = .next t ∧ (portOf t p).hybAt = some (a + 65536) ∧
      (fgOverlaps s p false a (a + 65536) = true → (portOf t p).hybX = (portOf s p).hybX) ∧
      (fgOverlaps s p false a (a + 65536) = false → -8192 ≤ (portOf t p).hybX.g ∧ (portOf t p).hybX.g ≤ 8191 ∧
        -6144 ≤ (portOf t p).hybX.p ∧ (portOf t p).hybX.p ≤ 6143) ∧
      (fgOverlaps s p true a (a + 65536) = true → (portOf t p).hybY = (portOf s p).hybY) ∧
      (fgOverlaps s p true a (a + 65536) = false → -8192 ≤ (portOf t p).hybY.g ∧ (portOf t p).hybY.g ≤ 8191 ∧
        -6144 ≤ (portOf t p).hybY.p ∧ (portOf t p).hybY.p ≤ 6143) ∧ ∀ q, q ≠ p → portOf t q = portOf s q) ∧
  (∀ (p : Nat) (s : State), p < 2 → (portOf s p).secFrom + 1250000000 ≤ nowClk s → raisePending s (36 + p) = false →
    ∃ t, exec (.clipRateSecond p) s = .next t ∧
    portOf t p = { portOf s p with
      secFrom := (portOf s p).secFrom + 1250000000, clipNow := 0, rawNow := 0, satNow := 0, outNow := 0 } ∧
    ((∃ x ∈ t.col.detected, x.src = 36 + p) ↔ (portOf s p).rawNow < (portOf s p).clipNow * 10000) ∧
    ∀ q, q ≠ p → portOf t q = portOf s q) ∧
  (∀ (p : Nat) (s : State), getP s 0x03 p pBREAK_ENABLE = 1 → (portOf s p).st = .running → 65 < (portOf s p).planShots →
    (portOf s p).det.armed = false → ∃ t, exec (.breakDetectorArm p) s = .next t ∧ t = { s with ports := t.ports } ∧
      portOf t p = { portOf s p with det := { (portOf s p).det with armed := true } } ∧ ∀ q, q ≠ p → portOf t q = portOf s q) ∧
  (∀ (p : Nat) (k : CalStep) (rs : List SliceResult) (s : State), p ≤ 1 → (portOf s p).calStep = some k → stepOver s k = true →
    (portOf s p).st = .running → ∃ t, exec (.sliceStepDone p rs) s = .next t ∧ (portOf t p).calStep = none ∧
      ∀ c, c < 4 → (adcOf t p c).testing = none) ∧
  (∀ (p : Nat) (f : FgRun) (rs : List SliceResult) (s : State), (portOf s p).calFg = some f → f.endClk ≤ nowClk s → f.stage < 4 →
    ∃ t g, exec (.sliceFgChannel p rs) s = .next t ∧ (portOf t p).calFg = some g ∧ g.stage = f.stage + 1 ∧ g.pass = f.pass) ∧
  (∀ (p q : Nat) (codes : List Int) (s : State), p ≤ 1 → (portOf s p).raman.gainRun = some q → q ≤ nowClk s →
    ∃ t, exec (.ramanGainCalDone p codes) s = .next t ∧ (portOf t p).raman.gainRun = none ∧
      (portOf t p).raman.rg = (gainRunResult s (portOf s p).raman.ofs codes).2 ∧ (calGet t 3 p).st = .idle) ∧
  (∀ (p : Nat) (r : OfsRun) (low high : List (List Int)) (s : State), p ≤ 1 → (portOf s p).raman.ofsRun = some r → ofsTaken s p r = true →
    ∃ t, exec (.ramanOffsetCalDone p low high) s = .next t ∧ (portOf t p).raman.ofsRun = none ∧ (calGet t 4 p).st = .idle ∧
      ((∀ i, i < 4 → rangeQuiet (nth [] (low ++ high) i) = true) →
        (portOf t p).raman.ofs = [0, 1, 2, 3].map (fun i => satS 16 (roundDivI (sumI (nth [] (low ++ high) i)) (2 ^ 18 : Nat)))) ∧
      ((∃ i, i < 4 ∧ rangeQuiet (nth [] (low ++ high) i) = false) → (portOf t p).raman.ofs = (portOf s p).raman.ofs ∧
        (calGet t 4 p).lastStatus = 2))

/-- 04 R83, R87, R91, R95. -/
def Obligations.PhaseDelivers : Prop :=
  (∀ (p : Nat) (row : Row) (rest : List Row) (s : State), p < 2 → (portOf (unwrapRows s p) p).ph.ahead = row :: rest →
    vn (pv s p) pINTERP_MAX < rest.length + 1 → s.pair.adopting.contains p = false → ∃ t r, exec (.phaseSample p) s = .next t ∧
      (portOf t p).ph.ahead = rest ∧ (portOf t p).ph.rows = (portOf (unwrapRows s p) p).ph.rows ∧ (portOf t p).ph.out = some r ∧
      (portOf t p).ph.idx = (portOf (unwrapRows s p) p).ph.idx + 1 ∧ r.tL = row.l.tL ∧ r.amp.length = row.zs.length ∧
      (∀ d ∈ r.dphi, -32767 ≤ d ∧ d ≤ 32767) ∧ ∀ q, q ≠ p → portOf t q = portOf s q) ∧
  (∀ (p : Nat) (s : State), p < 2 → (portOf s p).ph.rows = [] → (portOf s p).ph.ahead.length ≤ vn (pv s p) pINTERP_MAX →
    streamEnded (portOf s p) = false → exec (.phaseSample p) s = .next s) ∧
  (∀ (p : Nat) (s : State), (portOf s p).ph.lost = true → raisable s (24 + p) = true →
    exec (.swatchLost p) s = .next (detect s { raiseBlank (24 + p) with port := p }))

/-- 05 R107, R109, R113, R119 to R125, 04 R96. -/
def Obligations.RamanPath : Prop :=
  (∀ (p : Nat) (w : RamanWin) (xs ys : List Int) (s : State), (portOf s p).raman.win = some w →
    w.start + 5 * w.len ≤ s.time.ticks → ∃ t, exec (.ramanWindowEnd p xs ys) s = .next t ∧
      t = { s with ports := t.ports, params := t.params } ∧ itemsBut [objId 3 p pRAMAN_SAT] s t ∧ (portOf t p).raman.win = none ∧
      (w.spoilt = true → (portOf t p).raman.acc = (portOf s p).raman.acc ∧ (portOf t p).raman.ended = (portOf s p).raman.ended) ∧
      (w.spoilt = false → w.late = false → (portOf t p).raman.acc = ramanAdd (portOf s p).raman w xs ys (portOf s p).raman.acc) ∧
      (∀ e, w.spoilt = false → w.late = true → (portOf s p).raman.ended = some e →
        (portOf t p).raman.ended = some { e with sums := ramanAdd (portOf s p).raman w xs ys e.sums }) ∧
      ∀ q, q ≠ p → portOf t q = portOf s q) ∧
  (∀ (p b : Nat) (s : State), (portOf s p).shotOpen = true → planP_ (pv s p) ≤ (portOf s p).plyNext →
    reached s ((portOf s p).shotStart + 256 * planNShot (pv s p)) = true → (portOf s p).stop = .none → (portOf s p).changing = false →
    (portOf s p).raman.intStart = some b → (portOf s p).raman.ended = none → (portOf s p).raman.eEnd = none →
    b + natP s 0x03 p pRAMAN_INT * 1250000 ≤ clkOfTick s (tickOf ((portOf s p).shotStart + 256 * planNShot (pv s p))) →
    ∃ t, exec (.shotEnd p) s = .next t ∧ (portOf t p).raman.intStart = none ∧ (portOf t p).raman.ended =
      some ⟨(portOf s p).raman.acc, clkOfTick s (tickOf ((portOf s p).shotStart + 256 * planNShot (pv s p))) - b⟩) ∧
  (∀ (p : Nat) (e : RamanEnded) (s : State), (portOf s p).raman.ended = some e → (∀ w, (portOf s p).raman.win = some w → w.late = false) →
    ∃ t, exec (.ramanIntervalEnd p) s = .next t ∧ (portOf t p).raman.ended = none ∧ (portOf t p).raman.trDue = true ∧
      (portOf t p).raman.fuseDue = true ∧ ((portOf s 0).raman.old = [] → (portOf s 1).raman.old = [] → (portOf t p).raman.past =
        (e.sums :: (portOf s p).raman.past.filter (fun b => b.epoch = e.sums.epoch)).take (natP s 0x03 p pRAMAN_AVG)) ∧
      ∀ q, q ≠ p → portOf t q = portOf s q) ∧
  (∀ (p : Nat) (s : State), (portOf s p).raman.trDue = true → ramanDual s = false → ∃ t, exec (.trUpdate p) s = .next t ∧
    (portOf t p).raman.trDue = false) ∧
  (∀ (p : Nat) (s : State), p ≤ 1 → (portOf s 0).raman.trDue = true → (portOf s 1).raman.trDue = true → ramanDual s = true →
    ∃ t, exec (.trUpdate p) s = .next t ∧ (portOf t 0).raman.trDue = false ∧ (portOf t 1).raman.trDue = false ∧
      (portOf t 1).raman.tr = (portOf t 0).raman.tr.reverse) ∧
  (∀ (p q : Nat) (s : State), (portOf s p).raman.heldSince = some q → (portOf s p).raman.refLost = false →
    q + natP s 0x03 p pREF_HOLD * 1250000000 ≤ nowClk s → raisable s (28 + p) = true → ∃ t, exec (.ramanRefHoldExpiry p) s = .next t ∧
      t = { s with ports := t.ports, col := (detect s { raiseBlank (28 + p) with port := p }).col } ∧
      (portOf t p).raman = { (portOf s p).raman with refLost := true } ∧ ∀ q, q ≠ p → portOf t q = portOf s q) ∧
  (∀ (p : Nat) (r : SpecRec) (rs : List SpecRec) (s : State), (portOf s p).specDone = r :: rs →
    ∃ t, exec (.specRecord p) s = .next t ∧ t = { s with ports := t.ports, params := t.params } ∧
      itemsBut [objId 3 p pSPEC_LOST_COUNT] s t ∧ (portOf t p).specDone = rs ∧ ∀ q, q ≠ p → portOf t q = portOf s q) ∧
  (∀ (p : Nat) (s : State), (portOf s p).raman.fuseDue = true → (portOf s p).raman.trDue = false → ∃ t,
    exec (.fusionUpdate p) s = .next t ∧ (portOf t p).raman.fuseDue = false ∧
      ((portOf s 0).raman.old = [] → (portOf s 1).raman.old = [] → (portOf t p).raman.ft.length = planN_ (pv s p) ∧
        (portOf t p).raman.fs.length = planN_ (pv s p))) ∧
  (∀ (p g : Nat) (s : State), g < (portOf s p).raman.fuse.length → (nth fuseNone (portOf s p).raman.fuse g).b.isSome = true →
    (nth fuseNone (portOf s p).raman.fuse g).st ≠ 0 → (nth fuseNone (portOf s p).raman.fuse g).stEnd ≤ nowClk s →
    ∃ t, exec (.fusionStateTimer p g) s = .next t ∧ t = { s with ports := t.ports } ∧
      nth fuseNone (portOf t p).raman.fuse g = { nth fuseNone (portOf s p).raman.fuse g with st := 0 } ∧
      ∀ h, h ≠ g → nth fuseNone (portOf t p).raman.fuse h = nth fuseNone (portOf s p).raman.fuse h) ∧
  (∀ (p g q : Nat) (s : State), g < (portOf s p).raman.fuse.length → (nth fuseNone (portOf s p).raman.fuse g).holdSince = some q →
    (nth fuseNone (portOf s p).raman.fuse g).holdOver = false → natP s 0x03 p pFUSE_MODE < 2 →
    q + natP s 0x03 p pFUSE_HOLD * 1250000000 ≤ nowClk s →
    ∃ t, exec (.fuseHoldExpiry p g) s = .next t ∧ t = { s with ports := t.ports } ∧
      nth fuseNone (portOf t p).raman.fuse g = { nth fuseNone (portOf s p).raman.fuse g with holdOver := true } ∧
      (natP s 0x03 p pFUSE_MODE = 0 → (portOf t p).raman.ft = noSource (portOf s p).raman.ft g ∧
        (portOf t p).raman.fs = (portOf s p).raman.fs) ∧
      (natP s 0x03 p pFUSE_MODE = 1 → (portOf t p).raman.ft = (portOf s p).raman.ft ∧
        (portOf t p).raman.fs = noSource (portOf s p).raman.fs g))

/-- 06 R131, R140, R143, R145: the zone commands. The checks run on the state in which the request is accepted. -/
def Obligations.ZoneCommands : Prop :=
  (∀ (r : Req) (z : Nat) (s : State), mailboxOpen s r.slot = true → z ≤ 127 → zoneAdmits (accept s r 0x0401) z = true →
    ∃ t q, exec (.zoneDefine r z) s = .next t ∧ answered t r.slot (okWith q) ∧ q.length = 16 ∧ (zoneOf t z).st = .defined ∧
      (∀ i v, i < 65536 → i ≠ zFRAMES_OUT → i ≠ zSAMPLES_OUT → i ≠ zGAP_COUNT → i ≠ zSAT_COUNT → zoneItem z (objId 4 z i) = true →
        stagedOf s (objId 4 z i) = some v → getP t 4 z i = v ∧ stagedOf t (objId 4 z i) = none) ∧
      ∀ y, y ≠ z → zoneOf t y = zoneOf s y) ∧
  (∀ (r : Req) (z : Nat) (s : State), mailboxOpen s r.slot = true → z ≤ 127 → zoneReleases (accept s r 0x0401) z = true →
    ∃ t, exec (.zoneDefine r z) s = .next t ∧ answered t r.slot (okWith (zeros 16)) ∧
      zoneOf t z = { zoneBlank z with dets := [0, 1, 2, 3].map (fun d => detKept (nth detNone (zoneOf s z).dets d)) } ∧
      ∀ y, y ≠ z → zoneOf t y = zoneOf s y) ∧
  (∀ (r : Req) (z : Nat) (s : State), mailboxOpen s r.slot = true → z ≤ 127 → zoneRedefines (accept s r 0x0401) z = true →
    ∃ t q, exec (.zoneDefine r z) s = .next t ∧ answered t r.slot (okWith q) ∧ q.length = 16 ∧ (zoneOf t z).st = .enabled ∧
      ((portOf s (zport (zview s z))).st = .running → (zoneOf t z).pendingDef = true ∧
        zoneOf t z = { zoneOf s z with next := (zoneOf t z).next, pendingDef := true }) ∧
      ((portOf s (zport (zview s z))).st ≠ .running → (zoneOf t z).pendingDef = false ∧ (zoneOf t z).resetDue = true) ∧
      ∀ y, y ≠ z → zoneOf t y = zoneOf s y) ∧
  (∀ (r : Req) (z : Nat) (s : State), mailboxOpen s r.slot = true → z ≤ 127 →
    ((zoneOf s z).st = .defined → ∃ s', Answers (.zoneEnable r z) r.slot s s' okBare ∧
      s' = { s with cap := s'.cap, loops := s'.loops } ∧ (zoneOf s' z).st = .enabled ∧ (zoneOf s' z).resetDue = true ∧
      (zoneOf s' z).inq = [] ∧ ∀ y, y ≠ z → zoneOf s' y = zoneOf s y) ∧
    ((zoneOf s z).st ≠ .defined → Answers (.zoneEnable r z) r.slot s s (badState 0 z))) ∧
  (∀ (r : Req) (z : Nat) (s : State), mailboxOpen s r.slot = true → z ≤ 127 → zoneEnabled s z = true → (zoneOf s z).pendingDef = false →
    ∃ t, exec (.zoneDisable r z) s = .next t ∧ answered t r.slot okBare ∧ (zoneOf t z).st = .defined ∧ (zoneOf t z).inq = [] ∧
      (zoneOf t z).frame.rows = [] ∧ ∀ y, y ≠ z → zoneOf t y = zoneOf s y) ∧
  (∀ (r : Req) (mask at_ : Nat) (s : State), mailboxOpen s r.slot = true →
    (at_ = 0 ∨ s.time.ticks ≤ at_ → (∀ z, z < 128 → mask.testBit z = true → zoneEnabled s z = true ∧ (zoneOf s z).pendingDef = false) →
      ∃ s', Answers (.zoneSync r mask at_) r.slot s s' okBare ∧ s' = { s with cap := { s.cap with zones := s'.cap.zones } } ∧
        ∀ z, zoneOf s' z = if z < 128 ∧ mask.testBit z = true then
          { zoneOf s z with resetDue := decide (at_ = 0), syncAt := if at_ = 0 then none else some (ts72 at_ 0) } else zoneOf s z) ∧
    (at_ ≠ 0 → at_ < s.time.ticks → Answers (.zoneSync r mask at_) r.slot s s (badField 128))) ∧
  (∀ (r : Req) (z f : Nat) (s : State), mailboxOpen s r.slot = true → z ≤ 127 → f ≤ 1 → (zoneOf s z).st ≠ .undefined →
    (zoneOf s z).pendingDef = false → ∃ s', Answers (.zoneFreezeDc r z f) r.slot s s' okBare ∧
      s' = { s with cap := { s.cap with zones := s'.cap.zones } } ∧
      zoneOf s' z = { zoneOf s z with frozen := decide (f = 1), nextFrozen := none } ∧ ∀ y, y ≠ z → zoneOf s' y = zoneOf s y) ∧
  (∀ (r : Req) (z f : Nat) (s : State), mailboxOpen s r.slot = true → 127 < z → Answers (.zoneDefine r z) r.slot s s (badField 0) ∧
    Answers (.zoneEnable r z) r.slot s s (badField 0) ∧ Answers (.zoneDisable r z) r.slot s s (badField 0) ∧
    Answers (.zoneFreezeDc r z f) r.slot s s (badField 0))

/-- 06 R131 to R142: samples through a zone. -/
def Obligations.ZoneRows : Prop :=
  (∀ (z : Nat) (i : ZIn) (rest : List ZIn) (s : State), z < 128 → zoneEnabled s z = true → (zoneOf s z).inq = i :: rest →
    (zoneOf s z).pendingDef = false → (zoneOf s z).stopping = false →
    (∃ r, i = .temp r) ∨ (zphase (zview s z) = true ∧ zdecim (zview s z) = 0 ∧ (zoneOf s z).stages = [] ∧
      zn (zview s z) zPORT ≠ 2) → ∃ t row, exec (.zoneInputSample z) s = .next t ∧ (zoneOf t z).inq = rest ∧
      (zoneOf t z).last = some row ∧ row.label = (match i with | .temp r => r.ts | .phase a => a.tL) ∧
      row.vals.length = zcount (zview s z) ∧ getP t 4 z zSAMPLES_OUT = inc32 (getP s 4 z zSAMPLES_OUT) ∧
      ∀ y, y ≠ z → zoneOf t y = zoneOf s y) ∧
  (∀ (z : Nat) (a : PhaseRow) (rest : List ZIn) (s : State), zoneEnabled s z = true → (zoneOf s z).inq = .phase a :: rest →
    zn (zview s z) zPORT = 2 → pairedRow s (zoneOf s z) a = (none, false) → exec (.zoneInputSample z) s = .next s) ∧
  (∀ (z : Nat) (s : State), zoneEnabled s z = false → exec (.zoneInputSample z) s = .next s) ∧
  (∀ s : State, s.cap.secFrom + 1250000000 ≤ nowClk s → ∃ t, exec .zoneSatSecond s = .next t ∧
    t.cap.secFrom = s.cap.secFrom + 1250000000 ∧ (∀ z, z < 128 → (zoneOf t z).satNow = 0 ∧ (zoneOf t z).outNow = 0) ∧
    ((∀ z, z < 128 → (zoneOf s z).satNow * 10000 ≤ (zoneOf s z).outNow) → (srcRec t 50).live = false) ∧
    (∀ z, z < 128 → (zoneOf s z).outNow < (zoneOf s z).satNow * 10000 →
      { raiseBlank 50 with zone := z } ∈ t.col.detected)) ∧
  (∀ s : State, nowClk s < s.cap.secFrom + 1250000000 → exec .zoneSatSecond s = .next s)

/-- 07 R152, R153, R156, R157. -/
def Obligations.DetectorsAndEvents : Prop :=
  (∀ (z d : Nat) (j : DetJob) (rest : List DetJob) (s : State), d < 4 →
    (nth detNone (zoneOf s z).dets d).queue = j :: rest → ∃ t x y, exec (.detectorDecision z d) s = .next t ∧
      t = { s with cap := t.cap, link := t.link } ∧ x = nth detNone (zoneOf s z).dets d ∧ y = nth detNone (zoneOf t z).dets d ∧
      y.queue = rest ∧ y.since = (if j.idx = 0 then 0 else x.since) + 1 ∧
      (j.warm = true → y.hold = true) ∧ (y.hold = true → y.active = x.active ∧ y.energy = none) ∧
      (y.hold = false → ∃ e, y.energy = some e ∧ -32767 ≤ e ∧ e ≤ 32767 ∧ y.active = detNext x.active j.fall e j.level j.hyst) ∧
      ∀ q, q ≠ z → zoneOf t q = zoneOf s q) ∧
  (∀ s : State, s.cap.evRecs ≠ [] → s.cap.evSince + 12500000 ≤ nowClk s → ∃ t f, exec .eventFrameClose s = .next t ∧
    t = { s with cap := { s.cap with evRecs := [] }, link := t.link } ∧
    (ringOf t 128).queue = (ringOf s 128).queue ++ [⟨f, nowClk s, .none⟩] ∧ f.payload = s.cap.evRecs.flatten ∧
    f.sampleCount = s.cap.evRecs.length ∧ f.ts = s.cap.evFirst) ∧
  (∀ s : State, eventBlocked s = true → exec .eventSummary s = .next s) ∧
  (∀ s : State, eventBlocked s = false → ∃ t, exec .eventSummary s = .next t ∧ t = { s with cap := t.cap, link := t.link } ∧
    ∀ z d, z < 128 → d < 4 → (nth detNone (zoneOf s z).dets d).summaryAt = none →
      (nth detNone (zoneOf s z).dets d).unsent ≠ none → nth detNone (zoneOf t z).dets d =
        { nth detNone (zoneOf s z).dets d with unsent := none, summaryAt := some (nowClk s) })

/-- 07 R158 to R169: skeins up to the trigger. -/
def Obligations.SkeinStates : Prop :=
  (∀ (r : Req) (k : Nat) (s : State), mailboxOpen s r.slot = true → k ≤ 31 → skeinAdmits (accept s r 0x0501) k = true →
    ∃ t q, exec (.capSkeinCreate r k) s = .next t ∧ answered t r.slot (okWith q) ∧ q.length = 12 ∧
      skOf t k = { skeinBlank k with st := .idle } ∧
      (∀ i v, i < 128 → stagedOf s (objId 5 k i) = some v → getP t 5 k i = v ∧ stagedOf t (objId 5 k i) = none) ∧
      ∀ j, j ≠ k → skOf t j = skOf s j) ∧
  (∀ (r : Req) (k : Nat) (s : State), mailboxOpen s r.slot = true → k ≤ 31 → sn (skstaged s k) kSOURCE_KIND = 15 →
    (skOf s k).st = .idle → ∃ t, exec (.capSkeinCreate r k) s = .next t ∧ answered t r.slot (okWith (zeros 12)) ∧
      skOf t k = skeinBlank k ∧ ∀ j, j ≠ k → skOf t j = skOf s j) ∧
  (∀ (r : Req) (k : Nat) (s : State), mailboxOpen s r.slot = true → k ≤ 31 → skeinArms (accept s r 0x0502) k = true →
    ∃ s', Answers (.capArm r k) r.slot s s' okBare ∧ s' = { s with cap := { s.cap with skeins := s'.cap.skeins } } ∧
      skOf s' k = { skOf s k with st := .armed, rows := [], launches := [], marks := [], cap := none, armedAt := nowClk s
                                  armedTick := s.time.ticks, truncated := false, gap := false
                                  holes := [], lost := [] } ∧
      ∀ j, j ≠ k → skOf s' j = skOf s j) ∧
  (∀ (r : Req) (k at_ : Nat) (s : State), mailboxOpen s r.slot = true → k ≤ 31 → pairOn s = false → (skOf s k).forceAt = none →
    sn (skview s k) kSOFT_ENABLE ≠ 0 →
    ((skOf s k).st = .armed → at_ = 0 → ∃ s', Answers (.capForce r k at_) r.slot s s' okBare ∧ s' = { s with cap := s'.cap } ∧
      (skOf s' k).st = .capturing ∧ (∃ c, (skOf s' k).cap = some c ∧ c.conds = [⟨nowTs s, 256, s.time.ticks⟩]) ∧ ∀ j, j ≠ k → skOf s' j = skOf s j) ∧
    (skRuns s k = true → at_ ≠ 0 → s.time.ticks ≤ at_ → ∃ s', Defers (.capForce r k at_) r.slot s s' (.capForce k) ∧
      s' = { s with cap := s'.cap } ∧ skOf s' k = { skOf s k with forceAt := some at_ } ∧ ∀ j, j ≠ k → skOf s' j = skOf s j)) ∧
  (∀ (k q : Nat) (s : State), (skOf s k).forceAt = some q → q ≤ s.time.ticks → (skOf s k).st = .armed → ∃ t,
    exec (.capForceAtReached k) s = .next t ∧ (skOf t k).st = .capturing ∧ (skOf t k).forceAt = none ∧
      (∃ c, (skOf t k).cap = some c ∧ c.conds = [⟨ts72 q 0, 256, s.time.ticks⟩]) ∧ ∀ j, j ≠ k → skOf t j = skOf s j) ∧
  (∀ (r : Req) (k : Nat) (s : State), mailboxOpen s r.slot = true → k ≤ 31 →
    ((skOf s k).st = .armed → ∃ t, exec (.capDisarm r k) s = .next t ∧ answered t r.slot okBare ∧
      skOf t k = { skOf s k with st := .idle, forceAt := none } ∧ ∀ j, j ≠ k → skOf t j = skOf s j) ∧
    ((skOf s k).st = .held → ∃ t, exec (.capDisarm r k) s = .next t ∧ answered t r.slot okBare ∧
      skOf t k = { skOf s k with
        st := .idle, forceAt := none, missedList := (skOf s k).missedList.filter (fun m => decide (m.1.at_ ≠ s.time.ticks))
        missed := (skOf s k).missed -
          ((skOf s k).missedList.length - ((skOf s k).missedList.filter (fun m => decide (m.1.at_ ≠ s.time.ticks))).length) } ∧
      ∀ j, j ≠ k → skOf t j = skOf s j) ∧
    (∀ c q, (skOf s k).st = .capturing → (skOf s k).cap = some c → q ∈ c.conds → q.at_ ≠ s.time.ticks → ∃ t h,
      exec (.capDisarm r k) s = .next t ∧ answered t r.slot okBare ∧ (skOf t k).st = .idle ∧ (skOf t k).cap = none ∧
      (skOf t k).hanks = (skOf s k).hanks ++ [h] ∧ h.seq = (skOf s k).seqNext ∧ ∀ j, j ≠ k → skOf t j = skOf s j) ∧
    (∀ c, (skOf s k).st = .capturing → (skOf s k).cap = some c → (∀ q ∈ c.conds, q.at_ = s.time.ticks) → ∃ t,
      exec (.capDisarm r k) s = .next t ∧ answered t r.slot okBare ∧ (skOf t k).st = .idle ∧ (skOf t k).cap = none ∧
      (skOf t k).hanks = (skOf s k).hanks ∧ ∀ j, j ≠ k → skOf t j = skOf s j))

/-- 07 R166 to R173: hanks. -/
def Obligations.HanksWrittenAndRead : Prop :=
  (∀ (k : Nat) (s : State), (skOf s k).cap ≠ none → (skOf s k).truncated = true → ∃ t h, exec (.hankPostComplete k) s = .next t ∧
    (skOf t k).st = .rearm ∧ (skOf t k).cap = none ∧ (skOf t k).hanks = (skOf s k).hanks ++ [h] ∧ h.seq = (skOf s k).seqNext ∧
    (skOf t k).seqNext = ((skOf s k).seqNext + 1) % 2 ^ 32 ∧ (skOf t k).truncated = false ∧ (skOf t k).rearmAt = nowClk s ∧
    ∀ j, j ≠ k → skOf t j = skOf s j) ∧
  (∀ (k : Nat) (s : State), (skOf s k).st = .rearm → ∃ t, exec (.skeinRearm k) s = .next t ∧
    (sn (skview s k) kONESHOT = 1 → skOf t k = { skOf s k with st := .idle, forceAt := none }) ∧
    (sn (skview s k) kONESHOT ≠ 1 → t = { s with cap := t.cap } ∧ skOf t k = { skOf s k with
      st := if sn (skview s k) kHANK_DEPTH ≤ (skOf s k).hanks.length then .held else .armed }) ∧
    ∀ j, j ≠ k → skOf t j = skOf s j) ∧
  (∀ (r : Req) (k sel : Nat) (h : Hank) (s : State), mailboxOpen s r.slot = true → k ≤ 31 → skDefined s k = true →
    (skOf s k).reading = none → sel ≠ 0xFFFFFFFE → h.bytes ≠ [] →
    (if sel = 0xFFFFFFFF then (skOf s k).hanks.head? else (skOf s k).hanks.find? (fun x => x.seq = sel)) = some h →
    ∃ s', Defers (.capRead r k sel) r.slot s s' (.capRead k) ∧ s' = { s with cap := s'.cap, link := s'.link } ∧
      skOf s' k = { skOf s k with reading := some (h.seq, (h.bytes.length + 65535) / 65536, h.bytes.length) } ∧
      (ringOf s' 129).queue.length = (ringOf s 129).queue.length + (h.bytes.length + 65535) / 65536 ∧
      ∀ j, j ≠ k → skOf s' j = skOf s j) ∧
  (∀ (r : Req) (k seq : Nat) (s : State), mailboxOpen s r.slot = true → k ≤ 31 → skDefined s k = true →
    ((∃ h ∈ (skOf s k).hanks, h.seq = seq) → ∃ s', Answers (.capRelease r k seq) r.slot s s' okBare ∧ s' = { s with cap := s'.cap } ∧
      skOf s' k = { skOf s k with hanks := (skOf s k).hanks.filter (fun h => decide (h.seq ≠ seq))
                                  st := if (skOf s k).st = .held then .rearm else (skOf s k).st } ∧
      ∀ j, j ≠ k → skOf s' j = skOf s j) ∧
    ((∀ h ∈ (skOf s k).hanks, h.seq ≠ seq) → Answers (.capRelease r k seq) r.slot s s (badFieldOf 32 k))) ∧
  (∀ (pin : Nat) (q : Nat × Nat) (s : State), nth none s.cap.trigOut pin = some q → reached s q.2 = true →
    exec (.trigoutPulseEnd pin) s = .next { s with cap := { s.cap with trigOut := setNth s.cap.trigOut pin none } })

/-- 08 R176, R179, R180, R182: what becomes of an edge. -/
def Obligations.TdcEdges : Prop :=
  (∀ (i c want : Nat) (falling : Bool) (code : Option Nat) (s : State), tdcInput s i = some c → s.boot.rootLocked = true →
    natP s 0x06 c tTDC_ENABLE = 1 → edgeSelected s c falling = true → (∀ q, (tdcOf s c).settleUntil = some q → q ≤ nowClk s) →
    (tdcOf s c).foreground = false → coresOf s c % 16 ≠ 0 → natP s 0x06 c tTDC_LOG = 0 → (c = 6 → s.time.step = none) →
    (∀ q, (tdcOf s c).lastEdge = some q → q + 50 ≤ nowClk s ∧ q + natP s 0x06 c tTDC_HOLDOFF ≤ nowClk s) →
    ∃ t, exec (.tdcEdge i falling want code) s = .next t ∧ t = { s with params := t.params, time := { s.time with tdc := t.time.tdc } } ∧
      getP t 0x06 c tEDGES_ACCEPTED = inc32 (getP s 0x06 c tEDGES_ACCEPTED) ∧
      itemsBut [objId 6 c tEDGES_ACCEPTED, objId 6 c tEDGES_OVFL] s t ∧ (tdcOf t c).lastEdge = some (nowClk s) ∧
      (tdcOf t c).seq = ((tdcOf s c).seq + 1) % 2 ^ 32 ∧ (8 ≤ c → (tdcOf t c).meas = (tdcOf s c).meas) ∧
      (c < 8 → ∃ m, (tdcOf t c).meas = (tdcOf s c).meas ++ [m] ∧ m.tick = s.time.ticks ∧ m.falling = falling ∧
        m.ovfl = code.isNone ∧ (coresOf s c).testBit m.core = true) ∧
      (∀ d, d ≠ c → tdcOf t d = tdcOf s d)) ∧
  (∀ (i c want q : Nat) (falling : Bool) (code : Option Nat) (s : State), tdcInput s i = some c → s.boot.rootLocked = true →
    natP s 0x06 c tTDC_ENABLE = 1 → edgeSelected s c falling = true → (∀ q, (tdcOf s c).settleUntil = some q → q ≤ nowClk s) →
    (tdcOf s c).foreground = false → coresOf s c % 16 ≠ 0 → (tdcOf s c).lastEdge = some q → q + 50 ≤ nowClk s →
    nowClk s < q + natP s 0x06 c tTDC_HOLDOFF → ∃ t, exec (.tdcEdge i falling want code) s = .next t ∧ t = { s with params := t.params } ∧
      itemsBut [objId 6 c tHOLDOFF_COUNT] s t ∧ getP t 0x06 c tHOLDOFF_COUNT = inc32 (getP s 0x06 c tHOLDOFF_COUNT)) ∧
  (∀ (i c want : Nat) (falling : Bool) (code : Option Nat) (s : State), tdcInput s i = some c → s.boot.rootLocked = true →
    natP s 0x06 c tTDC_ENABLE = 1 → edgeSelected s c falling = true → (tdcOf s c).foreground = false →
    (∃ q, (tdcOf s c).settleUntil = some q ∧ nowClk s < q) ∨ coresOf s c % 16 = 0 ∨
      (∃ q, (tdcOf s c).lastEdge = some q ∧ nowClk s < q + 50) →
    ∃ t, exec (.tdcEdge i falling want code) s = .next t ∧ t = { s with params := t.params, time := { s.time with tdc := t.time.tdc } } ∧
      itemsBut [objId 6 c tEDGES_LOST] s t ∧ getP t 0x06 c tEDGES_LOST = inc32 (getP s 0x06 c tEDGES_LOST) ∧
      tdcOf t c = { tdcOf s c with lost := min ((tdcOf s c).lost + 1) 0xFFFF } ∧ (∀ d, d ≠ c → tdcOf t d = tdcOf s d)) ∧
  (∀ (c q : Nat) (s : State), (tdcOf s c).settleUntil = some q → q ≤ nowClk s → ∃ t, exec (.tdcThreshSettled c) s = .next t ∧
    t = { s with time := { s.time with tdc := t.time.tdc } } ∧ tdcOf t c = { tdcOf s c with settleUntil := none } ∧
    (∀ d, d ≠ c → tdcOf t d = tdcOf s d)) ∧
  (∀ s : State, (natP s 0x06 11 tTDC_GATE_SEL = 0 → tdcInput s 11 = some 11 ∧ tdcInput s 16 = none) ∧
    (natP s 0x06 11 tTDC_GATE_SEL = 1 → tdcInput s 11 = none ∧ tdcInput s 16 = some 11) ∧
    ∀ c, c < 16 → c ≠ 11 → tdcInput s c = some c)

/-- 08 R185, R186: TIME_SET. -/
def Obligations.TimeSetting : Prop :=
  (∀ (r : Req) (v : Nat) (s : State), mailboxOpen s r.slot = true → timebaseInUse s = false → s.time.step = none →
    (∃ s', Answers (.timeSet r v 0) r.slot s s' (okWith (tsBytes (nowTs s))) ∧ s'.time.ticks = v % 2 ^ 64 ∧
      s'.time.sclk = s.time.sclk ∧ s'.time.step = none ∧ s' = { s with time := s'.time, pair := s'.pair, ports := s'.ports }) ∧
    Defers (.timeSet r v 1) r.slot s
      { s with time := { s.time with step := some ⟨v % 2 ^ 64, nowClk s + 2500000000, false⟩ } } .timeSet) ∧
  (∀ (r : Req) (v mode : Nat) (s : State), mailboxOpen s r.slot = true → mode ≤ 1 → timebaseInUse s = true →
    Answers (.timeSet r v mode) r.slot s s (badState 0x0601 0)) ∧
  (∀ (p : TimeStep) (s : State), s.time.step = some p → p.deadline ≤ nowClk s → ∃ t, exec .timeSetTimeout s = .next t ∧
    t = { s with time := { s.time with step := none }, slots := t.slots, link := t.link }) ∧
  (∀ (p : TimeStep) (want e : Nat) (falling : Bool) (code : Option Nat) (s : State), s.time.step = some p → s.boot.rootLocked = true →
    natP s 0x06 6 tTDC_ENABLE = 1 → edgeSelected s 6 falling = true → (∀ q, (tdcOf s 6).settleUntil = some q → q ≤ nowClk s) →
    (tdcOf s 6).foreground = false → coresOf s 6 % 16 ≠ 0 →
    (∀ q, (tdcOf s 6).lastEdge = some q → q + 50 ≤ nowClk s ∧ q + natP s 0x06 6 tTDC_HOLDOFF ≤ nowClk s) →
    e = edgeTs s 6 s.time.ticks (fineOf (tdcOf s 6) (coreFor (coresOf s 6) want) code) →
    ∃ t ms m, exec (.tdcEdge 6 falling want code) s = .next t ∧ t.time.step = none ∧ t.time.sclk = s.time.sclk ∧
      (t.time.ticks : Int) = ((s.time.ticks : Int) + ((p.v : Int) - Int.fdiv ((e : Int) - getP s 0x06 0 tPPS_DELAY) 256)) % 2 ^ 64 ∧
      (tdcOf t 6).meas = ms ++ [m] ∧ ms.length = (tdcOf s 6).meas.length ∧
      m.ts = tsAdd e (256 * ((p.v : Int) - Int.fdiv ((e : Int) - getP s 0x06 0 tPPS_DELAY) 256)))

/-- 08 R187 to R189; the reference edge is as in log 13. -/
def Obligations.PpsAndPtm : Prop :=
  (∀ (m : Meas) (ms : List Meas) (s : State), (tdcOf s 6).meas = m :: ms → natP s 0x06 0 tPPS_MODE = 0 → ∃ t, exec .ppsEdge s = .next t ∧
    t = { s with time := { s.time with tdc := t.time.tdc } } ∧ tdcOf t 6 = { tdcOf s 6 with meas := ms } ∧
    (∀ d, d ≠ 6 → tdcOf t d = tdcOf s d)) ∧
  (∀ (m : Meas) (ms : List Meas) (e : Nat) (s : State), (tdcOf s 6).meas = m :: ms → natP s 0x06 0 tPPS_MODE ≠ 0 →
    e = tsAdd m.ts (-(getP s 0x06 0 tPPS_DELAY)) →
    (s.time.ppsLast = none → ∃ t, exec .ppsEdge s = .next t ∧ t = { s with params := t.params, time := { s.time with
        tdc := t.time.tdc, ppsLast := some e, ppsGood := 0, ppsDeadline := t.time.ppsDeadline } } ∧
      itemsBut [objId 6 0 tPPS_OFFSET] s t ∧ getP t 6 0 tPPS_OFFSET = satS 32 (ppsOffset e) ∧
      t.time.ppsDeadline = some ((nowClk s + 1250012500 : Nat) - Int.fdiv (tsDiff (nowTs s) e) 256).toNat ∧
      tdcOf t 6 = { tdcOf s 6 with meas := ms } ∧ (∀ d, d ≠ 6 → tdcOf t d = tdcOf s d)) ∧
    (∀ last, s.time.ppsLast = some last → (tsDiff e last - 320000000000).natAbs ≤ 3200000 → 2 ≤ s.time.ppsGood →
      ∃ t, exec .ppsEdge s = .next t ∧ t.time.pps = .tracking ∧ t.time.ppsLast = some e ∧ t.time.ppsGood = s.time.ppsGood + 1 ∧
        getP t 6 0 tPPS_OFFSET = satS 32 (ppsOffset e) ∧
        getP t 6 0 tPPS_FREQ_ERR = satS 32 (roundDivI (100 * (tsDiff e last - 320000000000)) 320) ∧ (srcRec t 6).live = false) ∧
    (∀ last, s.time.ppsLast = some last → 3200000 < (tsDiff e last - 320000000000).natAbs → ∃ t, exec .ppsEdge s = .next t ∧
      t = { s with params := t.params, time := { s.time with tdc := t.time.tdc } } ∧ itemsBut [objId 6 0 tPPS_REJECTS] s t ∧
      getP t 6 0 tPPS_REJECTS = inc32 (getP s 6 0 tPPS_REJECTS) ∧ tdcOf t 6 = { tdcOf s 6 with meas := ms } ∧
      (∀ d, d ≠ 6 → tdcOf t d = tdcOf s d))) ∧
  (∀ (q : Nat) (s : State), s.time.ppsDeadline = some q → q ≤ nowClk s → (tdcOf s 6).meas = [] → ∃ t,
    exec .ppsWindowExpiry s = .next t ∧ t = { s with time := t.time, col := t.col } ∧
    t.time = { s.time with pps := .holdover, ppsGood := 0, ppsDeadline := some (q + 1250000000), ppsLast := t.time.ppsLast } ∧
    (s.time.pps ≠ .holdover → t.col.detected = s.col.detected ++ [raiseBlank 6])) ∧
  (∀ s : State, s.boot.rootLocked = true → s.time.ticks % 1250000000 = 0 → natP s 0x06 0 tPPS_OUT_ENABLE = 1 →
    exec .ppsOutSecond s = .next { s with time := { s.time with
      ppsOut := true, ppsOutEnd := nowClk s + natP s 0x06 0 tPPS_OUT_WIDTH * 1250 } }) ∧
  (∀ s : State, s.time.ppsOut = true → s.time.ppsOutEnd ≤ nowClk s →
    exec .ppsOutPulseEnd s = .next { s with time := { s.time with ppsOut := false } }) ∧
  (∀ (r : Req) (s : State), mailboxOpen s r.slot = true → natP s 0x06 0 tPPS_MODE = 0 → s.staged = [(objId 6 0 tPPS_MODE, some 1)] →
    ∃ t, exec (.timePpsCfg r) s = .next t ∧ answered t r.slot (okWith [1]) ∧ getP t 0x06 0 tPPS_MODE = 1 ∧ t.staged = [] ∧
      t.time = { s.time with pps := .acquiring, ppsLast := none, ppsDeadline := none, ppsGood := 0 }) ∧
  (∀ (fine : Nat) (s : State), natP s 0x06 0 tPTM_PERIOD ≠ 0 → s.link.linkUp = true → s.time.ptmDialog = none →
    s.time.ptmAt ≤ nowClk s → exec (.ptmDialogStart fine) s = .next { s with time := { s.time with
      ptmDialog := some (ts72 s.time.ticks fine, nowClk s + 12500000)
      ptmAt := nowClk s + natP s 0x06 0 tPTM_PERIOD * 1250000 } }) ∧
  (∀ (fine master delay : Nat) (p : Nat × Nat) (s : State), s.time.ptmDialog = some p → ∃ t, exec (.ptmResponse fine master delay) s = .next t ∧
    t = { s with time := { s.time with ptmDialog := none }, link := t.link, col := t.col, params := t.params } ∧
    (srcRec t 88).live = false ∧ (∃ q ∈ (hkGet t 2).recs, q.length = 48 ∧ q.take 12 = tsBytes p.1)) ∧
  (∀ (p : Nat × Nat) (s : State), s.time.ptmDialog = some p → p.2 ≤ nowClk s → exec .ptmTimeout s =
    .next (detectSrc { s with time := { s.time with ptmDialog := none } } 88))

/-- 08 R181 to R183, R190. -/
def Obligations.TdcCores : Prop :=
  (∀ (c core : Nat) (hist : List Nat) (ovf : Nat) (s : State), core < 4 → (tdcOf s c).testing.testBit core = true →
    (tdcOf s c).toTest.testBit core = false →
    (densityFails hist ovf = false → ∃ t, exec (.tdcCoreTestDone c core hist ovf) s = .next t ∧
      (tdcOf t c).calibrated.testBit core = true ∧ (tdcOf t c).failed.testBit core = false ∧
      (tdcOf t c).testing.testBit core = false ∧ (coresOf t c).testBit core = true ∧ repairHas t (.tdcCore c core) = false) ∧
    (densityFails hist ovf = true → ∃ t, exec (.tdcCoreTestDone c core hist ovf) s = .next t ∧
      (tdcOf t c).failed.testBit core = true ∧ (coresOf t c).testBit core = false ∧ repairHas t (.tdcCore c core) = true ∧
      { raiseBlank 44 with ins := c, d0 := core } ∈ t.col.detected)) ∧
  (∀ (c core : Nat) (s : State), coresOf s c % 16 = 2 ^ core → nextTest s c ≠ some core) ∧
  (∀ (r : Req) (c : Nat) (s : State), mailboxOpen s r.slot = true → c < 16 → tdcConflict s c = false → ∃ t,
    exec (.timeTdcConfig r (2 ^ c)) s = .next t ∧ (slotOf t r.slot).phase = .done ∧ (slotOf t r.slot).reply.status = 0 ∧
      (∀ d, d ≠ c → tdcOf t d = tdcOf s d) ∧ getP t 0x06 c tEDGES_ACCEPTED = 0 ∧ getP t 0x06 c tEDGES_LOST = 0 ∧
      getP t 0x06 c tTDC_THRESH = planP s 0x06 c tTDC_THRESH)

/-- 09 R209 to R214: user slots. The checks of KRN_LOAD run on the state in which the request is accepted. -/
def Obligations.KernelSlots : Prop :=
  (∀ (r : Req) (n c : Nat) (b : Bulk) (s : State), mailboxOpen s r.slot = true → n < natP s 0x0C 0 nUSER_CORES →
    (krnOf s n).st ≠ .loading → (krnOf s n).st ≠ .shadow → (krnOf s n).core = some c → (ringOf s 133).st = .running →
    krnLoads s < ((ringOf s 133).prod + 2 ^ 32 - (ringOf s 133).cons) % 2 ^ 32 → bulkOk b = true →
    krnFault (accept s r 0x0C04) n (bulkBytes s b) = none → ∃ s', Defers (.fwKrnLoad r n b) r.slot s s' (.krnLoad n) ∧
      (krnOf s' n).st = .loading ∧ (krnOf s' n).next = some (krnImageOf (bulkBytes s b)) ∧ (krnOf s' n).tag = bulkTag b ∧
      (krnOf s' n).image = (krnOf s n).image ∧ ∀ m, m ≠ n → krnOf s' m = krnOf s m) ∧
  (∀ (n c : Nat) (i : KrnImage) (s : State), (krnOf s n).st = .loading → (krnOf s n).next = some i → (krnOf s n).testEnd = none →
    (krnOf s n).shadowCore = none → (krnOf s n).core = some c → ∃ t, exec (.krnLoadDone n) s = .next t ∧ (krnOf t n).st = .loaded ∧ (krnOf t n).image = some i ∧
      (coreOf t c).halted = true ∧ (∀ a, krnWindow n ≤ a → a < krnWindow n + 16777216 → memGet t.dram a = 0) ∧
      getP t 0x0C n nKRN_ROWS = 0 ∧ getP t 0x0C n nKRN_RESTARTS = 0 ∧ ∀ m, m ≠ n → krnOf t m = krnOf s m) ∧
  (∀ (n c : Nat) (i : KrnImage) (s : State), (krnOf s n).st = .loading → (krnOf s n).next = some i → (krnOf s n).testEnd = none →
    (krnOf s n).shadowCore = some c → ∃ t, exec (.krnLoadDone n) s = .next t ∧ (krnOf t n).st = .shadow ∧
      (krnOf t n).image = (krnOf s n).image ∧ (krnOf t n).next = some i) ∧
  (∀ (r : Req) (n c : Nat) (i : KrnImage) (s : State), mailboxOpen s r.slot = true → n < 16 → n < natP s 0x0C 0 nUSER_CORES →
    (krnOf s n).st = .loaded → (krnOf s n).core = some c → (krnOf s n).image = some i → (krnOf s n).swap = none →
    slotWaiting s (.krnStart n) = none → ∃ t, exec (.fwKrnStart r n) s = .next t ∧
      answered t r.slot (okWith (leBytes 1 (krnGen s n))) ∧ (krnOf t n).st = .running ∧ (coreOf t c).pc = i.entry ∧
      (coreOf t c).halted = false ∧ aAt (coreOf t c) 7 = 0x2E000 ∧ (∀ g, gAt (coreOf t c) g = 0) ∧ (∀ a, acAt (coreOf t c) a = 0) ∧
      ∀ m, m ≠ n → krnOf t m = krnOf s m) ∧
  (∀ (r : Req) (n : Nat) (s : State), mailboxOpen s r.slot = true → n < natP s 0x0C 0 nUSER_CORES →
    ((krnOf s n).st = .loaded ∨ (krnOf s n).st = .trapped → ∃ s', Answers (.fwKrnStop r n) r.slot s s' okBare ∧
      s' = { s with needle := s'.needle } ∧ krnOf s' n = { userBlank 0 with core := (krnOf s n).core }) ∧
    ((krnOf s n).st = .running → (krnOf s n).swap = none → (krnOf s n).stopping = false →
      ∃ s', Defers (.fwKrnStop r n) r.slot s s' (.krnStop n) ∧ s' = { s with needle := s'.needle } ∧
        krnOf s' n = { krnOf s n with stopping := true })) ∧
  (∀ (n : Nat) (s : State), krnStopped s (krnOf s n) = true → (krnOf s n).out = [] → (krnOf s n).shadowCore = none → ∃ t,
    exec (.krnStopDone n) s = .next t ∧ krnOf t n = { krnOf s n with st := .loaded, stopping := false } ∧
      ∀ m, m ≠ n → krnOf t m = krnOf s m) ∧
  (∀ (n o c : Nat) (w : KrnSwap) (old new : KrnImage) (s : State), (krnOf s n).swap = some w → (krnOf s n).core = some o →
    (krnOf s n).shadowCore = some c → (krnOf s n).image = some old → (krnOf s n).next = some new → o ≠ c →
    (((coreOf s o).halted = true ∧ w.row ≤ rowsRead (krnOf s n)) → ∃ t, exec (.krnSwapSwitch n) s = .next t ∧
      (krnOf t n).st = .running ∧ (krnOf t n).core = some c ∧ (krnOf t n).image = some new ∧ (krnOf t n).swap = none ∧
      coreUse t c = .user n ∧ coreUse t o = .testing (nowClk s + 50000) ∧ (coreOf t c).pc = new.entry ∧
      getP t 0x0C n nKRN_GENERATION = ((krnGen s n + 1) % 256 : Nat)) ∧
    (w.row ≤ rowsRead (krnOf s n) → exec (.krnSwapForcedHalt n) s = .next s) ∧
    (w.deadline ≤ nowClk s → rowsRead (krnOf s n) < w.row → ∃ t, exec (.krnSwapForcedHalt n) s = .next t ∧ (krnOf t n).st = .running ∧
      (krnOf t n).core = some c ∧ (krnOf t n).image = some new ∧ (krnOf t n).swap = none ∧
      (sumN ((krnOf s n).subs.map (fun q => q.lens.length)) ≠ 0 → getP t 0x0C n nKRN_DROPPED =
        add32 (getP s 0x0C n nKRN_DROPPED) (sumN ((krnOf s n).subs.map (fun q => q.lens.length))))))

/-- 09 R195, R204, R215, R216: faults of cores. -/
def Obligations.CoreFaultsAndSpares : Prop :=
  (∀ (c : Nat) (s : State), c < 68 → coreUse s c = .vendor → (∀ f ∈ s.needle.faults, f.core ≠ c) →
    (s.boot.fwRuns = true → s.col.snags = [] → ∃ t sl, exec (.needleHeartbeatTimeout c) s = .next t ∧
      t = { s with needle := { s.needle with
        cores := t.needle.cores, faults := s.needle.faults ++ [⟨c, nowClk s, .vendor, false, sl, false, none⟩] } } ∧
      coreOf t c = { coreOf s c with halted := true }) ∧
    (∃ t sl, exec (.needleEccError c true) s = .next t ∧ (coreOf t c).halted = true ∧
      t.needle.faults = s.needle.faults ++ [⟨c, nowClk s, .vendor, false, sl, false, none⟩])) ∧
  (∀ (c : Nat) (s : State), c < 68 → ∃ t, exec (.needleEccError c false) s = .next t ∧
    t = { s with params := t.params, col := { s.col with
      detected := s.col.detected ++ [{ raiseBlank 55 with ins := c }], sources := t.col.sources } } ∧
    getP t 0x0C 0 nECC_CORRECTED = inc32 (getP s 0x0C 0 nECC_CORRECTED) ∧ quietFrom 55 1250000000 s t) ∧
  (∀ (c sp : Nat) (f : CoreFault) (s : State), s.needle.faults = [f] → f.core = c → f.declared = false → c < 64 →
    needsSpare f.use = true → coreUse s c ≠ .spare → (nSpares s).head? = some sp → ∃ t, exec (.needleCoreFault c) s = .next t ∧ coreUse t c = .failed ∧
      repairHas t (.core c) = true ∧ t.needle.faults = [{ f with declared := true, spare := some sp }] ∧
      t.col.detected = s.col.detected ++ [{ raiseBlank 48 with ins := c }]) ∧
  (∀ (c : Nat) (f : CoreFault) (s : State), s.needle.faults = [f] → f.core = c → f.declared = false → 64 ≤ c → c < 68 →
    f.use = .vendor → coreUse s c ≠ .spare → xSpares s = [] → ∃ t, exec (.needleCoreFault c) s = .next t ∧ coreUse t c = .failed ∧
      t.needle.faults = [] ∧ (∃ x ∈ t.col.detected, x.src = 49 ∧ x.ins = c) ∧ ∃ x ∈ t.col.detected, x.src = 51) ∧
  (∀ (c sp : Nat) (f : CoreFault) (s : State), s.needle.faults = [f] → f.core = c → f.declared = true → f.spare = some sp →
    (f.use = .vendor → ∃ t, exec (.needleSpareInService c) s = .next t ∧ t.needle.faults = [] ∧ coreUse t sp = .vendor ∧
      coreOf t sp = { coreBlank 0 with startClk := nowClk s }) ∧
    (∀ n i, n < 16 → f.use = .user n → f.ran = true → (krnOf s n).image = some i → (krnOf s n).st = .running → ∃ t, exec (.needleSpareInService c) s = .next t ∧
      t.needle.faults = [] ∧ coreUse t sp = .user n ∧ (krnOf t n).core = some sp ∧ (krnOf t n).st = .running ∧
      (coreOf t sp).pc = i.entry ∧ getP t 0x0C n nKRN_RESTARTS = inc32 (getP s 0x0C n nKRN_RESTARTS))) ∧
  (∀ (p : Nat) (s : State), p < 2 → (statsOf s p).acc ≠ [] → ((statsOf s p).sec + 1) * 1250000000 ≤ s.time.ticks → ∃ t,
    exec (.statisticsSecond p) s = .next t ∧ t = { s with needle := { s.needle with stats := t.needle.stats }, link := t.link } ∧
      statsOf t p = statsNone 0 ∧ (hkGet t (0x40 + p)).recs = [] ∧ (ringOf s 131).queue.length < (ringOf t 131).queue.length ∧
      ∀ q, q ≠ p → statsOf t q = statsOf s q)

/-- 09 R197, R202: control. -/
def Obligations.CoreControl : Prop :=
  (∀ (c : Nat) (s : State) (k : Core), coreReady s c = true → coreOf s c = k →
    (∀ target, leavesBody k target = false →
      (∃ k', CoreGoes c (.controlClassInstr c (.b target)) s k' ∧ k' = { k with pc := target, cyc := k'.cyc }) ∧
      (∃ k', CoreGoes c (.controlClassInstr c (.call target)) s k' ∧
        k' = { k with pc := target, ret := (k.pc + 4) :: k.ret, cyc := k'.cyc }) ∧
      (∀ rest, k.ret = target :: rest → ∃ k', CoreGoes c (.controlClassInstr c .ret) s k' ∧
        k' = { k with pc := target, ret := rest, cyc := k'.cyc }) ∧
      ∀ f sense, stFlag k f = sense → ∃ k', CoreGoes c (.controlClassInstr c (.bc f sense target)) s k' ∧
        k' = { k with pc := target, cyc := k'.cyc }) ∧
    (∀ f sense target, stFlag k f ≠ sense → ∃ k', CoreGoes c (.controlClassInstr c (.bc f sense target)) s k' ∧ goesOn c 4 k k' ∧
      k' = { k with pc := k'.pc, reps := k'.reps, cyc := k'.cyc }) ∧
    (∃ k', CoreGoes c (.controlClassInstr c .nop) s k' ∧ goesOn c 4 k k' ∧
      k' = { k with pc := k'.pc, reps := k'.reps, cyc := k'.cyc }) ∧
    (∃ k', CoreGoes c (.controlClassInstr c .halt) s k' ∧ k' = { k with halted := true, cyc := k'.cyc }) ∧
    (∀ target, leavesBody k target = true → CoreTraps c (.controlClassInstr c (.b target)) s)) ∧
  (∀ (c n after : Nat) (count : RepCount) (s : State) (k : Core), coreReady s c = true → coreOf s c = k →
    n = (match count with | .imm m => m % 65536 | .reg g => gLow k g 16) →
    (k.reps.length < 3 → n ≠ 0 → ∃ k', CoreGoes c (.repInstr c count after) s k' ∧
      k' = { k with pc := k.pc + 4, reps := ⟨k.pc + 4, after, n, n⟩ :: k.reps, cyc := k'.cyc }) ∧
    (k.reps.length < 3 → n = 0 → ∃ k', CoreGoes c (.repInstr c count after) s k' ∧ k' = { k with
      pc := (closeReps (isX c) after k.reps).1, reps := (closeReps (isX c) after k.reps).2.1, cyc := k'.cyc }) ∧
    (3 ≤ k.reps.length → CoreTraps c (.repInstr c count after) s)) ∧
  (∀ (c : Nat) (r : RepLevel) (rs : List RepLevel) (s : State) (k : Core), coreReady s c = true → coreOf s c = k → k.reps = r :: rs →
    (∃ k', CoreGoes c (.breakInstr c) s k' ∧ k' = { k with
      pc := (closeReps (isX c) r.after rs).1, reps := (closeReps (isX c) r.after rs).2.1, cyc := k'.cyc }) ∧
    (k.pc + 4 = r.after → ∃ k', CoreGoes c (.controlClassInstr c .nop) s k' ∧
      (1 < r.left → k'.pc = r.first ∧ k'.reps = { r with left := r.left - 1 } :: rs) ∧
      (r.left ≤ 1 → rs = [] → k'.pc = r.after ∧ k'.reps = []))) ∧
  (∀ (c n : Nat) (s : State), coreReady s c = true → coreUse s c = .user n → ∃ t, exec (.trapInstr c .trap) s = .next t ∧
    (coreOf t c).halted = true ∧ (coreOf t c).pc = (coreOf s c).pc ∧ (krnOf t n).st = .trapped ∧
    (krnOf t n).image = (krnOf s n).image ∧ getP t 0x0C n nTRAP_CAUSE = 8 ∧ getP t 0x0C n nTRAP_PC = wrapS 32 (coreOf s c).pc ∧
    t.col.detected = s.col.detected ++ [{ raiseBlank 52 with ins := n, d0 := 8, d1 := (coreOf s c).pc }]) ∧
  (∀ (c : Nat) (op : TrapOp) (s : State), coreReady s c = true → coreUse s c = .vendor → ∃ t, exec (.trapInstr c op) s = .next t ∧
    (coreOf t c).halted = true ∧ ∃ f ∈ t.needle.faults, f.core = c)

/-- 09 R193 to R196: scalar instructions and memory. -/
def Obligations.CoreScalarsAndMemory : Prop :=
  (∀ (c dst src1 : Nat) (op : ScalarOp) (src2 : ScalarSrc) (s : State) (k : Core), coreReady s c = true → coreOf s c = k →
    ∃ k', CoreGoes c (.scalarInstr c (.alu op dst src1 src2)) s k' ∧ goesOn c (srcSize src2) k k' ∧ onlyG dst k k' ∧
      (op = .cmp → k'.g = k.g) ∧ (∀ i, 4 ≤ i → k'.st.testBit i = k.st.testBit i) ∧
      (∀ v, (scalarRes op (gInt k src1) (srcVal k src2)).val = some v → (op ≠ .cmp → gLow k' dst 32 = v) ∧
        stFlag k' .z = decide (v = 0) ∧ stFlag k' .n = v.testBit 31) ∧
      (∀ b, (scalarRes op (gInt k src1) (srcVal k src2)).cy = some b → stFlag k' .c = b) ∧
      (∀ b, (scalarRes op (gInt k src1) (srcVal k src2)).ov = some b → stFlag k' .v = b)) ∧
  (∀ (c dst a b : Nat) (s : State) (k : Core), coreReady s c = true → coreOf s c = k → ∃ k',
    CoreGoes c (.scalarInstr c (.alu .add dst a (.reg b))) s k' ∧ gLow k' dst 32 = (gLow k a 32 + gLow k b 32) % 2 ^ 32 ∧
    stFlag k' .c = decide (2 ^ 32 ≤ gLow k a 32 + gLow k b 32)) ∧
  (∀ (c an : Nat) (inc : ScalarSrc) (s : State) (k : Core), coreReady s c = true → coreOf s c = k → ∃ k',
    CoreGoes c (.scalarInstr c (.adda an inc)) s k' ∧ goesOn c (srcSize inc) k k' ∧
    k' = { k with a := k'.a, pc := k'.pc, reps := k'.reps, cyc := k'.cyc, ready := k'.ready } ∧
    aAt k' an = nextAddr k an (srcVal k inc) ∧ ∀ m, m % 8 ≠ an % 8 → aAt k' m = aAt k m) ∧
  (∀ (c n dst : Nat) (file : RegFile) (src : ScalarSrc) (s : State) (k : Core), coreReady s c = true → coreOf s c = k →
    (∃ k', CoreGoes c (.scalarInstr c (.toReg file n src)) s k' ∧ goesOn c (srcSize src) k k' ∧ k'.g = k.g ∧ k'.ac = k.ac ∧
      k'.mem = k.mem ∧ (file = .mb → kget regZero k'.mb (n % 8) = bitsOf 32 (srcVal k src)) ∧
      (file = .a → aAt k' n = bitsOf 32 (srcVal k src)) ∧ (file = .st → k'.st = bitsOf 8 (srcVal k src))) ∧
    (∃ k', CoreGoes c (.scalarInstr c (.fromReg dst file n)) s k' ∧ goesOn c 4 k k' ∧ onlyG dst k k' ∧
      gLow k' dst 32 = regGet k file n % 2 ^ 32)) ∧
  (∀ (c : Nat) (op : MemInstr) (s : State) (k : Core), coreReady s c = true → coreOf s c = k →
    op.size = 1 ∨ op.size = 2 ∨ op.size = 4 ∨ op.size = 8 ∨ op.size = 16 → accessTraps k (isX c) op.store op.ref op.size = [] →
    (op.store = true → ∃ k', CoreGoes c (.loadStoreInstr c op) s k' ∧ goesOn c 4 k k' ∧
      k' = { k with mem := k'.mem, a := (afterAccess k op.ref op.size).a, pc := k'.pc, reps := k'.reps, cyc := k'.cyc, ready := k'.ready } ∧
      memWord k'.mem (memKey (isX c) op.ref.an (effAddr k op.ref)) op.size = gAt k op.g % 256 ^ op.size ∧
      ∀ x, x < memKey (isX c) op.ref.an (effAddr k op.ref) ∨ memKey (isX c) op.ref.an (effAddr k op.ref) + op.size ≤ x →
        memGet k'.mem x = memGet k.mem x) ∧
    (op.store = false → ∃ k', CoreGoes c (.loadStoreInstr c op) s k' ∧ goesOn c 4 k k' ∧
      k' = { k with g := k'.g, a := (afterAccess k op.ref op.size).a, pc := k'.pc, reps := k'.reps, cyc := k'.cyc, ready := k'.ready } ∧
      gLow k' op.g (8 * op.size) = memWord k.mem (memKey (isX c) op.ref.an (effAddr k op.ref)) op.size ∧
      ∀ i, i % 32 ≠ op.g % 32 → gAt k' i = gAt k i)) ∧
  (∀ (c : Nat) (op : MemInstr) (s : State), coreReady s c = true →
    op.size = 1 ∨ op.size = 2 ∨ op.size = 4 ∨ op.size = 8 ∨ op.size = 16 →
    accessTraps (coreOf s c) (isX c) op.store op.ref op.size ≠ [] → CoreTraps c (.loadStoreInstr c op) s) ∧
  (∀ (c dst : Nat) (s : State) (k : Core), coreReady s c = true → coreOf s c = k → ∃ k', CoreGoes c (.cycrd c dst) s k' ∧
    goesOn c 4 k k' ∧ onlyG dst k k' ∧ gLow k' dst 64 = k.cyc % 2 ^ 64)

/-- 09 R199: vectors, accumulators, floating point. Free values stand for what the spec leaves open (logs 42, 63). -/
def Obligations.CoreVectorsAndFloats : Prop :=
  (∀ (c dst a b count : Nat) (op : VecOp) (sat : Bool) (s : State) (k : Core), coreReady s c = true → coreOf s c = k → ∃ k',
    CoreGoes c (.vectorAluInstr c (.lane op sat dst a b count)) s k' ∧ goesOn c 4 k k' ∧ onlyG dst k k' ∧
    ∀ i v, i < 8 → laneRes op (count % 32) (gLane k a i) (gLane k b i) = some v →
      gLane k' dst i = if sat then satS 16 v else wrapS 16 v) ∧
  (∀ (c dst src lane : Nat) (v : Int) (sel : List Nat) (s : State) (k : Core), coreReady s c = true → coreOf s c = k →
    (∃ k', CoreGoes c (.vectorAluInstr c (.vperm dst src sel)) s k' ∧ onlyG dst k k' ∧ k'.st = k.st ∧
      ∀ i, i < 8 → gLane k' dst i = gLane k src (nth 0 sel i % 8)) ∧
    (∃ k', CoreGoes c (.vectorAluInstr c (.vbcastImm dst v)) s k' ∧ onlyG dst k k' ∧ ∀ i, i < 8 → gLane k' dst i = wrapS 16 v) ∧
    (∃ k', CoreGoes c (.vectorAluInstr c (.vbcastLane dst src lane)) s k' ∧ onlyG dst k k' ∧
      ∀ i, i < 8 → gLane k' dst i = gLane k src (lane % 8))) ∧
  (∀ (c s1 s2 : Nat) (op : MacOp) (s : State) (k : Core), coreReady s c = true → isX c = false → coreOf s c = k →
    (∃ k', CoreGoes c (.macInstr c ⟨op, s1, s2, none⟩) s k' ∧ goesOn c 4 k k' ∧
      k' = { k with ac := k'.ac, st := k'.st, pc := k'.pc, reps := k'.reps, cyc := k'.cyc, ready := k'.ready } ∧
      (∀ i, i < 8 → acAt k' i = satS 40 ((if macWrites op then 0 else acAt k i) + nth 0 (macTerms k op s1 s2) i)) ∧
      (∀ i, i < 8 → op = .vmac → acAt k' i = satS 40 (acAt k i + gLane k s1 i * gLane k s2 i))) ∧
    (∀ g1 g2 r1 r2, r1.an % 8 < 4 → 4 ≤ r2.an % 8 → g1 % 32 ≠ g2 % 32 → accessTraps k false false r1 16 = [] →
      accessTraps k false false r2 16 = [] → ∃ k', CoreGoes c (.macInstr c ⟨op, s1, s2, some ((g1, r1), (g2, r2))⟩) s k' ∧
      goesOn c 8 k k' ∧ gAt k' g1 = memWord k.mem (effAddr k r1) 16 ∧ gAt k' g2 = memWord k.mem (effAddr k r2) 16 ∧ k'.mem = k.mem ∧
      ∀ i, i < 8 → acAt k' i = satS 40 ((if macWrites op then 0 else acAt k i) + nth 0 (macTerms k op s1 s2) i))) ∧
  (∀ (c : Nat) (op : MacInstr) (s : State), coreReady s c = true → isX c = true → CoreTraps c (.macInstr c op) s) ∧
  (∀ (c dst lane ac shift src : Nat) (n : Int) (s : State) (k : Core), coreReady s c = true → coreOf s c = k →
    (∃ k', CoreGoes c (.accumulatorInstr c .aclr) s k' ∧ goesOn c 4 k k' ∧ k'.g = k.g ∧ k'.st = k.st ∧ ∀ i, acAt k' i = 0) ∧
    (∃ k', CoreGoes c (.accumulatorInstr c (.aext dst lane ac shift false)) s k' ∧ goesOn c 4 k k' ∧ onlyG dst k k' ∧
      gLane k' dst (lane % 8) = satS 16 (roundDivI (acAt k ac) (2 ^ (shift % 32))) ∧
      ∀ i, i < 8 → i ≠ lane % 8 → gLane k' dst i = gLane k dst i) ∧
    (∃ k', CoreGoes c (.accumulatorInstr c (.aext dst lane ac shift true)) s k' ∧ goesOn c 4 k k' ∧ onlyG dst k k' ∧
      wrapS 32 ((gAt k' dst / 2 ^ (32 * (lane % 4)) : Nat) : Int) = satS 32 (roundDivI (acAt k ac) (2 ^ (shift % 32)))) ∧
    (∃ k', CoreGoes c (.accumulatorInstr c (.ashift ac n)) s k' ∧ goesOn c 4 k k' ∧ k'.g = k.g ∧
      acAt k' ac = satS 40 (if n < 0 then acAt k ac >>> n.natAbs else acAt k ac * 2 ^ n.toNat) ∧
      ∀ i, i % 8 ≠ ac % 8 → acAt k' i = acAt k i) ∧
    (∃ k', CoreGoes c (.accumulatorInstr c (.amov ac src)) s k' ∧ goesOn c 4 k k' ∧ k'.g = k.g ∧
      acAt k' ac = satS 40 (acAt k src) ∧ ∀ i, i % 8 ≠ ac % 8 → acAt k' i = acAt k i)) ∧
  (∀ (c dst a b d : Nat) (op : FloatOp) (dbl : Bool) (s : State) (k : Core), coreReady s c = true → coreOf s c = k →
    (∃ k' free, CoreGoes c (.floatInstr c (.scalar op dbl dst a b d)) s k' ∧ goesOn c 4 k k' ∧ onlyG dst k k' ∧
      gLow k' dst (fmtOf dbl).width = (floatRes op (fmtOf dbl) free (gLow k a (fmtOf dbl).width) (gLow k b (fmtOf dbl).width)
        (gLow k d (fmtOf dbl).width)).bits % 2 ^ (fmtOf dbl).width ∧
      ((floatRes op (fmtOf dbl) free (gLow k a (fmtOf dbl).width) (gLow k b (fmtOf dbl).width)
        (gLow k d (fmtOf dbl).width)).inv = true → k'.st.testBit 7 = true)) ∧
    (isX c = false → ∃ k' free, CoreGoes c (.floatInstr c (.vector op dst a b d)) s k' ∧ goesOn c 4 k k' ∧ onlyG dst k k' ∧
      ∀ i, i < 4 → gAt k' dst / 2 ^ (32 * i) % 2 ^ 32 = (floatRes op f32 (free / 2 ^ (32 * i)) (gAt k a / 2 ^ (32 * i) % 2 ^ 32)
        (gAt k b / 2 ^ (32 * i) % 2 ^ 32) (gAt k d / 2 ^ (32 * i) % 2 ^ 32)).bits % 2 ^ 32) ∧
    (∀ cvt, ∃ k', CoreGoes c (.floatInstr c (.fcvt cvt dst a)) s k' ∧ goesOn c 4 k k' ∧ onlyG dst k k') ∧
    (∃ k', CoreGoes c (.floatInstr c (.fcvt .intToF32 dst a)) s k' ∧ goesOn c 4 k k' ∧ onlyG dst k k' ∧
      gLow k' dst 32 = (froundS f32 false (gInt k a)).bits % 2 ^ 32) ∧
    (∀ x, fcmp (fdec (fmtOf dbl) (gLow k a (fmtOf dbl).width)) (fdec (fmtOf dbl) (gLow k b (fmtOf dbl).width)) = some x →
      ∃ k', CoreGoes c (.floatInstr c (.fcmp dbl a b)) s k' ∧ goesOn c 4 k k' ∧ k'.g = k.g ∧ stFlag k' .n = x.1 ∧ stFlag k' .z = x.2)) ∧
  (∀ (c dst src x : Nat) (dbl : Bool) (s : State) (k : Core), coreReady s c = true → coreOf s c = k →
    (∀ op i, (op, i) ∈ [(SpecialOp.sqrt, SpecialInstr.sqrt dbl dst src), (.rcp, .rcp dbl dst src), (.log2, .log2 dbl dst src),
        (.exp2, .exp2 dbl dst src)] → ∃ k' free, CoreGoes c (.specialFunctionInstr c i) s k' ∧ goesOn c 4 k k' ∧ onlyG dst k k' ∧
      gLow k' dst (fmtOf dbl).width =
        (fspecial (fmtOf dbl) free op (fdec (fmtOf dbl) (gLow k src (fmtOf dbl).width))).bits % 2 ^ (fmtOf dbl).width) ∧
    (∃ k' a, CoreGoes c (.specialFunctionInstr c (.cordic dst src x)) s k' ∧ goesOn c 4 k k' ∧ onlyG dst k k' ∧ k'.st = k.st ∧
      (a * 2 ^ 40 - argTurn 58 (gInt k x) (gInt k src)).natAbs ≤ 2 ^ 40 ∧ gLow k' dst 18 = bitsOf 18 a))

/-- 09 R203, R210 to R212: streams and the privileged class. -/
def Obligations.CoreStreams : Prop :=
  (∀ (c sub n : Nat) (s : State) (k : Core), coreReady s c = true → coreOf s c = k → haltsAtWait s c = false →
    (n ≤ rowsHeld s c sub → ∃ k', CoreGoes c (.waitInstr c sub n) s k' ∧ goesOn c 4 k k' ∧
      k' = { k with pc := k'.pc, reps := k'.reps, cyc := k'.cyc, ready := k'.ready, waited := k'.waited }) ∧
    (rowsHeld s c sub < n → exec (.waitInstr c sub n) s = .next s)) ∧
  (∀ (c sub n u : Nat) (q : SubRing) (s : State), coreReady s c = true → coreUse s c = .user u → (krnOf s u).subs[sub]? = some q →
    ∃ t, exec (.doneInstr c sub n) s = .next t ∧ t = { s with needle := t.needle, params := t.params } ∧
      (krnOf t u).subs[sub]? = some { q with rd := q.rd + n, lens := q.lens.drop n } ∧
      getP t 0x0C u nKRN_ROWS = add32 (getP s 0x0C u nKRN_ROWS) n ∧ goesOn c 4 (coreOf s c) (coreOf t c)) ∧
  (∀ (c ts an len u : Nat) (i : KrnImage) (s : State) (k : Core), coreReady s c = true → coreOf s c = k → coreUse s c = .user u →
    (krnOf s u).image = some i → len ≤ i.outRecBytes → regionTraps false false (aAt k an) len = [] →
    (outUsed s u + 16 + len ≤ (krnOf s u).outBytes → ∃ t rec, exec (.putInstr c ts an len) s = .next t ∧
      t = { s with needle := t.needle } ∧ (krnOf t u).out = (krnOf s u).out ++ [(gLow k ts 72, rec)] ∧
      rec.drop 16 = memRead k.mem (aAt k an) len ∧ goesOn c 4 k (coreOf t c)) ∧
    ((krnOf s u).outBytes < outUsed s u + 16 + len → exec (.putInstr c ts an len) s = .next s)) ∧
  (∀ (u ts : Nat) (rec : List Byte) (rest : List (Nat × List Byte)) (i : KrnImage) (s : State), (krnOf s u).out = (ts, rec) :: rest →
    (krnOf s u).image = some i → 0 < i.outRate → (krnOf s u).drainAt ≤ nowClk s → kernelFrameWaits s = false →
    ∃ t, exec (.outputRingDrain u) s = .next t ∧ t = { s with needle := t.needle, link := t.link } ∧ (krnOf t u).out = rest ∧
      (krnOf t u).drainAt = nowClk s + ceilDiv 1250000000 i.outRate ∧ (hkGet t 5).recs.getLast? = some rec) ∧
  (∀ (c an window units : Nat) (out : Bool) (s : State) (k : Core), coreReady s c = true → coreOf s c = k →
    (k.dma = none → window + 16 * units ≤ 0x1000000 → regionTraps (isX c) (!out) (aAt k an) (16 * units) = [] → ∃ k' e,
      CoreGoes c (.dmaInstr c an window units out) s k' ∧ goesOn c 4 k k' ∧ k'.dma = some (aAt k an, window, 16 * units, out, e) ∧
      nowClk s ≤ e ∧ k'.mem = k.mem) ∧
    (k.dma ≠ none → exec (.dmaInstr c an window units out) s = .next s ∧ exec (.dwait c) s = .next s) ∧
    (k.dma = none → ∃ k', CoreGoes c (.dwait c) s k' ∧ goesOn c 4 k k' ∧
      k' = { k with pc := k'.pc, reps := k'.reps, cyc := k'.cyc, ready := k'.ready })) ∧
  (∀ (c u a w n e : Nat) (out : Bool) (i : KrnImage) (s : State), coreUse s c = .user u → (coreOf s c).dma = some (a, w, n, out, e) →
    e ≤ nowClk s → (krnOf s u).image = some i → i.dramRate ≠ 0 → ∃ t, exec (.dmaComplete c) s = .next t ∧
      t = { s with needle := { s.needle with cores := t.needle.cores }, dram := t.dram } ∧
      coreOf t c = { coreOf s c with dma := none, mem := (coreOf t c).mem } ∧
      (out = true → t.dram = memWrite s.dram (krnWindow u + w) (memRead (coreOf s c).mem a n) ∧ (coreOf t c).mem = (coreOf s c).mem) ∧
      (out = false → t.dram = s.dram ∧ (coreOf t c).mem = memWrite (coreOf s c).mem a (memRead s.dram (krnWindow u + w) n))) ∧
  (∀ (c a b d src : Nat) (x : FabricReg) (wr : Bool) (s : State), coreReady s c = true → isX c = false →
    CoreTraps c (.evt c a b) s ∧ CoreTraps c (.fsrc c src a b d) s ∧ CoreTraps c (.ckpt c a b) s ∧ CoreTraps c (.cfrCfw c x wr a) s) ∧
  (∀ (c : Nat) (s : State) (k : Core), coreReady s c = true → isX c = true → coreOf s c = k →
    (∀ det ts j n, j < 32 → n < 4 → (skOf s j).st = .armed → sn (skview s j) (kTRIG_DET + n) = gLow k det 16 → ∃ t,
      exec (.evt c det ts) s = .next t ∧ t = { s with needle := t.needle, cap := t.cap } ∧ (skOf t j).st = .capturing ∧
      goesOn c 4 k (coreOf t c)) ∧
    (∀ src ins d0 d1, ∃ t, exec (.fsrc c src ins d0 d1) s = .next t ∧ t = { s with needle := t.needle, col := (detect s { raiseBlank src with
        ins := gLow k ins 16, d0 := gLow k d0 32, d1 := gLow k d1 64 }).col } ∧
      goesOn c 4 k (coreOf t c)) ∧
    (∀ an len, regionTraps true false (aAt k an) len = [] → ∃ t at_, exec (.ckpt c an len) s = .next t ∧
      t = { s with needle := t.needle, free := s.free + 1, dram := t.dram } ∧ mirrorBase ≤ at_ ∧ at_ + len ≤ mirrorBase + mirrorBytes ∧
      t.dram = memWrite s.dram at_ (memRead k.mem (memKey true an (aAt k an)) len) ∧ goesOn c 4 k (coreOf t c)) ∧
    (∀ g n ch, (∃ k', CoreGoes c (.cfrCfw c (.loop n) false g) s k' ∧ goesOn c 4 k k' ∧ onlyG g k k' ∧
        gLow k' g 32 = (getP s 7 n fLOOP_SET % 2 ^ 32).toNat) ∧
      (n < 4 → ∃ t, exec (.cfrCfw c (.loop n) true g) s = .next t ∧ getP t 7 n fLOOP_SET = gInt k g ∧ goesOn c 4 k (coreOf t c)) ∧
      (ch < 8 → ∃ t, exec (.cfrCfw c (.source ch) true g) s = .next t ∧ t = { s with needle := t.needle, src := t.src } ∧
        sdOf t ch = { sdOf s ch with t := gInt k g, u := gInt k g } ∧ goesOn c 4 k (coreOf t c))))

/-- 10 R222 to R237: the compressor. -/
def Obligations.Compressor : Prop :=
  (∀ (r : Req) (zone : Nat) (s : State), mailboxOpen s r.slot = true → planN s 0x0F 0 cHOST_RESERVE ≤ natP s 0x0F 0 cHOST_RESERVE →
    ∃ t, exec (.compConfig r 0 zone) s = .next t ∧ answered t r.slot okBare ∧ ∀ o v, compScope 0 0 o = true →
      o ≠ objId 0x0F 0 cBYPASS_FRAMES → stagedOf s o = some v → kget paramReset t.params o = v ∧ stagedOf t o = none) ∧
  (∀ (r : Req) (z : Nat) (s : State), mailboxOpen s r.slot = true → z < 128 →
    (¬ (planP s 0x0F z cZFORMAT = 2 ∧ planP s 0x0F z cZPRE = 1) → ∃ s', Answers (.compConfig r 1 z) r.slot s s' okBare ∧
      s' = { s with params := s'.params, staged := s'.staged } ∧ ∀ o v, compScope 1 z o = true → stagedOf s o = some v →
        kget paramReset s'.params o = v ∧ stagedOf s' o = none) ∧
    (planP s 0x0F z cZFORMAT = 2 → planP s 0x0F z cZPRE = 1 →
      Answers (.compConfig r 1 z) r.slot s s (badParam (objId 0x0F z cZPRE) 0))) ∧
  (∀ (q : Bulk) (d : JobDesc) (s : State), d = jobDescOf q → descriptorReady s 3 = true → d.magic = 0x434A →
    (descFault d = none → streamRefuses s d = false → ∃ t, exec (.compJobDescriptor q) s = .next t ∧
      t.comp.orders = s.comp.orders + 1 ∧ (ringOf t 135).cons = ((ringOf s 135).cons + 1) % 2 ^ 32 ∧
      t.link.hostMem = (takeDescriptor s 3).link.hostMem) ∧
    (∀ b, descFault d = some b → ∃ t, exec (.compJobDescriptor q) s = .next t ∧ t.comp = s.comp ∧
      t.link.hostMem = memWrite (takeDescriptor s 3).link.hostMem d.compl (complRecord d.format 0x03 b d.tag 0 0 0 0 0) ∧
      (ringOf t 135).cons = ((ringOf s 135).cons + 1) % 2 ^ 32 ∧ getP t 0x0F 0 cJOBS_DONE = inc32 (getP s 0x0F 0 cJOBS_DONE))) ∧
  (∀ (e : Nat) (f : CompFrame) (s : State), e < 9 → (engineOf s e).st = .inService → (engineOf s e).work = .zone f →
    (engineOf s e).readyAt ≤ nowClk s → s.col.snags = [] → s.comp.waiting = [] → s.comp.jobs = [] → f.format ≠ 2 →
    zoneWaiting s + frameSize f.frame ≤ 33554432 → ∃ t x, exec (.compBlockDone e) s = .next t ∧
      (engineOf t e).work = .idle ∧ (engineOf t e).st = .inService ∧
      (ringOf t f.frame.zone).queue = (ringOf s f.frame.zone).queue ++ [⟨x, nowClk s, .none⟩] ∧
      x.payload.length ≤ f.frame.payload.length ∧ x.zone = f.frame.zone ∧ x.ts = f.frame.ts ∧
      ∀ d, d ≠ e → engineOf t d = engineOf s d) ∧
  (∀ (e : Nat) (j : HostJob) (s : State), e < 9 → (engineOf s e).st = .inService → (engineOf s e).work = .job j →
    (engineOf s e).readyAt ≤ nowClk s → s.col.snags = [] → s.comp.waiting = [] → s.comp.jobs = [] → j.codes = [] →
    jobNeeds j = false → j.stream = none → ∃ t, exec (.compBlockDone e) s = .next t ∧ (engineOf t e).work = .idle ∧
      getP t 0x0F 0 cJOBS_DONE = inc32 (getP s 0x0F 0 cJOBS_DONE)) ∧
  (∀ (r : Req) (tag dst len : Nat) (s : State), mailboxOpen s r.slot = true →
    (∀ j, 64 ≤ len → s.comp.suspended.find? (fun k => decide (k.tag = tag)) = some j → ∃ t,
      exec (.compResume r tag dst len) s = .next t ∧ answered t r.slot okBare ∧
      t.comp.suspended = s.comp.suspended.filter (fun k => !decide (k.order = j.order))) ∧
    (64 ≤ len → (∀ k ∈ s.comp.suspended, k.tag ≠ tag) → Answers (.compResume r tag dst len) r.slot s s (badState 0 tag)) ∧
    (len < 64 → Answers (.compResume r tag dst len) r.slot s s (badField 128))) ∧
  (∀ (e : Nat) (s : State), e < 9 → (engineOf s e).st = .inService → ∃ t, exec (.compEngineFault e) s = .next t ∧
    (engineOf t e).st = .failed ∧ repairHas t (.engine e) = true ∧ (∃ x ∈ t.col.detected, x.src = 56 ∧ x.ins = e) ∧
    ((engineOf s e).work ≠ .idle → getP t 0x0F 0 cBLOCKS_REDONE = inc32 (getP s 0x0F 0 cBLOCKS_REDONE))) ∧
  (∀ (e : Nat) (s : State), e < 9 → (engineOf s e).st = .spare → enginesInService s < 8 → ∃ t,
    exec (.compSpareInService e) s = .next t ∧ (engineOf t e).st = .inService ∧ (srcRec t 56).live = false) ∧
  (∀ s : State, ∃ t, exec .suspendTimeoutExpiry s = .next t ∧
    t.comp.suspended = s.comp.suspended.filter (fun j => !decide (j.dropAt ≤ nowClk s)) ∧
    (∀ j, s.comp.suspended.filter (fun j => decide (j.dropAt ≤ nowClk s)) = [j] →
      getP t 0x0F 0 cSUSPENDED_LOST = inc32 (getP s 0x0F 0 cSUSPENDED_LOST)) ∧
    ∀ n x, n < 4 → kget streamNone s.comp.streams n = .opened x → x.dropAt ≤ nowClk s → streamBusy s n = false →
      (∀ j ∈ s.comp.jobs, j.stream ≠ some n) → kget streamNone t.comp.streams n = .discarded)

/-- 11 R240 to R254: the front end. -/
def Obligations.FrontEndRuns : Prop :=
  (∀ (r : Req) (first count : Nat) (entries : List (List Byte)) (s : State), mailboxOpen s r.slot = true → first ≤ 31 → 1 ≤ count →
    count ≤ 14 → first + count ≤ 32 → chartListFault 0 ((List.range count).map (fun i => chartOf (nth [] entries i))) = none →
    chartTdcClash s ((List.range count).map (fun i => chartOf (nth [] entries i))) = none →
    ∃ s', Answers (.feChartLoad r first count entries) r.slot s s' okBare ∧
      s' = { s with fe := { s.fe with chart := s'.fe.chart, entries := s'.fe.entries } } ∧
      (∀ i, i < count → chartGet s' (first + i) = chartOf (nth [] entries i) ∧
        entryGet s' (first + i) = { entryGet s (first + i) with leads := none }) ∧
      ∀ n, n < first ∨ first + count ≤ n → chartGet s' n = chartGet s n ∧ entryGet s' n = entryGet s n) ∧
  (∀ (r : Req) (s : State), mailboxOpen s r.slot = true →
    (s.fe.st ≠ .stopping → s.fe.run = none → s.fe.calSince = none → s.fe.queue = [] → s.fe.calDue = false → ∃ t x,
      exec (.feChartRun r 1) s = .next t ∧ answered t r.slot okBare ∧ t.fe.st = .running ∧ t.fe.run = some x ∧ x.task = .entry 0 ∧
      x.entry = chartGet s 0 ∧ x.codes = [] ∧ (s.fe.conn ≠ some (connOf (chartGet s 0) .main) → x.startClk = nowClk s)) ∧
    (∀ x n, s.fe.st = .running → s.fe.run = some x → x.task = .entry n → ∃ s', Defers (.feChartRun r 0) r.slot s s' .chartStop ∧
      s' = { s with fe := { s.fe with st := .stopping } })) ∧
  (∀ (r : Req) (tag : Nat) (entry : List Byte) (s : State), mailboxOpen s r.slot = true → 1 ≤ tag → tag ≤ 255 →
    chartFault (chartOf entry) = none → s.fe.queue.length < 4 → s.fe.run ≠ none ∨ s.fe.calSince ≠ none →
    Defers (.feInject r tag entry) r.slot s { s with fe := { s.fe with
      queue := s.fe.queue ++ [⟨tag, r.slot, chartOf entry, s.fe.calSince.isSome⟩] } } (.inject r.slot)) ∧
  (∀ (volts : List Rat) (x : FeRun) (s : State), s.fe.run = some x → x.opened = false → x.codes.length < x.entry.times →
    x.startClk + tdelay x.entry + (x.outs + 1) * tconv x.entry ≤ nowClk s → ∃ t, exec (.feConversion volts) s = .next t ∧
      (x.outs < 2 → t.fe.run = some { x with outs := x.outs + 1 } ∧ getP t 7 0 fDISCARDED = inc32 (getP s 7 0 fDISCARDED)) ∧
      (2 ≤ x.outs → x.sub = .main → t.fe.run = some { x with
        outs := x.outs + 1
        codes := x.codes ++ [feCode s x.entry (feRaw (connOf x.entry .main) volts)]
        ovr := x.ovr || feOver (feCode s x.entry (feRaw (connOf x.entry .main) volts)) })) ∧
  (∀ (x : FeRun) (n : Nat) (s : State), s.fe.run = some x → x.sub = .main → x.codes.length = x.entry.times → x.opened = false →
    x.task = .entry n → n < 32 → x.entry.kind = 0 → s.fe.queue = [] → s.fe.calDue = false → s.fe.calSince = none → s.fe.st = .stopped →
    ∃ t, exec .feEntryResult s = .next t ∧ t.fe.run = none ∧
      getP t 7 n fRESULT_VALUE = roundQ (feVolts x.entry (meanCode x) * 1000000000) ∧
      getP t 7 n fRESULT_CODE = roundQ (meanCode x)) ∧
  (∀ (x : FeRun) (n : Nat) (short : Bool) (s : State), s.fe.run = some x → x.task = .entry n → n < 32 → x.entry.use.testBit 0 = true →
    x.entry.excKind = 2 ∨ (x.entry.excKind = 1 ∧ short = false) → s.fe.queue = [] → s.fe.calDue = false → s.fe.calSince = none →
    s.fe.st = .stopped → ∃ t, exec (.excMonitorTrip short) s = .next t ∧ t.fe.run = none ∧ getP t 7 n fRESULT_VALUE = 0x80000000 ∧
      (getP t 7 n fRESULT_FLAGS).toNat.testBit 0 = !short ∧ (getP t 7 n fRESULT_FLAGS).toNat.testBit 1 = short ∧
      ∃ y ∈ t.col.detected, y.src = (if short then 97 else 96) ∧ y.ins = n) ∧
  (∀ (failed q : Nat) (ofs refs : List Rat) (cur vol : Rat) (s : State), s.fe.calSince = some q → q + 15000000 ≤ nowClk s →
    s.fe.run = none → s.fe.queue = [] → s.fe.calDue = false → s.fe.st = .stopped → ∃ t,
      exec (.feSelfcalDone failed ofs refs cur vol) s = .next t ∧ t.fe.calSince = none ∧
      (failed = 0 → (∀ g, g < 8 → feRefCode ofs refs g ≠ 0) → t.fe.factors = feMeasured ofs refs cur vol ∧ t.fe.calState = 1 ∧ t.fe.passed = true ∧
        (srcRec t 100).live = false) ∧
      (failed = 15 → t.fe.factors = s.fe.factors ∧ t.fe.calState = 2 ∧
        t.col.detected = s.col.detected ++ [{ raiseBlank 100 with d0 := 15 }]))

/-- 11 R256 to R259: loop outputs. The checks of LOOP_CFG run on the state in which the request is accepted. -/
def Obligations.LoopOutputs : Prop :=
  (∀ (r : Req) (n : Nat) (s : State), mailboxOpen s r.slot = true → n ≤ 3 →
    slotWaiting (accept s r 0x0704) (.loopRelease n) = none → loopFault (accept s r 0x0704) n = none →
    ((loopOf s n).st = .off → lpPlan s n fLOOP_MODE ≠ 0 → ∃ t, exec (.feLoopCfg r n) s = .next t ∧ answered t r.slot okBare ∧
      (loopOf t n).st = .faultLevel ∧ (∀ i v, 0x40 ≤ i → i < 0x80 → i ≠ fLOOP_SET → stagedOf s (objId 7 n i) = some v →
        getP t 7 n i = v ∧ stagedOf t (objId 7 n i) = none) ∧ ∀ m, m < 4 → m ≠ n → (loopOf t m).st = (loopOf s m).st) ∧
    ((loopOf s n).st = .normal ∨ (loopOf s n).st = .faultLevel → lpPlan s n fLOOP_MODE = 0 → ∃ t,
      exec (.feLoopCfg r n) s = .next t ∧ answered t r.slot okBare ∧ (loopOf t n).st = .releasing ∧
      (loopOf t n).releaseAt = nowClk s + 125000000 ∧ (stagedOf s (objId 7 n fLOOP_SET) = none →
        getP t 7 n fLOOP_SET = loopFaultLevel s n false))) ∧
  (∀ (n : Nat) (row : ZRow) (s : State), n ≤ 3 → loopOn s n = true → (zoneOf s (loopZone s n)).last = some row →
    (loopOf s n).label ≠ some row.label → (∀ q, (loopOf s n).updated = some q → q + 1250000 ≤ nowClk s) →
    (∀ v, loopValue s n row = some v → loopBlocked s n = false → ∃ t, exec (.loopUpdate n) s = .next t ∧
      t = { s with loops := t.loops, params := t.params } ∧ itemsBut [objId 7 n fLOOP_SET] s t ∧ (loopOf t n).st = .normal ∧
      getP t 7 n fLOOP_SET = loopMap s n (loopX s n v) ∧ ∀ m, m ≠ n → loopOf t m = loopOf s m) ∧
    (loopValue s n row = none → ∃ t, exec (.loopUpdate n) s = .next t ∧ t = { s with loops := t.loops } ∧
      loopOf t n = { loopOf s n with label := some row.label, updated := some (nowClk s) })) ∧
  (∀ (mv : Nat) (s : State), s.loops.refxAt ≤ nowClk s → ∃ t, exec (.refxMeasure mv) s = .next t ∧ getP t 7 0 fREFX_MEAS = mv ∧
    t.loops.refxAt = s.loops.refxAt + 1250000 ∧
    ∀ n, n ≤ 3 → loopOn s n = true → 2 ≤ loopMode s n →
      (mv < 1000 ∨ 3000 < mv → (loopOf t n).st = .faultLevel) ∧
      (1000 ≤ mv → mv ≤ 3000 → (loopOf s n).st = .normal → (loopOf t n).st = .normal ∧
        getP t 7 n fLOOP_SET = loopMap t n (loopOf s n).x)) ∧
  (∀ (n : Nat) (s : State), n ≤ 3 →
    ((loopOf s n).st = .normal → loopStale s n = true → ∃ t, exec (.loopHoldExpiry n) s = .next t ∧ (loopOf t n).st = .faultLevel ∧
      getP t 7 n fLOOP_SET = loopFaultLevel s n (decide (lp s n fLOOP_FAIL_DIR = 1)) ∧
      itemsBut [objId 7 n fLOOP_SET] s t ∧ t = { s with loops := t.loops, params := t.params }) ∧
    ((loopOf s n).st ≠ .normal ∨ loopStale s n = false → exec (.loopHoldExpiry n) s = .next s)) ∧
  (∀ (n : Nat) (v : Int) (s : State), n ≤ 3 → loopOn s n = true → s.pair.role ≠ .standby → s.col.snags = [] →
    senseBand s n < (v - lp s n fLOOP_SET).natAbs → ∃ t, exec (.loopSenseMismatch n v) s = .next t ∧
      (loopOf t n).sense = some (decide (lp s n fLOOP_SET < v)) ∧ (loopOf t n).agreeAt = none ∧ getP t 7 n fLOOP_MEAS = v ∧
      t.col.detected = if (loopOf s n).sense = some (decide (lp s n fLOOP_SET < v)) ∧ (loopOf s n).agreeAt = none then s.col.detected
        else s.col.detected ++ [{ raiseBlank 101 with ins := n }])

/-- 12 R263 to R276: the source drive. The checks of SRC_CONFIG run on the state in which the request is accepted. -/
def Obligations.SourceDrive : Prop :=
  (∀ (r : Req) (c : Nat) (s : State), mailboxOpen s r.slot = true → c < 8 → (sdOf s c).hold = .none →
    sdParamFault (accept s r 0x0801) c = none → sdStateFault (accept s r 0x0801) c = none →
    (∃ t, exec (.srcConfig r c) s = .next t ∧ answered t r.slot okBare ∧ ∀ i v, i < 65536 → stagedOf s (objId 8 c i) = some v →
      getP t 8 c i = v ∧ stagedOf t (objId 8 c i) = none) ∧
    ((∀ n, 103 ≤ n → n ≤ 105 → isLive s n = false ∧ raisePending s n = false) →
      ∃ s', Answers (.srcConfig r c) r.slot s s' okBare ∧ s' = { s with params := s'.params, staged := s'.staged, src := s'.src } ∧
      ∀ o, objDom o ≠ 8 ∨ objInst o ≠ c → kget paramReset s'.params o = kget paramReset s.params o ∧ stagedOf s' o = stagedOf s o)) ∧
  (∀ (r : Req) (p : Nat) (s : State), mailboxOpen s r.slot = true → p ≤ 1 → planP s 8 (0x40 + p) dGATE_PROOF_SD = 0xFF →
    ∃ t q, exec (.srcConfig r (0x40 + p)) s = .next t ∧ answered t r.slot (okWith q) ∧ q.length = 1 ∧
      ∀ i v, i < 65536 → i ≠ dGATE_DIAG → stagedOf s (objId 8 (0x40 + p) i) = some v →
        getP t 8 (0x40 + p) i = v ∧ stagedOf t (objId 8 (0x40 + p) i) = none) ∧
  (∀ (r : Req) (c : Nat) (s : State), mailboxOpen s r.slot = true → c < 8 → (sdOf s c).hold = .none →
    ((sdOf s c).st = .off → Answers (.srcDisable r c) r.slot s s okBare) ∧
    ((sdOf s c).st = .off → sdKind s c ≠ 0 → ∃ s', Answers (.srcEnable r c) r.slot s s' okBare ∧ s' = { s with src := s'.src } ∧
      (sdOf s' c).st = .on ∧ (sdOf s' c).p = 0 ∧ (sdOf s' c).low = false ∧ (sdOf s' c).periodAt = nowClk s ∧
      (sdOf s' c).t = sdTarget s' c ∧ ∀ d, d ≠ c → sdOf s' d = sdOf s d) ∧
    ((sdOf s c).st = .on → ∃ s', Defers (.srcDisable r c) r.slot s s' (.srcDisable c) ∧
      s' = { s with src := s'.src, col := { s.col with sources := s'.col.sources } } ∧ sourcesBut 106 s s' ∧
      sdOf s' c = { sdOf s c with
        st := .stopping, t := sdP s c dSD_SAFE, satSince := none, satTold := false
        satLeft := if (sdOf s c).satTold then nowClk s else (sdOf s c).satLeft } ∧
      ∀ d, d ≠ c → sdOf s' d = sdOf s d) ∧
    ((sdOf s c).st = .tripped → ∃ s', Answers (.srcDisable r c) r.slot s s' okBare ∧
      s' = { s with src := s'.src, col := { s.col with sources := s'.col.sources } } ∧ sourcesBut 106 s s' ∧
      (sdOf s' c).st = .off ∧ (sdOf s' c).low = true ∧ ∀ d, d ≠ c → sdOf s' d = sdOf s d)) ∧
  (∀ (r : Req) (n : Nat) (bytes : List Byte) (s : State), mailboxOpen s r.slot = true → n ≤ 7 → 2 ≤ fieldAt bytes 5 1 →
    fieldAt bytes 5 1 ≤ 16 → fieldAt bytes 4 1 ≤ 31 →
    (firstFalling 0 (tablePoints (fieldAt bytes 5 1) (bytes.drop 8)) = none → Answers (.srcCompTable r n bytes) r.slot s
      { s with src := { s.src with tables := kput (fun _ => none) s.src.tables n (some ⟨fieldAt bytes 4 1, fieldAt bytes 0 4,
        tablePoints (fieldAt bytes 5 1) (bytes.drop 8)⟩) } } okBare) ∧
    (∀ i, firstFalling 0 (tablePoints (fieldAt bytes 5 1) (bytes.drop 8)) = some i →
      Answers (.srcCompTable r n bytes) r.slot s s (badFieldOf (128 + 64 * i) n))) ∧
  (∀ (c : Nat) (s : State), c < 8 → (sdOf s c).st = .on → (sdWatched s c).isSome = true → (sdOf s c).lost = false →
    (sdOf s c).goodAt + natP s 8 c dSD_FB_HOLD * 1250000 ≤ nowClk s → ∃ t,
      exec (.sdFbHoldExpiry c) s = .next t ∧ (sdOf t c).lost = true ∧ (sdOf t c).st = .on ∧
      (sdRegulates s c = true → proofPort s c = none → (sdOf t c).t = sdP s c dSD_SAFE) ∧
      t = { s with src := t.src, col := (detect s { raiseBlank 103 with ins := c }).col } ∧
      ∀ d, d ≠ c → sdOf t d = sdOf s d) ∧
  (∀ (c : Nat) (a : Nat × Bool) (s : State), (sdOf s c).satSince = some a →
    (a.1 + 12500000000 ≤ nowClk s → (sdOf s c).satTold = false → ∃ t, exec (.sdSaturationTimer c) s = .next t ∧
      t = { s with src := t.src, col := { s.col with sources := t.col.sources, detected := t.col.detected } } ∧ sourcesBut 106 s t ∧
      t.col.detected = s.col.detected ++ [{ raiseBlank 106 with ins := c }] ∧
      sdOf t c = { sdOf s c with satTold := true, satMark := true } ∧ ∀ d, d ≠ c → sdOf t d = sdOf s d) ∧
    (nowClk s < a.1 + 12500000000 ∨ (sdOf s c).satTold = true → exec (.sdSaturationTimer c) s = .next s)) ∧
  (∀ (p : Nat) (samples : List Nat) (g : GateTest) (gs : List GateTest) (s : State), p ≤ 1 →
    (kget gateBlank s.src.gates p).tests = g :: gs → g.endClk ≤ nowClk s →
    ∃ t, exec (.gateTestDecision p samples) s = .next t ∧ (kget gateBlank t.src.gates p).tests = gs ∧
      getP t 8 (0x40 + p) dGATE_TESTS = inc32 (getP s 8 (0x40 + p) dGATE_TESTS) ∧
      (24 ≤ gateAbove s p g samples → (kget gateBlank t.src.gates p).passes = (kget gateBlank s.src.gates p).passes + 1 ∧
        getP t 8 (0x40 + p) dGATE_FAILS = getP s 8 (0x40 + p) dGATE_FAILS ∧
        ((kget gateBlank s.src.gates p).passes < 63 → t.col = s.col)) ∧
      (gateAbove s p g samples < 24 → (kget gateBlank t.src.gates p).passes = 0 ∧
        getP t 8 (0x40 + p) dGATE_FAILS = inc32 (getP s 8 (0x40 + p) dGATE_FAILS) ∧
        t.col.detected = s.col.detected ++ [{ raiseBlank (107 + p) with
          port := p, ins := if g.proof then 0xFFFF else g.ply, d0 := g.shot }]))

/-- 13 R282 to R294: DRAM. The bandwidth check of MEM_FREQ runs on the state in which the request is accepted. -/
def Obligations.MemoryController : Prop :=
  (∀ (r : Req) (fsp : Nat) (s : State), mailboxOpen s r.slot = true → fsp ≤ 1 →
    (memTraining s = true → s.mem.freqWaits = none → Defers (.memFreq r fsp) r.slot s
      { s with mem := { s.mem with freqWaits := some fsp, freqReplaced := false } } .memFreq) ∧
    (memTraining s = false → s.boot.dramTrained = true → s.mem.change = none →
      (natP s 0x10 0 mFSP_NOW = fsp → Answers (.memFreq r fsp) r.slot s s okBare) ∧
      (natP s 0x10 0 mFSP_NOW ≠ fsp → fsp = 0 ∨ fspOver (accept s r 0x1001) 1 = false → ∃ s', Answers (.memFreq r fsp) r.slot s s' okBare ∧
        s' = { s with mem := s'.mem } ∧ s'.mem.change = some (fsp, nowClk s)) ∧
      (natP s 0x10 0 mFSP_NOW ≠ 1 → fsp = 1 → fspOver (accept s r 0x1001) 1 = true →
        Answers (.memFreq r fsp) r.slot s s (noResource 0x1001 0)))) ∧
  (∀ (r : Req) (s : State), mailboxOpen s r.slot = true → slotWaiting s .memTrain = none → slotWaiting s .memPpr = none →
    (memInUse s = true → Answers (.memTrain r) r.slot s s (badState 0x1003 0)) ∧
    (memInUse s = false → ∃ s', Defers (.memTrain r) r.slot s s' .memTrain ∧ s' = { s with mem := s'.mem } ∧
      s'.mem.training = some (nowClk s) ∧ ∀ c, c < 4 → (chanOf s' c).asleep = false ∧ ∀ rank bank, (bankOf s' c rank bank).row = none)) ∧
  (∀ (failed q : Nat) (s : State), s.mem.training = some q → s.mem.freqWaits = none → ∃ t, exec (.memTrainDone failed) s = .next t ∧
    t.mem.training = none ∧ (failed = 0 → (∀ i, i < 8 → (devOf t (i / 2) i).drift = 0) ∧ (srcRec t 64).live = false) ∧
    (∀ c, c < 4 → failed.testBit c = true → ∃ x ∈ t.col.detected, x.src = 64 ∧ x.ins = c)) ∧
  (∀ (r : Req) (ch rank bank row : Nat) (s : State), mailboxOpen s r.slot = true → ch ≤ 3 → rank < max 1 (memRanks s) → bank ≤ 15 →
    slotWaiting s .memPpr = none →
    (pprSpent s ch rank bank = false → ∃ t, exec (.memPpr r ch rank bank 0 row) s = .next t ∧
      ((answered t r.slot okBare ∧ repairHas t (.dramRow ch rank bank row 0) = true) ∨
        (answered t r.slot (statusOnly stTimeout) ∧ t.col.detected = s.col.detected ++ [{ raiseBlank 75 with ins := ch, d0 := row }]))) ∧
    (pprSpent s ch rank bank = false → memInUse s = false → ∃ s', Defers (.memPpr r ch rank bank 1 row) r.slot s s' .memPpr ∧
      s' = { s with mem := s'.mem } ∧ s'.mem.hard = some ⟨ch, rank, bank, row⟩) ∧
    (pprSpent s ch rank bank = true → Answers (.memPpr r ch rank bank 0 row) r.slot s s (noResource 0x1004 0))) ∧
  (∀ (h : HardRepair) (s : State), s.mem.hard = some h →
    (∃ t, exec (.pprHardDone true) s = .next t ∧ t.mem.hard = none ∧ repairHas t (.dramRow h.ch h.rank h.bank h.row 1) = true ∧
      kget (fun _ => 0) t.mem.hardRepairs (repairKey h.ch h.rank h.bank) =
        kget (fun _ => 0) s.mem.hardRepairs (repairKey h.ch h.rank h.bank) + 1 ∧ (srcRec t 75).live = false) ∧
    (∃ t, exec (.pprHardDone false) s = .next t ∧ t.mem = { s.mem with hard := none } ∧
      t.col.detected = s.col.detected ++ [{ raiseBlank 75 with ins := h.ch, d0 := h.row }])) ∧
  (∀ (f q : Nat) (s : State), s.mem.change = some (f, q) → s.mem.freqWaits = none → ∃ t, exec .fspChangeComplete s = .next t ∧
    t = { s with params := t.params, mem := { s.mem with change := none } } ∧ getP t 0x10 0 mFSP_NOW = f ∧
    itemsBut [objId 0x10 0 mFSP_NOW] s t) ∧
  (∀ (ch : Nat) (s : State), ch ≤ 3 → s.col.snags = [] →
    (∀ r, memServes s = true → (chanOf s ch).asleep = false → nextReq s ch (chanOf s ch).queue = some r → ∃ t,
      exec (.dramAccess ch []) s = .next t ∧ (chanOf t ch).queue = dropOne r (chanOf s ch).queue ∧
      (chanOf t ch).hits = (if rowHit s ch r then (chanOf s ch).hits + 1 else 0) ∧
      (bankOf t ch r.rank r.bank).used = nowClk s ∧ ∀ d, d ≠ ch → chanOf t d = chanOf s d) ∧
    (∀ q, memServes s = false → q.addr / 256 % 4 = ch → exec (.dramAccess ch [q]) s = .next (modChan s ch (fun x => { x with
      queue := x.queue ++ [⟨q.port, (dramPlace s q.addr).1, (dramPlace s q.addr).2.1, (dramPlace s q.addr).2.2, nowClk s⟩]
      lastReq := nowClk s })))) ∧
  (∀ (ch rank bank : Nat) (s : State), getP s 0x10 0 mPAGE_POLICY = 0 → (bankOf s ch rank bank).row ≠ none →
    (bankOf s ch rank bank).used + 250 ≤ nowClk s → ∃ t, exec (.rowIdleClose ch rank bank) s = .next t ∧ t = { s with mem := t.mem } ∧
      bankOf t ch rank bank = { bankOf s ch rank bank with row := none }) ∧
  (∀ s : State, s.mem.actAt ≤ nowClk s → ∃ t, exec .actCountReset s = .next t ∧ t = { s with mem := t.mem } ∧
    t.mem.actAt = s.mem.actAt + 40000000 ∧
    ∀ c rank bank, c < 4 → rank < 2 → bank < 16 → bankOf t c rank bank = { bankOf s c rank bank with acts := [] }) ∧
  (∀ (ch rank bank row : Nat) (rest : List Nat) (s : State), (bankOf s ch rank bank).hot = row :: rest → ∃ t,
    exec (.neighbourRefresh ch rank bank) s = .next t ∧ t.col.detected = s.col.detected ++ [{ raiseBlank 73 with ins := ch, d0 := row }] ∧
    getP t 0x10 0 mNEIGHBOUR_REFRESHES = inc32 (getP s 0x10 0 mNEIGHBOUR_REFRESHES) ∧ quietFrom 73 40000000 s t ∧
    (bankOf t ch rank bank).row = none ∧ (s.mem.rfm = true → (bankOf t ch rank bank).hot = rest ∧
      ∀ q ∈ (bankOf t ch rank bank).acts, q.1 = row → q.2 = 0)) ∧
  (∀ (ch rank bank : Nat) (s : State), ch ≤ 3 → (chanOf s ch).asleep = false → s.boot.dramTrained = true → memTraining s = false →
    s.col.snags = [] →
    (burstWaits s ch (rank % 2) (some (bank % 16)) = false → refreshDebt s ch rank = 0 → ∃ t, exec (.refreshDue ch rank bank) s = .next t ∧
      t = { s with mem := t.mem } ∧ (bankOf t ch rank bank).row = none ∧ (bankOf t ch rank bank).owed = 0) ∧
    (burstWaits s ch (rank % 2) (some (bank % 16)) = true →
      (refreshDebt s ch rank < 7 → ∃ t, exec (.refreshDue ch rank bank) s = .next t ∧
        bankOf t ch rank bank = { bankOf s ch rank bank with owed := (bankOf s ch rank bank).owed + 1 }) ∧
      (7 ≤ (bankOf s ch rank bank).owed → ∃ t, exec (.refreshDue ch rank bank) s = .next t ∧
        t.col.detected = s.col.detected ++ [{ raiseBlank 70 with ins := ch, d0 := rank }] ∧
        getP t 0x10 0 mREFRESH_FORCED = inc32 (getP s 0x10 0 mREFRESH_FORCED) ∧
        ∀ b, b < 16 → (bankOf t ch rank b).owed = 0 ∧ (bankOf t ch rank b).row = none))) ∧
  (∀ (rates : List (Nat × Nat)) (s : State), s.mem.mr4At ≤ nowClk s → ∃ t, exec (.mr4Poll rates) s = .next t ∧
    t.mem.mr4At = s.mem.mr4At + 20000000 ∧ (∀ i, i < 8 → i < rates.length → (devOf t (i / 2) i).rate = (nth (0, 4) rates i).2) ∧
    (8 ≤ rates.length → (∀ q ∈ rates, q.2 = 4) → (srcRec t 72).live = false) ∧
    ∀ i, i < 8 → i < rates.length → 16 ≤ (nth (0, 4) rates i).2 → (devOf s (i / 2) i).hot = false →
      { raiseBlank 72 with ins := i / 2, d0 := i % 2 } ∈ t.col.detected) ∧
  (∀ (ch rank : Nat) (drift : Rat) (s : State), ch ≤ 3 → (chanOf s ch).asleep = false → (devOf s ch rank).checkAt ≤ nowClk s → ∃ t,
    exec (.wckDriftCheck ch rank drift) s = .next t ∧ devOf t ch rank = { devOf s ch rank with
      drift := drift, checkAt := nowClk s + natP s 0x10 0 mRETRAIN_PERIOD * 1250000 } ∧
    (1 / 4 < drift ∨ drift < -(1 / 4) →
      t.col.detected = s.col.detected ++ [{ raiseBlank 71 with ins := ch, d0 := rank % 2 }])) ∧
  (∀ (ch : Nat) (s : State),
    (ch < 4 → memServes s = true → (chanOf s ch).asleep = false → natP s 0x10 0 mSR_IDLE ≠ 0 → (∀ h, s.mem.hard = some h → h.ch ≠ ch) →
      (chanOf s ch).queue = [] → (chanOf s ch).lastReq + natP s 0x10 0 mSR_IDLE * 1250 ≤ nowClk s →
      exec (.selfRefreshEnter ch) s = .next (modChan (prechargeAll s ch) ch (fun x => { x with asleep := true }))) ∧
    ((chanOf s ch).asleep = true → (chanOf s ch).queue ≠ [] →
      exec (.selfRefreshExit ch) s = .next (modChan s ch (fun x => { x with asleep := false }))) ∧
    ((chanOf s ch).asleep = false ∨ (chanOf s ch).queue = [] → exec (.selfRefreshExit ch) s = .next s)) ∧
  (∀ (port unit : Nat) (s : State),
    (∃ t, exec (.linkEccError port unit true) s = .next t ∧
      t = { s with params := t.params, col := { s.col with
        detected := s.col.detected ++ [{ raiseBlank 65 with ins := port }], sources := t.col.sources } } ∧
      getP t 0x10 0 mLINK_ECC_CORRECTED = inc32 (getP s 0x10 0 mLINK_ECC_CORRECTED) ∧ quietFrom 65 1250000000 s t) ∧
    (port ≠ 3 → port ≠ 4 → ∃ t, exec (.linkEccError port unit false) s = .next t ∧
      t = { s with col := { s.col with detected := s.col.detected ++ [{ raiseBlank 66 with ins := port }], sources := t.col.sources } } ∧
      quietFrom 66 1250000000 s t)) ∧
  (∀ (ch rank bank row count : Nat) (s : State),
    (16 < count → ∃ t, exec (.ecsCountCheck ch rank bank row count) s = .next t ∧ t = { s with
        mem := { s.mem with ecs := t.mem.ecs }
        col := (detect s { raiseBlank 74 with ins := ch, d0 := row, d1 := rank * 16 + bank }).col } ∧
      ∀ r, r ∈ t.mem.ecs ↔ r = ⟨ch, rank, bank, row⟩ ∨ r ∈ s.mem.ecs) ∧
    (count ≤ 16 → exec (.ecsCountCheck ch rank bank row count) s = .next s)) ∧
  (∀ (w : Nat) (units : List Nat) (s : State),
    ((skOf s w).cap ≠ none → ∃ t, exec (.writeBufferOverflow true ⟨w, units⟩) s = .next t ∧
      skOf t w = { skOf s w with gap := true, lost := (skOf s w).lost ++ units } ∧ (∀ k, k ≠ w → skOf t k = skOf s k) ∧
      t.col.detected = s.col.detected ++ [{ raiseBlank 68 with ins := w }]) ∧
    (∃ t, exec (.writeBufferOverflow false ⟨w, units⟩) s = .next t ∧ t.col.detected = s.col.detected ++ [{ raiseBlank 69 with port := w }] ∧
      quietFrom 69 1250000000 s t))

/-- 14 R303, R305: the ring registers that act. -/
def Obligations.RingsRun : Prop :=
  (∀ (n : Nat) (s : State), s.link.endpointUp = true → n < 136 → (ringOf s n).enable = false → (ringOf s n).st ≠ .stopping →
    s.boot.st = .ready → ∃ t, exec (.ringEnable n) s = .next t ∧
      t = { s with link := { s.link with rings := t.link.rings, hostMem := t.link.hostMem }, col := t.col, params := t.params } ∧
      ((ringOf s n).faults = [] → t.col = s.col ∧ t.params = s.params) ∧ (∀ m, m ≠ n → ringOf t m = ringOf s m) ∧
      ringOf t n = if sizeOk n (ringOf s n).size then { ringOf s n with
          enable := true, st := .running, error := 0, prod := 0, cons := 0, dropped := 0, seq := 0, unannounced := 0, modAt := none
          ends := [], faults := [] }
        else { ringOf s n with enable := true, st := .error, error := 3, faults := [] }) ∧
  (∀ (n : Nat) (s : State), s.link.endpointUp = true → n < 136 → (ringOf s n).enable = true → (ringOf s n).st = .running →
    ∃ t, exec (.ringDisable n) s = .next t ∧ t = { s with link := { s.link with rings := t.link.rings, hostMem := t.link.hostMem } } ∧
      (ringOf t n = if ringWorks s n then { ringOf s n with enable := false, st := .stopping }
        else { ringOf s n with enable := false, st := .disabled, error := 0, unannounced := 0, modAt := none }) ∧
      (∀ m, m ≠ n → ringOf t m = ringOf s m)) ∧
  (∀ (n v : Nat) (pre post : List Nat) (s : State), s.link.endpointUp = true → n < 132 → (ringOf s n).st = .running →
    (ringOf s n).ends = pre ++ v :: post → v ∉ pre → v ≠ (ringOf s n).cons →
    ∃ t, exec (.c2hConsWrite n v) s = .next t ∧ t = { s with link := { s.link with rings := t.link.rings } } ∧
      ringOf t n = { ringOf s n with cons := v, ends := post } ∧ (∀ m, m ≠ n → ringOf t m = ringOf s m)) ∧
  (∀ (n v : Nat) (s : State), s.link.endpointUp = true → n < 132 → (ringOf s n).st = .running → v ≠ (ringOf s n).cons →
    v ∉ (ringOf s n).ends → ∃ t, exec (.c2hConsWrite n v) s = .next t ∧
      ringOf t n = { ringOf s n with st := .error, error := 1 } ∧ t.col.detected = s.col.detected ++ [raiseBlank 81] ∧
      quietFrom 81 1250000000 s t) ∧
  (∀ (h v : Nat) (s : State), s.link.endpointUp = true → h < 4 → (ringOf s (132 + h)).st = .running →
    ∃ t, exec (.h2cProdWrite h v) s = .next t ∧ t = { s with link := { s.link with rings := t.link.rings } } ∧
      (∀ m, m ≠ 132 + h → ringOf t m = ringOf s m) ∧
      (if ringEntries (ringOf s (132 + h)) < (v % 2 ^ 32 + 2 ^ 32 - (ringOf s (132 + h)).cons) % 2 ^ 32
       then ringOf t (132 + h) = { ringOf s (132 + h) with st := .error, error := 2 }
       else ringOf t (132 + h) = { ringOf s (132 + h) with prod := v % 2 ^ 32 }))

/-- 14 R302, R304: where a frame's bytes go. -/
def Obligations.FrameWriteFrame : Prop :=
  ∀ (n : Nat) (q : QFrame) (qs : List QFrame) (s : State), n < 128 → (ringOf s n).queue = q :: qs → q.last = .none →
    withheld s n = false → ringTakes s n (frameSize q.frame) = true → 16 ≤ (ringOf s n).size →
    (ringOf s n).prod < ringDataLen (ringOf s n) →
    ∃ t, exec (.c2hFrameWrite n) s = .next t ∧ t.dram = s.dram ∧
      (ringOf t n).prod = ((ringOf s n).prod + frameSize q.frame) % ringDataLen (ringOf s n) ∧
      (ringOf t n).seq = ((ringOf s n).seq + 1) % 2 ^ 32 ∧ (ringOf t n).queue = qs ∧
      (∀ m, m ≠ n → ringOf t m = ringOf s m) ∧
      (∀ a, a < (ringOf s n).base ∨ (ringOf s n).base + ringDataLen (ringOf s n) + 64 ≤ a →
        memGet t.link.hostMem a = memGet s.link.hostMem a)

/-- 14 R306, R307, R449. -/
def Obligations.FramesWait : Prop :=
  (∀ (q : QFrame) (qs : List QFrame) (s : State), dropFirst (mayDrop s 131 (ringOf s 131)) (ringOf s 131).queue = some (q, qs) →
    ∃ t, exec (.ringHoldExpiry 131) s = .next t ∧
      ringOf t 131 = { ringOf s 131 with queue := qs, gapNext := true
                                         dropped := ((ringOf s 131).dropped + q.frame.sampleCount) % 2 ^ 32 } ∧
      (∀ m, m ≠ 131 → ringOf t m = ringOf s m) ∧ t.col.detected = s.col.detected ++ [raiseBlank 87] ∧ quietFrom 87 1250000000 s t) ∧
  (∀ (key : Nat) (s : State), (hkGet s key).recs ≠ [] → (hkGet s key).since + 12500000 ≤ nowClk s →
    ∃ t q, exec (.housekeepingFrameClose key) s = .next t ∧ t = { s with link := t.link } ∧ (hkGet t key) = hkNone ∧
      (ringOf t 131).queue = (ringOf s 131).queue ++ [q] ∧ q.frame.payload = (hkGet s key).recs.flatten ∧
      q.frame.sampleCount = (hkGet s key).recs.length) ∧
  (∀ (n q : Nat) (s : State), (ringOf s n).modAt = some q → q ≤ nowClk s → ∃ t, exec (.irqModTimer n) s = .next t ∧
    t = { s with link := { s.link with rings := t.link.rings, pba := t.link.pba, sent := t.link.sent } } ∧
    ringOf t n = { ringOf s n with unannounced := 0, modAt := none } ∧ (∀ m, m ≠ n → ringOf t m = ringOf s m) ∧
    (s.link.msixOn = true → (ringOf s n).vector < 136 → vectorMasked s (ringOf s n).vector = true →
      t.link.pba.testBit (ringOf s n).vector = true))

/-- 14 R298 to R300, R306, R311. -/
def Obligations.BarAccesses : Prop :=
  (∀ s : State, s.link.endpointUp = true → exec .bootStateRead s = .next { s with link := { s.link with
      answer := .data (leBytes 4 (bootWord s)), inta := s.link.msixOn && s.link.inta } }) ∧
  (∀ (a n : Nat) (s : State), s.link.endpointUp = true → s.boot.trainSeen = true → memTraining s = false →
    exec (.bar4Read a n) s = .next { s with link := { s.link with answer := .data (memRead s.dram (a % 2 ^ 32) n) } }) ∧
  (∀ (a n : Nat) (s : State), s.link.endpointUp = true → s.boot.trainSeen = false ∨ memTraining s = true →
    ∃ t, exec (.bar4Read a n) s = .next t ∧ .completerAbort ∈ t.link.aer ∧
    t = { s with link := { s.link with answer := .completerAbort, aer := t.link.aer }
                 col := { s.col with detected := s.col.detected ++ [raiseBlank 81], sources := t.col.sources } } ∧
    quietFrom 81 1250000000 s t) ∧
  (∀ (a : Nat) (bs : List Byte) (s : State), s.link.endpointUp = true → s.boot.dramTrained = true →
    a + bs.length ≤ 0x04000000 → ∃ t, exec (.bar4Write a bs) s = .next t ∧ t = { s with dram := t.dram } ∧
      (∀ i (h : i < bs.length), memGet t.dram (a + i) = bs[i]) ∧
      (∀ b, b < a ∨ a + bs.length ≤ b → memGet t.dram b = memGet s.dram b)) ∧
  (∀ (a : Nat) (bs : List Byte) (s : State), s.link.endpointUp = true → 0x04000000 < a + bs.length ∨ s.boot.dramTrained = false →
    ∃ t, exec (.bar4Write a bs) s = .next t ∧ t.dram = s.dram ∧ t.link.answer = .unsupported ∧
      t.col.detected = s.col.detected ++ [raiseBlank 81]) ∧
  (∀ (v : Nat) (s : State), s.link.endpointUp = true → exec (.registerWrite (.bar0 0x54) v) s = .next { s with link := { s.link with
      faultVector := v % 2 ^ 32 / 256 % 256, mbxVector := v % 2 ^ 32 % 256 } }) ∧
  (∀ s : State, s.link.endpointUp = true → ∃ t, exec (.hostBadRequest .poisonedWrite) s = .next t ∧ .poisonedTlp ∈ t.link.aer ∧
    t = { s with link := { s.link with aer := t.link.aer }
                 col := { s.col with detected := s.col.detected ++ [raiseBlank 82], sources := t.col.sources } } ∧
    quietFrom 82 1250000000 s t)

/-- 14 R310, R312 to R314. -/
def Obligations.EndpointEvents : Prop :=
  (∀ s : State, s.link.perstLow = true → s.boot.porstLow = false → exec .perstNRelease s = .next { s with link := { s.link with
      perstLow := false, endpointUp := s.link.clkreqLow, mayTrain := s.link.clkreqLow } }) ∧
  (∀ (w v : Nat) (s : State), s.link.mayTrain = true → s.link.endpointUp = true → w = 1 ∨ w = 2 ∨ w = 4 → 1 ≤ v → v ≤ 4 →
    ∃ t, exec (.linkUp w v) s = .next t ∧ t = { s with
        link := { s.link with linkUp := true, width := w, speed := v }, col := t.col, params := t.params } ∧
      raiseBlank 86 ∈ t.col.detected ∧ (srcRec t 80).live = false ∧
      (isLive s 80 = false → raisePending s 80 = false → t.params = s.params ∧ t.col = (detect s (raiseBlank 86)).col)) ∧
  (∀ (k : EndpointReset) (s : State), s.link.endpointUp = true → s.boot.porstLow = false →
    ∃ t, exec (.endpointReset k) s = .next t ∧ (∀ n, (slotOf t n).phase = .free) ∧ t.staged = s.staged ∧
      (∀ n, (ringOf t n).st = .disabled ∧ (ringOf t n).enable = false) ∧
      t.link.msixOn = false ∧ t.link.faultVector = 0x82 ∧ t.link.mbxVector = 0x82 ∧
      (k ≠ .flr → t.link.linkUp = false ∧ raiseBlank 80 ∈ t.col.detected) ∧ (k = .perstN → t.link.perstLow = true)) ∧
  (∀ (n : Nat) (s : State), n < 132 → (ringOf s n).st = .running →
    (∃ t, exec (.dmaCompletionError n) s = .next t ∧ (ringOf t n).st = .error ∧ (ringOf t n).error = 4 ∧
      { raiseBlank 84 with ins := n } ∈ t.col.detected) ∧
    (∃ t, exec (.dmaCompletionTimeout n) s = .next t ∧ (ringOf t n).st = .error ∧ (ringOf t n).error = 5 ∧
      { raiseBlank 83 with ins := n } ∈ t.col.detected))

/-- 15 R332, R327, R329, R334: the commands that only read. -/
def Obligations.ReadsChangeNothing : Prop :=
  (∀ (r : Req) (s : State), mailboxOpen s r.slot = true →
    (∃ p, Answers (.sysIdent r) r.slot s s (okWith p) ∧ p.length = 44 ∧ fieldAt p 0 4 = 0x64200001 ∧ fieldAt p 17 1 = s.boot.unitId % 256) ∧
    (∃ p, Answers (.sysStatus r) r.slot s s (okWith p) ∧ p.length = 60 ∧ fieldAt p 0 4 = bootWord s % 2 ^ 32) ∧
    (∃ p, Answers (.timeGet r) r.slot s s (okWith p) ∧ p.length = 20 ∧ p.take 12 = tsBytes (nowTs s)) ∧
    (∃ p, Answers (.pairStatus r) r.slot s s (okWith p) ∧ p.length = 20 ∧ fieldAt p 0 1 = roleCode s.pair.role)) ∧
  (∀ (r : Req) (p : Nat) (s : State), mailboxOpen s r.slot = true →
    (p ≤ 1 → ∃ q, Answers (.portStatus r p) r.slot s s (okWith q) ∧ fieldAt q 0 1 = portStCode (portOf s p).st) ∧
    (1 < p → Answers (.portStatus r p) r.slot s s (badField 0))) ∧
  (∀ (r : Req) (z : Nat) (s : State), mailboxOpen s r.slot = true →
    (z ≤ 127 → ∃ q, Answers (.zoneStatus r z) r.slot s s (okWith q) ∧ q.length = 64) ∧
    (127 < z → Answers (.zoneStatus r z) r.slot s s (badField 0))) ∧
  (∀ (r : Req) (dom ins : Nat) (s : State), mailboxOpen s r.slot = true → calFault dom ins = none →
    ∃ q, Answers (.calStatus r dom ins) r.slot s s (okWith q) ∧ fieldAt q 0 1 = calStateOf s dom ins ∧
      fieldAt q 4 4 = (calGet s dom ins).count % 2 ^ 32) ∧
  (∀ (r : Req) (first count : Nat) (s : State), mailboxOpen s r.slot = true →
    (first ≤ 127 → 1 ≤ count → first + count ≤ 128 → Answers (.faultRead r first count) r.slot s s
      (okWith ((List.range count).map (fun i => sourceByte s (first + i))))) ∧
    (128 < first + count → Answers (.faultRead r first count) r.slot s s (badField 8))) ∧
  (∀ (r : Req) (source : Nat) (ids : List Nat) (s : State), mailboxOpen s r.slot = true → source ≤ 1 → ids ≠ [] →
    ids.length ≤ 54 → (∀ o ∈ ids, objExists o = true) → Answers (.paramGet r source ids) r.slot s s
      (okWith (leBytes 8 (stagedMask s 0 ids) ++ (ids.map (fun o => leBytesI 4
        (if objAccess o = 2 then 0
         else if source = 1 then (stagedOf s o).getD (readItem (accept s r 0x0201) o)
         else readItem (accept s r 0x0201) o))).flatten))) ∧
  (∀ (r : Req) (dom ins start : Nat) (s : State), mailboxOpen s r.slot = true → listItems dom ins 0 ≠ [] →
    (itemRowsOf dom).isEmpty = false → ∃ q, Answers (.paramList r dom ins start) r.slot s s (okWith q) ∧
      fieldAt q 2 2 = min 11 (listItems dom ins start).length ∧ q.length = 4 + 20 * min 11 (listItems dom ins start).length)

/-- 15 R325, R326, R328: the staged set. -/
def Obligations.StagedSet : Prop :=
  (∀ (r : Req) (ps : List (Nat × Int)) (s : State), mailboxOpen s r.slot = true → ps ≠ [] → ps.length ≤ 29 →
    (∀ p ∈ ps, pairOk p = true) → ∃ s', Answers (.paramSet r ps none) r.slot s s' okBare ∧ s' = { s with staged := s'.staged } ∧
      (∀ o, (∀ p ∈ ps, p.1 ≠ o) → stagedOf s' o = stagedOf s o) ∧
      (∀ o v pre post, ps = pre ++ (o, v) :: post → (∀ p ∈ post, p.1 ≠ o) → stagedOf s' o = some v)) ∧
  (∀ (r : Req) (pre post : List (Nat × Int)) (p : Nat × Int) (s : State), mailboxOpen s r.slot = true →
    (pre ++ p :: post).length ≤ 29 → (∀ q ∈ pre, pairOk q = true) → pairOk p = false →
    Answers (.paramSet r (pre ++ p :: post) none) r.slot s s (badParam p.1 pre.length)) ∧
  (∀ (r : Req) (dom ins : Nat) (s : State), mailboxOpen s r.slot = true → (itemRowsOf dom).isEmpty = false →
    ins = 0xFF ∨ listItems dom ins 0 ≠ [] → ∃ s', Answers (.paramCommit r dom ins 1) r.slot s s' okBare ∧
      s' = { s with staged := s'.staged } ∧
      (∀ o, objDom o = dom → ins = 0xFF ∨ objInst o = ins → stagedOf s' o = none) ∧
      (∀ o, ¬ (objDom o = dom ∧ (ins = 0xFF ∨ objInst o = ins)) → stagedOf s' o = stagedOf s o))

/-- 15 R325, R328: applying staged items, where no rule between items is checked. -/
def Obligations.CommitApplies : Prop :=
  (∀ (r : Req) (ins : Nat) (s : State), mailboxOpen s r.slot = true → ins < 128 →
    ∃ s', Answers (.paramCommit r 0x04 ins 0) r.slot s s' okBare ∧ s' = { s with params := s'.params, staged := s'.staged } ∧
      (∀ o v, detLiveItem ins o = true → stagedOf s o = some v → kget paramReset s'.params o = v ∧ stagedOf s' o = none) ∧
      (∀ o, detLiveItem ins o = false ∨ stagedOf s o = none →
        kget paramReset s'.params o = kget paramReset s.params o ∧ stagedOf s' o = stagedOf s o)) ∧
  (∀ (r : Req) (s : State), mailboxOpen s r.slot = true →
    ∃ s', Answers (.faultJournalCfg r) r.slot s s' okBare ∧ Answers (.paramCommit r 0x0D 0 0) r.slot s s' okBare ∧
      s' = { s with params := s'.params, staged := s'.staged } ∧
      (∀ o v, objDom o = 0x0D → stagedOf s o = some v → kget paramReset s'.params o = v ∧ stagedOf s' o = none) ∧
      (∀ o, objDom o ≠ 0x0D ∨ stagedOf s o = none →
        kget paramReset s'.params o = kget paramReset s.params o ∧ stagedOf s' o = stagedOf s o))

/-- 15 R319, R323, R324: what the mailbox answers before a command's own checks. -/
def Obligations.MailboxRefuses : Prop :=
  (∀ (r : Req) (op : Nat) (s : State), mailboxOpen s r.slot = true → Answers (.badOpcode r op) r.slot s s (statusOnly 0x02)) ∧
  (∀ (slot : Nat) (header : List Byte) (s : State), mailboxOpen s slot = true → ∃ t, exec (.malformedRequest slot header) s = .next t ∧
    answered t slot (statusOnly 0x0E) ∧ (slotOf t slot).tag = fieldAt header 12 4 ∧ (slotOf t slot).opcode = fieldAt header 0 2 ∧
    itemsBut [objId 1 0 xMBX_ACCEPTED, objId 1 0 xMBX_MALFORMED, objId 1 0 xMBX_VIOLATIONS] s t ∧
    getP t 1 0 xMBX_MALFORMED = inc32 (getP s 1 0 xMBX_MALFORMED) ∧
    getP t 1 0 xMBX_VIOLATIONS = inc32 (getP s 1 0 xMBX_VIOLATIONS) ∧
    t.col.detected = s.col.detected ++ [{ raiseBlank 89 with ins := slot }] ∧ quietFrom 89 1250000000 s t) ∧
  (∀ (slot : Nat) (s : State), slotBusy s slot = true → ∃ t, exec (.mbxDoorbellBusySlot slot) s = .next t ∧
    t = { s with params := t.params, col := { s.col with
      detected := s.col.detected ++ [{ raiseBlank 89 with ins := slot }], sources := t.col.sources } } ∧
    itemsBut [objId 1 0 xMBX_VIOLATIONS] s t ∧ getP t 1 0 xMBX_VIOLATIONS = inc32 (getP s 1 0 xMBX_VIOLATIONS) ∧
    quietFrom 89 1250000000 s t) ∧
  (∀ (r : Req) (s : State), s.boot.fwRuns = true → s.boot.st ≠ .ready → s.boot.st ≠ .recovery → s.boot.releaseHeld = false →
    slotBusy s r.slot = false → s.col.snags = [] → ∃ t, exec (.sysStatus r) s = .next t ∧ answered t r.slot (statusOnly 0x10)) ∧
  (∀ (r : Req) (num : Nat) (args : List Byte) (s : State), mailboxOpen s r.slot = true → s.boot.unlocked = false →
    Answers (.diagSnagSet r num args) r.slot s s (statusOnly 0x0C))

/-- 15 R335: the challenge, its one answer, and until when the unlock holds (PORST_N, SYS_RESET, FW_ACTIVATE). -/
def Obligations.DebugUnlock : Prop :=
  (∀ (r : Req) (sig : List Byte) (s : State), mailboxOpen s r.slot = true → ∃ c : List Byte, c.length = 48 ∧
    Answers (.diagUnlock r 0 sig) r.slot s
      { s with free := s.free + 1, boot := { s.boot with challenge := some c } } (okWith c)) ∧
  (∀ (r : Req) (sig c : List Byte) (s : State), mailboxOpen s r.slot = true → s.boot.challenge = some c →
    Answers (.diagUnlock r 1 sig) r.slot s { s with boot := { s.boot with
        challenge := none
        unlocked := s.boot.unlocked || Config.debugSigOk c (fitBytes 16 s.boot.serial) (fitBytes 96 sig) } }
      (if Config.debugSigOk c (fitBytes 16 s.boot.serial) (fitBytes 96 sig) then okBare else statusOnly 0x08)) ∧
  (∀ (r : Req) (sig : List Byte) (s : State), mailboxOpen s r.slot = true → s.boot.challenge = none →
    Answers (.diagUnlock r 1 sig) r.slot s s (statusOnly 0x08)) ∧
  (∀ s : State, ∃ t, exec .porstNAssert s = .next t ∧ t.boot.unlocked = false) ∧
  (∀ (r : Req) (s : State), mailboxOpen s r.slot = true → ∃ t, exec (.sysReset r 0x5253) s = .next t ∧ t.boot.unlocked = false) ∧
  (∀ (r : Req) (n : Nat) (s : State), mailboxOpen s r.slot = true → n ≤ 1 → s.boot.resetDue = false → deferredSlots s = [] →
    (fwSlotOf s n).verified = true → ∃ t, exec (.fwActivate r n) s = .next t ∧ t.boot.unlocked = false)

/-- 16 R339 to R353. That PL_LAST_CAUSE is 0 where Table 16-5 has no cause (a timeout, a failed EXIT, the peer back in DETECT) is
the model's choice (log 117). -/
def Obligations.PurlLink : Prop :=
  (∀ s : State, s.purl.st = .detect → s.purl.stepAt ≤ nowClk s → exec .plDetectStep s = .next { s with
    purl := { s.purl with stepAt := s.purl.stepAt + 125000, steps := s.purl.steps + 1 } }) ∧
  (∀ (lanes : Nat) (i : Instr) (s : State), i = .plPeerStep lanes ∨ i = .plActivityDetected lanes → s.purl.st = .detect →
    (popCount 4 lanes < 2 → exec i s = .next s) ∧
    (2 ≤ popCount 4 lanes → ∃ t, exec i s = .next t ∧ t = { s with purl := t.purl } ∧ t.purl.st = .train ∧ t.purl.since = nowClk s ∧
      t.purl.ctleStep = 0 ∧ (∀ l, (rxLane t l).passed = 0) ∧ t.purl.swing = natP s 0x0B 0 lPL_TX_SWING ∧
      t.purl.deemph = natP s 0x0B 0 lPL_TX_DEEMPH ∧ t.purl.ctleFix = natP s 0x0B 0 lPL_CTLE_FIX ∧
      t.purl.lanesMin = natP s 0x0B 0 lPL_LANES_MIN)) ∧
  (∀ (lanes : Nat) (s : State), s.purl.st = .active ∨ s.purl.st = .align → 2 ≤ popCount 4 lanes →
    ∃ t, exec (.plPeerStep lanes) s = .next t ∧ LinkLost s t 0) ∧
  (∀ (errors : List Nat) (s : State), s.purl.st = .train → s.purl.ctleStep < 16 →
    s.purl.since + 125000 + 250000 * (s.purl.ctleStep + 1) ≤ nowClk s → ∃ t, exec (.plCtleStep errors) s = .next t ∧
      t = { s with purl := t.purl } ∧ t.purl.ctleStep = s.purl.ctleStep + 1 ∧ t.purl.st = .train ∧ ∀ l, l < 4 →
        (rxLane t l).passed = (if errors[l]? = some 0 then (rxLane s l).passed ||| 2 ^ s.purl.ctleStep else (rxLane s l).passed)) ∧
  (∀ (ppb : Nat) (s : State), s.purl.st = .train → s.purl.since + 4375000 ≤ nowClk s →
    (20000 < ppb → ∃ t, exec (.plTrainEnd ppb) s = .next t ∧ LinkLost s t causeFreq) ∧
    (ppb ≤ 20000 → (∀ l, l < 4 → (rxLane s l).passed ≠ 0) → ∃ t, exec (.plTrainEnd ppb) s = .next t ∧ t.purl.st = .lock ∧
      t.purl.since = nowClk s ∧ t.purl.lanes = [0, 1, 2, 3] ∧ t.purl.streamAt = nowClk s ∧ t.purl.markers = 0 ∧
      t.col = s.col ∧ itemsBut [objId 0x0B 0 lPL_CTLE_USED] s t ∧
      (s.purl.ctleFix ≠ 0xFF → ∀ l, l < 4 → (rxLane t l).ctle = s.purl.ctleFix)) ∧
    (ppb ≤ 20000 → (rxLane s 0).passed = 0 → s.purl.lanesMin ≠ 2 → ∃ t, exec (.plTrainEnd ppb) s = .next t ∧ t.purl.st = .detect ∧
      getP t 0x0B 0 lPL_LAST_CAUSE = (causeLanes : Int) ∧ t.col.detected = s.col.detected ++
        [{ raiseBlank 92 with d0 := causeLanes }, { raiseBlank 90 with d0 := causeLanes }])) ∧
  (∀ s : State, s.purl.st = .lock → exec .plBlockLock s = .next { s with
    purl := { s.purl with st := .align, since := nowClk s } }) ∧
  (∀ s : State, streaming s = true → 65 * 16384 * s.purl.markers ≤ 6 * (nowClk s - s.purl.streamAt) →
    exec .plMarkerSend s = .next { s with purl := { s.purl with
      wire := (txLanes s).map (fun l => ⟨l, hdrControl, markerBytes l s.purl.markers⟩)
      markers := s.purl.markers + 1, nextBlock := max 1 (s.purl.nextBlock - 16384), lfsr := [1, 2 ^ 7, 2 ^ 14, 2 ^ 21] } }) ∧
  (∀ (lane : Nat) (body : List Byte) (blocks arrival : Nat) (inv : Bool) (s : State), s.purl.lanes.contains lane = true →
    fieldAt body 0 1 = 4 → s.purl.st = .align ∨ s.purl.st = .active →
    ((rxLane s lane).seen = 0 ∨ (fieldAt body 1 1 = (rxLane s lane).logical ∧ ((rxLane s lane).resync = true ∨
        (fieldAt body 4 4 = ((rxLane s lane).count + 1) % 2 ^ 32 ∧ blocks = 16384))) → ∃ t,
      exec (.stitchMarkerRx lane body blocks arrival inv) s = .next t ∧
      rxLane t lane = { rxLane s lane with
        logical := fieldAt body 1 1, count := fieldAt body 4 4, at_ := arrival, seen := (rxLane s lane).seen + 1, inverted := inv
        resync := false, lfsr := laneSeed (fieldAt body 1 1) } ∧
      (s.purl.st = .active → t.purl.st = .active) ∧
      (s.purl.st = .align → laneSkew t = none → t.purl.st = .align) ∧
      (∀ d, s.purl.st = .align → laneSkew t = some d → getP t 0x0B 0 lPL_SKEW = (roundDiv d 32 : Nat) ∧
        (6400 < d → t.purl.st = .detect ∧ getP t 0x0B 0 lPL_LAST_CAUSE = (causeSkew : Int)) ∧
        (d ≤ 6400 → (∀ l ∈ s.purl.lanes, 2 ≤ (rxLane t l).seen) → t.purl.st = .caps ∧ t.purl.peerSeen = false))) ∧
    ((rxLane s lane).seen ≠ 0 → (rxLane s lane).resync = false → blocks ≠ 16384 → ∃ t,
      exec (.stitchMarkerRx lane body blocks arrival inv) s = .next t ∧ LinkLost s t causeMarker)) ∧
  (∀ (lane : Nat) (again : Bool) (s : State), lane ≤ 3 → s.purl.st = .active → s.col.snags = [] → s.purl.lanes.contains lane = true →
    ∃ t, exec (.plInvalidHeader lane again) s = .next t ∧
      (natP s 0x0B 0 lPL_HDR_ERRORS / 256 ^ lane % 256 ≠ 255 →
        getP t 0x0B 0 lPL_HDR_ERRORS = ((natP s 0x0B 0 lPL_HDR_ERRORS + 256 ^ lane : Nat) : Int)) ∧
      srcRec t 91 = { srcRec s 91 with quietAt := some (nowClk s + 1250000000) } ∧ (rxLane t lane).run = (if again then (rxLane s lane).run + 1 else 1) ∧
      (again = true → 15 ≤ (rxLane s lane).run → t.purl.st = .detect ∧ getP t 0x0B 0 lPL_LAST_CAUSE = (causeLock : Int)) ∧
      (again = false → ((rxLane s lane).errs.filter (fun q => decide (nowClk s < q + 1250000))).length < natP s 0x0B 0 lPL_ERR_LIMIT →
        t.purl.st = .active ∧ sourcesBut 91 s t ∧ t.col.detected = s.col.detected ++ [{ raiseBlank 91 with ins := lane }])) ∧
  (∀ s : State, s.purl.st = .caps → s.purl.capsAt ≤ nowClk s → ∃ t, exec .plCapsSend s = .next t ∧ t = { s with purl := t.purl } ∧
    t.purl.st = .caps ∧ t.purl.capsAt = s.purl.capsAt + 12500 ∧ t.purl.seq = 0 ∧ t.purl.wire.length = 2 * (txLanes s).length ∧
    ∀ b ∈ t.purl.wire, b.header = hdrData) ∧
  (∀ (packet : List Byte) (clean : Bool) (s : State), s.purl.st = .caps → fieldAt packet 6 1 % 2 = 1 →
    (packetOk packet clean = true → fieldAt packet 7 1 = 2 → capsClean (packetPayload packet) = true →
      (capsAlien s (packetPayload packet) = false → fieldAt (packetPayload packet) 5 1 = 1 →
        commonLanes (rxAligned s) (fieldAt (packetPayload packet) 6 1) ≠ [] → ∃ t, exec (.capsRx packet clean) s = .next t ∧
          t.purl.st = .active ∧ t.purl.caps = packetPayload packet ∧ t.pair.peerEpoch = fieldAt (packetPayload packet) 16 4 ∧
          t.purl.chosen = commonLanes (rxAligned s) (fieldAt (packetPayload packet) 6 1) ∧ t.purl.capsFails = 0 ∧
          getP t 0x0B 0 lPL_WIDTH = (t.purl.chosen.length : Int)) ∧
      (capsAlien s (packetPayload packet) = true → ∃ t, exec (.capsRx packet clean) s = .next t ∧ t.purl.st = .blocked ∧
        getP t 0x0B 0 lPL_LAST_CAUSE = (causeMismatch : Int) ∧ t.col.detected = s.col.detected ++
          [{ raiseBlank 90 with d0 := causeMismatch }, { raiseBlank 93 with d0 := causeMismatch }])) ∧
    (packetOk packet clean = false → ∃ t, exec (.capsRx packet clean) s = .next t ∧ t.purl.st = .caps ∧
      getP t 0x0B 0 lPL_CAPS_REJECTS = inc32 (getP s 0x0B 0 lPL_CAPS_REJECTS) ∧
      t.col.detected = s.col.detected ++ [raiseBlank 93])) ∧
  (∀ s : State, canSend s = true → s.purl.statusAt ≤ nowClk s → ∃ t, exec .plStatusSend s = .next t ∧ t = { s with purl := t.purl } ∧
    t.purl.st = .active ∧ t.purl.statusAt = nowClk s + natP s 0x0B 0 lPL_STATUS_PERIOD * 1250 ∧ t.purl.seq = (s.purl.seq + 1) % 2 ^ 32) ∧
  (∀ (packet p : List Byte) (arrival : Nat) (s : State), s.purl.st = .active → packetOk packet true = true → fieldAt packet 7 1 = 1 →
    packetLen packet = 48 → p = packetPayload packet → fieldAt p 41 1 = fieldAt s.purl.caps 4 1 → ∃ t,
      exec (.statusRx packet true arrival) s = .next t ∧ t.purl.st = .active ∧ t.purl.heardAt = nowClk s ∧
      t.purl.echo = some (fieldAt p 0 12, arrival) ∧ t.pair.peerEpoch = fieldAt p 36 4 ∧
      (fieldAt p 12 12 ≠ 0 → getP t 0x0B 0 lPL_LINK_DELAY =
        roundDivI (tsDiff arrival (fieldAt p 12 12) - tsDiff (fieldAt p 0 12) (fieldAt p 24 12)) 2) ∧
      (pairOn s = true → s.pair.role = .active → fieldAt p 40 1 = 2 →
        (fieldAt p 36 4 ≤ epochOf s → t.pair.role = .active ∧ t.pair.holdSent = true ∧
          getP t 0x0B 0 lPL_CLAIMS_IGNORED = inc32 (getP s 0x0B 0 lPL_CLAIMS_IGNORED)) ∧
        (epochOf s < fieldAt p 36 4 → pairCause s = false → t.pair.role = .standby) ∧
        (epochOf s < fieldAt p 36 4 → pairCause s = true → t.pair.role = .faulted))) ∧
  (∀ s : State, s.purl.st = .active → ∃ t, exec .plInvalidPacket s = .next t ∧
    t = { s with params := t.params, col := { s.col with detected := s.col.detected ++ [raiseBlank 95], sources := t.col.sources } } ∧
    getP t 0x0B 0 lPL_PKT_DISCARDS = inc32 (getP s 0x0B 0 lPL_PKT_DISCARDS) ∧ quietFrom 95 1250000000 s t) ∧
  (∀ s : State, (s.purl.st = .lock ∧ s.purl.since + 375000 ≤ nowClk s) ∨ (s.purl.st = .align ∧ s.purl.since + 500000 ≤ nowClk s) ∨
    (s.purl.st = .caps ∧ s.purl.since + 250000 ≤ nowClk s ∧ s.purl.capsFails < 2) →
    ∃ t, exec .plStateTimeout s = .next t ∧ LinkLost s t 0) ∧
  (∀ s : State, s.purl.st = .caps → s.purl.since + 250000 ≤ nowClk s → s.purl.capsFails = 2 →
    ∃ t, exec .plStateTimeout s = .next t ∧ t.purl.st = .blocked) ∧
  (∀ s : State, s.purl.st = .active → s.purl.idleMode = false → s.purl.peerIdle = false → s.purl.heardAt + natP s 0x0B 0 lPL_LOSS_TIME * 1250 ≤ nowClk s →
    ∃ t, exec .plLossTimeout s = .next t ∧ LinkLost s t causeSilent) ∧
  (∀ s : State, s.purl.txIdle = true → s.purl.waiting ≠ [] → ∃ t, exec .plIdleWake s = .next t ∧ t = { s with purl := t.purl } ∧
    t.purl.txIdle = false ∧ t.purl.sent = s.purl.waiting ∧ t.purl.waiting = [] ∧ t.purl.wokeAt = nowClk s ∧ t.purl.markers = 1 ∧
    t.purl.wire.take (257 * (txLanes s).length) =
      ((List.range 256).map (fun _ => (txLanes s).map (fun l => ⟨l, hdrControl, exitBytes⟩))).flatten ++
      (txLanes s).map (fun l => ⟨l, hdrControl, markerBytes l 0⟩)) ∧
  (∀ s : State, s.purl.st = .active → s.purl.idleMode = true → s.purl.txIdle = false →
    s.purl.lastPacket + natP s 0x0B 0 lPL_IDLE_HOLD * 1250 ≤ nowClk s →
    ∃ t, exec .plIdleHoldExpiry s = .next t ∧ t = { s with purl := { s.purl with txIdle := true, wire := t.purl.wire } } ∧
      t.purl.wire = ((List.range 4).map (fun i =>
        s.purl.chosen.map (fun l => controlBlock l (max s.purl.nextBlock (blocksNow s) + i) 5))).flatten) ∧
  (∀ s : State, s.purl.st = .active → exec .idleEnterRx s = .next { s with purl := { s.purl with peerIdle := true } } ∧
    (∃ t, exec (.exitRx false) s = .next t ∧ LinkLost s t 0) ∧
    (∃ t, exec (.exitRx true) s = .next t ∧ t = { s with purl := { s.purl with peerIdle := false, heardAt := nowClk s, rx := t.purl.rx } } ∧
      ∀ l ∈ s.purl.lanes, rxLane t l = { rxLane s l with resync := true })) ∧
  (∀ (r : Req) (s : State), mailboxOpen s r.slot = true → slotWaiting s .pairLink = none →
    (standbyRefuses s 0x0B04 = true → Answers (.pairLink r 0) r.slot s s (statusOnly stPeerActive)) ∧
    (standbyRefuses s 0x0B04 = false → ∃ s', Answers (.pairLink r 0) r.slot s s' (okWith [0]) ∧
      s' = { s with params := s'.params, purl := s'.purl } ∧ itemsBut [objId 0x0B 0 lPL_WIDTH] s s' ∧ s'.purl.st = .disabled) ∧
    (s.purl.st ≠ .active → ∃ s', Defers (.pairLink r 1) r.slot s s' .pairLink ∧
      s' = { s with params := s'.params, purl := s'.purl } ∧ itemsBut [objId 0x0B 0 lPL_WIDTH] s s' ∧ s'.purl.st = .detect ∧
      s'.purl.retrainAt = some (nowClk s + 6250000)) ∧
    (s.purl.st = .active → s.purl.txIdle = false → ∃ s', Answers (.pairLink r 2) r.slot s s' (okWith [7]) ∧
      s' = { s with purl := s'.purl } ∧ s'.purl.idleMode = true ∧ s'.purl.txIdle = true ∧ s'.purl.wokeAt = nowClk s)) ∧
  (∀ (q slot : Nat) (s : State), s.purl.retrainAt = some q → q ≤ nowClk s → s.col.snags = [] → slotWaiting s .pairLink = some slot →
    ∃ t, exec .pairLinkTimeout s = .next t ∧ t.purl = { s.purl with retrainAt := none } ∧ t.pair = s.pair ∧
      answered t slot { statusOnly stTimeout with payload := leBytes 1 (linkCode s) })

/-- 17 R356 to R373 and 16 R351: a pair. The checks of PAIR_SWAP and the length of a swap are those of the state in which the request
is accepted. -/
def Obligations.PairOfUnits : Prop :=
  (∀ (r : Req) (s : State), mailboxOpen s r.slot = true → ∃ t, exec (.pairConfig r) s = .next t ∧ answered t r.slot okBare ∧
    (∀ i v, i < 128 → stagedOf s (objId 0x0B 0 i) = some v → getP t 0x0B 0 i = v ∧ stagedOf t (objId 0x0B 0 i) = none) ∧
    (pairOn s = false → stagedOf s (objId 0x0B 0 lPAIR_ENABLE) = some 1 → t.pair.role = .standby ∧ t.pair.wave = false) ∧
    (pairOn s = true → stagedOf s (objId 0x0B 0 lPAIR_ENABLE) = some 0 →
      t.pair = { pairBlank with ckptSeq := s.pair.ckptSeq, roleAt := nowClk s }) ∧
    (s.purl.st = .disabled ∨ s.purl.st = .blocked → stagedOf s (objId 0x0B 0 lPL_ENABLE) = some 1 → t.purl.st = .detect) ∧
    (stagedOf s (objId 0x0B 0 lPL_ENABLE) = some 0 → t.purl.st = .disabled)) ∧
  (∀ (r : Req) (s : State), mailboxOpen s r.slot = true → slotWaiting s .pairSwap = none →
    (∀ p, pairOn s = true → s.pair.role = .active → s.pair.peer = some p → p.role = 1 → healthReady p.health = true →
      ∃ s', Defers (.pairSwap r) r.slot s s' .pairSwap ∧
        s' = { s with purl := s'.purl, pair := { s.pair with swapEnd := some (nowClk s + swapSpan (accept s r 0x0B03)) } } ∧
        (canSend s = true → s'.purl.sent.map (fun k => k.body) = [.swapPrepare])) ∧
    (pairOn s = false ∨ s.pair.role = .claiming ∨ s.pair.role = .releasing ∨ s.pair.role = .faulted →
      Answers (.pairSwap r) r.slot s s (badState 0 0))) ∧
  (∀ s : State, 2 ≤ xInService s → s.pair.role = .active → s.pair.cutAt ≤ s.time.ticks → ∃ t, exec .ckptCut s = .next t ∧
    t = { s with params := t.params, purl := t.purl, col := t.col, pair := { s.pair with
      ckptSeq := (s.pair.ckptSeq + 1) % 2 ^ 32, rot := (s.pair.rot + 1) % 64, lastCkpt := ts72 s.pair.cutAt 0
      cutAt := s.pair.cutAt + ckptPeriodNow s * 1250 } } ∧
    (canSend s = true → t.purl.sent.map (fun k => k.body) =
      ckptBodies s (ts72 s.pair.cutAt 0) ++ [.tail ((ckptBodies s (ts72 s.pair.cutAt 0)).length + 1)]) ∧
    (200 < ckptPeriodNow s → t.params = s.params ∧ t.col = (raiseOnce s (raiseBlank 116)).col) ∧
    (ckptPeriodNow s ≤ 200 → (srcRec t 116).live = false)) ∧
  (∀ s : State, 2 ≤ xInService s → s.pair.role = .releasing → s.pair.finalCut = false → portsQuiet s = true → ∃ t, exec .ckptCut s = .next t ∧
    t.pair.finalCut = true ∧ t.pair.lastCkpt = nowTs s ∧ t.pair.role = .releasing) ∧
  (∀ (p : CkptPacket) (whole : Bool) (s : State), s.purl.st = .active → pairOn s = true →
    (∀ a rot cut ports, p.body = .head a rot cut ports → ∃ t, exec (.ckptPacketRx p whole) s = .next t ∧
      t = { s with params := t.params, pair := { s.pair with incoming := some ⟨[p], (p.seq + 1) % 2 ^ 32, false⟩ } } ∧
      getP t 0x0B 0 lCKPT_MISSED = (if s.pair.incoming.isSome then inc32 (getP s 0x0B 0 lCKPT_MISSED) else getP s 0x0B 0 lCKPT_MISSED) ∧
      itemsBut [objId 0x0B 0 lCKPT_MISSED] s t) ∧
    (∀ port recs c, p.body = .fast port recs → s.pair.incoming = some c → exec (.ckptPacketRx p whole) s = .next { s with
      pair := { s.pair with
        incoming := some ⟨c.packets ++ [p], (p.seq + 1) % 2 ^ 32, c.broken || decide (c.nextSeq ≠ p.seq)⟩ } }) ∧
    (∀ n c cut ports, p.body = .tail n → s.pair.incoming = some c → whole = true → n = c.packets.length + 1 → c.nextSeq = p.seq →
      c.broken = false → headOf c.packets = some (cut, ports) → ∃ t k, exec (.ckptPacketRx p whole) s = .next t ∧
        t.pair.incoming = none ∧ t.pair.ckptClk = nowClk s ∧ t.pair.ckpt = some k ∧
        k.cutTs = tsAdd cut (getP s 0x0B 0 lPL_PEER_OFFSET) ∧ t.pair.lastCkpt = k.cutTs ∧
        k.ports.map (fun q => (q.running, q.digest)) = ports.map (fun q => (q.running, q.digest)) ∧ t.pair.role = s.pair.role) ∧
    (∀ n c, p.body = .tail n → s.pair.incoming = some c → whole = false ∨ n ≠ c.packets.length + 1 ∨ c.nextSeq ≠ p.seq ∨ c.broken = true →
      ∃ t, exec (.ckptPacketRx p whole) s = .next t ∧ t = { s with params := t.params, pair := { s.pair with incoming := none } } ∧
        getP t 0x0B 0 lCKPT_MISSED = inc32 (getP s 0x0B 0 lCKPT_MISSED) ∧ itemsBut [objId 0x0B 0 lCKPT_MISSED] s t)) ∧
  (∀ s : State, s.pair.role = .standby →
    (max s.pair.ckptClk s.pair.roleAt + 1250000 ≤ nowClk s → exec .ckptStaleTimer s = .next { s with col := (raiseOnce s (raiseBlank 116)).col }) ∧
    (∀ q, s.pair.wiringSince = some q → waveAbsent s = true → q + 125000 ≤ nowClk s →
      exec .pairWiringTimer s = .next { s with col := (raiseOnce s (raiseBlank 118)).col })) ∧
  (∀ (src : Nat) (s : State), isLive s src = false → raisePending s src = false →
    (raiseOnce s (raiseBlank src)).col.detected = s.col.detected ++ [raiseBlank src]) ∧
  (∀ s : State, exec .pairWatchdogLapse s = .next { s with pair := { s.pair with lapsed := s.pair.lapsed || s.pair.wave } }) ∧
  (∀ (m : Meas) (rest : List Meas) (s : State), (kget tdcBlank s.time.tdc 7).meas = m :: rest → ∃ t, exec .peerActEdge s = .next t ∧
    t.pair = { s.pair with peerEdge := some (nowClk s - (s.time.ticks - m.tick)), wiringSince := none } ∧
    (kget tdcBlank t.time.tdc 7).meas = rest ∧ ∀ c, c ≠ 7 → kget tdcBlank t.time.tdc c = kget tdcBlank s.time.tdc c) ∧
  (∀ s : State, pairOn s = true → s.pair.role = .standby → s.pair.release = false →
    (s.pair.roleAt + peerLoss s ≤ nowClk s → waveAbsent s = true → lostSince s s.pair.fibreAt = true →
      (∀ p, s.pair.peer = some p → p.hold = false) → (∀ q ∈ claimPorts s, q.1 < 2) → ∃ t, exec .peerLossClaim s = .next t ∧
        t.pair.role = .claiming ∧ t.pair.wave = true ∧ t.pair.claimAt = nowClk s ∧
        getP t 0x0B 0 lPAIR_EPOCH = ((max (epochOf s) s.pair.peerEpoch + 1) % 2 ^ 32 : Nat) ∧
        getP t 0x0B 0 lTAKEOVERS = inc32 (getP s 0x0B 0 lTAKEOVERS) ∧ (∃ x ∈ t.col.detected, x.src = 30) ∧
        t.pair.started = (claimPorts s).map (fun q => q.1) ∧ ∀ q ∈ claimPorts s, (portOf t q.1).st = .running) ∧
    (waveAbsent s = false → exec .peerLossClaim s = .next s) ∧ (lostSince s s.pair.fibreAt = false → exec .peerLossClaim s = .next s)) ∧
  (∀ (floors : List Rat) (s : State), s.pair.role = .claiming → s.pair.wave = true → s.pair.started.all (qtestReady s) = true →
    (s.pair.started.any (fun p => qtestFails s p (nth 0 floors p)) = false → ∃ t, exec (.qualityTest floors) s = .next t ∧
      t.pair.role = .active ∧ t.pair.wave = true ∧ (srcRec t 31).live = false ∧ (srcRec t 119).live = false) ∧
    (s.pair.started.any (fun p => qtestFails s p (nth 0 floors p)) = true → peerHealthy s = false → ∃ t,
      exec (.qualityTest floors) s = .next t ∧ t.pair.role = .active ∧ t.pair.wave = true ∧ ∃ x ∈ t.col.detected, x.src = 31) ∧
    (s.pair.started.any (fun p => qtestFails s p (nth 0 floors p)) = true → peerHealthy s = true → ∃ t,
      exec (.qualityTest floors) s = .next t ∧ t.pair.role = .faulted ∧ t.pair.wave = false ∧ (∃ x ∈ t.col.detected, x.src = 119) ∧
        ∀ g, g < 130 → ∀ q ∈ (ringOf t g).queue, q.since < s.pair.claimAt)) ∧
  (∀ s : State,
    (s.pair.role = .standby → healthReady (health s) = true → ∃ t, exec .swapPrepareRx s = .next t ∧
      t = { s with purl := t.purl, pair := { s.pair with swapEnd := some (nowClk s + swapSpan s) } } ∧
      t.purl.sent.map (fun k => k.body) = [.swapReady]) ∧
    (s.pair.role ≠ .standby → exec .swapPrepareRx s = .next s) ∧
    (s.pair.role = .active → portsQuiet s = true → ∃ t, exec .swapReadyRx s = .next t ∧ t = { s with pair := t.pair } ∧
      t.pair.role = .releasing ∧ t.pair.release = true ∧ t.pair.finalCut = false) ∧
    (∀ p, p < 2 → s.pair.role = .active → (portOf s p).st = .running → (portOf s p).launched = true → (portOf s p).drain = none →
      (portOf s p).stop = .none → (portOf s p).shotOpen = true → (portOf s (1 - p)).st = .idle → ∃ t, exec .swapReadyRx s = .next t ∧
        t.pair.release = true ∧ t.pair.role = .active ∧ (portOf t p).st = .running ∧ (portOf t p).stop = .armed))

/-- 18 R380, R381, 15 R334: live and sticky bits. -/
def Obligations.LiveAndSticky : Prop :=
  (∀ s : State, s.col.regAt = some (fclkNow s) → exec .faultRaise s = .next s) ∧
  (∀ s : State, s.col.detected ≠ [] → s.col.regAt ≠ some (fclkNow s) → ∃ t, exec .faultRaise s = .next t ∧
    (∀ x ∈ t.col.detected, x.src = 115) ∧
    (∀ x ∈ s.col.detected, sourceExists x.src = true → (srcRec t x.src).live = true ∧ (srcRec t x.src).sticky = true) ∧
    (∀ n, (∀ x ∈ s.col.detected, x.src ≠ n) → (srcRec t n).live = (srcRec s n).live ∧ (srcRec t n).sticky = (srcRec s n).sticky)) ∧
  (∀ (r : Req) (mask : Nat) (s : State), mailboxOpen s r.slot = true → canRecordMany s 128 = true →
    ∃ t a, exec (.faultClear r mask) s = .next t ∧ answered t r.slot (okWith (leBytes 16 a)) ∧
      (∀ n, n < 128 → (a.testBit n = true ↔ mask.testBit n = true ∧ sourceExists n = true ∧ ((srcRec s n).live = true ∨ raiseWins s n = true))) ∧
      (∀ n, n < 128 → (srcRec t n).live = (srcRec s n).live) ∧
      (∀ n, n < 128 → mask.testBit n = true → sourceExists n = true → (srcRec s n).live = false → raiseWins s n = false →
        (srcRec t n).sticky = false) ∧
      (∀ n, mask.testBit n = false ∨ (srcRec s n).live = true ∨ raiseWins s n = true → (srcRec t n).sticky = (srcRec s n).sticky)) ∧
  (∀ (n q : Nat) (s : State), (srcRec s n).quietAt = some q → q ≤ nowClk s → (srcRec s n).live = true →
    ∃ t, exec (.faultQuietTimer n) s = .next t ∧ t = { s with col := t.col, params := t.params } ∧ (srcRec t n).live = false ∧
      (srcRec t n).sticky = (srcRec s n).sticky ∧
      ∀ m, m ≠ n → (srcRec t m).live = (srcRec s m).live ∧ (srcRec t m).sticky = (srcRec s m).sticky)

/-- 18 R384 to R386: the pin. -/
def Obligations.FaultPin : Prop :=
  (∀ (x : Raise) (s : State), s.col.detected = [x] → s.col.regAt ≠ some (fclkNow s) → sourceExists x.src = true → isLive s x.src = false →
    natP s 0x0D 0 jFAULT_N_SEV ≤ severityFor s x.src x.ins → ∃ t, exec .faultRaise s = .next t ∧
      t.col.pinLow = true ∧ t.col.raisedSince = true ∧
      t.col.pulseEnd = some (nowClk s + natP s 0x0D 0 jFAULT_N_PULSE * 1250) ∧
      getP t 0x0D 0 jFAULT_N_PULSES = inc32 (getP s 0x0D 0 jFAULT_N_PULSES) ∧
      getP t 0x0D 0 jRAISES = inc32 (getP s 0x0D 0 jRAISES)) ∧
  (∀ (q : Nat) (s : State), s.col.pulseEnd = some q → q ≤ nowClk s → s.boot.st = .ready →
    exec .faultNPulseEnd s = .next { s with col := { s.col with
      pinLow := s.col.hostHolds || !(decide (natP s 0x0D 0 jFAULT_N_AFTER = 0) || s.col.releaseWaits)
      pulseEnd := none, releaseWaits := false } }) ∧
  (∀ (r : Req) (s : State), mailboxOpen s r.slot = true → canRecord s = true →
    (∃ t, exec (.faultPinRelease r 1) s = .next t ∧ answered t r.slot okBare ∧ t.col.pinLow = true ∧ t.col.hostHolds = true) ∧
    (∃ t, exec (.faultPinRelease r 0) s = .next t ∧ answered t r.slot okBare ∧ t.col.hostHolds = false ∧
      (s.col.pulseEnd = none → t.col.pinLow = false) ∧
      (s.col.pulseEnd ≠ none → t.col.pinLow = s.col.pinLow ∧ t.col.releaseWaits = true)) ∧
    (storeFull s = false → ∃ t e, exec (.faultPinRelease r 1) s = .next t ∧ t.col.store = s.col.store ++ [e] ∧
      e.kind = .pin ∧ e.src = 0xFF ∧ e.seq = natP s 0x0D 0 jJOURNAL_SEQ))

/-- 18 R377, R387 to R389: the journal and its buckets. -/
def Obligations.Journal : Prop :=
  (∀ (r : Req) (src sev : Nat) (s : State), mailboxOpen s r.slot = true → sourceExists src = true → sev ≤ 5 → storeFull s = false →
    ∃ t e, exec (.faultSeverity r src sev) s = .next t ∧ answered t r.slot okBare ∧
      getP t 0x0D 0 (jSEVERITY + src) = sev ∧ stagedOf t (objId 0x0D 0 (jSEVERITY + src)) = none ∧
      t.col.store = s.col.store ++ [e] ∧ e.kind = .severity ∧ e.src = src ∧ e.severity = sev ∧ e.seq = natP s 0x0D 0 jJOURNAL_SEQ ∧
      getP t 0x0D 0 jJOURNAL_SEQ = ((natP s 0x0D 0 jJOURNAL_SEQ + 1) % 2 ^ 32 : Nat) ∧ t.col.actions = s.col.actions) ∧
  (∀ s : State, 1024 ≤ openEntries s ∨ (0 < openEntries s ∧ s.col.openSince + 12500000 ≤ nowClk s) →
    ∃ t, exec .journalFrameClose s = .next t ∧ t = { s with col := t.col } ∧
      t.col.closed = s.col.closed ++ [⟨min 1024 (openEntries s), s.col.gapNext⟩] ∧ t.col.store = s.col.store) ∧
  (∀ s : State, s.time.ticks % 12500000 = 0 → (∀ p ∈ s.col.sources, p.2.coal = none) → exec .journalSummaryTick s = .next s) ∧
  (∀ s : State, s.boot.rootLocked = true → s.col.tokenAt ≤ nowClk s → ∃ t, exec .tokenRefill s = .next t ∧
    t = { s with col := { s.col with tokenAt := s.col.tokenAt + 78125, sources := t.col.sources } } ∧
    ∀ n, srcRec t n = { srcRec s n with tokens := min 16 ((srcRec s n).tokens + 1) }) ∧
  (∀ s : State, (∃ a ∈ s.col.actions, a.running = true ∧ a.windowEnd ≤ nowClk s) → ∃ t, exec .actionWindowEnd s = .next t ∧
    t = { s with col := { s.col with actions := t.col.actions } } ∧
    ∀ a ∈ t.col.actions, a.running = true → nowClk s < a.windowEnd)

/-- 18 R391, R392: snags. -/
def Obligations.Snags : Prop :=
  (∀ (r : Req) (args : List Byte) (s : State), mailboxOpen s r.slot = true → s.boot.unlocked = true → storeFull s = false →
    snagBadField 1 (fieldAt (fitBytes 32 args) 0 2) (fieldAt (fitBytes 32 args) 2 2) (fieldAt (fitBytes 32 args) 4 4 : Nat) = none →
    ∃ t x e, exec (.diagSnagSet r 1 args) s = .next t ∧ answered t r.slot okBare ∧ t.col.snags = [x] ∧ x.num = 1 ∧
      x.target = fieldAt (fitBytes 32 args) 0 2 ∧ x.applied = 0 ∧ t.col.store = s.col.store ++ [e] ∧ e.kind = .snag ∧
      raiseBlank 120 ∈ t.col.detected) ∧
  (∀ (x : Snag) (s : State), s.col.snags = [x] → x.num = 1 → x.applied = 0 → x.nextAt ≤ nowClk s →
    ∃ t y, exec (.snagApply 1 x.target) s = .next t ∧ t.col.detected = s.col.detected ++ [raiseBlank x.target] ∧
      t.col.snags = [y] ∧ y.applied = 1 ∧ y.endAt = some (nowClk s + x.value.toNat * 1250)) ∧
  (∀ (x : Snag) (q : Nat) (s : State), s.col.snags = [x] → x.num = 1 → x.endAt = some q → q ≤ nowClk s →
    ∃ t, exec (.snagLiveExpiry 1 x.target) s = .next t ∧ (srcRec t x.target).live = false ∧
      (∀ y ∈ t.col.snags, y.endAt = none)) ∧
  (∀ (x : Snag) (q : Nat) (s : State), s.col.snags = [x] → 2 < x.num → x.endAt = some q → q ≤ nowClk s →
    ∃ t, exec (.snagEffectEnd x.num x.target) s = .next t ∧ ∀ y ∈ t.col.snags, y.endAt = none) ∧
  (∀ (r : Req) (s : State), mailboxOpen { s with col := { s.col with snags := [] } } r.slot = true →
    canRecordMany s s.col.snags.length = true → ∃ t, exec (.diagSnagClear r 0xFFFF) s = .next t ∧
    answered t r.slot okBare ∧ t.col.snags = []) ∧
  (∀ s : State, s.boot.fwRuns = true → s.boot.activation = none → s.col.fedAt + 12500000 ≤ nowClk s →
    ∃ t, exec .fwWatchdogExpiry s = .next t ∧
      t = { s with col := { s.col with detected := s.col.detected ++ [raiseBlank 112], sources := t.col.sources } } ∧
      quietFrom 112 0 s t)

/-- 19 R407 to R409: stores, erases and restores of region U. -/
def Obligations.RegionU : Prop :=
  (∀ (r : Req) (dom : Nat) (s : State), mailboxOpen s r.slot = true → (1 ≤ dom ∧ dom ≤ 0x10) ∨ dom = 0xFF → s.cal.nvmOp = none →
    ∃ (b : NvmBank) (bytes : Nat), Defers (.nvmStore r dom) r.slot s { s with free := s.free + 1, cal := { s.cal with
        nvmOp := some (.store dom (some b) (if dom = 0xFF then some s.cal.repair else none) bytes) } } .nvmStore ∧
      ((bankU s).valid = true → b.generation = ((bankU s).generation + 1) % 2 ^ 32) ∧
      ∀ o, dom = 0xFF ∨ objDom o = dom → objAccess o = 1 → kget paramReset s.params o ≠ paramReset o →
        ∃ p ∈ b.pairs, p.1 = o) ∧
  (∀ (r : Req) (dom : Nat) (s : State), mailboxOpen s r.slot = true → (1 ≤ dom ∧ dom ≤ 0x10) ∨ dom = 0xFF → s.cal.nvmOp ≠ none →
    ∃ w, Answers (.nvmStore r dom) r.slot s s (busy w)) ∧
  (∀ (dom bytes : Nat) (b : NvmBank) (s : State), s.cal.nvmOp = some (.store dom (some b) none bytes) → s.cal.activeBank ≤ 1 →
    ∃ t, exec (.nvmStoreDone true) s = .next t ∧ t.cal.nvmOp = none ∧ bankU t = b ∧ t.cal.activeBank = 1 - s.cal.activeBank ∧
      (t.cal.bank0, t.cal.bank1) = (if s.cal.activeBank = 0 then (s.cal.bank0, b) else (b, s.cal.bank1)) ∧
      t.cal.regionR = s.cal.regionR ∧ getP t 9 0 aNVM_U_WRITES = inc32 (getP s 9 0 aNVM_U_WRITES) ∧ t.staged = s.staged) ∧
  (∀ (dom bytes : Nat) (b : NvmBank) (s : State), s.cal.nvmOp = some (.store dom (some b) none bytes) →
    ∃ t, exec (.nvmStoreDone false) s = .next t ∧ t.cal.nvmOp = none ∧ t.cal.bank0 = s.cal.bank0 ∧ t.cal.bank1 = s.cal.bank1 ∧
      t.cal.activeBank = s.cal.activeBank ∧ t.col.detected = s.col.detected ++ [raiseBlank 113] ∧ t.params = s.params) ∧
  (∀ (r : Req) (s : State), mailboxOpen s r.slot = true → s.cal.nvmOp = none →
    Defers (.nvmEraseUser r 0x4555) r.slot s { s with cal := { s.cal with nvmOp := some .erase } } .nvmErase) ∧
  (∀ s : State, s.cal.nvmOp = some .erase → ∃ t, exec (.nvmEraseDone true) s = .next t ∧
    t.cal = { s.cal with nvmOp := none, bank0 := bankBlank, bank1 := bankBlank } ∧ t.params = s.params ∧ t.boot = s.boot) ∧
  (∀ (r : Req) (dom : Nat) (s : State), mailboxOpen s r.slot = true → (1 ≤ dom ∧ dom ≤ 0x10) ∨ dom = 0xFF → s.cal.nvmOp = none →
    (bankU s).valid = true → (∀ p ∈ (bankU s).pairs, pairOk p = true) →
    ∃ s' a, Answers (.nvmRestore r dom none) r.slot s s' a ∧ a.status = 0 ∧ s' = { s with staged := s'.staged } ∧
      (∀ o v pre post, (bankU s).pairs = pre ++ (o, v) :: post → (∀ p ∈ post, p.1 ≠ o) → dom = 0xFF ∨ objDom o = dom →
        stagedOf s' o = some v) ∧
      (∀ o, (∀ p ∈ (bankU s).pairs, p.1 ≠ o) → stagedOf s' o = stagedOf s o))

/-- 19 R396, R401: the record of a domain and inst, shown on SRAM; 19 R402, R403, R410, 09 R214, R215, 10 R234: tests of spares. -/
def Obligations.CalibrationRecordsAndSpares : Prop :=
  (∀ (r : Req) (s : State), mailboxOpen s r.slot = true → calBusy s 6 0 = false → calBusy s 5 0 = false → calBusy s 7 0 = false →
    ∃ s', Defers (.calRun r 6 0) r.slot s s' (.calRun 6 0) ∧ s' = { s with cal := { s.cal with recs := s'.cal.recs } } ∧
      (calGet s' 6 0).st = .background ∧ (calGet s' 6 0).count = (calGet s 6 0).count ∧
      ∀ d i, calKey d i ≠ calKey 6 0 → calGet s' d i = calGet s d i) ∧
  (∀ (failed : Bool) (s : State), calBusy s 6 0 = true → calBusy s 6 0xFF = false →
    ∃ t, exec (.sramCalDone failed []) s = .next t ∧
      t = { s with cal := { s.cal with recs := t.cal.recs }, slots := t.slots, link := t.link } ∧
      (calGet t 6 0).st = .idle ∧ (calGet t 6 0).count = (calGet s 6 0).count + 1 ∧ (calGet t 6 0).last = nowTs s ∧
      (failed = true → (calGet t 6 0).lastStatus = 1) ∧
      (failed = false → (calGet s 6 0).failed = false → (calGet t 6 0).lastStatus = 0)) ∧
  (∀ (r : Req) (s : State), mailboxOpen s r.slot = true → calBusy s 6 0 = true → calBusy s 6 0xFF = false → ∃ t,
    exec (.calAbort r 6 0) s = .next t ∧ answered t r.slot okBare ∧ (calGet t 6 0).st = .idle ∧ (calGet t 6 0).lastStatus = 3 ∧
      (calGet t 6 0).count = (calGet s 6 0).count ∧ (calGet t 6 0).last = (calGet s 6 0).last) ∧
  (∀ (r : Req) (dom ins : Nat) (s : State), mailboxOpen s r.slot = true → calFault dom ins = none → calTaken s dom ins = true →
    calBusy s 5 0 = false → calBusy s 7 0 = false → ∃ w, Answers (.calRun r dom ins) r.slot s s (busy w)) ∧
  (∀ (c t : Nat) (s : State), coreUse s c = .testing t → t ≤ nowClk s →
    (∃ u, exec (.coreSelftestDone c true) s = .next u ∧ coreUse u c = .spare ∧ repairHas u (.core c) = false ∧
      ∀ d, d ≠ c → coreUse u d = coreUse s d) ∧
    (∃ u, exec (.coreSelftestDone c false) s = .next u ∧ coreUse u c = .failed ∧ repairHas u (.core c) = true ∧
      ∀ d, d ≠ c → coreUse u d = coreUse s d)) ∧
  (∀ (e t : Nat) (s : State), (engineOf s e).st = .testing t → t ≤ nowClk s →
    (∃ u, exec (.compTestDone e true) s = .next u ∧ engineOf u e = ⟨.spare, .idle, 0⟩ ∧ repairHas u (.engine e) = false) ∧
    (∃ u, exec (.compTestDone e false) s = .next u ∧ engineOf u e = ⟨.failed, .idle, 0⟩ ∧ repairHas u (.engine e) = true)) ∧
  (∀ (u : Nat) (s : State), s.boot.userApplied = true → spareTestTicks s ≠ 0 →
    s.cal.spareTestSince + spareTestTicks s ≤ nowClk s → nextSpareUnit s = some u → u < 68 → calBusy s 5 0 = false →
    ∃ t, exec .spareTestTimer s = .next t ∧ coreUse t u = .testing (nowClk s + 50000) ∧ (∀ d, d ≠ u → coreUse t d = coreUse s d) ∧
      t.cal.spareTestSince = nowClk s) ∧
  (∀ (array row : Nat) (errs : List Nat) (s : State), errorsRecent s errs < natP s 9 0 aSRAM_REPAIR_COUNT →
    exec (.sramRowRepair ⟨array, row⟩ errs) s = .next s) ∧
  (∀ (array row : Nat) (errs : List Nat) (s : State), s.boot.marchDone = true → natP s 9 0 aSRAM_REPAIR_COUNT ≤ errorsRecent s errs →
    rowsUsed s array < 4 → ∃ t, exec (.sramRowRepair ⟨array, row⟩ errs) s = .next t ∧ rowsUsed t array = rowsUsed s array + 1 ∧
      repairHas t (.sramRow array row) = true ∧ itemsBut [objId 9 0 aSRAM_REPAIRS] s t ∧
      getP t 9 0 aSRAM_REPAIRS = inc32 (getP s 9 0 aSRAM_REPAIRS) ∧
      t.col.detected = s.col.detected ++ [{ raiseBlank 59 with ins := array, d0 := row }])

/-- 20 R418, R416, 18 R378: the four ways into the full reset, and what they leave. -/
def Obligations.FullResets : Prop :=
  (∀ s : State, ∃ t, exec .porstNAssert s = .next t ∧ coldFrom s t ∧ t.boot.porstLow = true ∧ t.boot.carried = s.boot.carried ∧
    t.boot.thermalHold = s.boot.thermalHold ∧ t.boot.supplyHold = s.boot.supplyHold) ∧
  (∀ s : State, s.boot.porstLow = false → s.boot.thermalHold = false →
    ∃ t, exec .thermalShutdown s = .next t ∧ coldFrom s t ∧ t.boot.thermalHold = true ∧ 8 ∈ t.boot.carried ∧
      16500 ≤ t.boot.dieTemp ∧ t.boot.porstLow = false) ∧
  (∀ (sensors : List Int) (s : State), 16500 ≤ hottest sensors → s.boot.porstLow = false → s.boot.thermalHold = false →
    ∃ t, exec (.dieTempSample sensors) s = .next t ∧ coldFrom s t ∧ t.boot.thermalHold = true ∧ 8 ∈ t.boot.carried ∧
      t.boot.dieTemp = hottest sensors) ∧
  (∀ (rail : Nat) (uv : Int) (s : State), rail < 3 → railBelow rail uv = true → s.boot.porstLow = false →
    ∃ t, exec (.supplyTrip ⟨rail, uv⟩) s = .next t ∧ coldFrom s t ∧ t.boot.supplyHold.testBit rail = true ∧
      (railOf rail).src ∈ t.boot.carried)

/-- 18 R378, 20 R416, R417, R420, 08 R174: from a held reset to running clocks. -/
def Obligations.ClocksStart : Prop :=
  (∀ (sensors : List Int) (s : State), s.boot.thermalHold = true → hottest sensors < 14000 →
    exec (.thermalRecover sensors) s = .next { s with boot := { s.boot with thermalHold := false, dieTemp := hottest sensors } }) ∧
  (∀ (rail : Nat) (uv : Int) (s : State), railBelow rail uv = false → ∃ t, exec (.supplyReturn ⟨rail, uv⟩) s = .next t ∧
    t = { s with boot := { s.boot with supplyHold := t.boot.supplyHold } } ∧
    ∀ i, t.boot.supplyHold.testBit i = (s.boot.supplyHold.testBit i && decide (i ≠ rail))) ∧
  (∀ (rail : Nat) (uv : Int) (s : State), railBelow rail uv = true → exec (.supplyReturn ⟨rail, uv⟩) s = .next s) ∧
  (∀ (sel id : Nat) (s : State), s.boot.porstLow = true →
    exec (.castOnStart sel id) s =
      .next { s with boot := { s.boot with porstLow := false, bootSel := sel % 4, unitId := id % 8 } }) ∧
  (∀ s : State, rootStarts s = true → ∃ t, exec .rootLock s = .next t ∧
    t = { s with time := { s.time with ticks := 0, sclk := 0 }, boot := { s.boot with rootLocked := true, carried := [] }
                 params := t.params, col := t.col, link := t.link } ∧
    (∀ src ∈ s.boot.carried, sourceExists src = true → (srcRec t src).live = true ∧ (srcRec t src).sticky = true)) ∧
  (∀ s : State, rootStarts s = true → exec .rootLockTimeout s = .next { s with boot := { s.boot with rootFailed := true } })

/-- 18 Table 18-2: sources 0, 1, 3, 4 and 5. -/
def Obligations.MonitorsRaise : Prop :=
  (∀ s : State, s.boot.rootLocked = true →
    exec .rootUnlock s = .next { s with col := (detect s (raiseBlank 0)).col } ∧
    (detect s (raiseBlank 0)).col.detected = s.col.detected ++ [raiseBlank 0]) ∧
  (∀ s : State, s.boot.rootLocked = true → ∃ t, exec .refclkLost s = .next t ∧
    t = { s with col := { s.col with detected := s.col.detected ++ [raiseBlank 1], sources := t.col.sources } } ∧
    quietFrom 1 1250000 s t) ∧
  (∀ (rail : Nat) (uv : Int) (s : State), s.boot.rootLocked = true → rail < 8 →
    railAbove rail uv = true ∨ (railBelow rail uv = true ∧ 3 ≤ rail) → ∃ t, exec (.railExcursion ⟨rail, uv⟩) s = .next t ∧
    t = { s with col := { s.col with
      detected := s.col.detected ++ [raiseBlank (railOf rail).src], sources := t.col.sources } } ∧
    quietFrom (railOf rail).src 1250000 s t) ∧
  (∀ s : State, s.boot.rootLocked = true → ∃ t, exec .rootLock s = .next t ∧
    t = { s with col := t.col, params := t.params } ∧ (srcRec t 0).live = false ∧
    (∀ n, n ≠ 0 → (srcRec t n).live = (srcRec s n).live ∧ (srcRec t n).sticky = (srcRec s n).sticky) ∧
    ((srcRec s 0).live = false → raisePending s 0 = false → t = s)) ∧
  (∀ (sensors : List Int) (s : State), s.boot.rootLocked = true → s.boot.porstLow = false → s.boot.thermalHold = false →
    s.boot.userApplied = false → 15000 < hottest sensors → hottest sensors < 16500 → (srcRec s 5).live = false →
    (∀ x ∈ s.col.detected, x.src ≠ 5) →
    exec (.dieTempSample sensors) s = .next { s with
      boot := { s.boot with dieTemp := hottest sensors }, col := (detect s (raiseBlank 5)).col })

/-- 20 Table 20-5, R420 to R422, R428: the order of cast-on and the ways it fails. -/
def Obligations.CastOnSequence : Prop :=
  (∀ (nvm : NvmLoad) (s : State), s.boot.rootLocked = true → s.boot.st = .reset → ∃ t, exec (.nvmLoaded nvm) s = .next t ∧
    (nvm.regionFOk = true → nvm.march = [] →
      t.boot.st = (if s.boot.warm then .linkReady else .nvmLoaded) ∧ t.boot.serial = fitBytes 16 nvm.serial) ∧
    (nvm.regionFOk = false → t.boot.st = .failed ∧ t.boot.failSource = 113)) ∧
  (∀ s : State, s.link.clkreqLow = false → s.boot.st = .nvmLoaded → ∃ t, exec .linkReady s = .next t ∧
    t = { s with boot := { s.boot with st := .linkReady }, link := { s.link with
      clkreqLow := true, endpointUp := !s.link.perstLow, mayTrain := !s.link.perstLow, inta := t.link.inta } }) ∧
  (∀ (n : Nat) (s : State), s.boot.st = .linkReady → s.boot.fwRuns = false → s.boot.recovering = false → s.boot.bootSel ≠ 1 →
    n = s.boot.activeSlot → ∃ t, exec .bootVerify s = .next t ∧
      (verdict s (fwSlotOf s n).image true = .pass → t.boot.st = .fwBoot ∧ t.boot.fwRuns = true ∧ t.boot.fwSlot = n ∧
        t.boot.heldBells = [] ∧ (fwSlotOf t n).verified = true) ∧
      (verdict s (fwSlotOf s n).image true ≠ .pass → verdict s (fwSlotOf s (1 - n)).image true ≠ .pass →
        t.col.detected = s.col.detected ++ [{ raiseBlank 114 with ins := n }, { raiseBlank 114 with ins := 1 - n }] ∧
        (s.boot.bootSel ≠ 2 → t.boot.recovering = true) ∧ (s.boot.bootSel = 2 → t.boot.st = .failed ∧ t.boot.failSource = 114))) ∧
  (∀ s : State, s.boot.st = .linkReady → s.boot.fwRuns = false → s.boot.recovering = false → s.boot.bootSel = 1 →
    exec .bootVerify s = .next { s with boot := { s.boot with recovering := true } }) ∧
  (∀ (im : List Byte) (s : State), s.boot.recovering = true → ∃ t, exec (.recoveryBoot im) s = .next t ∧
    t.boot.recovering = false ∧ (recoveryOk s im = true → t.boot.st = .recovery ∧ t.boot.fwRuns = true) ∧
    (recoveryOk s im = false → t.boot.st = .failed ∧ t.boot.failSource = 114)) ∧
  (∀ s : State, s.boot.marchDone = false → s.boot.st = .linkReady ∨ s.boot.st = .fwBoot ∨ s.boot.st = .recovery →
    ∃ t, exec (.marchTestDone []) s = .next t ∧
      t = { s with boot := { s.boot with marchDone := true }, col := t.col, params := t.params } ∧
      ∀ n, n ≠ 60 → (srcRec t n).live = (srcRec s n).live ∧ (srcRec t n).sticky = (srcRec s n).sticky) ∧
  (∀ (q : Nat × Nat) (failed : Nat) (rfm : Bool) (s : State), s.boot.st = .dramTrain → devicesFit q = true → failed % 16 = 0 →
    ∃ t, exec (.dramTrainingDone [q, q, q, q] failed rfm) s = .next t ∧
      t.boot.st = .calibrating ∧ t.boot.dramTrained = true ∧ t.mem.rfm = rfm ∧ getP t 0x10 0 mMEM_CONFIG = word32 (memConfig q)) ∧
  (∀ (fitted : List (Nat × Nat)) (failed c : Nat) (rfm : Bool) (s : State), s.boot.st = .dramTrain → c < 4 →
    failed.testBit c = true ∨ devicesFit (nth (0, 0) fitted c) = false ∨ nth (0, 0) fitted c ≠ nth (0, 0) fitted 0 →
    ∃ t, exec (.dramTrainingDone fitted failed rfm) s = .next t ∧ t.boot.st = .failed ∧ t.boot.failSource = 64 ∧
      ({ raiseBlank 64 with ins := c } : Raise) ∈ t.col.detected) ∧
  (∀ s : State, s.boot.st = .calibrating → s.boot.userApplied = false → calsOver s = true →
    ∃ t, exec .castOnCalDone s = .next t ∧ t.boot.userApplied = true) ∧
  (∀ s : State, s.boot.st = .calibrating → s.boot.userApplied = true → ∃ t, exec .bootReady s = .next t ∧
    t.boot.st = .ready ∧ t.col.pinLow = (t.col.raisedSince || t.col.hostHolds || t.col.pulseEnd.isSome))

/-- 20 R418, Table 20-4: what SYS_RESET keeps and what it resets. -/
def Obligations.SysResetKeeps : Prop :=
  (∀ (r : Req) (s : State), mailboxOpen s r.slot = true → deferredSlots s = [] → ∃ t, exec (.sysReset r 0x5253) s = .next t ∧ answered t r.slot okBare ∧
    t.boot.st = .reset ∧ t.boot.rootLocked = true ∧ t.boot.warm = true ∧ t.boot.fwRuns = false ∧
    t.time.ticks = s.time.ticks ∧ t.link.endpointUp = s.link.endpointUp ∧ t.boot.rollback = s.boot.rollback ∧
    t.cal.regionR = s.cal.regionR ∧ t.cal.activeBank = s.cal.activeBank ∧
    t.link.msixTable = s.link.msixTable ∧
    t.col.pinLow = true ∧ t.col.store = s.col.store ∧ (∀ n, (srcRec t n).sticky = false) ∧
    (∀ a, controlArea a = true → memGet t.dram a = memGet s.dram a) ∧
    unitDark t = true ∧ t.staged = [] ∧ (∀ o, objAccess o ≠ 0 → kget paramReset t.params o = paramReset o)) ∧
  (∀ (r : Req) (confirm : Nat) (s : State), mailboxOpen s r.slot = true → confirm ≠ 0x5253 → s.boot.resetDue = false →
    Answers (.sysReset r confirm) r.slot s s (badField 0))

/-- 20 R424 to R427: the life of a firmware image. -/
def Obligations.FirmwareLife : Prop :=
  (∀ (r : Req) (n : Nat) (b : Bulk) (s : State), mailboxOpen s r.slot = true → n ≤ 1 → slotInUse s n = false →
    s.boot.staging = none → n ∉ s.boot.verifying → descriptorReady s 0 = true → bulkOk b = true →
    stageFault (bulkBytes s b) (bulkLen b) = none → ∃ s', Defers (.fwStage r n b) r.slot s s' .fwStage ∧
      s' = { s with boot := s'.boot } ∧ (fwSlotOf s' n).verified = false ∧
      s'.boot.staging = some (n, (bulkBytes s b).take (224 + imgBytes (bulkBytes s b)), bulkTag b)) ∧
  (∀ (n tag : Nat) (im : List Byte) (s : State), s.boot.staging = some (n, im, tag) → n ≤ 1 →
    ∃ t, exec (.fwStageDone true) s = .next t ∧ t.boot.staging = none ∧ fwSlotOf t n = ⟨im, false⟩ ∧
      fwSlotOf t (1 - n) = fwSlotOf s (1 - n) ∧ t.boot.rollback = s.boot.rollback) ∧
  (∀ (r : Req) (n : Nat) (s : State), mailboxOpen s r.slot = true → n ≤ 1 →
    s.boot.staging = none → n ∉ s.boot.verifying →
    Defers (.fwVerify r n) r.slot s { s with boot := { s.boot with verifying := s.boot.verifying ++ [n] } } (.fwVerify n)) ∧
  (∀ (n : Nat) (rest : List Nat) (s : State), s.boot.verifying = n :: rest → n ≤ 1 →
    ∃ t, exec .fwVerifyDone s = .next t ∧ t.boot.verifying = rest ∧ (fwSlotOf t n).image = (fwSlotOf s n).image ∧
      ((fwSlotOf t n).verified = true ↔ verdict s (fwSlotOf s n).image true = .pass) ∧
      (verdict s (fwSlotOf s n).image true = .auth → ({ raiseBlank 114 with ins := n } : Raise) ∈ t.col.detected)) ∧
  (∀ (r : Req) (n : Nat) (s : State), mailboxOpen s r.slot = true → n ≤ 1 → s.boot.resetDue = false → deferredSlots s = [] →
    (fwSlotOf s n).verified = true → ∃ t, exec (.fwActivate r n) s = .next t ∧ answered t r.slot okBare ∧
      t.boot.activation = some ⟨n, s.boot.fwSlot, nowClk s + 250000000, false⟩ ∧ t.boot.unlocked = false ∧
      t.boot.challenge = none ∧ t.staged = [] ∧ t.boot.rollback = s.boot.rollback) ∧
  (∀ (r : Req) (n : Nat) (s : State), mailboxOpen s r.slot = true → n ≤ 1 → s.boot.resetDue = false → deferredSlots s = [] →
    (fwSlotOf s n).verified = false → Answers (.fwActivate r n) r.slot s s (statusOnly 0x08)) ∧
  (∀ (a : Activation) (s : State), s.boot.activation = some a → a.fallback = false → a.deadline ≤ nowClk s →
    exec .fwFallback s = .next { s with
      boot := { s.boot with activation := some { a with fallback := true } }, col := (detect s (raiseBlank 112)).col } ∧
    (detect s (raiseBlank 112)).col.detected = s.col.detected ++ [raiseBlank 112]) ∧
  (∀ (a : Activation) (s : State), s.boot.activation = some a →
    a.fallback = true ∨ (verdict s (fwSlotOf s a.slot).image true = .pass ∧ nowClk s < a.deadline) →
    ∃ t, exec .fwActivationDone s = .next t ∧ t = { s with boot := t.boot, col := t.col, params := t.params } ∧
      t.boot.activation = none ∧ t.boot.fwSlot = (if a.fallback then a.before else a.slot) ∧
      t.boot.activeSlot = (if a.fallback then s.boot.activeSlot else a.slot) ∧
      t.boot.rollback = (if a.fallback then s.boot.rollback
        else max s.boot.rollback (min 64 (imgRollback (fwSlotOf s a.slot).image))))

/-- 20 R431, R432, Table 20-9 and the rules of the events that a bind-off waits for. -/
def Obligations.BindOffEnds : Prop :=
  (∀ (r : Req) (s : State), mailboxOpen s r.slot = true → deferredSlots s = [] → unitAtRest s = true →
    ∃ t, exec (.sysBindOff r) s = .next t ∧ answered t r.slot okBare ∧ t.boot.bindOff = none ∧ unitDark t = true) ∧
  (∀ (r : Req) (s : State), mailboxOpen s r.slot = true → deferredSlots s = [] → handsOver s = true → 0 < swapSpan s →
    ∃ t, exec (.sysBindOff r) s = .next t ∧ deferredFor t r.slot .bindOff ∧ t.boot.bindOff = some ⟨true, false, false, []⟩ ∧
      t.ports = s.ports ∧ t.pair = { s.pair with swapEnd := some (nowClk s + swapSpan s) }) ∧
  (∀ (r : Req) (p : Nat) (s : State), mailboxOpen s r.slot = true → deferredSlots s = [] → handsOver s = false → p ≤ 1 →
    (portOf s p).st = .draining ∨
      ((portOf s p).st = .running ∧ hasLaunched s p = true ∧ (portOf s p).drain = none ∧ (portOf s p).shotOpen = true) →
    ∃ t, exec (.sysBindOff r) s = .next t ∧ deferredFor t r.slot .bindOff ∧ t.boot.bindOff = some ⟨false, true, false, []⟩ ∧
      (portOf t p).st = (portOf s p).st ∧
      (portOf t p).stop = (if (portOf s p).st = .draining then .idle else .armed)) ∧
  (∀ (p : Nat) (d : Drain) (s : State), (portOf s p).drain = some d → d.change = false → d.endClk ≤ nowClk s →
    s.boot.bindOff = none → ∃ t, exec (.drainEnd p) s = .next t ∧ (portOf t p).drain = none) ∧
  (∀ s : State, s.boot.bindOff = none → s.pair.wave = true → s.pair.lapsed = true → ∃ t, exec .actWaveStop s = .next t ∧
    t.pair.wave = false) ∧
  (∀ s : State, s.boot.bindOff = none → s.pair.role = .releasing → s.pair.finalCut = true →
    ∃ t, exec .swapReleaseDone s = .next t ∧ t.pair.role = .standby ∧ t.pair.wave = false ∧ t.ports = s.ports) ∧
  (∀ (n : Nat) (s : State), s.boot.bindOff = none → n ≤ 3 → (loopOf s n).st = .releasing → (loopOf s n).releaseAt ≤ nowClk s →
    slotWaiting s (.loopRelease n) = none → ∃ t, exec (.loopReleaseEnd n) s = .next t ∧ (loopOf t n).st ≠ .releasing ∧
      (loopOf t n).drive = 0 ∧ ∀ m, m ≠ n → loopOf t m = loopOf s m) ∧
  (∀ (c : Nat) (s : State), s.boot.bindOff = none → (sdOf s c).st = .on → (sdOf s c).periodAt + sdPeriod s c ≤ nowClk s →
    ∃ t, exec (.sdCarrierPeriod c) s = .next t ∧ (sdOf t c).periodAt = (sdOf s c).periodAt + sdPeriod s c) ∧
  (∀ (r : Req) (c : Nat) (s : State), mailboxOpen s r.slot = true → c ≤ 7 → sdHeld s c = none → (sdOf s c).st = .off →
    sdKind s c ≠ 0 → ∃ t, exec (.srcEnable r c) s = .next t ∧ answered t r.slot okBare ∧ (sdOf t c).st = .on ∧
      ∀ d, d ≠ c → sdOf t d = sdOf s d)
end

