-- ==== Sys2Proof/Laws/Kept.lean ====
section
/-! SUPPORT. Laws/Kept.lean: what every operation and every command leaves alone of the queue, the two memories and the fuses, one
lemma for each. -/

set_option linter.all false

namespace Sys2Proof.Machine

/-- Queue, both memories and fuses are as before. -/
abbrev Kept (s t : State) : Prop :=
  t.pending = s.pending ∧ t.dram = s.dram ∧ t.link.hostMem = s.link.hostMem ∧ t.boot.rollback = s.boot.rollback

/-- The same where host memory may be written. -/
abbrev KeptH (s t : State) : Prop :=
  t.pending = s.pending ∧ t.dram = s.dram ∧ t.boot.rollback = s.boot.rollback
/-- The same where DRAM may be written. -/
abbrev KeptD (s t : State) : Prop :=
  t.pending = s.pending ∧ t.link.hostMem = s.link.hostMem ∧ t.boot.rollback = s.boot.rollback
/-- The same where fuses may blow. -/
abbrev KeptR (s t : State) : Prop :=
  t.pending = s.pending ∧ t.dram = s.dram ∧ t.link.hostMem = s.link.hostMem

/-- The queue and the fuses only. -/
abbrev KeptQ (s t : State) : Prop :=
  t.pending = s.pending ∧ t.boot.rollback = s.boot.rollback

theorem Kept.rfl' (s : State) : Kept s s := ⟨rfl, rfl, rfl, rfl⟩

theorem Kept.trans {a b c : State} (h : Kept a b) (k : Kept b c) : Kept a c :=
  ⟨k.1.trans h.1, k.2.1.trans h.2.1, k.2.2.1.trans h.2.2.1, k.2.2.2.trans h.2.2.2⟩

theorem Kept.ite {c : Prop} [Decidable c] {s a b : State} (h : Kept s a) (k : Kept s b) : Kept s (if c then a else b) := by
  by_cases hc : c
  · rw [if_pos hc]; exact h
  · rw [if_neg hc]; exact k

theorem foldl_pending {β : Type} (f : State → β → State) (h : ∀ s b, (f s b).pending = s.pending) (xs : List β) (s : State) :
    (xs.foldl f s).pending = s.pending := by
  induction xs generalizing s with
  | nil => rfl
  | cons x xs ih => rw [List.foldl_cons, ih, h]
theorem foldl_dram {β : Type} (f : State → β → State) (h : ∀ s b, (f s b).dram = s.dram) (xs : List β) (s : State) :
    (xs.foldl f s).dram = s.dram := by
  induction xs generalizing s with
  | nil => rfl
  | cons x xs ih => rw [List.foldl_cons, ih, h]
theorem foldl_hostMem {β : Type} (f : State → β → State) (h : ∀ s b, (f s b).link.hostMem = s.link.hostMem) (xs : List β) (s : State) :
    (xs.foldl f s).link.hostMem = s.link.hostMem := by
  induction xs generalizing s with
  | nil => rfl
  | cons x xs ih => rw [List.foldl_cons, ih, h]
theorem foldl_rollback {β : Type} (f : State → β → State) (h : ∀ s b, (f s b).boot.rollback = s.boot.rollback) (xs : List β) (s : State) :
    (xs.foldl f s).boot.rollback = s.boot.rollback := by
  induction xs generalizing s with
  | nil => rfl
  | cons x xs ih => rw [List.foldl_cons, ih, h]
theorem foldl_kept {β : Type} (f : State → β → State) (h : ∀ s b, Kept s (f s b)) (xs : List β) (s : State) :
    Kept s (xs.foldl f s) :=
  ⟨foldl_pending f (fun s b => (h s b).1) xs s, foldl_dram f (fun s b => (h s b).2.1) xs s,
    foldl_hostMem f (fun s b => (h s b).2.2.1) xs s, foldl_rollback f (fun s b => (h s b).2.2.2) xs s⟩

theorem KeptH.trans {a b c : State} (h : KeptH a b) (k : KeptH b c) : KeptH a c :=
  ⟨k.1.trans h.1, k.2.1.trans h.2.1, k.2.2.trans h.2.2⟩

theorem foldl_keptH {β : Type} (f : State → β → State) (h : ∀ s b, KeptH s (f s b)) (xs : List β) (s : State) :
    KeptH s (xs.foldl f s) :=
  ⟨foldl_pending f (fun s b => (h s b).1) xs s, foldl_dram f (fun s b => (h s b).2.1) xs s,
   foldl_rollback f (fun s b => (h s b).2.2) xs s⟩

@[simp] theorem setP_kept (s : State) (dom : Nat) (ins : Nat) (item : Nat) (v : Int) : Kept s (setP s dom ins item v) := by
  unfold setP
  simp [Kept]

@[simp] theorem bumpP_kept (s : State) (dom : Nat) (ins : Nat) (item : Nat) : Kept s (bumpP s dom ins item) := by
  unfold bumpP
  simp [Kept]

@[simp] theorem addP_kept (s : State) (dom : Nat) (ins : Nat) (item : Nat) (n : Nat) : Kept s (addP s dom ins item n) := by
  unfold addP
  simp [Kept]

@[simp] theorem stage_kept (s : State) (o : Nat) (v : Int) : Kept s (stage s o v) := by
  unfold stage
  simp [Kept]

@[simp] theorem applyStaged_kept (s : State) (f : Nat → Bool) : Kept s (applyStaged s f) := by
  unfold applyStaged
  simp [Kept]

@[simp] theorem resetItems_kept (s : State) (f : Nat → Bool) : Kept s (resetItems s f) := by
  unfold resetItems
  simp [Kept]

@[simp] theorem takeFree_kept (s : State) : Kept s (takeFree s).2 := by
  unfold takeFree
  simp [Kept]

@[simp] theorem takeFreeI_kept (s : State) : Kept s (takeFreeI s).2 := by
  unfold takeFreeI
  simp [Kept]

@[simp] theorem setSrcRec_kept (s : State) (src : Nat) (x : Source) : Kept s (setSrcRec s src x) := by
  unfold setSrcRec
  simp [Kept]

@[simp] theorem dropQuiet_kept (s : State) (src : Nat) : Kept s (dropQuiet s src) := by
  unfold dropQuiet
  (try dsimp only); split <;> simp [Kept]

@[simp] theorem detect_kept (s : State) (x : Raise) : Kept s (detect s x) := by
  unfold detect
  simp [Kept]

@[simp] theorem detectSrc_kept (s : State) (src : Nat) : Kept s (detectSrc s src) := by
  unfold detectSrc
  simp [Kept]

@[simp] theorem detectPort_kept (s : State) (src : Nat) (port : Nat) (ins : Nat) : Kept s (detectPort s src port ins) := by
  unfold detectPort
  simp [Kept]

@[simp] theorem quietIn_kept (s : State) (src : Nat) (ticks : Nat) : Kept s (quietIn s src ticks) := by
  unfold quietIn
  simp [Kept]

@[simp] theorem raiseVector_kept (s : State) (v : Nat) : Kept s (raiseVector s v) := by
  unfold raiseVector
  (try dsimp only); (repeat' split) <;> simp [Kept]

@[simp] theorem setBootSt_kept (s : State) (b : BootSt) : Kept s (setBootSt s b) := by
  unfold setBootSt
  simp [Kept]

@[simp] theorem setRing_kept (s : State) (r : Nat) (x : Ring) : Kept s (setRing s r x) := by
  unfold setRing
  simp [Kept]

@[simp] theorem queueFrame_kept (s : State) (r : Nat) (f : Frame) (last : Job) : Kept s (queueFrame s r f last) := by
  unfold queueFrame
  simp [Kept]

@[simp] theorem writeStatus_kept (s : State) (r : Nat) : KeptH s (writeStatus s r) := by
  unfold writeStatus
  simp [Kept, KeptH]

@[simp] theorem announce_kept (s : State) (r : Nat) : Kept s (announce s r) := by
  unfold announce
  (try dsimp only); split <;> simp [Kept]

@[simp] theorem hkClose_kept (s : State) (key : Nat) : Kept s (hkClose s key) := by
  unfold hkClose
  (try dsimp only); split <;> simp [Kept]

@[simp] theorem hkPutAt_kept (s : State) (key : Nat) (first : Nat) (rec : List Byte) (ts : Nat) : Kept s (hkPutAt s key first rec ts) := by
  unfold hkPutAt
  (try dsimp only); split <;> simp [Kept]

@[simp] theorem hkPut_kept (s : State) (key : Nat) (rec : List Byte) (ts : Nat) : Kept s (hkPut s key rec ts) := by
  unfold hkPut
  simp [Kept]

@[simp] theorem setSlot_kept (s : State) (n : Nat) (x : Slot) : Kept s (setSlot s n x) := by
  unfold setSlot
  simp [Kept]

@[simp] theorem writeResponse_kept (s : State) (n : Nat) (ph : SlotPhase) (job : Job) (r : Reply) : Kept s (writeResponse s n ph job r) := by
  unfold writeResponse
  (try dsimp only); split <;> simp [Kept]

@[simp] theorem finish_kept (s : State) (n : Nat) (r : Reply) : Kept s (finish s n r) := by
  unfold finish
  (try dsimp only); split <;> simp [Kept]

@[simp] theorem post_kept (s : State) (n : Nat) (x2 : Answer) : Kept s (post s n x2) := by
  unfold post
  (try dsimp only); split <;> simp [Kept]

@[simp] theorem complete_kept (s : State) (j : Job) (r : Reply) : Kept s (complete s j r) := by
  unfold complete
  (try dsimp only); split <;> simp [Kept]

@[simp] theorem abortDeferred_kept (s : State) (but : Option Nat) : Kept s (abortDeferred s but) := by
  unfold abortDeferred
  (try dsimp only); refine foldl_kept _ ?_ _ _; intro s b; (try dsimp only); (repeat' split) <;> simp [Kept]

@[simp] theorem busyDoorbell_kept (s : State) (n : Nat) : Kept s (busyDoorbell s n) := by
  unfold busyDoorbell
  simp [Kept]

@[simp] theorem accept_kept (s : State) (r : Req) (op : Nat) : Kept s (accept s r op) := by
  unfold accept
  simp [Kept]

@[simp] theorem mbxRun_kept (self : Instr) (r : Req) (op : Nat) (need : Bool) (body : State → State × Answer) (s : State)
    (h : ∀ s, Kept s (body s).1) : Kept s (mbxRun self r op need body s) := by
  have h1 := fun s => (h s).1
  have h2 := fun s => (h s).2.1
  have h3 := fun s => (h s).2.2.1
  have h4 := fun s => (h s).2.2.2
  unfold mbxRun
  (try dsimp only); (repeat' split) <;> simp [Kept, h1, h2, h3, h4]

/-- The same of a body that may write host memory. -/
@[simp] theorem mbxRun_keptH (self : Instr) (r : Req) (op : Nat) (need : Bool) (body : State → State × Answer) (s : State)
    (h : ∀ s, KeptH s (body s).1) : KeptH s (mbxRun self r op need body s) := by
  have h1 := fun s => (h s).1
  have h2 := fun s => (h s).2.1
  have h4 := fun s => (h s).2.2
  unfold mbxRun
  (try dsimp only); (repeat' split) <;> simp [Kept, KeptH, h1, h2, h4]

@[simp] theorem reply_kept (s : State) (r : Reply) : Kept s (reply s r).1 := by
  unfold reply
  simp [Kept]

@[simp] theorem takeDescriptor_kept (s : State) (h : Nat) : KeptH s (takeDescriptor s h) := by
  unfold takeDescriptor
  (try dsimp only); (repeat' split) <;> simp [Kept, KeptH]

@[simp] theorem violation_kept (s : State) (slot : Nat) : Kept s (violation s slot) := by
  unfold violation
  simp [Kept]

@[simp] theorem makeRoom_kept (s : State) : Kept s (makeRoom s) := by
  unfold makeRoom
  (try dsimp only); split <;> simp [Kept]

@[simp] theorem setBehind_kept (s : State) : Kept s (setBehind s) := by
  unfold setBehind
  (try dsimp only); split <;> simp [Kept]

@[simp] theorem closeJournal_kept (s : State) : Kept s (closeJournal s) := by
  unfold closeJournal
  (try dsimp only); split <;> simp [Kept]

@[simp] theorem appendEntry_kept (s : State) (e : JEntry) : Kept s (appendEntry s e) := by
  unfold appendEntry
  (try dsimp only); (repeat' split) <;> simp [Kept]

@[simp] theorem writeEntry_kept (s : State) (e : JEntry) : Kept s (writeEntry s e) := by
  unfold writeEntry
  simp [Kept]

@[simp] theorem dropEntry_kept (s : State) (src : Nat) : Kept s (dropEntry s src) := by
  unfold dropEntry
  simp [Kept]

@[simp] theorem journalEvent_kept (s : State) (e : JEntry) (x : Raise) : Kept s (journalEvent s e x) := by
  unfold journalEvent
  (try dsimp only); (repeat' split) <;> simp [Kept]

@[simp] theorem dropEndedActions_kept (s : State) : Kept s (dropEndedActions s) := by
  unfold dropEndedActions
  simp [Kept]

@[simp] theorem uncover_kept (s : State) (src : Nat) : Kept s (uncover s src) := by
  unfold uncover
  simp [Kept]

@[simp] theorem pulseFaultN_kept (s : State) : Kept s (pulseFaultN s) := by
  unfold pulseFaultN
  simp [Kept]

@[simp] theorem setLive_kept (s : State) (ts : Nat) (x : Raise) : Kept s (setLive s ts x) := by
  unfold setLive
  (try dsimp only); split <;> simp [Kept]

@[simp] theorem startAction_kept (s : State) (newly : List Raise) : Kept s (startAction s newly).1 := by
  unfold startAction
  (try dsimp only); (repeat' split) <;> simp [Kept]

@[simp] theorem raiseEntry_kept (s : State) (ts : Nat) (same : Bool) (merged : Bool) (x : Raise) : Kept s (raiseEntry s ts same merged x) := by
  unfold raiseEntry
  simp [Kept]

@[simp] theorem registerRaises_kept (s : State) : Kept s (registerRaises s) := by
  unfold registerRaises
  (try dsimp only); (repeat' split) <;> simp [Kept, foldl_pending, foldl_dram, foldl_hostMem, foldl_rollback]

@[simp] theorem clearLive_kept (s : State) (src : Nat) : Kept s (clearLive s src) := by
  unfold clearLive
  (try dsimp only); (repeat' split) <;> simp [Kept]

@[simp] theorem clearSticky_kept (s : State) (srcs : List Nat) : Kept s (clearSticky s srcs) := by
  unfold clearSticky
  (try dsimp only); refine foldl_kept _ ?_ _ _; intro s b; (try dsimp only); (repeat' split) <;> simp [Kept]

@[simp] theorem leaveLive_kept (s : State) (x : Snag) : Kept s (leaveLive s x) := by
  unfold leaveLive
  split
  · exact foldl_kept _ (fun s n => by split <;> simp [Kept]) _ s
  · exact Kept.rfl' s

@[simp] theorem endSnag_kept (s : State) (x : Snag) : Kept s (endSnag s x) := by
  unfold endSnag
  (try dsimp only); (repeat' split) <;> simp [Kept]

@[simp] theorem modSnag_kept (s : State) (num : Nat) (target : Nat) (f : Snag → Snag) : Kept s (modSnag s num target f) := by
  unfold modSnag
  simp [Kept]

@[simp] theorem settleSnag_kept (s : State) (num : Nat) (target : Nat) : Kept s (settleSnag s num target) := by
  unfold settleSnag
  (try dsimp only); (repeat' split) <;> simp [Kept]

@[simp] theorem spendSnag_kept (s : State) (num : Nat) (target : Nat) : Kept s (spendSnag s num target) := by
  unfold spendSnag
  simp [Kept]

@[simp] theorem calSet_kept (s : State) (dom : Nat) (ins : Nat) (x : CalRec) : Kept s (calSet s dom ins x) := by
  unfold calSet
  simp [Kept]

@[simp] theorem calBegin_kept (s : State) (dom : Nat) (ins : Nat) (st : CalSt) : Kept s (calBegin s dom ins st) := by
  unfold calBegin
  simp [Kept]

@[simp] theorem calFail_kept (s : State) (dom : Nat) (ins : Nat) : Kept s (calFail s dom ins) := by
  unfold calFail
  simp [Kept]

@[simp] theorem calEndAll_kept (s : State) (dom : Nat) : Kept s (calEndAll s dom) := by
  unfold calEndAll
  (try dsimp only); split <;> simp [Kept]

@[simp] theorem calEnd_kept (s : State) (dom : Nat) (ins : Nat) : Kept s (calEnd s dom ins) := by
  unfold calEnd
  (try dsimp only); split <;> simp [Kept]

@[simp] theorem calAbortRun_kept (s : State) (dom : Nat) (ins : Nat) : Kept s (calAbortRun s dom ins) := by
  unfold calAbortRun
  (try dsimp only); split <;> simp [Kept]

@[simp] theorem repairAdd_kept (s : State) (u : RepairUnit) : Kept s (repairAdd s u) := by
  unfold repairAdd
  (try dsimp only); split <;> simp [Kept]

@[simp] theorem repairDrop_kept (s : State) (u : RepairUnit) : Kept s (repairDrop s u) := by
  unfold repairDrop
  simp [Kept]

@[simp] theorem setPort_kept (s : State) (p : Nat) (x : Port) : Kept s (setPort s p x) := by
  unfold setPort
  simp [Kept]

@[simp] theorem modPort_kept (s : State) (p : Nat) (f : Port → Port) : Kept s (modPort s p f) := by
  unfold modPort
  simp [Kept]

@[simp] theorem raiseOnce_kept (s : State) (x : Raise) : Kept s (raiseOnce s x) := by
  unfold raiseOnce
  (try dsimp only); split <;> simp [Kept]

@[simp] theorem clearIf_kept (s : State) (src : Nat) : Kept s (clearIf s src) := by
  unfold clearIf
  simp [Kept]

@[simp] theorem setTdc_kept (s : State) (c : Nat) (x : TdcChan) : Kept s (setTdc s c x) := by
  unfold setTdc
  simp [Kept]

theorem popMeas_kept (s t : State) (c : Nat) (m : Meas) (h : popMeas s c = some (m, t)) : Kept s t := by
  unfold popMeas at h
  split at h <;> simp at h
  rw [← h.2]; exact setTdc_kept s c _

@[simp] theorem planReports_kept (s : State) (p : Nat) : Kept s (planReports s p) := by
  unfold planReports
  simp [Kept]

@[simp] theorem phaseRestart_kept (s : State) (p : Nat) : Kept s (phaseRestart s p) := by
  unfold phaseRestart
  simp [Kept]

@[simp] theorem breakRestart_kept (s : State) (p : Nat) : Kept s (breakRestart s p) := by
  unfold breakRestart
  (try dsimp only); split <;> simp [Kept]

@[simp] theorem setHyb_kept (s : State) (p : Nat) (tick : Nat) (hx : Hyb) (hy : Hyb) : Kept s (setHyb s p tick hx hy) := by
  unfold setHyb
  simp [Kept]

@[simp] theorem hybRestart_kept (s : State) (p : Nat) : Kept s (hybRestart s p) := by
  unfold hybRestart
  simp [Kept]

@[simp] theorem modRaman_kept (s : State) (p : Nat) (f : Raman → Raman) : Kept s (modRaman s p f) := by
  unfold modRaman
  simp [Kept]

@[simp] theorem fusionTake_kept (s : State) (p : Nat) (r : PhaseRow) : Kept s (fusionTake s p r) := by
  unfold fusionTake
  simp [Kept]

@[simp] theorem putItems_kept (s : State) (vals : List (Nat × Int)) : Kept s (putItems s vals) := by
  unfold putItems
  simp [Kept, foldl_pending, foldl_dram, foldl_hostMem, foldl_rollback]

@[simp] theorem ramanItemsApply_kept (s : State) (p : Nat) : Kept s (ramanItemsApply s p) := by
  unfold ramanItemsApply
  simp [Kept]

theorem underOld_kept (s : State) (f : State → State) (h : ∀ s, Kept s (f s)) : Kept s (underOld s f) := by
  have h1 := fun s => (h s).1
  have h2 := fun s => (h s).2.1
  have h3 := fun s => (h s).2.2.1
  have h4 := fun s => (h s).2.2.2
  unfold underOld
  simp [Kept, h1, h2, h3, h4]

@[simp] theorem intervalBegins_kept (s : State) (p : Nat) (t : Nat) : Kept s (intervalBegins s p t) := by
  unfold intervalBegins
  (try dsimp only); split <;> simp [Kept]

@[simp] theorem intervalEnds_kept (s : State) (p : Nat) (t : Nat) : Kept s (intervalEnds s p t) := by
  unfold intervalEnds
  (try dsimp only); (repeat' split) <;> simp [Kept]

@[simp] theorem ramanDiscard_kept (s : State) (p : Nat) : Kept s (ramanDiscard s p) := by
  unfold ramanDiscard
  simp [Kept]

@[simp] theorem fusionOnPlan_kept (s : State) (p : Nat) (vals : List (Nat × Int)) : Kept s (fusionOnPlan s p vals) := by
  unfold fusionOnPlan
  (try dsimp only); (repeat' split) <;> simp [Kept]

@[simp] theorem setZone_kept (s : State) (z : Nat) (x : Zone) : Kept s (setZone s z x) := by
  unfold setZone
  simp [Kept]

@[simp] theorem modZone_kept (s : State) (z : Nat) (f : Zone → Zone) : Kept s (modZone s z f) := by
  unfold modZone
  simp [Kept]

@[simp] theorem dropZoneFrame_kept (s : State) (r : Nat) (qs : List QFrame) : Kept s (dropZoneFrame s r qs) := by
  unfold dropZoneFrame
  simp [Kept]

@[simp] theorem shedZoneFrames_kept (n : Nat) (s : State) : Kept s (shedZoneFrames n s) := by
  induction n generalizing s with
  | zero => exact Kept.rfl' s
  | succ n ih =>
    have h1 := fun s => (ih s).1
    have h2 := fun s => (ih s).2.1
    have h3 := fun s => (ih s).2.2.1
    have h4 := fun s => (ih s).2.2.2
    unfold shedZoneFrames
    (repeat' split) <;> simp [Kept, h1, h2, h3, h4]

@[simp] theorem queueZone_kept (s : State) (z : Nat) (f : Frame) : Kept s (queueZone s z f) := by
  unfold queueZone
  simp [Kept]

@[simp] theorem handFrame_kept (s : State) (z : Nat) (f : Frame) : Kept s (handFrame s z f) := by
  unfold handFrame
  (try dsimp only); split <;> simp [Kept]

@[simp] theorem closeZoneFrame_kept (s : State) (z : Nat) : Kept s (closeZoneFrame s z) := by
  unfold closeZoneFrame
  (try dsimp only); split <;> simp [Kept]

@[simp] theorem splitRow_kept (s : State) (z ts : Nat) (valid : Bool) (n q : Nat) (xs : List QVal) :
    Kept s (splitRow s z ts valid n q xs) := by
  induction n generalizing s q xs with
  | zero => exact Kept.rfl' s
  | succ n ih =>
    have h1 := fun s q xs => (ih s q xs).1
    have h2 := fun s q xs => (ih s q xs).2.1
    have h3 := fun s q xs => (ih s q xs).2.2.1
    have h4 := fun s q xs => (ih s q xs).2.2.2
    unfold splitRow
    dsimp only
    split <;> simp [Kept, h1, h2, h3, h4]

@[simp] theorem frameRow_kept (s : State) (z : Nat) (r : ZRow) (first : Bool) : Kept s (frameRow s z r first) := by
  unfold frameRow
  (try dsimp only); (repeat' split) <;> simp [Kept]

@[simp] theorem zoneReset_kept (s : State) (z : Nat) (label : Nat) : Kept s (zoneReset s z label) := by
  unfold zoneReset
  simp [Kept]

@[simp] theorem zoneBuild_kept (s : State) (z : Nat) : Kept s (zoneBuild s z) := by
  unfold zoneBuild
  simp [Kept]

@[simp] theorem zoneApply_kept (s : State) (z : Nat) (vals : List (Nat × Int)) : Kept s (zoneApply s z vals) := by
  unfold zoneApply
  simp [Kept, foldl_pending, foldl_dram, foldl_hostMem, foldl_rollback]

@[simp] theorem zoneSwitch_kept (s : State) (z : Nat) : Kept s (zoneSwitch s z) := by
  unfold zoneSwitch
  simp [Kept]

@[simp] theorem zoneStopped_kept (s : State) (z : Nat) : Kept s (zoneStopped s z) := by
  unfold zoneStopped
  (try dsimp only); split <;> simp [Kept]

@[simp] theorem zoneOldEnds_kept (s : State) (z : Nat) : Kept s (zoneOldEnds s z) := by
  unfold zoneOldEnds
  simp [Kept]

@[simp] theorem zonesPlanInForce_kept (s : State) (p : Nat) : Kept s (zonesPlanInForce s p) := by
  unfold zonesPlanInForce
  (try dsimp only); refine foldl_kept _ ?_ _ _; intro s b; (try dsimp only); (repeat' split) <;> simp [Kept]

@[simp] theorem zonesPortStarted_kept (s : State) (p : Nat) : Kept s (zonesPortStarted s p) := by
  unfold zonesPortStarted
  (try dsimp only); refine foldl_kept _ ?_ _ _; intro s b; (try dsimp only); (repeat' split) <;> simp [Kept]

@[simp] theorem zonesPortStopped_kept (s : State) (p : Nat) : Kept s (zonesPortStopped s p) := by
  unfold zonesPortStopped
  (try dsimp only); refine foldl_kept _ ?_ _ _; intro s b; (try dsimp only); (repeat' split) <;> simp [Kept]

@[simp] theorem zonesTakePhase_kept (s : State) (p : Nat) (r : PhaseRow) : Kept s (zonesTakePhase s p r) := by
  unfold zonesTakePhase
  (try dsimp only); refine foldl_kept _ ?_ _ _; intro s b; (try dsimp only); (repeat' split) <;> simp [Kept]

@[simp] theorem zonesTakeTemp_kept (s : State) (p : Nat) (product : Nat) (r : TRow) : Kept s (zonesTakeTemp s p product r) := by
  unfold zonesTakeTemp
  (try dsimp only); refine foldl_kept _ ?_ _ _; intro s b; (try dsimp only); (repeat' split) <;> simp [Kept]

@[simp] theorem modLoop_kept (s : State) (n : Nat) (f : Loop → Loop) : Kept s (modLoop s n f) := by
  unfold modLoop
  simp [Kept]

@[simp] theorem loopDrive_kept (s : State) (n : Nat) (set : Int) : Kept s (loopDrive s n set) := by
  unfold loopDrive
  simp [Kept]

@[simp] theorem loopToFault_kept (s : State) (n : Nat) : Kept s (loopToFault s n) := by
  unfold loopToFault
  simp [Kept]

@[simp] theorem loopsWatch_kept (s : State) : Kept s (loopsWatch s) := by
  unfold loopsWatch
  simp [Kept]

@[simp] theorem loopsFault_kept (s : State) : Kept s (loopsFault s) := by
  unfold loopsFault
  (try dsimp only); refine foldl_kept _ ?_ _ _; intro s b; (try dsimp only); (repeat' split) <;> simp [Kept]

@[simp] theorem loopStart_kept (s : State) (n : Nat) : Kept s (loopStart s n) := by
  unfold loopStart
  simp [Kept]

@[simp] theorem loopsHold_kept (s : State) : Kept s (loopsHold s) := by
  unfold loopsHold
  (try dsimp only); refine foldl_kept _ ?_ _ _; intro s b; (try dsimp only); (repeat' split) <;> simp [Kept]

@[simp] theorem loopRelease_kept (s : State) (n : Nat) : Kept s (loopRelease s n) := by
  unfold loopRelease
  (try dsimp only); split <;> simp [Kept]

theorem execFaultRaise_kept (s : State) : ∃ t, execFaultRaise s = .next t ∧ Kept s t := by
  unfold execFaultRaise
  (try dsimp only); (repeat' split) <;> (refine ⟨_, rfl, ?_⟩; simp [Kept])

@[simp] theorem endWindow_kept (s : State) : Kept s (endWindow s) := by
  unfold endWindow
  simp [Kept]

theorem execActionWindowEnd_kept (s : State) : ∃ t, execActionWindowEnd s = .next t ∧ Kept s t := by
  unfold execActionWindowEnd
  (try dsimp only); (repeat' split) <;> (refine ⟨_, rfl, ?_⟩; simp [Kept])

theorem execFaultQuietTimer_kept (src : Nat) (s : State) : ∃ t, execFaultQuietTimer src s = .next t ∧ Kept s t := by
  unfold execFaultQuietTimer
  (try dsimp only); (repeat' split) <;> (refine ⟨_, rfl, ?_⟩; simp [Kept])

@[simp] theorem endPulse_kept (s : State) : Kept s (endPulse s) := by
  unfold endPulse
  simp [Kept]

theorem execFaultNPulseEnd_kept (s : State) : ∃ t, execFaultNPulseEnd s = .next t ∧ Kept s t := by
  unfold execFaultNPulseEnd
  (try dsimp only); (repeat' split) <;> (refine ⟨_, rfl, ?_⟩; simp [Kept])

@[simp] theorem refillTokens_kept (s : State) : Kept s (refillTokens s) := by
  unfold refillTokens
  simp [Kept]

theorem execTokenRefill_kept (s : State) : ∃ t, execTokenRefill s = .next t ∧ Kept s t := by
  unfold execTokenRefill
  (try dsimp only); (repeat' split) <;> (refine ⟨_, rfl, ?_⟩; simp [Kept])

@[simp] theorem summaryOf_kept (s : State) (src : Nat) (c : Coal) : Kept s (summaryOf s src c) := by
  unfold summaryOf
  (try dsimp only); split <;> simp [Kept]

@[simp] theorem writeSummaries_kept (s : State) : Kept s (writeSummaries s) := by
  unfold writeSummaries
  simp [Kept, foldl_pending, foldl_dram, foldl_hostMem, foldl_rollback]

theorem execJournalSummaryTick_kept (s : State) : ∃ t, execJournalSummaryTick s = .next t ∧ Kept s t := by
  unfold execJournalSummaryTick
  (try dsimp only); (repeat' split) <;> (refine ⟨_, rfl, ?_⟩; simp [Kept])

@[simp] theorem clearBehind_kept (s : State) : Kept s (clearBehind s) := by
  unfold clearBehind
  (try dsimp only); split <;> simp [Kept]

theorem execJournalFrameClose_kept (s : State) : ∃ t, execJournalFrameClose s = .next t ∧ Kept s t := by
  unfold execJournalFrameClose
  (try dsimp only); (repeat' split) <;> (refine ⟨_, rfl, ?_⟩; simp [Kept])

@[simp] theorem journalDelivered_kept (s : State) : Kept s (journalDelivered s) := by
  unfold journalDelivered
  (try dsimp only); split <;> simp [Kept]

theorem execFwWatchdogExpiry_kept (s : State) : ∃ t, execFwWatchdogExpiry s = .next t ∧ Kept s t := by
  unfold execFwWatchdogExpiry
  (try dsimp only); (repeat' split) <;> (refine ⟨_, rfl, ?_⟩; simp [Kept])

@[simp] theorem bodyFaultRead_kept (first : Nat) (count : Nat) (s : State) : Kept s (bodyFaultRead first count s).1 := by
  unfold bodyFaultRead
  (try dsimp only); (repeat' split) <;> simp [Kept]

theorem execFaultRead_kept (r : Req) (first : Nat) (count : Nat) (s : State) : ∃ t, execFaultRead r first count s = .next t ∧ Kept s t := by
  unfold execFaultRead
  refine ⟨_, rfl, ?_⟩; simp [Kept]

@[simp] theorem bodyFaultSeverity_kept (src : Nat) (sev : Nat) (s : State) : Kept s (bodyFaultSeverity src sev s).1 := by
  unfold bodyFaultSeverity
  (try dsimp only); (repeat' split) <;> simp [Kept]

theorem execFaultSeverity_kept (r : Req) (src : Nat) (sev : Nat) (s : State) : ∃ t, execFaultSeverity r src sev s = .next t ∧ Kept s t := by
  unfold execFaultSeverity
  refine ⟨_, rfl, ?_⟩; simp [Kept]

@[simp] theorem commitCollector_kept (s : State) : Kept s (commitCollector s).1 := by
  unfold commitCollector
  simp [Kept]

theorem execFaultJournalCfg_kept (r : Req) (s : State) : ∃ t, execFaultJournalCfg r s = .next t ∧ Kept s t := by
  unfold execFaultJournalCfg
  refine ⟨_, rfl, ?_⟩; simp [Kept]

@[simp] theorem bodyFaultPinRelease_kept (action : Nat) (s : State) : Kept s (bodyFaultPinRelease action s).1 := by
  unfold bodyFaultPinRelease
  (try dsimp only); (repeat' split) <;> simp [Kept]

theorem execFaultPinRelease_kept (r : Req) (action : Nat) (s : State) : ∃ t, execFaultPinRelease r action s = .next t ∧ Kept s t := by
  unfold execFaultPinRelease
  refine ⟨_, rfl, ?_⟩; simp [Kept]

@[simp] theorem flushHeld_kept (s : State) : Kept s (flushHeld s) := by
  unfold flushHeld
  (try dsimp only); refine foldl_kept _ ?_ _ _; intro s b; (try dsimp only); (repeat' split) <;> simp [Kept]

@[simp] theorem endAllSnags_kept (s : State) : Kept s (endAllSnags s) := by
  unfold endAllSnags
  simp [Kept, foldl_pending, foldl_dram, foldl_hostMem, foldl_rollback]

@[simp] theorem bodyDiagSnagSet_kept (num : Nat) (args : List Byte) (s : State) : Kept s (bodyDiagSnagSet num args s).1 := by
  unfold bodyDiagSnagSet
  (try dsimp only); (repeat' split) <;> simp [Kept, foldl_pending, foldl_dram, foldl_hostMem, foldl_rollback]

theorem execDiagSnagSet_kept (r : Req) (snag : Nat) (args : List Byte) (s : State) : ∃ t, execDiagSnagSet r snag args s = .next t ∧ Kept s t := by
  unfold execDiagSnagSet
  refine ⟨_, rfl, ?_⟩; simp [Kept]

@[simp] theorem bodyDiagSnagClear_kept (snag : Nat) (s : State) : Kept s (bodyDiagSnagClear snag s).1 := by
  unfold bodyDiagSnagClear
  (try dsimp only); (repeat' split) <;> simp [Kept, foldl_pending, foldl_dram, foldl_hostMem, foldl_rollback]

theorem execDiagSnagClear_kept (r : Req) (snag : Nat) (s : State) : ∃ t, execDiagSnagClear r snag s = .next t ∧ Kept s t := by
  unfold execDiagSnagClear
  refine ⟨_, rfl, ?_⟩; simp [Kept]

@[simp] theorem applySnag_kept (s : State) (x : Snag) : Kept s (applySnag s x) := by
  unfold applySnag
  (try dsimp only); (repeat' split) <;> simp [Kept]

theorem execSnagApply_kept (num : Nat) (target : Nat) (s : State) : ∃ t, execSnagApply num target s = .next t ∧ Kept s t := by
  unfold execSnagApply
  (try dsimp only); (repeat' split) <;> (refine ⟨_, rfl, ?_⟩; simp [Kept])

theorem execSnagLiveExpiry_kept (num : Nat) (target : Nat) (s : State) : ∃ t, execSnagLiveExpiry num target s = .next t ∧ Kept s t := by
  unfold execSnagLiveExpiry
  (try dsimp only); (repeat' split) <;> (refine ⟨_, rfl, ?_⟩; simp [Kept, foldl_pending, foldl_dram, foldl_hostMem, foldl_rollback])

theorem execSnagEffectEnd_kept (num : Nat) (target : Nat) (s : State) : ∃ t, execSnagEffectEnd num target s = .next t ∧ Kept s t := by
  unfold execSnagEffectEnd
  (try dsimp only); (repeat' split) <;> (refine ⟨_, rfl, ?_⟩; simp [Kept])

@[simp] theorem setSk_kept (s : State) (k : Nat) (x : Skein) : Kept s (setSk s k x) := by
  unfold setSk
  simp [Kept]

@[simp] theorem modSk_kept (s : State) (k : Nat) (f : Skein → Skein) : Kept s (modSk s k f) := by
  unfold modSk
  simp [Kept]

@[simp] theorem skeinsLaunch_kept (s : State) (p : Nat) (l : Launch) : Kept s (skeinsLaunch s p l) := by
  unfold skeinsLaunch
  (try dsimp only); refine foldl_kept _ ?_ _ _; intro s b; (try dsimp only); (repeat' split) <;> simp [Kept]

@[simp] theorem skeinsMark_kept (s : State) (p : Nat) (at_ : Nat) (kind : MarkKind) : Kept s (skeinsMark s p at_ kind) := by
  unfold skeinsMark
  simp [Kept, foldl_pending, foldl_dram, foldl_hostMem, foldl_rollback]

@[simp] theorem skeinsHole_kept (s : State) (p : Nat) (units : List Nat) : Kept s (skeinsHole s p units) := by
  unfold skeinsHole
  simp [Kept, foldl_pending, foldl_dram, foldl_hostMem, foldl_rollback]

@[simp] theorem skeinsStopped_kept (s : State) (p : Nat) : Kept s (skeinsStopped s p) := by
  unfold skeinsStopped
  simp [Kept, foldl_pending, foldl_dram, foldl_hostMem, foldl_rollback]

@[simp] theorem skeinsZoneOff_kept (s : State) (z : Nat) : Kept s (skeinsZoneOff s z) := by
  unfold skeinsZoneOff
  simp [Kept, foldl_pending, foldl_dram, foldl_hostMem, foldl_rollback]

@[simp] theorem skeinsRow_kept (s : State) (z : Nat) (r : ZRow) : Kept s (skeinsRow s z r) := by
  unfold skeinsRow
  simp [Kept, foldl_pending, foldl_dram, foldl_hostMem, foldl_rollback]

@[simp] theorem pulseTrigOut_kept (s : State) (k : Nat) (rise : Nat) : Kept s (pulseTrigOut s k rise) := by
  unfold pulseTrigOut
  (try dsimp only); split <;> simp [Kept]

@[simp] theorem openCapture_kept (s : State) (k : Nat) (t : Nat) (mask : Nat) (rise : Nat) : Kept s (openCapture s k t mask rise) := by
  unfold openCapture
  simp [Kept]

@[simp] theorem skeinCondition_kept (s : State) (k : Nat) (t : Nat) (mask : Nat) (rise : Nat) : Kept s (skeinCondition s k t mask rise) := by
  unfold skeinCondition
  (try dsimp only); (repeat' split) <;> simp [Kept]

@[simp] theorem skeinTrigin_kept (s : State) (pin : Nat) (ts : Nat) (tick : Nat) : Kept s (skeinTrigin s pin ts tick) := by
  unfold skeinTrigin
  simp [Kept, foldl_pending, foldl_dram, foldl_hostMem, foldl_rollback]

@[simp] theorem skeinDetector_kept (s : State) (det : Nat) (ts : Nat) : Kept s (skeinDetector s det ts) := by
  unfold skeinDetector
  (try dsimp only); refine foldl_kept _ ?_ _ _; intro s b; (try dsimp only); (repeat' split) <;> simp [Kept]

@[simp] theorem clearDmaSources_kept (s : State) (r : Nat) : Kept s (clearDmaSources s r) := by
  unfold clearDmaSources
  (try dsimp only); refine foldl_kept _ ?_ _ _; intro s b; (try dsimp only); (repeat' split) <;> simp [Kept]

@[simp] theorem ringStart_kept (s : State) (r : Nat) : KeptH s (ringStart s r) := by
  unfold ringStart
  (try dsimp only); split <;> simp [Kept, KeptH]

@[simp] theorem settleRing_kept (s : State) (r : Nat) (works : Bool) : KeptH s (settleRing s r works) := by
  unfold settleRing
  (try dsimp only); (repeat' split) <;> simp [Kept, KeptH]

@[simp] theorem setCore_kept (s : State) (c : Nat) (k : Core) : Kept s (setCore s c k) := by
  unfold setCore
  simp [Kept]

@[simp] theorem modCore_kept (s : State) (c : Nat) (f : Core → Core) : Kept s (modCore s c f) := by
  unfold modCore
  simp [Kept]

@[simp] theorem setUse_kept (s : State) (c : Nat) (u : CoreUse) : Kept s (setUse s c u) := by
  unfold setUse
  simp [Kept]

@[simp] theorem setKrn_kept (s : State) (n : Nat) (x : UserSlot) : Kept s (setKrn s n x) := by
  unfold setKrn
  simp [Kept]

@[simp] theorem modKrn_kept (s : State) (n : Nat) (f : UserSlot → UserSlot) : Kept s (modKrn s n f) := by
  unfold modKrn
  simp [Kept]

@[simp] theorem startKernel_kept (s : State) (n : Nat) (c : Nat) (i : KrnImage) : Kept s (startKernel s n c i) := by
  unfold startKernel
  simp [Kept]

@[simp] theorem krnDrop_kept (s : State) (n : Nat) (count : Nat) : Kept s (krnDrop s n count) := by
  unfold krnDrop
  (try dsimp only); split <;> simp [Kept]

@[simp] theorem ringRow_kept (s : State) (n : Nat) (i : Nat) (shadow : Bool) (label : Nat) (body : List Byte) : Kept s (ringRow s n i shadow label body) := by
  unfold ringRow
  (try dsimp only); (repeat' split) <;> simp [Kept]

@[simp] theorem kernelsRow_kept (s : State) (z : Nat) (r : ZRow) : Kept s (kernelsRow s z r) := by
  unfold kernelsRow
  extract_lets body
  refine foldl_kept _ (fun s n => ?_) _ _
  split
  · exact Kept.rfl' s
  · refine foldl_kept _ (fun s i => ?_) _ _
    extract_lets x sh
    split
    · split
      · simp [Kept]
      · exact Kept.rfl' s
    · exact Kept.rfl' s

@[simp] theorem dropShadow_kept (s : State) (n : Nat) : KeptH s (dropShadow s n) := by
  unfold dropShadow
  (try dsimp only); (repeat' split) <;> simp [Kept, KeptH]

@[simp] theorem coreFault_kept (s : State) (c : Nat) : Kept s (coreFault s c) := by
  unfold coreFault
  (try dsimp only); split <;> simp [Kept]

@[simp] theorem krnTrap_kept (s : State) (n : Nat) (cause : Nat) (pc : Nat) : KeptH s (krnTrap s n cause pc) := by
  unfold krnTrap
  dsimp only
  generalize hx : detect _ _ = x
  have h : Kept s x := by subst hx; simp [Kept]
  have k : KeptH x (complete (modKrn (dropShadow x n) n (fun x => { x with st := .trapped, stopping := false }))
      (.krnStop n) (statusOnly stAborted)) := by simp [Kept, KeptH]
  exact ⟨k.1.trans h.1, k.2.1.trans h.2.1, k.2.2.trans h.2.2.2⟩

@[simp] theorem coreTrap_kept (s : State) (c : Nat) (cause : Nat) : KeptH s (coreTrap s c cause) := by
  unfold coreTrap
  (try dsimp only); split <;> simp [Kept, KeptH]

@[simp] theorem setStats_kept (s : State) (p : Nat) (x : PortStats) : Kept s (setStats s p x) := by
  unfold setStats
  simp [Kept]

@[simp] theorem statsTake_kept (s : State) (p : Nat) (r : PhaseRow) : Kept s (statsTake s p r) := by
  unfold statsTake
  simp [Kept]

@[simp] theorem modEntry_kept (s : State) (n : Nat) (f : EntryData → EntryData) : Kept s (modEntry s n f) := by
  unfold modEntry
  simp [Kept]

@[simp] theorem modFe_kept (s : State) (f : FrontEnd → FrontEnd) : Kept s (modFe s f) := by
  unfold modFe
  simp [Kept]

@[simp] theorem feAmps_kept (s : State) (e : ChartEntry) : Kept s (feAmps s e).2 := by
  unfold feAmps
  (try dsimp only); split <;> simp [Kept]

@[simp] theorem feEnds_kept (s : State) (src : Nat) (ins : Nat) : Kept s (feEnds s src ins) := by
  unfold feEnds
  (try dsimp only); (repeat' split) <;> simp [Kept]

@[simp] theorem feSource_kept (s : State) (src : Nat) (ins : Nat) (on : Bool) (clears : Bool) : Kept s (feSource s src ins on clears) := by
  unfold feSource
  (try dsimp only); (repeat' split) <;> simp [Kept]

@[simp] theorem feSources_kept (s : State) (t : FeTask) (flags : Nat) (checked : Bool) : Kept s (feSources s t flags checked) := by
  unfold feSources
  simp [Kept]

@[simp] theorem setResult_kept (s : State) (n : Nat) (ts : Nat) (flags : Nat) (value : Int) (code : Int) (leads : Nat × Nat) : Kept s (setResult s n ts flags value code leads) := by
  unfold setResult
  simp [Kept]

@[simp] theorem beginRun_kept (s : State) (t : FeTask) (e : ChartEntry) (items : List Int) (leads : Bool) : Kept s (beginRun s t e items leads) := by
  unfold beginRun
  simp [Kept]

@[simp] theorem takeEntryItems_kept (s : State) (n : Nat) : Kept s (takeEntryItems s n) := by
  unfold takeEntryItems
  simp [Kept, foldl_pending, foldl_dram, foldl_hostMem, foldl_rollback]

@[simp] theorem beginEntry_kept (s : State) (n : Nat) : Kept s (beginEntry s n) := by
  unfold beginEntry
  (try dsimp only); (repeat' split) <;> simp [Kept]

@[simp] theorem beginInject_kept (s : State) (j : Injection) : Kept s (beginInject s j) := by
  unfold beginInject
  simp [Kept]

@[simp] theorem beginFeCal_kept (s : State) : Kept s (beginFeCal s) := by
  unfold beginFeCal
  (try dsimp only); split <;> simp [Kept]

@[simp] theorem chartStopped_kept (s : State) : Kept s (chartStopped s) := by
  unfold chartStopped
  (try dsimp only); (repeat' split) <;> simp [Kept]

@[simp] theorem feAdvance_kept (s : State) : Kept s (feAdvance s) := by
  unfold feAdvance
  (try dsimp only); (repeat' split) <;> simp [Kept]

@[simp] theorem feSettle_kept (s : State) : Kept s (feSettle s) := by
  unfold feSettle
  split
  · exact Kept.rfl' s
  · simp [Kept]

@[simp] theorem feRequestCal_kept (s : State) : Kept s (feRequestCal s) := by
  unfold feRequestCal
  (try dsimp only); (repeat' split) <;> simp [Kept]

@[simp] theorem modSd_kept (s : State) (c : Nat) (f : SdChan → SdChan) : Kept s (modSd s c f) := by
  unfold modSd
  simp [Kept]

@[simp] theorem sdAdvance_kept (s : State) (c : Nat) : Kept s (sdAdvance s c) := by
  unfold sdAdvance
  simp [Kept]

@[simp] theorem satQuiet_kept (s : State) : Kept s (satQuiet s) := by
  unfold satQuiet
  (try dsimp only); split <;> simp [Kept]

@[simp] theorem satLeave_kept (s : State) (c : Nat) : Kept s (satLeave s c) := by
  unfold satLeave
  (try dsimp only); split <;> simp [Kept]

@[simp] theorem sdOn_kept (s : State) (c : Nat) (p : Int) : Kept s (sdOn s c p) := by
  unfold sdOn
  simp [Kept]

@[simp] theorem sdOff_kept (s : State) (c : Nat) : Kept s (sdOff s c) := by
  unfold sdOff
  simp [Kept]

@[simp] theorem sdStop_kept (s : State) (c : Nat) : Kept s (sdStop s c) := by
  unfold sdStop
  simp [Kept]

@[simp] theorem ppsTake_kept (s : State) (c : Nat) : Kept s (ppsTake s c) := by
  unfold ppsTake
  (try dsimp only); split <;> simp [Kept]

@[simp] theorem ppsDrop_kept (s : State) (c : Nat) : Kept s (ppsDrop s c) := by
  unfold ppsDrop
  (try dsimp only); split <;> simp [Kept]

@[simp] theorem ppsDuty_kept (s : State) (duty : Nat) : Kept s (ppsDuty s duty) := by
  unfold ppsDuty
  (try dsimp only); split <;> simp [Kept]

@[simp] theorem sdRaise_kept (s : State) (src : Nat) (c : Nat) : Kept s (sdRaise s src c) := by
  unfold sdRaise
  simp [Kept]

@[simp] theorem sdClear_kept (s : State) (src : Nat) (holds : SdChan → Bool) : Kept s (sdClear s src holds) := by
  unfold sdClear
  (try dsimp only); split <;> simp [Kept]

@[simp] theorem sdTakeTable_kept (s : State) (c : Nat) (tb : CompTable) (value : Int) : Kept s (sdTakeTable s c tb value) := by
  unfold sdTakeTable
  (try dsimp only); split <;> simp [Kept]

@[simp] theorem sdWatchSat_kept (s : State) (c : Nat) : Kept s (sdWatchSat s c) := by
  unfold sdWatchSat
  (try dsimp only); (repeat' split) <;> simp [Kept]

@[simp] theorem sdSaturated_kept (s : State) (c : Nat) : Kept s (sdSaturated s c) := by
  unfold sdSaturated
  (try dsimp only); (repeat' split) <;> simp [Kept]

@[simp] theorem sdRegulate_kept (s : State) (c : Nat) (value : Int) (ts : Nat) : Kept s (sdRegulate s c value ts) := by
  unfold sdRegulate
  simp [Kept]

@[simp] theorem sdLose_kept (s : State) (c : Nat) : Kept s (sdLose s c) := by
  unfold sdLose
  simp [Kept]

@[simp] theorem sdFound_kept (s : State) (c : Nat) : Kept s (sdFound s c) := by
  unfold sdFound
  simp [Kept]

@[simp] theorem sdLimit_kept (s : State) (c : Nat) (value : Int) (failed : Bool) : Kept s (sdLimit s c value failed) := by
  unfold sdLimit
  (try dsimp only); (repeat' split) <;> simp [Kept]

@[simp] theorem sdTake_kept (s : State) (entry : Nat) (value : Int) (failed : Bool) (ts : Nat) (c : Nat) : Kept s (sdTake s entry value failed ts c) := by
  unfold sdTake
  (try dsimp only); (repeat' split) <;> simp [Kept]

@[simp] theorem srcResult_kept (s : State) (entry : Nat) (value : Int) (failed : Bool) (ts : Nat) : Kept s (srcResult s entry value failed ts) := by
  unfold srcResult
  simp [Kept, foldl_pending, foldl_dram, foldl_hostMem, foldl_rollback]

@[simp] theorem gateEstablish_kept (s : State) (p : Nat) (v : PlanView) (applied : Bool) : Kept s (gateEstablish s p v applied) := by
  unfold gateEstablish
  (try dsimp only); (repeat' split) <;> simp [Kept]

@[simp] theorem gateTestStart_kept (s : State) (p : Nat) (proof : Bool) (ply : Nat) : Kept s (gateTestStart s p proof ply) := by
  unfold gateTestStart
  (try dsimp only); (repeat' split) <;> simp [Kept]

@[simp] theorem setEngine_kept (s : State) (e : Nat) (x : Engine) : Kept s (setEngine s e x) := by
  unfold setEngine
  simp [Kept]

@[simp] theorem giveJob_kept (s : State) (e : Nat) (j : HostJob) : Kept s (giveJob s e j) := by
  unfold giveJob
  simp [Kept]

@[simp] theorem giveWork_kept (s : State) (e : Nat) : Kept s (giveWork s e) := by
  unfold giveWork
  (try dsimp only); (repeat' split) <;> simp [Kept]

@[simp] theorem compAssign_kept (s : State) : Kept s (compAssign s) := by
  unfold compAssign
  (try dsimp only); refine foldl_kept _ ?_ _ _; intro s b; (try dsimp only); (repeat' split) <;> simp [Kept]

@[simp] theorem bypassTo_kept (limit n : Nat) (s : State) : Kept s (bypassTo limit n s) := by
  induction n generalizing s with
  | zero => exact Kept.rfl' s
  | succ n ih =>
    have h1 := fun s => (ih s).1
    have h2 := fun s => (ih s).2.1
    have h3 := fun s => (ih s).2.2.1
    have h4 := fun s => (ih s).2.2.2
    unfold bypassTo
    dsimp only
    (repeat' split) <;> simp [Kept, h1, h2, h3, h4]

@[simp] theorem bypassPast_kept (limit : Nat) (s : State) : Kept s (bypassPast limit s) :=
  Kept.ite (bypassTo_kept _ _ s) (Kept.rfl' s)

@[simp] theorem compKick_kept (s : State) : Kept s (compKick s) := by
  have h (b : Nat) : Kept s (bypassPast b (compAssign s)) := (compAssign_kept s).trans (bypassPast_kept b _)
  simpa only [compKick] using h (bypassBytes s)

@[simp] theorem jobCompletion_kept (s : State) (j : HostJob) (status : Nat) (upTo : Nat) : KeptH s (jobCompletion s j status upTo) := by
  unfold jobCompletion
  (try dsimp only); split <;> simp [Kept, KeptH]

theorem abortJobs_jobs_kept (s : State) (js : List HostJob) :
    KeptH s (js.foldl (fun s j => jobCompletion s j stAborted j.consumed) s) :=
  ⟨foldl_pending _ (fun s j => by simp) _ s, foldl_dram _ (fun s j => by simp) _ s, foldl_rollback _ (fun s j => by simp) _ s⟩

theorem abortJobs_engines_kept (s : State) (es : List Nat) :
    Kept s (es.foldl (fun s e =>
      let x := engineOf s e
      match x.work with
      | .job _ => setEngine s e { x with work := .idle }
      | _ => s) s) :=
  foldl_kept _ (fun s e => by dsimp only; split <;> simp [Kept]) _ s

@[simp] theorem abortJobs_kept (s : State) : KeptH s (abortJobs s) := by
  unfold abortJobs
  generalize List.range 9 = es
  extract_lets running s1 s2
  have h1 : KeptH s s1 := abortJobs_jobs_kept s _
  have h2 : Kept s1 s2 := abortJobs_engines_kept s1 es
  clear_value s1 s2
  generalize hx : ({ s2 with comp := { s2.comp with jobs := [], suspended := [], streams := [] } } : State) = x
  have hk : Kept s2 x := by subst hx; exact ⟨rfl, rfl, rfl, rfl⟩
  have h3 := hk.trans (compAssign_kept x)
  exact ⟨h3.1.trans (h2.1.trans h1.1), h3.2.1.trans (h2.2.1.trans h1.2.1), h3.2.2.2.trans (h2.2.2.2.trans h1.2.2)⟩

@[simp] theorem compSecond_kept (s : State) : Kept s (compSecond s) := by
  unfold compSecond
  simp [Kept, foldl_pending, foldl_dram, foldl_hostMem, foldl_rollback]

@[simp] theorem modChan_kept (s : State) (c : Nat) (f : MemChan → MemChan) : Kept s (modChan s c f) := by
  unfold modChan
  simp [Kept]

@[simp] theorem modBank_kept (s : State) (c : Nat) (rank : Nat) (bank : Nat) (f : MemBank → MemBank) : Kept s (modBank s c rank bank f) := by
  unfold modBank
  simp [Kept]

@[simp] theorem modDev_kept (s : State) (c : Nat) (rank : Nat) (f : MemDev → MemDev) : Kept s (modDev s c rank f) := by
  unfold modDev
  simp [Kept]

@[simp] theorem prechargeAll_kept (s : State) (c : Nat) : Kept s (prechargeAll s c) := by
  unfold prechargeAll
  simp [Kept, foldl_pending, foldl_dram, foldl_hostMem, foldl_rollback]

@[simp] theorem activate_kept (s : State) (c : Nat) (rank : Nat) (bank : Nat) (row : Nat) : Kept s (activate s c rank bank row) := by
  unfold activate
  simp [Kept]

@[simp] theorem serve_kept (s : State) (c : Nat) (r : MemReq) : Kept s (serve s c r) := by
  unfold serve
  (try dsimp only); (repeat' split) <;> simp [Kept]

@[simp] theorem refreshBank_kept (s : State) (c : Nat) (rank : Nat) (bank : Nat) : Kept s (refreshBank s c rank bank) := by
  unfold refreshBank
  simp [Kept]

@[simp] theorem refreshRank_kept (s : State) (c : Nat) (rank : Nat) : Kept s (refreshRank s c rank) := by
  unfold refreshRank
  simp [Kept, foldl_pending, foldl_dram, foldl_hostMem, foldl_rollback]

@[simp] theorem refreshForced_kept (s : State) (c : Nat) (rank : Nat) : Kept s (refreshForced s c rank) := by
  unfold refreshForced
  simp [Kept, foldl_pending, foldl_dram, foldl_hostMem, foldl_rollback]

@[simp] theorem wake_kept (s : State) (c : Nat) : Kept s (wake s c) := by
  unfold wake
  simp [Kept]

@[simp] theorem wakeAll_kept (s : State) : Kept s (wakeAll s) := by
  unfold wakeAll
  simp [Kept]

@[simp] theorem closeAllRows_kept (s : State) : Kept s (closeAllRows s) := by
  unfold closeAllRows
  simp [Kept]

@[simp] theorem beginChange_kept (s : State) (fsp : Nat) : Kept s (beginChange s fsp) := by
  unfold beginChange
  simp [Kept]

@[simp] theorem freqApply_kept (s : State) (fsp : Nat) : Kept s (freqApply s fsp).1 := by
  unfold freqApply
  (try dsimp only); (repeat' split) <;> simp [Kept]

@[simp] theorem freqResume_kept (s : State) : Kept s (freqResume s) := by
  unfold freqResume
  (try dsimp only); split <;> simp [Kept]

@[simp] theorem modPurl_kept (s : State) (f : Purl → Purl) : Kept s (modPurl s f) := by
  unfold modPurl
  simp [Kept]

@[simp] theorem modLane_kept (s : State) (l : Nat) (f : RxLane → RxLane) : Kept s (modLane s l f) := by
  unfold modLane
  simp [Kept]

@[simp] theorem setLink_kept (s : State) (st : LinkSt) : Kept s (setLink s st) := by
  unfold setLink
  simp [Kept]

@[simp] theorem linkDrop_kept (s : State) : Kept s (linkDrop s) := by
  unfold linkDrop
  simp [Kept]

@[simp] theorem purlRaise_kept (s : State) (src : Nat) (cause : Nat) : Kept s (purlRaise s src cause) := by
  unfold purlRaise
  simp [Kept]

@[simp] theorem toBlocked_kept (s : State) : Kept s (toBlocked s) := by
  unfold toBlocked
  simp [Kept]

@[simp] theorem enterDetect_kept (s : State) : Kept s (enterDetect s) := by
  unfold enterDetect
  simp [Kept]

@[simp] theorem linkFails_kept (s : State) (cause : Nat) : Kept s (linkFails s cause) := by
  unfold linkFails
  (try dsimp only); (repeat' split) <;> simp [Kept]

@[simp] theorem enterTrain_kept (s : State) : Kept s (enterTrain s) := by
  unfold enterTrain
  simp [Kept]

@[simp] theorem linkDown_kept (s : State) : Kept s (linkDown s) := by
  unfold linkDown
  simp [Kept]

@[simp] theorem linkRetrain_kept (s : State) : Kept s (linkRetrain s) := by
  unfold linkRetrain
  (try dsimp only); split <;> simp [Kept]

@[simp] theorem quietSet_kept (s : State) (src : Nat) (t : Option Nat) : Kept s (quietSet s src t) := by
  unfold quietSet
  (try dsimp only); split <;> simp [Kept]

@[simp] theorem enterActive_clearIf_kept (s : State) (src : Nat) : Kept s (enterActive.clearIf_ s src) := by
  unfold enterActive.clearIf_
  split <;> simp [Kept]

@[simp] theorem enterActive_kept (s : State) (chosen : List Nat) : Kept s (enterActive s chosen) := by
  unfold enterActive
  dsimp only
  split <;> simp [Kept, foldl_pending, foldl_dram, foldl_hostMem, foldl_rollback]

@[simp] theorem sendBytes_kept (s : State) (perLane : Bool) (bs : List Byte) : Kept s (sendBytes s perLane bs) := by
  unfold sendBytes
  simp [Kept]

@[simp] theorem discardPacket_kept (s : State) : Kept s (discardPacket s) := by
  unfold discardPacket
  simp [Kept]

@[simp] theorem rejectCaps_kept (s : State) : Kept s (rejectCaps s) := by
  unfold rejectCaps
  simp [Kept]

@[simp] theorem sendBodies_kept (s : State) (bodies : List CkptBody) : Kept s (sendBodies s bodies) := by
  unfold sendBodies
  (try dsimp only); (repeat' split) <;> simp [Kept]

@[simp] theorem modPair_kept (s : State) (f : Pair → Pair) : Kept s (modPair s f) := by
  unfold modPair
  simp [Kept]

@[simp] theorem setRole_kept (s : State) (r : Role) : Kept s (setRole s r) := by
  unfold setRole
  simp [Kept]

@[simp] theorem pairRecover_kept (s : State) : Kept s (pairRecover s) := by
  unfold pairRecover
  (try dsimp only); split <;> simp [Kept]

@[simp] theorem raiseEpoch_kept (s : State) : Kept s (raiseEpoch s) := by
  unfold raiseEpoch
  simp [Kept]

@[simp] theorem enterRoleActive_kept (s : State) : Kept s (enterRoleActive s) := by
  unfold enterRoleActive
  simp [Kept]

@[simp] theorem pairStart_kept (s : State) : Kept s (pairStart s) := by
  unfold pairStart
  (try dsimp only); split <;> simp [Kept]

@[simp] theorem pairNoteRow_kept (s : State) (p : Nat) (r : PhaseRow) : Kept s (pairNoteRow s p r) := by
  unfold pairNoteRow
  (try dsimp only); split <;> simp [Kept]

@[simp] theorem cutCkpt_kept (s : State) (cutTs : Nat) : Kept s (cutCkpt s cutTs) := by
  unfold cutCkpt
  (try dsimp only); split <;> simp [Kept]

@[simp] theorem keepShare_kept (s : State) (p : CkptPacket) : Kept s (keepShare s p) := by
  unfold keepShare
  (try dsimp only); (repeat' split) <;> simp [Kept, foldl_pending, foldl_dram, foldl_hostMem, foldl_rollback]

@[simp] theorem ckptComplete_kept (s : State) (ps : List CkptPacket) (cut : Nat) (ports : List CkptPort) : Kept s (ckptComplete s ps cut ports) := by
  unfold ckptComplete
  (try dsimp only); (repeat' split) <;> simp [Kept, foldl_pending, foldl_dram, foldl_hostMem, foldl_rollback]

@[simp] theorem ckptMissed_kept (s : State) : Kept s (ckptMissed s) := by
  unfold ckptMissed
  simp [Kept]

@[simp] theorem ckptTake_kept (s : State) (p : CkptPacket) (whole : Bool) : Kept s (ckptTake s p whole) := by
  unfold ckptTake
  (try dsimp only); (repeat' split) <;> simp [Kept]

@[simp] theorem ckptPasses_kept (s : State) (seq : Nat) : Kept s (ckptPasses s seq) := by
  unfold ckptPasses
  (try dsimp only); (repeat' split) <;> simp [Kept]

@[simp] theorem sendStatus_kept (s : State) : Kept s (sendStatus s) := by
  unfold sendStatus
  simp [Kept]

@[simp] theorem restoreZone_kept (s : State) (z : Nat) (phis : List Int) : Kept s (restoreZone s z phis) := by
  unfold restoreZone
  (try dsimp only); split <;> simp [Kept]

@[simp] theorem adoptNow_kept (s : State) (p : Nat) (tL : Nat) : Kept s (adoptNow s p tL) := by
  unfold adoptNow
  simp [Kept, foldl_pending, foldl_dram, foldl_hostMem, foldl_rollback]

@[simp] theorem gapMeasure_kept (s : State) (r : PhaseRow) : Kept s (gapMeasure s r) := by
  unfold gapMeasure
  (try dsimp only); (repeat' split) <;> simp [Kept]

@[simp] theorem qtestRow_kept (s : State) (p : Nat) (r : Row) : Kept s (qtestRow s p r) := by
  unfold qtestRow
  (try dsimp only); split <;> simp [Kept]

@[simp] theorem pairDrains_kept (s : State) : Kept s (pairDrains s) := by
  unfold pairDrains
  (try dsimp only); split <;> simp [Kept]

@[simp] theorem setAdc_kept (s : State) (p : Nat) (c : Nat) (x : AdcChan) : Kept s (setAdc s p c x) := by
  unfold setAdc
  simp [Kept]

@[simp] theorem logSet_kept (s : State) (p : Nat) (c : Nat) (tick : Nat) : Kept s (logSet s p c tick) := by
  unfold logSet
  simp [Kept]

@[simp] theorem shortEnds_kept (s : State) (p : Nat) (c : Nat) : Kept s (shortEnds s p c) := by
  unfold shortEnds
  (try dsimp only); (repeat' split) <;> simp [Kept]

@[simp] theorem shortStarts_kept (s : State) (p : Nat) (c : Nat) : Kept s (shortStarts s p c) := by
  unfold shortStarts
  simp [Kept]

@[simp] theorem slicePasses_kept (s : State) (p : Nat) (c : Nat) (n : Nat) (r : SliceResult) : Kept s (slicePasses s p c n r) := by
  unfold slicePasses
  (try dsimp only); split <;> simp [Kept]

@[simp] theorem sliceFails_kept (s : State) (p : Nat) (c : Nat) (n : Nat) : Kept s (sliceFails s p c n) := by
  unfold sliceFails
  simp [Kept]

@[simp] theorem sliceJudge_kept (s : State) (p : Nat) (c : Nat) (n : Nat) (ok : Bool) (r : SliceResult) : Kept s (sliceJudge s p c n ok r) := by
  unfold sliceJudge
  (try dsimp only); split <;> simp [Kept]

@[simp] theorem channelSettle_kept (s : State) (p : Nat) (c : Nat) : Kept s (channelSettle s p c) := by
  unfold channelSettle
  (try dsimp only); split <;> simp [Kept]

@[simp] theorem stepChange_kept (s : State) (p : Nat) (c : Nat) : Kept s (stepChange s p c) := by
  unfold stepChange
  simp [Kept]

@[simp] theorem stepBegin_kept (s : State) (p : Nat) (bursts : Nat) (freeFrom : Option Nat) (ofRun : Bool) : Kept s (stepBegin s p bursts freeFrom ofRun) := by
  unfold stepBegin
  simp [Kept, foldl_pending, foldl_dram, foldl_hostMem, foldl_rollback]

@[simp] theorem stepResume_kept (s : State) (p : Nat) (c : Nat) : Kept s (stepResume s p c) := by
  unfold stepResume
  (try dsimp only); (repeat' split) <;> simp [Kept]

@[simp] theorem stepAbandon_kept (s : State) (p : Nat) : Kept s (stepAbandon s p) := by
  unfold stepAbandon
  simp [Kept, foldl_pending, foldl_dram, foldl_hostMem, foldl_rollback]

@[simp] theorem stepKick_kept (s : State) (p : Nat) : Kept s (stepKick s p) := by
  unfold stepKick
  (try dsimp only); (repeat' split) <;> simp [Kept]

@[simp] theorem stepToFree_kept (s : State) (p : Nat) : Kept s (stepToFree s p) := by
  unfold stepToFree
  simp [Kept]

@[simp] theorem stepToSlots_kept (s : State) (p : Nat) : Kept s (stepToSlots s p) := by
  unfold stepToSlots
  simp [Kept]

@[simp] theorem slotCalibrate_kept (s : State) (p : Nat) : Kept s (slotCalibrate s p) := by
  unfold slotCalibrate
  (try dsimp only); (repeat' split) <;> simp [Kept]

@[simp] theorem fgTake_kept (s : State) (p : Nat) (stage : Nat) : Kept s (fgTake s p stage) := by
  unfold fgTake
  (try dsimp only); split <;> simp [Kept]

@[simp] theorem fgReturn_kept (s : State) (p : Nat) (stage : Nat) (now : Nat) : Kept s (fgReturn s p stage now) := by
  unfold fgReturn
  (try dsimp only); split <;> simp [Kept]

@[simp] theorem fgBegin_kept (s : State) (p : Nat) (pass : Nat) : Kept s (fgBegin s p pass) := by
  unfold fgBegin
  simp [Kept]

@[simp] theorem fgDrop_kept (s : State) (p : Nat) : Kept s (fgDrop s p) := by
  unfold fgDrop
  (try dsimp only); split <;> simp [Kept]

@[simp] theorem stepOnPlan_kept (s : State) (p : Nat) : Kept s (stepOnPlan s p) := by
  unfold stepOnPlan
  (try dsimp only); (repeat' split) <;> simp [Kept]

@[simp] theorem fgAtShot_kept (s : State) (p : Nat) : Kept s (fgAtShot s p) := by
  unfold fgAtShot
  (try dsimp only); split <;> simp [Kept]

@[simp] theorem nvmError_kept (s : State) (region : Nat) (d0 : Nat) : Kept s (nvmError s region d0) := by
  unfold nvmError
  simp [Kept]

@[simp] theorem nvmGood_kept (s : State) (region : Nat) : Kept s (nvmGood s region) := by
  unfold nvmGood
  (try dsimp only); split <;> simp [Kept]

@[simp] theorem takeFreeBytes_kept (s : State) (n : Nat) : Kept s (takeFreeBytes s n).2 := by
  unfold takeFreeBytes
  simp [Kept]

@[simp] theorem setFwSlot_kept (s : State) (n : Nat) (x : FwSlot) : Kept s (setFwSlot s n x) := by
  unfold setFwSlot
  (try dsimp only); split <;> simp [Kept]

@[simp] theorem fwSlotLost_kept (s : State) (n : Nat) (size : Nat) : Kept s (fwSlotLost s n size) := by
  unfold fwSlotLost
  simp [Kept]

@[simp] theorem stageLost_kept (s : State) (status : Nat) : KeptH s (stageLost s status) := by
  unfold stageLost
  (try dsimp only); split <;> simp [Kept, KeptH]

@[simp] theorem onPlanInForce_kept (s : State) (p : Nat) : Kept s (onPlanInForce s p) := by
  unfold onPlanInForce
  simp [Kept]

@[simp] theorem onPortStarted_kept (s : State) (p : Nat) : Kept s (onPortStarted s p) := by
  unfold onPortStarted
  simp [Kept]

@[simp] theorem onPortStopped_kept (s : State) (p : Nat) : Kept s (onPortStopped s p) := by
  unfold onPortStopped
  simp [Kept]

@[simp] theorem onBreak_kept (s : State) (p : Nat) : Kept s (onBreak s p) := by
  unfold onBreak
  simp [Kept]

@[simp] theorem deliverPhase_kept (s : State) (p : Nat) (r : PhaseRow) : Kept s (deliverPhase s p r) := by
  unfold deliverPhase
  simp [Kept]

@[simp] theorem deliverTemp_kept (s : State) (p : Nat) (product : Nat) (r : TRow) : Kept s (deliverTemp s p product r) := by
  unfold deliverTemp
  simp [Kept]

@[simp] theorem onZoneRow_kept (s : State) (z : Nat) (r : ZRow) : Kept s (onZoneRow s z r) := by
  unfold onZoneRow
  simp [Kept]

@[simp] theorem frameDelivered_kept (s : State) (j : Job) : Kept s (frameDelivered s j) := by
  unfold frameDelivered
  (try dsimp only); (repeat' split) <;> simp [Kept]

@[simp] theorem abortLoads_kept (s : State) : KeptH s (abortLoads s) := by
  unfold abortLoads
  exact foldl_keptH _ (fun s n => by split <;> simp [KeptH]) _ s

@[simp] theorem abortConsumers_kept (s : State) (ring : Nat) : KeptH s (abortConsumers s ring) := by
  unfold abortConsumers
  (try dsimp only); split <;> simp [Kept, KeptH]

@[simp] theorem abortHostTransfers_kept (s : State) : KeptH s (abortHostTransfers s) := by
  unfold abortHostTransfers
  simp [Kept, KeptH]

@[simp] theorem writeFrame_kept (s : State) (r : Nat) (f : Frame) : KeptH s (writeFrame s r f) := by
  unfold writeFrame
  (try dsimp only); split <;> simp [Kept, KeptH]

theorem execC2hFrameWrite_kept (ring : Nat) (s : State) : ∃ t, execC2hFrameWrite ring s = .next t ∧ KeptH s t := by
  unfold execC2hFrameWrite
  (try dsimp only); (repeat' split) <;> (refine ⟨_, rfl, ?_⟩; simp [Kept, KeptH])

@[simp] theorem enableRing_kept (s : State) (r : Nat) : KeptH s (enableRing s r) := by
  unfold enableRing
  (try dsimp only); (repeat' split) <;> simp [Kept, KeptH]

@[simp] theorem disableRing_kept (s : State) (r : Nat) : KeptH s (disableRing s r) := by
  unfold disableRing
  (try dsimp only); (repeat' split) <;> simp [Kept, KeptH]

theorem execRingEnable_kept (ring : Nat) (s : State) : ∃ t, execRingEnable ring s = .next t ∧ KeptH s t := by
  unfold execRingEnable
  (try dsimp only); (repeat' split) <;> (refine ⟨_, rfl, ?_⟩; simp [Kept, KeptH])

theorem execRingDisable_kept (ring : Nat) (s : State) : ∃ t, execRingDisable ring s = .next t ∧ KeptH s t := by
  unfold execRingDisable
  (try dsimp only); (repeat' split) <;> (refine ⟨_, rfl, ?_⟩; simp [Kept, KeptH])

@[simp] theorem ringError_kept (s : State) (r : Nat) (code : Nat) : Kept s (ringError s r code) := by
  unfold ringError
  simp [Kept]

@[simp] theorem badRequest_kept (s : State) : Kept s (badRequest s) := by
  unfold badRequest
  simp [Kept]

@[simp] theorem writeCons_kept (s : State) (r : Nat) (v : Nat) : Kept s (writeCons s r v) := by
  unfold writeCons
  (try dsimp only); (repeat' split) <;> simp [Kept]

theorem execC2hConsWrite_kept (ring : Nat) (v : Nat) (s : State) : ∃ t, execC2hConsWrite ring v s = .next t ∧ Kept s t := by
  unfold execC2hConsWrite
  (try dsimp only); (repeat' split) <;> (refine ⟨_, rfl, ?_⟩; simp [Kept])

@[simp] theorem writeProd_kept (s : State) (r : Nat) (v : Nat) : Kept s (writeProd s r v) := by
  unfold writeProd
  (try dsimp only); (repeat' split) <;> simp [Kept]

theorem execH2cProdWrite_kept (ring : Nat) (v : Nat) (s : State) : ∃ t, execH2cProdWrite ring v s = .next t ∧ Kept s t := by
  unfold execH2cProdWrite
  (try dsimp only); (repeat' split) <;> (refine ⟨_, rfl, ?_⟩; simp [Kept])

@[simp] theorem writeRingRegister_kept (s : State) (r : Nat) (reg : Nat) (v : Nat) : KeptH s (writeRingRegister s r reg v) := by
  unfold writeRingRegister
  (try dsimp only); (repeat' split) <;> simp [Kept, KeptH]

@[simp] theorem writeMsix_kept (s : State) (w : Nat) (v : Nat) : Kept s (writeMsix s w v) := by
  unfold writeMsix
  (try dsimp only); split <;> simp [Kept]

@[simp] theorem writeBar0_kept (s : State) (off : Nat) (v : Nat) : KeptH s (writeBar0 s off v) := by
  unfold writeBar0
  (try dsimp only); (repeat' split) <;> simp [Kept, KeptH]

theorem execRegisterWrite_kept (target : RegTarget) (v : Nat) (s : State) : ∃ t, execRegisterWrite target v s = .next t ∧ KeptH s t := by
  unfold execRegisterWrite
  (try dsimp only); (repeat' split) <;> (refine ⟨_, rfl, ?_⟩; simp [Kept, KeptH])

@[simp] theorem answerHost_kept (s : State) (a : HostAnswer) : Kept s (answerHost s a) := by
  unfold answerHost
  simp [Kept]

@[simp] theorem logAer_kept (s : State) (e : AerError) : Kept s (logAer s e) := by
  unfold logAer
  simp [Kept]

@[simp] theorem logBad_kept (s : State) (e : AerError) : Kept s (logBad s e) := by
  unfold logBad
  simp [Kept]

theorem execBar4Read_kept (addr : Nat) (len : Nat) (s : State) : ∃ t, execBar4Read addr len s = .next t ∧ Kept s t := by
  unfold execBar4Read
  (try dsimp only); (repeat' split) <;> (refine ⟨_, rfl, ?_⟩; simp [Kept])

theorem execBar4Write_kept (addr : Nat) (bytes : List Byte) (s : State) : ∃ t, execBar4Write addr bytes s = .next t ∧ KeptD s t := by
  unfold execBar4Write
  (try dsimp only); (repeat' split) <;> (refine ⟨_, rfl, ?_⟩; simp [Kept, KeptD])

theorem execHostBadRequest_kept (kind : BadRequest) (s : State) : ∃ t, execHostBadRequest kind s = .next t ∧ Kept s t := by
  unfold execHostBadRequest
  (try dsimp only); (repeat' split) <;> (refine ⟨_, rfl, ?_⟩; simp [Kept])

theorem execPerstNRelease_kept (s : State) : ∃ t, execPerstNRelease s = .next t ∧ Kept s t := by
  unfold execPerstNRelease
  (try dsimp only); (repeat' split) <;> (refine ⟨_, rfl, ?_⟩; simp [Kept])

theorem execLinkUp_kept (width : Nat) (speed : Nat) (s : State) : ∃ t, execLinkUp width speed s = .next t ∧ Kept s t := by
  unfold execLinkUp
  (try dsimp only); (repeat' split) <;> (refine ⟨_, rfl, ?_⟩; simp [Kept])

theorem execBootStateRead_kept (s : State) : ∃ t, execBootStateRead s = .next t ∧ Kept s t := by
  unfold execBootStateRead
  (try dsimp only); (repeat' split) <;> (refine ⟨_, rfl, ?_⟩; simp [Kept])

@[simp] theorem resetEndpoint_kept (s : State) (kind : EndpointReset) : KeptH s (resetEndpoint s kind) := by
  unfold resetEndpoint
  (try dsimp only); split <;> simp [Kept, KeptH]

theorem execEndpointReset_kept (kind : EndpointReset) (s : State) : ∃ t, execEndpointReset kind s = .next t ∧ KeptH s t := by
  unfold execEndpointReset
  (try dsimp only); (repeat' split) <;> (refine ⟨_, rfl, ?_⟩; simp [Kept, KeptH])

@[simp] theorem dmaFails_kept (s : State) (ring : Nat) (code : Nat) (src : Nat) : KeptH s (dmaFails s ring code src) := by
  unfold dmaFails
  simp [Kept, KeptH]

theorem execDmaCompletionError_kept (ring : Nat) (s : State) : ∃ t, execDmaCompletionError ring s = .next t ∧ KeptH s t := by
  unfold execDmaCompletionError
  (try dsimp only); (repeat' split) <;> (refine ⟨_, rfl, ?_⟩; simp [Kept, KeptH])

theorem execDmaCompletionTimeout_kept (ring : Nat) (s : State) : ∃ t, execDmaCompletionTimeout ring s = .next t ∧ KeptH s t := by
  unfold execDmaCompletionTimeout
  (try dsimp only); (repeat' split) <;> (refine ⟨_, rfl, ?_⟩; simp [Kept, KeptH])

theorem execIrqModTimer_kept (ring : Nat) (s : State) : ∃ t, execIrqModTimer ring s = .next t ∧ Kept s t := by
  unfold execIrqModTimer
  (try dsimp only); (repeat' split) <;> (refine ⟨_, rfl, ?_⟩; simp [Kept])

@[simp] theorem dropHkFrame_kept (s : State) (q : QFrame) (qs : List QFrame) : Kept s (dropHkFrame s q qs) := by
  unfold dropHkFrame
  simp [Kept]

theorem execRingHoldExpiry_kept (ring : Nat) (s : State) : ∃ t, execRingHoldExpiry ring s = .next t ∧ Kept s t := by
  unfold execRingHoldExpiry
  (try dsimp only); (repeat' split) <;> (refine ⟨_, rfl, ?_⟩; simp [Kept])

theorem execHousekeepingFrameClose_kept (key : Nat) (s : State) : ∃ t, execHousekeepingFrameClose key s = .next t ∧ Kept s t := by
  unfold execHousekeepingFrameClose
  (try dsimp only); (repeat' split) <;> (refine ⟨_, rfl, ?_⟩; simp [Kept])

@[simp] theorem frameDone_kept (s : State) (f : CompFrame) : Kept s (frameDone s f) := by
  unfold frameDone
  (try dsimp only); (repeat' split) <;> simp [Kept]

@[simp] theorem setStream_kept (s : State) (n : Nat) (x : StreamSlot) : Kept s (setStream s n x) := by
  unfold setStream
  simp [Kept]

@[simp] theorem keepStream_kept (s : State) (j : HostJob) : Kept s (keepStream s j) := by
  unfold keepStream
  (try dsimp only); (repeat' split) <;> simp [Kept]

@[simp] theorem endJob_kept (s : State) (j : HostJob) (status : Nat) (upTo : Nat) : KeptH s (endJob s j status upTo) := by
  unfold endJob
  simp [Kept, KeptH]

@[simp] theorem freeBuffer_kept (s : State) (q : Nat × Nat) : KeptH s (freeBuffer s q) := by
  unfold freeBuffer
  simp [Kept, KeptH]

@[simp] theorem jobNotShrunk_kept (s : State) (j : HostJob) : KeptH s (jobNotShrunk s j) := by
  unfold jobNotShrunk
  simp [Kept, KeptH, foldl_pending, foldl_dram, foldl_hostMem, foldl_rollback]

@[simp] theorem discardStream_kept (s : State) (n : Nat) : KeptH s (discardStream s n) := by
  unfold discardStream
  simp [Kept, KeptH, foldl_pending, foldl_dram, foldl_hostMem, foldl_rollback]

@[simp] theorem suspendJob_kept (s : State) (j : HostJob) : KeptH s (suspendJob s j) := by
  unfold suspendJob
  (try dsimp only); (repeat' split) <;> simp [Kept, KeptH]

@[simp] theorem jobDone_kept (s : State) (j : HostJob) : KeptH s (jobDone s j) := by
  unfold jobDone
  (try dsimp only); (repeat' split) <;> simp [Kept, KeptH]

@[simp] theorem refuseJob_kept (s : State) (d : JobDesc) (status : Nat) (field : Nat) : KeptH s (refuseJob s d status field) := by
  unfold refuseJob
  simp [Kept, KeptH]

theorem execCompJobDescriptor_kept (desc : Bulk) (s : State) : ∃ t, execCompJobDescriptor desc s = .next t ∧ KeptH s t := by
  unfold execCompJobDescriptor
  (try dsimp only); (repeat' split) <;> (refine ⟨_, rfl, ?_⟩; simp [Kept, KeptH])

@[simp] theorem bodyCompResume_kept (tag : Nat) (dst : Nat) (dstLen : Nat) (s : State) : Kept s (bodyCompResume tag dst dstLen s).1 := by
  unfold bodyCompResume
  (try dsimp only); (repeat' split) <;> simp [Kept]

theorem execCompResume_kept (r : Req) (jobTag : Nat) (dst : Nat) (dstLen : Nat) (s : State) : ∃ t, execCompResume r jobTag dst dstLen s = .next t ∧ Kept s t := by
  unfold execCompResume
  refine ⟨_, rfl, ?_⟩; simp [Kept]

theorem suspendDrop_kept (s : State) (js : List HostJob) :
    KeptH s (js.foldl (fun s j => match j.stream with
      | some n => discardStream (bumpP s 0x0F 0 cSUSPENDED_LOST) n
      | none => bumpP s 0x0F 0 cSUSPENDED_LOST) s) := by
  refine ⟨foldl_pending _ (fun s j => ?_) js s, foldl_dram _ (fun s j => ?_) js s, foldl_rollback _ (fun s j => ?_) js s⟩ <;>
    split <;> simp

theorem execSuspendTimeoutExpiry_kept (s : State) : ∃ t, execSuspendTimeoutExpiry s = .next t ∧ KeptH s t := by
  refine ⟨_, rfl, ?_⟩
  dsimp only
  obtain ⟨h1, h2, h3⟩ := suspendDrop_kept { s with comp := { s.comp with
    suspended := s.comp.suspended.filter (fun j => !decide (j.dropAt ≤ nowClk s)) } }
    (s.comp.suspended.filter (fun j => decide (j.dropAt ≤ nowClk s)))
  refine ⟨(foldl_pending _ (fun s j => ?_) _ _).trans h1, (foldl_dram _ (fun s j => ?_) _ _).trans h2,
    (foldl_rollback _ (fun s j => ?_) _ _).trans h3⟩ <;> split <;> (try split) <;> simp

@[simp] theorem redoWork_kept (s : State) (w : EngineWork) : Kept s (redoWork s w) := by
  unfold redoWork
  (try dsimp only); split <;> simp [Kept]

@[simp] theorem engineFails_kept (s : State) (e : Nat) : Kept s (engineFails s e) := by
  unfold engineFails
  extract_lets x s1 q s2 s3
  have h1 : Kept s s1 := (setEngine_kept s e _).trans (redoWork_kept _ _)
  have h2 : Kept s1 s2 := (repairAdd_kept s1 _).trans (detect_kept _ _)
  have h3 : Kept s2 s3 := Kept.ite (detectSrc_kept s2 57) (Kept.rfl' s2)
  clear_value s1 s2 s3
  exact h1.trans (h2.trans (h3.trans (compKick_kept s3)))

theorem execCompEngineFault_kept (engine : Nat) (s : State) : ∃ t, execCompEngineFault engine s = .next t ∧ Kept s t := by
  unfold execCompEngineFault
  (try dsimp only); (repeat' split) <;> (refine ⟨_, rfl, ?_⟩; simp [Kept])

theorem execCompBlockDone_kept (engine : Nat) (s : State) : ∃ t, execCompBlockDone engine s = .next t ∧ KeptH s t := by
  unfold execCompBlockDone
  (try dsimp only); (repeat' split) <;> (refine ⟨_, rfl, ?_⟩; simp [Kept, KeptH])

theorem execCompSpareInService_kept (engine : Nat) (s : State) : ∃ t, execCompSpareInService engine s = .next t ∧ Kept s t := by
  unfold execCompSpareInService
  (try dsimp only); (repeat' split) <;> (refine ⟨_, rfl, ?_⟩; simp [Kept])

@[simp] theorem bodyCompConfig_kept (scope : Nat) (zone : Nat) (s : State) : Kept s (bodyCompConfig scope zone s).1 := by
  unfold bodyCompConfig
  (try dsimp only); (repeat' split) <;> simp [Kept]

theorem execCompConfig_kept (r : Req) (scope : Nat) (zone : Nat) (s : State) : ∃ t, execCompConfig r scope zone s = .next t ∧ Kept s t := by
  unfold execCompConfig
  refine ⟨_, rfl, ?_⟩; simp [Kept]

@[simp] theorem loseEdge_kept (s : State) (c : Nat) : Kept s (loseEdge s c) := by
  unfold loseEdge
  simp [Kept]

@[simp] theorem logEdge_kept (s : State) (c : Nat) (m : Meas) : Kept s (logEdge s c m) := by
  unfold logEdge
  (try dsimp only); (repeat' split) <;> simp [Kept]

@[simp] theorem stepTimebase_kept (s : State) (d : Int) : Kept s (stepTimebase s d) := by
  unfold stepTimebase
  simp [Kept]

@[simp] theorem stepAt_kept (s : State) (p : TimeStep) (e : Nat) : Kept s (stepAt s p e) := by
  unfold stepAt
  simp [Kept]

@[simp] theorem edgeStep_kept (s : State) (c : Nat) (ts : Nat) : Kept s (edgeStep s c ts).1 := by
  unfold edgeStep
  (try dsimp only); split <;> simp [Kept]

@[simp] theorem acceptEdge_kept (s : State) (c : Nat) (falling : Bool) (want : Nat) (code : Option Nat) : Kept s (acceptEdge s c falling want code) := by
  unfold acceptEdge
  (try dsimp only); split <;> simp [Kept]

@[simp] theorem edgeArrives_kept (s : State) (c : Nat) (falling : Bool) (want : Nat) (code : Option Nat) : Kept s (edgeArrives s c falling want code) := by
  unfold edgeArrives
  (try dsimp only); (repeat' split) <;> simp [Kept]

theorem execTdcEdge_kept (input : Nat) (falling : Bool) (core : Nat) (code : Option Nat) (s : State) : ∃ t, execTdcEdge input falling core code s = .next t ∧ Kept s t := by
  unfold execTdcEdge
  (try dsimp only); (repeat' split) <;> (refine ⟨_, rfl, ?_⟩; simp [Kept])

theorem execTdcThreshSettled_kept (ch : Nat) (s : State) : ∃ t, execTdcThreshSettled ch s = .next t ∧ Kept s t := by
  unfold execTdcThreshSettled
  (try dsimp only); (repeat' split) <;> (refine ⟨_, rfl, ?_⟩; simp [Kept])

@[simp] theorem coresTold_kept (s : State) (ch : Nat) : Kept s (coresTold s ch) := by
  unfold coresTold
  (try dsimp only); split <;> simp [Kept]

@[simp] theorem testCore_kept (s : State) (ch : Nat) (core : Nat) : Kept s (testCore s ch core) := by
  unfold testCore
  simp [Kept]

@[simp] theorem nextCore_kept (s : State) (ch : Nat) : Kept s (nextCore s ch) := by
  unfold nextCore
  (try dsimp only); (repeat' split) <;> simp [Kept]

@[simp] theorem coreFails_kept (s : State) (ch : Nat) (core : Nat) : Kept s (coreFails s ch core) := by
  unfold coreFails
  (try dsimp only); split <;> simp [Kept]

@[simp] theorem chanBack_kept (s : State) (ch : Nat) : Kept s (chanBack s ch) := by
  unfold chanBack
  (try dsimp only); split <;> simp [Kept]

@[simp] theorem corePasses_kept (s : State) (ch : Nat) (core : Nat) (hist : List Nat) : Kept s (corePasses s ch core hist) := by
  unfold corePasses
  simp [Kept]

theorem execTdcCoreTestDone_kept (ch : Nat) (core : Nat) (hist : List Nat) (overflows : Nat) (s : State) : ∃ t, execTdcCoreTestDone ch core hist overflows s = .next t ∧ Kept s t := by
  unfold execTdcCoreTestDone
  (try dsimp only); (repeat' split) <;> (refine ⟨_, rfl, ?_⟩; simp [Kept])

@[simp] theorem tdcRun_kept (s : State) (ch : Nat) (foreground : Bool) : Kept s (tdcRun s ch foreground) := by
  unfold tdcRun
  (try dsimp only); split <;> simp [Kept]

@[simp] theorem tdcAbort_kept (s : State) (ch : Nat) : Kept s (tdcAbort s ch) := by
  unfold tdcAbort
  (try dsimp only); split <;> simp [Kept]

@[simp] theorem bodyTimeGet_kept (s : State) : Kept s (bodyTimeGet s).1 := by
  unfold bodyTimeGet
  simp [Kept]

theorem execTimeGet_kept (r : Req) (s : State) : ∃ t, execTimeGet r s = .next t ∧ Kept s t := by
  unfold execTimeGet
  refine ⟨_, rfl, ?_⟩; simp [Kept]

@[simp] theorem bodyTimeSet_kept (v : Nat) (mode : Nat) (s : State) : Kept s (bodyTimeSet v mode s).1 := by
  unfold bodyTimeSet
  (try dsimp only); (repeat' split) <;> simp [Kept]

theorem execTimeSet_kept (r : Req) (v : Nat) (mode : Nat) (s : State) : ∃ t, execTimeSet r v mode s = .next t ∧ Kept s t := by
  unfold execTimeSet
  refine ⟨_, rfl, ?_⟩; simp [Kept]

theorem execTimeSetTimeout_kept (s : State) : ∃ t, execTimeSetTimeout s = .next t ∧ Kept s t := by
  unfold execTimeSetTimeout
  (try dsimp only); (repeat' split) <;> (refine ⟨_, rfl, ?_⟩; simp [Kept])

@[simp] theorem tdcApply_kept (s : State) (c : Nat) : Kept s (tdcApply s c) := by
  unfold tdcApply
  simp [Kept]

@[simp] theorem bodyTimeTdcConfig_kept (mask : Nat) (s : State) : Kept s (bodyTimeTdcConfig mask s).1 := by
  unfold bodyTimeTdcConfig
  (try dsimp only); (repeat' split) <;> simp [Kept, foldl_pending, foldl_dram, foldl_hostMem, foldl_rollback]

theorem execTimeTdcConfig_kept (r : Req) (mask : Nat) (s : State) : ∃ t, execTimeTdcConfig r mask s = .next t ∧ Kept s t := by
  unfold execTimeTdcConfig
  refine ⟨_, rfl, ?_⟩; simp [Kept]

@[simp] theorem commitTime_kept (s : State) : Kept s (commitTime s).1 := by
  unfold commitTime
  (try dsimp only); (repeat' split) <;> simp [Kept]

theorem execTimePpsCfg_kept (r : Req) (s : State) : ∃ t, execTimePpsCfg r s = .next t ∧ Kept s t := by
  unfold execTimePpsCfg
  refine ⟨_, rfl, ?_⟩; simp [Kept]

@[simp] theorem steer_kept (s : State) (d : Int) (o : Int) : Kept s (steer s d o) := by
  unfold steer
  simp [Kept]

@[simp] theorem ppsReference_kept (s : State) (e : Nat) (good : Nat) : Kept s (ppsReference s e good) := by
  unfold ppsReference
  simp [Kept]

@[simp] theorem ppsInWindow_kept (s : State) (last e : Nat) : Kept s (ppsInWindow s last e) := by
  unfold ppsInWindow
  generalize tsDiff e last - (secUnits : Int) = d
  generalize ppsOffset e = o
  generalize decide (winUnits < o.natAbs) = far
  dsimp only
  (repeat' split) <;> simp [Kept]

@[simp] theorem ppsEdgeWork_kept (s : State) (e : Nat) : Kept s (ppsEdgeWork s e) := by
  unfold ppsEdgeWork
  (try dsimp only); (repeat' split) <;> simp [Kept]

theorem execPpsEdge_kept (s : State) : ∃ t, execPpsEdge s = .next t ∧ Kept s t := by
  unfold execPpsEdge
  split
  · exact ⟨_, rfl, Kept.rfl' s⟩
  · next h =>
    have k := popMeas_kept _ _ _ _ h
    split
    · exact ⟨_, rfl, k⟩
    · exact ⟨_, rfl, k.trans (ppsEdgeWork_kept _ _)⟩

theorem execPpsWindowExpiry_kept (s : State) : ∃ t, execPpsWindowExpiry s = .next t ∧ Kept s t := by
  unfold execPpsWindowExpiry
  (try dsimp only); (repeat' split) <;> (refine ⟨_, rfl, ?_⟩; simp [Kept])

theorem execPpsOutSecond_kept (s : State) : ∃ t, execPpsOutSecond s = .next t ∧ Kept s t := by
  unfold execPpsOutSecond
  (try dsimp only); (repeat' split) <;> (refine ⟨_, rfl, ?_⟩; simp [Kept])

theorem execPpsOutPulseEnd_kept (s : State) : ∃ t, execPpsOutPulseEnd s = .next t ∧ Kept s t := by
  unfold execPpsOutPulseEnd
  (try dsimp only); (repeat' split) <;> (refine ⟨_, rfl, ?_⟩; simp [Kept])

theorem execPtmDialogStart_kept (fine : Nat) (s : State) : ∃ t, execPtmDialogStart fine s = .next t ∧ Kept s t := by
  unfold execPtmDialogStart
  (try dsimp only); (repeat' split) <;> (refine ⟨_, rfl, ?_⟩; simp [Kept])

theorem execPtmResponse_kept (fine : Nat) (master : Nat) (delay : Nat) (s : State) : ∃ t, execPtmResponse fine master delay s = .next t ∧ Kept s t := by
  unfold execPtmResponse
  (try dsimp only); (repeat' split) <;> (refine ⟨_, rfl, ?_⟩; simp [Kept])

theorem execPtmTimeout_kept (s : State) : ∃ t, execPtmTimeout s = .next t ∧ Kept s t := by
  unfold execPtmTimeout
  (try dsimp only); (repeat' split) <;> (refine ⟨_, rfl, ?_⟩; simp [Kept])

@[simp] theorem mbxEarly_kept (r : Req) (op : Nat) (body : State → State × Reply) (s : State)
    (h : ∀ s, Kept s (body s).1) : Kept s (mbxEarly r op body s) := by
  have h1 := fun s => (h s).1
  have h2 := fun s => (h s).2.1
  have h3 := fun s => (h s).2.2.1
  have h4 := fun s => (h s).2.2.2
  unfold mbxEarly
  (try dsimp only); (repeat' split) <;> simp [Kept, h1, h2, h3, h4]

@[simp] theorem malformed_kept (s : State) (slot : Nat) : Kept s (malformed s slot).1 := by
  unfold malformed
  simp [Kept]

theorem execBadOpcode_kept (r : Req) (opcode : Nat) (s : State) : ∃ t, execBadOpcode r opcode s = .next t ∧ Kept s t := by
  unfold execBadOpcode
  refine ⟨_, rfl, ?_⟩; simp [Kept]

theorem execMalformedRequest_kept (slot : Nat) (header : List Byte) (s : State) : ∃ t, execMalformedRequest slot header s = .next t ∧ Kept s t := by
  unfold execMalformedRequest
  refine ⟨_, rfl, ?_⟩; simp [Kept]

theorem execMbxDoorbellBusySlot_kept (slot : Nat) (s : State) : ∃ t, execMbxDoorbellBusySlot slot s = .next t ∧ Kept s t := by
  unfold execMbxDoorbellBusySlot
  (try dsimp only); (repeat' split) <;> (refine ⟨_, rfl, ?_⟩; simp [Kept])

@[simp] theorem bodySysIdent_kept (s : State) : Kept s (bodySysIdent s).1 := by
  unfold bodySysIdent
  simp [Kept]

theorem execSysIdent_kept (r : Req) (s : State) : ∃ t, execSysIdent r s = .next t ∧ Kept s t := by
  unfold execSysIdent
  refine ⟨_, rfl, ?_⟩; simp [Kept]

@[simp] theorem bodySysStatus_kept (s : State) : Kept s (bodySysStatus s).1 := by
  unfold bodySysStatus
  simp [Kept]

theorem execSysStatus_kept (r : Req) (s : State) : ∃ t, execSysStatus r s = .next t ∧ Kept s t := by
  unfold execSysStatus
  refine ⟨_, rfl, ?_⟩; simp [Kept]

@[simp] theorem bodyParamGet_kept (source : Nat) (ids : List Nat) (s : State) : Kept s (bodyParamGet source ids s).1 := by
  unfold bodyParamGet
  (try dsimp only); (repeat' split) <;> simp [Kept]

theorem execParamGet_kept (r : Req) (source : Nat) (ids : List Nat) (s : State) : ∃ t, execParamGet r source ids s = .next t ∧ Kept s t := by
  unfold execParamGet
  refine ⟨_, rfl, ?_⟩; simp [Kept]

@[simp] theorem stageAll_kept (s : State) (ps : List (Nat × Int)) : Kept s (stageAll s ps) := by
  unfold stageAll
  simp [Kept, foldl_pending, foldl_dram, foldl_hostMem, foldl_rollback]

@[simp] theorem setPairs_kept (tag : Nat) (ps : List (Nat × Int)) (s : State) : Kept s (setPairs tag ps s).1 := by
  unfold setPairs
  (try dsimp only); split <;> simp [Kept]

@[simp] theorem withBulk_kept (slot : Nat) (b : Bulk) (good : Bulk → Bool) (f : List Byte → State → State × Answer) (s : State)
    (h : ∀ bs s, Kept s (f bs s).1) : KeptH s (withBulk slot b good f s).1 := by
  have h1 := fun bs s => (h bs s).1
  have h2 := fun bs s => (h bs s).2.1
  have h4 := fun bs s => (h bs s).2.2.2
  unfold withBulk
  (try dsimp only); (repeat' split) <;> simp [Kept, KeptH, h1, h2, h4]

@[simp] theorem bodyParamSet_kept (slot : Nat) (pairs : List (Nat × Int)) (bulk : Option Bulk) (s : State) : KeptH s (bodyParamSet slot pairs bulk s).1 := by
  unfold bodyParamSet
  (try dsimp only); (repeat' split) <;> simp [Kept, KeptH]

theorem execParamSet_kept (r : Req) (pairs : List (Nat × Int)) (bulk : Option Bulk) (s : State) : ∃ t, execParamSet r pairs bulk s = .next t ∧ KeptH s t := by
  unfold execParamSet
  refine ⟨_, rfl, mbxRun_keptH _ _ _ _ _ _ fun s => ?_⟩; simp [Kept, KeptH]

@[simp] theorem bodyParamList_kept (dom : Nat) (ins : Nat) (start : Nat) (s : State) : Kept s (bodyParamList dom ins start s).1 := by
  unfold bodyParamList
  (try dsimp only); (repeat' split) <;> simp [Kept]

theorem execParamList_kept (r : Req) (dom : Nat) (ins : Nat) (start : Nat) (s : State) : ∃ t, execParamList r dom ins start s = .next t ∧ Kept s t := by
  unfold execParamList
  refine ⟨_, rfl, ?_⟩; simp [Kept]

@[simp] theorem bodyDiagUnlock_kept (stepNo : Nat) (sig : List Byte) (s : State) : Kept s (bodyDiagUnlock stepNo sig s).1 := by
  unfold bodyDiagUnlock
  (try dsimp only); (repeat' split) <;> simp [Kept]

theorem execDiagUnlock_kept (r : Req) (stepNo : Nat) (sig : List Byte) (s : State) : ∃ t, execDiagUnlock r stepNo sig s = .next t ∧ Kept s t := by
  unfold execDiagUnlock
  refine ⟨_, rfl, ?_⟩; simp [Kept]

@[simp] theorem bodyFeChartLoad_kept (first : Nat) (count : Nat) (entries : List (List Byte)) (s : State) : Kept s (bodyFeChartLoad first count entries s).1 := by
  unfold bodyFeChartLoad
  (try dsimp only); (repeat' split) <;> simp [Kept]

theorem execFeChartLoad_kept (r : Req) (first : Nat) (count : Nat) (entries : List (List Byte)) (s : State) : ∃ t, execFeChartLoad r first count entries s = .next t ∧ Kept s t := by
  unfold execFeChartLoad
  refine ⟨_, rfl, ?_⟩; simp [Kept]

@[simp] theorem chartStart_kept (s : State) : Kept s (chartStart s) := by
  unfold chartStart
  simp [Kept]

@[simp] theorem bodyFeChartRun_kept (run : Nat) (s : State) : Kept s (bodyFeChartRun run s).1 := by
  unfold bodyFeChartRun
  (try dsimp only); (repeat' split) <;> simp [Kept]

theorem execFeChartRun_kept (r : Req) (run : Nat) (s : State) : ∃ t, execFeChartRun r run s = .next t ∧ Kept s t := by
  unfold execFeChartRun
  refine ⟨_, rfl, ?_⟩; simp [Kept]

@[simp] theorem bodyFeInject_kept (slot : Nat) (tag : Nat) (entry : List Byte) (s : State) : Kept s (bodyFeInject slot tag entry s).1 := by
  unfold bodyFeInject
  (try dsimp only); (repeat' split) <;> simp [Kept]

theorem execFeInject_kept (r : Req) (tag : Nat) (entry : List Byte) (s : State) : ∃ t, execFeInject r tag entry s = .next t ∧ Kept s t := by
  unfold execFeInject
  refine ⟨_, rfl, ?_⟩; simp [Kept]

@[simp] theorem convRecord_kept (s : State) (x : FeRun) (code : Int) (discard : Bool) (ovr : Bool) : Kept s (convRecord s x code discard ovr) := by
  unfold convRecord
  (try dsimp only); split <;> simp [Kept]

@[simp] theorem followRun_kept (s : State) (x : FeRun) : Kept s (followRun s x) := by
  unfold followRun
  simp [Kept]

theorem execFeConversion_kept (volts : List Rat) (s : State) : ∃ t, execFeConversion volts s = .next t ∧ Kept s t := by
  unfold execFeConversion
  (try dsimp only); (repeat' split) <;> (refine ⟨_, rfl, ?_⟩; simp [Kept])

@[simp] theorem feReport_kept (s : State) (x : FeRun) (value : Int) (code : Int) (flags : Nat) (ts : Nat) (pair : Option (Rat × Rat)) (checked : Bool) : Kept s (feReport s x value code flags ts pair checked) := by
  unfold feReport
  (try dsimp only); (repeat' split) <;> simp [Kept]

@[simp] theorem feReading_kept (s : State) (x : FeRun) (held : Option (Rat × Rat)) : Kept s (feReading s x held).2.2 := by
  unfold feReading
  dsimp only
  split <;> simp [Kept]

@[simp] theorem feFinish_kept (s : State) (x : FeRun) : Kept s (feFinish s x) := by
  unfold feFinish
  dsimp only
  (repeat' split) <;> simp [Kept]

theorem execFeEntryResult_kept (s : State) : ∃ t, execFeEntryResult s = .next t ∧ Kept s t := by
  unfold execFeEntryResult
  (try dsimp only); (repeat' split) <;> (refine ⟨_, rfl, ?_⟩; simp [Kept])

theorem execExcMonitorTrip_kept (short : Bool) (s : State) : ∃ t, execExcMonitorTrip short s = .next t ∧ Kept s t := by
  unfold execExcMonitorTrip
  (try dsimp only); (repeat' split) <;> (refine ⟨_, rfl, ?_⟩; simp [Kept])

@[simp] theorem feCalEnd_kept (s : State) (failed : Nat) (new : FeFactors) : Kept s (feCalEnd s failed new) := by
  unfold feCalEnd
  (try dsimp only); split <;> simp [Kept]

theorem execFeSelfcalDone_kept (failed : Nat) (ofs : List Rat) (refs : List Rat) (cur : Rat) (vol : Rat) (s : State) : ∃ t, execFeSelfcalDone failed ofs refs cur vol s = .next t ∧ Kept s t := by
  unfold execFeSelfcalDone
  (try dsimp only); (repeat' split) <;> (refine ⟨_, rfl, ?_⟩; simp [Kept])

@[simp] theorem putLow_kept (s : State) (c : Nat) (i : Nat) (w : Nat) (v : Nat) : Kept s (putLow s c i w v) := by
  unfold putLow
  simp [Kept]

@[simp] theorem retire_kept (s : State) (c : Nat) (size : Nat) : Kept s (retire s c size) := by
  unfold retire
  simp [Kept]

@[simp] theorem onCore_kept (s : State) (c : Nat) (f : Core → State) (h : ∀ k, KeptH s (f k)) : KeptH s (onCore s c f) := by
  unfold onCore
  split
  · exact ⟨rfl, rfl, rfl⟩
  · extract_lets k
    split
    · simp [Kept, KeptH]
    · exact h _

@[simp] theorem onN_kept (s : State) (c : Nat) (f : Core → State) (h : ∀ k, KeptH s (f k)) : KeptH s (onN s c f) := by
  unfold onN
  refine onCore_kept s c _ fun k => ?_
  split
  · first | exact h k | simp [Kept, KeptH]
  · first | exact h k | simp [Kept, KeptH]

@[simp] theorem onX_kept (s : State) (c : Nat) (f : Core → State) (h : ∀ k, KeptH s (f k)) : KeptH s (onX s c f) := by
  unfold onX
  refine onCore_kept s c _ fun k => ?_
  split
  · first | exact h k | simp [Kept, KeptH]
  · first | exact h k | simp [Kept, KeptH]

@[simp] theorem pickTrap_kept (s : State) (c : Nat) (causes : List Nat) : KeptH s (pickTrap s c causes) := by
  unfold pickTrap
  (try dsimp only); split <;> simp [Kept, KeptH]

@[simp] theorem waitEffect_kept (s : State) (c : Nat) (sub : Nat) (k : Nat) (x4 : Core) : Kept s (waitEffect s c sub k x4) := by
  unfold waitEffect
  (try dsimp only); (repeat' split) <;> simp [Kept]

theorem execWaitInstr_kept (core : Nat) (sub : Nat) (k : Nat) (s : State) : ∃ t, execWaitInstr core sub k s = .next t ∧ KeptH s t := by
  unfold execWaitInstr
  refine ⟨_, rfl, onCore_kept s core _ fun k => ?_⟩; (repeat' split) <;> simp [Kept, KeptH]

@[simp] theorem doneUser_kept (s : State) (c : Nat) (n : Nat) (sub : Nat) (k : Nat) : Kept s (doneUser s c n sub k) := by
  unfold doneUser
  (try dsimp only); split <;> simp [Kept]

@[simp] theorem doneEffect_kept (s : State) (c : Nat) (sub : Nat) (k : Nat) (x4 : Core) : Kept s (doneEffect s c sub k x4) := by
  unfold doneEffect
  (try dsimp only); split <;> simp [Kept]

theorem execDoneInstr_kept (core : Nat) (sub : Nat) (k : Nat) (s : State) : ∃ t, execDoneInstr core sub k s = .next t ∧ KeptH s t := by
  unfold execDoneInstr
  refine ⟨_, rfl, onCore_kept s core _ fun k => ?_⟩; (repeat' split) <;> simp [Kept, KeptH]

@[simp] theorem outDesc_kept (s : State) (n : Nat) : Kept s (outDesc s n) := by
  unfold outDesc
  (try dsimp only); split <;> simp [Kept]

@[simp] theorem putRecord_kept (s : State) (c : Nat) (n : Nat) (ts : Nat) (body : List Byte) : Kept s (putRecord s c n ts body) := by
  unfold putRecord
  simp [Kept]

@[simp] theorem putEffect_kept (s : State) (c : Nat) (ts : Nat) (an : Nat) (len : Nat) (k : Core) : KeptH s (putEffect s c ts an len k) := by
  unfold putEffect
  (try dsimp only); (repeat' split) <;> simp [Kept, KeptH]

theorem execPutInstr_kept (core : Nat) (ts : Nat) (an : Nat) (len : Nat) (s : State) : ∃ t, execPutInstr core ts an len s = .next t ∧ KeptH s t := by
  unfold execPutInstr
  refine ⟨_, rfl, onCore_kept s core _ fun k => ?_⟩; (repeat' split) <;> simp [Kept, KeptH]

theorem execOutputRingDrain_kept (slot : Nat) (s : State) : ∃ t, execOutputRingDrain slot s = .next t ∧ Kept s t := by
  unfold execOutputRingDrain
  (try dsimp only); (repeat' split) <;> (refine ⟨_, rfl, ?_⟩; simp [Kept])

@[simp] theorem dmaEffect_kept (s : State) (c : Nat) (an : Nat) (window : Nat) (units : Nat) (out : Bool) (k : Core) : KeptH s (dmaEffect s c an window units out k) := by
  unfold dmaEffect
  (try dsimp only); (repeat' split) <;> simp [Kept, KeptH]

theorem execDmaInstr_kept (core : Nat) (an : Nat) (window : Nat) (units : Nat) (toWindow : Bool) (s : State) : ∃ t, execDmaInstr core an window units toWindow s = .next t ∧ KeptH s t := by
  unfold execDmaInstr
  refine ⟨_, rfl, onCore_kept s core _ fun k => ?_⟩; (repeat' split) <;> simp [Kept, KeptH]

theorem execDmaComplete_kept (core : Nat) (s : State) : ∃ t, execDmaComplete core s = .next t ∧ KeptD s t := by
  unfold execDmaComplete
  (try dsimp only); (repeat' split) <;> (refine ⟨_, rfl, ?_⟩; simp [Kept, KeptD])

theorem execDwait_kept (core : Nat) (s : State) : ∃ t, execDwait core s = .next t ∧ KeptH s t := by
  refine ⟨_, rfl, onCore_kept s core _ fun k => ?_⟩
  split <;> simp [Kept, KeptH]

theorem execCycrd_kept (core : Nat) (dst : Nat) (s : State) : ∃ t, execCycrd core dst s = .next t ∧ KeptH s t := by
  unfold execCycrd
  refine ⟨_, rfl, onCore_kept s core _ fun k => ?_⟩; (repeat' split) <;> simp [Kept, KeptH]

theorem execEvt_kept (core : Nat) (det : Nat) (ts : Nat) (s : State) : ∃ t, execEvt core det ts s = .next t ∧ KeptH s t := by
  unfold execEvt
  refine ⟨_, rfl, onX_kept s core _ fun k => ?_⟩; (repeat' split) <;> simp [Kept, KeptH]

theorem execFsrc_kept (core : Nat) (src : Nat) (ins : Nat) (d0 : Nat) (d1 : Nat) (s : State) : ∃ t, execFsrc core src ins d0 d1 s = .next t ∧ KeptH s t := by
  unfold execFsrc
  refine ⟨_, rfl, onX_kept s core _ fun k => ?_⟩; (repeat' split) <;> simp [Kept, KeptH]

@[simp] theorem ckptEffect_kept (s : State) (c : Nat) (an : Nat) (len : Nat) (k : Core) : KeptQ s (ckptEffect s c an len k) := by
  unfold ckptEffect
  (try dsimp only); split <;> simp [Kept, KeptQ]

theorem execCkpt_kept (core an len : Nat) (s : State) : ∃ t, execCkpt core an len s = .next t ∧ KeptQ s t := by
  refine ⟨_, rfl, ?_⟩
  unfold onX onCore
  dsimp only
  (repeat' split) <;> simp [KeptQ, KeptH, Kept, KeptD]

@[simp] theorem fabricRead_kept (s : State) (x : FabricReg) : Kept s (fabricRead s x).2 := by
  unfold fabricRead
  (try dsimp only); split <;> simp [Kept]

@[simp] theorem fabricWrite_kept (s : State) (x : FabricReg) (v : Int) : Kept s (fabricWrite s x v) := by
  unfold fabricWrite
  (try dsimp only); (repeat' split) <;> simp [Kept]

theorem execCfrCfw_kept (core : Nat) (target : FabricReg) (write : Bool) (g : Nat) (s : State) : ∃ t, execCfrCfw core target write g s = .next t ∧ KeptH s t := by
  unfold execCfrCfw
  refine ⟨_, rfl, onX_kept s core _ fun k => ?_⟩; (repeat' split) <;> simp [Kept, KeptH]

@[simp] theorem withoutImage_kept (s : State) (n : Nat) : Kept s (withoutImage s n) := by
  unfold withoutImage
  (try dsimp only); split <;> simp [Kept]

@[simp] theorem krnCommand_kept (n : Nat) (f : State → State × Answer) (s : State) (h : ∀ s, Kept s (f s).1) :
    Kept s (krnCommand n f s).1 := by
  unfold krnCommand
  split
  · simp [Kept]
  · split
    · simp [Kept]
    · exact h s

theorem krnCommand_keptH (n : Nat) (f : State → State × Answer) (s : State) (h : ∀ s, KeptH s (f s).1) :
    KeptH s (krnCommand n f s).1 := by
  unfold krnCommand
  split
  · simp [KeptH]
  · split
    · simp [KeptH]
    · exact h s

theorem slotGetsCore_kept (s t : State) (n : Nat) (h : slotGetsCore s n = some t) : Kept s t := by
  unfold slotGetsCore at h
  split at h
  · cases h; exact Kept.rfl' s
  · simp only [Option.map_eq_some_iff] at h
    obtain ⟨c, -, rfl⟩ := h
    simp [Kept]

@[simp] theorem clearTrap_kept (s : State) (n : Nat) : Kept s (clearTrap s n) := by
  unfold clearTrap
  (try dsimp only); split <;> simp [Kept]

@[simp] theorem krnBeginLoad_kept (s : State) (n : Nat) (tag : Nat) (i : KrnImage) : Kept s (krnBeginLoad s n tag i) := by
  unfold krnBeginLoad
  (try dsimp only); split <;> simp [Kept]

@[simp] theorem bodyFwKrnLoad_kept (slot n : Nat) (b : Bulk) (s : State) : KeptH s (bodyFwKrnLoad slot n b s).1 := by
  unfold bodyFwKrnLoad
  refine krnCommand_keptH n _ s fun s => ?_
  dsimp only
  (repeat' split)
  all_goals first
    | (simp [Kept, KeptH]; done)
    | (next h => obtain ⟨h1, h2, h3, h4⟩ := slotGetsCore_kept _ _ _ h; simp [Kept, KeptH, h1, h2, h3, h4])

theorem execFwKrnLoad_kept (r : Req) (slot : Nat) (desc : Bulk) (s : State) : ∃ t, execFwKrnLoad r slot desc s = .next t ∧ KeptH s t := by
  unfold execFwKrnLoad
  refine ⟨_, rfl, mbxRun_keptH _ _ _ _ _ _ fun s => ?_⟩; simp [Kept, KeptH]

@[simp] theorem krnCountsZero_kept (s : State) (n : Nat) : Kept s (krnCountsZero s n) := by
  unfold krnCountsZero
  simp [Kept]

@[simp] theorem krnPlaced_kept (s : State) (c : Nat) (i : KrnImage) : Kept s (krnPlaced s c i) := by
  unfold krnPlaced
  simp [Kept]

theorem execKrnLoadDone_kept (slot : Nat) (s : State) : ∃ t, execKrnLoadDone slot s = .next t ∧ KeptQ s t := by
  unfold execKrnLoadDone
  (try dsimp only); (repeat' split) <;> (refine ⟨_, rfl, ?_⟩; simp [Kept, KeptQ])

@[simp] theorem krnRun_kept (s : State) (n : Nat) : Kept s (krnRun s n) := by
  unfold krnRun
  (try dsimp only); split <;> simp [Kept]

@[simp] theorem bodyFwKrnStart_kept (n : Nat) (s : State) : Kept s (bodyFwKrnStart n s).1 := by
  unfold bodyFwKrnStart
  refine krnCommand_kept n _ s fun s => ?_
  dsimp only
  (repeat' split)
  all_goals first
    | (simp [Kept]; done)
    | (next h => obtain ⟨h1, h2, h3, h4⟩ := slotGetsCore_kept _ _ _ h; simp [Kept, h1, h2, h3, h4])

@[simp] theorem krnSettle_kept (n : Nat) (s : State) : Kept s (krnSettle n s) := by
  unfold krnSettle
  (try dsimp only); split <;> simp [Kept]

theorem execFwKrnStart_kept (r : Req) (slot : Nat) (s : State) : ∃ t, execFwKrnStart r slot s = .next t ∧ Kept s t := by
  unfold execFwKrnStart
  refine ⟨_, rfl, ?_⟩; simp [Kept]

@[simp] theorem bodyFwKrnStop_kept (n : Nat) (s : State) : Kept s (bodyFwKrnStop n s).1 := by
  unfold bodyFwKrnStop
  refine krnCommand_kept n _ s fun s => ?_
  dsimp only
  (repeat' split)
  all_goals first
    | (simp [Kept]; done)
    | (next h => obtain ⟨h1, h2, h3, h4⟩ := slotGetsCore_kept _ _ _ h; simp [Kept, h1, h2, h3, h4])

theorem execFwKrnStop_kept (r : Req) (slot : Nat) (s : State) : ∃ t, execFwKrnStop r slot s = .next t ∧ Kept s t := by
  unfold execFwKrnStop
  refine ⟨_, rfl, ?_⟩; simp [Kept]

theorem execKrnStopDone_kept (slot : Nat) (s : State) : ∃ t, execKrnStopDone slot s = .next t ∧ Kept s t := by
  unfold execKrnStopDone
  (try dsimp only); (repeat' split) <;> (refine ⟨_, rfl, ?_⟩; simp [Kept])

@[simp] theorem swapCores_kept (s : State) (n : Nat) : Kept s (swapCores s n) := by
  unfold swapCores
  (try dsimp only); (repeat' split) <;> simp [Kept]

theorem execKrnSwapSwitch_kept (slot : Nat) (s : State) : ∃ t, execKrnSwapSwitch slot s = .next t ∧ Kept s t := by
  unfold execKrnSwapSwitch
  (try dsimp only); (repeat' split) <;> (refine ⟨_, rfl, ?_⟩; simp [Kept])

theorem execKrnSwapForcedHalt_kept (slot : Nat) (s : State) : ∃ t, execKrnSwapForcedHalt slot s = .next t ∧ Kept s t := by
  unfold execKrnSwapForcedHalt
  (try dsimp only); (repeat' split) <;> (refine ⟨_, rfl, ?_⟩; simp [Kept])

@[simp] theorem setUserCores_kept (s : State) (n : Nat) : Kept s (setUserCores s n) := by
  unfold setUserCores
  (try dsimp only); refine foldl_kept _ ?_ _ _; intro s b; (try dsimp only); (repeat' split) <;> simp [Kept]

@[simp] theorem resumeSlice_kept (s : State) (i m : Nat) : Kept s (resumeSlice s i m) := by
  unfold resumeSlice
  generalize List.range 128 = zs
  generalize [0, 1] = ps
  have h1 := foldl_kept (fun s p =>
    let st := statsOf s p
    let s := setStats s p { st with acc := (List.range st.acc.length).map (fun q =>
      if inSlice i m st.acc.length q then statNone else nth statNone st.acc q) }
    modRaman s p (fun x => { x with e := (List.range x.e.length).map (fun q =>
      if inSlice i m x.e.length q then eRestart (nth eNone x.e q) else nth eNone x.e q) })) (fun s p => ⟨rfl, rfl, rfl, rfl⟩) ps s
  refine h1.trans (foldl_kept _ (fun s z => ?_) zs _)
  split
  · exact Kept.rfl' s
  · dsimp only
    split
    · exact ⟨rfl, rfl, rfl, rfl⟩
    · exact Kept.rfl' s

@[simp] theorem findSpare_kept (s : State) (c : Nat) : KeptH s (findSpare s c).1 := by
  unfold findSpare
  (try dsimp only); (repeat' split) <;> simp [Kept, KeptH]

@[simp] theorem slotLosesCore_kept (s : State) (n : Nat) : KeptH s (slotLosesCore s n) := by
  unfold slotLosesCore
  (try dsimp only); split <;> simp [Kept, KeptH]

@[simp] theorem shedDetector_kept (s : State) (d : Nat) : Kept s (shedDetector s d) := by
  unfold shedDetector
  simp [Kept]

@[simp] theorem shedNext_kept (s : State) (d : Nat) : Kept s (shedNext s d) := by
  unfold shedNext
  by_cases h : vendorFits s
  · rw [if_pos h]; exact Kept.rfl' s
  · rw [if_neg h]; exact shedDetector_kept s d

@[simp] theorem shedDetectors_kept (s : State) : Kept s (shedDetectors s) := by
  unfold shedDetectors
  exact foldl_kept shedNext shedNext_kept _ s

@[simp] theorem vendorTakes_kept (s : State) (c : Nat) (slice : Nat × Nat) : Kept s (vendorTakes s c slice) := by
  unfold vendorTakes
  simp [Kept]

@[simp] theorem slotTakes_kept (s : State) (n : Nat) (c : Nat) (ran : Bool) : Kept s (slotTakes s n c ran) := by
  unfold slotTakes
  (try dsimp only); (repeat' split) <;> simp [Kept]

@[simp] theorem degrade_kept (s : State) (f : CoreFault) : KeptH s (degrade s f) := by
  unfold degrade
  (try dsimp only); (repeat' split) <;> simp [Kept, KeptH]

@[simp] theorem spareFor_kept (s : State) (f : CoreFault) : KeptH s (spareFor s f).1 := by
  unfold spareFor
  (try dsimp only); split <;> simp [Kept, KeptH]

theorem execNeedleCoreFault_kept (core : Nat) (s : State) : ∃ t, execNeedleCoreFault core s = .next t ∧ KeptH s t := by
  unfold execNeedleCoreFault
  (try dsimp only); (repeat' split) <;> (refine ⟨_, rfl, ?_⟩; simp [Kept, KeptH])

@[simp] theorem resumeWork_kept (s : State) (f : CoreFault) (sp : Nat) : Kept s (resumeWork s f sp) := by
  unfold resumeWork
  (try dsimp only); (repeat' split) <;> simp [Kept]

theorem execNeedleSpareInService_kept (core : Nat) (s : State) : ∃ t, execNeedleSpareInService core s = .next t ∧ Kept s t := by
  unfold execNeedleSpareInService
  (try dsimp only); (repeat' split) <;> (refine ⟨_, rfl, ?_⟩; simp [Kept])

theorem execNeedleHeartbeatTimeout_kept (core : Nat) (s : State) : ∃ t, execNeedleHeartbeatTimeout core s = .next t ∧ Kept s t := by
  unfold execNeedleHeartbeatTimeout
  (try dsimp only); (repeat' split) <;> (refine ⟨_, rfl, ?_⟩; simp [Kept])

theorem execNeedleEccError_kept (core : Nat) (double : Bool) (s : State) : ∃ t, execNeedleEccError core double s = .next t ∧ KeptH s t := by
  unfold execNeedleEccError
  (try dsimp only); (repeat' split) <;> (refine ⟨_, rfl, ?_⟩; simp [Kept, KeptH])

theorem execStatisticsSecond_kept (port : Nat) (s : State) : ∃ t, execStatisticsSecond port s = .next t ∧ Kept s t := by
  unfold execStatisticsSecond
  (try dsimp only); (repeat' split) <;> (refine ⟨_, rfl, ?_⟩; simp [Kept, foldl_pending, foldl_dram, foldl_hostMem, foldl_rollback])

@[simp] theorem unwrapRow_kept (s : State) (p : Nat) (row : Row) : Kept s (unwrapRow s p row) := by
  unfold unwrapRow
  (try dsimp only); (repeat' split) <;> simp [Kept]

@[simp] theorem specRow_kept (s : State) (p : Nat) (row : Row) : Kept s (specRow s p row) := by
  unfold specRow
  (try dsimp only); split <;> simp [Kept]

@[simp] theorem deliverOldest_kept (s : State) (p : Nat) : Kept s (deliverOldest s p) := by
  unfold deliverOldest
  (try dsimp only); (repeat' split) <;> simp [Kept]

@[simp] theorem unwrapRows_kept (s : State) (p : Nat) : Kept s (unwrapRows s p) := by
  unfold unwrapRows
  simp [Kept, foldl_pending, foldl_dram, foldl_hostMem, foldl_rollback]

@[simp] theorem flushPhase_kept (s : State) (p : Nat) : Kept s (flushPhase s p) := by
  unfold flushPhase
  simp [Kept, foldl_pending, foldl_dram, foldl_hostMem, foldl_rollback]

@[simp] theorem forcePlan_kept (s : State) (p : Nat) (vals : List (Nat × Int)) : Kept s (forcePlan s p vals) := by
  unfold forcePlan
  simp [Kept, foldl_pending, foldl_dram, foldl_hostMem, foldl_rollback]

@[simp] theorem dropStagedPlan_kept (s : State) (p : Nat) : Kept s (dropStagedPlan s p) := by
  unfold dropStagedPlan
  simp [Kept]

@[simp] theorem beginDrain_kept (s : State) (p : Nat) (tb : Nat) : Kept s (beginDrain s p tb) := by
  unfold beginDrain
  (try dsimp only); split <;> simp [Kept]

@[simp] theorem placeFirst_kept (s : State) (p : Nat) (at_ : Nat) : Kept s (placeFirst s p at_) := by
  unfold placeFirst
  simp [Kept]

@[simp] theorem takePlan_kept (s : State) (p : Nat) : Kept s (takePlan s p) := by
  unfold takePlan
  (try dsimp only); (repeat' split) <;> simp [Kept]

@[simp] theorem drivePins_kept (s : State) (ps : List Nat) : Kept s (drivePins s ps) := by
  unfold drivePins
  simp [Kept]

@[simp] theorem bodyPortApply_kept (p : Nat) (s : State) : Kept s (bodyPortApply p s).1 := by
  unfold bodyPortApply
  (try dsimp only); (repeat' split) <;> simp [Kept, foldl_pending, foldl_dram, foldl_hostMem, foldl_rollback]

theorem execPortApply_kept (r : Req) (port : Nat) (s : State) : ∃ t, execPortApply r port s = .next t ∧ Kept s t := by
  unfold execPortApply
  refine ⟨_, rfl, ?_⟩; simp [Kept]

@[simp] theorem bodyPortArm_kept (p : Nat) (s : State) : Kept s (bodyPortArm p s).1 := by
  unfold bodyPortArm
  (try dsimp only); (repeat' split) <;> simp [Kept, foldl_pending, foldl_dram, foldl_hostMem, foldl_rollback]

theorem execPortArm_kept (r : Req) (port : Nat) (s : State) : ∃ t, execPortArm r port s = .next t ∧ Kept s t := by
  unfold execPortArm
  refine ⟨_, rfl, ?_⟩; simp [Kept]

@[simp] theorem startPort_kept (s : State) (p : Nat) (at_ : Nat) : Kept s (startPort s p at_) := by
  unfold startPort
  simp [Kept, foldl_pending, foldl_dram, foldl_hostMem, foldl_rollback]

@[simp] theorem bodyPortStart_kept (p : Nat) (at_ : Nat) (s : State) : Kept s (bodyPortStart p at_ s).1 := by
  unfold bodyPortStart
  (try dsimp only); (repeat' split) <;> simp [Kept, foldl_pending, foldl_dram, foldl_hostMem, foldl_rollback]

theorem execPortStart_kept (r : Req) (port : Nat) (at_ : Nat) (s : State) : ∃ t, execPortStart r port at_ s = .next t ∧ Kept s t := by
  unfold execPortStart
  refine ⟨_, rfl, ?_⟩; simp [Kept]

@[simp] theorem stopPort_kept (s : State) (p : Nat) : Kept s (stopPort s p) := by
  unfold stopPort
  (try dsimp only); (repeat' split) <;> simp [Kept]

@[simp] theorem bodyPortStop_kept (p : Nat) (s : State) : Kept s (bodyPortStop p s).1 := by
  unfold bodyPortStop
  (try dsimp only); (repeat' split) <;> simp [Kept, foldl_pending, foldl_dram, foldl_hostMem, foldl_rollback]

theorem execPortStop_kept (r : Req) (port : Nat) (s : State) : ∃ t, execPortStop r port s = .next t ∧ Kept s t := by
  unfold execPortStop
  refine ⟨_, rfl, ?_⟩; simp [Kept]

@[simp] theorem bodyPortStatus_kept (p : Nat) (s : State) : Kept s (bodyPortStatus p s).1 := by
  unfold bodyPortStatus
  (try dsimp only); split <;> simp [Kept]

theorem execPortStatus_kept (r : Req) (port : Nat) (s : State) : ∃ t, execPortStatus r port s = .next t ∧ Kept s t := by
  unfold execPortStatus
  refine ⟨_, rfl, ?_⟩; simp [Kept]

@[simp] theorem bodyPortProbe_kept (p : Nat) (s : State) : Kept s (bodyPortProbe p s).1 := by
  unfold bodyPortProbe
  (try dsimp only); (repeat' split) <;> simp [Kept]

theorem execPortProbe_kept (r : Req) (port : Nat) (s : State) : ∃ t, execPortProbe r port s = .next t ∧ Kept s t := by
  unfold execPortProbe
  refine ⟨_, rfl, ?_⟩; simp [Kept]

theorem execPortProbeDone_kept (port : Nat) (profile : List Nat) (floor : Nat) (s : State) : ∃ t, execPortProbeDone port profile floor s = .next t ∧ Kept s t := by
  unfold execPortProbeDone
  (try dsimp only); (repeat' split) <;> (refine ⟨_, rfl, ?_⟩; simp [Kept])

@[simp] theorem reportRef_kept (s : State) (p : Nat) (tRef : Nat) : Kept s (reportRef s p tRef) := by
  unfold reportRef
  simp [Kept]

@[simp] theorem refLost_kept (s : State) (p : Nat) : Kept s (refLost s p) := by
  unfold refLost
  simp [Kept]

@[simp] theorem setLockSt_kept (s : State) (p : Nat) (st : LockSt) : Kept s (setLockSt s p st) := by
  unfold setLockSt
  (try dsimp only); (repeat' split) <;> simp [Kept]

@[simp] theorem earlyEdge_kept (s : State) (p : Nat) : Kept s (earlyEdge s p) := by
  unfold earlyEdge
  simp [Kept]

@[simp] theorem schedule_kept (s : State) (p : Nat) (t : Nat) (tick : Option Nat) (trig : Bool) (hold : Bool) : Kept s (schedule s p t tick trig hold) := by
  unfold schedule
  simp [Kept]

@[simp] theorem startCycle_kept (s : State) (p : Nat) (edge : Nat) (anchor : Nat) (size : Nat) (tRef : Nat) (done : Nat) : Kept s (startCycle s p edge anchor size tRef done) := by
  unfold startCycle
  simp [Kept]

@[simp] theorem predictCycle_kept (s : State) (p : Nat) (n : Nat) (trig : Bool) : Kept s (predictCycle s p n trig) := by
  unfold predictCycle
  simp [Kept]

@[simp] theorem scheduleCycle_kept (s : State) (p : Nat) (trig : Bool) : Kept s (scheduleCycle s p trig) := by
  unfold scheduleCycle
  (try dsimp only); (repeat' split) <;> simp [Kept]

@[simp] theorem edgeCycle_kept (s : State) (p : Nat) (ts : Nat) (anchor : Nat) (size : Nat) (tRef : Nat) (tick : Nat) : Kept s (edgeCycle s p ts anchor size tRef tick) := by
  unfold edgeCycle
  simp [Kept]

@[simp] theorem edgeAcquiring_kept (s : State) (p : Nat) (ts : Nat) (tick : Nat) (mayStart : Bool) : Kept s (edgeAcquiring s p ts tick mayStart) := by
  unfold edgeAcquiring
  (try dsimp only); (repeat' split) <;> simp [Kept]

@[simp] theorem edgeLocked_kept (s : State) (p : Nat) (ts : Nat) (tick : Nat) (mayStart : Bool) : Kept s (edgeLocked s p ts tick mayStart) := by
  unfold edgeLocked
  (try dsimp only); (repeat' split) <;> simp [Kept]

@[simp] theorem edgeHoldover_kept (s : State) (p : Nat) (ts : Nat) (tick : Nat) (mayStart : Bool) : Kept s (edgeHoldover s p ts tick mayStart) := by
  unfold edgeHoldover
  (try dsimp only); (repeat' split) <;> simp [Kept]

@[simp] theorem edgeTooFast_kept (s : State) (p : Nat) (ts : Nat) (tick : Nat) (mayStart : Bool) : Kept s (edgeTooFast s p ts tick mayStart) := by
  unfold edgeTooFast
  (try dsimp only); (repeat' split) <;> simp [Kept]

@[simp] theorem lockEdge_kept (s : State) (p : Nat) (ts : Nat) (tick : Nat) (mayStart : Bool) : Kept s (lockEdge s p ts tick mayStart) := by
  unfold lockEdge
  (try dsimp only); split <;> simp [Kept]

@[simp] theorem triggerEdge_kept (s : State) (p : Nat) (tick : Nat) : Kept s (triggerEdge s p tick) := by
  unfold triggerEdge
  (try dsimp only); split <;> simp [Kept]

@[simp] theorem portEdge_kept (s : State) (pin : Nat) (ts : Nat) (tick : Nat) (p : Nat) : Kept s (portEdge s pin ts tick p) := by
  unfold portEdge
  (try dsimp only); (repeat' split) <;> simp [Kept]

theorem execTriginEdge_kept (pin : Nat) (s : State) : ∃ t, execTriginEdge pin s = .next t ∧ Kept s t := by
  unfold execTriginEdge
  split
  · exact ⟨_, rfl, Kept.rfl' s⟩
  · next h =>
    have k := popMeas_kept _ _ _ _ h
    split
    · exact ⟨_, rfl, k⟩
    · exact ⟨_, rfl, k.trans ((foldl_kept _ (fun s p => portEdge_kept s pin _ _ p) _ _).trans (skeinTrigin_kept _ _ _ _))⟩

theorem execLockWindowExpiry_kept (port : Nat) (s : State) : ∃ t, execLockWindowExpiry port s = .next t ∧ Kept s t := by
  unfold execLockWindowExpiry
  (try dsimp only); (repeat' split) <;> (refine ⟨_, rfl, ?_⟩; simp [Kept])

@[simp] theorem scheduleNext_kept (s : State) (p : Nat) : Kept s (scheduleNext s p) := by
  unfold scheduleNext
  (try dsimp only); (repeat' split) <;> simp [Kept]

@[simp] theorem pairFollow_kept (s : State) (t : Nat) (trig : Bool) (hold : Bool) : Kept s (pairFollow s t trig hold) := by
  unfold pairFollow
  (try dsimp only); split <;> simp [Kept]

theorem execShotStart_kept (port : Nat) (s : State) : ∃ t, execShotStart port s = .next t ∧ Kept s t := by
  unfold execShotStart
  (try dsimp only); (repeat' split) <;> (refine ⟨_, rfl, ?_⟩; simp [Kept])

@[simp] theorem spendLaunchSnags_kept (s : State) (p : Nat) : Kept s (spendLaunchSnags s p) := by
  unfold spendLaunchSnags
  (try dsimp only); (repeat' split) <;> simp [Kept]

theorem execPlyLaunch_kept (port : Nat) (s : State) : ∃ t, execPlyLaunch port s = .next t ∧ Kept s t := by
  unfold execPlyLaunch
  (try dsimp only); (repeat' split) <;> (refine ⟨_, rfl, ?_⟩; simp [Kept])

theorem execShotEnd_kept (port : Nat) (s : State) : ∃ t, execShotEnd port s = .next t ∧ Kept s t := by
  unfold execShotEnd
  (try dsimp only); (repeat' split) <;> (refine ⟨_, rfl, ?_⟩; simp [Kept])

@[simp] theorem lockAfterChange_kept (s : State) (p : Nat) (k : Lock) : Kept s (lockAfterChange s p k) := by
  unfold lockAfterChange
  (try dsimp only); (repeat' split) <;> simp [Kept]

@[simp] theorem firstAfterChange_kept (s : State) (p : Nat) (endTs : Nat) : Kept s (firstAfterChange s p endTs) := by
  unfold firstAfterChange
  (try dsimp only); (repeat' split) <;> simp [Kept]

@[simp] theorem endChange_kept (s : State) (p : Nat) (endTs : Nat) : Kept s (endChange s p endTs) := by
  unfold endChange
  simp [Kept]

@[simp] theorem endStop_kept (s : State) (p : Nat) : Kept s (endStop s p) := by
  unfold endStop
  (try dsimp only); split <;> simp [Kept]

@[simp] theorem drainEnds_kept (s : State) (port : Nat) : Kept s (drainEnds s port) := by
  unfold drainEnds
  (try dsimp only); (repeat' split) <;> simp [Kept]

@[simp] theorem launchKnown_kept (s : State) (p : Nat) (l : Launch) : Kept s (launchKnown s p l) := by
  unfold launchKnown
  (try dsimp only); split <;> simp [Kept]

@[simp] theorem confirm_kept (s : State) (p : Nat) (l : Launch) (ts : Nat) : Kept s (confirm s p l ts) := by
  unfold confirm
  (try dsimp only); (repeat' split) <;> simp [Kept]

theorem execLmonEdge_kept (port : Nat) (s : State) : ∃ t, execLmonEdge port s = .next t ∧ Kept s t := by
  unfold execLmonEdge
  split
  · exact ⟨_, rfl, Kept.rfl' s⟩
  · next h =>
    have k := popMeas_kept _ _ _ _ h
    split
    · exact ⟨_, rfl, k⟩
    · split
      · exact ⟨_, rfl, k.trans (confirm_kept _ _ _ _)⟩
      · exact ⟨_, rfl, k⟩

theorem execLmonWindowExpiry_kept (port : Nat) (s : State) : ∃ t, execLmonWindowExpiry port s = .next t ∧ Kept s t := by
  unfold execLmonWindowExpiry
  (try dsimp only); (repeat' split) <;> (refine ⟨_, rfl, ?_⟩; simp [Kept])

theorem execLaunchLost_kept (port : Nat) (s : State) : ∃ t, execLaunchLost port s = .next t ∧ Kept s t := by
  unfold execLaunchLost
  (try dsimp only); (repeat' split) <;> (refine ⟨_, rfl, ?_⟩; simp [Kept])

theorem execTgateOpen_kept (port : Nat) (s : State) : ∃ t, execTgateOpen port s = .next t ∧ Kept s t := by
  unfold execTgateOpen
  (try dsimp only); (repeat' split) <;> (refine ⟨_, rfl, ?_⟩; simp [Kept])

@[simp] theorem proofPulse_kept (s : State) (p : Nat) : Kept s (proofPulse s p) := by
  unfold proofPulse
  simp [Kept]

theorem execSelvedgeSlot_kept (port : Nat) (s : State) : ∃ t, execSelvedgeSlot port s = .next t ∧ Kept s t := by
  unfold execSelvedgeSlot
  (try dsimp only); (repeat' split) <;> (refine ⟨_, rfl, ?_⟩; simp [Kept])

@[simp] theorem stepEndChannel_kept (s : State) (p : Nat) (c : Nat) (r : SliceResult) : Kept s (stepEndChannel s p c r) := by
  unfold stepEndChannel
  (try dsimp only); split <;> simp [Kept]

@[simp] theorem runStepEnds_kept (s : State) (p : Nat) : Kept s (runStepEnds s p) := by
  unfold runStepEnds
  (try dsimp only); split <;> simp [Kept]

@[simp] theorem turnStepEnds_kept (s : State) (p : Nat) : Kept s (turnStepEnds s p) := by
  unfold turnStepEnds
  (try dsimp only); split <;> simp [Kept]

theorem execSliceStepDone_kept (port : Nat) (results : List SliceResult) (s : State) : ∃ t, execSliceStepDone port results s = .next t ∧ Kept s t := by
  unfold execSliceStepDone
  (try dsimp only); (repeat' split) <;> (refine ⟨_, rfl, ?_⟩; simp [Kept, foldl_pending, foldl_dram, foldl_hostMem, foldl_rollback])

@[simp] theorem fgJudge_kept (s : State) (p : Nat) (c : Nat) (f : FgRun) (results : List SliceResult) : Kept s (fgJudge s p c f results) := by
  unfold fgJudge
  (try dsimp only); (repeat' split) <;> simp [Kept, foldl_pending, foldl_dram, foldl_hostMem, foldl_rollback]

@[simp] theorem fgAdvance_kept (s : State) (p : Nat) : Kept s (fgAdvance s p) := by
  unfold fgAdvance
  (try dsimp only); (repeat' split) <;> simp [Kept]

theorem execSliceFgChannel_kept (port : Nat) (results : List SliceResult) (s : State) : ∃ t, execSliceFgChannel port results s = .next t ∧ Kept s t := by
  unfold execSliceFgChannel
  (try dsimp only); (repeat' split) <;> (refine ⟨_, rfl, ?_⟩; simp [Kept])

@[simp] theorem ramanCalStart_kept (s : State) (dom : Nat) (p : Nat) : Kept s (ramanCalStart s dom p) := by
  unfold ramanCalStart
  simp [Kept]

@[simp] theorem ramanCalAsk_kept (s : State) (dom : Nat) (p : Nat) : Kept s (ramanCalAsk s dom p) := by
  unfold ramanCalAsk
  (try dsimp only); split <;> simp [Kept]

@[simp] theorem ramanCalNext_kept (s : State) (dom : Nat) (p : Nat) : Kept s (ramanCalNext s dom p) := by
  unfold ramanCalNext
  (try dsimp only); split <;> simp [Kept]

@[simp] theorem gainRunResult_kept (s : State) (ofs : List Int) (codes : List Int) : Kept s (gainRunResult s ofs codes).1 := by
  unfold gainRunResult
  (try dsimp only); (repeat' split) <;> simp [Kept]

theorem execRamanGainCalDone_kept (port : Nat) (codes : List Int) (s : State) : ∃ t, execRamanGainCalDone port codes s = .next t ∧ Kept s t := by
  unfold execRamanGainCalDone
  (try dsimp only); (repeat' split) <;> (refine ⟨_, rfl, ?_⟩; simp [Kept])

@[simp] theorem ramanNotQuiet_kept (s : State) (p : Nat) (range : Nat) : Kept s (ramanNotQuiet s p range) := by
  unfold ramanNotQuiet
  (try dsimp only); split <;> simp [Kept]

theorem execRamanOffsetCalDone_kept (port : Nat) (low : List (List Int)) (high : List (List Int)) (s : State) : ∃ t, execRamanOffsetCalDone port low high s = .next t ∧ Kept s t := by
  unfold execRamanOffsetCalDone
  (try dsimp only); (repeat' split) <;> (refine ⟨_, rfl, ?_⟩; simp [Kept])

@[simp] theorem testCores_kept (s : State) (i : Nat) (cs : List Nat) : Kept s (testCores s i cs) := by
  induction cs generalizing s i with
  | nil => exact Kept.rfl' s
  | cons c cs ih =>
    unfold testCores
    dsimp only
    obtain ⟨h1, h2, h3, h4⟩ := ih (i := i + 1) (s := { setUse s c (.testing (nowClk s + (i + 1) * 40 * usTicks)) with
      cal := { (setUse s c (.testing (nowClk s + (i + 1) * 40 * usTicks))).cal with
        underTest := (setUse s c (.testing (nowClk s + (i + 1) * 40 * usTicks))).cal.underTest ++ [c] } })
    refine ⟨h1.trans ?_, h2.trans ?_, h3.trans ?_, h4.trans ?_⟩ <;> simp

@[simp] theorem testEngines_kept (s : State) (i : Nat) (es : List Nat) : Kept s (testEngines s i es) := by
  induction es generalizing s i with
  | nil => exact Kept.rfl' s
  | cons e es ih =>
    unfold testEngines
    dsimp only
    obtain ⟨h1, h2, h3, h4⟩ := ih (i := i + 1) (s := { setEngine s e ⟨.testing (nowClk s + (i + 1) * 70 * usTicks), .idle, 0⟩ with
      cal := { (setEngine s e ⟨.testing (nowClk s + (i + 1) * 70 * usTicks), .idle, 0⟩).cal with
        underTest := (setEngine s e ⟨.testing (nowClk s + (i + 1) * 70 * usTicks), .idle, 0⟩).cal.underTest ++ [256 + e] } })
    refine ⟨h1.trans ?_, h2.trans ?_, h3.trans ?_, h4.trans ?_⟩ <;> simp

@[simp] theorem testsSettle_kept (s : State) (dom : Nat) : Kept s (testsSettle s dom) := by
  unfold testsSettle
  (try dsimp only); split <;> simp [Kept]

@[simp] theorem unitTested_kept (s : State) (u : Nat) (pass : Bool) : Kept s (unitTested s u pass) := by
  unfold unitTested
  (try dsimp only); (repeat' split) <;> simp [Kept]

@[simp] theorem testFails_kept (s : State) (c : Nat) : Kept s (testFails s c) := by
  unfold testFails
  simp [Kept]

theorem execCoreSelftestDone_kept (core : Nat) (pass : Bool) (s : State) : ∃ t, execCoreSelftestDone core pass s = .next t ∧ KeptH s t := by
  unfold execCoreSelftestDone
  (try dsimp only); (repeat' split) <;> (refine ⟨_, rfl, ?_⟩; simp [Kept, KeptH])

theorem execCompTestDone_kept (engine : Nat) (pass : Bool) (s : State) : ∃ t, execCompTestDone engine pass s = .next t ∧ Kept s t := by
  unfold execCompTestDone
  (try dsimp only); (repeat' split) <;> (refine ⟨_, rfl, ?_⟩; simp [Kept])

theorem execSpareTestTimer_kept (s : State) : ∃ t, execSpareTestTimer s = .next t ∧ Kept s t := by
  unfold execSpareTestTimer
  (try dsimp only); (repeat' split) <;> (refine ⟨_, rfl, ?_⟩; simp [Kept])

@[simp] theorem rowRepair_kept (s : State) (array : Nat) (row : Nat) : Kept s (rowRepair s array row) := by
  unfold rowRepair
  simp [Kept]

theorem execSramRowRepair_kept (r : SramRow) (errs : List Nat) (s : State) : ∃ t, execSramRowRepair r errs s = .next t ∧ Kept s t := by
  unfold execSramRowRepair
  (try dsimp only); (repeat' split) <;> (refine ⟨_, rfl, ?_⟩; simp [Kept])

@[simp] theorem rowPasses_kept (s : State) (q : Nat × Nat) : Kept s (rowPasses s q) := by
  unfold rowPasses
  (try dsimp only); split <;> simp [Kept]

theorem execSramCalDone_kept (failed : Bool) (passed : List (Nat × Nat)) (s : State) : ∃ t, execSramCalDone failed passed s = .next t ∧ Kept s t := by
  unfold execSramCalDone
  (try dsimp only); (repeat' split) <;> (refine ⟨_, rfl, ?_⟩; simp [Kept, foldl_pending, foldl_dram, foldl_hostMem, foldl_rollback])

@[simp] theorem sliceRun_kept (s : State) (p : Nat) : Kept s (sliceRun s p) := by
  unfold sliceRun
  (try dsimp only); split <;> simp [Kept]

@[simp] theorem calStart_kept (s : State) (dom : Nat) (ins : Nat) : Kept s (calStart s dom ins) := by
  unfold calStart
  (try dsimp only); split <;> simp [Kept]

@[simp] theorem bodyCalRun_kept (dom : Nat) (ins : Nat) (s : State) : Kept s (bodyCalRun dom ins s).1 := by
  unfold bodyCalRun
  (try dsimp only); (repeat' split) <;> simp [Kept, foldl_pending, foldl_dram, foldl_hostMem, foldl_rollback]

theorem execCalRun_kept (r : Req) (dom : Nat) (ins : Nat) (s : State) : ∃ t, execCalRun r dom ins s = .next t ∧ Kept s t := by
  unfold execCalRun
  refine ⟨_, rfl, ?_⟩; simp [Kept]

@[simp] theorem bodyCalStatus_kept (dom : Nat) (ins : Nat) (s : State) : Kept s (bodyCalStatus dom ins s).1 := by
  unfold bodyCalStatus
  (try dsimp only); split <;> simp [Kept]

theorem execCalStatus_kept (r : Req) (dom : Nat) (ins : Nat) (s : State) : ∃ t, execCalStatus r dom ins s = .next t ∧ Kept s t := by
  unfold execCalStatus
  refine ⟨_, rfl, ?_⟩; simp [Kept]

@[simp] theorem sliceAbort_kept (s : State) (p : Nat) : Kept s (sliceAbort s p) := by
  unfold sliceAbort
  (try dsimp only); (repeat' split) <;> simp [Kept]

@[simp] theorem feAbort_kept (s : State) : Kept s (feAbort s) := by
  unfold feAbort
  simp [Kept]

@[simp] theorem ramanAbort_kept (s : State) (dom : Nat) (p : Nat) : Kept s (ramanAbort s dom p) := by
  unfold ramanAbort
  (try dsimp only); split <;> simp [Kept]

@[simp] theorem unitBack_kept (s : State) (u : Nat) : Kept s (unitBack s u) := by
  unfold unitBack
  (try dsimp only); split <;> simp [Kept]

@[simp] theorem testAbort_kept (s : State) (dom : Nat) : Kept s (testAbort s dom) := by
  unfold testAbort
  simp [Kept, foldl_pending, foldl_dram, foldl_hostMem, foldl_rollback]

@[simp] theorem calAbortOne_kept (s : State) (dom : Nat) (ins : Nat) : Kept s (calAbortOne s dom ins) := by
  unfold calAbortOne
  (try dsimp only); (repeat' split) <;> simp [Kept]

@[simp] theorem bodyCalAbort_kept (dom : Nat) (ins : Nat) (s : State) : Kept s (bodyCalAbort dom ins s).1 := by
  unfold bodyCalAbort
  (try dsimp only); (repeat' split) <;> simp [Kept, foldl_pending, foldl_dram, foldl_hostMem, foldl_rollback]

theorem execCalAbort_kept (r : Req) (dom : Nat) (ins : Nat) (s : State) : ∃ t, execCalAbort r dom ins s = .next t ∧ Kept s t := by
  unfold execCalAbort
  refine ⟨_, rfl, ?_⟩; simp [Kept]

@[simp] theorem bodyFeLoopCfg_kept (n : Nat) (s : State) : Kept s (bodyFeLoopCfg n s).1 := by
  unfold bodyFeLoopCfg
  (try dsimp only); (repeat' split) <;> simp [Kept]

theorem execFeLoopCfg_kept (r : Req) (loop : Nat) (s : State) : ∃ t, execFeLoopCfg r loop s = .next t ∧ Kept s t := by
  unfold execFeLoopCfg
  refine ⟨_, rfl, ?_⟩; simp [Kept]

@[simp] theorem loopTakes_kept (s : State) (n : Nat) (x : Rat) : Kept s (loopTakes s n x) := by
  unfold loopTakes
  (try dsimp only); split <;> simp [Kept]

theorem execLoopUpdate_kept (loop : Nat) (s : State) : ∃ t, execLoopUpdate loop s = .next t ∧ Kept s t := by
  unfold execLoopUpdate
  (try dsimp only); (repeat' split) <;> (refine ⟨_, rfl, ?_⟩; simp [Kept])

@[simp] theorem refxChecks_kept (s : State) : Kept s (refxChecks s) := by
  unfold refxChecks
  dsimp only
  have h (xs : List Nat) : Kept s (xs.foldl (fun s n =>
      if loopRefxBad s n || decide ((loopOf s n).st = .faultLevel) then loopToFault s n
      else loopDrive s n (loopMap s n (loopOf s n).x)) s) :=
    foldl_kept _ (fun s n => by split <;> simp [Kept]) _ s
  specialize h ([0, 1, 2, 3].filter (fun n => loopOn s n && decide (2 ≤ loopMode s n)))
  generalize List.foldl _ s _ = x at h ⊢
  refine h.trans ?_
  (repeat' split) <;> simp [Kept]

theorem execRefxMeasure_kept (mv : Nat) (s : State) : ∃ t, execRefxMeasure mv s = .next t ∧ Kept s t := by
  unfold execRefxMeasure
  (try dsimp only); (repeat' split) <;> (refine ⟨_, rfl, ?_⟩; simp [Kept])

theorem execLoopHoldExpiry_kept (loop : Nat) (s : State) : ∃ t, execLoopHoldExpiry loop s = .next t ∧ Kept s t := by
  unfold execLoopHoldExpiry
  (try dsimp only); (repeat' split) <;> (refine ⟨_, rfl, ?_⟩; simp [Kept])

theorem execLoopSenseMismatch_kept (loop : Nat) (sensed : Int) (s : State) : ∃ t, execLoopSenseMismatch loop sensed s = .next t ∧ Kept s t := by
  unfold execLoopSenseMismatch
  (try dsimp only); (repeat' split) <;> (refine ⟨_, rfl, ?_⟩; simp [Kept])

@[simp] theorem loopReleased_kept (s : State) (n : Nat) : Kept s (loopReleased s n) := by
  unfold loopReleased
  (try dsimp only); split <;> simp [Kept]

@[simp] theorem bodyMemFreq_kept (fsp : Nat) (s : State) : Kept s (bodyMemFreq fsp s).1 := by
  unfold bodyMemFreq
  (try dsimp only); (repeat' split) <;> simp [Kept]

theorem execMemFreq_kept (r : Req) (fsp : Nat) (s : State) : ∃ t, execMemFreq r fsp s = .next t ∧ Kept s t := by
  unfold execMemFreq
  refine ⟨_, rfl, ?_⟩; simp [Kept]

@[simp] theorem beginTraining_kept (s : State) : Kept s (beginTraining s) := by
  unfold beginTraining
  simp [Kept]

@[simp] theorem bodyMemTrain_kept (s : State) : Kept s (bodyMemTrain s).1 := by
  unfold bodyMemTrain
  (try dsimp only); (repeat' split) <;> simp [Kept]

theorem execMemTrain_kept (r : Req) (s : State) : ∃ t, execMemTrain r s = .next t ∧ Kept s t := by
  unfold execMemTrain
  refine ⟨_, rfl, ?_⟩; simp [Kept]

theorem execMemTrainDone_kept (failed : Nat) (s : State) : ∃ t, execMemTrainDone failed s = .next t ∧ Kept s t := by
  unfold execMemTrainDone
  (try dsimp only); (repeat' split) <;> (refine ⟨_, rfl, ?_⟩; simp [Kept, foldl_pending, foldl_dram, foldl_hostMem, foldl_rollback])

@[simp] theorem pprDone_kept (s : State) (ch : Nat) (rank : Nat) (bank : Nat) (row : Nat) (kind : Nat) : Kept s (pprDone s ch rank bank row kind) := by
  unfold pprDone
  (try dsimp only); split <;> simp [Kept]

@[simp] theorem pprFails_kept (s : State) (ch : Nat) (row : Nat) : Kept s (pprFails s ch row) := by
  unfold pprFails
  simp [Kept]

@[simp] theorem bodyMemPpr_kept (ch : Nat) (rank : Nat) (bank : Nat) (kind : Nat) (row : Nat) (s : State) : Kept s (bodyMemPpr ch rank bank kind row s).1 := by
  unfold bodyMemPpr
  (try dsimp only); (repeat' split) <;> simp [Kept]

theorem execMemPpr_kept (r : Req) (ch : Nat) (rank : Nat) (bank : Nat) (kind : Nat) (row : Nat) (s : State) : ∃ t, execMemPpr r ch rank bank kind row s = .next t ∧ Kept s t := by
  unfold execMemPpr
  refine ⟨_, rfl, ?_⟩; simp [Kept]

theorem execPprHardDone_kept (confirmed : Bool) (s : State) : ∃ t, execPprHardDone confirmed s = .next t ∧ Kept s t := by
  unfold execPprHardDone
  (try dsimp only); (repeat' split) <;> (refine ⟨_, rfl, ?_⟩; simp [Kept])

theorem execFspChangeComplete_kept (s : State) : ∃ t, execFspChangeComplete s = .next t ∧ Kept s t := by
  unfold execFspChangeComplete
  (try dsimp only); (repeat' split) <;> (refine ⟨_, rfl, ?_⟩; simp [Kept])

theorem execDramAccess_kept (ch : Nat) (arrived : List DramReq) (s : State) : ∃ t, execDramAccess ch arrived s = .next t ∧ Kept s t := by
  unfold execDramAccess
  (try dsimp only); (repeat' split) <;> (refine ⟨_, rfl, ?_⟩; simp [Kept])

theorem execRowIdleClose_kept (ch : Nat) (rank : Nat) (bank : Nat) (s : State) : ∃ t, execRowIdleClose ch rank bank s = .next t ∧ Kept s t := by
  unfold execRowIdleClose
  (try dsimp only); (repeat' split) <;> (refine ⟨_, rfl, ?_⟩; simp [Kept])

theorem execActCountReset_kept (s : State) : ∃ t, execActCountReset s = .next t ∧ Kept s t := by
  unfold execActCountReset
  (try dsimp only); (repeat' split) <;> (refine ⟨_, rfl, ?_⟩; simp [Kept, foldl_pending, foldl_dram, foldl_hostMem, foldl_rollback])

theorem execNeighbourRefresh_kept (ch : Nat) (rank : Nat) (bank : Nat) (s : State) : ∃ t, execNeighbourRefresh ch rank bank s = .next t ∧ Kept s t := by
  unfold execNeighbourRefresh
  (try dsimp only); (repeat' split) <;> (refine ⟨_, rfl, ?_⟩; simp [Kept, foldl_pending, foldl_dram, foldl_hostMem, foldl_rollback])

theorem execRefreshDue_kept (ch : Nat) (rank : Nat) (bank : Nat) (s : State) : ∃ t, execRefreshDue ch rank bank s = .next t ∧ Kept s t := by
  unfold execRefreshDue
  extract_lets x held s1 s2 behind s3 debt s4 s5
  split
  · exact ⟨_, rfl, Kept.rfl' s⟩
  · have h1 : Kept s s1 := modBank_kept _ _ _ _ _
    have h2 : Kept s1 s2 := by
      dsimp only [s2]; split
      · exact Kept.rfl' _
      · exact refreshBank_kept _ _ _ _
    have h3 : Kept s2 s3 := by
      dsimp only [s3]; split
      · exact refreshRank_kept _ _ _
      · exact Kept.rfl' _
    have h4 : Kept s3 s4 := by
      dsimp only [s4]; split
      · exact setP_kept _ _ _ _ _
      · exact Kept.rfl' _
    have h : Kept s s4 := h1.trans (h2.trans (h3.trans h4))
    have h5 : Kept s4 s5 := refreshForced_kept _ _ _
    clear_value s5 s4 s3 s2 s1 debt behind held x
    split
    · exact ⟨_, rfl, h.trans (by
        split
        · exact h5.trans (spendSnag_kept _ _ _)
        · exact h5)⟩
    · exact ⟨_, rfl, h⟩

@[simp] theorem mr4Device_kept (s : State) (i : Nat) (r : Nat × Nat) : Kept s (mr4Device s i r) := by
  unfold mr4Device
  (try dsimp only); (repeat' split) <;> simp [Kept]

theorem execMr4Poll_kept (rates : List (Nat × Nat)) (s : State) : ∃ t, execMr4Poll rates s = .next t ∧ Kept s t := by
  unfold execMr4Poll
  (try dsimp only); (repeat' split) <;> (refine ⟨_, rfl, ?_⟩; simp [Kept, foldl_pending, foldl_dram, foldl_hostMem, foldl_rollback])

theorem execWckDriftCheck_kept (ch : Nat) (rank : Nat) (drift : Rat) (s : State) : ∃ t, execWckDriftCheck ch rank drift s = .next t ∧ Kept s t := by
  unfold execWckDriftCheck
  (try dsimp only); (repeat' split) <;> (refine ⟨_, rfl, ?_⟩; simp [Kept])

theorem execSelfRefreshEnter_kept (ch : Nat) (s : State) : ∃ t, execSelfRefreshEnter ch s = .next t ∧ Kept s t := by
  unfold execSelfRefreshEnter
  (try dsimp only); (repeat' split) <;> (refine ⟨_, rfl, ?_⟩; simp [Kept])

theorem execSelfRefreshExit_kept (ch : Nat) (s : State) : ∃ t, execSelfRefreshExit ch s = .next t ∧ Kept s t := by
  unfold execSelfRefreshExit
  (try dsimp only); (repeat' split) <;> (refine ⟨_, rfl, ?_⟩; simp [Kept])

theorem execLinkEccError_kept (port : Nat) (unit : Nat) (corrected : Bool) (s : State) : ∃ t, execLinkEccError port unit corrected s = .next t ∧ Kept s t := by
  unfold execLinkEccError
  (try dsimp only); (repeat' split) <;> (refine ⟨_, rfl, ?_⟩; simp [Kept])

theorem execEcsCountCheck_kept (ch : Nat) (rank : Nat) (bank : Nat) (row : Nat) (count : Nat) (s : State) : ∃ t, execEcsCountCheck ch rank bank row count s = .next t ∧ Kept s t := by
  unfold execEcsCountCheck
  (try dsimp only); (repeat' split) <;> (refine ⟨_, rfl, ?_⟩; simp [Kept])

theorem execWriteBufferOverflow_kept (p0 : Bool) (d : DroppedUnits) (s : State) : ∃ t, execWriteBufferOverflow p0 d s = .next t ∧ Kept s t := by
  unfold execWriteBufferOverflow
  (try dsimp only); (repeat' split) <;> (refine ⟨_, rfl, ?_⟩; simp [Kept])

@[simp] theorem storeBytes_kept (s : State) (bank : Option NvmBank) (map : Bool) : Kept s (storeBytes s bank map).2 := by
  unfold storeBytes
  simp [Kept]

@[simp] theorem bodyNvmStore_kept (dom : Nat) (s : State) : Kept s (bodyNvmStore dom s).1 := by
  unfold bodyNvmStore
  (try dsimp only); (repeat' split) <;> simp [Kept]

theorem execNvmStore_kept (r : Req) (dom : Nat) (s : State) : ∃ t, execNvmStore r dom s = .next t ∧ Kept s t := by
  unfold execNvmStore
  refine ⟨_, rfl, ?_⟩; simp [Kept]

@[simp] theorem bankWritten_kept (s : State) (b : NvmBank) : Kept s (bankWritten s b) := by
  unfold bankWritten
  simp [Kept]

theorem execNvmStoreDone_kept (written : Bool) (s : State) : ∃ t, execNvmStoreDone written s = .next t ∧ Kept s t := by
  unfold execNvmStoreDone
  (try dsimp only); (repeat' split) <;> (refine ⟨_, rfl, ?_⟩; simp [Kept])

@[simp] theorem restorePairs_kept (tag : Nat) (ps : List (Nat × Int)) (s : State) : Kept s (restorePairs tag ps s).1 := by
  unfold restorePairs
  (try dsimp only); split <;> simp [Kept]

@[simp] theorem restoreImage_kept (tag : Nat) (bs : List Byte) (s : State) : Kept s (restoreImage tag bs s).1 := by
  unfold restoreImage
  (try dsimp only); (repeat' split) <;> simp [Kept]

@[simp] theorem bodyNvmRestore_kept (slot : Nat) (dom : Nat) (bulk : Option Bulk) (s : State) : KeptH s (bodyNvmRestore slot dom bulk s).1 := by
  unfold bodyNvmRestore
  (try dsimp only); (repeat' split) <;> simp [Kept, KeptH]

theorem execNvmRestore_kept (r : Req) (dom : Nat) (bulk : Option Bulk) (s : State) : ∃ t, execNvmRestore r dom bulk s = .next t ∧ KeptH s t := by
  unfold execNvmRestore
  refine ⟨_, rfl, mbxRun_keptH _ _ _ _ _ _ fun s => ?_⟩; simp [Kept, KeptH]

@[simp] theorem bodyNvmEraseUser_kept (confirm : Nat) (s : State) : Kept s (bodyNvmEraseUser confirm s).1 := by
  unfold bodyNvmEraseUser
  (try dsimp only); (repeat' split) <;> simp [Kept]

theorem execNvmEraseUser_kept (r : Req) (confirm : Nat) (s : State) : ∃ t, execNvmEraseUser r confirm s = .next t ∧ Kept s t := by
  unfold execNvmEraseUser
  refine ⟨_, rfl, ?_⟩; simp [Kept]

@[simp] theorem bankCut_kept (s : State) (b : NvmBank) : Kept s (bankCut s b).2 := by
  unfold bankCut
  simp [Kept]

@[simp] theorem endNvm_kept (s : State) : Kept s (endNvm s) := by
  unfold endNvm
  (try dsimp only); split <;> simp [Kept]

theorem execNvmEraseDone_kept (written : Bool) (s : State) : ∃ t, execNvmEraseDone written s = .next t ∧ Kept s t := by
  unfold execNvmEraseDone
  (try dsimp only); (repeat' split) <;> (refine ⟨_, rfl, ?_⟩; simp [Kept])

theorem execPlDetectStep_kept (s : State) : ∃ t, execPlDetectStep s = .next t ∧ Kept s t := by
  unfold execPlDetectStep
  (try dsimp only); (repeat' split) <;> (refine ⟨_, rfl, ?_⟩; simp [Kept])

theorem execPlPeerStep_kept (lanes : Nat) (s : State) : ∃ t, execPlPeerStep lanes s = .next t ∧ Kept s t := by
  unfold execPlPeerStep
  (try dsimp only); (repeat' split) <;> (refine ⟨_, rfl, ?_⟩; simp [Kept])

theorem execPlActivityDetected_kept (lanes : Nat) (s : State) : ∃ t, execPlActivityDetected lanes s = .next t ∧ Kept s t := by
  unfold execPlActivityDetected
  (try dsimp only); (repeat' split) <;> (refine ⟨_, rfl, ?_⟩; simp [Kept])

theorem execPlCtleStep_kept (errors : List Nat) (s : State) : ∃ t, execPlCtleStep errors s = .next t ∧ Kept s t := by
  unfold execPlCtleStep
  dsimp only
  split
  · obtain ⟨h1, h2, h3, h4⟩ := foldl_kept (fun (t : State) (l : Nat) =>
      if errors[l]? = some 0 then modLane t l (fun x => { x with passed := x.passed ||| 2 ^ s.purl.ctleStep }) else t)
      (fun s b => by split <;> simp [Kept]) [0, 1, 2, 3] s
    refine ⟨_, rfl, ?_⟩
    simp_all [Kept]
  · exact ⟨_, rfl, Kept.rfl' s⟩

@[simp] theorem settleLanes_kept (s : State) : Kept s (settleLanes s) := by
  unfold settleLanes
  simp [Kept]

@[simp] theorem enterLock_kept (s : State) (lanes : List Nat) : Kept s (enterLock s lanes) := by
  unfold enterLock
  simp [Kept]

theorem execPlTrainEnd_kept (offsetPpb : Nat) (s : State) : ∃ t, execPlTrainEnd offsetPpb s = .next t ∧ Kept s t := by
  unfold execPlTrainEnd
  (try dsimp only); (repeat' split) <;> (refine ⟨_, rfl, ?_⟩; simp [Kept])

theorem execPlBlockLock_kept (s : State) : ∃ t, execPlBlockLock s = .next t ∧ Kept s t := by
  unfold execPlBlockLock
  (try dsimp only); (repeat' split) <;> (refine ⟨_, rfl, ?_⟩; simp [Kept])

@[simp] theorem sendMarker_kept (s : State) : Kept s (sendMarker s) := by
  unfold sendMarker
  simp [Kept]

theorem execPlMarkerSend_kept (s : State) : ∃ t, execPlMarkerSend s = .next t ∧ Kept s t := by
  unfold execPlMarkerSend
  (try dsimp only); (repeat' split) <;> (refine ⟨_, rfl, ?_⟩; simp [Kept])

@[simp] theorem enterCaps_kept (s : State) : Kept s (enterCaps s) := by
  unfold enterCaps
  simp [Kept]

@[simp] theorem takeMarker_kept (s : State) (lane : Nat) (logical : Nat) (count : Nat) (arrival : Nat) (inverted : Bool) : Kept s (takeMarker s lane logical count arrival inverted) := by
  unfold takeMarker
  simp [Kept]

@[simp] theorem alignCheck_kept (s : State) : Kept s (alignCheck s) := by
  unfold alignCheck
  (try dsimp only); (repeat' split) <;> simp [Kept]

theorem execStitchMarkerRx_kept (lane : Nat) (body : List Byte) (blocks : Nat) (arrival : Nat) (inverted : Bool) (s : State) : ∃ t, execStitchMarkerRx lane body blocks arrival inverted s = .next t ∧ Kept s t := by
  unfold execStitchMarkerRx
  (try dsimp only); (repeat' split) <;> (refine ⟨_, rfl, ?_⟩; simp [Kept])

@[simp] theorem hdrErrors_kept (s : State) (lane : Nat) : Kept s (hdrErrors s lane) := by
  unfold hdrErrors
  (try dsimp only); split <;> simp [Kept]

theorem execPlInvalidHeader_kept (lane : Nat) (again : Bool) (s : State) : ∃ t, execPlInvalidHeader lane again s = .next t ∧ Kept s t := by
  unfold execPlInvalidHeader
  (try dsimp only); (repeat' split) <;> (refine ⟨_, rfl, ?_⟩; simp [Kept])

theorem execPlInvalidPacket_kept (s : State) : ∃ t, execPlInvalidPacket s = .next t ∧ Kept s t := by
  unfold execPlInvalidPacket
  (try dsimp only); (repeat' split) <;> (refine ⟨_, rfl, ?_⟩; simp [Kept])

theorem execPlStateTimeout_kept (s : State) : ∃ t, execPlStateTimeout s = .next t ∧ Kept s t := by
  unfold execPlStateTimeout
  (try dsimp only); (repeat' split) <;> (refine ⟨_, rfl, ?_⟩; simp [Kept])

theorem execPlLossTimeout_kept (s : State) : ∃ t, execPlLossTimeout s = .next t ∧ Kept s t := by
  unfold execPlLossTimeout
  (try dsimp only); (repeat' split) <;> (refine ⟨_, rfl, ?_⟩; simp [Kept])

@[simp] theorem sendCaps_kept (s : State) : Kept s (sendCaps s) := by
  unfold sendCaps
  simp [Kept]

theorem execPlCapsSend_kept (s : State) : ∃ t, execPlCapsSend s = .next t ∧ Kept s t := by
  unfold execPlCapsSend
  (try dsimp only); (repeat' split) <;> (refine ⟨_, rfl, ?_⟩; simp [Kept])

@[simp] theorem takeCaps_kept (s : State) (p : List Byte) : Kept s (takeCaps s p) := by
  unfold takeCaps
  (try dsimp only); (repeat' split) <;> simp [Kept]

theorem execCapsRx_kept (packet : List Byte) (clean : Bool) (s : State) : ∃ t, execCapsRx packet clean s = .next t ∧ Kept s t := by
  unfold execCapsRx
  (try dsimp only); (repeat' split) <;> (refine ⟨_, rfl, ?_⟩; simp [Kept])

theorem execPlStatusSend_kept (s : State) : ∃ t, execPlStatusSend s = .next t ∧ Kept s t := by
  unfold execPlStatusSend
  (try dsimp only); (repeat' split) <;> (refine ⟨_, rfl, ?_⟩; simp [Kept])

@[simp] theorem linkTimes_kept (s : State) (p : List Byte) (t4 : Nat) : Kept s (linkTimes s p t4) := by
  unfold linkTimes
  (try dsimp only); split <;> simp [Kept]

@[simp] theorem claimOutOfTurn_kept (s : State) : Kept s (claimOutOfTurn s) := by
  unfold claimOutOfTurn
  simp [Kept]

@[simp] theorem takenOver_kept (s : State) : Kept s (takenOver s) := by
  unfold takenOver
  simp [Kept]

@[simp] theorem noteStatus_kept (s : State) (p : PeerStatus) : Kept s (noteStatus s p) := by
  unfold noteStatus
  simp [Kept]

@[simp] theorem swapHeard_kept (s : State) (p : PeerStatus) : Kept s (swapHeard s p) := by
  unfold swapHeard
  (try dsimp only); (repeat' split) <;> simp [Kept]

@[simp] theorem takeStatus_kept (s : State) (p : List Byte) (arrival : Nat) : Kept s (takeStatus s p arrival) := by
  unfold takeStatus
  (try dsimp only); (repeat' split) <;> simp [Kept]

theorem execStatusRx_kept (packet : List Byte) (clean : Bool) (arrival : Nat) (s : State) : ∃ t, execStatusRx packet clean arrival s = .next t ∧ Kept s t := by
  unfold execStatusRx
  (try dsimp only); (repeat' split) <;> (refine ⟨_, rfl, ?_⟩; simp [Kept])

theorem execPlIdleWake_kept (s : State) : ∃ t, execPlIdleWake s = .next t ∧ Kept s t := by
  unfold execPlIdleWake
  (try dsimp only); (repeat' split) <;> (refine ⟨_, rfl, ?_⟩; simp [Kept])

@[simp] theorem goIdle_kept (s : State) : Kept s (goIdle s) := by
  unfold goIdle
  simp [Kept]

theorem execPlIdleHoldExpiry_kept (s : State) : ∃ t, execPlIdleHoldExpiry s = .next t ∧ Kept s t := by
  unfold execPlIdleHoldExpiry
  (try dsimp only); (repeat' split) <;> (refine ⟨_, rfl, ?_⟩; simp [Kept])

theorem execExitRx_kept (relocked : Bool) (s : State) : ∃ t, execExitRx relocked s = .next t ∧ Kept s t := by
  unfold execExitRx
  (try dsimp only); (repeat' split) <;> (refine ⟨_, rfl, ?_⟩; simp [Kept, foldl_pending, foldl_dram, foldl_hostMem, foldl_rollback])

theorem execIdleEnterRx_kept (s : State) : ∃ t, execIdleEnterRx s = .next t ∧ Kept s t := by
  unfold execIdleEnterRx
  (try dsimp only); (repeat' split) <;> (refine ⟨_, rfl, ?_⟩; simp [Kept])

@[simp] theorem linkIdle_kept (s : State) : Kept s (linkIdle s) := by
  unfold linkIdle
  (try dsimp only); split <;> simp [Kept]

@[simp] theorem bodyPairLink_kept (action : Nat) (s : State) : Kept s (bodyPairLink action s).1 := by
  unfold bodyPairLink
  (try dsimp only); (repeat' split) <;> simp [Kept]

@[simp] theorem pairLinkSettle_kept (action : Nat) (s : State) : Kept s (pairLinkSettle action s) := by
  unfold pairLinkSettle
  (try dsimp only); (repeat' split) <;> simp [Kept]

theorem execPairLink_kept (r : Req) (action : Nat) (s : State) : ∃ t, execPairLink r action s = .next t ∧ Kept s t := by
  unfold execPairLink
  refine ⟨_, rfl, ?_⟩; simp [Kept]

theorem execPairLinkTimeout_kept (s : State) : ∃ t, execPairLinkTimeout s = .next t ∧ Kept s t := by
  unfold execPairLinkTimeout
  (try dsimp only); (repeat' split) <;> (refine ⟨_, rfl, ?_⟩; simp [Kept])

@[simp] theorem growTap_kept (s : State) (p : Nat) (first : Nat) (last : Nat) (keepAll : Bool) : Kept s (growTap s p first last keepAll) := by
  unfold growTap
  simp [Kept]

@[simp] theorem takeCodes_kept (s : State) (p : Nat) (from_ : Nat) (codes : List (List Int)) : Kept s (takeCodes s p from_ codes) := by
  unfold takeCodes
  (try dsimp only); split <;> simp [Kept]

@[simp] theorem breakDeclared_kept (s : State) (p : Nat) (sb : Nat) (firstTick : Nat) : Kept s (breakDeclared s p sb firstTick) := by
  unfold breakDeclared
  simp [Kept]

@[simp] theorem breakEnded_kept (s : State) (p : Nat) : Kept s (breakEnded s p) := by
  unfold breakEnded
  simp [Kept]

@[simp] theorem breakRow_kept (s : State) (p : Nat) (l : Launch) (zs : List Stitch) : Kept s (breakRow s p l zs) := by
  unfold breakRow
  (try dsimp only); (repeat' split) <;> simp [Kept]

theorem execBreakDetectorArm_kept (port : Nat) (s : State) : ∃ t, execBreakDetectorArm port s = .next t ∧ Kept s t := by
  unfold execBreakDetectorArm
  (try dsimp only); (repeat' split) <;> (refine ⟨_, rfl, ?_⟩; simp [Kept])

@[simp] theorem pruneClips_kept (s : State) (p : Nat) : Kept s (pruneClips s p) := by
  unfold pruneClips
  (try dsimp only); split <;> simp [Kept]

@[simp] theorem deliverRow_kept (s : State) (p : Nat) (l : Launch) : Kept s (deliverRow s p l) := by
  unfold deliverRow
  simp [Kept]

theorem execDechirpRow_kept (port : Nat) (from_ : Nat) (codes : List (List Int)) (s : State) : ∃ t, execDechirpRow port from_ codes s = .next t ∧ Kept s t := by
  unfold execDechirpRow
  (try dsimp only); (repeat' split) <;> (refine ⟨_, rfl, ?_⟩; simp [Kept])

@[simp] theorem declareSlice_kept (s : State) (p : Nat) (c : Nat) (slot : Nat) : Kept s (declareSlice s p c slot) := by
  unfold declareSlice
  (try dsimp only); split <;> simp [Kept]

theorem execSliceMonitorEval_kept (port : Nat) (chan : Nat) (codes : CodeRun) (s : State) : ∃ t, execSliceMonitorEval port chan codes s = .next t ∧ Kept s t := by
  unfold execSliceMonitorEval
  (try dsimp only); (repeat' split) <;> (refine ⟨_, rfl, ?_⟩; simp [Kept, foldl_pending, foldl_dram, foldl_hostMem, foldl_rollback])

@[simp] theorem sliceQuiet_kept (s : State) (p : Nat) : Kept s (sliceQuiet s p) := by
  unfold sliceQuiet
  (try dsimp only); split <;> simp [Kept]

@[simp] theorem repairSlot_kept (s : State) (p : Nat) (c : Nat) (w : Nat × Nat) (f : AdcChan → AdcChan) : Kept s (repairSlot s p c w f) := by
  unfold repairSlot
  simp [Kept]

theorem execSliceSpareSwap_kept (port : Nat) (chan : Nat) (s : State) : ∃ t, execSliceSpareSwap port chan s = .next t ∧ Kept s t := by
  unfold execSliceSpareSwap
  (try dsimp only); (repeat' split) <;> (refine ⟨_, rfl, ?_⟩; simp [Kept])

theorem execSliceInterpolate_kept (port : Nat) (chan : Nat) (s : State) : ∃ t, execSliceInterpolate port chan s = .next t ∧ Kept s t := by
  unfold execSliceInterpolate
  (try dsimp only); (repeat' split) <;> (refine ⟨_, rfl, ?_⟩; simp [Kept])

@[simp] theorem hybBlockEnd_kept (s : State) (p : Nat) (a : Nat) (b : Nat) : Kept s (hybBlockEnd s p a b) := by
  unfold hybBlockEnd
  extract_lets f s1 x tau h one rx ry clamped skipped s2 s3 s4
  have h1 : Kept s s1 := takeFreeI_kept s
  have h2 : Kept s1 s2 := setHyb_kept s1 p b rx.1 ry.1
  have h3 : Kept s2 s3 := modPort_kept s2 p _
  have h4 : Kept s3 s4 := Kept.ite (detect_kept s3 _) (Kept.rfl' s3)
  clear_value s1 s2 s3 s4
  exact h1.trans (h2.trans (h3.trans (h4.trans (Kept.ite (clearIf_kept s4 _) (Kept.rfl' s4)))))

theorem execHybBlock_kept (port : Nat) (from_ : Nat) (codes : List (List Int)) (s : State) : ∃ t, execHybBlock port from_ codes s = .next t ∧ Kept s t := by
  unfold execHybBlock
  (try dsimp only); (repeat' split) <;> (refine ⟨_, rfl, ?_⟩; simp [Kept])

@[simp] theorem rateSource_kept (s : State) (src : Nat) (port : Nat) (bad : Nat) (all_ : Nat) : Kept s (rateSource s src port bad all_) := by
  unfold rateSource
  (try dsimp only); split <;> simp [Kept]

theorem execClipRateSecond_kept (port : Nat) (s : State) : ∃ t, execClipRateSecond port s = .next t ∧ Kept s t := by
  unfold execClipRateSecond
  (try dsimp only); (repeat' split) <;> (refine ⟨_, rfl, ?_⟩; simp [Kept])

theorem execPhaseSample_kept (port : Nat) (s : State) : ∃ t, execPhaseSample port s = .next t ∧ Kept s t := by
  unfold execPhaseSample
  (try dsimp only); (repeat' split) <;> (refine ⟨_, rfl, ?_⟩; simp [Kept])

theorem execSwatchLost_kept (port : Nat) (s : State) : ∃ t, execSwatchLost port s = .next t ∧ Kept s t := by
  unfold execSwatchLost
  (try dsimp only); (repeat' split) <;> (refine ⟨_, rfl, ?_⟩; simp [Kept])

@[simp] theorem windowSpoilt_kept (s : State) (p : Nat) (w : RamanWin) : Kept s (windowSpoilt s p w) := by
  unfold windowSpoilt
  simp [Kept]

theorem execRamanWindowEnd_kept (port : Nat) (asCodes : List Int) (stCodes : List Int) (s : State) : ∃ t, execRamanWindowEnd port asCodes stCodes s = .next t ∧ Kept s t := by
  unfold execRamanWindowEnd
  (try dsimp only); (repeat' split) <;> (refine ⟨_, rfl, ?_⟩; simp [Kept])

@[simp] theorem ramanChecks_kept (s : State) (p : Nat) (a : RamanSums) : Kept s (ramanChecks s p a) := by
  unfold ramanChecks
  (try dsimp only); (repeat' split) <;> simp [Kept]

@[simp] theorem intervalComplete_kept (s : State) (p : Nat) (e : RamanEnded) : Kept s (intervalComplete s p e) := by
  unfold intervalComplete
  simp [Kept]

theorem execRamanIntervalEnd_kept (port : Nat) (s : State) : ∃ t, execRamanIntervalEnd port s = .next t ∧ Kept s t := by
  unfold execRamanIntervalEnd
  (try dsimp only); (repeat' split) <;> refine ⟨_, rfl, ?_⟩ <;> first
    | exact Kept.rfl' s
    | exact underOld_kept s _ fun s => intervalComplete_kept s port _

@[simp] theorem refUpdate_kept (s : State) (p : Nat) (ref : Option (Rat × Rat)) : Kept s (refUpdate s p ref) := by
  unfold refUpdate
  (try dsimp only); (repeat' split) <;> simp [Kept]

@[simp] theorem fitUpdate_kept (s : State) (fit : Option (Rat × Rat × Rat)) : Kept s (fitUpdate s fit) := by
  unfold fitUpdate
  (try dsimp only); split <;> simp [Kept]

@[simp] theorem trSingle_kept (s : State) (p : Nat) : Kept s (trSingle s p).1 := by
  unfold trSingle
  simp [Kept]

@[simp] theorem trDual_kept (s : State) : Kept s (trDual s).1 := by
  unfold trDual
  simp [Kept]

@[simp] theorem trGive_kept (s : State) (p : Nat) (vals : List TVal) : Kept s (trGive s p vals) := by
  unfold trGive
  simp [Kept]

theorem execTrUpdate_kept (port : Nat) (s : State) : ∃ t, execTrUpdate port s = .next t ∧ Kept s t := by
  unfold execTrUpdate
  (repeat' split) <;> refine ⟨_, rfl, ?_⟩ <;> first
    | exact Kept.rfl' s
    | exact underOld_kept s _ fun s => by simp [Kept]

theorem execRamanRefHoldExpiry_kept (port : Nat) (s : State) : ∃ t, execRamanRefHoldExpiry port s = .next t ∧ Kept s t := by
  unfold execRamanRefHoldExpiry
  (try dsimp only); (repeat' split) <;> (refine ⟨_, rfl, ?_⟩; simp [Kept])

@[simp] theorem specTake_kept (s : State) (p : Nat) (r : SpecRec) : Kept s (specTake s p r) := by
  unfold specTake
  simp [Kept]

theorem execSpecRecord_kept (port : Nat) (s : State) : ∃ t, execSpecRecord port s = .next t ∧ Kept s t := by
  unfold execSpecRecord
  (try dsimp only); (repeat' split) <;> (refine ⟨_, rfl, ?_⟩; simp [Kept])

@[simp] theorem fuseUpdate_kept (s : State) (p : Nat) : Kept s (fuseUpdate s p) := by
  unfold fuseUpdate
  simp [Kept]

theorem execFusionUpdate_kept (port : Nat) (s : State) : ∃ t, execFusionUpdate port s = .next t ∧ Kept s t := by
  unfold execFusionUpdate
  (try dsimp only); split <;> refine ⟨_, rfl, ?_⟩
  · exact (underOld_kept s _ fun s => fuseUpdate_kept s port).trans (modRaman_kept _ _ _)
  · exact Kept.rfl' s

@[simp] theorem modFuse_kept (s : State) (p : Nat) (i : Nat) (f : Fuse → Fuse) : Kept s (modFuse s p i f) := by
  unfold modFuse
  simp [Kept]

theorem execFusionStateTimer_kept (port : Nat) (gauge : Nat) (s : State) : ∃ t, execFusionStateTimer port gauge s = .next t ∧ Kept s t := by
  unfold execFusionStateTimer
  (try dsimp only); (repeat' split) <;> (refine ⟨_, rfl, ?_⟩; simp [Kept])

theorem execFuseHoldExpiry_kept (port : Nat) (gauge : Nat) (s : State) : ∃ t, execFuseHoldExpiry port gauge s = .next t ∧ Kept s t := by
  unfold execFuseHoldExpiry
  (try dsimp only); (repeat' split) <;> (refine ⟨_, rfl, ?_⟩; simp [Kept])

@[simp] theorem fusionAdopt_kept (s : State) (p : Nat) (fuse : List Fuse) : Kept s (fusionAdopt s p fuse) := by
  unfold fusionAdopt
  simp [Kept]

theorem execCkptCut_kept (s : State) : ∃ t, execCkptCut s = .next t ∧ Kept s t := by
  unfold execCkptCut
  (try dsimp only); (repeat' split) <;> (refine ⟨_, rfl, ?_⟩; simp [Kept])

theorem execCkptPacketRx_kept (packet : CkptPacket) (whole : Bool) (s : State) : ∃ t, execCkptPacketRx packet whole s = .next t ∧ Kept s t := by
  unfold execCkptPacketRx
  (try dsimp only); (repeat' split) <;> (refine ⟨_, rfl, ?_⟩; simp [Kept])

theorem execCkptStaleTimer_kept (s : State) : ∃ t, execCkptStaleTimer s = .next t ∧ Kept s t := by
  unfold execCkptStaleTimer
  (try dsimp only); (repeat' split) <;> (refine ⟨_, rfl, ?_⟩; simp [Kept])

theorem execPeerActEdge_kept (s : State) : ∃ t, execPeerActEdge s = .next t ∧ Kept s t := by
  unfold execPeerActEdge
  split
  · exact ⟨_, rfl, Kept.rfl' s⟩
  · next h => exact ⟨_, rfl, (popMeas_kept _ _ _ _ h).trans (by split <;> simp [Kept])⟩

theorem execPairWatchdogLapse_kept (s : State) : ∃ t, execPairWatchdogLapse s = .next t ∧ Kept s t := by
  unfold execPairWatchdogLapse
  refine ⟨_, rfl, ?_⟩; simp [Kept]

@[simp] theorem cutPort_kept (s : State) (p : Nat) : Kept s (cutPort s p) := by
  unfold cutPort
  (try dsimp only); (repeat' split) <;> simp [Kept, foldl_pending, foldl_dram, foldl_hostMem, foldl_rollback]

@[simp] theorem stopWave_kept (s : State) : Kept s (stopWave s) := by
  unfold stopWave
  extract_lets holds s1 s2
  have h1 : Kept s s1 := Kept.ite (setRole_kept s _) (Kept.rfl' s)
  have h2 : Kept s1 s2 := modPair_kept s1 _
  clear_value s1 s2
  exact h1.trans (h2.trans ((foldl_kept cutPort cutPort_kept _ s2).trans ((compKick_kept _).trans (loopsHold_kept _))))

@[simp] theorem waveStops_kept (s : State) : Kept s (waveStops s) := by
  unfold waveStops
  (try dsimp only); split <;> simp [Kept]

theorem execPairWiringTimer_kept (s : State) : ∃ t, execPairWiringTimer s = .next t ∧ Kept s t := by
  unfold execPairWiringTimer
  (try dsimp only); (repeat' split) <;> (refine ⟨_, rfl, ?_⟩; simp [Kept])

@[simp] theorem claimLocked_kept (s : State) (p : Nat) (c : CkptPort) : Kept s (claimLocked s p c) := by
  unfold claimLocked
  (try dsimp only); split <;> simp [Kept]

@[simp] theorem claimPort_kept (s : State) (p : Nat) (c : CkptPort) : Kept s (claimPort s p c) := by
  unfold claimPort
  (try dsimp only); (repeat' split) <;> simp [Kept]

@[simp] theorem claimZone_kept (s : State) (z : Nat) : Kept s (claimZone s z) := by
  unfold claimZone
  (try dsimp only); split <;> simp [Kept]

@[simp] theorem claimSkeins_kept (s : State) : Kept s (claimSkeins s) := by
  unfold claimSkeins
  simp [Kept, foldl_pending, foldl_dram, foldl_hostMem, foldl_rollback]

@[simp] theorem claim_kept (s : State) : Kept s (claim s) := by
  unfold claim
  (try dsimp only); (repeat' split) <;> simp [Kept, foldl_pending, foldl_dram, foldl_hostMem, foldl_rollback]

theorem execPeerLossClaim_kept (s : State) : ∃ t, execPeerLossClaim s = .next t ∧ Kept s t := by
  unfold execPeerLossClaim
  (try dsimp only); (repeat' split) <;> (refine ⟨_, rfl, ?_⟩; simp [Kept])

@[simp] theorem dropWithheld_kept (s : State) : Kept s (dropWithheld s) := by
  unfold dropWithheld
  generalize List.range 130 = rs
  extract_lets s1
  have h1 : Kept s s1 := foldl_kept _ (fun s r => by dsimp only; split <;> exact ⟨rfl, rfl, rfl, rfl⟩) _ s
  exact h1.trans ⟨rfl, rfl, rfl, rfl⟩

@[simp] theorem swapOver_kept (s : State) (r : Reply) : Kept s (swapOver s r) := by
  unfold swapOver
  simp [Kept]

theorem execQualityTest_kept (floors : List Rat) (s : State) : ∃ t, execQualityTest floors s = .next t ∧ Kept s t := by
  unfold execQualityTest
  (try dsimp only); (repeat' split) <;> (refine ⟨_, rfl, ?_⟩; simp [Kept])

@[simp] theorem swapBegin_kept (s : State) : Kept s (swapBegin s) := by
  unfold swapBegin
  simp [Kept]

@[simp] theorem bodyPairSwap_kept (s : State) : Kept s (bodyPairSwap s).1 := by
  unfold bodyPairSwap
  (try dsimp only); (repeat' split) <;> simp [Kept]

theorem execPairSwap_kept (r : Req) (s : State) : ∃ t, execPairSwap r s = .next t ∧ Kept s t := by
  unfold execPairSwap
  refine ⟨_, rfl, ?_⟩; simp [Kept]

theorem execSwapPrepareRx_kept (s : State) : ∃ t, execSwapPrepareRx s = .next t ∧ Kept s t := by
  unfold execSwapPrepareRx
  (try dsimp only); (repeat' split) <;> (refine ⟨_, rfl, ?_⟩; simp [Kept])

theorem execSwapReadyRx_kept (s : State) : ∃ t, execSwapReadyRx s = .next t ∧ Kept s t := by
  unfold execSwapReadyRx
  (try dsimp only); (repeat' split) <;> (refine ⟨_, rfl, ?_⟩; simp [Kept, foldl_pending, foldl_dram, foldl_hostMem, foldl_rollback])

@[simp] theorem swapReleased_kept (s : State) : Kept s (swapReleased s) := by
  unfold swapReleased
  (try dsimp only); split <;> simp [Kept]

@[simp] theorem pairEnabled_kept (s : State) (was : Bool) : Kept s (pairEnabled s was) := by
  unfold pairEnabled
  (try dsimp only); (repeat' split) <;> simp [Kept, foldl_pending, foldl_dram, foldl_hostMem, foldl_rollback]

@[simp] theorem linkEnabled_kept (s : State) : Kept s (linkEnabled s) := by
  unfold linkEnabled
  (try dsimp only); (repeat' split) <;> simp [Kept]

@[simp] theorem pairCommit_kept (s : State) : Kept s (pairCommit s) := by
  unfold pairCommit
  simp [Kept]

theorem execPairConfig_kept (r : Req) (s : State) : ∃ t, execPairConfig r s = .next t ∧ Kept s t := by
  unfold execPairConfig
  refine ⟨_, rfl, ?_⟩; simp [Kept]

@[simp] theorem bodyPairStatus_kept (s : State) : Kept s (bodyPairStatus s).1 := by
  unfold bodyPairStatus
  simp [Kept]

theorem execPairStatus_kept (r : Req) (s : State) : ∃ t, execPairStatus r s = .next t ∧ Kept s t := by
  unfold execPairStatus
  refine ⟨_, rfl, ?_⟩; simp [Kept]

@[simp] theorem bodyCapSkeinCreate_kept (k : Nat) (s : State) : Kept s (bodyCapSkeinCreate k s).1 := by
  unfold bodyCapSkeinCreate
  (try dsimp only); (repeat' split) <;> simp [Kept]

theorem execCapSkeinCreate_kept (r : Req) (skein : Nat) (s : State) : ∃ t, execCapSkeinCreate r skein s = .next t ∧ Kept s t := by
  unfold execCapSkeinCreate
  refine ⟨_, rfl, ?_⟩; simp [Kept]

@[simp] theorem bodyCapArm_kept (k : Nat) (s : State) : Kept s (bodyCapArm k s).1 := by
  unfold bodyCapArm
  (try dsimp only); (repeat' split) <;> simp [Kept]

theorem execCapArm_kept (r : Req) (skein : Nat) (s : State) : ∃ t, execCapArm r skein s = .next t ∧ Kept s t := by
  unfold execCapArm
  refine ⟨_, rfl, ?_⟩; simp [Kept]

@[simp] theorem writeHank_kept (s : State) (k : Nat) (truncated : Bool) : Kept s (writeHank s k truncated) := by
  unfold writeHank
  (try dsimp only); (repeat' split) <;> simp [Kept]

theorem execHankPostComplete_kept (skein : Nat) (s : State) : ∃ t, execHankPostComplete skein s = .next t ∧ Kept s t := by
  unfold execHankPostComplete
  (try dsimp only); (repeat' split) <;> (refine ⟨_, rfl, ?_⟩; simp [Kept])

@[simp] theorem skeinStops_kept (s : State) (k : Nat) : Kept s (skeinStops s k) := by
  unfold skeinStops
  simp [Kept]

theorem execSkeinRearm_kept (skein : Nat) (s : State) : ∃ t, execSkeinRearm skein s = .next t ∧ Kept s t := by
  unfold execSkeinRearm
  (try dsimp only); (repeat' split) <;> (refine ⟨_, rfl, ?_⟩; simp [Kept])

@[simp] theorem disarmCapture_kept (s : State) (k : Nat) (c : Capture) : Kept s (disarmCapture s k c) := by
  unfold disarmCapture
  (try dsimp only); (repeat' split) <;> simp [Kept]

@[simp] theorem bodyCapDisarm_kept (k : Nat) (s : State) : Kept s (bodyCapDisarm k s).1 := by
  unfold bodyCapDisarm
  (try dsimp only); (repeat' split) <;> simp [Kept]

theorem execCapDisarm_kept (r : Req) (skein : Nat) (s : State) : ∃ t, execCapDisarm r skein s = .next t ∧ Kept s t := by
  unfold execCapDisarm
  refine ⟨_, rfl, ?_⟩; simp [Kept]

@[simp] theorem bodyCapForce_kept (k : Nat) (at_ : Nat) (s : State) : Kept s (bodyCapForce k at_ s).1 := by
  unfold bodyCapForce
  (try dsimp only); (repeat' split) <;> simp [Kept]

theorem execCapForce_kept (r : Req) (skein : Nat) (forceAt : Nat) (s : State) : ∃ t, execCapForce r skein forceAt s = .next t ∧ Kept s t := by
  unfold execCapForce
  refine ⟨_, rfl, ?_⟩; simp [Kept]

theorem execCapForceAtReached_kept (skein : Nat) (s : State) : ∃ t, execCapForceAtReached skein s = .next t ∧ Kept s t := by
  unfold execCapForceAtReached
  (try dsimp only); (repeat' split) <;> (refine ⟨_, rfl, ?_⟩; simp [Kept])

@[simp] theorem queueRead_kept (s : State) (k : Nat) (ts : Nat) (flags : Nat) (count : Nat) (first : Nat → Nat) (ps : List (Nat × List Byte)) : Kept s (queueRead s k ts flags count first ps) := by
  unfold queueRead
  simp [Kept, foldl_pending, foldl_dram, foldl_hostMem, foldl_rollback]

@[simp] theorem beginRead_kept (s : State) (k : Nat) (seq : Nat) (ts : Nat) (flags : Nat) (first : Nat → Nat) (bs : List Byte) : Kept s (beginRead s k seq ts flags first bs).1 := by
  unfold beginRead
  (try dsimp only); split <;> simp [Kept]

@[simp] theorem bodyCapRead_kept (k : Nat) (sel : Nat) (s : State) : Kept s (bodyCapRead k sel s).1 := by
  unfold bodyCapRead
  (try dsimp only); (repeat' split) <;> simp [Kept]

theorem execCapRead_kept (r : Req) (skein : Nat) (select : Nat) (s : State) : ∃ t, execCapRead r skein select s = .next t ∧ Kept s t := by
  unfold execCapRead
  refine ⟨_, rfl, ?_⟩; simp [Kept]

@[simp] theorem bodyCapRelease_kept (k : Nat) (seq : Nat) (s : State) : Kept s (bodyCapRelease k seq s).1 := by
  unfold bodyCapRelease
  (try dsimp only); (repeat' split) <;> simp [Kept]

theorem execCapRelease_kept (r : Req) (skein : Nat) (hank : Nat) (s : State) : ∃ t, execCapRelease r skein hank s = .next t ∧ Kept s t := by
  unfold execCapRelease
  refine ⟨_, rfl, ?_⟩; simp [Kept]

theorem execTrigoutPulseEnd_kept (pin : Nat) (s : State) : ∃ t, execTrigoutPulseEnd pin s = .next t ∧ Kept s t := by
  unfold execTrigoutPulseEnd
  (try dsimp only); (repeat' split) <;> (refine ⟨_, rfl, ?_⟩; simp [Kept])

@[simp] theorem sdUnwatch_kept (s : State) (c : Nat) : Kept s (sdUnwatch s c) := by
  unfold sdUnwatch
  (try dsimp only); (repeat' split) <;> simp [Kept]

@[simp] theorem sdApply_kept (s : State) (c : Nat) : Kept s (sdApply s c) := by
  unfold sdApply
  (try dsimp only); (repeat' split) <;> simp [Kept]

@[simp] theorem sdConfig_kept (s : State) (c : Nat) : Kept s (sdConfig s c).1 := by
  unfold sdConfig
  (try dsimp only); (repeat' split) <;> simp [Kept]

@[simp] theorem gateConfig_kept (s : State) (p : Nat) : Kept s (gateConfig s p).1 := by
  unfold gateConfig
  (try dsimp only); (repeat' split) <;> simp [Kept]

@[simp] theorem bodySrcConfig_kept (ins : Nat) (s : State) : Kept s (bodySrcConfig ins s).1 := by
  unfold bodySrcConfig
  (try dsimp only); (repeat' split) <;> simp [Kept]

theorem execSrcConfig_kept (r : Req) (ins : Nat) (s : State) : ∃ t, execSrcConfig r ins s = .next t ∧ Kept s t := by
  unfold execSrcConfig
  refine ⟨_, rfl, ?_⟩; simp [Kept]

@[simp] theorem bodySrcEnable_kept (c : Nat) (s : State) : Kept s (bodySrcEnable c s).1 := by
  unfold bodySrcEnable
  (try dsimp only); (repeat' split) <;> simp [Kept]

@[simp] theorem bodySrcDisable_kept (c : Nat) (s : State) : Kept s (bodySrcDisable c s).1 := by
  unfold bodySrcDisable
  (try dsimp only); (repeat' split) <;> simp [Kept]

theorem execSrcDisable_kept (r : Req) (ch : Nat) (s : State) : ∃ t, execSrcDisable r ch s = .next t ∧ Kept s t := by
  unfold execSrcDisable
  refine ⟨_, rfl, ?_⟩; simp [Kept]

@[simp] theorem bodySrcCompTable_kept (n : Nat) (bytes : List Byte) (s : State) : Kept s (bodySrcCompTable n bytes s).1 := by
  unfold bodySrcCompTable
  (try dsimp only); (repeat' split) <;> simp [Kept]

theorem execSrcCompTable_kept (r : Req) (table : Nat) (bytes : List Byte) (s : State) : ∃ t, execSrcCompTable r table bytes s = .next t ∧ Kept s t := by
  unfold execSrcCompTable
  refine ⟨_, rfl, ?_⟩; simp [Kept]

@[simp] theorem sdArrive_kept (s : State) (c : Nat) : Kept s (sdArrive s c) := by
  unfold sdArrive
  (try dsimp only); split <;> simp [Kept]

@[simp] theorem carrierPeriod_kept (s : State) (ch : Nat) : Kept s (carrierPeriod s ch) := by
  unfold carrierPeriod
  (try dsimp only); split <;> simp [Kept]

theorem execSdFbHoldExpiry_kept (ch : Nat) (s : State) : ∃ t, execSdFbHoldExpiry ch s = .next t ∧ Kept s t := by
  unfold execSdFbHoldExpiry
  (try dsimp only); (repeat' split) <;> (refine ⟨_, rfl, ?_⟩; simp [Kept])

theorem execSdSaturationTimer_kept (ch : Nat) (s : State) : ∃ t, execSdSaturationTimer ch s = .next t ∧ Kept s t := by
  unfold execSdSaturationTimer
  refine ⟨_, rfl, ?_⟩; simp [Kept]

@[simp] theorem gateDecide_kept (s : State) (p : Nat) (above : Nat) (g : GateTest) (rest : List GateTest) : Kept s (gateDecide s p above g rest) := by
  unfold gateDecide
  (try dsimp only); (repeat' split) <;> simp [Kept]

theorem execGateTestDecision_kept (port : Nat) (samples : List Nat) (s : State) : ∃ t, execGateTestDecision port samples s = .next t ∧ Kept s t := by
  unfold execGateTestDecision
  (try dsimp only); (repeat' split) <;> (refine ⟨_, rfl, ?_⟩; simp [Kept])

@[simp] theorem cutJob_kept (s : State) (j : Job) : KeptH s (cutJob s j) := by
  unfold cutJob
  (try dsimp only); (repeat' split) <;> simp [Kept, KeptH, foldl_pending, foldl_dram, foldl_hostMem, foldl_rollback]

@[simp] theorem endDeferred_kept (s : State) : KeptH s (endDeferred s) := by
  unfold endDeferred
  dsimp only
  exact KeptH.trans ⟨rfl, rfl, rfl⟩ (foldl_keptH _ (fun s n => by split <;> simp [KeptH]) _ _)

@[simp] theorem setBindOff_kept (s : State) (b : BindOff) : Kept s (setBindOff s b) := by
  unfold setBindOff
  simp [Kept]

@[simp] theorem disarmSkein_kept (s : State) (k : Nat) : Kept s (disarmSkein s k) := by
  unfold disarmSkein
  (try dsimp only); split <;> simp [Kept]

@[simp] theorem stopSlot_kept (s : State) (n : Nat) : Kept s (stopSlot s n) := by
  unfold stopSlot
  (try dsimp only); split <;> simp [Kept]

@[simp] theorem bindOffStop_kept (s : State) : Kept s (bindOffStop s) := by
  unfold bindOffStop
  simp [Kept, foldl_pending, foldl_dram, foldl_hostMem, foldl_rollback]

@[simp] theorem bindOffRelease_kept (s : State) (left : List Nat) : Kept s (bindOffRelease s left) := by
  unfold bindOffRelease
  extract_lets s1 s2 was s3 s4
  have h1 : Kept s s1 := foldl_kept _ (fun s n => by split <;> simp [Kept]) _ s
  have h2 : Kept s1 s2 := by unfold s2; split <;> simp [Kept]
  have h3 : Kept s2 s3 := by unfold s3; simp [Kept]
  have h4 : Kept s3 s4 := by unfold s4; split <;> simp [Kept]
  exact h1.trans (h2.trans (h3.trans (h4.trans (foldl_kept _ (fun s c => by split <;> simp [Kept]) _ s4))))

@[simp] theorem bindOffCheck_kept (s : State) : Kept s (bindOffCheck s) := by
  unfold bindOffCheck
  (try dsimp only); (repeat' split) <;> simp [Kept]

@[simp] theorem bodySysBindOff_kept (s : State) : KeptH s (bodySysBindOff s).1 := by
  unfold bodySysBindOff
  (try dsimp only); (repeat' split) <;> simp [Kept, KeptH]

theorem execSysBindOff_kept (r : Req) (s : State) : ∃ t, execSysBindOff r s = .next t ∧ KeptH s t := by
  unfold execSysBindOff
  refine ⟨_, rfl, ?_⟩
  have h : KeptH s (mbxRun (.sysBindOff r) r 0x0104 false bodySysBindOff s) :=
    mbxRun_keptH _ _ _ _ _ _ fun s => bodySysBindOff_kept s
  have k := bindOffCheck_kept (mbxRun (.sysBindOff r) r 0x0104 false bodySysBindOff s)
  exact ⟨k.1.trans h.1, k.2.1.trans h.2.1, k.2.2.2.trans h.2.2⟩

theorem execDrainEnd_kept (port : Nat) (s : State) : ∃ t, execDrainEnd port s = .next t ∧ Kept s t := by
  unfold execDrainEnd
  refine ⟨_, rfl, ?_⟩; simp [Kept]

theorem execActWaveStop_kept (s : State) : ∃ t, execActWaveStop s = .next t ∧ Kept s t := by
  unfold execActWaveStop
  refine ⟨_, rfl, ?_⟩; simp [Kept]

theorem execSwapReleaseDone_kept (s : State) : ∃ t, execSwapReleaseDone s = .next t ∧ Kept s t := by
  unfold execSwapReleaseDone
  refine ⟨_, rfl, ?_⟩; simp [Kept]

theorem execLoopReleaseEnd_kept (loop : Nat) (s : State) : ∃ t, execLoopReleaseEnd loop s = .next t ∧ Kept s t := by
  unfold execLoopReleaseEnd
  (try dsimp only); (repeat' split) <;> (refine ⟨_, rfl, ?_⟩; simp [Kept])

theorem execSdCarrierPeriod_kept (ch : Nat) (s : State) : ∃ t, execSdCarrierPeriod ch s = .next t ∧ Kept s t := by
  unfold execSdCarrierPeriod
  refine ⟨_, rfl, ?_⟩; simp [Kept]

@[simp] theorem leaveBindOff_kept (s : State) (ch : Nat) : Kept s (leaveBindOff s ch) := by
  unfold leaveBindOff
  (try dsimp only); (repeat' split) <;> simp [Kept]

theorem execSrcEnable_kept (r : Req) (ch : Nat) (s : State) : ∃ t, execSrcEnable r ch s = .next t ∧ Kept s t := by
  unfold execSrcEnable
  refine ⟨_, rfl, ?_⟩; simp [Kept]

@[simp] theorem authFails_kept (s : State) (slot : Nat) : Kept s (authFails s slot) := by
  unfold authFails
  simp [Kept]

@[simp] theorem bodyFwStage_kept (slot : Nat) (n : Nat) (b : Bulk) (s : State) : KeptH s (bodyFwStage slot n b s).1 := by
  unfold bodyFwStage
  (try dsimp only); (repeat' split) <;> simp [Kept, KeptH]

theorem execFwStage_kept (r : Req) (slot : Nat) (desc : Bulk) (s : State) : ∃ t, execFwStage r slot desc s = .next t ∧ KeptH s t :=
  ⟨_, rfl, mbxRun_keptH _ _ _ _ _ _ fun s => bodyFwStage_kept r.slot slot desc s⟩

theorem execFwStageDone_kept (written : Bool) (s : State) : ∃ t, execFwStageDone written s = .next t ∧ KeptH s t := by
  unfold execFwStageDone
  (try dsimp only); (repeat' split) <;> (refine ⟨_, rfl, ?_⟩; simp [Kept, KeptH])

@[simp] theorem bodyFwVerify_kept (n : Nat) (s : State) : Kept s (bodyFwVerify n s).1 := by
  unfold bodyFwVerify
  (try dsimp only); (repeat' split) <;> simp [Kept]

theorem execFwVerify_kept (r : Req) (slot : Nat) (s : State) : ∃ t, execFwVerify r slot s = .next t ∧ Kept s t := by
  unfold execFwVerify
  refine ⟨_, rfl, ?_⟩; simp [Kept]

@[simp] theorem slotPasses_kept (s : State) (n : Nat) : Kept s (slotPasses s n) := by
  unfold slotPasses
  simp [Kept]

@[simp] theorem slotFails_kept (s : State) (n : Nat) (v : Verdict) : Kept s (slotFails s n v) := by
  unfold slotFails
  (try dsimp only); split <;> simp [Kept]

theorem execFwVerifyDone_kept (s : State) : ∃ t, execFwVerifyDone s = .next t ∧ Kept s t := by
  unfold execFwVerifyDone
  (try dsimp only); (repeat' split) <;> (refine ⟨_, rfl, ?_⟩; simp [Kept])

@[simp] theorem lockDebug_kept (s : State) : Kept s (lockDebug s) := by
  unfold lockDebug
  simp [Kept]

@[simp] theorem bodyFwActivate_kept (slot : Nat) (n : Nat) (s : State) : Kept s (bodyFwActivate slot n s).1 := by
  unfold bodyFwActivate
  (try dsimp only); (repeat' split) <;> simp [Kept]

@[simp] theorem activateSettle_kept (s : State) : Kept s (activateSettle s) := by
  unfold activateSettle
  (try dsimp only); split <;> simp [Kept]

@[simp] theorem activationEnds_kept (s : State) (a : Activation) : KeptR s (activationEnds s a) := by
  unfold activationEnds
  simp [Kept, KeptR]

theorem execFwActivationDone_kept (s : State) : ∃ t, execFwActivationDone s = .next t ∧ KeptR s t := by
  unfold execFwActivationDone
  (try dsimp only); (repeat' split) <;> (refine ⟨_, rfl, ?_⟩; simp [Kept, KeptR])

theorem execFwFallback_kept (s : State) : ∃ t, execFwFallback s = .next t ∧ Kept s t := by
  unfold execFwFallback
  (try dsimp only); (repeat' split) <;> (refine ⟨_, rfl, ?_⟩; simp [Kept])

@[simp] theorem cutNvm_kept (s : State) : Kept s (cutNvm s) := by
  unfold cutNvm
  (try dsimp only); split <;> simp [Kept]

@[simp] theorem coldReset_kept (s : State) : KeptD s (coldReset s) := by
  unfold coldReset bootKept
  simp [KeptD]

@[simp] theorem warmReset_kept (s : State) : KeptQ s (warmReset s) := by
  unfold warmReset bootKept
  simp [Kept, KeptH, KeptQ]

@[simp] theorem resetSettle_kept (s : State) : KeptQ s (resetSettle s) := by
  unfold resetSettle
  split <;> simp [KeptQ]

@[simp] theorem bodySysReset_kept (confirm : Nat) (s : State) : KeptH s (bodySysReset confirm s).1 := by
  unfold bodySysReset
  (try dsimp only); (repeat' split) <;> simp [Kept, KeptH]

theorem execSysReset_kept (r : Req) (confirm : Nat) (s : State) : ∃ t, execSysReset r confirm s = .next t ∧ KeptQ s t := by
  unfold execSysReset
  refine ⟨_, rfl, ?_⟩
  have h : KeptH s (mbxRun (.sysReset r confirm) r 0x0103 false (bodySysReset confirm) s) :=
    mbxRun_keptH _ _ _ _ _ _ fun s => bodySysReset_kept confirm s
  have k := resetSettle_kept (mbxRun (.sysReset r confirm) r 0x0103 false (bodySysReset confirm) s)
  exact ⟨k.1.trans h.1, k.2.trans h.2.2⟩

theorem execFwActivate_kept (r : Req) (slot : Nat) (s : State) : ∃ t, execFwActivate r slot s = .next t ∧ KeptQ s t := by
  unfold execFwActivate
  refine ⟨_, rfl, ?_⟩; simp [Kept, KeptQ]

theorem execPorstNAssert_kept (s : State) : ∃ t, execPorstNAssert s = .next t ∧ KeptD s t := by
  unfold execPorstNAssert
  refine ⟨_, rfl, ?_⟩; simp [Kept, KeptD]

@[simp] theorem carry_kept (s : State) (src : Nat) : Kept s (carry s src) := by
  unfold carry
  simp [Kept]

@[simp] theorem thermalTrip_kept (s : State) (temp : Int) : KeptD s (thermalTrip s temp) := by
  unfold thermalTrip
  simp [Kept, KeptD]

theorem execThermalShutdown_kept (s : State) : ∃ t, execThermalShutdown s = .next t ∧ KeptD s t := by
  unfold execThermalShutdown
  (try dsimp only); (repeat' split) <;> (refine ⟨_, rfl, ?_⟩; simp [Kept, KeptD])

theorem execThermalRecover_kept (sensors : List Int) (s : State) : ∃ t, execThermalRecover sensors s = .next t ∧ Kept s t := by
  unfold execThermalRecover
  (try dsimp only); (repeat' split) <;> (refine ⟨_, rfl, ?_⟩; simp [Kept])

theorem execSupplyTrip_kept (r : RailReading) (s : State) : ∃ t, execSupplyTrip r s = .next t ∧ KeptD s t := by
  unfold execSupplyTrip
  (try dsimp only); (repeat' split) <;> (refine ⟨_, rfl, ?_⟩; simp [Kept, KeptD])

theorem execSupplyReturn_kept (r : RailReading) (s : State) : ∃ t, execSupplyReturn r s = .next t ∧ Kept s t := by
  unfold execSupplyReturn
  (try dsimp only); (repeat' split) <;> (refine ⟨_, rfl, ?_⟩; simp [Kept])

theorem execRailExcursion_kept (r : RailReading) (s : State) : ∃ t, execRailExcursion r s = .next t ∧ Kept s t := by
  unfold execRailExcursion
  (try dsimp only); (repeat' split) <;> (refine ⟨_, rfl, ?_⟩; simp [Kept])

theorem execRootUnlock_kept (s : State) : ∃ t, execRootUnlock s = .next t ∧ Kept s t := by
  unfold execRootUnlock
  (try dsimp only); (repeat' split) <;> (refine ⟨_, rfl, ?_⟩; simp [Kept])

theorem execRefclkLost_kept (s : State) : ∃ t, execRefclkLost s = .next t ∧ Kept s t := by
  unfold execRefclkLost
  (try dsimp only); (repeat' split) <;> (refine ⟨_, rfl, ?_⟩; simp [Kept])

@[simp] theorem driftTdc_kept (s : State) (ch : Nat) : Kept s (driftTdc s ch) := by
  unfold driftTdc
  (try dsimp only); split <;> simp [Kept]

@[simp] theorem driftFe_kept (s : State) : Kept s (driftFe s) := by
  unfold driftFe
  (try dsimp only); split <;> simp [Kept]

theorem execDieTempSample_kept (sensors : List Int) (s : State) : ∃ t, execDieTempSample sensors s = .next t ∧ KeptD s t := by
  unfold execDieTempSample
  (try dsimp only); (repeat' split) <;> (refine ⟨_, rfl, ?_⟩; simp [Kept, KeptD, foldl_pending, foldl_dram, foldl_hostMem, foldl_rollback])

theorem execCastOnStart_kept (bootSel : Nat) (pairId : Nat) (s : State) : ∃ t, execCastOnStart bootSel pairId s = .next t ∧ Kept s t := by
  unfold execCastOnStart
  (try dsimp only); (repeat' split) <;> (refine ⟨_, rfl, ?_⟩; simp [Kept])

@[simp] theorem raiseCarried_kept (s : State) : Kept s (raiseCarried s) := by
  unfold raiseCarried
  simp [Kept, foldl_pending, foldl_dram, foldl_hostMem, foldl_rollback]

theorem execRootLock_kept (s : State) : ∃ t, execRootLock s = .next t ∧ Kept s t := by
  unfold execRootLock
  (try dsimp only); (repeat' split) <;> (refine ⟨_, rfl, ?_⟩; simp [Kept])

theorem execRootLockTimeout_kept (s : State) : ∃ t, execRootLockTimeout s = .next t ∧ Kept s t := by
  unfold execRootLockTimeout
  (try dsimp only); (repeat' split) <;> (refine ⟨_, rfl, ?_⟩; simp [Kept])

@[simp] theorem castOnFails_kept (s : State) (src : Nat) : Kept s (castOnFails s src) := by
  unfold castOnFails
  simp [Kept]

@[simp] theorem unitOut_kept (s : State) (u : RepairUnit) : Kept s (unitOut s u) := by
  unfold unitOut
  (try dsimp only); split <;> simp [Kept]

@[simp] theorem applyRepair_kept (s : State) : Kept s (applyRepair s) := by
  unfold applyRepair
  simp [Kept, foldl_pending, foldl_dram, foldl_hostMem, foldl_rollback]

@[simp] theorem marchRow_kept (s : State) (q : Nat × Nat) : Kept s (marchRow s q) := by
  unfold marchRow
  (try dsimp only); (repeat' split) <;> simp [Kept]

@[simp] theorem marchRows_kept (s : State) (rows : List (Nat × Nat)) : Kept s (marchRows s rows) := by
  unfold marchRows
  simp [Kept, foldl_pending, foldl_dram, foldl_hostMem, foldl_rollback]

@[simp] theorem bankRead_kept (s : State) (n : Nat) (ok : Bool) : Kept s (bankRead s n ok) := by
  unfold bankRead
  (try dsimp only); split <;> simp [Kept]

@[simp] theorem regionRRead_kept (s : State) (ok : Bool) : Kept s (regionRRead s ok) := by
  unfold regionRRead
  (try dsimp only); split <;> simp [Kept]

@[simp] theorem nvmLoad_kept (s : State) (v : NvmLoad) : Kept s (nvmLoad s v) := by
  unfold nvmLoad
  (try dsimp only); (repeat' split) <;> simp [Kept]

theorem execNvmLoaded_kept (nvm : NvmLoad) (s : State) : ∃ t, execNvmLoaded nvm s = .next t ∧ Kept s t := by
  unfold execNvmLoaded
  (try dsimp only); (repeat' split) <;> (refine ⟨_, rfl, ?_⟩; simp [Kept])

theorem execLinkReady_kept (s : State) : ∃ t, execLinkReady s = .next t ∧ Kept s t := by
  unfold execLinkReady
  (try dsimp only); (repeat' split) <;> (refine ⟨_, rfl, ?_⟩; simp [Kept])

@[simp] theorem answerHeld_kept (s : State) (b : Nat × Nat × Nat × Bool) : Kept s (answerHeld s b) := by
  unfold answerHeld
  simp [Kept]

@[simp] theorem firmwareStarts_kept (s : State) : Kept s (firmwareStarts s) := by
  unfold firmwareStarts
  simp [Kept, foldl_pending, foldl_dram, foldl_hostMem, foldl_rollback]

@[simp] theorem bootSlot_kept (s : State) (n : Nat) : Kept s (bootSlot s n) := by
  unfold bootSlot
  simp [Kept]

@[simp] theorem noSlot_kept (s : State) : Kept s (noSlot s) := by
  unfold noSlot
  (try dsimp only); split <;> simp [Kept]

theorem execBootVerify_kept (s : State) : ∃ t, execBootVerify s = .next t ∧ Kept s t := by
  unfold execBootVerify
  (try dsimp only); (repeat' split) <;> (refine ⟨_, rfl, ?_⟩; simp [Kept])

@[simp] theorem ringIfEnabled_kept (s : State) (r : Nat) : KeptH s (ringIfEnabled s r) := by
  unfold ringIfEnabled
  (try dsimp only); split <;> simp [Kept, KeptH]

theorem execRecoveryBoot_kept (image : List Byte) (s : State) : ∃ t, execRecoveryBoot image s = .next t ∧ KeptH s t := by
  unfold execRecoveryBoot
  (try dsimp only); (repeat' split) <;> (refine ⟨_, rfl, ?_⟩; simp [Kept, KeptH])

theorem execMarchTestDone_kept (rows : List (Nat × Nat)) (s : State) : ∃ t, execMarchTestDone rows s = .next t ∧ Kept s t := by
  unfold execMarchTestDone
  (try dsimp only); (repeat' split) <;> (refine ⟨_, rfl, ?_⟩; simp [Kept])

@[simp] theorem trainStarts_kept (s : State) : Kept s (trainStarts s) := by
  unfold trainStarts
  (try dsimp only); split <;> simp [Kept]

@[simp] theorem unstage_kept (s : State) (f : Nat → Bool) : Kept s (unstage s f) := by
  unfold unstage
  simp [Kept]

@[simp] theorem ramanTake_kept (s : State) (p : Nat) : Kept s (ramanTake s p) := by
  unfold ramanTake
  (try dsimp only); split <;> simp [Kept]

@[simp] theorem commitRaman_kept (ins : Nat) (s : State) : Kept s (commitRaman ins s).1 := by
  unfold commitRaman
  (try dsimp only); (repeat' split) <;> simp [Kept, foldl_pending, foldl_dram, foldl_hostMem, foldl_rollback]

@[simp] theorem feTakeEntry_kept (s : State) (n : Nat) : Kept s (feTakeEntry s n) := by
  unfold feTakeEntry
  (try dsimp only); split <;> simp [Kept]

@[simp] theorem commitFe_kept (ins : Nat) (s : State) : Kept s (commitFe ins s).1 := by
  unfold commitFe
  (try dsimp only); (repeat' split) <;> simp [Kept, foldl_pending, foldl_dram, foldl_hostMem, foldl_rollback]

@[simp] theorem commitNeedle_kept (s : State) : Kept s (commitNeedle s).1 := by
  unfold commitNeedle
  (try dsimp only); (repeat' split) <;> simp [Kept]

@[simp] theorem commitCal_kept (ins : Nat) (s : State) : Kept s (commitCal ins s).1 := by
  unfold commitCal
  simp [Kept]

@[simp] theorem commitMem_kept (s : State) : Kept s (commitMem s).1 := by
  unfold commitMem
  (try dsimp only); (repeat' split) <;> simp [Kept]

@[simp] theorem commitDomain_kept (dom : Nat) (ins : Nat) (s : State) : Kept s (commitDomain dom ins s).1 := by
  unfold commitDomain
  (try dsimp only); (repeat' split) <;> simp [Kept]

@[simp] theorem bodyParamCommit_kept (dom : Nat) (ins : Nat) (action : Nat) (s : State) : Kept s (bodyParamCommit dom ins action s).1 := by
  unfold bodyParamCommit
  (try dsimp only); (repeat' split) <;> simp [Kept]

theorem execParamCommit_kept (r : Req) (dom : Nat) (ins : Nat) (action : Nat) (s : State) : ∃ t, execParamCommit r dom ins action s = .next t ∧ Kept s t := by
  unfold execParamCommit
  refine ⟨_, rfl, ?_⟩; simp [Kept]

@[simp] theorem bodyFaultClear_kept (mask : Nat) (s : State) : Kept s (bodyFaultClear mask s).1 := by
  unfold bodyFaultClear
  (try dsimp only); split <;> simp [Kept]

theorem execFaultClear_kept (r : Req) (mask : Nat) (s : State) : ∃ t, execFaultClear r mask s = .next t ∧ Kept s t := by
  unfold execFaultClear
  refine ⟨_, rfl, ?_⟩; simp [Kept]

@[simp] theorem feedDetectors_kept (s : State) (z : Nat) (r : ZRow) (warm : Bool) : Kept s (feedDetectors s z r warm) := by
  unfold feedDetectors
  simp [Kept]

@[simp] theorem emitRow_kept (s : State) (z : Nat) (r : ZRow) (warm : Bool) (first : Bool) : Kept s (emitRow s z r warm first) := by
  unfold emitRow
  simp [Kept]

@[simp] theorem takePeriod_kept (s : State) (z : Nat) : Kept s (takePeriod s z) := by
  unfold takePeriod
  (try dsimp only); split <;> simp [Kept]

@[simp] theorem outputRow_kept (s : State) (z : Nat) (label : Nat) (row : List QVal) : Kept s (outputRow s z label row) := by
  unfold outputRow
  simp [Kept]

@[simp] theorem phaseInput_kept (s : State) (z : Nat) (a : PhaseRow) (b : Option PhaseRow) : Kept s (phaseInput s z a b) := by
  unfold phaseInput
  (try dsimp only); (repeat' split) <;> simp [Kept]

@[simp] theorem tempInput_kept (s : State) (z : Nat) (r : TRow) : Kept s (tempInput s z r) := by
  unfold tempInput
  (try dsimp only); split <;> simp [Kept]

@[simp] theorem popInput_kept (s : State) (z : Nat) (i : ZIn) : Kept s (popInput s z i) := by
  unfold popInput
  simp [Kept]

@[simp] theorem inputDone_kept (s : State) (z : Nat) : Kept s (inputDone s z) := by
  unfold inputDone
  (try dsimp only); (repeat' split) <;> simp [Kept]

theorem execZoneInputSample_kept (zone : Nat) (s : State) : ∃ t, execZoneInputSample zone s = .next t ∧ Kept s t := by
  unfold execZoneInputSample
  (try dsimp only); (repeat' split) <;> (refine ⟨_, rfl, ?_⟩; simp [Kept])

@[simp] theorem takeStaged_kept (s : State) (f : Nat → Bool) : Kept s (takeStaged s f).1 := by
  unfold takeStaged
  simp [Kept]

@[simp] theorem zoneCounts_kept (s : State) (z : Nat) : Kept s (zoneCounts s z) := by
  unfold zoneCounts
  simp [Kept]

@[simp] theorem defineZone_kept (z : Nat) (s : State) : Kept s (defineZone z s).1 := by
  unfold defineZone
  (try dsimp only); (repeat' split) <;> simp [Kept]

@[simp] theorem releaseZone_kept (z : Nat) (s : State) : Kept s (releaseZone z s).1 := by
  unfold releaseZone
  (try dsimp only); (repeat' split) <;> simp [Kept]

@[simp] theorem bodyZoneDefine_kept (z : Nat) (s : State) : Kept s (bodyZoneDefine z s).1 := by
  unfold bodyZoneDefine
  (try dsimp only); (repeat' split) <;> simp [Kept]

theorem execZoneDefine_kept (r : Req) (zone : Nat) (s : State) : ∃ t, execZoneDefine r zone s = .next t ∧ Kept s t := by
  unfold execZoneDefine
  refine ⟨_, rfl, ?_⟩; simp [Kept]

@[simp] theorem bodyZoneEnable_kept (z : Nat) (s : State) : Kept s (bodyZoneEnable z s).1 := by
  unfold bodyZoneEnable
  (try dsimp only); (repeat' split) <;> simp [Kept]

theorem execZoneEnable_kept (r : Req) (zone : Nat) (s : State) : ∃ t, execZoneEnable r zone s = .next t ∧ Kept s t := by
  unfold execZoneEnable
  refine ⟨_, rfl, ?_⟩; simp [Kept]

@[simp] theorem bodyZoneDisable_kept (z : Nat) (s : State) : Kept s (bodyZoneDisable z s).1 := by
  unfold bodyZoneDisable
  (try dsimp only); (repeat' split) <;> simp [Kept]

theorem execZoneDisable_kept (r : Req) (zone : Nat) (s : State) : ∃ t, execZoneDisable r zone s = .next t ∧ Kept s t := by
  unfold execZoneDisable
  refine ⟨_, rfl, ?_⟩; simp [Kept]

@[simp] theorem bodyZoneSync_kept (mask : Nat) (at_ : Nat) (s : State) : Kept s (bodyZoneSync mask at_ s).1 := by
  unfold bodyZoneSync
  (try dsimp only); (repeat' split) <;> simp [Kept, foldl_pending, foldl_dram, foldl_hostMem, foldl_rollback]

theorem execZoneSync_kept (r : Req) (mask : Nat) (at_ : Nat) (s : State) : ∃ t, execZoneSync r mask at_ s = .next t ∧ Kept s t := by
  unfold execZoneSync
  refine ⟨_, rfl, ?_⟩; simp [Kept]

@[simp] theorem bodyZoneFreezeDc_kept (z : Nat) (freeze : Nat) (s : State) : Kept s (bodyZoneFreezeDc z freeze s).1 := by
  unfold bodyZoneFreezeDc
  (try dsimp only); (repeat' split) <;> simp [Kept]

theorem execZoneFreezeDc_kept (r : Req) (zone : Nat) (freeze : Nat) (s : State) : ∃ t, execZoneFreezeDc r zone freeze s = .next t ∧ Kept s t := by
  unfold execZoneFreezeDc
  refine ⟨_, rfl, ?_⟩; simp [Kept]

@[simp] theorem bodyZoneStatus_kept (z : Nat) (s : State) : Kept s (bodyZoneStatus z s).1 := by
  unfold bodyZoneStatus
  (try dsimp only); split <;> simp [Kept]

theorem execZoneStatus_kept (r : Req) (zone : Nat) (s : State) : ∃ t, execZoneStatus r zone s = .next t ∧ Kept s t := by
  unfold execZoneStatus
  refine ⟨_, rfl, ?_⟩; simp [Kept]

theorem execZoneSatSecond_kept (s : State) : ∃ t, execZoneSatSecond s = .next t ∧ Kept s t := by
  unfold execZoneSatSecond
  (try dsimp only); (repeat' split) <;> (refine ⟨_, rfl, ?_⟩; simp [Kept, foldl_pending, foldl_dram, foldl_hostMem, foldl_rollback])

@[simp] theorem testAll_kept (s : State) : Kept s (testAll s) := by
  unfold testAll
  simp [Kept]

@[simp] theorem castOnCals_kept (s : State) : Kept s (castOnCals s) := by
  unfold castOnCals
  simp [Kept, foldl_pending, foldl_dram, foldl_hostMem, foldl_rollback]

@[simp] theorem trained_kept (s : State) (config : Nat) (rfm : Bool) : Kept s (trained s config rfm) := by
  unfold trained
  simp [Kept]

theorem execDramTrainingDone_kept (fitted : List (Nat × Nat)) (failed : Nat) (rfm : Bool) (s : State) : ∃ t, execDramTrainingDone fitted failed rfm s = .next t ∧ Kept s t := by
  unfold execDramTrainingDone
  (try dsimp only); (repeat' split) <;> (refine ⟨_, rfl, ?_⟩; simp [Kept, foldl_pending, foldl_dram, foldl_hostMem, foldl_rollback])

@[simp] theorem takeRoles_kept (f : State → Nat → Bool → State) (n : Nat) (xs : List Nat) (s : State)
    (h : ∀ s c on, Kept s (f s c on)) : Kept s (takeRoles f n xs s) := by
  have a := foldl_kept (fun s c => f s c true) (fun s c => h s c true) (xs.take n) s
  have b := foldl_kept (fun s c => f s c false) (fun s c => h s c false) (xs.drop n) ((xs.take n).foldl (fun s c => f s c true) s)
  exact ⟨b.1.trans a.1, b.2.1.trans a.2.1, b.2.2.1.trans a.2.2.1, b.2.2.2.trans a.2.2.2⟩

@[simp] theorem coreRole_kept (s : State) (c : Nat) (on : Bool) : Kept s (coreRole s c on) := by
  unfold coreRole
  simp [Kept]

@[simp] theorem engineRole_kept (s : State) (e : Nat) (on : Bool) : Kept s (engineRole s e on) := by
  unfold engineRole
  simp [Kept]

@[simp] theorem roles_kept (s : State) : Kept s (roles s) := by
  unfold roles
  (try dsimp only); (repeat' split) <;> simp [Kept]

@[simp] theorem applyStored_kept (vals : List (Nat × Int)) (body : State → State × Answer) (s : State)
    (h : ∀ s, Kept s (body s).1) : Kept s (applyStored vals body s) := by
  have h1 := fun s => (h s).1
  have h2 := fun s => (h s).2.1
  have h3 := fun s => (h s).2.2.1
  have h4 := fun s => (h s).2.2.2
  unfold applyStored
  (try dsimp only); (repeat' split) <;> simp [Kept, h1, h2, h3, h4]

@[simp] theorem applyEach_kept (b : NvmBank) (dom : Nat) (insts : List Nat) (body : Nat → State → State × Answer) (s : State)
    (h : ∀ i s, Kept s (body i s).1) : Kept s (applyEach b dom insts body s) :=
  foldl_kept _ (fun s i => applyStored_kept _ _ s (h i)) insts s

@[simp] theorem applyTime_kept (b : NvmBank) (s : State) : Kept s (applyTime b s) := by
  unfold applyTime
  simp [Kept, foldl_pending, foldl_dram, foldl_hostMem, foldl_rollback]

@[simp] theorem applyFe_kept (b : NvmBank) (s : State) : Kept s (applyFe b s) := by
  unfold applyFe
  simp [Kept, foldl_pending, foldl_dram, foldl_hostMem, foldl_rollback]

@[simp] theorem applySrc_kept (b : NvmBank) (s : State) : Kept s (applySrc b s) := by
  unfold applySrc
  simp [Kept]

@[simp] theorem applyPorts03_kept (b : NvmBank) (s : State) : Kept s (applyPorts03 b s) := by
  unfold applyPorts03
  (try dsimp only); split <;> simp [Kept]

@[simp] theorem applyComp_kept (b : NvmBank) (s : State) : Kept s (applyComp b s) := by
  unfold applyComp
  simp [Kept, foldl_pending, foldl_dram, foldl_hostMem, foldl_rollback]

@[simp] theorem applyPair_kept (s : State) : Kept s (applyPair s).1 := by
  unfold applyPair
  simp [Kept]

@[simp] theorem applyRegionU_kept (b : NvmBank) (s : State) : Kept s (applyRegionU b s) := by
  unfold applyRegionU
  simp [Kept]

@[simp] theorem userInForce_kept (s : State) : Kept s (userInForce s) := by
  unfold userInForce
  (try dsimp only); split <;> simp [Kept]

theorem execCastOnCalDone_kept (s : State) : ∃ t, execCastOnCalDone s = .next t ∧ Kept s t := by
  unfold execCastOnCalDone
  (try dsimp only); (repeat' split) <;> (refine ⟨_, rfl, ?_⟩; simp [Kept])

@[simp] theorem pinAtReady_kept (s : State) : Kept s (pinAtReady s) := by
  unfold pinAtReady
  simp [Kept]

theorem execBootReady_kept (s : State) : ∃ t, execBootReady s = .next t ∧ KeptH s t := by
  unfold execBootReady
  (try dsimp only); (repeat' split) <;> (refine ⟨_, rfl, ?_⟩; simp [Kept, KeptH, foldl_pending, foldl_dram, foldl_hostMem, foldl_rollback])

@[simp] theorem jump_kept (s : State) (c : Nat) (target : Nat) (reads : List Nat) (f : Core → Core) : KeptH s (jump s c target reads f) := by
  unfold jump
  (try dsimp only); split <;> simp [Kept, KeptH]

@[simp] theorem controlEffect_kept (s : State) (c : Nat) (op : CtlOp) (k : Core) : KeptH s (controlEffect s c op k) := by
  unfold controlEffect
  (try dsimp only); (repeat' split) <;> simp [Kept, KeptH]

theorem execControlClassInstr_kept (core : Nat) (op : CtlOp) (s : State) : ∃ t, execControlClassInstr core op s = .next t ∧ KeptH s t := by
  unfold execControlClassInstr
  refine ⟨_, rfl, onCore_kept s core _ fun k => ?_⟩; (repeat' split) <;> simp [Kept, KeptH]

@[simp] theorem repEffect_kept (s : State) (c : Nat) (count : RepCount) (after : Nat) (k : Core) : KeptH s (repEffect s c count after k) := by
  unfold repEffect
  (try dsimp only); (repeat' split) <;> simp [Kept, KeptH]

theorem execRepInstr_kept (core : Nat) (count : RepCount) (after : Nat) (s : State) : ∃ t, execRepInstr core count after s = .next t ∧ KeptH s t := by
  unfold execRepInstr
  refine ⟨_, rfl, onCore_kept s core _ fun k => ?_⟩; (repeat' split) <;> simp [Kept, KeptH]

@[simp] theorem breakEffect_kept (s : State) (c : Nat) (k : Core) : Kept s (breakEffect s c k) := by
  unfold breakEffect
  (try dsimp only); split <;> simp [Kept]

theorem execBreakInstr_kept (core : Nat) (s : State) : ∃ t, execBreakInstr core s = .next t ∧ KeptH s t := by
  unfold execBreakInstr
  refine ⟨_, rfl, onCore_kept s core _ fun k => ?_⟩; (repeat' split) <;> simp [Kept, KeptH]

theorem execTrapInstr_kept (core : Nat) (op : TrapOp) (s : State) : ∃ t, execTrapInstr core op s = .next t ∧ KeptH s t := by
  unfold execTrapInstr
  refine ⟨_, rfl, onCore_kept s core _ fun k => ?_⟩; (repeat' split) <;> simp [Kept, KeptH]

@[simp] theorem aluEffect_kept (s : State) (c : Nat) (op : ScalarOp) (dst : Nat) (src1 : Nat) (src2 : ScalarSrc) (k : Core) : Kept s (aluEffect s c op dst src1 src2 k) := by
  unfold aluEffect
  (try dsimp only); split <;> simp [Kept]

@[simp] theorem addaEffect_kept (s : State) (c : Nat) (an : Nat) (inc : ScalarSrc) (k : Core) : Kept s (addaEffect s c an inc k) := by
  unfold addaEffect
  simp [Kept]

@[simp] theorem toRegEffect_kept (s : State) (c : Nat) (file : RegFile) (n : Nat) (src : ScalarSrc) (k : Core) : Kept s (toRegEffect s c file n src k) := by
  unfold toRegEffect
  simp [Kept]

@[simp] theorem fromRegEffect_kept (s : State) (c : Nat) (dst : Nat) (file : RegFile) (n : Nat) (k : Core) : Kept s (fromRegEffect s c dst file n k) := by
  unfold fromRegEffect
  simp [Kept]

theorem execScalarInstr_kept (core : Nat) (op : ScalarInstr) (s : State) : ∃ t, execScalarInstr core op s = .next t ∧ KeptH s t := by
  unfold execScalarInstr
  refine ⟨_, rfl, onCore_kept s core _ fun k => ?_⟩; (repeat' split) <;> simp [Kept, KeptH]

@[simp] theorem loadInto_kept (s : State) (c : Nat) (g : Nat) (r : MemRef) (size : Nat) (k : Core) : Kept s (loadInto s c g r size k) := by
  unfold loadInto
  (try dsimp only); split <;> simp [Kept]

@[simp] theorem memEffect_kept (s : State) (c : Nat) (op : MemInstr) (k : Core) : Kept s (memEffect s c op k) := by
  unfold memEffect
  (try dsimp only); split <;> simp [Kept]

theorem execLoadStoreInstr_kept (core : Nat) (op : MemInstr) (s : State) :
    ∃ t, execLoadStoreInstr core op s = .next t ∧ KeptH s t := by
  refine ⟨_, rfl, onCore_kept s core _ fun k => ?_⟩
  (repeat' split) <;> simp [Kept, KeptH]

@[simp] theorem laneEffect_kept (s : State) (c : Nat) (op : VecOp) (sat : Bool) (dst : Nat) (src1 : Nat) (src2 : Nat) (count : Nat) (k : Core) : Kept s (laneEffect s c op sat dst src1 src2 count k) := by
  unfold laneEffect
  simp [Kept]

@[simp] theorem moveLanes_kept (s : State) (c : Nat) (dst : Nat) (reads : List Nat) (xs : List Int) : Kept s (moveLanes s c dst reads xs) := by
  unfold moveLanes
  simp [Kept]

theorem execVectorAluInstr_kept (core : Nat) (op : VecInstr) (s : State) : ∃ t, execVectorAluInstr core op s = .next t ∧ KeptH s t := by
  unfold execVectorAluInstr
  refine ⟨_, rfl, onCore_kept s core _ fun k => ?_⟩; (repeat' split) <;> simp [Kept, KeptH]

@[simp] theorem macLoads_kept (s : State) (c : Nat) (op : MacInstr) (l1 : Nat × MemRef) (l2 : Nat × MemRef) (k : Core) : KeptH s (macLoads s c op l1 l2 k) := by
  unfold macLoads
  (try dsimp only); split <;> simp [Kept, KeptH]

theorem execMacInstr_kept (core : Nat) (op : MacInstr) (s : State) : ∃ t, execMacInstr core op s = .next t ∧ KeptH s t := by
  unfold execMacInstr
  refine ⟨_, rfl, onN_kept s core _ fun k => ?_⟩; (repeat' split) <;> simp [Kept, KeptH]

theorem execAccumulatorInstr_kept (core : Nat) (op : AccInstr) (s : State) : ∃ t, execAccumulatorInstr core op s = .next t ∧ KeptH s t := by
  unfold execAccumulatorInstr
  refine ⟨_, rfl, onCore_kept s core _ fun k => ?_⟩; (repeat' split) <;> simp [Kept, KeptH]

@[simp] theorem floatPut_kept (s : State) (c : Nat) (reads : List Nat) (n : Nat) (lat : Nat) (dst : Nat) (w : Nat) (r : FRes) : Kept s (floatPut s c reads n lat dst w r) := by
  unfold floatPut
  simp [Kept]

@[simp] theorem fscalar_kept (s : State) (c : Nat) (op : FloatOp) (dbl : Bool) (dst : Nat) (a : Nat) (b : Nat) (d : Nat) (k : Core) : Kept s (fscalar s c op dbl dst a b d k) := by
  unfold fscalar
  simp [Kept]

@[simp] theorem fvector_kept (s : State) (c : Nat) (op : FloatOp) (dst : Nat) (a : Nat) (b : Nat) (d : Nat) (k : Core) : Kept s (fvector s c op dst a b d k) := by
  unfold fvector
  simp [Kept]

@[simp] theorem fcvtEffect_kept (s : State) (c : Nat) (op : CvtOp) (dst : Nat) (src : Nat) (k : Core) : Kept s (fcvtEffect s c op dst src k) := by
  unfold fcvtEffect
  (try dsimp only); split <;> simp [Kept]

@[simp] theorem fcmpEffect_kept (s : State) (c : Nat) (dbl : Bool) (a : Nat) (b : Nat) (k : Core) : Kept s (fcmpEffect s c dbl a b k) := by
  unfold fcmpEffect
  simp [Kept]

theorem execFloatInstr_kept (core : Nat) (op : FloatInstr) (s : State) : ∃ t, execFloatInstr core op s = .next t ∧ KeptH s t := by
  unfold execFloatInstr
  (try dsimp only); (repeat' split) <;> (refine ⟨_, rfl, ?_⟩; simp [Kept, KeptH])

@[simp] theorem specialEffect_kept (s : State) (c : Nat) (op : SpecialOp) (dbl : Bool) (dst : Nat) (src : Nat) (k : Core) : Kept s (specialEffect s c op dbl dst src k) := by
  unfold specialEffect
  simp [Kept]

@[simp] theorem cordicEffect_kept (s : State) (c : Nat) (dst : Nat) (y : Nat) (x : Nat) (k : Core) : Kept s (cordicEffect s c dst y x k) := by
  unfold cordicEffect
  simp [Kept]

theorem execSpecialFunctionInstr_kept (core : Nat) (op : SpecialInstr) (s : State) : ∃ t, execSpecialFunctionInstr core op s = .next t ∧ KeptH s t := by
  unfold execSpecialFunctionInstr
  refine ⟨_, rfl, onCore_kept s core _ fun k => ?_⟩; (repeat' split) <;> simp [Kept, KeptH]

@[simp] theorem eventClose_kept (s : State) : Kept s (eventClose s) := by
  unfold eventClose
  (try dsimp only); split <;> simp [Kept]

@[simp] theorem eventPut_kept (s : State) (rec : List Byte) (ts : Nat) : Kept s (eventPut s rec ts) := by
  unfold eventPut
  (try dsimp only); split <;> simp [Kept]

@[simp] theorem reportChange_kept (s : State) (z : Nat) (d : Nat) (c : DetChange) : Kept s (reportChange s z d c) := by
  unfold reportChange
  (try dsimp only); split <;> simp [Kept]

@[simp] theorem setDet_kept (s : State) (z : Nat) (d : Nat) (x : Det) : Kept s (setDet s z d x) := by
  unfold setDet
  simp [Kept]

@[simp] theorem detFlips_kept (s : State) (z : Nat) (d : Nat) (c : DetChange) : Kept s (detFlips s z d c) := by
  unfold detFlips
  (try dsimp only); split <;> simp [Kept]

@[simp] theorem detDecides_kept (s : State) (z : Nat) (d : Nat) (t : Det) (j : DetJob) (es : List (Nat × Nat)) (e : Int) : Kept s (detDecides s z d t j es e) := by
  unfold detDecides
  (try dsimp only); split <;> simp [Kept]

theorem execDetectorDecision_kept (zone : Nat) (det : Nat) (s : State) : ∃ t, execDetectorDecision zone det s = .next t ∧ Kept s t := by
  unfold execDetectorDecision
  (try dsimp only); (repeat' split) <;> (refine ⟨_, rfl, ?_⟩; simp [Kept])

theorem execEventFrameClose_kept (s : State) : ∃ t, execEventFrameClose s = .next t ∧ Kept s t := by
  unfold execEventFrameClose
  (try dsimp only); (repeat' split) <;> (refine ⟨_, rfl, ?_⟩; simp [Kept])

@[simp] theorem summarise_kept (s : State) (n : Nat) : Kept s (summarise s n) := by
  unfold summarise
  (try dsimp only); (repeat' split) <;> simp [Kept]

theorem execEventSummary_kept (s : State) : ∃ t, execEventSummary s = .next t ∧ Kept s t := by
  unfold execEventSummary
  (try dsimp only); (repeat' split) <;> (refine ⟨_, rfl, ?_⟩; simp [Kept, foldl_pending, foldl_dram, foldl_hostMem, foldl_rollback])

@[simp] theorem advanceTime_kept (s : State) : Kept s (advanceTime s) := by
  unfold advanceTime
  simp [Kept]

@[simp] theorem tick_kept (s : State) : Kept s (tick s) := by
  unfold tick
  (try dsimp only); split <;> simp [Kept]

end Sys2Proof.Machine
end

