-- ==== Sys2Proof/Laws/Store.lean ====
section
/-! SUPPORT. Laws/Store.lean: the laws of the sparse store and of byte memories. -/

namespace Sys2Proof.Machine

variable {α : Type}

/-! ### Reading after writing -/

theorem kget_kfilter (d : Nat → α) (f : Nat → Bool) (m : KMap α) (j : Nat) :
    kget d (kfilter f m) j = if f j then kget d m j else d j := by
  induction m with
  | nil => simp [kfilter, kget]
  | cons p m ih =>
    simp only [kfilter] at ih
    by_cases h : p.1 = j <;> by_cases g : f p.1 <;> simp_all [kfilter, kget]

theorem kget_kins (d : Nat → α) (m : KMap α) (k j : Nat) (v : α) :
    kget d (kins m k v) j = if k = j then v else kget d m j := by
  induction m with
  | nil => simp [kins, kget]
  | cons p m ih =>
    simp only [kins]
    split
    · simp [kget]
    · split
      · next h => by_cases g : k = j <;> simp_all [kget]
      · next h => by_cases g : p.1 = j <;> simp_all [kget]

/-- A read after a write: the written key reads the value, every other key as before. -/
theorem kget_kput [DecidableEq α] (d : Nat → α) (m : KMap α) (k j : Nat) (v : α) :
    kget d (kput d m k v) j = if k = j then v else kget d m j := by
  unfold kput
  split
  · next h =>
    rw [kget_kfilter]
    by_cases g : k = j
    · simp [← g, h]
    · simp [Ne.symm g, g]
  · exact kget_kins d m k j v

@[simp] theorem kget_kput_same [DecidableEq α] (d : Nat → α) (m : KMap α) (k : Nat) (v : α) :
    kget d (kput d m k v) k = v := by simp [kget_kput]

theorem kget_kput_ne [DecidableEq α] (d : Nat → α) (m : KMap α) {k j : Nat} (v : α) (h : k ≠ j) :
    kget d (kput d m k v) j = kget d m j := by simp [kget_kput, h]

@[simp] theorem kget_nil (d : Nat → α) (k : Nat) : kget d [] k = d k := rfl

@[simp] theorem kget_kmod_same [DecidableEq α] (d : Nat → α) (m : KMap α) (k : Nat) (f : α → α) :
    kget d (kmod d m k f) k = f (kget d m k) := by simp [kmod]

theorem kget_kmod_ne [DecidableEq α] (d : Nat → α) (m : KMap α) {k j : Nat} (f : α → α) (h : k ≠ j) :
    kget d (kmod d m k f) j = kget d m j := by simp [kmod, kget_kput_ne d m _ h]

/-! ### The canonical form -/

theorem kwf_nil (d : Nat → α) : kwf d [] := ⟨List.Pairwise.nil, fun _ h => absurd h List.not_mem_nil⟩

theorem kwf_kfilter (d : Nat → α) (f : Nat → Bool) {m : KMap α} (h : kwf d m) : kwf d (kfilter f m) :=
  ⟨h.1.filter _, fun p hp => h.2 p (List.mem_filter.mp hp).1⟩

theorem mem_kins {m : KMap α} {k : Nat} {v : α} {p : Nat × α} (h : p ∈ kins m k v) : p = (k, v) ∨ p ∈ m := by
  induction m with
  | nil => simpa [kins] using h
  | cons q m ih =>
    simp only [kins] at h
    split at h
    · simpa using h
    · split at h
      · rcases List.mem_cons.mp h with h | h
        · exact .inl h
        · exact .inr (List.mem_cons_of_mem _ h)
      · rcases List.mem_cons.mp h with h | h
        · exact .inr (by simp [h])
        · rcases ih h with h | h
          · exact .inl h
          · exact .inr (List.mem_cons_of_mem _ h)

theorem kins_sorted {m : KMap α} (k : Nat) (v : α) (h : m.Pairwise (fun a b => a.1 < b.1)) :
    (kins m k v).Pairwise (fun a b => a.1 < b.1) := by
  induction m with
  | nil => simp [kins]
  | cons q m ih =>
    have hq := List.pairwise_cons.mp h
    simp only [kins]
    split
    · next hk =>
      refine List.pairwise_cons.mpr ⟨fun p hp => ?_, h⟩
      rcases List.mem_cons.mp hp with hp | hp
      · exact hp ▸ hk
      · exact Nat.lt_trans hk (hq.1 p hp)
    · split
      · next hk => exact List.pairwise_cons.mpr ⟨fun p hp => hk ▸ hq.1 p hp, hq.2⟩
      · next h1 h2 =>
        refine List.pairwise_cons.mpr ⟨fun p hp => ?_, ih hq.2⟩
        rcases mem_kins hp with hp | hp
        · subst hp; exact Nat.lt_of_le_of_ne (Nat.not_lt.mp h1) (fun e => h2 e.symm)
        · exact hq.1 p hp

/-- Writing keeps the canonical form. -/
theorem kwf_kput [DecidableEq α] (d : Nat → α) {m : KMap α} (k : Nat) (v : α) (h : kwf d m) : kwf d (kput d m k v) := by
  unfold kput
  split
  · exact kwf_kfilter d _ h
  · next hv =>
    refine ⟨kins_sorted k v h.1, fun p hp => ?_⟩
    rcases mem_kins hp with hp | hp
    · subst hp; exact hv
    · exact h.2 p hp

theorem kwf_kmod [DecidableEq α] (d : Nat → α) {m : KMap α} (k : Nat) (f : α → α) (h : kwf d m) : kwf d (kmod d m k f) :=
  kwf_kput d k _ h

/-! ### Byte memories -/

@[simp] theorem memGet_memPut_same (m : Memory) (a : Nat) (b : Byte) : memGet (memPut m a b) a = b := by
  simp [memGet, memPut]

theorem memGet_memPut_ne (m : Memory) {a j : Nat} (b : Byte) (h : a ≠ j) : memGet (memPut m a b) j = memGet m j :=
  kget_kput_ne blankByte m b h

theorem memPut_wf {m : Memory} (a : Nat) (b : Byte) (h : Memory.wf m) : Memory.wf (memPut m a b) := kwf_kput blankByte a b h

theorem memWrite_wf {m : Memory} (a : Nat) (bs : List Byte) (h : Memory.wf m) : Memory.wf (memWrite m a bs) := by
  induction bs generalizing m a with
  | nil => exact h
  | cons b bs ih => exact ih (a + 1) (memPut_wf a b h)

theorem memPutWord_wf {m : Memory} (a n v : Nat) (h : Memory.wf m) : Memory.wf (memPutWord m a n v) := by
  induction n generalizing m a v with
  | zero => exact h
  | succ n ih => exact ih (a + 1) (v / 256) (memPut_wf a _ h)

theorem memFilter_wf {m : Memory} (f : Nat → Bool) (h : Memory.wf m) : Memory.wf (kfilter f m) := kwf_kfilter blankByte f h

/-- A write leaves every address outside the written bytes alone. -/
theorem memGet_memWrite_out (m : Memory) (a j : Nat) (bs : List Byte) (h : j < a ∨ a + bs.length ≤ j) :
    memGet (memWrite m a bs) j = memGet m j := by
  induction bs generalizing m a with
  | nil => rfl
  | cons b bs ih =>
    simp only [List.length_cons] at h
    rw [memWrite, ih _ _ (by omega), memGet_memPut_ne m b (by omega)]

/-- The bytes written are read back. -/
theorem memRead_memWrite (m : Memory) (a : Nat) (bs : List Byte) : memRead (memWrite m a bs) a bs.length = bs := by
  induction bs generalizing m a with
  | nil => rfl
  | cons b bs ih =>
    simp only [memWrite, List.length_cons, memRead]
    rw [ih, memGet_memWrite_out _ _ _ _ (by omega), memGet_memPut_same]

end Sys2Proof.Machine
end

