-- ==== Sys2Proof/Laws/Ops.lean ====
section
/-! SUPPORT. Laws/Ops.lean: what the operations over items, slots and answers do, once. -/

namespace Sys2Proof.Machine

/-! ### Items -/

theorem getP_setP (s : State) (d i n d' i' n' : Nat) (v : Int) :
    getP (setP s d i n v) d' i' n' = if objId d i n = objId d' i' n' then v else getP s d' i' n' :=
  kget_kput paramReset s.params _ _ v

@[simp] theorem getP_setP_same (s : State) (d i n : Nat) (v : Int) : getP (setP s d i n v) d i n = v := by
  simp [getP_setP]

/-- Staging replaces the value of one object only. -/
theorem stagedOf_stage (s : State) (o j : Nat) (v : Int) :
    stagedOf (stage s o v) j = if o = j then some v else stagedOf s j :=
  kget_kput noStage s.staged o j (some v)

/-! ### Slots -/

theorem slotOf_setSlot (s : State) (n j : Nat) (x : Slot) :
    slotOf (setSlot s n x) j = if n = j then x else slotOf s j :=
  kget_kput (fun _ => slotBlank) s.slots n j x

@[simp] theorem slotOf_setSlot_same (s : State) (n : Nat) (x : Slot) : slotOf (setSlot s n x) n = x := by
  simp [slotOf_setSlot]

@[simp] theorem slotOf_raiseVector (s : State) (v n : Nat) : slotOf (raiseVector s v) n = slotOf s n := by
  unfold raiseVector; split <;> first | rfl | (split <;> rfl)

/-- A message touches the pending bits or the messages sent, and nothing else. -/
theorem raiseVector_eq (s : State) (v : Nat) :
    raiseVector s v = { s with link := { s.link with pba := (raiseVector s v).link.pba, sent := (raiseVector s v).link.sent } } := by
  unfold raiseVector; split <;> first | rfl | (split <;> rfl)

@[simp] theorem raiseVector_slots (s : State) (v : Nat) : (raiseVector s v).slots = s.slots := by rw [raiseVector_eq]

/-- What writing a response changes. -/
theorem writeResponse_eq (s : State) (n : Nat) (ph : SlotPhase) (j : Job) (r : Reply) :
    writeResponse s n ph j r = { s with
      slots := (writeResponse s n ph j r).slots
      link := { s.link with pba := (writeResponse s n ph j r).link.pba, sent := (writeResponse s n ph j r).link.sent } } := by
  unfold writeResponse; simp only
  split
  · rfl
  · rw [raiseVector_slots]
    conv => lhs; rw [raiseVector_eq]
    rfl

theorem slotOf_writeResponse (s : State) (n j : Nat) (ph : SlotPhase) (w : Job) (r : Reply) :
    slotOf (writeResponse s n ph w r) j =
      if n = j then { slotOf s n with phase := ph, reply := r, ts := nowTs s, job := w, held := none } else slotOf s j := by
  unfold writeResponse; simp only
  split <;> simp [slotOf_setSlot]

/-- The items are untouched by a response. -/
theorem writeResponse_params (s : State) (n : Nat) (ph : SlotPhase) (j : Job) (r : Reply) :
    (writeResponse s n ph j r).params = s.params := by rw [writeResponse_eq]

/-! ### Answers -/

/-- With no snag active a final response is written at once. -/
theorem finish_open (s : State) (n : Nat) (r : Reply) (h : s.col.snags = []) :
    finish s n r = writeResponse s n .done .none r := by
  simp [finish, snagOf, h]

/-- What taking a request changes. -/
theorem accept_eq (s : State) (r : Req) (op : Nat) :
    accept s r op = { s with params := (accept s r op).params, slots := (accept s r op).slots } := rfl

theorem accept_params (s : State) (r : Req) (op o : Nat) (h : o ≠ objId 0x01 0 xMBX_ACCEPTED) :
    kget paramReset (accept s r op).params o = kget paramReset s.params o :=
  kget_kput_ne paramReset s.params _ (Ne.symm h)

theorem slotOf_accept (s : State) (r : Req) (op n : Nat) (h : n ≠ r.slot) : slotOf (accept s r op) n = slotOf s n := by
  unfold accept; rw [slotOf_setSlot]; simp [Ne.symm h]; rfl

/-- A request to an open mailbox runs its body on the accepted state and posts its answer. -/
theorem mbxRun_open (self : Instr) (r : Req) (op : Nat) (need : Bool) (body : State → State × Answer) (s : State)
    (h : mailboxOpen s r.slot = true) (hu : need = true → s.boot.unlocked = true) :
    mbxRun self r op need body s = post (body (accept s r op)).1 r.slot (body (accept s r op)).2 := by
  simp only [mailboxOpen, Bool.and_eq_true, Bool.not_eq_true', decide_eq_true_eq, Option.isNone_iff_eq_none] at h
  obtain ⟨⟨⟨⟨⟨⟨⟨h1, h2⟩, h3⟩, h4⟩, h5⟩, h6⟩, -⟩, -⟩ := h
  unfold mbxRun
  simp only [h5, h6, h2, Bool.false_and, Bool.not_true, Bool.false_eq_true, if_false]
  rw [show mailboxServes (accept s r op) op = true by
    rw [accept_eq]; simp [mailboxServes, h1, h3]]
  rw [show (accept s r op).boot = s.boot from rfl, h4]
  cases need
  · simp
  · simp [hu rfl]

/-- A body that ends with a final answer, and leaves slots, snags and MBX_ACCEPTED as accepting left them, answers. -/
theorem answers_of_body {c : Instr} {self : Instr} {r : Req} {op : Nat} {need : Bool} {body : State → State × Answer}
    {s s' : State} {a : Reply} (P : KMap Int) (hc : exec c s = .next (mbxRun self r op need body s))
    (h : mailboxOpen s r.slot = true) (hu : need = true → s.boot.unlocked = true)
    (hb : body (accept s r op) = ({ s' with params := P, slots := (accept s r op).slots }, .final a))
    (hp : ∀ o, o ≠ objId 0x01 0 xMBX_ACCEPTED → kget paramReset P o = kget paramReset s'.params o)
    (hs : s'.slots = s.slots) (hn : s'.col.snags = []) : Answers c r.slot s s' a := by
  have hf := finish_open { s' with params := P, slots := (accept s r op).slots } r.slot a hn
  refine ⟨_, hc, ?_, ?_, ?_, ?_⟩ <;> rw [mbxRun_open _ _ _ _ _ _ h hu, hb] <;> simp only [post] <;> rw [hf]
  · simp [answered, slotOf_writeResponse]
  · rw [writeResponse_eq]
  · intro o ho
    rw [writeResponse_params]; exact hp o ho
  · intro n hne
    rw [slotOf_writeResponse, if_neg (Ne.symm hne)]
    show kget _ (accept s r op).slots n = kget _ s'.slots n
    rw [hs]; exact slotOf_accept s r op n hne

/-- The same for a body that defers. -/
theorem defers_of_body {c : Instr} {self : Instr} {r : Req} {op : Nat} {need : Bool} {body : State → State × Answer}
    {s s' : State} {j : Job} (P : KMap Int) (hc : exec c s = .next (mbxRun self r op need body s))
    (h : mailboxOpen s r.slot = true) (hu : need = true → s.boot.unlocked = true)
    (hb : body (accept s r op) = ({ s' with params := P, slots := (accept s r op).slots }, .later j))
    (hp : ∀ o, o ≠ objId 0x01 0 xMBX_ACCEPTED → kget paramReset P o = kget paramReset s'.params o)
    (hs : s'.slots = s.slots) : Defers c r.slot s s' j := by
  refine ⟨_, hc, ?_, ?_, ?_, ?_⟩ <;> rw [mbxRun_open _ _ _ _ _ _ h hu, hb] <;> simp only [post]
  · simp [deferredFor, slotOf_writeResponse]
  · rw [writeResponse_eq]
  · intro o ho
    rw [writeResponse_params]; exact hp o ho
  · intro n hne
    rw [slotOf_writeResponse, if_neg (Ne.symm hne)]
    show kget _ (accept s r op).slots n = kget _ s'.slots n
    rw [hs]; exact slotOf_accept s r op n hne

end Sys2Proof.Machine
end

