-- ==== Sys2Proof/Laws/State.lean ====
section
/-! SUPPORT. Laws/State.lean: the fields of the state that each operation on one of its parts leaves alone, one lemma per field. -/

set_option linter.all false

namespace Sys2Proof.Machine

@[simp] theorem setP_pending (s : State) (dom ins item : Nat) (v : Int) : (setP s dom ins item v).pending = s.pending := rfl
@[simp] theorem setP_held (s : State) (dom ins item : Nat) (v : Int) : (setP s dom ins item v).held = s.held := rfl
@[simp] theorem setP_free (s : State) (dom ins item : Nat) (v : Int) : (setP s dom ins item v).free = s.free := rfl
@[simp] theorem setP_staged (s : State) (dom ins item : Nat) (v : Int) : (setP s dom ins item v).staged = s.staged := rfl
@[simp] theorem setP_slots (s : State) (dom ins item : Nat) (v : Int) : (setP s dom ins item v).slots = s.slots := rfl
@[simp] theorem setP_link (s : State) (dom ins item : Nat) (v : Int) : (setP s dom ins item v).link = s.link := rfl
@[simp] theorem setP_boot (s : State) (dom ins item : Nat) (v : Int) : (setP s dom ins item v).boot = s.boot := rfl
@[simp] theorem setP_cal (s : State) (dom ins item : Nat) (v : Int) : (setP s dom ins item v).cal = s.cal := rfl
@[simp] theorem setP_col (s : State) (dom ins item : Nat) (v : Int) : (setP s dom ins item v).col = s.col := rfl
@[simp] theorem setP_time (s : State) (dom ins item : Nat) (v : Int) : (setP s dom ins item v).time = s.time := rfl
@[simp] theorem setP_ports (s : State) (dom ins item : Nat) (v : Int) : (setP s dom ins item v).ports = s.ports := rfl
@[simp] theorem setP_cap (s : State) (dom ins item : Nat) (v : Int) : (setP s dom ins item v).cap = s.cap := rfl
@[simp] theorem setP_needle (s : State) (dom ins item : Nat) (v : Int) : (setP s dom ins item v).needle = s.needle := rfl
@[simp] theorem setP_comp (s : State) (dom ins item : Nat) (v : Int) : (setP s dom ins item v).comp = s.comp := rfl
@[simp] theorem setP_fe (s : State) (dom ins item : Nat) (v : Int) : (setP s dom ins item v).fe = s.fe := rfl
@[simp] theorem setP_loops (s : State) (dom ins item : Nat) (v : Int) : (setP s dom ins item v).loops = s.loops := rfl
@[simp] theorem setP_src (s : State) (dom ins item : Nat) (v : Int) : (setP s dom ins item v).src = s.src := rfl
@[simp] theorem setP_purl (s : State) (dom ins item : Nat) (v : Int) : (setP s dom ins item v).purl = s.purl := rfl
@[simp] theorem setP_pair (s : State) (dom ins item : Nat) (v : Int) : (setP s dom ins item v).pair = s.pair := rfl
@[simp] theorem setP_mem (s : State) (dom ins item : Nat) (v : Int) : (setP s dom ins item v).mem = s.mem := rfl
@[simp] theorem setP_dram (s : State) (dom ins item : Nat) (v : Int) : (setP s dom ins item v).dram = s.dram := rfl

@[simp] theorem bumpP_pending (s : State) (dom ins item : Nat) : (bumpP s dom ins item).pending = s.pending := rfl
@[simp] theorem bumpP_held (s : State) (dom ins item : Nat) : (bumpP s dom ins item).held = s.held := rfl
@[simp] theorem bumpP_free (s : State) (dom ins item : Nat) : (bumpP s dom ins item).free = s.free := rfl
@[simp] theorem bumpP_staged (s : State) (dom ins item : Nat) : (bumpP s dom ins item).staged = s.staged := rfl
@[simp] theorem bumpP_slots (s : State) (dom ins item : Nat) : (bumpP s dom ins item).slots = s.slots := rfl
@[simp] theorem bumpP_link (s : State) (dom ins item : Nat) : (bumpP s dom ins item).link = s.link := rfl
@[simp] theorem bumpP_boot (s : State) (dom ins item : Nat) : (bumpP s dom ins item).boot = s.boot := rfl
@[simp] theorem bumpP_cal (s : State) (dom ins item : Nat) : (bumpP s dom ins item).cal = s.cal := rfl
@[simp] theorem bumpP_col (s : State) (dom ins item : Nat) : (bumpP s dom ins item).col = s.col := rfl
@[simp] theorem bumpP_time (s : State) (dom ins item : Nat) : (bumpP s dom ins item).time = s.time := rfl
@[simp] theorem bumpP_ports (s : State) (dom ins item : Nat) : (bumpP s dom ins item).ports = s.ports := rfl
@[simp] theorem bumpP_cap (s : State) (dom ins item : Nat) : (bumpP s dom ins item).cap = s.cap := rfl
@[simp] theorem bumpP_needle (s : State) (dom ins item : Nat) : (bumpP s dom ins item).needle = s.needle := rfl
@[simp] theorem bumpP_comp (s : State) (dom ins item : Nat) : (bumpP s dom ins item).comp = s.comp := rfl
@[simp] theorem bumpP_fe (s : State) (dom ins item : Nat) : (bumpP s dom ins item).fe = s.fe := rfl
@[simp] theorem bumpP_loops (s : State) (dom ins item : Nat) : (bumpP s dom ins item).loops = s.loops := rfl
@[simp] theorem bumpP_src (s : State) (dom ins item : Nat) : (bumpP s dom ins item).src = s.src := rfl
@[simp] theorem bumpP_purl (s : State) (dom ins item : Nat) : (bumpP s dom ins item).purl = s.purl := rfl
@[simp] theorem bumpP_pair (s : State) (dom ins item : Nat) : (bumpP s dom ins item).pair = s.pair := rfl
@[simp] theorem bumpP_mem (s : State) (dom ins item : Nat) : (bumpP s dom ins item).mem = s.mem := rfl
@[simp] theorem bumpP_dram (s : State) (dom ins item : Nat) : (bumpP s dom ins item).dram = s.dram := rfl

@[simp] theorem addP_pending (s : State) (dom ins item n : Nat) : (addP s dom ins item n).pending = s.pending := rfl
@[simp] theorem addP_held (s : State) (dom ins item n : Nat) : (addP s dom ins item n).held = s.held := rfl
@[simp] theorem addP_free (s : State) (dom ins item n : Nat) : (addP s dom ins item n).free = s.free := rfl
@[simp] theorem addP_staged (s : State) (dom ins item n : Nat) : (addP s dom ins item n).staged = s.staged := rfl
@[simp] theorem addP_slots (s : State) (dom ins item n : Nat) : (addP s dom ins item n).slots = s.slots := rfl
@[simp] theorem addP_link (s : State) (dom ins item n : Nat) : (addP s dom ins item n).link = s.link := rfl
@[simp] theorem addP_boot (s : State) (dom ins item n : Nat) : (addP s dom ins item n).boot = s.boot := rfl
@[simp] theorem addP_cal (s : State) (dom ins item n : Nat) : (addP s dom ins item n).cal = s.cal := rfl
@[simp] theorem addP_col (s : State) (dom ins item n : Nat) : (addP s dom ins item n).col = s.col := rfl
@[simp] theorem addP_time (s : State) (dom ins item n : Nat) : (addP s dom ins item n).time = s.time := rfl
@[simp] theorem addP_ports (s : State) (dom ins item n : Nat) : (addP s dom ins item n).ports = s.ports := rfl
@[simp] theorem addP_cap (s : State) (dom ins item n : Nat) : (addP s dom ins item n).cap = s.cap := rfl
@[simp] theorem addP_needle (s : State) (dom ins item n : Nat) : (addP s dom ins item n).needle = s.needle := rfl
@[simp] theorem addP_comp (s : State) (dom ins item n : Nat) : (addP s dom ins item n).comp = s.comp := rfl
@[simp] theorem addP_fe (s : State) (dom ins item n : Nat) : (addP s dom ins item n).fe = s.fe := rfl
@[simp] theorem addP_loops (s : State) (dom ins item n : Nat) : (addP s dom ins item n).loops = s.loops := rfl
@[simp] theorem addP_src (s : State) (dom ins item n : Nat) : (addP s dom ins item n).src = s.src := rfl
@[simp] theorem addP_purl (s : State) (dom ins item n : Nat) : (addP s dom ins item n).purl = s.purl := rfl
@[simp] theorem addP_pair (s : State) (dom ins item n : Nat) : (addP s dom ins item n).pair = s.pair := rfl
@[simp] theorem addP_mem (s : State) (dom ins item n : Nat) : (addP s dom ins item n).mem = s.mem := rfl
@[simp] theorem addP_dram (s : State) (dom ins item n : Nat) : (addP s dom ins item n).dram = s.dram := rfl

@[simp] theorem stage_pending (s : State) (o : Nat) (v : Int) : (stage s o v).pending = s.pending := rfl
@[simp] theorem stage_held (s : State) (o : Nat) (v : Int) : (stage s o v).held = s.held := rfl
@[simp] theorem stage_free (s : State) (o : Nat) (v : Int) : (stage s o v).free = s.free := rfl
@[simp] theorem stage_params (s : State) (o : Nat) (v : Int) : (stage s o v).params = s.params := rfl
@[simp] theorem stage_slots (s : State) (o : Nat) (v : Int) : (stage s o v).slots = s.slots := rfl
@[simp] theorem stage_link (s : State) (o : Nat) (v : Int) : (stage s o v).link = s.link := rfl
@[simp] theorem stage_boot (s : State) (o : Nat) (v : Int) : (stage s o v).boot = s.boot := rfl
@[simp] theorem stage_cal (s : State) (o : Nat) (v : Int) : (stage s o v).cal = s.cal := rfl
@[simp] theorem stage_col (s : State) (o : Nat) (v : Int) : (stage s o v).col = s.col := rfl
@[simp] theorem stage_time (s : State) (o : Nat) (v : Int) : (stage s o v).time = s.time := rfl
@[simp] theorem stage_ports (s : State) (o : Nat) (v : Int) : (stage s o v).ports = s.ports := rfl
@[simp] theorem stage_cap (s : State) (o : Nat) (v : Int) : (stage s o v).cap = s.cap := rfl
@[simp] theorem stage_needle (s : State) (o : Nat) (v : Int) : (stage s o v).needle = s.needle := rfl
@[simp] theorem stage_comp (s : State) (o : Nat) (v : Int) : (stage s o v).comp = s.comp := rfl
@[simp] theorem stage_fe (s : State) (o : Nat) (v : Int) : (stage s o v).fe = s.fe := rfl
@[simp] theorem stage_loops (s : State) (o : Nat) (v : Int) : (stage s o v).loops = s.loops := rfl
@[simp] theorem stage_src (s : State) (o : Nat) (v : Int) : (stage s o v).src = s.src := rfl
@[simp] theorem stage_purl (s : State) (o : Nat) (v : Int) : (stage s o v).purl = s.purl := rfl
@[simp] theorem stage_pair (s : State) (o : Nat) (v : Int) : (stage s o v).pair = s.pair := rfl
@[simp] theorem stage_mem (s : State) (o : Nat) (v : Int) : (stage s o v).mem = s.mem := rfl
@[simp] theorem stage_dram (s : State) (o : Nat) (v : Int) : (stage s o v).dram = s.dram := rfl

@[simp] theorem unstage_pending (s : State) (f : Nat → Bool) : (unstage s f).pending = s.pending := rfl
@[simp] theorem unstage_held (s : State) (f : Nat → Bool) : (unstage s f).held = s.held := rfl
@[simp] theorem unstage_free (s : State) (f : Nat → Bool) : (unstage s f).free = s.free := rfl
@[simp] theorem unstage_params (s : State) (f : Nat → Bool) : (unstage s f).params = s.params := rfl
@[simp] theorem unstage_slots (s : State) (f : Nat → Bool) : (unstage s f).slots = s.slots := rfl
@[simp] theorem unstage_link (s : State) (f : Nat → Bool) : (unstage s f).link = s.link := rfl
@[simp] theorem unstage_boot (s : State) (f : Nat → Bool) : (unstage s f).boot = s.boot := rfl
@[simp] theorem unstage_cal (s : State) (f : Nat → Bool) : (unstage s f).cal = s.cal := rfl
@[simp] theorem unstage_col (s : State) (f : Nat → Bool) : (unstage s f).col = s.col := rfl
@[simp] theorem unstage_time (s : State) (f : Nat → Bool) : (unstage s f).time = s.time := rfl
@[simp] theorem unstage_ports (s : State) (f : Nat → Bool) : (unstage s f).ports = s.ports := rfl
@[simp] theorem unstage_cap (s : State) (f : Nat → Bool) : (unstage s f).cap = s.cap := rfl
@[simp] theorem unstage_needle (s : State) (f : Nat → Bool) : (unstage s f).needle = s.needle := rfl
@[simp] theorem unstage_comp (s : State) (f : Nat → Bool) : (unstage s f).comp = s.comp := rfl
@[simp] theorem unstage_fe (s : State) (f : Nat → Bool) : (unstage s f).fe = s.fe := rfl
@[simp] theorem unstage_loops (s : State) (f : Nat → Bool) : (unstage s f).loops = s.loops := rfl
@[simp] theorem unstage_src (s : State) (f : Nat → Bool) : (unstage s f).src = s.src := rfl
@[simp] theorem unstage_purl (s : State) (f : Nat → Bool) : (unstage s f).purl = s.purl := rfl
@[simp] theorem unstage_pair (s : State) (f : Nat → Bool) : (unstage s f).pair = s.pair := rfl
@[simp] theorem unstage_mem (s : State) (f : Nat → Bool) : (unstage s f).mem = s.mem := rfl
@[simp] theorem unstage_dram (s : State) (f : Nat → Bool) : (unstage s f).dram = s.dram := rfl

@[simp] theorem resetItems_pending (s : State) (f : Nat → Bool) : (resetItems s f).pending = s.pending := rfl
@[simp] theorem resetItems_held (s : State) (f : Nat → Bool) : (resetItems s f).held = s.held := rfl
@[simp] theorem resetItems_free (s : State) (f : Nat → Bool) : (resetItems s f).free = s.free := rfl
@[simp] theorem resetItems_staged (s : State) (f : Nat → Bool) : (resetItems s f).staged = s.staged := rfl
@[simp] theorem resetItems_slots (s : State) (f : Nat → Bool) : (resetItems s f).slots = s.slots := rfl
@[simp] theorem resetItems_link (s : State) (f : Nat → Bool) : (resetItems s f).link = s.link := rfl
@[simp] theorem resetItems_boot (s : State) (f : Nat → Bool) : (resetItems s f).boot = s.boot := rfl
@[simp] theorem resetItems_cal (s : State) (f : Nat → Bool) : (resetItems s f).cal = s.cal := rfl
@[simp] theorem resetItems_col (s : State) (f : Nat → Bool) : (resetItems s f).col = s.col := rfl
@[simp] theorem resetItems_time (s : State) (f : Nat → Bool) : (resetItems s f).time = s.time := rfl
@[simp] theorem resetItems_ports (s : State) (f : Nat → Bool) : (resetItems s f).ports = s.ports := rfl
@[simp] theorem resetItems_cap (s : State) (f : Nat → Bool) : (resetItems s f).cap = s.cap := rfl
@[simp] theorem resetItems_needle (s : State) (f : Nat → Bool) : (resetItems s f).needle = s.needle := rfl
@[simp] theorem resetItems_comp (s : State) (f : Nat → Bool) : (resetItems s f).comp = s.comp := rfl
@[simp] theorem resetItems_fe (s : State) (f : Nat → Bool) : (resetItems s f).fe = s.fe := rfl
@[simp] theorem resetItems_loops (s : State) (f : Nat → Bool) : (resetItems s f).loops = s.loops := rfl
@[simp] theorem resetItems_src (s : State) (f : Nat → Bool) : (resetItems s f).src = s.src := rfl
@[simp] theorem resetItems_purl (s : State) (f : Nat → Bool) : (resetItems s f).purl = s.purl := rfl
@[simp] theorem resetItems_pair (s : State) (f : Nat → Bool) : (resetItems s f).pair = s.pair := rfl
@[simp] theorem resetItems_mem (s : State) (f : Nat → Bool) : (resetItems s f).mem = s.mem := rfl
@[simp] theorem resetItems_dram (s : State) (f : Nat → Bool) : (resetItems s f).dram = s.dram := rfl

@[simp] theorem setSlot_pending (s : State) (n : Nat) (x : Slot) : (setSlot s n x).pending = s.pending := rfl
@[simp] theorem setSlot_held (s : State) (n : Nat) (x : Slot) : (setSlot s n x).held = s.held := rfl
@[simp] theorem setSlot_free (s : State) (n : Nat) (x : Slot) : (setSlot s n x).free = s.free := rfl
@[simp] theorem setSlot_params (s : State) (n : Nat) (x : Slot) : (setSlot s n x).params = s.params := rfl
@[simp] theorem setSlot_staged (s : State) (n : Nat) (x : Slot) : (setSlot s n x).staged = s.staged := rfl
@[simp] theorem setSlot_link (s : State) (n : Nat) (x : Slot) : (setSlot s n x).link = s.link := rfl
@[simp] theorem setSlot_boot (s : State) (n : Nat) (x : Slot) : (setSlot s n x).boot = s.boot := rfl
@[simp] theorem setSlot_cal (s : State) (n : Nat) (x : Slot) : (setSlot s n x).cal = s.cal := rfl
@[simp] theorem setSlot_col (s : State) (n : Nat) (x : Slot) : (setSlot s n x).col = s.col := rfl
@[simp] theorem setSlot_time (s : State) (n : Nat) (x : Slot) : (setSlot s n x).time = s.time := rfl
@[simp] theorem setSlot_ports (s : State) (n : Nat) (x : Slot) : (setSlot s n x).ports = s.ports := rfl
@[simp] theorem setSlot_cap (s : State) (n : Nat) (x : Slot) : (setSlot s n x).cap = s.cap := rfl
@[simp] theorem setSlot_needle (s : State) (n : Nat) (x : Slot) : (setSlot s n x).needle = s.needle := rfl
@[simp] theorem setSlot_comp (s : State) (n : Nat) (x : Slot) : (setSlot s n x).comp = s.comp := rfl
@[simp] theorem setSlot_fe (s : State) (n : Nat) (x : Slot) : (setSlot s n x).fe = s.fe := rfl
@[simp] theorem setSlot_loops (s : State) (n : Nat) (x : Slot) : (setSlot s n x).loops = s.loops := rfl
@[simp] theorem setSlot_src (s : State) (n : Nat) (x : Slot) : (setSlot s n x).src = s.src := rfl
@[simp] theorem setSlot_purl (s : State) (n : Nat) (x : Slot) : (setSlot s n x).purl = s.purl := rfl
@[simp] theorem setSlot_pair (s : State) (n : Nat) (x : Slot) : (setSlot s n x).pair = s.pair := rfl
@[simp] theorem setSlot_mem (s : State) (n : Nat) (x : Slot) : (setSlot s n x).mem = s.mem := rfl
@[simp] theorem setSlot_dram (s : State) (n : Nat) (x : Slot) : (setSlot s n x).dram = s.dram := rfl

@[simp] theorem setRing_pending (s : State) (r : Nat) (x : Ring) : (setRing s r x).pending = s.pending := rfl
@[simp] theorem setRing_held (s : State) (r : Nat) (x : Ring) : (setRing s r x).held = s.held := rfl
@[simp] theorem setRing_free (s : State) (r : Nat) (x : Ring) : (setRing s r x).free = s.free := rfl
@[simp] theorem setRing_params (s : State) (r : Nat) (x : Ring) : (setRing s r x).params = s.params := rfl
@[simp] theorem setRing_staged (s : State) (r : Nat) (x : Ring) : (setRing s r x).staged = s.staged := rfl
@[simp] theorem setRing_slots (s : State) (r : Nat) (x : Ring) : (setRing s r x).slots = s.slots := rfl
@[simp] theorem setRing_boot (s : State) (r : Nat) (x : Ring) : (setRing s r x).boot = s.boot := rfl
@[simp] theorem setRing_cal (s : State) (r : Nat) (x : Ring) : (setRing s r x).cal = s.cal := rfl
@[simp] theorem setRing_col (s : State) (r : Nat) (x : Ring) : (setRing s r x).col = s.col := rfl
@[simp] theorem setRing_time (s : State) (r : Nat) (x : Ring) : (setRing s r x).time = s.time := rfl
@[simp] theorem setRing_ports (s : State) (r : Nat) (x : Ring) : (setRing s r x).ports = s.ports := rfl
@[simp] theorem setRing_cap (s : State) (r : Nat) (x : Ring) : (setRing s r x).cap = s.cap := rfl
@[simp] theorem setRing_needle (s : State) (r : Nat) (x : Ring) : (setRing s r x).needle = s.needle := rfl
@[simp] theorem setRing_comp (s : State) (r : Nat) (x : Ring) : (setRing s r x).comp = s.comp := rfl
@[simp] theorem setRing_fe (s : State) (r : Nat) (x : Ring) : (setRing s r x).fe = s.fe := rfl
@[simp] theorem setRing_loops (s : State) (r : Nat) (x : Ring) : (setRing s r x).loops = s.loops := rfl
@[simp] theorem setRing_src (s : State) (r : Nat) (x : Ring) : (setRing s r x).src = s.src := rfl
@[simp] theorem setRing_purl (s : State) (r : Nat) (x : Ring) : (setRing s r x).purl = s.purl := rfl
@[simp] theorem setRing_pair (s : State) (r : Nat) (x : Ring) : (setRing s r x).pair = s.pair := rfl
@[simp] theorem setRing_mem (s : State) (r : Nat) (x : Ring) : (setRing s r x).mem = s.mem := rfl
@[simp] theorem setRing_dram (s : State) (r : Nat) (x : Ring) : (setRing s r x).dram = s.dram := rfl

@[simp] theorem setSrcRec_pending (s : State) (src : Nat) (x : Source) : (setSrcRec s src x).pending = s.pending := rfl
@[simp] theorem setSrcRec_held (s : State) (src : Nat) (x : Source) : (setSrcRec s src x).held = s.held := rfl
@[simp] theorem setSrcRec_free (s : State) (src : Nat) (x : Source) : (setSrcRec s src x).free = s.free := rfl
@[simp] theorem setSrcRec_params (s : State) (src : Nat) (x : Source) : (setSrcRec s src x).params = s.params := rfl
@[simp] theorem setSrcRec_staged (s : State) (src : Nat) (x : Source) : (setSrcRec s src x).staged = s.staged := rfl
@[simp] theorem setSrcRec_slots (s : State) (src : Nat) (x : Source) : (setSrcRec s src x).slots = s.slots := rfl
@[simp] theorem setSrcRec_link (s : State) (src : Nat) (x : Source) : (setSrcRec s src x).link = s.link := rfl
@[simp] theorem setSrcRec_boot (s : State) (src : Nat) (x : Source) : (setSrcRec s src x).boot = s.boot := rfl
@[simp] theorem setSrcRec_cal (s : State) (src : Nat) (x : Source) : (setSrcRec s src x).cal = s.cal := rfl
@[simp] theorem setSrcRec_time (s : State) (src : Nat) (x : Source) : (setSrcRec s src x).time = s.time := rfl
@[simp] theorem setSrcRec_ports (s : State) (src : Nat) (x : Source) : (setSrcRec s src x).ports = s.ports := rfl
@[simp] theorem setSrcRec_cap (s : State) (src : Nat) (x : Source) : (setSrcRec s src x).cap = s.cap := rfl
@[simp] theorem setSrcRec_needle (s : State) (src : Nat) (x : Source) : (setSrcRec s src x).needle = s.needle := rfl
@[simp] theorem setSrcRec_comp (s : State) (src : Nat) (x : Source) : (setSrcRec s src x).comp = s.comp := rfl
@[simp] theorem setSrcRec_fe (s : State) (src : Nat) (x : Source) : (setSrcRec s src x).fe = s.fe := rfl
@[simp] theorem setSrcRec_loops (s : State) (src : Nat) (x : Source) : (setSrcRec s src x).loops = s.loops := rfl
@[simp] theorem setSrcRec_src (s : State) (src : Nat) (x : Source) : (setSrcRec s src x).src = s.src := rfl
@[simp] theorem setSrcRec_purl (s : State) (src : Nat) (x : Source) : (setSrcRec s src x).purl = s.purl := rfl
@[simp] theorem setSrcRec_pair (s : State) (src : Nat) (x : Source) : (setSrcRec s src x).pair = s.pair := rfl
@[simp] theorem setSrcRec_mem (s : State) (src : Nat) (x : Source) : (setSrcRec s src x).mem = s.mem := rfl
@[simp] theorem setSrcRec_dram (s : State) (src : Nat) (x : Source) : (setSrcRec s src x).dram = s.dram := rfl

@[simp] theorem setSk_pending (s : State) (k : Nat) (x : Skein) : (setSk s k x).pending = s.pending := rfl
@[simp] theorem setSk_held (s : State) (k : Nat) (x : Skein) : (setSk s k x).held = s.held := rfl
@[simp] theorem setSk_free (s : State) (k : Nat) (x : Skein) : (setSk s k x).free = s.free := rfl
@[simp] theorem setSk_params (s : State) (k : Nat) (x : Skein) : (setSk s k x).params = s.params := rfl
@[simp] theorem setSk_staged (s : State) (k : Nat) (x : Skein) : (setSk s k x).staged = s.staged := rfl
@[simp] theorem setSk_slots (s : State) (k : Nat) (x : Skein) : (setSk s k x).slots = s.slots := rfl
@[simp] theorem setSk_link (s : State) (k : Nat) (x : Skein) : (setSk s k x).link = s.link := rfl
@[simp] theorem setSk_boot (s : State) (k : Nat) (x : Skein) : (setSk s k x).boot = s.boot := rfl
@[simp] theorem setSk_cal (s : State) (k : Nat) (x : Skein) : (setSk s k x).cal = s.cal := rfl
@[simp] theorem setSk_col (s : State) (k : Nat) (x : Skein) : (setSk s k x).col = s.col := rfl
@[simp] theorem setSk_time (s : State) (k : Nat) (x : Skein) : (setSk s k x).time = s.time := rfl
@[simp] theorem setSk_ports (s : State) (k : Nat) (x : Skein) : (setSk s k x).ports = s.ports := rfl
@[simp] theorem setSk_needle (s : State) (k : Nat) (x : Skein) : (setSk s k x).needle = s.needle := rfl
@[simp] theorem setSk_comp (s : State) (k : Nat) (x : Skein) : (setSk s k x).comp = s.comp := rfl
@[simp] theorem setSk_fe (s : State) (k : Nat) (x : Skein) : (setSk s k x).fe = s.fe := rfl
@[simp] theorem setSk_loops (s : State) (k : Nat) (x : Skein) : (setSk s k x).loops = s.loops := rfl
@[simp] theorem setSk_src (s : State) (k : Nat) (x : Skein) : (setSk s k x).src = s.src := rfl
@[simp] theorem setSk_purl (s : State) (k : Nat) (x : Skein) : (setSk s k x).purl = s.purl := rfl
@[simp] theorem setSk_pair (s : State) (k : Nat) (x : Skein) : (setSk s k x).pair = s.pair := rfl
@[simp] theorem setSk_mem (s : State) (k : Nat) (x : Skein) : (setSk s k x).mem = s.mem := rfl
@[simp] theorem setSk_dram (s : State) (k : Nat) (x : Skein) : (setSk s k x).dram = s.dram := rfl

@[simp] theorem modSk_pending (s : State) (k : Nat) (f : Skein → Skein) : (modSk s k f).pending = s.pending := rfl
@[simp] theorem modSk_held (s : State) (k : Nat) (f : Skein → Skein) : (modSk s k f).held = s.held := rfl
@[simp] theorem modSk_free (s : State) (k : Nat) (f : Skein → Skein) : (modSk s k f).free = s.free := rfl
@[simp] theorem modSk_params (s : State) (k : Nat) (f : Skein → Skein) : (modSk s k f).params = s.params := rfl
@[simp] theorem modSk_staged (s : State) (k : Nat) (f : Skein → Skein) : (modSk s k f).staged = s.staged := rfl
@[simp] theorem modSk_slots (s : State) (k : Nat) (f : Skein → Skein) : (modSk s k f).slots = s.slots := rfl
@[simp] theorem modSk_link (s : State) (k : Nat) (f : Skein → Skein) : (modSk s k f).link = s.link := rfl
@[simp] theorem modSk_boot (s : State) (k : Nat) (f : Skein → Skein) : (modSk s k f).boot = s.boot := rfl
@[simp] theorem modSk_cal (s : State) (k : Nat) (f : Skein → Skein) : (modSk s k f).cal = s.cal := rfl
@[simp] theorem modSk_col (s : State) (k : Nat) (f : Skein → Skein) : (modSk s k f).col = s.col := rfl
@[simp] theorem modSk_time (s : State) (k : Nat) (f : Skein → Skein) : (modSk s k f).time = s.time := rfl
@[simp] theorem modSk_ports (s : State) (k : Nat) (f : Skein → Skein) : (modSk s k f).ports = s.ports := rfl
@[simp] theorem modSk_needle (s : State) (k : Nat) (f : Skein → Skein) : (modSk s k f).needle = s.needle := rfl
@[simp] theorem modSk_comp (s : State) (k : Nat) (f : Skein → Skein) : (modSk s k f).comp = s.comp := rfl
@[simp] theorem modSk_fe (s : State) (k : Nat) (f : Skein → Skein) : (modSk s k f).fe = s.fe := rfl
@[simp] theorem modSk_loops (s : State) (k : Nat) (f : Skein → Skein) : (modSk s k f).loops = s.loops := rfl
@[simp] theorem modSk_src (s : State) (k : Nat) (f : Skein → Skein) : (modSk s k f).src = s.src := rfl
@[simp] theorem modSk_purl (s : State) (k : Nat) (f : Skein → Skein) : (modSk s k f).purl = s.purl := rfl
@[simp] theorem modSk_pair (s : State) (k : Nat) (f : Skein → Skein) : (modSk s k f).pair = s.pair := rfl
@[simp] theorem modSk_mem (s : State) (k : Nat) (f : Skein → Skein) : (modSk s k f).mem = s.mem := rfl
@[simp] theorem modSk_dram (s : State) (k : Nat) (f : Skein → Skein) : (modSk s k f).dram = s.dram := rfl

@[simp] theorem setTdc_pending (s : State) (c : Nat) (x : TdcChan) : (setTdc s c x).pending = s.pending := rfl
@[simp] theorem setTdc_held (s : State) (c : Nat) (x : TdcChan) : (setTdc s c x).held = s.held := rfl
@[simp] theorem setTdc_free (s : State) (c : Nat) (x : TdcChan) : (setTdc s c x).free = s.free := rfl
@[simp] theorem setTdc_params (s : State) (c : Nat) (x : TdcChan) : (setTdc s c x).params = s.params := rfl
@[simp] theorem setTdc_staged (s : State) (c : Nat) (x : TdcChan) : (setTdc s c x).staged = s.staged := rfl
@[simp] theorem setTdc_slots (s : State) (c : Nat) (x : TdcChan) : (setTdc s c x).slots = s.slots := rfl
@[simp] theorem setTdc_link (s : State) (c : Nat) (x : TdcChan) : (setTdc s c x).link = s.link := rfl
@[simp] theorem setTdc_boot (s : State) (c : Nat) (x : TdcChan) : (setTdc s c x).boot = s.boot := rfl
@[simp] theorem setTdc_cal (s : State) (c : Nat) (x : TdcChan) : (setTdc s c x).cal = s.cal := rfl
@[simp] theorem setTdc_col (s : State) (c : Nat) (x : TdcChan) : (setTdc s c x).col = s.col := rfl
@[simp] theorem setTdc_ports (s : State) (c : Nat) (x : TdcChan) : (setTdc s c x).ports = s.ports := rfl
@[simp] theorem setTdc_cap (s : State) (c : Nat) (x : TdcChan) : (setTdc s c x).cap = s.cap := rfl
@[simp] theorem setTdc_needle (s : State) (c : Nat) (x : TdcChan) : (setTdc s c x).needle = s.needle := rfl
@[simp] theorem setTdc_comp (s : State) (c : Nat) (x : TdcChan) : (setTdc s c x).comp = s.comp := rfl
@[simp] theorem setTdc_fe (s : State) (c : Nat) (x : TdcChan) : (setTdc s c x).fe = s.fe := rfl
@[simp] theorem setTdc_loops (s : State) (c : Nat) (x : TdcChan) : (setTdc s c x).loops = s.loops := rfl
@[simp] theorem setTdc_src (s : State) (c : Nat) (x : TdcChan) : (setTdc s c x).src = s.src := rfl
@[simp] theorem setTdc_purl (s : State) (c : Nat) (x : TdcChan) : (setTdc s c x).purl = s.purl := rfl
@[simp] theorem setTdc_pair (s : State) (c : Nat) (x : TdcChan) : (setTdc s c x).pair = s.pair := rfl
@[simp] theorem setTdc_mem (s : State) (c : Nat) (x : TdcChan) : (setTdc s c x).mem = s.mem := rfl
@[simp] theorem setTdc_dram (s : State) (c : Nat) (x : TdcChan) : (setTdc s c x).dram = s.dram := rfl

@[simp] theorem setZone_pending (s : State) (z : Nat) (x : Zone) : (setZone s z x).pending = s.pending := rfl
@[simp] theorem setZone_held (s : State) (z : Nat) (x : Zone) : (setZone s z x).held = s.held := rfl
@[simp] theorem setZone_free (s : State) (z : Nat) (x : Zone) : (setZone s z x).free = s.free := rfl
@[simp] theorem setZone_params (s : State) (z : Nat) (x : Zone) : (setZone s z x).params = s.params := rfl
@[simp] theorem setZone_staged (s : State) (z : Nat) (x : Zone) : (setZone s z x).staged = s.staged := rfl
@[simp] theorem setZone_slots (s : State) (z : Nat) (x : Zone) : (setZone s z x).slots = s.slots := rfl
@[simp] theorem setZone_link (s : State) (z : Nat) (x : Zone) : (setZone s z x).link = s.link := rfl
@[simp] theorem setZone_boot (s : State) (z : Nat) (x : Zone) : (setZone s z x).boot = s.boot := rfl
@[simp] theorem setZone_cal (s : State) (z : Nat) (x : Zone) : (setZone s z x).cal = s.cal := rfl
@[simp] theorem setZone_col (s : State) (z : Nat) (x : Zone) : (setZone s z x).col = s.col := rfl
@[simp] theorem setZone_time (s : State) (z : Nat) (x : Zone) : (setZone s z x).time = s.time := rfl
@[simp] theorem setZone_ports (s : State) (z : Nat) (x : Zone) : (setZone s z x).ports = s.ports := rfl
@[simp] theorem setZone_needle (s : State) (z : Nat) (x : Zone) : (setZone s z x).needle = s.needle := rfl
@[simp] theorem setZone_comp (s : State) (z : Nat) (x : Zone) : (setZone s z x).comp = s.comp := rfl
@[simp] theorem setZone_fe (s : State) (z : Nat) (x : Zone) : (setZone s z x).fe = s.fe := rfl
@[simp] theorem setZone_loops (s : State) (z : Nat) (x : Zone) : (setZone s z x).loops = s.loops := rfl
@[simp] theorem setZone_src (s : State) (z : Nat) (x : Zone) : (setZone s z x).src = s.src := rfl
@[simp] theorem setZone_purl (s : State) (z : Nat) (x : Zone) : (setZone s z x).purl = s.purl := rfl
@[simp] theorem setZone_pair (s : State) (z : Nat) (x : Zone) : (setZone s z x).pair = s.pair := rfl
@[simp] theorem setZone_mem (s : State) (z : Nat) (x : Zone) : (setZone s z x).mem = s.mem := rfl
@[simp] theorem setZone_dram (s : State) (z : Nat) (x : Zone) : (setZone s z x).dram = s.dram := rfl

@[simp] theorem modZone_pending (s : State) (z : Nat) (f : Zone → Zone) : (modZone s z f).pending = s.pending := rfl
@[simp] theorem modZone_held (s : State) (z : Nat) (f : Zone → Zone) : (modZone s z f).held = s.held := rfl
@[simp] theorem modZone_free (s : State) (z : Nat) (f : Zone → Zone) : (modZone s z f).free = s.free := rfl
@[simp] theorem modZone_params (s : State) (z : Nat) (f : Zone → Zone) : (modZone s z f).params = s.params := rfl
@[simp] theorem modZone_staged (s : State) (z : Nat) (f : Zone → Zone) : (modZone s z f).staged = s.staged := rfl
@[simp] theorem modZone_slots (s : State) (z : Nat) (f : Zone → Zone) : (modZone s z f).slots = s.slots := rfl
@[simp] theorem modZone_link (s : State) (z : Nat) (f : Zone → Zone) : (modZone s z f).link = s.link := rfl
@[simp] theorem modZone_boot (s : State) (z : Nat) (f : Zone → Zone) : (modZone s z f).boot = s.boot := rfl
@[simp] theorem modZone_cal (s : State) (z : Nat) (f : Zone → Zone) : (modZone s z f).cal = s.cal := rfl
@[simp] theorem modZone_col (s : State) (z : Nat) (f : Zone → Zone) : (modZone s z f).col = s.col := rfl
@[simp] theorem modZone_time (s : State) (z : Nat) (f : Zone → Zone) : (modZone s z f).time = s.time := rfl
@[simp] theorem modZone_ports (s : State) (z : Nat) (f : Zone → Zone) : (modZone s z f).ports = s.ports := rfl
@[simp] theorem modZone_needle (s : State) (z : Nat) (f : Zone → Zone) : (modZone s z f).needle = s.needle := rfl
@[simp] theorem modZone_comp (s : State) (z : Nat) (f : Zone → Zone) : (modZone s z f).comp = s.comp := rfl
@[simp] theorem modZone_fe (s : State) (z : Nat) (f : Zone → Zone) : (modZone s z f).fe = s.fe := rfl
@[simp] theorem modZone_loops (s : State) (z : Nat) (f : Zone → Zone) : (modZone s z f).loops = s.loops := rfl
@[simp] theorem modZone_src (s : State) (z : Nat) (f : Zone → Zone) : (modZone s z f).src = s.src := rfl
@[simp] theorem modZone_purl (s : State) (z : Nat) (f : Zone → Zone) : (modZone s z f).purl = s.purl := rfl
@[simp] theorem modZone_pair (s : State) (z : Nat) (f : Zone → Zone) : (modZone s z f).pair = s.pair := rfl
@[simp] theorem modZone_mem (s : State) (z : Nat) (f : Zone → Zone) : (modZone s z f).mem = s.mem := rfl
@[simp] theorem modZone_dram (s : State) (z : Nat) (f : Zone → Zone) : (modZone s z f).dram = s.dram := rfl

@[simp] theorem setPort_pending (s : State) (p : Nat) (x : Port) : (setPort s p x).pending = s.pending := rfl
@[simp] theorem setPort_held (s : State) (p : Nat) (x : Port) : (setPort s p x).held = s.held := rfl
@[simp] theorem setPort_free (s : State) (p : Nat) (x : Port) : (setPort s p x).free = s.free := rfl
@[simp] theorem setPort_params (s : State) (p : Nat) (x : Port) : (setPort s p x).params = s.params := rfl
@[simp] theorem setPort_staged (s : State) (p : Nat) (x : Port) : (setPort s p x).staged = s.staged := rfl
@[simp] theorem setPort_slots (s : State) (p : Nat) (x : Port) : (setPort s p x).slots = s.slots := rfl
@[simp] theorem setPort_link (s : State) (p : Nat) (x : Port) : (setPort s p x).link = s.link := rfl
@[simp] theorem setPort_boot (s : State) (p : Nat) (x : Port) : (setPort s p x).boot = s.boot := rfl
@[simp] theorem setPort_cal (s : State) (p : Nat) (x : Port) : (setPort s p x).cal = s.cal := rfl
@[simp] theorem setPort_col (s : State) (p : Nat) (x : Port) : (setPort s p x).col = s.col := rfl
@[simp] theorem setPort_time (s : State) (p : Nat) (x : Port) : (setPort s p x).time = s.time := rfl
@[simp] theorem setPort_cap (s : State) (p : Nat) (x : Port) : (setPort s p x).cap = s.cap := rfl
@[simp] theorem setPort_needle (s : State) (p : Nat) (x : Port) : (setPort s p x).needle = s.needle := rfl
@[simp] theorem setPort_comp (s : State) (p : Nat) (x : Port) : (setPort s p x).comp = s.comp := rfl
@[simp] theorem setPort_fe (s : State) (p : Nat) (x : Port) : (setPort s p x).fe = s.fe := rfl
@[simp] theorem setPort_loops (s : State) (p : Nat) (x : Port) : (setPort s p x).loops = s.loops := rfl
@[simp] theorem setPort_src (s : State) (p : Nat) (x : Port) : (setPort s p x).src = s.src := rfl
@[simp] theorem setPort_purl (s : State) (p : Nat) (x : Port) : (setPort s p x).purl = s.purl := rfl
@[simp] theorem setPort_pair (s : State) (p : Nat) (x : Port) : (setPort s p x).pair = s.pair := rfl
@[simp] theorem setPort_mem (s : State) (p : Nat) (x : Port) : (setPort s p x).mem = s.mem := rfl
@[simp] theorem setPort_dram (s : State) (p : Nat) (x : Port) : (setPort s p x).dram = s.dram := rfl

@[simp] theorem modPort_pending (s : State) (p : Nat) (f : Port → Port) : (modPort s p f).pending = s.pending := rfl
@[simp] theorem modPort_held (s : State) (p : Nat) (f : Port → Port) : (modPort s p f).held = s.held := rfl
@[simp] theorem modPort_free (s : State) (p : Nat) (f : Port → Port) : (modPort s p f).free = s.free := rfl
@[simp] theorem modPort_params (s : State) (p : Nat) (f : Port → Port) : (modPort s p f).params = s.params := rfl
@[simp] theorem modPort_staged (s : State) (p : Nat) (f : Port → Port) : (modPort s p f).staged = s.staged := rfl
@[simp] theorem modPort_slots (s : State) (p : Nat) (f : Port → Port) : (modPort s p f).slots = s.slots := rfl
@[simp] theorem modPort_link (s : State) (p : Nat) (f : Port → Port) : (modPort s p f).link = s.link := rfl
@[simp] theorem modPort_boot (s : State) (p : Nat) (f : Port → Port) : (modPort s p f).boot = s.boot := rfl
@[simp] theorem modPort_cal (s : State) (p : Nat) (f : Port → Port) : (modPort s p f).cal = s.cal := rfl
@[simp] theorem modPort_col (s : State) (p : Nat) (f : Port → Port) : (modPort s p f).col = s.col := rfl
@[simp] theorem modPort_time (s : State) (p : Nat) (f : Port → Port) : (modPort s p f).time = s.time := rfl
@[simp] theorem modPort_cap (s : State) (p : Nat) (f : Port → Port) : (modPort s p f).cap = s.cap := rfl
@[simp] theorem modPort_needle (s : State) (p : Nat) (f : Port → Port) : (modPort s p f).needle = s.needle := rfl
@[simp] theorem modPort_comp (s : State) (p : Nat) (f : Port → Port) : (modPort s p f).comp = s.comp := rfl
@[simp] theorem modPort_fe (s : State) (p : Nat) (f : Port → Port) : (modPort s p f).fe = s.fe := rfl
@[simp] theorem modPort_loops (s : State) (p : Nat) (f : Port → Port) : (modPort s p f).loops = s.loops := rfl
@[simp] theorem modPort_src (s : State) (p : Nat) (f : Port → Port) : (modPort s p f).src = s.src := rfl
@[simp] theorem modPort_purl (s : State) (p : Nat) (f : Port → Port) : (modPort s p f).purl = s.purl := rfl
@[simp] theorem modPort_pair (s : State) (p : Nat) (f : Port → Port) : (modPort s p f).pair = s.pair := rfl
@[simp] theorem modPort_mem (s : State) (p : Nat) (f : Port → Port) : (modPort s p f).mem = s.mem := rfl
@[simp] theorem modPort_dram (s : State) (p : Nat) (f : Port → Port) : (modPort s p f).dram = s.dram := rfl

@[simp] theorem setAdc_pending (s : State) (p c : Nat) (x : AdcChan) : (setAdc s p c x).pending = s.pending := rfl
@[simp] theorem setAdc_held (s : State) (p c : Nat) (x : AdcChan) : (setAdc s p c x).held = s.held := rfl
@[simp] theorem setAdc_free (s : State) (p c : Nat) (x : AdcChan) : (setAdc s p c x).free = s.free := rfl
@[simp] theorem setAdc_params (s : State) (p c : Nat) (x : AdcChan) : (setAdc s p c x).params = s.params := rfl
@[simp] theorem setAdc_staged (s : State) (p c : Nat) (x : AdcChan) : (setAdc s p c x).staged = s.staged := rfl
@[simp] theorem setAdc_slots (s : State) (p c : Nat) (x : AdcChan) : (setAdc s p c x).slots = s.slots := rfl
@[simp] theorem setAdc_link (s : State) (p c : Nat) (x : AdcChan) : (setAdc s p c x).link = s.link := rfl
@[simp] theorem setAdc_boot (s : State) (p c : Nat) (x : AdcChan) : (setAdc s p c x).boot = s.boot := rfl
@[simp] theorem setAdc_cal (s : State) (p c : Nat) (x : AdcChan) : (setAdc s p c x).cal = s.cal := rfl
@[simp] theorem setAdc_col (s : State) (p c : Nat) (x : AdcChan) : (setAdc s p c x).col = s.col := rfl
@[simp] theorem setAdc_time (s : State) (p c : Nat) (x : AdcChan) : (setAdc s p c x).time = s.time := rfl
@[simp] theorem setAdc_cap (s : State) (p c : Nat) (x : AdcChan) : (setAdc s p c x).cap = s.cap := rfl
@[simp] theorem setAdc_needle (s : State) (p c : Nat) (x : AdcChan) : (setAdc s p c x).needle = s.needle := rfl
@[simp] theorem setAdc_comp (s : State) (p c : Nat) (x : AdcChan) : (setAdc s p c x).comp = s.comp := rfl
@[simp] theorem setAdc_fe (s : State) (p c : Nat) (x : AdcChan) : (setAdc s p c x).fe = s.fe := rfl
@[simp] theorem setAdc_loops (s : State) (p c : Nat) (x : AdcChan) : (setAdc s p c x).loops = s.loops := rfl
@[simp] theorem setAdc_src (s : State) (p c : Nat) (x : AdcChan) : (setAdc s p c x).src = s.src := rfl
@[simp] theorem setAdc_purl (s : State) (p c : Nat) (x : AdcChan) : (setAdc s p c x).purl = s.purl := rfl
@[simp] theorem setAdc_pair (s : State) (p c : Nat) (x : AdcChan) : (setAdc s p c x).pair = s.pair := rfl
@[simp] theorem setAdc_mem (s : State) (p c : Nat) (x : AdcChan) : (setAdc s p c x).mem = s.mem := rfl
@[simp] theorem setAdc_dram (s : State) (p c : Nat) (x : AdcChan) : (setAdc s p c x).dram = s.dram := rfl

@[simp] theorem modRaman_pending (s : State) (p : Nat) (f : Raman → Raman) : (modRaman s p f).pending = s.pending := rfl
@[simp] theorem modRaman_held (s : State) (p : Nat) (f : Raman → Raman) : (modRaman s p f).held = s.held := rfl
@[simp] theorem modRaman_free (s : State) (p : Nat) (f : Raman → Raman) : (modRaman s p f).free = s.free := rfl
@[simp] theorem modRaman_params (s : State) (p : Nat) (f : Raman → Raman) : (modRaman s p f).params = s.params := rfl
@[simp] theorem modRaman_staged (s : State) (p : Nat) (f : Raman → Raman) : (modRaman s p f).staged = s.staged := rfl
@[simp] theorem modRaman_slots (s : State) (p : Nat) (f : Raman → Raman) : (modRaman s p f).slots = s.slots := rfl
@[simp] theorem modRaman_link (s : State) (p : Nat) (f : Raman → Raman) : (modRaman s p f).link = s.link := rfl
@[simp] theorem modRaman_boot (s : State) (p : Nat) (f : Raman → Raman) : (modRaman s p f).boot = s.boot := rfl
@[simp] theorem modRaman_cal (s : State) (p : Nat) (f : Raman → Raman) : (modRaman s p f).cal = s.cal := rfl
@[simp] theorem modRaman_col (s : State) (p : Nat) (f : Raman → Raman) : (modRaman s p f).col = s.col := rfl
@[simp] theorem modRaman_time (s : State) (p : Nat) (f : Raman → Raman) : (modRaman s p f).time = s.time := rfl
@[simp] theorem modRaman_cap (s : State) (p : Nat) (f : Raman → Raman) : (modRaman s p f).cap = s.cap := rfl
@[simp] theorem modRaman_needle (s : State) (p : Nat) (f : Raman → Raman) : (modRaman s p f).needle = s.needle := rfl
@[simp] theorem modRaman_comp (s : State) (p : Nat) (f : Raman → Raman) : (modRaman s p f).comp = s.comp := rfl
@[simp] theorem modRaman_fe (s : State) (p : Nat) (f : Raman → Raman) : (modRaman s p f).fe = s.fe := rfl
@[simp] theorem modRaman_loops (s : State) (p : Nat) (f : Raman → Raman) : (modRaman s p f).loops = s.loops := rfl
@[simp] theorem modRaman_src (s : State) (p : Nat) (f : Raman → Raman) : (modRaman s p f).src = s.src := rfl
@[simp] theorem modRaman_purl (s : State) (p : Nat) (f : Raman → Raman) : (modRaman s p f).purl = s.purl := rfl
@[simp] theorem modRaman_pair (s : State) (p : Nat) (f : Raman → Raman) : (modRaman s p f).pair = s.pair := rfl
@[simp] theorem modRaman_mem (s : State) (p : Nat) (f : Raman → Raman) : (modRaman s p f).mem = s.mem := rfl
@[simp] theorem modRaman_dram (s : State) (p : Nat) (f : Raman → Raman) : (modRaman s p f).dram = s.dram := rfl

@[simp] theorem setCore_pending (s : State) (c : Nat) (k : Core) : (setCore s c k).pending = s.pending := rfl
@[simp] theorem setCore_held (s : State) (c : Nat) (k : Core) : (setCore s c k).held = s.held := rfl
@[simp] theorem setCore_free (s : State) (c : Nat) (k : Core) : (setCore s c k).free = s.free := rfl
@[simp] theorem setCore_params (s : State) (c : Nat) (k : Core) : (setCore s c k).params = s.params := rfl
@[simp] theorem setCore_staged (s : State) (c : Nat) (k : Core) : (setCore s c k).staged = s.staged := rfl
@[simp] theorem setCore_slots (s : State) (c : Nat) (k : Core) : (setCore s c k).slots = s.slots := rfl
@[simp] theorem setCore_link (s : State) (c : Nat) (k : Core) : (setCore s c k).link = s.link := rfl
@[simp] theorem setCore_boot (s : State) (c : Nat) (k : Core) : (setCore s c k).boot = s.boot := rfl
@[simp] theorem setCore_cal (s : State) (c : Nat) (k : Core) : (setCore s c k).cal = s.cal := rfl
@[simp] theorem setCore_col (s : State) (c : Nat) (k : Core) : (setCore s c k).col = s.col := rfl
@[simp] theorem setCore_time (s : State) (c : Nat) (k : Core) : (setCore s c k).time = s.time := rfl
@[simp] theorem setCore_ports (s : State) (c : Nat) (k : Core) : (setCore s c k).ports = s.ports := rfl
@[simp] theorem setCore_cap (s : State) (c : Nat) (k : Core) : (setCore s c k).cap = s.cap := rfl
@[simp] theorem setCore_comp (s : State) (c : Nat) (k : Core) : (setCore s c k).comp = s.comp := rfl
@[simp] theorem setCore_fe (s : State) (c : Nat) (k : Core) : (setCore s c k).fe = s.fe := rfl
@[simp] theorem setCore_loops (s : State) (c : Nat) (k : Core) : (setCore s c k).loops = s.loops := rfl
@[simp] theorem setCore_src (s : State) (c : Nat) (k : Core) : (setCore s c k).src = s.src := rfl
@[simp] theorem setCore_purl (s : State) (c : Nat) (k : Core) : (setCore s c k).purl = s.purl := rfl
@[simp] theorem setCore_pair (s : State) (c : Nat) (k : Core) : (setCore s c k).pair = s.pair := rfl
@[simp] theorem setCore_mem (s : State) (c : Nat) (k : Core) : (setCore s c k).mem = s.mem := rfl
@[simp] theorem setCore_dram (s : State) (c : Nat) (k : Core) : (setCore s c k).dram = s.dram := rfl

@[simp] theorem modCore_pending (s : State) (c : Nat) (f : Core → Core) : (modCore s c f).pending = s.pending := rfl
@[simp] theorem modCore_held (s : State) (c : Nat) (f : Core → Core) : (modCore s c f).held = s.held := rfl
@[simp] theorem modCore_free (s : State) (c : Nat) (f : Core → Core) : (modCore s c f).free = s.free := rfl
@[simp] theorem modCore_params (s : State) (c : Nat) (f : Core → Core) : (modCore s c f).params = s.params := rfl
@[simp] theorem modCore_staged (s : State) (c : Nat) (f : Core → Core) : (modCore s c f).staged = s.staged := rfl
@[simp] theorem modCore_slots (s : State) (c : Nat) (f : Core → Core) : (modCore s c f).slots = s.slots := rfl
@[simp] theorem modCore_link (s : State) (c : Nat) (f : Core → Core) : (modCore s c f).link = s.link := rfl
@[simp] theorem modCore_boot (s : State) (c : Nat) (f : Core → Core) : (modCore s c f).boot = s.boot := rfl
@[simp] theorem modCore_cal (s : State) (c : Nat) (f : Core → Core) : (modCore s c f).cal = s.cal := rfl
@[simp] theorem modCore_col (s : State) (c : Nat) (f : Core → Core) : (modCore s c f).col = s.col := rfl
@[simp] theorem modCore_time (s : State) (c : Nat) (f : Core → Core) : (modCore s c f).time = s.time := rfl
@[simp] theorem modCore_ports (s : State) (c : Nat) (f : Core → Core) : (modCore s c f).ports = s.ports := rfl
@[simp] theorem modCore_cap (s : State) (c : Nat) (f : Core → Core) : (modCore s c f).cap = s.cap := rfl
@[simp] theorem modCore_comp (s : State) (c : Nat) (f : Core → Core) : (modCore s c f).comp = s.comp := rfl
@[simp] theorem modCore_fe (s : State) (c : Nat) (f : Core → Core) : (modCore s c f).fe = s.fe := rfl
@[simp] theorem modCore_loops (s : State) (c : Nat) (f : Core → Core) : (modCore s c f).loops = s.loops := rfl
@[simp] theorem modCore_src (s : State) (c : Nat) (f : Core → Core) : (modCore s c f).src = s.src := rfl
@[simp] theorem modCore_purl (s : State) (c : Nat) (f : Core → Core) : (modCore s c f).purl = s.purl := rfl
@[simp] theorem modCore_pair (s : State) (c : Nat) (f : Core → Core) : (modCore s c f).pair = s.pair := rfl
@[simp] theorem modCore_mem (s : State) (c : Nat) (f : Core → Core) : (modCore s c f).mem = s.mem := rfl
@[simp] theorem modCore_dram (s : State) (c : Nat) (f : Core → Core) : (modCore s c f).dram = s.dram := rfl

@[simp] theorem setUse_pending (s : State) (c : Nat) (u : CoreUse) : (setUse s c u).pending = s.pending := rfl
@[simp] theorem setUse_held (s : State) (c : Nat) (u : CoreUse) : (setUse s c u).held = s.held := rfl
@[simp] theorem setUse_free (s : State) (c : Nat) (u : CoreUse) : (setUse s c u).free = s.free := rfl
@[simp] theorem setUse_params (s : State) (c : Nat) (u : CoreUse) : (setUse s c u).params = s.params := rfl
@[simp] theorem setUse_staged (s : State) (c : Nat) (u : CoreUse) : (setUse s c u).staged = s.staged := rfl
@[simp] theorem setUse_slots (s : State) (c : Nat) (u : CoreUse) : (setUse s c u).slots = s.slots := rfl
@[simp] theorem setUse_link (s : State) (c : Nat) (u : CoreUse) : (setUse s c u).link = s.link := rfl
@[simp] theorem setUse_boot (s : State) (c : Nat) (u : CoreUse) : (setUse s c u).boot = s.boot := rfl
@[simp] theorem setUse_cal (s : State) (c : Nat) (u : CoreUse) : (setUse s c u).cal = s.cal := rfl
@[simp] theorem setUse_col (s : State) (c : Nat) (u : CoreUse) : (setUse s c u).col = s.col := rfl
@[simp] theorem setUse_time (s : State) (c : Nat) (u : CoreUse) : (setUse s c u).time = s.time := rfl
@[simp] theorem setUse_ports (s : State) (c : Nat) (u : CoreUse) : (setUse s c u).ports = s.ports := rfl
@[simp] theorem setUse_cap (s : State) (c : Nat) (u : CoreUse) : (setUse s c u).cap = s.cap := rfl
@[simp] theorem setUse_comp (s : State) (c : Nat) (u : CoreUse) : (setUse s c u).comp = s.comp := rfl
@[simp] theorem setUse_fe (s : State) (c : Nat) (u : CoreUse) : (setUse s c u).fe = s.fe := rfl
@[simp] theorem setUse_loops (s : State) (c : Nat) (u : CoreUse) : (setUse s c u).loops = s.loops := rfl
@[simp] theorem setUse_src (s : State) (c : Nat) (u : CoreUse) : (setUse s c u).src = s.src := rfl
@[simp] theorem setUse_purl (s : State) (c : Nat) (u : CoreUse) : (setUse s c u).purl = s.purl := rfl
@[simp] theorem setUse_pair (s : State) (c : Nat) (u : CoreUse) : (setUse s c u).pair = s.pair := rfl
@[simp] theorem setUse_mem (s : State) (c : Nat) (u : CoreUse) : (setUse s c u).mem = s.mem := rfl
@[simp] theorem setUse_dram (s : State) (c : Nat) (u : CoreUse) : (setUse s c u).dram = s.dram := rfl

@[simp] theorem setKrn_pending (s : State) (n : Nat) (x : UserSlot) : (setKrn s n x).pending = s.pending := rfl
@[simp] theorem setKrn_held (s : State) (n : Nat) (x : UserSlot) : (setKrn s n x).held = s.held := rfl
@[simp] theorem setKrn_free (s : State) (n : Nat) (x : UserSlot) : (setKrn s n x).free = s.free := rfl
@[simp] theorem setKrn_params (s : State) (n : Nat) (x : UserSlot) : (setKrn s n x).params = s.params := rfl
@[simp] theorem setKrn_staged (s : State) (n : Nat) (x : UserSlot) : (setKrn s n x).staged = s.staged := rfl
@[simp] theorem setKrn_slots (s : State) (n : Nat) (x : UserSlot) : (setKrn s n x).slots = s.slots := rfl
@[simp] theorem setKrn_link (s : State) (n : Nat) (x : UserSlot) : (setKrn s n x).link = s.link := rfl
@[simp] theorem setKrn_boot (s : State) (n : Nat) (x : UserSlot) : (setKrn s n x).boot = s.boot := rfl
@[simp] theorem setKrn_cal (s : State) (n : Nat) (x : UserSlot) : (setKrn s n x).cal = s.cal := rfl
@[simp] theorem setKrn_col (s : State) (n : Nat) (x : UserSlot) : (setKrn s n x).col = s.col := rfl
@[simp] theorem setKrn_time (s : State) (n : Nat) (x : UserSlot) : (setKrn s n x).time = s.time := rfl
@[simp] theorem setKrn_ports (s : State) (n : Nat) (x : UserSlot) : (setKrn s n x).ports = s.ports := rfl
@[simp] theorem setKrn_cap (s : State) (n : Nat) (x : UserSlot) : (setKrn s n x).cap = s.cap := rfl
@[simp] theorem setKrn_comp (s : State) (n : Nat) (x : UserSlot) : (setKrn s n x).comp = s.comp := rfl
@[simp] theorem setKrn_fe (s : State) (n : Nat) (x : UserSlot) : (setKrn s n x).fe = s.fe := rfl
@[simp] theorem setKrn_loops (s : State) (n : Nat) (x : UserSlot) : (setKrn s n x).loops = s.loops := rfl
@[simp] theorem setKrn_src (s : State) (n : Nat) (x : UserSlot) : (setKrn s n x).src = s.src := rfl
@[simp] theorem setKrn_purl (s : State) (n : Nat) (x : UserSlot) : (setKrn s n x).purl = s.purl := rfl
@[simp] theorem setKrn_pair (s : State) (n : Nat) (x : UserSlot) : (setKrn s n x).pair = s.pair := rfl
@[simp] theorem setKrn_mem (s : State) (n : Nat) (x : UserSlot) : (setKrn s n x).mem = s.mem := rfl
@[simp] theorem setKrn_dram (s : State) (n : Nat) (x : UserSlot) : (setKrn s n x).dram = s.dram := rfl

@[simp] theorem modKrn_pending (s : State) (n : Nat) (f : UserSlot → UserSlot) : (modKrn s n f).pending = s.pending := rfl
@[simp] theorem modKrn_held (s : State) (n : Nat) (f : UserSlot → UserSlot) : (modKrn s n f).held = s.held := rfl
@[simp] theorem modKrn_free (s : State) (n : Nat) (f : UserSlot → UserSlot) : (modKrn s n f).free = s.free := rfl
@[simp] theorem modKrn_params (s : State) (n : Nat) (f : UserSlot → UserSlot) : (modKrn s n f).params = s.params := rfl
@[simp] theorem modKrn_staged (s : State) (n : Nat) (f : UserSlot → UserSlot) : (modKrn s n f).staged = s.staged := rfl
@[simp] theorem modKrn_slots (s : State) (n : Nat) (f : UserSlot → UserSlot) : (modKrn s n f).slots = s.slots := rfl
@[simp] theorem modKrn_link (s : State) (n : Nat) (f : UserSlot → UserSlot) : (modKrn s n f).link = s.link := rfl
@[simp] theorem modKrn_boot (s : State) (n : Nat) (f : UserSlot → UserSlot) : (modKrn s n f).boot = s.boot := rfl
@[simp] theorem modKrn_cal (s : State) (n : Nat) (f : UserSlot → UserSlot) : (modKrn s n f).cal = s.cal := rfl
@[simp] theorem modKrn_col (s : State) (n : Nat) (f : UserSlot → UserSlot) : (modKrn s n f).col = s.col := rfl
@[simp] theorem modKrn_time (s : State) (n : Nat) (f : UserSlot → UserSlot) : (modKrn s n f).time = s.time := rfl
@[simp] theorem modKrn_ports (s : State) (n : Nat) (f : UserSlot → UserSlot) : (modKrn s n f).ports = s.ports := rfl
@[simp] theorem modKrn_cap (s : State) (n : Nat) (f : UserSlot → UserSlot) : (modKrn s n f).cap = s.cap := rfl
@[simp] theorem modKrn_comp (s : State) (n : Nat) (f : UserSlot → UserSlot) : (modKrn s n f).comp = s.comp := rfl
@[simp] theorem modKrn_fe (s : State) (n : Nat) (f : UserSlot → UserSlot) : (modKrn s n f).fe = s.fe := rfl
@[simp] theorem modKrn_loops (s : State) (n : Nat) (f : UserSlot → UserSlot) : (modKrn s n f).loops = s.loops := rfl
@[simp] theorem modKrn_src (s : State) (n : Nat) (f : UserSlot → UserSlot) : (modKrn s n f).src = s.src := rfl
@[simp] theorem modKrn_purl (s : State) (n : Nat) (f : UserSlot → UserSlot) : (modKrn s n f).purl = s.purl := rfl
@[simp] theorem modKrn_pair (s : State) (n : Nat) (f : UserSlot → UserSlot) : (modKrn s n f).pair = s.pair := rfl
@[simp] theorem modKrn_mem (s : State) (n : Nat) (f : UserSlot → UserSlot) : (modKrn s n f).mem = s.mem := rfl
@[simp] theorem modKrn_dram (s : State) (n : Nat) (f : UserSlot → UserSlot) : (modKrn s n f).dram = s.dram := rfl

@[simp] theorem setStats_pending (s : State) (p : Nat) (x : PortStats) : (setStats s p x).pending = s.pending := rfl
@[simp] theorem setStats_held (s : State) (p : Nat) (x : PortStats) : (setStats s p x).held = s.held := rfl
@[simp] theorem setStats_free (s : State) (p : Nat) (x : PortStats) : (setStats s p x).free = s.free := rfl
@[simp] theorem setStats_params (s : State) (p : Nat) (x : PortStats) : (setStats s p x).params = s.params := rfl
@[simp] theorem setStats_staged (s : State) (p : Nat) (x : PortStats) : (setStats s p x).staged = s.staged := rfl
@[simp] theorem setStats_slots (s : State) (p : Nat) (x : PortStats) : (setStats s p x).slots = s.slots := rfl
@[simp] theorem setStats_link (s : State) (p : Nat) (x : PortStats) : (setStats s p x).link = s.link := rfl
@[simp] theorem setStats_boot (s : State) (p : Nat) (x : PortStats) : (setStats s p x).boot = s.boot := rfl
@[simp] theorem setStats_cal (s : State) (p : Nat) (x : PortStats) : (setStats s p x).cal = s.cal := rfl
@[simp] theorem setStats_col (s : State) (p : Nat) (x : PortStats) : (setStats s p x).col = s.col := rfl
@[simp] theorem setStats_time (s : State) (p : Nat) (x : PortStats) : (setStats s p x).time = s.time := rfl
@[simp] theorem setStats_ports (s : State) (p : Nat) (x : PortStats) : (setStats s p x).ports = s.ports := rfl
@[simp] theorem setStats_cap (s : State) (p : Nat) (x : PortStats) : (setStats s p x).cap = s.cap := rfl
@[simp] theorem setStats_comp (s : State) (p : Nat) (x : PortStats) : (setStats s p x).comp = s.comp := rfl
@[simp] theorem setStats_fe (s : State) (p : Nat) (x : PortStats) : (setStats s p x).fe = s.fe := rfl
@[simp] theorem setStats_loops (s : State) (p : Nat) (x : PortStats) : (setStats s p x).loops = s.loops := rfl
@[simp] theorem setStats_src (s : State) (p : Nat) (x : PortStats) : (setStats s p x).src = s.src := rfl
@[simp] theorem setStats_purl (s : State) (p : Nat) (x : PortStats) : (setStats s p x).purl = s.purl := rfl
@[simp] theorem setStats_pair (s : State) (p : Nat) (x : PortStats) : (setStats s p x).pair = s.pair := rfl
@[simp] theorem setStats_mem (s : State) (p : Nat) (x : PortStats) : (setStats s p x).mem = s.mem := rfl
@[simp] theorem setStats_dram (s : State) (p : Nat) (x : PortStats) : (setStats s p x).dram = s.dram := rfl

@[simp] theorem setEngine_pending (s : State) (e : Nat) (x : Engine) : (setEngine s e x).pending = s.pending := rfl
@[simp] theorem setEngine_held (s : State) (e : Nat) (x : Engine) : (setEngine s e x).held = s.held := rfl
@[simp] theorem setEngine_free (s : State) (e : Nat) (x : Engine) : (setEngine s e x).free = s.free := rfl
@[simp] theorem setEngine_params (s : State) (e : Nat) (x : Engine) : (setEngine s e x).params = s.params := rfl
@[simp] theorem setEngine_staged (s : State) (e : Nat) (x : Engine) : (setEngine s e x).staged = s.staged := rfl
@[simp] theorem setEngine_slots (s : State) (e : Nat) (x : Engine) : (setEngine s e x).slots = s.slots := rfl
@[simp] theorem setEngine_link (s : State) (e : Nat) (x : Engine) : (setEngine s e x).link = s.link := rfl
@[simp] theorem setEngine_boot (s : State) (e : Nat) (x : Engine) : (setEngine s e x).boot = s.boot := rfl
@[simp] theorem setEngine_cal (s : State) (e : Nat) (x : Engine) : (setEngine s e x).cal = s.cal := rfl
@[simp] theorem setEngine_col (s : State) (e : Nat) (x : Engine) : (setEngine s e x).col = s.col := rfl
@[simp] theorem setEngine_time (s : State) (e : Nat) (x : Engine) : (setEngine s e x).time = s.time := rfl
@[simp] theorem setEngine_ports (s : State) (e : Nat) (x : Engine) : (setEngine s e x).ports = s.ports := rfl
@[simp] theorem setEngine_cap (s : State) (e : Nat) (x : Engine) : (setEngine s e x).cap = s.cap := rfl
@[simp] theorem setEngine_needle (s : State) (e : Nat) (x : Engine) : (setEngine s e x).needle = s.needle := rfl
@[simp] theorem setEngine_fe (s : State) (e : Nat) (x : Engine) : (setEngine s e x).fe = s.fe := rfl
@[simp] theorem setEngine_loops (s : State) (e : Nat) (x : Engine) : (setEngine s e x).loops = s.loops := rfl
@[simp] theorem setEngine_src (s : State) (e : Nat) (x : Engine) : (setEngine s e x).src = s.src := rfl
@[simp] theorem setEngine_purl (s : State) (e : Nat) (x : Engine) : (setEngine s e x).purl = s.purl := rfl
@[simp] theorem setEngine_pair (s : State) (e : Nat) (x : Engine) : (setEngine s e x).pair = s.pair := rfl
@[simp] theorem setEngine_mem (s : State) (e : Nat) (x : Engine) : (setEngine s e x).mem = s.mem := rfl
@[simp] theorem setEngine_dram (s : State) (e : Nat) (x : Engine) : (setEngine s e x).dram = s.dram := rfl

@[simp] theorem setStream_pending (s : State) (n : Nat) (x : StreamSlot) : (setStream s n x).pending = s.pending := rfl
@[simp] theorem setStream_held (s : State) (n : Nat) (x : StreamSlot) : (setStream s n x).held = s.held := rfl
@[simp] theorem setStream_free (s : State) (n : Nat) (x : StreamSlot) : (setStream s n x).free = s.free := rfl
@[simp] theorem setStream_params (s : State) (n : Nat) (x : StreamSlot) : (setStream s n x).params = s.params := rfl
@[simp] theorem setStream_staged (s : State) (n : Nat) (x : StreamSlot) : (setStream s n x).staged = s.staged := rfl
@[simp] theorem setStream_slots (s : State) (n : Nat) (x : StreamSlot) : (setStream s n x).slots = s.slots := rfl
@[simp] theorem setStream_link (s : State) (n : Nat) (x : StreamSlot) : (setStream s n x).link = s.link := rfl
@[simp] theorem setStream_boot (s : State) (n : Nat) (x : StreamSlot) : (setStream s n x).boot = s.boot := rfl
@[simp] theorem setStream_cal (s : State) (n : Nat) (x : StreamSlot) : (setStream s n x).cal = s.cal := rfl
@[simp] theorem setStream_col (s : State) (n : Nat) (x : StreamSlot) : (setStream s n x).col = s.col := rfl
@[simp] theorem setStream_time (s : State) (n : Nat) (x : StreamSlot) : (setStream s n x).time = s.time := rfl
@[simp] theorem setStream_ports (s : State) (n : Nat) (x : StreamSlot) : (setStream s n x).ports = s.ports := rfl
@[simp] theorem setStream_cap (s : State) (n : Nat) (x : StreamSlot) : (setStream s n x).cap = s.cap := rfl
@[simp] theorem setStream_needle (s : State) (n : Nat) (x : StreamSlot) : (setStream s n x).needle = s.needle := rfl
@[simp] theorem setStream_fe (s : State) (n : Nat) (x : StreamSlot) : (setStream s n x).fe = s.fe := rfl
@[simp] theorem setStream_loops (s : State) (n : Nat) (x : StreamSlot) : (setStream s n x).loops = s.loops := rfl
@[simp] theorem setStream_src (s : State) (n : Nat) (x : StreamSlot) : (setStream s n x).src = s.src := rfl
@[simp] theorem setStream_purl (s : State) (n : Nat) (x : StreamSlot) : (setStream s n x).purl = s.purl := rfl
@[simp] theorem setStream_pair (s : State) (n : Nat) (x : StreamSlot) : (setStream s n x).pair = s.pair := rfl
@[simp] theorem setStream_mem (s : State) (n : Nat) (x : StreamSlot) : (setStream s n x).mem = s.mem := rfl
@[simp] theorem setStream_dram (s : State) (n : Nat) (x : StreamSlot) : (setStream s n x).dram = s.dram := rfl

@[simp] theorem modPurl_pending (s : State) (f : Purl → Purl) : (modPurl s f).pending = s.pending := rfl
@[simp] theorem modPurl_held (s : State) (f : Purl → Purl) : (modPurl s f).held = s.held := rfl
@[simp] theorem modPurl_free (s : State) (f : Purl → Purl) : (modPurl s f).free = s.free := rfl
@[simp] theorem modPurl_params (s : State) (f : Purl → Purl) : (modPurl s f).params = s.params := rfl
@[simp] theorem modPurl_staged (s : State) (f : Purl → Purl) : (modPurl s f).staged = s.staged := rfl
@[simp] theorem modPurl_slots (s : State) (f : Purl → Purl) : (modPurl s f).slots = s.slots := rfl
@[simp] theorem modPurl_link (s : State) (f : Purl → Purl) : (modPurl s f).link = s.link := rfl
@[simp] theorem modPurl_boot (s : State) (f : Purl → Purl) : (modPurl s f).boot = s.boot := rfl
@[simp] theorem modPurl_cal (s : State) (f : Purl → Purl) : (modPurl s f).cal = s.cal := rfl
@[simp] theorem modPurl_col (s : State) (f : Purl → Purl) : (modPurl s f).col = s.col := rfl
@[simp] theorem modPurl_time (s : State) (f : Purl → Purl) : (modPurl s f).time = s.time := rfl
@[simp] theorem modPurl_ports (s : State) (f : Purl → Purl) : (modPurl s f).ports = s.ports := rfl
@[simp] theorem modPurl_cap (s : State) (f : Purl → Purl) : (modPurl s f).cap = s.cap := rfl
@[simp] theorem modPurl_needle (s : State) (f : Purl → Purl) : (modPurl s f).needle = s.needle := rfl
@[simp] theorem modPurl_comp (s : State) (f : Purl → Purl) : (modPurl s f).comp = s.comp := rfl
@[simp] theorem modPurl_fe (s : State) (f : Purl → Purl) : (modPurl s f).fe = s.fe := rfl
@[simp] theorem modPurl_loops (s : State) (f : Purl → Purl) : (modPurl s f).loops = s.loops := rfl
@[simp] theorem modPurl_src (s : State) (f : Purl → Purl) : (modPurl s f).src = s.src := rfl
@[simp] theorem modPurl_pair (s : State) (f : Purl → Purl) : (modPurl s f).pair = s.pair := rfl
@[simp] theorem modPurl_mem (s : State) (f : Purl → Purl) : (modPurl s f).mem = s.mem := rfl
@[simp] theorem modPurl_dram (s : State) (f : Purl → Purl) : (modPurl s f).dram = s.dram := rfl

@[simp] theorem modLane_pending (s : State) (l : Nat) (f : RxLane → RxLane) : (modLane s l f).pending = s.pending := rfl
@[simp] theorem modLane_held (s : State) (l : Nat) (f : RxLane → RxLane) : (modLane s l f).held = s.held := rfl
@[simp] theorem modLane_free (s : State) (l : Nat) (f : RxLane → RxLane) : (modLane s l f).free = s.free := rfl
@[simp] theorem modLane_params (s : State) (l : Nat) (f : RxLane → RxLane) : (modLane s l f).params = s.params := rfl
@[simp] theorem modLane_staged (s : State) (l : Nat) (f : RxLane → RxLane) : (modLane s l f).staged = s.staged := rfl
@[simp] theorem modLane_slots (s : State) (l : Nat) (f : RxLane → RxLane) : (modLane s l f).slots = s.slots := rfl
@[simp] theorem modLane_link (s : State) (l : Nat) (f : RxLane → RxLane) : (modLane s l f).link = s.link := rfl
@[simp] theorem modLane_boot (s : State) (l : Nat) (f : RxLane → RxLane) : (modLane s l f).boot = s.boot := rfl
@[simp] theorem modLane_cal (s : State) (l : Nat) (f : RxLane → RxLane) : (modLane s l f).cal = s.cal := rfl
@[simp] theorem modLane_col (s : State) (l : Nat) (f : RxLane → RxLane) : (modLane s l f).col = s.col := rfl
@[simp] theorem modLane_time (s : State) (l : Nat) (f : RxLane → RxLane) : (modLane s l f).time = s.time := rfl
@[simp] theorem modLane_ports (s : State) (l : Nat) (f : RxLane → RxLane) : (modLane s l f).ports = s.ports := rfl
@[simp] theorem modLane_cap (s : State) (l : Nat) (f : RxLane → RxLane) : (modLane s l f).cap = s.cap := rfl
@[simp] theorem modLane_needle (s : State) (l : Nat) (f : RxLane → RxLane) : (modLane s l f).needle = s.needle := rfl
@[simp] theorem modLane_comp (s : State) (l : Nat) (f : RxLane → RxLane) : (modLane s l f).comp = s.comp := rfl
@[simp] theorem modLane_fe (s : State) (l : Nat) (f : RxLane → RxLane) : (modLane s l f).fe = s.fe := rfl
@[simp] theorem modLane_loops (s : State) (l : Nat) (f : RxLane → RxLane) : (modLane s l f).loops = s.loops := rfl
@[simp] theorem modLane_src (s : State) (l : Nat) (f : RxLane → RxLane) : (modLane s l f).src = s.src := rfl
@[simp] theorem modLane_pair (s : State) (l : Nat) (f : RxLane → RxLane) : (modLane s l f).pair = s.pair := rfl
@[simp] theorem modLane_mem (s : State) (l : Nat) (f : RxLane → RxLane) : (modLane s l f).mem = s.mem := rfl
@[simp] theorem modLane_dram (s : State) (l : Nat) (f : RxLane → RxLane) : (modLane s l f).dram = s.dram := rfl

@[simp] theorem setLink_pending (s : State) (st : LinkSt) : (setLink s st).pending = s.pending := rfl
@[simp] theorem setLink_held (s : State) (st : LinkSt) : (setLink s st).held = s.held := rfl
@[simp] theorem setLink_free (s : State) (st : LinkSt) : (setLink s st).free = s.free := rfl
@[simp] theorem setLink_params (s : State) (st : LinkSt) : (setLink s st).params = s.params := rfl
@[simp] theorem setLink_staged (s : State) (st : LinkSt) : (setLink s st).staged = s.staged := rfl
@[simp] theorem setLink_slots (s : State) (st : LinkSt) : (setLink s st).slots = s.slots := rfl
@[simp] theorem setLink_link (s : State) (st : LinkSt) : (setLink s st).link = s.link := rfl
@[simp] theorem setLink_boot (s : State) (st : LinkSt) : (setLink s st).boot = s.boot := rfl
@[simp] theorem setLink_cal (s : State) (st : LinkSt) : (setLink s st).cal = s.cal := rfl
@[simp] theorem setLink_col (s : State) (st : LinkSt) : (setLink s st).col = s.col := rfl
@[simp] theorem setLink_time (s : State) (st : LinkSt) : (setLink s st).time = s.time := rfl
@[simp] theorem setLink_ports (s : State) (st : LinkSt) : (setLink s st).ports = s.ports := rfl
@[simp] theorem setLink_cap (s : State) (st : LinkSt) : (setLink s st).cap = s.cap := rfl
@[simp] theorem setLink_needle (s : State) (st : LinkSt) : (setLink s st).needle = s.needle := rfl
@[simp] theorem setLink_comp (s : State) (st : LinkSt) : (setLink s st).comp = s.comp := rfl
@[simp] theorem setLink_fe (s : State) (st : LinkSt) : (setLink s st).fe = s.fe := rfl
@[simp] theorem setLink_loops (s : State) (st : LinkSt) : (setLink s st).loops = s.loops := rfl
@[simp] theorem setLink_src (s : State) (st : LinkSt) : (setLink s st).src = s.src := rfl
@[simp] theorem setLink_pair (s : State) (st : LinkSt) : (setLink s st).pair = s.pair := rfl
@[simp] theorem setLink_mem (s : State) (st : LinkSt) : (setLink s st).mem = s.mem := rfl
@[simp] theorem setLink_dram (s : State) (st : LinkSt) : (setLink s st).dram = s.dram := rfl

@[simp] theorem modPair_pending (s : State) (f : Pair → Pair) : (modPair s f).pending = s.pending := rfl
@[simp] theorem modPair_held (s : State) (f : Pair → Pair) : (modPair s f).held = s.held := rfl
@[simp] theorem modPair_free (s : State) (f : Pair → Pair) : (modPair s f).free = s.free := rfl
@[simp] theorem modPair_params (s : State) (f : Pair → Pair) : (modPair s f).params = s.params := rfl
@[simp] theorem modPair_staged (s : State) (f : Pair → Pair) : (modPair s f).staged = s.staged := rfl
@[simp] theorem modPair_slots (s : State) (f : Pair → Pair) : (modPair s f).slots = s.slots := rfl
@[simp] theorem modPair_link (s : State) (f : Pair → Pair) : (modPair s f).link = s.link := rfl
@[simp] theorem modPair_boot (s : State) (f : Pair → Pair) : (modPair s f).boot = s.boot := rfl
@[simp] theorem modPair_cal (s : State) (f : Pair → Pair) : (modPair s f).cal = s.cal := rfl
@[simp] theorem modPair_col (s : State) (f : Pair → Pair) : (modPair s f).col = s.col := rfl
@[simp] theorem modPair_time (s : State) (f : Pair → Pair) : (modPair s f).time = s.time := rfl
@[simp] theorem modPair_ports (s : State) (f : Pair → Pair) : (modPair s f).ports = s.ports := rfl
@[simp] theorem modPair_cap (s : State) (f : Pair → Pair) : (modPair s f).cap = s.cap := rfl
@[simp] theorem modPair_needle (s : State) (f : Pair → Pair) : (modPair s f).needle = s.needle := rfl
@[simp] theorem modPair_comp (s : State) (f : Pair → Pair) : (modPair s f).comp = s.comp := rfl
@[simp] theorem modPair_fe (s : State) (f : Pair → Pair) : (modPair s f).fe = s.fe := rfl
@[simp] theorem modPair_loops (s : State) (f : Pair → Pair) : (modPair s f).loops = s.loops := rfl
@[simp] theorem modPair_src (s : State) (f : Pair → Pair) : (modPair s f).src = s.src := rfl
@[simp] theorem modPair_purl (s : State) (f : Pair → Pair) : (modPair s f).purl = s.purl := rfl
@[simp] theorem modPair_mem (s : State) (f : Pair → Pair) : (modPair s f).mem = s.mem := rfl
@[simp] theorem modPair_dram (s : State) (f : Pair → Pair) : (modPair s f).dram = s.dram := rfl

@[simp] theorem setRole_pending (s : State) (r : Role) : (setRole s r).pending = s.pending := rfl
@[simp] theorem setRole_held (s : State) (r : Role) : (setRole s r).held = s.held := rfl
@[simp] theorem setRole_free (s : State) (r : Role) : (setRole s r).free = s.free := rfl
@[simp] theorem setRole_params (s : State) (r : Role) : (setRole s r).params = s.params := rfl
@[simp] theorem setRole_staged (s : State) (r : Role) : (setRole s r).staged = s.staged := rfl
@[simp] theorem setRole_slots (s : State) (r : Role) : (setRole s r).slots = s.slots := rfl
@[simp] theorem setRole_link (s : State) (r : Role) : (setRole s r).link = s.link := rfl
@[simp] theorem setRole_boot (s : State) (r : Role) : (setRole s r).boot = s.boot := rfl
@[simp] theorem setRole_cal (s : State) (r : Role) : (setRole s r).cal = s.cal := rfl
@[simp] theorem setRole_col (s : State) (r : Role) : (setRole s r).col = s.col := rfl
@[simp] theorem setRole_time (s : State) (r : Role) : (setRole s r).time = s.time := rfl
@[simp] theorem setRole_ports (s : State) (r : Role) : (setRole s r).ports = s.ports := rfl
@[simp] theorem setRole_cap (s : State) (r : Role) : (setRole s r).cap = s.cap := rfl
@[simp] theorem setRole_needle (s : State) (r : Role) : (setRole s r).needle = s.needle := rfl
@[simp] theorem setRole_comp (s : State) (r : Role) : (setRole s r).comp = s.comp := rfl
@[simp] theorem setRole_fe (s : State) (r : Role) : (setRole s r).fe = s.fe := rfl
@[simp] theorem setRole_loops (s : State) (r : Role) : (setRole s r).loops = s.loops := rfl
@[simp] theorem setRole_src (s : State) (r : Role) : (setRole s r).src = s.src := rfl
@[simp] theorem setRole_purl (s : State) (r : Role) : (setRole s r).purl = s.purl := rfl
@[simp] theorem setRole_mem (s : State) (r : Role) : (setRole s r).mem = s.mem := rfl
@[simp] theorem setRole_dram (s : State) (r : Role) : (setRole s r).dram = s.dram := rfl

@[simp] theorem modLoop_pending (s : State) (n : Nat) (f : Loop → Loop) : (modLoop s n f).pending = s.pending := rfl
@[simp] theorem modLoop_held (s : State) (n : Nat) (f : Loop → Loop) : (modLoop s n f).held = s.held := rfl
@[simp] theorem modLoop_free (s : State) (n : Nat) (f : Loop → Loop) : (modLoop s n f).free = s.free := rfl
@[simp] theorem modLoop_params (s : State) (n : Nat) (f : Loop → Loop) : (modLoop s n f).params = s.params := rfl
@[simp] theorem modLoop_staged (s : State) (n : Nat) (f : Loop → Loop) : (modLoop s n f).staged = s.staged := rfl
@[simp] theorem modLoop_slots (s : State) (n : Nat) (f : Loop → Loop) : (modLoop s n f).slots = s.slots := rfl
@[simp] theorem modLoop_link (s : State) (n : Nat) (f : Loop → Loop) : (modLoop s n f).link = s.link := rfl
@[simp] theorem modLoop_boot (s : State) (n : Nat) (f : Loop → Loop) : (modLoop s n f).boot = s.boot := rfl
@[simp] theorem modLoop_cal (s : State) (n : Nat) (f : Loop → Loop) : (modLoop s n f).cal = s.cal := rfl
@[simp] theorem modLoop_col (s : State) (n : Nat) (f : Loop → Loop) : (modLoop s n f).col = s.col := rfl
@[simp] theorem modLoop_time (s : State) (n : Nat) (f : Loop → Loop) : (modLoop s n f).time = s.time := rfl
@[simp] theorem modLoop_ports (s : State) (n : Nat) (f : Loop → Loop) : (modLoop s n f).ports = s.ports := rfl
@[simp] theorem modLoop_cap (s : State) (n : Nat) (f : Loop → Loop) : (modLoop s n f).cap = s.cap := rfl
@[simp] theorem modLoop_needle (s : State) (n : Nat) (f : Loop → Loop) : (modLoop s n f).needle = s.needle := rfl
@[simp] theorem modLoop_comp (s : State) (n : Nat) (f : Loop → Loop) : (modLoop s n f).comp = s.comp := rfl
@[simp] theorem modLoop_fe (s : State) (n : Nat) (f : Loop → Loop) : (modLoop s n f).fe = s.fe := rfl
@[simp] theorem modLoop_src (s : State) (n : Nat) (f : Loop → Loop) : (modLoop s n f).src = s.src := rfl
@[simp] theorem modLoop_purl (s : State) (n : Nat) (f : Loop → Loop) : (modLoop s n f).purl = s.purl := rfl
@[simp] theorem modLoop_pair (s : State) (n : Nat) (f : Loop → Loop) : (modLoop s n f).pair = s.pair := rfl
@[simp] theorem modLoop_mem (s : State) (n : Nat) (f : Loop → Loop) : (modLoop s n f).mem = s.mem := rfl
@[simp] theorem modLoop_dram (s : State) (n : Nat) (f : Loop → Loop) : (modLoop s n f).dram = s.dram := rfl

@[simp] theorem modSd_pending (s : State) (c : Nat) (f : SdChan → SdChan) : (modSd s c f).pending = s.pending := rfl
@[simp] theorem modSd_held (s : State) (c : Nat) (f : SdChan → SdChan) : (modSd s c f).held = s.held := rfl
@[simp] theorem modSd_free (s : State) (c : Nat) (f : SdChan → SdChan) : (modSd s c f).free = s.free := rfl
@[simp] theorem modSd_params (s : State) (c : Nat) (f : SdChan → SdChan) : (modSd s c f).params = s.params := rfl
@[simp] theorem modSd_staged (s : State) (c : Nat) (f : SdChan → SdChan) : (modSd s c f).staged = s.staged := rfl
@[simp] theorem modSd_slots (s : State) (c : Nat) (f : SdChan → SdChan) : (modSd s c f).slots = s.slots := rfl
@[simp] theorem modSd_link (s : State) (c : Nat) (f : SdChan → SdChan) : (modSd s c f).link = s.link := rfl
@[simp] theorem modSd_boot (s : State) (c : Nat) (f : SdChan → SdChan) : (modSd s c f).boot = s.boot := rfl
@[simp] theorem modSd_cal (s : State) (c : Nat) (f : SdChan → SdChan) : (modSd s c f).cal = s.cal := rfl
@[simp] theorem modSd_col (s : State) (c : Nat) (f : SdChan → SdChan) : (modSd s c f).col = s.col := rfl
@[simp] theorem modSd_time (s : State) (c : Nat) (f : SdChan → SdChan) : (modSd s c f).time = s.time := rfl
@[simp] theorem modSd_ports (s : State) (c : Nat) (f : SdChan → SdChan) : (modSd s c f).ports = s.ports := rfl
@[simp] theorem modSd_cap (s : State) (c : Nat) (f : SdChan → SdChan) : (modSd s c f).cap = s.cap := rfl
@[simp] theorem modSd_needle (s : State) (c : Nat) (f : SdChan → SdChan) : (modSd s c f).needle = s.needle := rfl
@[simp] theorem modSd_comp (s : State) (c : Nat) (f : SdChan → SdChan) : (modSd s c f).comp = s.comp := rfl
@[simp] theorem modSd_fe (s : State) (c : Nat) (f : SdChan → SdChan) : (modSd s c f).fe = s.fe := rfl
@[simp] theorem modSd_loops (s : State) (c : Nat) (f : SdChan → SdChan) : (modSd s c f).loops = s.loops := rfl
@[simp] theorem modSd_purl (s : State) (c : Nat) (f : SdChan → SdChan) : (modSd s c f).purl = s.purl := rfl
@[simp] theorem modSd_pair (s : State) (c : Nat) (f : SdChan → SdChan) : (modSd s c f).pair = s.pair := rfl
@[simp] theorem modSd_mem (s : State) (c : Nat) (f : SdChan → SdChan) : (modSd s c f).mem = s.mem := rfl
@[simp] theorem modSd_dram (s : State) (c : Nat) (f : SdChan → SdChan) : (modSd s c f).dram = s.dram := rfl

@[simp] theorem modFe_pending (s : State) (f : FrontEnd → FrontEnd) : (modFe s f).pending = s.pending := rfl
@[simp] theorem modFe_held (s : State) (f : FrontEnd → FrontEnd) : (modFe s f).held = s.held := rfl
@[simp] theorem modFe_free (s : State) (f : FrontEnd → FrontEnd) : (modFe s f).free = s.free := rfl
@[simp] theorem modFe_params (s : State) (f : FrontEnd → FrontEnd) : (modFe s f).params = s.params := rfl
@[simp] theorem modFe_staged (s : State) (f : FrontEnd → FrontEnd) : (modFe s f).staged = s.staged := rfl
@[simp] theorem modFe_slots (s : State) (f : FrontEnd → FrontEnd) : (modFe s f).slots = s.slots := rfl
@[simp] theorem modFe_link (s : State) (f : FrontEnd → FrontEnd) : (modFe s f).link = s.link := rfl
@[simp] theorem modFe_boot (s : State) (f : FrontEnd → FrontEnd) : (modFe s f).boot = s.boot := rfl
@[simp] theorem modFe_cal (s : State) (f : FrontEnd → FrontEnd) : (modFe s f).cal = s.cal := rfl
@[simp] theorem modFe_col (s : State) (f : FrontEnd → FrontEnd) : (modFe s f).col = s.col := rfl
@[simp] theorem modFe_time (s : State) (f : FrontEnd → FrontEnd) : (modFe s f).time = s.time := rfl
@[simp] theorem modFe_ports (s : State) (f : FrontEnd → FrontEnd) : (modFe s f).ports = s.ports := rfl
@[simp] theorem modFe_cap (s : State) (f : FrontEnd → FrontEnd) : (modFe s f).cap = s.cap := rfl
@[simp] theorem modFe_needle (s : State) (f : FrontEnd → FrontEnd) : (modFe s f).needle = s.needle := rfl
@[simp] theorem modFe_comp (s : State) (f : FrontEnd → FrontEnd) : (modFe s f).comp = s.comp := rfl
@[simp] theorem modFe_loops (s : State) (f : FrontEnd → FrontEnd) : (modFe s f).loops = s.loops := rfl
@[simp] theorem modFe_src (s : State) (f : FrontEnd → FrontEnd) : (modFe s f).src = s.src := rfl
@[simp] theorem modFe_purl (s : State) (f : FrontEnd → FrontEnd) : (modFe s f).purl = s.purl := rfl
@[simp] theorem modFe_pair (s : State) (f : FrontEnd → FrontEnd) : (modFe s f).pair = s.pair := rfl
@[simp] theorem modFe_mem (s : State) (f : FrontEnd → FrontEnd) : (modFe s f).mem = s.mem := rfl
@[simp] theorem modFe_dram (s : State) (f : FrontEnd → FrontEnd) : (modFe s f).dram = s.dram := rfl

@[simp] theorem modEntry_pending (s : State) (n : Nat) (f : EntryData → EntryData) : (modEntry s n f).pending = s.pending := rfl
@[simp] theorem modEntry_held (s : State) (n : Nat) (f : EntryData → EntryData) : (modEntry s n f).held = s.held := rfl
@[simp] theorem modEntry_free (s : State) (n : Nat) (f : EntryData → EntryData) : (modEntry s n f).free = s.free := rfl
@[simp] theorem modEntry_params (s : State) (n : Nat) (f : EntryData → EntryData) : (modEntry s n f).params = s.params := rfl
@[simp] theorem modEntry_staged (s : State) (n : Nat) (f : EntryData → EntryData) : (modEntry s n f).staged = s.staged := rfl
@[simp] theorem modEntry_slots (s : State) (n : Nat) (f : EntryData → EntryData) : (modEntry s n f).slots = s.slots := rfl
@[simp] theorem modEntry_link (s : State) (n : Nat) (f : EntryData → EntryData) : (modEntry s n f).link = s.link := rfl
@[simp] theorem modEntry_boot (s : State) (n : Nat) (f : EntryData → EntryData) : (modEntry s n f).boot = s.boot := rfl
@[simp] theorem modEntry_cal (s : State) (n : Nat) (f : EntryData → EntryData) : (modEntry s n f).cal = s.cal := rfl
@[simp] theorem modEntry_col (s : State) (n : Nat) (f : EntryData → EntryData) : (modEntry s n f).col = s.col := rfl
@[simp] theorem modEntry_time (s : State) (n : Nat) (f : EntryData → EntryData) : (modEntry s n f).time = s.time := rfl
@[simp] theorem modEntry_ports (s : State) (n : Nat) (f : EntryData → EntryData) : (modEntry s n f).ports = s.ports := rfl
@[simp] theorem modEntry_cap (s : State) (n : Nat) (f : EntryData → EntryData) : (modEntry s n f).cap = s.cap := rfl
@[simp] theorem modEntry_needle (s : State) (n : Nat) (f : EntryData → EntryData) : (modEntry s n f).needle = s.needle := rfl
@[simp] theorem modEntry_comp (s : State) (n : Nat) (f : EntryData → EntryData) : (modEntry s n f).comp = s.comp := rfl
@[simp] theorem modEntry_loops (s : State) (n : Nat) (f : EntryData → EntryData) : (modEntry s n f).loops = s.loops := rfl
@[simp] theorem modEntry_src (s : State) (n : Nat) (f : EntryData → EntryData) : (modEntry s n f).src = s.src := rfl
@[simp] theorem modEntry_purl (s : State) (n : Nat) (f : EntryData → EntryData) : (modEntry s n f).purl = s.purl := rfl
@[simp] theorem modEntry_pair (s : State) (n : Nat) (f : EntryData → EntryData) : (modEntry s n f).pair = s.pair := rfl
@[simp] theorem modEntry_mem (s : State) (n : Nat) (f : EntryData → EntryData) : (modEntry s n f).mem = s.mem := rfl
@[simp] theorem modEntry_dram (s : State) (n : Nat) (f : EntryData → EntryData) : (modEntry s n f).dram = s.dram := rfl

@[simp] theorem modChan_pending (s : State) (c : Nat) (f : MemChan → MemChan) : (modChan s c f).pending = s.pending := rfl
@[simp] theorem modChan_held (s : State) (c : Nat) (f : MemChan → MemChan) : (modChan s c f).held = s.held := rfl
@[simp] theorem modChan_free (s : State) (c : Nat) (f : MemChan → MemChan) : (modChan s c f).free = s.free := rfl
@[simp] theorem modChan_params (s : State) (c : Nat) (f : MemChan → MemChan) : (modChan s c f).params = s.params := rfl
@[simp] theorem modChan_staged (s : State) (c : Nat) (f : MemChan → MemChan) : (modChan s c f).staged = s.staged := rfl
@[simp] theorem modChan_slots (s : State) (c : Nat) (f : MemChan → MemChan) : (modChan s c f).slots = s.slots := rfl
@[simp] theorem modChan_link (s : State) (c : Nat) (f : MemChan → MemChan) : (modChan s c f).link = s.link := rfl
@[simp] theorem modChan_boot (s : State) (c : Nat) (f : MemChan → MemChan) : (modChan s c f).boot = s.boot := rfl
@[simp] theorem modChan_cal (s : State) (c : Nat) (f : MemChan → MemChan) : (modChan s c f).cal = s.cal := rfl
@[simp] theorem modChan_col (s : State) (c : Nat) (f : MemChan → MemChan) : (modChan s c f).col = s.col := rfl
@[simp] theorem modChan_time (s : State) (c : Nat) (f : MemChan → MemChan) : (modChan s c f).time = s.time := rfl
@[simp] theorem modChan_ports (s : State) (c : Nat) (f : MemChan → MemChan) : (modChan s c f).ports = s.ports := rfl
@[simp] theorem modChan_cap (s : State) (c : Nat) (f : MemChan → MemChan) : (modChan s c f).cap = s.cap := rfl
@[simp] theorem modChan_needle (s : State) (c : Nat) (f : MemChan → MemChan) : (modChan s c f).needle = s.needle := rfl
@[simp] theorem modChan_comp (s : State) (c : Nat) (f : MemChan → MemChan) : (modChan s c f).comp = s.comp := rfl
@[simp] theorem modChan_fe (s : State) (c : Nat) (f : MemChan → MemChan) : (modChan s c f).fe = s.fe := rfl
@[simp] theorem modChan_loops (s : State) (c : Nat) (f : MemChan → MemChan) : (modChan s c f).loops = s.loops := rfl
@[simp] theorem modChan_src (s : State) (c : Nat) (f : MemChan → MemChan) : (modChan s c f).src = s.src := rfl
@[simp] theorem modChan_purl (s : State) (c : Nat) (f : MemChan → MemChan) : (modChan s c f).purl = s.purl := rfl
@[simp] theorem modChan_pair (s : State) (c : Nat) (f : MemChan → MemChan) : (modChan s c f).pair = s.pair := rfl
@[simp] theorem modChan_dram (s : State) (c : Nat) (f : MemChan → MemChan) : (modChan s c f).dram = s.dram := rfl

@[simp] theorem modDev_pending (s : State) (c rank : Nat) (f : MemDev → MemDev) : (modDev s c rank f).pending = s.pending := rfl
@[simp] theorem modDev_held (s : State) (c rank : Nat) (f : MemDev → MemDev) : (modDev s c rank f).held = s.held := rfl
@[simp] theorem modDev_free (s : State) (c rank : Nat) (f : MemDev → MemDev) : (modDev s c rank f).free = s.free := rfl
@[simp] theorem modDev_params (s : State) (c rank : Nat) (f : MemDev → MemDev) : (modDev s c rank f).params = s.params := rfl
@[simp] theorem modDev_staged (s : State) (c rank : Nat) (f : MemDev → MemDev) : (modDev s c rank f).staged = s.staged := rfl
@[simp] theorem modDev_slots (s : State) (c rank : Nat) (f : MemDev → MemDev) : (modDev s c rank f).slots = s.slots := rfl
@[simp] theorem modDev_link (s : State) (c rank : Nat) (f : MemDev → MemDev) : (modDev s c rank f).link = s.link := rfl
@[simp] theorem modDev_boot (s : State) (c rank : Nat) (f : MemDev → MemDev) : (modDev s c rank f).boot = s.boot := rfl
@[simp] theorem modDev_cal (s : State) (c rank : Nat) (f : MemDev → MemDev) : (modDev s c rank f).cal = s.cal := rfl
@[simp] theorem modDev_col (s : State) (c rank : Nat) (f : MemDev → MemDev) : (modDev s c rank f).col = s.col := rfl
@[simp] theorem modDev_time (s : State) (c rank : Nat) (f : MemDev → MemDev) : (modDev s c rank f).time = s.time := rfl
@[simp] theorem modDev_ports (s : State) (c rank : Nat) (f : MemDev → MemDev) : (modDev s c rank f).ports = s.ports := rfl
@[simp] theorem modDev_cap (s : State) (c rank : Nat) (f : MemDev → MemDev) : (modDev s c rank f).cap = s.cap := rfl
@[simp] theorem modDev_needle (s : State) (c rank : Nat) (f : MemDev → MemDev) : (modDev s c rank f).needle = s.needle := rfl
@[simp] theorem modDev_comp (s : State) (c rank : Nat) (f : MemDev → MemDev) : (modDev s c rank f).comp = s.comp := rfl
@[simp] theorem modDev_fe (s : State) (c rank : Nat) (f : MemDev → MemDev) : (modDev s c rank f).fe = s.fe := rfl
@[simp] theorem modDev_loops (s : State) (c rank : Nat) (f : MemDev → MemDev) : (modDev s c rank f).loops = s.loops := rfl
@[simp] theorem modDev_src (s : State) (c rank : Nat) (f : MemDev → MemDev) : (modDev s c rank f).src = s.src := rfl
@[simp] theorem modDev_purl (s : State) (c rank : Nat) (f : MemDev → MemDev) : (modDev s c rank f).purl = s.purl := rfl
@[simp] theorem modDev_pair (s : State) (c rank : Nat) (f : MemDev → MemDev) : (modDev s c rank f).pair = s.pair := rfl
@[simp] theorem modDev_dram (s : State) (c rank : Nat) (f : MemDev → MemDev) : (modDev s c rank f).dram = s.dram := rfl

@[simp] theorem setBootSt_pending (s : State) (b : BootSt) : (setBootSt s b).pending = s.pending := rfl
@[simp] theorem setBootSt_held (s : State) (b : BootSt) : (setBootSt s b).held = s.held := rfl
@[simp] theorem setBootSt_free (s : State) (b : BootSt) : (setBootSt s b).free = s.free := rfl
@[simp] theorem setBootSt_params (s : State) (b : BootSt) : (setBootSt s b).params = s.params := rfl
@[simp] theorem setBootSt_staged (s : State) (b : BootSt) : (setBootSt s b).staged = s.staged := rfl
@[simp] theorem setBootSt_slots (s : State) (b : BootSt) : (setBootSt s b).slots = s.slots := rfl
@[simp] theorem setBootSt_cal (s : State) (b : BootSt) : (setBootSt s b).cal = s.cal := rfl
@[simp] theorem setBootSt_col (s : State) (b : BootSt) : (setBootSt s b).col = s.col := rfl
@[simp] theorem setBootSt_time (s : State) (b : BootSt) : (setBootSt s b).time = s.time := rfl
@[simp] theorem setBootSt_ports (s : State) (b : BootSt) : (setBootSt s b).ports = s.ports := rfl
@[simp] theorem setBootSt_cap (s : State) (b : BootSt) : (setBootSt s b).cap = s.cap := rfl
@[simp] theorem setBootSt_needle (s : State) (b : BootSt) : (setBootSt s b).needle = s.needle := rfl
@[simp] theorem setBootSt_comp (s : State) (b : BootSt) : (setBootSt s b).comp = s.comp := rfl
@[simp] theorem setBootSt_fe (s : State) (b : BootSt) : (setBootSt s b).fe = s.fe := rfl
@[simp] theorem setBootSt_loops (s : State) (b : BootSt) : (setBootSt s b).loops = s.loops := rfl
@[simp] theorem setBootSt_src (s : State) (b : BootSt) : (setBootSt s b).src = s.src := rfl
@[simp] theorem setBootSt_purl (s : State) (b : BootSt) : (setBootSt s b).purl = s.purl := rfl
@[simp] theorem setBootSt_pair (s : State) (b : BootSt) : (setBootSt s b).pair = s.pair := rfl
@[simp] theorem setBootSt_mem (s : State) (b : BootSt) : (setBootSt s b).mem = s.mem := rfl
@[simp] theorem setBootSt_dram (s : State) (b : BootSt) : (setBootSt s b).dram = s.dram := rfl

@[simp] theorem setBindOff_pending (s : State) (b : BindOff) : (setBindOff s b).pending = s.pending := rfl
@[simp] theorem setBindOff_held (s : State) (b : BindOff) : (setBindOff s b).held = s.held := rfl
@[simp] theorem setBindOff_free (s : State) (b : BindOff) : (setBindOff s b).free = s.free := rfl
@[simp] theorem setBindOff_params (s : State) (b : BindOff) : (setBindOff s b).params = s.params := rfl
@[simp] theorem setBindOff_staged (s : State) (b : BindOff) : (setBindOff s b).staged = s.staged := rfl
@[simp] theorem setBindOff_slots (s : State) (b : BindOff) : (setBindOff s b).slots = s.slots := rfl
@[simp] theorem setBindOff_link (s : State) (b : BindOff) : (setBindOff s b).link = s.link := rfl
@[simp] theorem setBindOff_cal (s : State) (b : BindOff) : (setBindOff s b).cal = s.cal := rfl
@[simp] theorem setBindOff_col (s : State) (b : BindOff) : (setBindOff s b).col = s.col := rfl
@[simp] theorem setBindOff_time (s : State) (b : BindOff) : (setBindOff s b).time = s.time := rfl
@[simp] theorem setBindOff_ports (s : State) (b : BindOff) : (setBindOff s b).ports = s.ports := rfl
@[simp] theorem setBindOff_cap (s : State) (b : BindOff) : (setBindOff s b).cap = s.cap := rfl
@[simp] theorem setBindOff_needle (s : State) (b : BindOff) : (setBindOff s b).needle = s.needle := rfl
@[simp] theorem setBindOff_comp (s : State) (b : BindOff) : (setBindOff s b).comp = s.comp := rfl
@[simp] theorem setBindOff_fe (s : State) (b : BindOff) : (setBindOff s b).fe = s.fe := rfl
@[simp] theorem setBindOff_loops (s : State) (b : BindOff) : (setBindOff s b).loops = s.loops := rfl
@[simp] theorem setBindOff_src (s : State) (b : BindOff) : (setBindOff s b).src = s.src := rfl
@[simp] theorem setBindOff_purl (s : State) (b : BindOff) : (setBindOff s b).purl = s.purl := rfl
@[simp] theorem setBindOff_pair (s : State) (b : BindOff) : (setBindOff s b).pair = s.pair := rfl
@[simp] theorem setBindOff_mem (s : State) (b : BindOff) : (setBindOff s b).mem = s.mem := rfl
@[simp] theorem setBindOff_dram (s : State) (b : BindOff) : (setBindOff s b).dram = s.dram := rfl

@[simp] theorem calSet_pending (s : State) (dom ins : Nat) (x : CalRec) : (calSet s dom ins x).pending = s.pending := rfl
@[simp] theorem calSet_held (s : State) (dom ins : Nat) (x : CalRec) : (calSet s dom ins x).held = s.held := rfl
@[simp] theorem calSet_free (s : State) (dom ins : Nat) (x : CalRec) : (calSet s dom ins x).free = s.free := rfl
@[simp] theorem calSet_params (s : State) (dom ins : Nat) (x : CalRec) : (calSet s dom ins x).params = s.params := rfl
@[simp] theorem calSet_staged (s : State) (dom ins : Nat) (x : CalRec) : (calSet s dom ins x).staged = s.staged := rfl
@[simp] theorem calSet_slots (s : State) (dom ins : Nat) (x : CalRec) : (calSet s dom ins x).slots = s.slots := rfl
@[simp] theorem calSet_link (s : State) (dom ins : Nat) (x : CalRec) : (calSet s dom ins x).link = s.link := rfl
@[simp] theorem calSet_boot (s : State) (dom ins : Nat) (x : CalRec) : (calSet s dom ins x).boot = s.boot := rfl
@[simp] theorem calSet_col (s : State) (dom ins : Nat) (x : CalRec) : (calSet s dom ins x).col = s.col := rfl
@[simp] theorem calSet_time (s : State) (dom ins : Nat) (x : CalRec) : (calSet s dom ins x).time = s.time := rfl
@[simp] theorem calSet_ports (s : State) (dom ins : Nat) (x : CalRec) : (calSet s dom ins x).ports = s.ports := rfl
@[simp] theorem calSet_cap (s : State) (dom ins : Nat) (x : CalRec) : (calSet s dom ins x).cap = s.cap := rfl
@[simp] theorem calSet_needle (s : State) (dom ins : Nat) (x : CalRec) : (calSet s dom ins x).needle = s.needle := rfl
@[simp] theorem calSet_comp (s : State) (dom ins : Nat) (x : CalRec) : (calSet s dom ins x).comp = s.comp := rfl
@[simp] theorem calSet_fe (s : State) (dom ins : Nat) (x : CalRec) : (calSet s dom ins x).fe = s.fe := rfl
@[simp] theorem calSet_loops (s : State) (dom ins : Nat) (x : CalRec) : (calSet s dom ins x).loops = s.loops := rfl
@[simp] theorem calSet_src (s : State) (dom ins : Nat) (x : CalRec) : (calSet s dom ins x).src = s.src := rfl
@[simp] theorem calSet_purl (s : State) (dom ins : Nat) (x : CalRec) : (calSet s dom ins x).purl = s.purl := rfl
@[simp] theorem calSet_pair (s : State) (dom ins : Nat) (x : CalRec) : (calSet s dom ins x).pair = s.pair := rfl
@[simp] theorem calSet_mem (s : State) (dom ins : Nat) (x : CalRec) : (calSet s dom ins x).mem = s.mem := rfl
@[simp] theorem calSet_dram (s : State) (dom ins : Nat) (x : CalRec) : (calSet s dom ins x).dram = s.dram := rfl

@[simp] theorem calBegin_pending (s : State) (dom ins : Nat) (st : CalSt) : (calBegin s dom ins st).pending = s.pending := rfl
@[simp] theorem calBegin_held (s : State) (dom ins : Nat) (st : CalSt) : (calBegin s dom ins st).held = s.held := rfl
@[simp] theorem calBegin_free (s : State) (dom ins : Nat) (st : CalSt) : (calBegin s dom ins st).free = s.free := rfl
@[simp] theorem calBegin_params (s : State) (dom ins : Nat) (st : CalSt) : (calBegin s dom ins st).params = s.params := rfl
@[simp] theorem calBegin_staged (s : State) (dom ins : Nat) (st : CalSt) : (calBegin s dom ins st).staged = s.staged := rfl
@[simp] theorem calBegin_slots (s : State) (dom ins : Nat) (st : CalSt) : (calBegin s dom ins st).slots = s.slots := rfl
@[simp] theorem calBegin_link (s : State) (dom ins : Nat) (st : CalSt) : (calBegin s dom ins st).link = s.link := rfl
@[simp] theorem calBegin_boot (s : State) (dom ins : Nat) (st : CalSt) : (calBegin s dom ins st).boot = s.boot := rfl
@[simp] theorem calBegin_col (s : State) (dom ins : Nat) (st : CalSt) : (calBegin s dom ins st).col = s.col := rfl
@[simp] theorem calBegin_time (s : State) (dom ins : Nat) (st : CalSt) : (calBegin s dom ins st).time = s.time := rfl
@[simp] theorem calBegin_ports (s : State) (dom ins : Nat) (st : CalSt) : (calBegin s dom ins st).ports = s.ports := rfl
@[simp] theorem calBegin_cap (s : State) (dom ins : Nat) (st : CalSt) : (calBegin s dom ins st).cap = s.cap := rfl
@[simp] theorem calBegin_needle (s : State) (dom ins : Nat) (st : CalSt) : (calBegin s dom ins st).needle = s.needle := rfl
@[simp] theorem calBegin_comp (s : State) (dom ins : Nat) (st : CalSt) : (calBegin s dom ins st).comp = s.comp := rfl
@[simp] theorem calBegin_fe (s : State) (dom ins : Nat) (st : CalSt) : (calBegin s dom ins st).fe = s.fe := rfl
@[simp] theorem calBegin_loops (s : State) (dom ins : Nat) (st : CalSt) : (calBegin s dom ins st).loops = s.loops := rfl
@[simp] theorem calBegin_src (s : State) (dom ins : Nat) (st : CalSt) : (calBegin s dom ins st).src = s.src := rfl
@[simp] theorem calBegin_purl (s : State) (dom ins : Nat) (st : CalSt) : (calBegin s dom ins st).purl = s.purl := rfl
@[simp] theorem calBegin_pair (s : State) (dom ins : Nat) (st : CalSt) : (calBegin s dom ins st).pair = s.pair := rfl
@[simp] theorem calBegin_mem (s : State) (dom ins : Nat) (st : CalSt) : (calBegin s dom ins st).mem = s.mem := rfl
@[simp] theorem calBegin_dram (s : State) (dom ins : Nat) (st : CalSt) : (calBegin s dom ins st).dram = s.dram := rfl

@[simp] theorem calFail_pending (s : State) (dom ins : Nat) : (calFail s dom ins).pending = s.pending := rfl
@[simp] theorem calFail_held (s : State) (dom ins : Nat) : (calFail s dom ins).held = s.held := rfl
@[simp] theorem calFail_free (s : State) (dom ins : Nat) : (calFail s dom ins).free = s.free := rfl
@[simp] theorem calFail_params (s : State) (dom ins : Nat) : (calFail s dom ins).params = s.params := rfl
@[simp] theorem calFail_staged (s : State) (dom ins : Nat) : (calFail s dom ins).staged = s.staged := rfl
@[simp] theorem calFail_slots (s : State) (dom ins : Nat) : (calFail s dom ins).slots = s.slots := rfl
@[simp] theorem calFail_link (s : State) (dom ins : Nat) : (calFail s dom ins).link = s.link := rfl
@[simp] theorem calFail_boot (s : State) (dom ins : Nat) : (calFail s dom ins).boot = s.boot := rfl
@[simp] theorem calFail_col (s : State) (dom ins : Nat) : (calFail s dom ins).col = s.col := rfl
@[simp] theorem calFail_time (s : State) (dom ins : Nat) : (calFail s dom ins).time = s.time := rfl
@[simp] theorem calFail_ports (s : State) (dom ins : Nat) : (calFail s dom ins).ports = s.ports := rfl
@[simp] theorem calFail_cap (s : State) (dom ins : Nat) : (calFail s dom ins).cap = s.cap := rfl
@[simp] theorem calFail_needle (s : State) (dom ins : Nat) : (calFail s dom ins).needle = s.needle := rfl
@[simp] theorem calFail_comp (s : State) (dom ins : Nat) : (calFail s dom ins).comp = s.comp := rfl
@[simp] theorem calFail_fe (s : State) (dom ins : Nat) : (calFail s dom ins).fe = s.fe := rfl
@[simp] theorem calFail_loops (s : State) (dom ins : Nat) : (calFail s dom ins).loops = s.loops := rfl
@[simp] theorem calFail_src (s : State) (dom ins : Nat) : (calFail s dom ins).src = s.src := rfl
@[simp] theorem calFail_purl (s : State) (dom ins : Nat) : (calFail s dom ins).purl = s.purl := rfl
@[simp] theorem calFail_pair (s : State) (dom ins : Nat) : (calFail s dom ins).pair = s.pair := rfl
@[simp] theorem calFail_mem (s : State) (dom ins : Nat) : (calFail s dom ins).mem = s.mem := rfl
@[simp] theorem calFail_dram (s : State) (dom ins : Nat) : (calFail s dom ins).dram = s.dram := rfl

@[simp] theorem repairAdd_pending (s : State) (u : RepairUnit) : (repairAdd s u).pending = s.pending := by unfold repairAdd; (try dsimp only); split <;> rfl
@[simp] theorem repairAdd_held (s : State) (u : RepairUnit) : (repairAdd s u).held = s.held := by unfold repairAdd; (try dsimp only); split <;> rfl
@[simp] theorem repairAdd_free (s : State) (u : RepairUnit) : (repairAdd s u).free = s.free := by unfold repairAdd; (try dsimp only); split <;> rfl
@[simp] theorem repairAdd_params (s : State) (u : RepairUnit) : (repairAdd s u).params = s.params := by unfold repairAdd; (try dsimp only); split <;> rfl
@[simp] theorem repairAdd_staged (s : State) (u : RepairUnit) : (repairAdd s u).staged = s.staged := by unfold repairAdd; (try dsimp only); split <;> rfl
@[simp] theorem repairAdd_slots (s : State) (u : RepairUnit) : (repairAdd s u).slots = s.slots := by unfold repairAdd; (try dsimp only); split <;> rfl
@[simp] theorem repairAdd_link (s : State) (u : RepairUnit) : (repairAdd s u).link = s.link := by unfold repairAdd; (try dsimp only); split <;> rfl
@[simp] theorem repairAdd_boot (s : State) (u : RepairUnit) : (repairAdd s u).boot = s.boot := by unfold repairAdd; (try dsimp only); split <;> rfl
@[simp] theorem repairAdd_col (s : State) (u : RepairUnit) : (repairAdd s u).col = s.col := by unfold repairAdd; (try dsimp only); split <;> rfl
@[simp] theorem repairAdd_time (s : State) (u : RepairUnit) : (repairAdd s u).time = s.time := by unfold repairAdd; (try dsimp only); split <;> rfl
@[simp] theorem repairAdd_ports (s : State) (u : RepairUnit) : (repairAdd s u).ports = s.ports := by unfold repairAdd; (try dsimp only); split <;> rfl
@[simp] theorem repairAdd_cap (s : State) (u : RepairUnit) : (repairAdd s u).cap = s.cap := by unfold repairAdd; (try dsimp only); split <;> rfl
@[simp] theorem repairAdd_needle (s : State) (u : RepairUnit) : (repairAdd s u).needle = s.needle := by unfold repairAdd; (try dsimp only); split <;> rfl
@[simp] theorem repairAdd_comp (s : State) (u : RepairUnit) : (repairAdd s u).comp = s.comp := by unfold repairAdd; (try dsimp only); split <;> rfl
@[simp] theorem repairAdd_fe (s : State) (u : RepairUnit) : (repairAdd s u).fe = s.fe := by unfold repairAdd; (try dsimp only); split <;> rfl
@[simp] theorem repairAdd_loops (s : State) (u : RepairUnit) : (repairAdd s u).loops = s.loops := by unfold repairAdd; (try dsimp only); split <;> rfl
@[simp] theorem repairAdd_src (s : State) (u : RepairUnit) : (repairAdd s u).src = s.src := by unfold repairAdd; (try dsimp only); split <;> rfl
@[simp] theorem repairAdd_purl (s : State) (u : RepairUnit) : (repairAdd s u).purl = s.purl := by unfold repairAdd; (try dsimp only); split <;> rfl
@[simp] theorem repairAdd_pair (s : State) (u : RepairUnit) : (repairAdd s u).pair = s.pair := by unfold repairAdd; (try dsimp only); split <;> rfl
@[simp] theorem repairAdd_mem (s : State) (u : RepairUnit) : (repairAdd s u).mem = s.mem := by unfold repairAdd; (try dsimp only); split <;> rfl
@[simp] theorem repairAdd_dram (s : State) (u : RepairUnit) : (repairAdd s u).dram = s.dram := by unfold repairAdd; (try dsimp only); split <;> rfl

@[simp] theorem repairDrop_pending (s : State) (u : RepairUnit) : (repairDrop s u).pending = s.pending := rfl
@[simp] theorem repairDrop_held (s : State) (u : RepairUnit) : (repairDrop s u).held = s.held := rfl
@[simp] theorem repairDrop_free (s : State) (u : RepairUnit) : (repairDrop s u).free = s.free := rfl
@[simp] theorem repairDrop_params (s : State) (u : RepairUnit) : (repairDrop s u).params = s.params := rfl
@[simp] theorem repairDrop_staged (s : State) (u : RepairUnit) : (repairDrop s u).staged = s.staged := rfl
@[simp] theorem repairDrop_slots (s : State) (u : RepairUnit) : (repairDrop s u).slots = s.slots := rfl
@[simp] theorem repairDrop_link (s : State) (u : RepairUnit) : (repairDrop s u).link = s.link := rfl
@[simp] theorem repairDrop_boot (s : State) (u : RepairUnit) : (repairDrop s u).boot = s.boot := rfl
@[simp] theorem repairDrop_col (s : State) (u : RepairUnit) : (repairDrop s u).col = s.col := rfl
@[simp] theorem repairDrop_time (s : State) (u : RepairUnit) : (repairDrop s u).time = s.time := rfl
@[simp] theorem repairDrop_ports (s : State) (u : RepairUnit) : (repairDrop s u).ports = s.ports := rfl
@[simp] theorem repairDrop_cap (s : State) (u : RepairUnit) : (repairDrop s u).cap = s.cap := rfl
@[simp] theorem repairDrop_needle (s : State) (u : RepairUnit) : (repairDrop s u).needle = s.needle := rfl
@[simp] theorem repairDrop_comp (s : State) (u : RepairUnit) : (repairDrop s u).comp = s.comp := rfl
@[simp] theorem repairDrop_fe (s : State) (u : RepairUnit) : (repairDrop s u).fe = s.fe := rfl
@[simp] theorem repairDrop_loops (s : State) (u : RepairUnit) : (repairDrop s u).loops = s.loops := rfl
@[simp] theorem repairDrop_src (s : State) (u : RepairUnit) : (repairDrop s u).src = s.src := rfl
@[simp] theorem repairDrop_purl (s : State) (u : RepairUnit) : (repairDrop s u).purl = s.purl := rfl
@[simp] theorem repairDrop_pair (s : State) (u : RepairUnit) : (repairDrop s u).pair = s.pair := rfl
@[simp] theorem repairDrop_mem (s : State) (u : RepairUnit) : (repairDrop s u).mem = s.mem := rfl
@[simp] theorem repairDrop_dram (s : State) (u : RepairUnit) : (repairDrop s u).dram = s.dram := rfl

@[simp] theorem advanceTime_pending (s : State) : (advanceTime s).pending = s.pending := rfl
@[simp] theorem advanceTime_held (s : State) : (advanceTime s).held = s.held := rfl
@[simp] theorem advanceTime_free (s : State) : (advanceTime s).free = s.free := rfl
@[simp] theorem advanceTime_params (s : State) : (advanceTime s).params = s.params := rfl
@[simp] theorem advanceTime_staged (s : State) : (advanceTime s).staged = s.staged := rfl
@[simp] theorem advanceTime_slots (s : State) : (advanceTime s).slots = s.slots := rfl
@[simp] theorem advanceTime_link (s : State) : (advanceTime s).link = s.link := rfl
@[simp] theorem advanceTime_boot (s : State) : (advanceTime s).boot = s.boot := rfl
@[simp] theorem advanceTime_cal (s : State) : (advanceTime s).cal = s.cal := rfl
@[simp] theorem advanceTime_col (s : State) : (advanceTime s).col = s.col := rfl
@[simp] theorem advanceTime_ports (s : State) : (advanceTime s).ports = s.ports := rfl
@[simp] theorem advanceTime_cap (s : State) : (advanceTime s).cap = s.cap := rfl
@[simp] theorem advanceTime_needle (s : State) : (advanceTime s).needle = s.needle := rfl
@[simp] theorem advanceTime_comp (s : State) : (advanceTime s).comp = s.comp := rfl
@[simp] theorem advanceTime_fe (s : State) : (advanceTime s).fe = s.fe := rfl
@[simp] theorem advanceTime_loops (s : State) : (advanceTime s).loops = s.loops := rfl
@[simp] theorem advanceTime_src (s : State) : (advanceTime s).src = s.src := rfl
@[simp] theorem advanceTime_purl (s : State) : (advanceTime s).purl = s.purl := rfl
@[simp] theorem advanceTime_pair (s : State) : (advanceTime s).pair = s.pair := rfl
@[simp] theorem advanceTime_mem (s : State) : (advanceTime s).mem = s.mem := rfl
@[simp] theorem advanceTime_dram (s : State) : (advanceTime s).dram = s.dram := rfl

@[simp] theorem carry_pending (s : State) (src : Nat) : (carry s src).pending = s.pending := rfl
@[simp] theorem carry_held (s : State) (src : Nat) : (carry s src).held = s.held := rfl
@[simp] theorem carry_free (s : State) (src : Nat) : (carry s src).free = s.free := rfl
@[simp] theorem carry_params (s : State) (src : Nat) : (carry s src).params = s.params := rfl
@[simp] theorem carry_staged (s : State) (src : Nat) : (carry s src).staged = s.staged := rfl
@[simp] theorem carry_slots (s : State) (src : Nat) : (carry s src).slots = s.slots := rfl
@[simp] theorem carry_link (s : State) (src : Nat) : (carry s src).link = s.link := rfl
@[simp] theorem carry_cal (s : State) (src : Nat) : (carry s src).cal = s.cal := rfl
@[simp] theorem carry_col (s : State) (src : Nat) : (carry s src).col = s.col := rfl
@[simp] theorem carry_time (s : State) (src : Nat) : (carry s src).time = s.time := rfl
@[simp] theorem carry_ports (s : State) (src : Nat) : (carry s src).ports = s.ports := rfl
@[simp] theorem carry_cap (s : State) (src : Nat) : (carry s src).cap = s.cap := rfl
@[simp] theorem carry_needle (s : State) (src : Nat) : (carry s src).needle = s.needle := rfl
@[simp] theorem carry_comp (s : State) (src : Nat) : (carry s src).comp = s.comp := rfl
@[simp] theorem carry_fe (s : State) (src : Nat) : (carry s src).fe = s.fe := rfl
@[simp] theorem carry_loops (s : State) (src : Nat) : (carry s src).loops = s.loops := rfl
@[simp] theorem carry_src (s : State) (src : Nat) : (carry s src).src = s.src := rfl
@[simp] theorem carry_purl (s : State) (src : Nat) : (carry s src).purl = s.purl := rfl
@[simp] theorem carry_pair (s : State) (src : Nat) : (carry s src).pair = s.pair := rfl
@[simp] theorem carry_mem (s : State) (src : Nat) : (carry s src).mem = s.mem := rfl
@[simp] theorem carry_dram (s : State) (src : Nat) : (carry s src).dram = s.dram := rfl

@[simp] theorem modBank_pending (s : State) (c rank bank : Nat) (f : MemBank → MemBank) : (modBank s c rank bank f).pending = s.pending := rfl
@[simp] theorem modBank_held (s : State) (c rank bank : Nat) (f : MemBank → MemBank) : (modBank s c rank bank f).held = s.held := rfl
@[simp] theorem modBank_free (s : State) (c rank bank : Nat) (f : MemBank → MemBank) : (modBank s c rank bank f).free = s.free := rfl
@[simp] theorem modBank_params (s : State) (c rank bank : Nat) (f : MemBank → MemBank) : (modBank s c rank bank f).params = s.params := rfl
@[simp] theorem modBank_staged (s : State) (c rank bank : Nat) (f : MemBank → MemBank) : (modBank s c rank bank f).staged = s.staged := rfl
@[simp] theorem modBank_slots (s : State) (c rank bank : Nat) (f : MemBank → MemBank) : (modBank s c rank bank f).slots = s.slots := rfl
@[simp] theorem modBank_link (s : State) (c rank bank : Nat) (f : MemBank → MemBank) : (modBank s c rank bank f).link = s.link := rfl
@[simp] theorem modBank_boot (s : State) (c rank bank : Nat) (f : MemBank → MemBank) : (modBank s c rank bank f).boot = s.boot := rfl
@[simp] theorem modBank_cal (s : State) (c rank bank : Nat) (f : MemBank → MemBank) : (modBank s c rank bank f).cal = s.cal := rfl
@[simp] theorem modBank_col (s : State) (c rank bank : Nat) (f : MemBank → MemBank) : (modBank s c rank bank f).col = s.col := rfl
@[simp] theorem modBank_time (s : State) (c rank bank : Nat) (f : MemBank → MemBank) : (modBank s c rank bank f).time = s.time := rfl
@[simp] theorem modBank_ports (s : State) (c rank bank : Nat) (f : MemBank → MemBank) : (modBank s c rank bank f).ports = s.ports := rfl
@[simp] theorem modBank_cap (s : State) (c rank bank : Nat) (f : MemBank → MemBank) : (modBank s c rank bank f).cap = s.cap := rfl
@[simp] theorem modBank_needle (s : State) (c rank bank : Nat) (f : MemBank → MemBank) : (modBank s c rank bank f).needle = s.needle := rfl
@[simp] theorem modBank_comp (s : State) (c rank bank : Nat) (f : MemBank → MemBank) : (modBank s c rank bank f).comp = s.comp := rfl
@[simp] theorem modBank_fe (s : State) (c rank bank : Nat) (f : MemBank → MemBank) : (modBank s c rank bank f).fe = s.fe := rfl
@[simp] theorem modBank_loops (s : State) (c rank bank : Nat) (f : MemBank → MemBank) : (modBank s c rank bank f).loops = s.loops := rfl
@[simp] theorem modBank_src (s : State) (c rank bank : Nat) (f : MemBank → MemBank) : (modBank s c rank bank f).src = s.src := rfl
@[simp] theorem modBank_purl (s : State) (c rank bank : Nat) (f : MemBank → MemBank) : (modBank s c rank bank f).purl = s.purl := rfl
@[simp] theorem modBank_pair (s : State) (c rank bank : Nat) (f : MemBank → MemBank) : (modBank s c rank bank f).pair = s.pair := rfl
@[simp] theorem modBank_dram (s : State) (c rank bank : Nat) (f : MemBank → MemBank) : (modBank s c rank bank f).dram = s.dram := rfl

@[simp] theorem setDet_pending (s : State) (z d : Nat) (x : Det) : (setDet s z d x).pending = s.pending := rfl
@[simp] theorem setDet_held (s : State) (z d : Nat) (x : Det) : (setDet s z d x).held = s.held := rfl
@[simp] theorem setDet_free (s : State) (z d : Nat) (x : Det) : (setDet s z d x).free = s.free := rfl
@[simp] theorem setDet_params (s : State) (z d : Nat) (x : Det) : (setDet s z d x).params = s.params := rfl
@[simp] theorem setDet_staged (s : State) (z d : Nat) (x : Det) : (setDet s z d x).staged = s.staged := rfl
@[simp] theorem setDet_slots (s : State) (z d : Nat) (x : Det) : (setDet s z d x).slots = s.slots := rfl
@[simp] theorem setDet_link (s : State) (z d : Nat) (x : Det) : (setDet s z d x).link = s.link := rfl
@[simp] theorem setDet_boot (s : State) (z d : Nat) (x : Det) : (setDet s z d x).boot = s.boot := rfl
@[simp] theorem setDet_cal (s : State) (z d : Nat) (x : Det) : (setDet s z d x).cal = s.cal := rfl
@[simp] theorem setDet_col (s : State) (z d : Nat) (x : Det) : (setDet s z d x).col = s.col := rfl
@[simp] theorem setDet_time (s : State) (z d : Nat) (x : Det) : (setDet s z d x).time = s.time := rfl
@[simp] theorem setDet_ports (s : State) (z d : Nat) (x : Det) : (setDet s z d x).ports = s.ports := rfl
@[simp] theorem setDet_needle (s : State) (z d : Nat) (x : Det) : (setDet s z d x).needle = s.needle := rfl
@[simp] theorem setDet_comp (s : State) (z d : Nat) (x : Det) : (setDet s z d x).comp = s.comp := rfl
@[simp] theorem setDet_fe (s : State) (z d : Nat) (x : Det) : (setDet s z d x).fe = s.fe := rfl
@[simp] theorem setDet_loops (s : State) (z d : Nat) (x : Det) : (setDet s z d x).loops = s.loops := rfl
@[simp] theorem setDet_src (s : State) (z d : Nat) (x : Det) : (setDet s z d x).src = s.src := rfl
@[simp] theorem setDet_purl (s : State) (z d : Nat) (x : Det) : (setDet s z d x).purl = s.purl := rfl
@[simp] theorem setDet_pair (s : State) (z d : Nat) (x : Det) : (setDet s z d x).pair = s.pair := rfl
@[simp] theorem setDet_mem (s : State) (z d : Nat) (x : Det) : (setDet s z d x).mem = s.mem := rfl
@[simp] theorem setDet_dram (s : State) (z d : Nat) (x : Det) : (setDet s z d x).dram = s.dram := rfl

end Sys2Proof.Machine
end

