-- ==== Sys2Proof/Machine/Pins.lean ====
section
/-! DEFINITION. Machine/Pins.lean: what stands on the pins at a time: GATE, TGATE and GLVL of a port under GATE_POL, its DAC
words, the source-drive outputs, FAULT_N, CLKREQ_N, ACT_OUT, PPS_OUT and the TRIGOUT pins (02 R35, R38, R39, R45, R49; 07 R170; 08
R188; 12 R262, R263; 14 R314; 17 R356; 18 R384; 21 Table 21-5). -/

namespace Sys2Proof.Machine

/-- Does a time lie in a pulse, from its opening up to its closing? -/
def inPulse (t from_ to_ : Nat) : Bool := decide (from_ ≤ t) && decide (t < to_)

/-- The level of a launch output: none before the port's first PORT_APPLY, when the pin is not driven; otherwise high or low, the
active level being that of GATE_POL (02 R38; 21 Table 21-5). -/
def pinLevel (s : State) (p : Nat) (active : Bool) : Option Bool :=
  if s.boot.pinsDriven.contains p then some (active != decide (getP s 0x03 p pGATE_POL = 1)) else none

/-- Is the port's gate open at a time: a launch or a proof pulse (02 R38, R49)? -/
def gateOpen (x : Port) (t : Nat) : Bool := inPulse t x.gateFrom x.gateTo || inPulse t x.proofFrom x.proofTo

/-- The GATE pin (02 R38). -/
def gatePin (s : State) (p t : Nat) : Option Bool := pinLevel s p (gateOpen (portOf s p) t)

/-- The TGATE pin (02 R39). -/
def tgatePin (s : State) (p t : Nat) : Option Bool := pinLevel s p (inPulse t (portOf s p).tgateFrom (portOf s p).tgateTo)

/-- The GLVL pin, high in a proof window; its inactive level is GATE_POL's (02 Table 02-6; 21 Table 21-5). -/
def glvlPin (s : State) (p t : Nat) : Option Bool := pinLevel s p (inPulse t (portOf s p).glvlFrom (portOf s p).glvlTo)

/-- The words that a port's DACs hold at a time: mid-code while it is IDLE, the chirp's words while one plays, and the offset codes
between chirps (02 R35, Table 02-4). -/
def dacPins (s : State) (p t : Nat) : Int × Int :=
  let x := portOf s p
  let v := pv s p
  if x.st = .idle then (0, 0)
  else
    match x.chirp with
    | some c =>
      if inPulse t c.at_ (c.at_ + planTauTs v) then dacWords v c.ply ((t - c.at_) / 128) else (v pOFFSET_I, v pOFFSET_Q)
    | none => (v pOFFSET_I, v pOFFSET_Q)

/-! ### The source-drive pins (12 R262, R263) -/

/-- The FCLK count within a channel's present carrier period, from an SCLK count (12 R262). -/
def sdPhase (s : State) (c clk : Nat) : Nat := (clk - (sdOf s c).periodAt) / 2 % 2 ^ sdBits s c

/-- The outputs of a bridge at a count of its period: the PWM and its inverse, each rising 8 counts after the other has fallen (12 R263;
log 189). -/
def bridgeOut (full phase : Nat) (count : Int) : Bool × Bool :=
  if count ≤ 0 then (false, true)
  else if (full : Int) ≤ count then (true, false)
  else (decide (8 ≤ phase) && decide ((phase : Int) < count), decide (count + 8 ≤ (phase : Int)))

/-- The level of SDn at an SCLK count: high for the first C counts of a carrier period, low while the channel is not driven; a bridge drives
two pins, which SD_POL exchanges (12 R262, R263, R265; log 189). -/
def sdPin (s : State) (c clk : Nat) : Bool :=
  let paired := decide ((sdOf s c).hold = .paired)
  let e := if paired then c - 1 else c
  let x := sdOf s e
  if x.low then false
  else if x.hold ≠ .pps && sdKind s e = 2 then
    let o := bridgeOut (2 ^ sdBits s e) (sdPhase s e clk) x.count
    if paired != decide (sdP s e dSD_POL = 1) then o.2 else o.1
  else decide ((sdPhase s e clk : Int) < x.count)

/-! ### The other outputs of Table 21-5 -/

/-- FAULT_N, open drain: driven low, or not driven (18 R384, R385). -/
def faultPin (s : State) : Option Bool := if s.col.pinLow then some false else none

/-- CLKREQ_N: high impedance until 5 ms of cast-on, then low (14 R314; 21 Table 21-5). -/
def clkreqPin (s : State) : Option Bool := if s.link.clkreqLow then some false else none

/-- PPS_OUT (08 R188). -/
def ppsPin (s : State) : Bool := s.time.ppsOut

/-- TRIGOUT0 and TRIGOUT1 at a time: high within a pulse (07 R170). -/
def trigoutPin (s : State) (pin t : Nat) : Bool :=
  match nth none s.cap.trigOut pin with
  | some q => inPulse t q.1 q.2
  | none => false

/-- SCLK ticks of a period of the ACT_OUT wave, 800 ns (17 R356). -/
abbrev waveTicks : Nat := 1000

/-- ACT_OUT at an SCLK count: a square wave while the unit holds one, low otherwise; where a period begins is an open constant (17 R356;
log 198). -/
def actPin (s : State) (clk : Nat) : Bool := s.pair.wave && decide ((clk + Config.wavePhase) % waveTicks < waveTicks / 2)

/-- LOOPn: what it drives, 0.1 µA or 10 µV, while it is enabled or releasing; 0 V with the transistor off otherwise (11 R256, R259). -/
def loopPin (s : State) (n : Nat) : Int := if (loopOf s n).st = .off then 0 else (loopOf s n).drive

end Sys2Proof.Machine
end

