-- ==== Sys2Proof/Tests/Slice0.lean ====
section
/-! SUPPORT. Tests/Slice0.lean: the model's own tests. -/

namespace Sys2Proof.Tests

set_option Elab.async false

open Sys2Proof.Machine

/-! ### States the tests start from -/

/-- A unit that has booted and takes commands, long after reset. -/
def ready : State :=
  { State.reset with
    boot := { State.reset.boot with st := .ready, fwRuns := true, porstLow := false, rootLocked := true, dramTrained := true }
    col := { State.reset.col with pinLow := false }
    time := { State.reset.time with sclk := 10 ^ 14, ticks := 10 ^ 14 } }

/-- A request in the last mailbox slot. -/
def rq : Req := ⟨63, 0xFFFF, true⟩

/-- A plan item applied. -/
def withP (dom ins item : Nat) (v : Int) (s : State) : State := setP s dom ins item v

/-- An item staged. -/
def withS (dom ins item : Nat) (v : Int) (s : State) : State := stage s (objId dom ins item) v

/-- A port running a plan, its shots started and a shot open. -/
def running (p : Nat) : State :=
  modPort ready p (fun x => { x with st := .running, launched := true, shotOpen := true, shots := 1, planShots := 1 })

/-- A launch at a time. -/
def launchAt (gate : Nat) : Launch := ⟨0, 0, 0, gate, tk (tickOf gate), none, false, false, false, false, 0, false, false⟩

/-- A channel of the TDC with a measured edge. -/
def measured (c ts : Nat) (s : State) : State :=
  { s with time := { s.time with tdc := kmod tdcBlank s.time.tdc c (fun x => { x with meas := [⟨ts, 0, false, false, 10 ^ 14⟩] }) } }

/-- A transfer descriptor of host bytes. -/
def bulkOf (tag len : Nat) (data : List Byte) : Bulk :=
  ⟨leBytes 2 0x4844 ++ zeros 46 ++ leBytes 4 tag ++ leBytes 4 len ++ zeros 8, data⟩

theorem test_rq_wf : mailboxOpen ready rq.slot = true := by decide

/-! ### The hypotheses of the statements are met: 00, 02 -/

theorem test_premises_RollbackCounterOnlyRises :
    (let s := { ready with boot := { ready.boot with rollback := 64 }, pending := [.sysIdent rq] };
      s.boot.rollback ≤ 64 ∧ s.pending ≠ [] ∧ imgRollback [] < s.boot.rollback ∧ mailboxOpen s rq.slot = true) := by decide

theorem test_premises_StepKeepsMemoryForm : memoriesOk State.reset := by unfold memoriesOk; decide

theorem test_premises_StepRunsFrontCommand :
    ready.pending = [] ∧ ready.held = [] ∧ ready.boot.rootLocked = true ∧ ready.boot.bindOff = none ∧
      State.reset.boot.rootLocked = false := by decide

theorem test_premises_PortCommands :
    (let s := withP 3 1 pLENGTH 1 ready;
      mailboxOpen s rq.slot = true ∧ dualOn s = false ∧ (portOf s 1).probing = false ∧ portIdle s 1 = true ∧ natP s 3 1 pLENGTH ≠ 0) ∧
    (let s := modPort ready 1 (fun x => { x with st := .armed });
      mailboxOpen s rq.slot = true ∧ dualOn s = false ∧ (portOf s 1).st = .armed ∧ (portOf s 1).probing = false ∧ pairOn s = false) ∧
    (let s := modPort ready 1 (fun x => { x with st := .running });
      mailboxOpen s rq.slot = true ∧ dualOn s = false ∧ (portOf s 1).st = .running ∧ (portOf s 1).launched = false ∧
        (portOf s 1).probing = false) ∧
    (portIdle ready 1 = true ∧ pairOn ready = false) ∧
    (portOf (modPort ready 1 (fun x => { x with probing := true })) 1).probing = true := by decide

theorem test_premises_PlanApplies :
    (let s := withS 3 1 pLENGTH 480000 ready;
      mailboxOpen s rq.slot = true ∧ (portOf s 1).st = .idle ∧ (portOf s 1).nextPlan = [] ∧ (portOf s 1).probing = false ∧
        dualOn s = false ∧ vn (stagedView s 0) pDUAL_ENDED = 0 ∧ vn (stagedView s 1) pDUAL_ENDED = 0 ∧
        applyParamFault s 1 (stagedView s) = none ∧ applyStateFault s [1] (stagedView s) = none ∧
        planItem 1 (objId 3 1 pLENGTH) = true ∧ stagedOf s (objId 3 1 pLENGTH) = some 480000) ∧
    (mailboxOpen ready rq.slot = true ∧ planItemFault (stagedView ready 1) = some pLENGTH) := by decide +kernel

theorem test_premises_ShotsAndPlies :
    (let s := modPort ready 1 (fun x => { x with st := .running, shotNext := some (256 * 10 ^ 14), planShots := 1 });
      (portOf s 1).shotOpen = false ∧ (portOf s 1).drain = none ∧ reached s (256 * 10 ^ 14) = true ∧ launchesHeld s 1 = false ∧
        (portOf s 1).planShots ≠ 0 ∧ (portOf s 1).raman.next = [] ∧ dualOn s = false ∧ launchMode s 1 = 0) ∧
    (let s := modPort (running 1) 1 (fun x => { x with shotStart := 1000 });
      (portOf s 1).shotOpen = true ∧ (portOf s 1).plyNext < planP_ (pv s 1) ∧
        reached s ((portOf s 1).shotStart + 256 * planPlyAt (pv s 1) (portOf s 1).plyNext) = true ∧ s.col.snags = []) ∧
    (let s := modPort (running 1) 1 (fun x => { x with shotStart := 1000, plyNext := 64 });
      planP_ (pv s 1) ≤ (portOf s 1).plyNext ∧ reached s ((portOf s 1).shotStart + 256 * planNShot (pv s 1)) = true ∧
        (portOf s 1).stop = .none ∧ (portOf s 1).changing = false) ∧
    (let s := modPort (running 1) 1 (fun x => { x with shotStart := 1000, plyNext := 64, stop := .armed });
      planP_ (pv s 1) ≤ (portOf s 1).plyNext ∧ pairOn s = false ∧ (portOf s 1).stop = .armed ∧
        reached s ((portOf s 1).shotStart + 256 * planNShot (pv s 1)) = true) := by decide +kernel

theorem test_premises_LaunchMonitor :
    (let s := measured 1 (1000 + tk (natP ready 3 1 pLMON_WINDOW)) (modPort ready 1 (fun x => { x with lmonWait := [launchAt 1000] }));
      (tdcOf s 1).meas = [⟨1000 + tk (natP ready 3 1 pLMON_WINDOW), 0, false, false, 10 ^ 14⟩] ∧
        (portOf s 1).lmonWait.find? (inLmonWindow s 1 (1000 + tk (natP ready 3 1 pLMON_WINDOW))) = some (launchAt 1000)) ∧
    (let s := modPort ready 1 (fun x => { x with lmonWait := [launchAt 1000], missRun := 4 });
      (portOf s 1).lmonWait = [launchAt 1000] ∧ reached s ((launchAt 1000).gate + 256 * (natP s 3 1 pLMON_WINDOW + 1)) = true ∧
        4 ≤ (portOf s 1).missRun ∧ (portOf s 1).lostTold = false) ∧
    (portOf ready 1).missRun < 4 := by decide +kernel

theorem test_premises_TriggersAndSlots :
    (let s := measured 5 0 (withP 3 1 pLAUNCH_TRIG 3 (withP 3 1 pLAUNCH_MODE 1 (modPort ready 1 (fun x => { x with st := .running }))));
      (tdcOf s 5).meas = [⟨0, 0, false, false, 10 ^ 14⟩] ∧ dualOn s = false ∧ (portOf s 1).st = .running ∧
        natP s 3 1 pLAUNCH_TRIG = 3 ∧ natP s 3 0 pLAUNCH_TRIG ≠ 3 ∧ (portOf s 1).startAt ≤ 10 ^ 14 ∧ launchesHeld s 1 = false ∧
        (portOf s 1).drain = none ∧ launchMode s 1 = 1 ∧ (portOf s 1).shotNext = none ∧
        earliestStart s 1 ≤ 256 * 10 ^ 14 + 7552 ∧ s.cap.skeins = []) ∧
    (let s := modPort ready 1 (fun x => { x with shotStart := 256 * 10 ^ 14 + 7552, launched := true });
      256 * 10 ^ 14 + 7552 < earliestStart s 1) ∧
    (let s := modPort ready 1 (fun x => { x with st := .running, lock := { x.lock with st := .locked, tRef := 1 } });
      (portOf s 1).st = .running ∧ (portOf s 1).lock.st = .locked ∧ (portOf s 1).lock.tRef ≠ 0 ∧
        reached s ((portOf s 1).lock.cycleEdge.getD 0 + (portOf s 1).lock.tRef + 320001) = true) ∧
    (let s := withP 3 1 pTGATE_ENABLE 1 (running 1);
      (portOf s 1).shotOpen = true ∧ (portOf s 1).tgateDone = false ∧ vn (pv s 1) pTGATE_ENABLE = 1 ∧
        reached s ((portOf s 1).shotStart + 256 * vn (pv s 1) pTGATE_OFFSET) = true ∧
        ((portOf s 1).planShots - 1) % max 1 (vn (pv s 1) pTGATE_EVERY) = 0 ∧ (portOf s 1).raman.ofsRun = none) ∧
    (let s := modPort (running 1) 1 (fun x => { x with proofIn := true });
      (portOf s 1).shotOpen = true ∧ (portOf s 1).slotDone = false ∧ (portOf s 1).proofIn = true ∧
        reached s ((portOf s 1).shotStart + (planRtt (pv s 1) + planTau (pv s 1)) * 256 / 8000) = true) ∧
    (let s := running 1;
      (portOf s 1).shotOpen = true ∧ (portOf s 1).slotDone = false ∧ (portOf s 1).proofIn = false ∧ (portOf s 1).calIn = false ∧
        reached s ((portOf s 1).shotStart + (planRtt (pv s 1) + planTau (pv s 1)) * 256 / 8000) = true) := by decide +kernel

theorem test_premises_TriggersAndSlots_skeins (k : Nat) : skRuns ready k = false := rfl

/-! ### 03 to 05 -/

theorem test_premises_RowsDelivered :
    (let s := modPort (running 1) 1 (fun x => { x with rowsDue := [{ launchAt 1000 with planShot := 1, missing := true }] });
      (portOf s 1).rowsDue ≠ [] ∧ (portOf s 1).drain = none ∧ getP (withP 3 1 pBREAK_ENABLE 0 s) 3 1 pBREAK_ENABLE = 0) := by
  decide +kernel

/-- An ADC channel of port B changed. -/
def withAdc (c : Nat) (f : AdcChan → AdcChan) (s : State) : State :=
  modPort s 1 (fun x => { x with adc := kmod adcBlank x.adc c f })

theorem test_premises_SlicesRepaired :
    (let s := modPort ready 1 (fun x => { x with codes := [(0, [0, 0, 0, 0]), (10 ^ 6, [0, 0, 0, 0])] });
      (portOf (takeCodes s 1 0 []) 1).codes.getLast? = some (10 ^ 6, [0, 0, 0, 0]) ∧ evalTick (takeCodes s 1 0 []) 1 3 ≤ 10 ^ 6) ∧
    (let s := withAdc 3 (fun x => { x with waits := [(15, 10 ^ 14)], passed := [(17, some 5)] }) ready;
      (adcOf s 1 3).waits = [(15, 10 ^ 14)] ∧ bestSpare (adcOf s 1 3) = some 17 ∧ 10 ^ 14 ≤ s.time.ticks ∧
        (adcOf s 1 3).fgSince = none ∧ (adcOf s 1 3).stepDue = false ∧ ∀ d, d < 4 → d ≠ 3 → (adcOf s 1 d).waits = []) ∧
    (let s := withAdc 3 (fun x => { x with waits := [(15, 10 ^ 14)] }) ready;
      (adcOf s 1 3).waits = [(15, 10 ^ 14)] ∧ readySpares (adcOf s 1 3) = [] ∧ 10 ^ 14 ≤ s.time.ticks ∧ (adcOf s 1 3).fgSince = none) := by
  decide +kernel

/-- 03 R57: a slice 6 dB above the others is faulty, and one whose code stands still over 256 samples. -/
theorem test_slot_faulty :
    (let stats := List.replicate 15 (⟨4096, 10000, 0, 1⟩ : SlotStat) ++ [⟨4096, 50000, 0, 1⟩];
      slotFaulty stats 15 = true ∧ slotFaulty stats 0 = false) ∧ slotFaulty [⟨256, 0, 0, 256⟩] 0 = true := by decide +kernel

/-- A block of the hybrid estimator of port B is complete; its X channels were away. -/
def hybDone : State :=
  withP 3 1 pHYB_MODE 1 (withAdc 0 (fun x => { x with fgPast := [(0, 1)] })
    (modPort ready 1 (fun x => { x with hybAt := some 0, tap := [(65535, [0, 0, 0, 0])] })))

theorem test_premises_ReceiverCalibrated :
    (getP hybDone 3 1 pHYB_MODE = 1 ∧ (portOf (takeCodes hybDone 1 0 []) 1).hybAt = some 0 ∧
      (portOf (takeCodes hybDone 1 0 []) 1).tap.getLast? = some (65535, [0, 0, 0, 0]) ∧
      fgOverlaps hybDone 1 false 0 65536 = true ∧ fgOverlaps hybDone 1 true 0 65536 = false) ∧
    ((portOf ready 1).secFrom + 1250000000 ≤ nowClk ready ∧ raisePending ready 37 = false) ∧
    (let s := modPort (withP 3 1 pBREAK_ENABLE 1 ready) 1 (fun x => { x with st := .running, planShots := 66 });
      getP s 3 1 pBREAK_ENABLE = 1 ∧ (portOf s 1).st = .running ∧ 65 < (portOf s 1).planShots ∧ (portOf s 1).det.armed = false) ∧
    (let s := modPort (running 1) 1 (fun x => { x with calStep := some ⟨15, none, false, 0⟩ });
      (portOf s 1).calStep = some ⟨15, none, false, 0⟩ ∧ stepOver s ⟨15, none, false, 0⟩ = true ∧ (portOf s 1).st = .running) ∧
    (let s := modPort ready 1 (fun x => { x with calFg := some ⟨3, 10 ^ 14, 0, []⟩ });
      (portOf s 1).calFg = some ⟨3, 10 ^ 14, 0, []⟩ ∧ 10 ^ 14 ≤ nowClk s) ∧
    (let s := modPort ready 1 (fun x => { x with raman := { x.raman with gainRun := some (10 ^ 14) } });
      (portOf s 1).raman.gainRun = some (10 ^ 14) ∧ 10 ^ 14 ≤ nowClk s) ∧
    (let s := modPort ready 1 (fun x => { x with raman := { x.raman with ofsRun := some ⟨0, 0⟩ } });
      (portOf s 1).raman.ofsRun = some ⟨0, 0⟩ ∧ ofsTaken s 1 ⟨0, 0⟩ = true ∧ rangeQuiet (nth [] [] 0) = false) := by decide +kernel

/-- A block of zero samples sums to 0. -/
theorem sumI_zeros (n : Nat) : sumI (List.replicate n 0) = 0 := by
  unfold sumI
  induction n with
  | zero => rfl
  | succ n ih => simpa [List.replicate_succ] using ih

/-- The other hypothesis of RAMAN_OFFSET's end: four ranges of quiet samples. -/
theorem test_premises_ReceiverCalibrated_quiet : ∀ i, i < 4 → rangeQuiet (nth [] (List.replicate 4 (List.replicate ofsSamples 0)) i) = true := by
  have blocks : blockSums 1024 256 (List.replicate ofsSamples 0) = List.replicate 256 0 := by
    unfold blockSums
    rw [List.eq_replicate_iff]
    refine ⟨by simp, fun b hb => ?_⟩
    obtain ⟨i, -, rfl⟩ := List.mem_map.mp hb
    rw [List.drop_replicate, List.take_replicate, sumI_zeros]
  have quiet : rangeQuiet (List.replicate ofsSamples 0) = true := by
    have flat : ∀ n, spread (List.replicate n 0) = 0 := fun n => by
      unfold spread
      rw [List.map_replicate, sumI_zeros, show (0 : Int) * 0 = 0 from rfl, sumI_zeros]
      omega
    unfold rangeQuiet
    rw [blocks, flat, flat, List.length_replicate]
    decide
  intro i hi
  match i, hi with
  | 0, _ => exact quiet
  | 1, _ => exact quiet
  | 2, _ => exact quiet
  | 3, _ => exact quiet

theorem test_premises_PhaseDelivers :
    (let s := withP 3 1 pINTERP_MAX 0 (modPort ready 1 (fun x => { x with ph := { x.ph with ahead := [⟨launchAt 0, 0, none, none, []⟩] } }));
      (portOf (unwrapRows s 1) 1).ph.ahead = [⟨launchAt 0, 0, none, none, []⟩] ∧ vn (pv s 1) pINTERP_MAX < 1 ∧
        s.pair.adopting = []) ∧
    (let s := running 1;
      (portOf s 1).ph.rows = [] ∧ (portOf s 1).ph.ahead.length ≤ vn (pv s 1) pINTERP_MAX ∧ streamEnded (portOf s 1) = false) ∧
    (let s := modPort ready 1 (fun x => { x with ph := { x.ph with lost := true } });
      (portOf s 1).ph.lost = true ∧ raisable s 25 = true) := by decide +kernel

/-- The Raman path of port B changed. -/
def withRaman (f : Raman → Raman) : State := modPort ready 1 (fun x => { x with raman := f x.raman })

/-- A Raman window that has ended. -/
def ramanWin (late spoilt : Bool) : RamanWin := ⟨true, 0, 0, 0, 5, 0, [], late, spoilt⟩

/-- A dual-ended Raman measurement whose two TR are due. -/
def ramanBoth : State :=
  [0, 1].foldl (fun s p => withP 3 p pDUAL_ENDED 1 (withP 3 p pRAMAN_DE 1 (withP 3 p pTGATE_ENABLE 1
    (modPort s p (fun x => { x with st := .running, raman := { x.raman with trDue := true } }))))) ready

theorem test_premises_RamanPath :
    (∀ late spoilt : Bool, (portOf (withRaman (fun x => { x with win := some (ramanWin late spoilt) })) 1).raman.win =
        some (ramanWin late spoilt) ∧ (ramanWin late spoilt).start + 5 * (ramanWin late spoilt).len ≤ ready.time.ticks) ∧
    (let s := withRaman (fun x => { x with win := some (ramanWin true false), ended := some ⟨ramanZero, 5⟩ });
      (portOf s 1).raman.ended = some ⟨ramanZero, 5⟩) ∧
    (let s := modPort (running 1) 1 (fun x => { x with
        shotStart := 256 * 10 ^ 13, plyNext := 64, raman := { x.raman with intStart := some 0 } });
      (portOf s 1).shotOpen = true ∧ planP_ (pv s 1) ≤ (portOf s 1).plyNext ∧
        reached s ((portOf s 1).shotStart + 256 * planNShot (pv s 1)) = true ∧ (portOf s 1).stop = .none ∧
        (portOf s 1).changing = false ∧ (portOf s 1).raman.intStart = some 0 ∧ (portOf s 1).raman.ended = none ∧
        (portOf s 1).raman.eEnd = none ∧
        0 + natP s 3 1 pRAMAN_INT * 1250000 ≤ clkOfTick s (tickOf ((portOf s 1).shotStart + 256 * planNShot (pv s 1)))) ∧
    (let s := withRaman (fun x => { x with ended := some ⟨ramanZero, 5⟩ });
      (portOf s 1).raman.ended = some ⟨ramanZero, 5⟩ ∧ (portOf s 1).raman.win = none ∧ (portOf s 0).raman.old = [] ∧
        (portOf s 1).raman.old = []) ∧
    (let s := withRaman (fun x => { x with trDue := true }); (portOf s 1).raman.trDue = true ∧ ramanDual s = false) ∧
    ((portOf ramanBoth 0).raman.trDue = true ∧ (portOf ramanBoth 1).raman.trDue = true ∧ ramanDual ramanBoth = true) ∧
    (let s := withRaman (fun x => { x with heldSince := some 0 });
      (portOf s 1).raman.heldSince = some 0 ∧ (portOf s 1).raman.refLost = false ∧
        0 + natP s 3 1 pREF_HOLD * 1250000000 ≤ nowClk s ∧ raisable s 29 = true) ∧
    (let s := modPort ready 1 (fun x => { x with specDone := [⟨0, []⟩] }); (portOf s 1).specDone = [⟨0, []⟩]) ∧
    (let s := withRaman (fun x => { x with fuseDue := true });
      (portOf s 1).raman.fuseDue = true ∧ (portOf s 1).raman.trDue = false) ∧
    (let s := withRaman (fun x => { x with fuse := [{ fuseNone with b := some 0 }] });
      0 < (portOf s 1).raman.fuse.length ∧ (nth fuseNone (portOf s 1).raman.fuse 0).b.isSome = true ∧
        (nth fuseNone (portOf s 1).raman.fuse 0).st ≠ 0 ∧ (nth fuseNone (portOf s 1).raman.fuse 0).stEnd ≤ nowClk s) ∧
    (∀ mode, mode < 2 →
      let s := withP 3 1 pFUSE_MODE (mode : Nat) (withRaman (fun x => { x with fuse := [{ fuseNone with holdSince := some 0 }] }));
      0 < (portOf s 1).raman.fuse.length ∧ (nth fuseNone (portOf s 1).raman.fuse 0).holdSince = some 0 ∧
        (nth fuseNone (portOf s 1).raman.fuse 0).holdOver = false ∧ natP s 3 1 pFUSE_MODE = mode ∧
        0 + natP s 3 1 pFUSE_HOLD * 1250000000 ≤ nowClk s) := by decide +kernel

/-! ### 06, 07 -/

/-- A zone changed. -/
def withZone (z : Nat) (f : Zone → Zone) (s : State) : State := modZone s z f

/-- Port B with a plan of 480,000 decimetres, and zone 127 staged on it. -/
def zoned : State :=
  withS 4 127 zPORT 1 (withS 4 127 zPRODUCT 0 (withS 4 127 zSTITCH_COUNT 16 (withP 3 1 pLENGTH 480000 ready)))

theorem test_premises_ZoneCommands :
    (mailboxOpen zoned rq.slot = true ∧ zoneAdmits (accept zoned rq 0x0401) 127 = true ∧ zoneItem 127 (objId 4 127 zPORT) = true ∧
      stagedOf zoned (objId 4 127 zPORT) = some 1) ∧
    (let s := withS 4 127 zPRODUCT 15 (withZone 127 (fun x => { x with st := .defined }) ready);
      mailboxOpen s rq.slot = true ∧ zoneReleases (accept s rq 0x0401) 127 = true) ∧
    (let s := withZone 127 (fun x => { x with st := .enabled }) zoned;
      zoneRedefines (accept s rq 0x0401) 127 = true ∧ (portOf s (zport (zview s 127))).st ≠ .running) ∧
    (let s := modPort (withZone 127 (fun x => { x with st := .enabled }) zoned) 0 (fun x => { x with st := .running });
      zoneRedefines (accept s rq 0x0401) 127 = true ∧ (portOf s (zport (zview s 127))).st = .running) ∧
    (let s := withZone 127 (fun x => { x with st := .defined }) ready;
      (zoneOf s 127).st = .defined ∧ (zoneOf ready 127).st ≠ .defined ∧ (zoneOf s 127).st ≠ .undefined ∧
        (zoneOf s 127).pendingDef = false) ∧
    (let s := withZone 127 (fun x => { x with st := .enabled }) ready;
      zoneEnabled s 127 = true ∧ (zoneOf s 127).pendingDef = false ∧ s.time.ticks ≤ 10 ^ 14 ∧
        (∀ z, z < 128 → (2 ^ 127).testBit z = true → zoneEnabled s z = true ∧ (zoneOf s z).pendingDef = false) ∧
        10 ^ 14 - 1 ≠ 0 ∧ 10 ^ 14 - 1 < s.time.ticks) := by decide +kernel

/-- Zone 127 ENABLED with items applied. -/
def enabledZone (f : Zone → Zone) : State :=
  withP 4 127 zPRODUCT 0 (withP 4 127 zSTITCH_COUNT 1 (withZone 127 (fun x => { f x with st := .enabled }) ready))

/-- A row of one gauge. -/
def phaseRow1 : PhaseRow := ⟨0, 0, [1], [1], [1], [0], none⟩

theorem test_premises_ZoneRows :
    (let s := enabledZone (fun x => { x with inq := [.phase phaseRow1] });
      zoneEnabled s 127 = true ∧ (zoneOf s 127).inq = [.phase phaseRow1] ∧ (zoneOf s 127).pendingDef = false ∧
        (zoneOf s 127).stopping = false ∧ zphase (zview s 127) = true ∧ zdecim (zview s 127) = 0 ∧ (zoneOf s 127).stages = [] ∧
        zn (zview s 127) zPORT ≠ 2) ∧
    (let s := enabledZone (fun x => { x with inq := [.temp ⟨5, []⟩] });
      (zoneOf s 127).inq = [.temp ⟨5, []⟩] ∧ zoneEnabled s 127 = true) ∧
    (let s := withP 4 127 zPORT 2 (modPort (enabledZone (fun x => { x with inq := [.phase phaseRow1] })) 1
        (fun x => { x with st := .running }));
      zoneEnabled s 127 = true ∧ zn (zview s 127) zPORT = 2 ∧ pairedRow s (zoneOf s 127) phaseRow1 = (none, false)) ∧
    zoneEnabled ready 127 = false ∧
    (let s := withZone 127 (fun x => { x with satNow := 1, outNow := 9999 }) ready;
      (zoneOf s 127).outNow < (zoneOf s 127).satNow * 10000 ∧ s.cap.secFrom + 1250000000 ≤ nowClk s) ∧
    (let s := { ready with cap := { ready.cap with secFrom := 10 ^ 14 } }; nowClk s < s.cap.secFrom + 1250000000) ∧
    (∀ z, z < 128 → (zoneOf ready z).satNow * 10000 ≤ (zoneOf ready z).outNow) := by decide +kernel

theorem test_premises_DetectorsAndEvents :
    (let j : DetJob := ⟨⟨0, []⟩, 0, true, 0, 0, false⟩;
      let s := withZone 127 (fun x => { x with dets := [detNone, detNone, detNone, { detNone with queue := [j] }] }) ready;
      (nth detNone (zoneOf s 127).dets 3).queue = [j] ∧ j.warm = true) ∧
    (let s := { ready with cap := { ready.cap with evRecs := [[0]], evSince := 10 ^ 14 - 12500000 } };
      s.cap.evRecs ≠ [] ∧ s.cap.evSince + 12500000 ≤ nowClk s) ∧
    eventBlocked ready = true ∧
    (let s := setRing (withZone 127 (fun x => { x with
          dets := [detNone, detNone, detNone, { detNone with unsent := some ⟨0, 0, 0, 0, 0, true⟩ }] }) ready) 128
        { ringOf ready 128 with st := .running };
      eventBlocked s = false ∧ (nth detNone (zoneOf s 127).dets 3).summaryAt = none ∧
        (nth detNone (zoneOf s 127).dets 3).unsent ≠ none) := by decide +kernel

/-- Skein 31 changed. -/
def withSkein (f : Skein → Skein) (s : State) : State := modSk s 31 f

/-- 2,048 MiB of DRAM, port B with a plan, and skein 31 staged on its raw rows. -/
def skeined : State :=
  withS 5 31 kSOURCE_KIND 1 (withS 5 31 kRING_KIB 1024 (withS 5 31 kRAW_STITCH_COUNT 1 (withP 3 1 pLENGTH 480000
    (withP 0x10 0 mMEM_CONFIG (4096 * 2048) ready))))

theorem test_premises_SkeinStates :
    (mailboxOpen skeined rq.slot = true ∧ skeinAdmits (accept skeined rq 0x0501) 31 = true ∧
      stagedOf skeined (objId 5 31 kSOURCE_KIND) = some 1) ∧
    (let s := withS 5 31 kSOURCE_KIND 15 (withSkein (fun x => { x with st := .idle }) ready);
      mailboxOpen s rq.slot = true ∧ sn (skstaged s 31) kSOURCE_KIND = 15 ∧ (skOf s 31).st = .idle) ∧
    (let s := withP 5 31 kSOURCE_KIND 1 (withP 5 31 kRING_KIB 1024 (withP 5 31 kRAW_STITCH_COUNT 1 (withP 3 1 pLENGTH 480000
        (withSkein (fun x => { x with st := .idle }) ready))));
      skeinArms (accept s rq 0x0502) 31 = true) ∧
    (let s := withP 5 31 kSOFT_ENABLE 1 (withSkein (fun x => { x with st := .armed }) ready);
      pairOn s = false ∧ (skOf s 31).forceAt = none ∧ sn (skview s 31) kSOFT_ENABLE ≠ 0 ∧ (skOf s 31).st = .armed ∧
        skRuns s 31 = true ∧ s.time.ticks ≤ 10 ^ 14) ∧
    (let s := withSkein (fun x => { x with st := .armed, forceAt := some (10 ^ 14) }) ready;
      (skOf s 31).forceAt = some (10 ^ 14) ∧ 10 ^ 14 ≤ s.time.ticks ∧ (skOf s 31).st = .armed) ∧
    (skOf (withSkein (fun x => { x with st := .held }) ready) 31).st = .held ∧
    (let s := withSkein (fun x => { x with st := .capturing, cap := some ⟨[⟨0, 8, 0⟩], 0, none⟩ }) ready;
      (skOf s 31).st = .capturing ∧ (skOf s 31).cap = some ⟨[⟨0, 8, 0⟩], 0, none⟩ ∧ (⟨0, 8, 0⟩ : Cond).at_ ≠ s.time.ticks) ∧
    (let s := withSkein (fun x => { x with st := .capturing, cap := some ⟨[⟨0, 8, 10 ^ 14⟩], 0, none⟩ }) ready;
      (skOf s 31).st = .capturing ∧ (skOf s 31).cap = some ⟨[⟨0, 8, 10 ^ 14⟩], 0, none⟩ ∧
        ∀ q ∈ [(⟨0, 8, 10 ^ 14⟩ : Cond)], q.at_ = s.time.ticks) := by decide +kernel

theorem test_premises_HanksWrittenAndRead :
    (let s := withSkein (fun x => { x with st := .capturing, cap := some ⟨[⟨0, 8, 0⟩], 0, none⟩, truncated := true }) ready;
      (skOf s 31).cap ≠ none ∧ (skOf s 31).truncated = true) ∧
    (let s := withSkein (fun x => { x with st := .rearm }) ready;
      (skOf s 31).st = .rearm ∧ sn (skview s 31) kONESHOT ≠ 1 ∧ sn (skview (withP 5 31 kONESHOT 1 s) 31) kONESHOT = 1) ∧
    (let s := withSkein (fun x => { x with st := .held, hanks := [⟨0xFFFFFFFD, 0, 0, [0]⟩] }) ready;
      mailboxOpen s rq.slot = true ∧ skDefined s 31 = true ∧ (skOf s 31).reading = none ∧
        (skOf s 31).hanks.head? = some ⟨0xFFFFFFFD, 0, 0, [0]⟩ ∧
        (skOf s 31).hanks.find? (fun x => x.seq = 0xFFFFFFFD) = some ⟨0xFFFFFFFD, 0, 0, [0]⟩ ∧
        (∃ h ∈ (skOf s 31).hanks, h.seq = 0xFFFFFFFD) ∧ (∀ h ∈ (skOf s 31).hanks, h.seq ≠ 5)) ∧
    (let s := { ready with cap := { ready.cap with trigOut := [none, none, none, some (0, 256 * 10 ^ 14)] } };
      nth none s.cap.trigOut 3 = some (0, 256 * 10 ^ 14) ∧ reached s (256 * 10 ^ 14) = true) := by decide +kernel

/-! ### 08 -/

/-- Channel 15 enabled on both edges, its record changed. -/
def tdc15 (f : TdcChan → TdcChan) : State :=
  withP 6 15 tTDC_ENABLE 1 (withP 6 15 tTDC_EDGE 2 (setTdc ready 15 (f (tdcOf ready 15))))

theorem test_premises_TdcEdges :
    (let s := tdc15 (fun x => { x with lastEdge := some (10 ^ 14 - 50) });
      tdcInput s 15 = some 15 ∧ s.boot.rootLocked = true ∧ natP s 6 15 tTDC_ENABLE = 1 ∧ edgeSelected s 15 true = true ∧
        edgeSelected s 15 false = true ∧ (tdcOf s 15).settleUntil = none ∧ (tdcOf s 15).foreground = false ∧ coresOf s 15 % 16 ≠ 0 ∧
        natP s 6 15 tTDC_LOG = 0 ∧ 10 ^ 14 - 50 + 50 ≤ nowClk s ∧ 10 ^ 14 - 50 + natP s 6 15 tTDC_HOLDOFF ≤ nowClk s) ∧
    (let s := withP 6 15 tTDC_HOLDOFF 51 (tdc15 (fun x => { x with lastEdge := some (10 ^ 14 - 50) }));
      edgeSelected s 15 false = true ∧ (tdcOf s 15).lastEdge = some (10 ^ 14 - 50) ∧ 10 ^ 14 - 50 + 50 ≤ nowClk s ∧
        nowClk s < 10 ^ 14 - 50 + natP s 6 15 tTDC_HOLDOFF ∧ natP s 6 15 tTDC_ENABLE = 1 ∧ coresOf s 15 % 16 ≠ 0) ∧
    (let s := tdc15 (fun x => { x with lastEdge := some (10 ^ 14 - 49) });
      edgeSelected s 15 false = true ∧ (tdcOf s 15).lastEdge = some (10 ^ 14 - 49) ∧ nowClk s < 10 ^ 14 - 49 + 50) ∧
    (let s := tdc15 (fun x => { x with settleUntil := some (10 ^ 14 + 1) });
      edgeSelected s 15 true = true ∧ (tdcOf s 15).settleUntil = some (10 ^ 14 + 1) ∧ nowClk s < 10 ^ 14 + 1) ∧
    (let s := withP 6 15 tCORES_IN_SERVICE 0 (tdc15 id);
      edgeSelected s 15 true = true ∧ (tdcOf s 15).foreground = false ∧ coresOf s 15 % 16 = 0) ∧
    (let s := setTdc ready 15 { tdcOf ready 15 with settleUntil := some (10 ^ 14) };
      (tdcOf s 15).settleUntil = some (10 ^ 14) ∧ 10 ^ 14 ≤ nowClk s) ∧
    (natP ready 6 11 tTDC_GATE_SEL = 0 ∧ natP (withP 6 11 tTDC_GATE_SEL 1 ready) 6 11 tTDC_GATE_SEL = 1) := by decide +kernel

/-- 08 Table 08-2: an edge 40 ns after the one before is measured, one 39.2 ns after it, of either polarity, is lost. -/
theorem test_dead_time :
    (∀ falling : Bool, ∃ t, exec (.tdcEdge 15 falling 0 (some 1)) (tdc15 (fun x => { x with lastEdge := some (10 ^ 14 - 49) })) = .next t ∧
      getP t 6 15 tEDGES_LOST = 1 ∧ getP t 6 15 tEDGES_ACCEPTED = 0) ∧
    (∃ t, exec (.tdcEdge 15 true 0 (some 1)) (tdc15 (fun x => { x with lastEdge := some (10 ^ 14 - 50) })) = .next t ∧
      getP t 6 15 tEDGES_LOST = 0 ∧ getP t 6 15 tEDGES_ACCEPTED = 1) := by
  refine ⟨fun falling => ⟨_, rfl, ?_⟩, ⟨_, rfl, ?_⟩⟩
  · cases falling <;> decide +kernel
  · decide +kernel

theorem test_premises_TimeSetting :
    (timebaseInUse ready = false ∧ ready.time.step = none) ∧ timebaseInUse (running 1) = true ∧
    (let s := withP 6 6 tTDC_ENABLE 1 { ready with time := { ready.time with step := some ⟨7, 10 ^ 14, false⟩ } };
      s.time.step = some ⟨7, 10 ^ 14, false⟩ ∧ 10 ^ 14 ≤ nowClk s ∧ s.boot.rootLocked = true ∧ natP s 6 6 tTDC_ENABLE = 1 ∧
        edgeSelected s 6 false = true ∧ (tdcOf s 6).settleUntil = none ∧ (tdcOf s 6).foreground = false ∧ coresOf s 6 % 16 ≠ 0 ∧
        (tdcOf s 6).lastEdge = none) := by decide +kernel

/-- A PPS edge that is 256 ticks' worth of time after the one before, and one far from it. -/
def ppsAt (last : Nat) : State :=
  let s := measured 6 320000000005 (withP 6 0 tPPS_MODE 1 ready)
  { s with time := { s.time with ppsLast := some last, ppsGood := 2 } }

theorem test_premises_PpsAndPtm :
    ((tdcOf (measured 6 5 ready) 6).meas = [⟨5, 0, false, false, 10 ^ 14⟩] ∧ natP ready 6 0 tPPS_MODE = 0) ∧
    (let s := measured 6 5 (withP 6 0 tPPS_MODE 1 ready);
      (tdcOf s 6).meas = [⟨5, 0, false, false, 10 ^ 14⟩] ∧ natP s 6 0 tPPS_MODE ≠ 0 ∧ s.time.ppsLast = none) ∧
    (let s := ppsAt 0;
      natP s 6 0 tPPS_MODE ≠ 0 ∧ s.time.ppsLast = some 0 ∧ 2 ≤ s.time.ppsGood ∧
        (tsDiff (tsAdd 320000000005 (-(getP s 6 0 tPPS_DELAY))) 0 - 320000000000).natAbs ≤ 3200000) ∧
    (let s := ppsAt 3200006;
      natP s 6 0 tPPS_MODE ≠ 0 ∧ s.time.ppsLast = some 3200006 ∧
        3200000 < (tsDiff (tsAdd 320000000005 (-(getP s 6 0 tPPS_DELAY))) 3200006 - 320000000000).natAbs) ∧
    (let s := { ready with time := { ready.time with ppsDeadline := some (10 ^ 14) } };
      s.time.ppsDeadline = some (10 ^ 14) ∧ 10 ^ 14 ≤ nowClk s ∧ (tdcOf s 6).meas = [] ∧ s.time.pps ≠ .holdover) ∧
    (let s := withP 6 0 tPPS_OUT_ENABLE 1 { ready with time := { ready.time with ticks := 1250000000 } };
      s.boot.rootLocked = true ∧ s.time.ticks % 1250000000 = 0 ∧ natP s 6 0 tPPS_OUT_ENABLE = 1) ∧
    (let s := { ready with time := { ready.time with ppsOut := true, ppsOutEnd := 10 ^ 14 } };
      s.time.ppsOut = true ∧ s.time.ppsOutEnd ≤ nowClk s) ∧
    (let s := withS 6 0 tPPS_MODE 1 ready;
      mailboxOpen s rq.slot = true ∧ natP s 6 0 tPPS_MODE = 0 ∧ s.staged = [(objId 6 0 tPPS_MODE, some 1)]) ∧
    (let s := withP 6 0 tPTM_PERIOD 1 { ready with link := { ready.link with linkUp := true } };
      natP s 6 0 tPTM_PERIOD ≠ 0 ∧ s.link.linkUp = true ∧ s.time.ptmDialog = none ∧ s.time.ptmAt ≤ nowClk s) ∧
    (let s := { ready with time := { ready.time with ptmDialog := some (0, 10 ^ 14) } };
      s.time.ptmDialog = some (0, 10 ^ 14) ∧ (0, 10 ^ 14).2 ≤ nowClk s) := by decide +kernel

theorem test_premises_TdcCores :
    (let s := setTdc ready 15 { tdcOf ready 15 with testing := 8 };
      (tdcOf s 15).testing.testBit 3 = true ∧ (tdcOf s 15).toTest.testBit 3 = false ∧
        densityFails (List.replicate 256 256) 0 = false ∧ densityFails [] 0 = true) ∧
    coresOf (withP 6 15 tCORES_IN_SERVICE 8 ready) 15 % 16 = 2 ^ 3 ∧
    (mailboxOpen ready rq.slot = true ∧ tdcConflict ready 15 = false ∧ tdcConflict ready 0 = false) := by decide +kernel

/-! ### 09 -/

theorem test_sha384_abc : sha384 [0x61, 0x62, 0x63] =
    beBytes 48 0xCB00753F45A35E8BB5A03D699AC65007272C32AB0EDED1631A8B605A43FF5BED8086072BA1E7CC2358BAECA134C825A7 := by
  decide +kernel

/-- The first 80 bytes of an image: MAGIC, HEADER_BYTES, ABI, four program bytes. -/
def krnHead : List Byte := leBytes 2 0x4E4B ++ leBytes 2 0x80 ++ zeros 2 ++ leBytes 2 1 ++ zeros 44 ++ leBytes 4 4 ++ zeros 24

/-- A kernel image of four program bytes with its digest. -/
def krnBytes : List Byte := krnHead ++ sha384 (krnHead ++ zeros 48 ++ zeros 4) ++ zeros 4

/-- Sixteen user cores, slot 15 on core 59. -/
def slotted (f : UserSlot → UserSlot) : State :=
  withP 0x0C 0 nUSER_CORES 16 (setUse (modKrn ready 15 (fun x => f { x with core := some 59 })) 59 (.user 15))

/-- The image of `krnBytes`. -/
def image0 : KrnImage := krnImageOf krnBytes

theorem test_premises_KernelSlots_load :
    (let s := setRing (slotted id) 133 { ringOf ready 133 with st := .running, prod := 1 };
      let b := bulkOf 7 132 krnBytes;
      mailboxOpen s rq.slot = true ∧ 15 < natP s 0x0C 0 nUSER_CORES ∧ (krnOf s 15).st ≠ .loading ∧ (krnOf s 15).st ≠ .shadow ∧
        (krnOf s 15).core = some 59 ∧ (ringOf s 133).st = .running ∧
        krnLoads s < ((ringOf s 133).prod + 2 ^ 32 - (ringOf s 133).cons) % 2 ^ 32 ∧ bulkOk b = true ∧
        krnFault (accept s rq 0x0C04) 15 (bulkBytes s b) = none) := by decide +kernel

theorem test_premises_KernelSlots :
    (let s := slotted (fun x => { x with st := .loading, next := some image0 });
      (krnOf s 15).st = .loading ∧ (krnOf s 15).next = some image0 ∧ (krnOf s 15).testEnd = none ∧ (krnOf s 15).shadowCore = none ∧ (krnOf s 15).core = some 59) ∧
    (let s := slotted (fun x => { x with st := .loading, next := some image0, shadowCore := some 60 });
      (krnOf s 15).st = .loading ∧ (krnOf s 15).next = some image0 ∧ (krnOf s 15).testEnd = none ∧ (krnOf s 15).shadowCore = some 60) ∧
    (let s := slotted (fun x => { x with st := .loaded, image := some image0 });
      mailboxOpen s rq.slot = true ∧ (krnOf s 15).st = .loaded ∧ (krnOf s 15).core = some 59 ∧ (krnOf s 15).image = some image0 ∧
        (krnOf s 15).swap = none ∧ slotWaiting s (.krnStart 15) = none) ∧
    (let s := slotted (fun x => { x with st := .running });
      (krnOf s 15).st = .running ∧ (krnOf s 15).swap = none ∧ (krnOf s 15).stopping = false) ∧
    (let s := modCore (slotted (fun x => { x with st := .running, stopping := true })) 59 (fun k => { k with halted := true });
      krnStopped s (krnOf s 15) = true ∧ (krnOf s 15).out = [] ∧ (krnOf s 15).shadowCore = none) ∧
    (let s := modCore (slotted (fun x => { x with
          st := .shadow, image := some image0, next := some image0, shadowCore := some 60, swap := some ⟨0, 10 ^ 14⟩ })) 59
        (fun k => { k with halted := true });
      (krnOf s 15).swap = some ⟨0, 10 ^ 14⟩ ∧ (krnOf s 15).core = some 59 ∧ (krnOf s 15).shadowCore = some 60 ∧
        (krnOf s 15).image = some image0 ∧ (krnOf s 15).next = some image0 ∧ (coreOf s 59).halted = true ∧
        0 ≤ rowsRead (krnOf s 15)) ∧
    (let s := slotted (fun x => { x with st := .shadow, image := some image0, next := some image0, shadowCore := some 60, swap := some ⟨1, 10 ^ 14⟩ });
      (krnOf s 15).swap = some ⟨1, 10 ^ 14⟩ ∧ rowsRead (krnOf s 15) < 1 ∧ 10 ^ 14 ≤ nowClk s ∧ (59 : Nat) ≠ 60) := by decide +kernel

/-- The faults of cores set. -/
def withFaults (fs : List CoreFault) (s : State) : State := { s with needle := { s.needle with faults := fs } }

theorem test_premises_CoreFaultsAndSpares :
    (coreUse ready 66 = .vendor ∧ ready.needle.faults = [] ∧ ready.boot.fwRuns = true ∧ ready.col.snags = []) ∧
    (let s := withFaults [⟨59, 0, .vendor, false, (59, 60), false, none⟩] ready;
      s.needle.faults = [⟨59, 0, .vendor, false, (59, 60), false, none⟩] ∧ coreUse s 59 ≠ .spare ∧ (nSpares s).head? = some 60 ∧ needsSpare .vendor = true) ∧
    (let s := setUse (withFaults [⟨66, 0, .vendor, false, (0, 60), false, none⟩] ready) 67 .failed;
      s.needle.faults = [⟨66, 0, .vendor, false, (0, 60), false, none⟩] ∧ coreUse s 66 ≠ .spare ∧ xSpares s = []) ∧
    (withFaults [⟨0, 0, .vendor, false, (0, 60), true, some 60⟩] ready).needle.faults = [⟨0, 0, .vendor, false, (0, 60), true, some 60⟩] ∧
    (let s := withFaults [⟨59, 0, .user 15, true, (0, 60), true, some 60⟩] (slotted (fun x => { x with st := .running, image := some image0 }));
      s.needle.faults = [⟨59, 0, .user 15, true, (0, 60), true, some 60⟩] ∧ (krnOf s 15).image = some image0 ∧ (krnOf s 15).st = .running) ∧
    (let s := setStats ready 1 ⟨[⟨0, 0, 0, 0, 0, 0, 0, 0, 0⟩], 0⟩;
      (statsOf s 1).acc ≠ [] ∧ ((statsOf s 1).sec + 1) * 1250000000 ≤ s.time.ticks) := by decide +kernel

/-- Core 60 of a user slot with registers set. -/
def coreState (f : Core → Core) : State :=
  modCore (slotted (fun x => { x with st := .running, image := some image0 })) 59 f

theorem test_premises_CoreControl :
    (let s := coreState (fun k => { k with pc := 4, ret := [8], reps := [⟨0, 8, 2, 2⟩] });
      coreReady s 59 = true ∧ leavesBody (coreOf s 59) 4 = false ∧ leavesBody (coreOf s 59) 8 = true ∧ (coreOf s 59).ret = [8] ∧
        stFlag (coreOf s 59) .z = false ∧ (coreOf s 59).reps.length < 3 ∧ (coreOf s 59).reps = [⟨0, 8, 2, 2⟩] ∧
        (coreOf s 59).pc + 4 = 8 ∧ coreUse s 59 = .user 15) ∧
    (let s := coreState (fun k => { k with reps := List.replicate 3 ⟨0, 8, 1, 1⟩ });
      coreReady s 59 = true ∧ 3 ≤ (coreOf s 59).reps.length ∧ (⟨0, 8, 1, 1⟩ : RepLevel).left ≤ 1) ∧
    (coreReady ready 0 = true ∧ coreUse ready 0 = .vendor) := by decide +kernel

theorem test_premises_CoreScalarsAndMemory :
    (let s := coreState (fun k => { k with a := [(0, krnData)] });
      let ld : MemInstr := ⟨false, 16, 31, ⟨0, .plain⟩⟩;
      let st : MemInstr := ⟨true, 1, 31, ⟨0, .plain⟩⟩;
      coreReady s 59 = true ∧ accessTraps (coreOf s 59) (isX 59) ld.store ld.ref ld.size = [] ∧
        accessTraps (coreOf s 59) (isX 59) st.store st.ref st.size = [] ∧
        accessTraps (coreOf s 59) (isX 59) true ⟨1, .plain⟩ 4 ≠ []) := by decide +kernel

theorem test_premises_CoreVectorsAndFloats :
    (let s := coreState (fun k => { k with a := [(0, krnData), (4, krnData)] });
      coreReady s 59 = true ∧ isX 59 = false ∧ accessTraps (coreOf s 59) false false ⟨0, .plain⟩ 16 = [] ∧
        accessTraps (coreOf s 59) false false ⟨4, .plain⟩ 16 = []) ∧
    (coreReady ready 64 = true ∧ isX 64 = true) ∧
    fcmp (fdec (fmtOf false) 0) (fdec (fmtOf false) 0x3F800000) = some (true, false) := by decide +kernel

/-- A subscription with rows. -/
def sub0 : SubRing := ⟨1, 0, 0, 64, 16, 1, 0, 2, 0, [16, 16], 2⟩

/-- Skein 31 armed. -/
def withSkeinArmed (s : State) : State := modSk s 31 (fun x => { x with st := .armed })

theorem test_premises_CoreStreams :
    (let s := modKrn (coreState id) 15 (fun x => { x with subs := [sub0], outBytes := 16 });
      coreReady s 59 = true ∧ haltsAtWait s 59 = false ∧ 2 ≤ rowsHeld s 59 0 ∧ rowsHeld s 59 0 < 3 ∧ coreUse s 59 = .user 15 ∧
        (krnOf s 15).subs[0]? = some sub0 ∧ (krnOf s 15).image = some image0 ∧ 0 ≤ image0.outRecBytes ∧
        regionTraps false false (aAt (coreOf s 59) 0) 0 = [] ∧ outUsed s 15 + 16 + 0 ≤ (krnOf s 15).outBytes ∧
        (krnOf (coreState id) 15).outBytes < outUsed (coreState id) 15 + 16 + 0) ∧
    (let s := modKrn (coreState id) 15 (fun x => { x with image := some { image0 with outRate := 1 }, out := [(0, [0])] });
      (krnOf s 15).out = [(0, [0])] ∧ (krnOf s 15).image = some { image0 with outRate := 1 } ∧ (krnOf s 15).drainAt ≤ nowClk s ∧
        kernelFrameWaits s = false) ∧
    (let s := coreState (fun k => { k with a := [(0, krnData)] });
      (coreOf s 59).dma = none ∧ 0xFFFFF0 + 16 * 1 ≤ 0x1000000 ∧ regionTraps (isX 59) true (aAt (coreOf s 59) 0) 16 = []) ∧
    (let s := modKrn (coreState (fun k => { k with dma := some (krnData, 0, 16, true, 10 ^ 14) })) 15 (fun x => { x with
        image := some { image0 with dramRate := 1 } });
      (coreOf s 59).dma = some (krnData, 0, 16, true, 10 ^ 14) ∧ coreUse s 59 = .user 15 ∧ 10 ^ 14 ≤ nowClk s ∧
        (krnOf s 15).image = some { image0 with dramRate := 1 }) ∧
    (let s := withP 5 31 (kTRIG_DET + 3) 5 (withSkeinArmed (modCore ready 64 (fun k => { k with g := [(1, 5)] })));
      coreReady s 64 = true ∧ isX 64 = true ∧ (skOf s 31).st = .armed ∧
        sn (skview s 31) (kTRIG_DET + 3) = gLow (coreOf s 64) 1 16 ∧ regionTraps true false (aAt (coreOf s 64) 0) 0x10000 = []) := by
  decide +kernel

/-! ### 10 to 12 -/

/-- A host job with nothing left to code. -/
def job0 : HostJob :=
  { order := 0, dst := 0, ovf := 0, bufs := [], compl := 0, dstLen := 64, ovfLen := 0, tag := 9, preRow := 0, preWords := 0, preW := 0, format := 0,
    more := false, flush := false, stream := none, src := [], rest := [], base := 0, consumed := 0, mark := 0, window := [], codes := [],
    partBits := [], dstOut := 0, ovfOut := 0, total := 0, sumA := 0, sumB := 0, begun := true, ended := true, joined := true, dropAt := 0, streamEnd := 0 }

/-- The compressor's record changed. -/
def withComp (f : Compressor → Compressor) (s : State) : State := { s with comp := f s.comp }

/-- A frame of zone 127. -/
def frame0 : CompFrame := ⟨0, ⟨127, 0, 0, 0, 0, 0, 0, 1, 1, 1, 0, [0, 0]⟩, 0, false, 16⟩

/-- A job descriptor of an empty input, its DST 64 bytes long. -/
def desc0 (format : Nat) : Bulk :=
  ⟨leBytes 2 0x434A ++ zeros 8 ++ leBytes 1 format ++ zeros 5 ++ leBytes 4 1 ++ zeros 4 ++ leBytes 4 64 ++ zeros 36, []⟩

theorem test_premises_Compressor :
    (let s := withS 0x0F 0 cHOST_RESERVE 0 (withP 0x0F 0 cHOST_RESERVE 1 ready);
      mailboxOpen s rq.slot = true ∧ planN s 0x0F 0 cHOST_RESERVE ≤ natP s 0x0F 0 cHOST_RESERVE ∧
        compScope 0 0 (objId 0x0F 0 cHOST_RESERVE) = true ∧ objId 0x0F 0 cHOST_RESERVE ≠ objId 0x0F 0 cBYPASS_FRAMES ∧
        stagedOf s (objId 0x0F 0 cHOST_RESERVE) = some 0) ∧
    (let s := withS 0x0F 127 cZFORMAT 1 ready;
      ¬ (planP s 0x0F 127 cZFORMAT = 2 ∧ planP s 0x0F 127 cZPRE = 1) ∧ compScope 1 127 (objId 0x0F 127 cZFORMAT) = true ∧
        stagedOf s (objId 0x0F 127 cZFORMAT) = some 1) ∧
    (let s := withS 0x0F 127 cZPRE 1 (withS 0x0F 127 cZFORMAT 2 ready);
      planP s 0x0F 127 cZFORMAT = 2 ∧ planP s 0x0F 127 cZPRE = 1) ∧
    (let s := setRing ready 135 { ringOf ready 135 with st := .running, prod := 1 };
      descriptorReady s 3 = true ∧ (jobDescOf (desc0 3)).magic = 0x434A ∧ descFault (jobDescOf (desc0 0)) = none ∧
        streamRefuses s (jobDescOf (desc0 0)) = false ∧ descFault (jobDescOf (desc0 3)) = some 80) ∧
    (let s := setEngine ready 7 ⟨.inService, .zone frame0, 10 ^ 14⟩;
      (engineOf s 7).st = .inService ∧ (engineOf s 7).work = .zone frame0 ∧ (engineOf s 7).readyAt ≤ nowClk s ∧ s.col.snags = [] ∧
        s.comp.waiting = [] ∧ s.comp.jobs = [] ∧ frame0.format ≠ 2 ∧ zoneWaiting s + frameSize frame0.frame ≤ 33554432) ∧
    (let s := setEngine ready 7 ⟨.inService, .job job0, 10 ^ 14⟩;
      (engineOf s 7).st = .inService ∧ (engineOf s 7).work = .job job0 ∧ (engineOf s 7).readyAt ≤ nowClk s ∧ job0.codes = [] ∧
        jobNeeds job0 = false ∧ job0.stream = none ∧ (engineOf s 7).work ≠ .idle) ∧
    (let s := withComp (fun x => { x with suspended := [job0] }) ready;
      mailboxOpen s rq.slot = true ∧ s.comp.suspended.find? (fun k => decide (k.tag = 9)) = some job0 ∧
        (∀ k ∈ s.comp.suspended, k.tag ≠ 8) ∧ s.comp.suspended.filter (fun j => decide (j.dropAt ≤ nowClk s)) = [job0]) ∧
    (let s := setEngine ready 0 ⟨.failed, .idle, 0⟩;
      (engineOf s 8).st = .spare ∧ enginesInService s < 8) ∧
    (let x : HostStream := ⟨0, 0, 0, 0, [], [], [], 0, 0, 0, 0, 0, true, 10 ^ 14⟩;
      let s := withComp (fun c => { c with streams := [(3, .opened x)] }) ready;
      kget streamNone s.comp.streams 3 = .opened x ∧ x.dropAt ≤ nowClk s ∧ streamBusy s 3 = false ∧
        ∀ j ∈ s.comp.jobs, j.stream ≠ some 3) := by decide +kernel

/-- The front end's record changed. -/
def withFe (f : FrontEnd → FrontEnd) (s : State) : State := { s with fe := f s.fe }

/-- The bytes of a chart entry: a voltage between pins 1 and 0, one sub-conversion. -/
def entryBytes : List Byte := leBytes 16 (2 ^ 116 + 2 ^ 64)

/-- A run of entry 31 with `codes` taken. -/
def feRun (kind exc : Nat) (outs : Nat) (codes : List Int) : FeRun :=
  { task := .entry 31, entry := { chartOf entryBytes with kind := kind, excKind := exc, use := exc }, items := [], sub := .main, startClk := 0,
    startTick := 0, outs := outs, codes := codes, ovr := false, codeA := 0, codeB := 0, leads := false, opened := false }

theorem test_premises_FrontEndRuns :
    (let es := (List.range 14).map (fun i => chartOf (nth [] (List.replicate 14 entryBytes) i));
      mailboxOpen ready rq.slot = true ∧ 18 + 14 ≤ 32 ∧ chartListFault 0 es = none ∧ chartTdcClash ready es = none) ∧
    (ready.fe.st ≠ .stopping ∧ ready.fe.run = none ∧ ready.fe.calSince = none ∧ ready.fe.queue = [] ∧ ready.fe.calDue = false ∧
      ready.fe.st = .stopped) ∧
    (let s := withFe (fun x => { x with st := .running, run := some (feRun 0 0 0 []) }) ready;
      s.fe.st = .running ∧ s.fe.run = some (feRun 0 0 0 []) ∧ (feRun 0 0 0 []).task = .entry 31) ∧
    (let s := withFe (fun x => { x with run := some (feRun 0 0 0 []) }) ready;
      mailboxOpen s rq.slot = true ∧ chartFault (chartOf entryBytes) = none ∧ s.fe.queue.length < 4 ∧ s.fe.run ≠ none) ∧
    (let x := feRun 0 0 2 [];
      let s := withFe (fun y => { y with run := some x }) ready;
      s.fe.run = some x ∧ x.opened = false ∧ x.codes.length < x.entry.times ∧
        x.startClk + tdelay x.entry + (x.outs + 1) * tconv x.entry ≤ nowClk s ∧ 2 ≤ x.outs ∧ x.sub = .main ∧ (feRun 0 0 1 []).outs < 2) ∧
    (let x := feRun 0 0 3 [5];
      x.codes.length = x.entry.times ∧ x.opened = false ∧ x.entry.kind = 0) ∧
    (let x := feRun 0 1 0 [];
      x.task = .entry 31 ∧ x.entry.use.testBit 0 = true ∧ x.entry.excKind = 1) ∧
    (let s := withFe (fun y => { y with calSince := some (10 ^ 14 - 15000000) }) ready;
      s.fe.calSince = some (10 ^ 14 - 15000000) ∧ 10 ^ 14 - 15000000 + 15000000 ≤ nowClk s ∧ s.fe.run = none ∧ s.fe.queue = [] ∧
        s.fe.calDue = false ∧ s.fe.st = .stopped) ∧
    (∀ g, g < 8 → feRefCode (List.replicate 8 3) (List.replicate 8 (2 ^ 22 : Nat)) g ≠ 0) := by decide +kernel

/-- Zone 0 defined with one stitch, loop 3 in a state. -/
def looped (f : Loop → Loop) : State :=
  modLoop (withP 4 0 zSTITCH_COUNT 1 (modZone ready 0 (fun x => { x with st := .defined, last := some ⟨5, [(7, 0)]⟩ }))) 3 f

theorem test_premises_LoopOutputs :
    (let s := withS 7 3 fLOOP_MODE 1 (looped id);
      mailboxOpen s rq.slot = true ∧ slotWaiting (accept s rq 0x0704) (.loopRelease 3) = none ∧ loopFault (accept s rq 0x0704) 3 = none ∧
        (loopOf s 3).st = .off ∧ lpPlan s 3 fLOOP_MODE ≠ 0 ∧ stagedOf s (objId 7 3 fLOOP_MODE) = some 1) ∧
    (let s := looped (fun x => { x with st := .faultLevel });
      (loopOf s 3).st = .faultLevel ∧ lpPlan s 3 fLOOP_MODE = 0 ∧ loopFault (accept s rq 0x0704) 3 = none ∧
        stagedOf s (objId 7 3 fLOOP_SET) = none) ∧
    (let s := withP 7 3 fLOOP_MODE 1 (looped (fun x => { x with st := .normal, validAt := 10 ^ 14, updated := some (10 ^ 14 - 1250000) }));
      loopOn s 3 = true ∧ (zoneOf s (loopZone s 3)).last = some ⟨5, [(7, 0)]⟩ ∧ (loopOf s 3).label ≠ some 5 ∧
        (loopOf s 3).updated = some (10 ^ 14 - 1250000) ∧ loopValue s 3 ⟨5, [(7, 0)]⟩ = some 7 ∧ loopBlocked s 3 = false ∧
        loopValue s 3 ⟨5, [(7, 16)]⟩ = none) ∧
    (let s := withP 7 3 fLOOP_MODE 2 (looped (fun x => { x with st := .normal }));
      s.loops.refxAt ≤ nowClk s ∧ loopOn s 3 = true ∧ 2 ≤ loopMode s 3 ∧ (loopOf s 3).st = .normal ∧ loopStale s 3 = true) ∧
    (let s := withP 7 3 fLOOP_MODE 1 (looped (fun x => { x with st := .normal }));
      loopOn s 3 = true ∧ s.pair.role ≠ .standby ∧ s.col.snags = [] ∧ senseBand s 3 < ((30000000 : Int) - lp s 3 fLOOP_SET).natAbs ∧
        raisable s 101 = true) ∧
    ((loopOf ready 3).st ≠ .normal) := by decide +kernel

/-- A channel of the source drive in a state. -/
def driven (f : SdChan → SdChan) : State := modSd ready 7 f

theorem test_premises_SourceDrive :
    (let s := withS 8 7 dSD_SAFE 1 ready;
      mailboxOpen s rq.slot = true ∧ (sdOf s 7).hold = .none ∧ sdParamFault (accept s rq 0x0801) 7 = none ∧
        sdStateFault (accept s rq 0x0801) 7 = none ∧ stagedOf s (objId 8 7 dSD_SAFE) = some 1 ∧ objDom (objId 9 7 0) ≠ 8) ∧
    (planP ready 8 0x41 dGATE_PROOF_SD = 0xFF ∧ stagedOf (withS 8 0x41 dGATE_PROOF_SD 0xFF ready) (objId 8 0x41 dGATE_PROOF_SD) = some 0xFF) ∧
    ((sdOf ready 7).st = .off ∧ sdKind (withP 8 7 dSD_KIND 1 ready) 7 ≠ 0 ∧
      (∀ n ∈ [103, 104, 105], isLive ready n = false ∧ raisePending ready n = false) ∧ (sdOf (driven (fun x => { x with st := .on })) 7).st = .on ∧
      (sdOf (driven (fun x => { x with st := .tripped })) 7).st = .tripped) ∧
    (let b := zeros 4 ++ leBytes 1 31 ++ leBytes 1 2 ++ zeros 2 ++ leBytes 4 1 ++ zeros 4 ++ leBytes 4 2 ++ zeros 4;
      2 ≤ fieldAt b 5 1 ∧ fieldAt b 5 1 ≤ 16 ∧ fieldAt b 4 1 ≤ 31 ∧
        firstFalling 0 (tablePoints (fieldAt b 5 1) (b.drop 8)) = none) ∧
    (let b := zeros 4 ++ leBytes 1 31 ++ leBytes 1 16 ++ zeros 130;
      2 ≤ fieldAt b 5 1 ∧ fieldAt b 5 1 ≤ 16 ∧ fieldAt b 4 1 ≤ 31 ∧
        firstFalling 0 (tablePoints (fieldAt b 5 1) (b.drop 8)) = some 1) ∧
    (let s := withP 8 7 dSD_MODE 1 (driven (fun x => { x with st := .on }));
      (sdOf s 7).st = .on ∧ (sdWatched s 7).isSome = true ∧ (sdOf s 7).lost = false ∧ sdRegulates s 7 = true ∧ proofPort s 7 = none ∧
        (sdOf s 7).goodAt + natP s 8 7 dSD_FB_HOLD * 1250000 ≤ nowClk s ∧ raisable s 103 = true) ∧
    (let s := driven (fun x => { x with satSince := some (10 ^ 14 - 12500000000, true) });
      (sdOf s 7).satSince = some (10 ^ 14 - 12500000000, true) ∧ 10 ^ 14 - 12500000000 + 12500000000 ≤ nowClk s ∧
        (sdOf s 7).satTold = false) ∧
    (let s := driven (fun x => { x with satSince := some (10 ^ 14 - 12499999999, true) });
      (sdOf s 7).satSince = some (10 ^ 14 - 12499999999, true) ∧ nowClk s < 10 ^ 14 - 12499999999 + 12500000000) ∧
    (let s := { ready with src := { ready.src with gates := [(1, ⟨[⟨10 ^ 14, 0, 0, true⟩], 0⟩)] } };
      (kget gateBlank s.src.gates 1).tests = [⟨10 ^ 14, 0, 0, true⟩] ∧ (⟨10 ^ 14, 0, 0, true⟩ : GateTest).endClk ≤ nowClk s ∧
        24 ≤ gateAbove s 1 ⟨10 ^ 14, 0, 0, true⟩ (List.replicate 30 0xFFFF) ∧ gateAbove s 1 ⟨10 ^ 14, 0, 0, true⟩ [] < 24) := by
  decide +kernel

/-! ### 13 -/

/-- The memory controller's record changed. -/
def withMem (f : MemCtl → MemCtl) (s : State) : State := { s with mem := f s.mem }

theorem test_premises_MemoryController :
    (let s := withMem (fun x => { x with training := some 0 }) ready;
      mailboxOpen s rq.slot = true ∧ memTraining s = true ∧ s.mem.freqWaits = none) ∧
    (memTraining ready = false ∧ ready.boot.dramTrained = true ∧ ready.mem.change = none ∧ natP ready 0x10 0 mFSP_NOW = 0 ∧
      natP (withP 0x10 0 mFSP_NOW 1 ready) 0x10 0 mFSP_NOW ≠ 0 ∧ fspOver (accept ready rq 0x1001) 1 = false) ∧
    (let s := withP 0x10 0 mP7_RESERVE 1000000 ready;
      natP s 0x10 0 mFSP_NOW ≠ 1 ∧ fspOver (accept s rq 0x1001) 1 = true ∧ memTraining s = false) ∧
    (slotWaiting ready .memTrain = none ∧ slotWaiting ready .memPpr = none ∧ memInUse ready = false ∧ memInUse (running 1) = true) ∧
    (let s := withMem (fun x => { x with training := some 5 }) ready; s.mem.training = some 5 ∧ s.mem.freqWaits = none) ∧
    (let s := withP 0x10 0 mMEM_CONFIG 2 ready; 1 < max 1 (memRanks s) ∧ memInUse s = false) ∧
    (let h : HardRepair := ⟨3, 1, 15, 7⟩;
      let s := withMem (fun x => { x with hard := some h }) ready; s.mem.hard = some h) ∧
    (let s := withMem (fun x => { x with change := some (1, 5) }) ready; s.mem.change = some (1, 5) ∧ s.mem.freqWaits = none) ∧
    (let s := modChan ready 3 (fun x => { x with queue := [⟨6, 1, 15, 9, 0⟩] });
      s.col.snags = [] ∧ memServes s = true ∧ (chanOf s 3).asleep = false ∧
        nextReq s 3 (chanOf s 3).queue = some ⟨6, 1, 15, 9, 0⟩ ∧ memServes State.reset = false) ∧
    (let s := withP 0x10 0 mPAGE_POLICY 0 (modBank ready 3 1 15 (fun x => { x with row := some 9 }));
      getP s 0x10 0 mPAGE_POLICY = 0 ∧ (bankOf s 3 1 15).row ≠ none ∧ (bankOf s 3 1 15).used + 250 ≤ nowClk s) := by decide +kernel

theorem test_premises_MemoryController_rows :
    (ready.mem.actAt ≤ nowClk ready ∧ ready.mem.mr4At ≤ nowClk ready) ∧
    (let s := modBank (withMem (fun x => { x with rfm := true }) ready) 3 1 15 (fun x => { x with hot := [9] });
      (bankOf s 3 1 15).hot = [9] ∧ s.mem.rfm = true) ∧
    (ready.boot.dramTrained = true ∧ memTraining ready = false ∧ ready.col.snags = []) ∧
    ((chanOf ready 3).asleep = false ∧ burstWaits ready 3 (1 % 2) (some (15 % 16)) = false ∧ refreshDebt ready 3 1 = 0) ∧
    (let s := modChan (modBank ready 3 1 15 (fun x => { x with owed := 7 })) 3 (fun x => { x with queue := [⟨0, 1, 15, 9, 0⟩] });
      burstWaits s 3 (1 % 2) (some (15 % 16)) = true ∧ 7 ≤ (bankOf s 3 1 15).owed ∧
        burstWaits (modChan ready 3 (fun x => { x with queue := [⟨0, 1, 15, 9, 0⟩] })) 3 1 (some 15) = true ∧
        refreshDebt (modChan ready 3 (fun x => { x with queue := [⟨0, 1, 15, 9, 0⟩] })) 3 1 < 7) ∧
    (raisable ready 72 = true ∧ raisable ready 71 = true ∧ (devOf ready 3 1).checkAt ≤ nowClk ready ∧ (1 : Rat) / 4 < 1 / 2) ∧
    (let s := withP 0x10 0 mSR_IDLE 1 ready;
      memServes s = true ∧ natP s 0x10 0 mSR_IDLE ≠ 0 ∧ s.mem.hard = none ∧ (chanOf s 3).queue = [] ∧
        (chanOf s 3).lastReq + natP s 0x10 0 mSR_IDLE * 1250 ≤ nowClk s) ∧
    (let s := modChan ready 3 (fun x => { x with asleep := true, queue := [⟨0, 1, 15, 9, 0⟩] });
      (chanOf s 3).asleep = true ∧ (chanOf s 3).queue ≠ []) ∧
    ((5 : Nat) ≠ 3 ∧ (5 : Nat) ≠ 4 ∧ 16 < 17 ∧ 16 ≤ 16) ∧
    (let s := modSk ready 31 (fun x => { x with cap := some ⟨[], 0, none⟩ }); (skOf s 31).cap ≠ none) := by decide +kernel

/-- A bank whose resources are spent: as many repairs as the devices have, and the first. -/
theorem test_premises_MemoryController_spent :
    pprSpent (withMem (fun x => { x with repairs := [(repairKey 3 1 15, Config.pprResources (repairKey 3 1 15) + 1)] }) ready) 3 1 15 =
      true := decide_eq_true (Nat.lt_succ_self _)

theorem test_premises_MemoryController_left : pprSpent ready 3 1 15 = false := decide_eq_false (Nat.not_lt_zero _)

/-! ### 14, 15 -/

/-- The endpoint is up, a ring changed. -/
def linked (r : Nat) (f : Ring → Ring) : State :=
  setRing { ready with link := { ready.link with endpointUp := true, perstLow := false, mayTrain := true } } r (f (ringOf ready r))

theorem test_premises_RingsRun :
    (let s := linked 131 id;
      s.link.endpointUp = true ∧ (ringOf s 131).enable = false ∧ (ringOf s 131).st ≠ .stopping ∧ s.boot.st = .ready ∧ sizeOk 131 (ringOf s 131).size = true ∧
        sizeOk 131 (ringOf (linked 131 (fun x => { x with size := 15 })) 131).size = false) ∧
    (let s := linked 135 (fun x => { x with enable := true, st := .running });
      (ringOf s 135).enable = true ∧ (ringOf s 135).st = .running) ∧
    (let s := linked 131 (fun x => { x with st := .running, ends := [64, 128] });
      (ringOf s 131).st = .running ∧ (ringOf s 131).ends = [64] ++ 128 :: [] ∧ 128 ∉ [64] ∧ 128 ≠ (ringOf s 131).cons ∧
        65 ∉ (ringOf s 131).ends ∧ 65 ≠ (ringOf s 131).cons) ∧
    (let s := linked 135 (fun x => { x with st := .running, size := 10 });
      (ringOf s (132 + 3)).st = .running ∧ ringEntries (ringOf s 135) < (100 % 2 ^ 32 + 2 ^ 32 - (ringOf s 135).cons) % 2 ^ 32 ∧
        ¬ ringEntries (ringOf s 135) < (1 % 2 ^ 32 + 2 ^ 32 - (ringOf s 135).cons) % 2 ^ 32) := by decide +kernel

/-- A waiting frame of zone 127. -/
def waiting0 : QFrame := ⟨⟨127, 0, 0, 0, 0, 0, 0, 1, 1, 1, 0, [0, 0]⟩, 0, .none⟩

theorem test_premises_FrameWriteFrame :
    (let s := linked 127 (fun x => { x with st := .running, queue := [waiting0] });
      (ringOf s 127).queue = [waiting0] ∧ waiting0.last = .none ∧ withheld s 127 = false ∧
        ringTakes s 127 (frameSize waiting0.frame) = true ∧ 16 ≤ (ringOf s 127).size ∧ (ringOf s 127).prod < ringDataLen (ringOf s 127)) := by
  decide +kernel

theorem test_premises_FramesWait :
    (let s := linked 131 (fun x => { x with queue := [waiting0] });
      dropFirst (mayDrop s 131 (ringOf s 131)) (ringOf s 131).queue = some (waiting0, [])) ∧
    (let s := { ready with link := { ready.link with hkOpen := [(5, ⟨[[0]], 1, 0, 10 ^ 14 - 12500000, 0⟩)] } };
      (hkGet s 5).recs ≠ [] ∧ (hkGet s 5).since + 12500000 ≤ nowClk s) ∧
    (let s := setRing { ready with link := { ready.link with msixOn := true, msixTable := [(4 * 135 + 3, 1)] } } 131
        { ringOf ready 131 with modAt := some (10 ^ 14), vector := 135 };
      (ringOf s 131).modAt = some (10 ^ 14) ∧ 10 ^ 14 ≤ nowClk s ∧ s.link.msixOn = true ∧ (ringOf s 131).vector < 136 ∧
        vectorMasked s (ringOf s 131).vector = true) := by decide +kernel

theorem test_premises_BarAccesses :
    (let s := linked 0 id; s.link.endpointUp = true ∧ s.boot.trainSeen = false ∧ memTraining s = false) ∧
    (let s := { linked 0 id with boot := { ready.boot with trainSeen := true } };
      s.link.endpointUp = true ∧ s.boot.trainSeen = true ∧ memTraining s = false ∧ 0x03FFFFFF + [(7 : Byte)].length ≤ 0x04000000 ∧
        0x04000000 < 0x04000000 + [(7 : Byte)].length ∧ s.boot.dramTrained = true ∧ State.reset.boot.dramTrained = false ∧
        memTraining (withMem (fun x => { x with training := some 0 }) s) = true) := by decide +kernel

theorem test_premises_EndpointEvents :
    (ready.link.perstLow = true ∧ ready.boot.porstLow = false) ∧
    (let s := linked 131 (fun x => { x with st := .running });
      s.link.mayTrain = true ∧ s.link.endpointUp = true ∧ s.boot.porstLow = false ∧ (ringOf s 131).st = .running) := by decide +kernel

theorem test_premises_ReadsChangeNothing :
    mailboxOpen ready rq.slot = true ∧ calFault 7 0 = none ∧ 127 + 1 ≤ 128 ∧ 128 < 127 + 2 ∧
      (∀ o ∈ List.replicate 54 (objId 4 127 zPORT), objExists o = true) ∧ listItems 0x10 0 0 ≠ [] ∧ (itemRowsOf 0x10).isEmpty = false := by
  decide +kernel

theorem test_premises_StagedSet :
    (∀ p ∈ List.replicate 29 (objId 4 127 zPORT, (1 : Int)), pairOk p = true) ∧ pairOk (objId 4 127 zPORT, 3) = false ∧
      pairOk (objId 4 128 zPORT, 1) = false ∧ (itemRowsOf 0x10).isEmpty = false ∧ listItems 0x10 0 0 ≠ [] := by decide +kernel

theorem test_premises_CommitApplies :
    (let s := withS 0x0D 0 0x01FF 2 (withS 4 127 0x25 1 ready);
      mailboxOpen s rq.slot = true ∧ detLiveItem 127 (objId 4 127 0x25) = true ∧ stagedOf s (objId 4 127 0x25) = some 1 ∧
        objDom (objId 0x0D 0 0x01FF) = 0x0D ∧ stagedOf s (objId 0x0D 0 0x01FF) = some 2 ∧ detLiveItem 127 (objId 4 126 0x25) = false) := by
  decide +kernel

theorem test_premises_MailboxRefuses :
    (mailboxOpen ready rq.slot = true ∧ ready.boot.unlocked = false) ∧
    slotBusy (setSlot ready 63 { slotOf ready 63 with phase := .accepted }) 63 = true ∧
    (let s := { ready with boot := { ready.boot with st := .calibrating } };
      s.boot.fwRuns = true ∧ s.boot.st ≠ .ready ∧ s.boot.st ≠ .recovery ∧ s.boot.releaseHeld = false ∧ slotBusy s rq.slot = false ∧
        s.col.snags = []) := by decide +kernel

theorem test_premises_DebugUnlock :
    (let s := { ready with boot := { ready.boot with challenge := some (zeros 48), slotB := { ready.boot.slotB with verified := true } } };
      mailboxOpen s rq.slot = true ∧ s.boot.challenge = some (zeros 48) ∧ s.boot.resetDue = false ∧ deferredSlots s = [] ∧
        (fwSlotOf s 1).verified = true ∧ ready.boot.challenge = none) := by decide +kernel

/-! ### 16, 17 -/

/-- The link in a state. -/
def purled (st : LinkSt) (f : Purl → Purl) : State := modPurl ready (fun x => f { x with st := st })

/-- All four lanes of the link with a record. -/
def lanes4 (x : RxLane) : KMap RxLane := [(0, x), (1, x), (2, x), (3, x)]

/-- The fields of a CAPS payload that the peer sends with PEER_SEEN and all lanes (CKPT_VER as this unit's). -/
def capsBytes (unit : Nat) : List Byte :=
  leBytes 2 0x0100 ++ leBytes 2 (Config.ckptVer % 65536) ++ leBytes 1 unit ++ leBytes 1 1 ++ leBytes 1 15 ++ zeros 1 ++ leBytes 4 devId ++
    zeros 20

theorem test_premises_PurlLink_training :
    (let s := purled .detect id; s.purl.st = .detect ∧ s.purl.stepAt ≤ nowClk s ∧ popCount 4 1 < 2 ∧ 2 ≤ popCount 4 12) ∧
    (let s := purled .train (fun x => { x with ctleStep := 15 });
      s.purl.st = .train ∧ s.purl.ctleStep < 16 ∧ s.purl.since + 125000 + 250000 * (s.purl.ctleStep + 1) ≤ nowClk s ∧
        (rxLane s 0).passed = 0) ∧
    (let s := purled .train (fun x => { x with rx := lanes4 { rxLaneBlank 0 with passed := 1 }, ctleFix := 15 });
      s.purl.since + 4375000 ≤ nowClk s ∧ (∀ l, l < 4 → (rxLane s l).passed ≠ 0) ∧ s.purl.ctleFix ≠ 0xFF ∧ 20000 < 20001) ∧
    (let s := purled .train (fun x => { x with lanesMin := 4 });
      s.purl.lanesMin ≠ 2 ∧ (rxLane s 0).passed = 0 ∧ s.purl.since + 4375000 ≤ nowClk s) ∧
    (purled .lock id).purl.st = .lock ∧
    (let s := purled .active id; streaming s = true ∧ 65 * 16384 * s.purl.markers ≤ 6 * (nowClk s - s.purl.streamAt)) ∧
    (let s := purled .align (fun x => { x with lanes := [0, 1, 2, 3], rx := lanes4 { rxLaneBlank 0 with seen := 1, count := 6 } });
      fieldAt (markerBytes 0 7) 0 1 = 4 ∧ fieldAt (markerBytes 0 7) 1 1 = (rxLane s 0).logical ∧ (rxLane s 0).resync = false ∧
        fieldAt (markerBytes 0 7) 4 4 = ((rxLane s 0).count + 1) % 2 ^ 32 ∧ laneSkew s = some 0 ∧ (rxLane s 3).seen ≠ 0 ∧
        (rxLane (purled .align id) 3).seen = 0 ∧ laneSkew (purled .align id) = none) ∧
    (let s := purled .active (fun x => { x with lanes := [0, 1, 2, 3], rx := lanes4 { rxLaneBlank 0 with run := 15 } });
      s.col.snags = [] ∧ s.purl.lanes.contains 3 = true ∧ natP s 0x0B 0 lPL_HDR_ERRORS / 256 ^ 3 % 256 ≠ 255 ∧ 15 ≤ (rxLane s 3).run ∧
        ((rxLane s 3).errs.filter (fun q => decide (nowClk s < q + 1250000))).length < natP s 0x0B 0 lPL_ERR_LIMIT) := by
  decide +kernel

theorem test_premises_PurlLink_packets :
    (let s := purled .caps (fun x => { x with
          lanes := [0, 1, 2, 3], rx := [0, 1, 2, 3].map (fun l => (l, { rxLaneBlank 0 with seen := 2, logical := l })) });
      s.purl.capsAt ≤ nowClk s ∧ commonLanes (rxAligned s) 15 ≠ [] ∧ packetOk (packetBytes 2 1 1 0 (zeros 32)) true = true ∧
        fieldAt (packetBytes 2 1 1 0 (zeros 32)) 7 1 = 2 ∧ fieldAt (packetBytes 2 1 1 0 (zeros 32)) 6 1 % 2 = 1 ∧
        capsClean (zeros 32) = true ∧ capsAlien s (zeros 32) = true ∧ packetOk (packetBytes 2 1 1 0 (zeros 32)) false = false) ∧
    (let s := purled .active (fun x => { x with txIdle := false });
      canSend s = true ∧ s.purl.statusAt ≤ nowClk s ∧ packetOk (packetBytes 1 0 0 0 (zeros 48)) true = true ∧
        fieldAt (packetBytes 1 0 0 0 (zeros 48)) 7 1 = 1 ∧ packetLen (packetBytes 1 0 0 0 (zeros 48)) = 48 ∧
        fieldAt (packetPayload (packetBytes 1 0 0 0 (zeros 48))) 41 1 = fieldAt s.purl.caps 4 1) ∧
    (let p := zeros 36 ++ leBytes 4 6 ++ [2] ++ zeros 7;
      let s := withP 0x0B 0 lPAIR_ENABLE 1 (modPair (purled .active id) (fun x => { x with role := .active }));
      pairOn s = true ∧ s.pair.role = .active ∧ fieldAt p 40 1 = 2 ∧ fieldAt p 36 4 = 6 ∧ epochOf s < fieldAt p 36 4 ∧
        fieldAt p 36 4 ≤ epochOf (withP 0x0B 0 lPAIR_EPOCH 6 s) ∧ pairCause s = false ∧
        pairCause (setSrcRec s 31 { srcRec s 31 with live := true }) = true) := by decide +kernel

theorem test_premises_PurlLink_times :
    (let s := purled .lock id; s.purl.st = .lock ∧ s.purl.since + 375000 ≤ nowClk s) ∧
    (let s := purled .align id; s.purl.st = .align ∧ s.purl.since + 500000 ≤ nowClk s) ∧
    (let s := purled .caps (fun x => { x with capsFails := 2 });
      s.purl.st = .caps ∧ s.purl.since + 250000 ≤ nowClk s ∧ s.purl.capsFails = 2 ∧ (purled .caps id).purl.capsFails < 2) ∧
    (let s := purled .active id; s.purl.idleMode = false ∧ s.purl.peerIdle = false ∧ s.purl.heardAt + natP s 0x0B 0 lPL_LOSS_TIME * 1250 ≤ nowClk s) ∧
    (let s := purled .active (fun x => { x with txIdle := true, waiting := [⟨0, .swapReady⟩] });
      s.purl.txIdle = true ∧ s.purl.waiting ≠ []) ∧
    (let s := purled .active (fun x => { x with idleMode := true });
      s.purl.idleMode = true ∧ s.purl.txIdle = false ∧ s.purl.lastPacket + natP s 0x0B 0 lPL_IDLE_HOLD * 1250 ≤ nowClk s) ∧
    (mailboxOpen ready rq.slot = true ∧ slotWaiting ready .pairLink = none ∧ standbyRefuses ready 0x0B04 = false ∧
      ready.purl.st ≠ .active ∧
      standbyRefuses (withP 0x0B 0 lPAIR_ENABLE 1 (modPair ready (fun x => { x with role := .standby }))) 0x0B04 = true) ∧
    (let s := modPurl (setSlot ready 63 { slotOf ready 63 with phase := .deferred, job := .pairLink }) (fun x => { x with
        retrainAt := some (10 ^ 14) });
      s.purl.retrainAt = some (10 ^ 14) ∧ 10 ^ 14 ≤ nowClk s ∧ s.col.snags = [] ∧ slotWaiting s .pairLink = some 63) := by decide +kernel

/-- A CAPS of a compatible peer, whatever CKPT_VER is. -/
theorem test_premises_PurlLink_caps : capsAlien ready (capsBytes 1) = false ∧ capsClean (capsBytes 1) = true ∧
    fieldAt (capsBytes 1) 5 1 = 1 ∧ commonLanes 15 (fieldAt (capsBytes 1) 6 1) = [0, 1, 2, 3] := by
  have h : fieldAt (capsBytes 1) 2 2 = Config.ckptVer % 65536 := by
    simp [fieldAt, capsBytes, leBytes, ofLe]
    omega
  have h1 : fieldAt (capsBytes 1) 1 1 = 1 := by decide +kernel
  have h4 : fieldAt (capsBytes 1) 4 1 = 1 := by decide +kernel
  have h10 : fieldAt (capsBytes 1) 10 2 = 0x6420 := by decide +kernel
  exact ⟨by simp [capsAlien, h, h1, h4, h10]; decide, by decide +kernel, by decide +kernel, by decide +kernel⟩

/-- A pair, this unit in a role. -/
def paired (role : Role) (f : Pair → Pair) : State :=
  withP 0x0B 0 lPAIR_ENABLE 1 (modPair ready (fun x => f { x with role := role }))

/-- A port as a checkpoint has it, running. -/
def ckptPort0 : CkptPort := ⟨true, 0, 0, 0, 0, 0, 0, 0⟩

theorem test_premises_PairOfUnits_swap :
    (let s := withS 0x0B 0 lPAIR_ENABLE 1 (withS 0x0B 0 lPL_ENABLE 1 ready);
      mailboxOpen s rq.slot = true ∧ pairOn s = false ∧ stagedOf s (objId 0x0B 0 lPAIR_ENABLE) = some 1 ∧ s.purl.st = .disabled ∧
        stagedOf s (objId 0x0B 0 lPL_ENABLE) = some 1) ∧
    (let s := withS 0x0B 0 lPAIR_ENABLE 0 (withS 0x0B 0 lPL_ENABLE 0 (paired .active id));
      pairOn s = true ∧ stagedOf s (objId 0x0B 0 lPAIR_ENABLE) = some 0 ∧ stagedOf s (objId 0x0B 0 lPL_ENABLE) = some 0) ∧
    (let s := modPurl (paired .active (fun x => { x with peer := some ⟨1, 0x3F, 0, false, 0⟩ })) (fun x => { x with st := .active });
      mailboxOpen s rq.slot = true ∧ slotWaiting s .pairSwap = none ∧ pairOn s = true ∧ s.pair.role = .active ∧
        s.pair.peer = some ⟨1, 0x3F, 0, false, 0⟩ ∧ healthReady 0x3F = true ∧ canSend s = true) ∧
    (let s := paired .active id; s.pair.cutAt ≤ s.time.ticks ∧ portsQuiet s = true ∧ 2 ≤ xInService s) ∧
    (let s := paired .releasing id; s.pair.role = .releasing ∧ s.pair.finalCut = false ∧ portsQuiet s = true ∧ 2 ≤ xInService s) ∧
    (let s := modPort (modPort ready 1 (fun x => { x with st := .running, launched := true, shotOpen := true })) 0 id;
      (portOf s 1).st = .running ∧ (portOf s 1).launched = true ∧ (portOf s 1).drain = none ∧ (portOf s 1).stop = .none ∧
        (portOf s 1).shotOpen = true ∧ (portOf s (1 - 1)).st = .idle) ∧
    (let s := modPurl (withP 3 1 pLENGTH 480000 (paired .standby (fun x => { x with ckpt := some ⟨256 * 10 ^ 14, [], [], []⟩ })))
        (fun x => { x with st := .active });
      s.pair.role = .standby ∧ healthReady (health s) = true) := by decide +kernel

theorem test_premises_PairOfUnits_claim :
    (let h : CkptPacket := ⟨5, .head 0 0 7 [ckptPort0]⟩;
      let s := modPurl (paired .standby (fun x => { x with incoming := some ⟨[h], 6, false⟩ })) (fun x => { x with st := .active });
      s.purl.st = .active ∧ pairOn s = true ∧ s.pair.incoming = some ⟨[h], 6, false⟩ ∧ headOf [h] = some (7, [ckptPort0]) ∧
        2 = [h].length + 1) ∧
    (let s := paired .standby (fun x => { x with wiringSince := some 0 });
      s.pair.role = .standby ∧ max s.pair.ckptClk s.pair.roleAt + 1250000 ≤ nowClk s ∧ raisable s 116 = true ∧
        s.pair.wiringSince = some 0 ∧ waveAbsent s = true ∧ 0 + 125000 ≤ nowClk s ∧ raisable s 118 = true) ∧
    (kget tdcBlank (measured 7 0 ready).time.tdc 7).meas = [⟨0, 0, false, false, 10 ^ 14⟩] ∧
    (let s := modPort (paired .standby (fun x => { x with ckpt := some ⟨0, [ckptPort0, ckptPort0], [], []⟩ })) 1
        (fun x => { x with st := .armed });
      pairOn s = true ∧ s.pair.role = .standby ∧ s.pair.release = false ∧ s.pair.roleAt + peerLoss s ≤ nowClk s ∧ waveAbsent s = true ∧
        lostSince s s.pair.fibreAt = true ∧ s.pair.peer = none ∧ claimPorts s = [(1, ckptPort0)]) ∧
    (waveAbsent (paired .standby (fun x => { x with peerEdge := some (10 ^ 14) })) = false ∧
      lostSince (paired .standby id) (some (10 ^ 14)) = false) ∧
    (let s := paired .claiming (fun x => { x with wave := true, started := [1], qtest := [(1, ⟨128, true, false, 0, 0, 0, 0⟩)] });
      s.pair.role = .claiming ∧ s.pair.wave = true ∧ s.pair.started.all (qtestReady s) = true ∧
        s.pair.started.any (fun p => qtestFails s p (nth 0 [] p)) = true ∧ peerHealthy s = false ∧
        peerHealthy (modPair s (fun x => { x with peer := some ⟨1, 0x20, 0, false, 10 ^ 14⟩ })) = true) ∧
    (let s := paired .claiming (fun x => { x with wave := true, started := [1], qtest := [(1, ⟨128, false, false, 1, 0, 0, 0⟩)] });
      s.pair.started.all (qtestReady s) = true ∧ s.pair.started.any (fun p => qtestFails s p (nth 0 [] p)) = false) := by decide +kernel

/-! ### 18, 19 -/

/-- The collector's record changed. -/
def withCol (f : Collector → Collector) (s : State) : State := { s with col := f s.col }

theorem test_premises_LiveAndSticky :
    (let s := withCol (fun x => { x with detected := [raiseBlank 120] }) ready; s.col.detected ≠ [] ∧ s.col.regAt ≠ some (fclkNow s) ∧ sourceExists 120 = true) ∧
    (let s := withCol (fun x => { x with regAt := some (10 ^ 14 / 2) }) ready; s.col.regAt = some (fclkNow s)) ∧
    canRecordMany ready 128 = true ∧
    (let s := setSrcRec ready 120 { srcRec ready 120 with live := true, quietAt := some (10 ^ 14) };
      (srcRec s 120).quietAt = some (10 ^ 14) ∧ 10 ^ 14 ≤ nowClk s ∧ (srcRec s 120).live = true ∧ (2 ^ 120).testBit 120 = true ∧
        (srcRec ready 120).live = false ∧
        raiseWins ready 120 = false ∧ raiseWins (withCol (fun x => { x with detected := [raiseBlank 120] }) ready) 120 = true) := by decide +kernel

theorem test_premises_FaultPin :
    (let s := withCol (fun x => { x with detected := [raiseBlank 0] }) ready;
      s.col.detected = [raiseBlank 0] ∧ s.col.regAt ≠ some (fclkNow s) ∧ sourceExists 0 = true ∧ isLive s 0 = false ∧ natP s 0x0D 0 jFAULT_N_SEV ≤ severityFor s 0 0xFFFF) ∧
    (let s := withCol (fun x => { x with pulseEnd := some (10 ^ 14) }) ready;
      s.col.pulseEnd = some (10 ^ 14) ∧ 10 ^ 14 ≤ nowClk s ∧ s.boot.st = .ready) ∧
    (canRecord ready = true ∧ storeFull ready = false) := by decide +kernel

/-- An entry of the store. -/
def entry0 : JEntry := ⟨0, 0, 0, 0xFF, 0xFF, 0xFFFF, 0, 0, 1, 0, false, false, false, false, .pin, 0, 0, 0xFF, 0, 0⟩

theorem test_premises_Journal :
    (sourceExists 120 = true ∧ storeFull ready = false) ∧
    (let s := withCol (fun x => { x with store := [entry0], openSince := 10 ^ 14 - 12500000 }) ready;
      0 < openEntries s ∧ s.col.openSince + 12500000 ≤ nowClk s) ∧
    1024 ≤ openEntries (withCol (fun x => { x with store := List.replicate 1024 entry0 }) ready) ∧
    (ready.time.ticks % 12500000 = 0 ∧ (∀ p ∈ ready.col.sources, p.2.coal = none) ∧ ready.boot.rootLocked = true ∧
      ready.col.tokenAt ≤ nowClk ready) ∧
    (let s := withCol (fun x => { x with actions := [⟨3, [], [], 10 ^ 14, true⟩] }) ready;
      ∃ a ∈ s.col.actions, a.running = true ∧ a.windowEnd ≤ nowClk s) := by decide +kernel

/-- A snag on source 120 (FORCE_RAISE). -/
def snag0 (num applied : Nat) (endAt : Option Nat) : Snag := ⟨num, 120, 0, 100, 1, 0, applied, 10 ^ 14, endAt, false, []⟩

theorem test_premises_Snags :
    (let s := { ready with boot := { ready.boot with unlocked := true } };
      let args := leBytes 2 120 ++ zeros 2 ++ leBytes 4 100;
      mailboxOpen s rq.slot = true ∧ s.boot.unlocked = true ∧ storeFull s = false ∧
        snagBadField 1 (fieldAt (fitBytes 32 args) 0 2) (fieldAt (fitBytes 32 args) 2 2) (fieldAt (fitBytes 32 args) 4 4 : Nat) = none) ∧
    (let s := withCol (fun x => { x with snags := [snag0 1 0 none] }) ready;
      s.col.snags = [snag0 1 0 none] ∧ (snag0 1 0 none).nextAt ≤ nowClk s ∧ canRecord s = true ∧
        mailboxOpen { s with col := { s.col with snags := [] } } rq.slot = true) ∧
    (let s := withCol (fun x => { x with snags := [snag0 1 1 (some (10 ^ 14))] }) ready;
      s.col.snags = [snag0 1 1 (some (10 ^ 14))] ∧ 10 ^ 14 ≤ nowClk s ∧ 2 < (snag0 0x40 1 (some (10 ^ 14))).num) ∧
    (ready.boot.fwRuns = true ∧ ready.boot.activation = none ∧ ready.col.fedAt + 12500000 ≤ nowClk ready) := by decide +kernel

/-- The calibration and NVM record changed. -/
def withCal (f : Cal → Cal) (s : State) : State := { s with cal := f s.cal }

/-- A valid bank of region U with one pair. -/
def bank1 : NvmBank := ⟨true, 5, [(objId 4 127 zPORT, 1)], [], []⟩

theorem test_premises_RegionU :
    (let s := withP 4 127 zPORT 1 (withCal (fun x => { x with bank0 := bank1 }) ready);
      mailboxOpen s rq.slot = true ∧ s.cal.nvmOp = none ∧ (bankU s).valid = true ∧ (∀ p ∈ (bankU s).pairs, pairOk p = true) ∧
        objDom (objId 4 127 zPORT) = 4 ∧ objAccess (objId 4 127 zPORT) = 1 ∧
        kget paramReset s.params (objId 4 127 zPORT) ≠ paramReset (objId 4 127 zPORT)) ∧
    (let s := withCal (fun x => { x with nvmOp := some (.store 0x10 (some bank1) none 64), activeBank := 1 }) ready;
      mailboxOpen s rq.slot = true ∧ s.cal.nvmOp ≠ none ∧ s.cal.nvmOp = some (.store 0x10 (some bank1) none 64) ∧ s.cal.activeBank ≤ 1) ∧
    (withCal (fun x => { x with nvmOp := some .erase }) ready).cal.nvmOp = some .erase := by decide +kernel

/-- The record of a domain and inst running. -/
def calRuns (dom ins : Nat) : State := withCal (fun x => { x with recs := [(calKey dom ins, { calBlank with st := .background })] }) ready

theorem test_premises_CalibrationRecordsAndSpares :
    (mailboxOpen ready rq.slot = true ∧ calBusy ready 6 0 = false ∧ calBusy ready 5 0 = false ∧ calBusy ready 7 0 = false) ∧
    (let s := calRuns 6 0;
      mailboxOpen s rq.slot = true ∧ calBusy s 6 0 = true ∧ calBusy s 6 0xFF = false ∧ (calGet s 6 0).failed = false ∧
        calFault 6 0 = none ∧ calTaken s 6 0 = true ∧ calBusy s 5 0 = false ∧ calBusy s 7 0 = false) ∧
    coreUse (setUse ready 67 (.testing (10 ^ 14))) 67 = .testing (10 ^ 14) ∧
    (engineOf (setEngine ready 8 ⟨.testing (10 ^ 14), .idle, 0⟩) 8).st = .testing (10 ^ 14) ∧
    (let s := withP 9 0 aSPARE_TEST_PERIOD 1 { ready with boot := { ready.boot with userApplied := true, marchDone := true } };
      s.boot.userApplied = true ∧ spareTestTicks s ≠ 0 ∧ s.cal.spareTestSince + spareTestTicks s ≤ nowClk s ∧
        nextSpareUnit s = some 60 ∧ calBusy s 5 0 = false ∧ s.boot.marchDone = true ∧ rowsUsed s 255 < 4 ∧
        errorsRecent s [] < natP s 9 0 aSRAM_REPAIR_COUNT ∧
        natP s 9 0 aSRAM_REPAIR_COUNT ≤ errorsRecent s (List.replicate (natP s 9 0 aSRAM_REPAIR_COUNT) (10 ^ 14))) := by decide +kernel

/-! ### 20 -/

/-- The boot record changed. -/
def withBoot (f : Boot → Boot) (s : State) : State := { s with boot := f s.boot }

theorem test_premises_FullResets : ready.boot.porstLow = false ∧ ready.boot.thermalHold = false ∧
    16500 ≤ hottest [0, 0, 16500, 0, 0, 0, 0, 0] ∧ railBelow 2 (863999 : Int) = true := by decide

/-- 20 Table 20-2: VDDA09 is 0.900 V ± 4 %, VDDIO33 3.300 V ± 7 %. -/
theorem test_rail_windows : railBelow 2 864000 = false ∧ railAbove 2 936000 = false ∧ railAbove 2 936001 = true ∧
    railBelow 7 3068999 = true ∧ railBelow 7 3069000 = false ∧ (railOf 2).src = 3 ∧ (railOf 7).src = 4 := by decide

theorem test_premises_ClocksStart :
    (withBoot (fun x => { x with thermalHold := true }) ready).boot.thermalHold = true ∧ hottest [13999, -5, 0, 0, 0, 0, 0, 0] < 14000 ∧
      railBelow 0 712499 = true ∧ railBelow 0 712500 = false ∧ State.reset.boot.porstLow = true ∧
      rootStarts (withBoot (fun x => { x with porstLow := false, carried := [8] }) State.reset) = true ∧ sourceExists 8 = true := by
  decide +kernel

theorem test_premises_MonitorsRaise :
    ready.boot.rootLocked = true ∧ ready.boot.porstLow = false ∧ ready.boot.thermalHold = false ∧ ready.boot.userApplied = false ∧
      (srcRec ready 5).live = false ∧ (∀ x ∈ ready.col.detected, x.src ≠ 5) ∧ 15000 < hottest [0, 0, 0, 0, 0, 0, 0, 16499] ∧
      hottest [0, 0, 0, 0, 0, 0, 0, 16499] < 16500 ∧ (srcRec ready 0).live = false ∧ raisePending ready 0 = false ∧
      railAbove 0 787501 = true ∧ railBelow 7 3068999 = true := by decide +kernel

/-- A unit in cast-on. -/
def castOn (b : BootSt) (f : Boot → Boot) : State := withBoot (fun x => f { x with st := b }) ready

theorem test_premises_CastOnSequence :
    (let s := castOn .reset id; s.boot.rootLocked = true ∧ s.boot.st = .reset ∧
      (⟨true, true, true, true, [], 0, [], [], []⟩ : NvmLoad).march = []) ∧
    (let s := castOn .nvmLoaded id; s.link.clkreqLow = false ∧ s.boot.st = .nvmLoaded) ∧
    (let s := castOn .linkReady (fun x => { x with fwRuns := false, activeSlot := 1 });
      s.boot.st = .linkReady ∧ s.boot.fwRuns = false ∧ s.boot.recovering = false ∧ s.boot.bootSel ≠ 1 ∧ 1 = s.boot.activeSlot ∧
        verdict s (fwSlotOf s 1).image true ≠ .pass ∧ verdict s (fwSlotOf s (1 - 1)).image true ≠ .pass ∧ s.boot.bootSel ≠ 2) ∧
    (let s := castOn .linkReady (fun x => { x with fwRuns := false, bootSel := 2 }); s.boot.bootSel = 2 ∧ s.boot.recovering = false) ∧
    (let s := castOn .linkReady (fun x => { x with fwRuns := false, bootSel := 1 });
      s.boot.fwRuns = false ∧ s.boot.recovering = false ∧ s.boot.bootSel = 1) ∧
    (let s := castOn .linkReady (fun x => { x with recovering := true }); s.boot.recovering = true ∧ recoveryOk s [] = false) ∧
    (let s := castOn .recovery id; s.boot.marchDone = false ∧ s.boot.st = .recovery) ∧
    ((castOn .dramTrain id).boot.st = .dramTrain ∧ devicesFit (2, 32) = true ∧ 0xF0 % 16 = 0 ∧ devicesFit (3, 8) = false ∧
      (8 : Nat).testBit 3 = true ∧ nth (0, 0) [(1, 8), (1, 16), (1, 8), (1, 8)] 1 ≠ nth (0, 0) [(1, 8), (1, 16), (1, 8), (1, 8)] 0) ∧
    (let s := castOn .calibrating id; s.boot.st = .calibrating ∧ s.boot.userApplied = false ∧ calsOver s = true) ∧
    (let s := castOn .calibrating (fun x => { x with userApplied := true }); s.boot.st = .calibrating ∧ s.boot.userApplied = true) := by
  decide +kernel

/-- A firmware image of no code: header with its digest, a signature of zeros. -/
def imageHead (kind : Nat) : List Byte := leBytes 2 0x4657 ++ leBytes 2 0x80 ++ zeros 2 ++ leBytes 2 kind ++ zeros 72

/-- See `imageHead`. -/
def image1 (kind : Nat) : List Byte := imageHead kind ++ sha384 (imageHead kind ++ zeros 48) ++ zeros 96

/-- What stands between an image in good form and `.pass` is the vendor key alone, of which the model knows nothing (log 7): the
hypothesis `verdict … = .pass` is met just where the signature verifies. -/
theorem test_verdict_rests_on_signature :
    verdict ready (image1 1) true =
      (if !Config.ecdsaOk (imgDigest (image1 1)) (imgSignature (image1 1)) then .auth else .pass) := by
  have h1 : ¬ (image1 1).length < imgFrame + imgBytes (image1 1) := by decide +kernel
  have h2 : imgDigest (image1 1) = sha384 (imgCovered (image1 1)) := by decide +kernel
  have h3 : (true && decide (imgRollback (image1 1) < ready.boot.rollback)) = false := by decide +kernel
  have h4 : ¬ ready.boot.devRev % 65536 < imgMinRev (image1 1) := by decide +kernel
  simp only [verdict, if_neg h1, ne_eq, ← h2, not_true_eq_false, if_false, h3, if_neg h4, Bool.false_eq_true]

/-- The same of a recovery image. -/
theorem test_recovery_rests_on_signature :
    recoveryOk ready (image1 2) = Config.ecdsaOk (imgDigest (image1 2)) (imgSignature (image1 2)) := by
  have h1 : ¬ (image1 2).length < imgFrame + imgBytes (image1 2) := by decide +kernel
  have h2 : imgDigest (image1 2) = sha384 (imgCovered (image1 2)) := by decide +kernel
  have h4 : ¬ ready.boot.devRev % 65536 < imgMinRev (image1 2) := by decide +kernel
  have h5 : (image1 2).head? ≠ some 0xFF := by decide +kernel
  have h6 : fieldAt (image1 2) 6 2 = 2 := by decide +kernel
  simp only [recoveryOk, verdict, if_neg h1, ne_eq, ← h2, not_true_eq_false, if_false, Bool.false_and, if_neg h4, Bool.false_eq_true]
  simp only [h6, decide_true, Bool.and_true, decide_eq_true h5, Bool.true_and]
  cases Config.ecdsaOk (imgDigest (image1 2)) (imgSignature (image1 2)) <;> rfl

theorem test_premises_SysResetKeeps :
    mailboxOpen ready rq.slot = true ∧ deferredSlots ready = [] ∧ (0x5252 : Nat) ≠ 0x5253 ∧ ready.boot.resetDue = false := by decide +kernel

theorem test_premises_FirmwareLife :
    (let s := setRing (withBoot (fun x => { x with fwSlot := 0 }) ready) 132 { ringOf ready 132 with st := .running, prod := 1 };
      let b : Bulk := bulkOf 7 224 (image1 1);
      mailboxOpen s rq.slot = true ∧ slotInUse s 1 = false ∧ s.boot.staging = none ∧ 1 ∉ s.boot.verifying ∧ descriptorReady s 0 = true ∧
        bulkOk b = true ∧ stageFault (bulkBytes s b) (bulkLen b) = none) ∧
    (let s := withBoot (fun x => { x with staging := some (1, image1 1, 0) }) ready; s.boot.staging = some (1, image1 1, 0)) ∧
    (withBoot (fun x => { x with verifying := [1, 0] }) ready).boot.verifying = 1 :: [0] ∧
    verdict ready [] true = .auth ∧
    (let s := withBoot (fun x => { x with slotB := ⟨[], true⟩ }) ready;
      mailboxOpen s rq.slot = true ∧ s.boot.resetDue = false ∧ deferredSlots s = [] ∧ (fwSlotOf s 1).verified = true ∧
        (fwSlotOf ready 1).verified = false) ∧
    (let s := withBoot (fun x => { x with activation := some ⟨1, 0, 10 ^ 14, false⟩ }) ready;
      s.boot.activation = some ⟨1, 0, 10 ^ 14, false⟩ ∧ 10 ^ 14 ≤ nowClk s) ∧
    nowClk ready < 10 ^ 14 + 1 ∧
    (let s := withBoot (fun x => { x with activation := some ⟨1, 0, 10 ^ 14, true⟩ }) ready;
      s.boot.activation = some ⟨1, 0, 10 ^ 14, true⟩) := by decide +kernel

theorem test_premises_BindOffEnds :
    (mailboxOpen ready rq.slot = true ∧ deferredSlots ready = [] ∧ unitAtRest ready = true ∧ ready.boot.bindOff = none) ∧
    (let s := withP 0x0B 0 lPAIR_ENABLE 1 (modPair ready (fun x => { x with role := .active, peer := some ⟨1, 0x3F, 0, false, 0⟩ }));
      mailboxOpen s rq.slot = true ∧ deferredSlots s = [] ∧ handsOver s = true ∧ 0 < swapSpan s) ∧
    (let s := running 1;
      mailboxOpen s rq.slot = true ∧ deferredSlots s = [] ∧ handsOver s = false ∧ (portOf s 1).st = .running ∧ hasLaunched s 1 = true ∧
        (portOf s 1).drain = none ∧ (portOf s 1).shotOpen = true) ∧
    (let s := modPort ready 1 (fun x => { x with st := .draining });
      mailboxOpen s rq.slot = true ∧ handsOver s = false ∧ (portOf s 1).st = .draining) ∧
    (let d : Drain := ⟨10 ^ 14, 0, false⟩;
      let s := modPort ready 1 (fun x => { x with st := .draining, drain := some d });
      (portOf s 1).drain = some d ∧ d.change = false ∧ d.endClk ≤ nowClk s ∧ s.boot.bindOff = none) ∧
    (let s := modPair ready (fun x => { x with role := .active, wave := true, lapsed := true }); s.pair.wave = true ∧ s.pair.lapsed = true) ∧
    (let s := modPair ready (fun x => { x with role := .releasing, finalCut := true });
      s.pair.role = .releasing ∧ s.pair.finalCut = true) ∧
    (let s := modLoop ready 3 (fun x => { x with st := .releasing, releaseAt := 10 ^ 14 });
      (loopOf s 3).st = .releasing ∧ (loopOf s 3).releaseAt ≤ nowClk s ∧ slotWaiting s (.loopRelease 3) = none) ∧
    (let s := withP 8 7 dSD_KIND 1 (modSd ready 7 (fun x => { x with st := .on }));
      (sdOf s 7).st = .on ∧ (sdOf s 7).periodAt + sdPeriod s 7 ≤ nowClk s) ∧
    (let s := withP 8 7 dSD_KIND 1 ready;
      mailboxOpen s rq.slot = true ∧ sdHeld s 7 = none ∧ (sdOf s 7).st = .off ∧ sdKind s 7 ≠ 0) := by decide +kernel

/-! ### Well-formedness: each check refuses a term just outside its bound, and accepts one at it -/

theorem test_wf_refuses_request : (let r : Req := ⟨64, 0, false⟩; [
    .sysIdent r, .sysStatus r, .sysReset r 0, .sysBindOff r, .paramGet r 0 [], .paramSet r [] none, .paramCommit r 0 0 0,
    .paramList r 0 0 0, .portArm r 0, .portStart r 0 0, .portStop r 0, .portApply r 0, .portStatus r 0, .portProbe r 0,
    .zoneDefine r 0, .zoneEnable r 0, .zoneDisable r 0, .zoneSync r 0 0, .zoneFreezeDc r 0 0, .zoneStatus r 0,
    .capSkeinCreate r 0, .capArm r 0, .capDisarm r 0, .capForce r 0 0, .capRead r 0 0, .capRelease r 0 0, .timeSet r 0 0,
    .timeGet r, .timePpsCfg r, .timeTdcConfig r 0, .feChartLoad r 0 0 [], .feChartRun r 0, .feInject r 0 [], .feLoopCfg r 0,
    .srcConfig r 0, .srcEnable r 0, .srcDisable r 0, .srcCompTable r 0 [], .calRun r 0 0, .calStatus r 0 0, .calAbort r 0 0,
    .nvmStore r 0, .nvmRestore r 0 none, .nvmEraseUser r 0, .pairConfig r, .pairStatus r, .pairSwap r, .pairLink r 0,
    .fwStage r 0 ⟨List.replicate 64 0, []⟩, .fwVerify r 0, .fwActivate r 0, .fwKrnLoad r 0 ⟨List.replicate 64 0, []⟩,
    .fwKrnStart r 0, .fwKrnStop r 0, .faultRead r 0 0, .faultClear r 0, .faultSeverity r 0 0, .faultJournalCfg r,
    .faultPinRelease r 0, .diagUnlock r 0 [], .diagSnagSet r 0 [], .diagSnagClear r 0, .compConfig r 0 0, .compResume r 0 0 0,
    .memFreq r 0, .memTrain r, .memPpr r 0 0 0 0 0, .badOpcode r 0] : List Instr).all (fun i => !i.wf) = true := by decide +kernel

theorem test_wf_refuses_tag : ([.timeGet ⟨0, 2 ^ 32, true⟩, .mbxDoorbellBusySlot 64, .malformedRequest 64 (zeros 16),
    .malformedRequest 0 (zeros 15)] : List Instr).all (fun i => !i.wf) = true := by decide +kernel

theorem test_wf_refuses_fields : ([
    (.sysReset ⟨0, 0, false⟩ (2 ^ 32) : Instr),
    (.paramCommit ⟨0, 0, false⟩ 256 0 0 : Instr),
    (.paramCommit ⟨0, 0, false⟩ 0 256 0 : Instr),
    (.paramCommit ⟨0, 0, false⟩ 0 0 256 : Instr),
    (.paramList ⟨0, 0, false⟩ 0 0 65536 : Instr),
    (.portStart ⟨0, 0, false⟩ 0 (2 ^ 64) : Instr),
    (.zoneSync ⟨0, 0, false⟩ (2 ^ 128) 0 : Instr),
    (.faultClear ⟨0, 0, false⟩ (2 ^ 128) : Instr),
    (.timeTdcConfig ⟨0, 0, false⟩ 65536 : Instr),
    (.nvmStore ⟨0, 0, false⟩ 256 : Instr),
    (.calRun ⟨0, 0, false⟩ 65536 0 : Instr),
    (.calRun ⟨0, 0, false⟩ 0 256 : Instr),
    (.memPpr ⟨0, 0, false⟩ 0 0 0 0 (2 ^ 32) : Instr),
    (.badOpcode ⟨0, 0, false⟩ 65536 : Instr)] : List Instr).all (fun i => !i.wf) = true := by decide +kernel

theorem test_wf_refuses_lists : ([
    (.paramGet ⟨0, 0, false⟩ 0 (List.replicate 60 0) : Instr),
    (.paramGet ⟨0, 0, false⟩ 0 [2 ^ 32] : Instr),
    (.paramGet ⟨0, 0, false⟩ 256 [] : Instr),
    (.paramSet ⟨0, 0, false⟩ (List.replicate 30 (0, 0)) none : Instr),
    (.paramSet ⟨0, 0, false⟩ [(0, 2 ^ 31)] none : Instr),
    (.paramSet ⟨0, 0, false⟩ [(0, -2 ^ 31 - 1)] none : Instr),
    (.paramSet ⟨0, 0, false⟩ [(2 ^ 32, 0)] none : Instr),
    (.feChartLoad ⟨0, 0, false⟩ 0 0 (List.replicate 15 (List.replicate 16 0)) : Instr),
    (.feChartLoad ⟨0, 0, false⟩ 0 1 [List.replicate 15 0] : Instr),
    (.feInject ⟨0, 0, false⟩ 0 (List.replicate 241 0) : Instr),
    (.srcCompTable ⟨0, 0, false⟩ 0 (List.replicate 241 0) : Instr),
    (.diagUnlock ⟨0, 0, false⟩ 0 (List.replicate 241 0) : Instr),
    (.diagSnagSet ⟨0, 0, false⟩ 0 (List.replicate 241 0) : Instr)] : List Instr).all (fun i => !i.wf) = true := by decide +kernel

theorem test_wf_refuses_bulk : (let b : Bulk := ⟨List.replicate 63 0, []⟩; let ok : Bulk := ⟨List.replicate 64 0, []⟩; [
    .paramSet ⟨0, 0, false⟩ [] (some b), .nvmRestore ⟨0, 0, false⟩ 0 (some b), .fwStage ⟨0, 0, false⟩ 0 b, .fwKrnLoad ⟨0, 0, false⟩ 0 b,
    .compJobDescriptor b, .fwStage ⟨0, 0, false⟩ 256 ok, .fwKrnLoad ⟨0, 0, false⟩ 256 ok] : List Instr).all (fun i => !i.wf) = true := by
  decide +kernel

theorem test_wf_refuses_ports : ([
    (.portProbeDone 2 [] 0 : Instr),
    (.statisticsSecond 2 : Instr),
    (.shotStart 2 : Instr),
    (.plyLaunch 2 : Instr),
    (.shotEnd 2 : Instr),
    (.drainEnd 2 : Instr),
    (.lmonEdge 2 : Instr),
    (.lmonWindowExpiry 2 : Instr),
    (.launchLost 2 : Instr),
    (.lockWindowExpiry 2 : Instr),
    (.tgateOpen 2 : Instr),
    (.ramanIntervalEnd 2 : Instr),
    (.trUpdate 2 : Instr),
    (.ramanRefHoldExpiry 2 : Instr)] : List Instr).all (fun i => !i.wf) = true := by decide +kernel

theorem test_wf_refuses_ports_b : ([
    (.fusionUpdate 2 : Instr),
    (.fusionStateTimer 2 0 : Instr),
    (.fuseHoldExpiry 2 0 : Instr),
    (.selvedgeSlot 2 : Instr),
    (.breakDetectorArm 2 : Instr),
    (.phaseSample 2 : Instr),
    (.swatchLost 2 : Instr),
    (.specRecord 2 : Instr),
    (.sliceSpareSwap 2 0 : Instr),
    (.sliceInterpolate 2 0 : Instr),
    (.clipRateSecond 2 : Instr),
    (.fusionStateTimer 0 131072 : Instr),
    (.fuseHoldExpiry 0 131072 : Instr),
    (.sliceSpareSwap 0 4 : Instr),
    (.sliceInterpolate 0 4 : Instr)] : List Instr).all (fun i => !i.wf) = true := by decide +kernel

theorem test_wf_refuses_host : ([
    (.ringEnable 136 : Instr),
    (.ringDisable 136 : Instr),
    (.c2hConsWrite 136 0 : Instr),
    (.c2hConsWrite 0 (2 ^ 32) : Instr),
    (.h2cProdWrite 4 0 : Instr),
    (.h2cProdWrite 0 (2 ^ 32) : Instr),
    (.registerWrite .msixEnable (2 ^ 32) : Instr),
    (.linkUp 9 1 : Instr),
    (.linkUp 1 5 : Instr),
    (.dmaCompletionError 136 : Instr),
    (.dmaCompletionTimeout 136 : Instr),
    (.irqModTimer 136 : Instr),
    (.c2hFrameWrite 136 : Instr),
    (.ringHoldExpiry 136 : Instr),
    (.ptmDialogStart 256 : Instr)] : List Instr).all (fun i => !i.wf) = true := by decide +kernel

theorem test_wf_refuses_system : ([
    (.castOnStart 4 0 : Instr),
    (.castOnStart 0 8 : Instr),
    (.supplyTrip ⟨3, 0⟩ : Instr),
    (.supplyReturn ⟨3, 0⟩ : Instr),
    (.railExcursion ⟨8, 0⟩ : Instr),
    (.dieTempSample (List.replicate 7 0) : Instr),
    (.thermalRecover (List.replicate 9 0) : Instr),
    (.dramTrainingDone [(1, 8)] 0 true : Instr),
    (.dramTrainingDone (List.replicate 4 (1, 8)) 16 true : Instr),
    (.triginEdge 4 : Instr),
    (.trigoutPulseEnd 4 : Instr),
    (.tdcThreshSettled 16 : Instr),
    (.faultQuietTimer 128 : Instr),
    (.loopUpdate 4 : Instr),
    (.loopHoldExpiry 4 : Instr),
    (.loopReleaseEnd 4 : Instr),
    (.sdCarrierPeriod 8 : Instr),
    (.sdFbHoldExpiry 8 : Instr),
    (.sdSaturationTimer 8 : Instr)] : List Instr).all (fun i => !i.wf) = true := by decide +kernel

theorem test_wf_refuses_zones : ([
    (.capForceAtReached 32 : Instr),
    (.hankPostComplete 32 : Instr),
    (.skeinRearm 32 : Instr),
    (.zoneInputSample 128 : Instr),
    (.detectorDecision 128 0 : Instr),
    (.detectorDecision 0 4 : Instr)] : List Instr).all (fun i => !i.wf) = true := by decide +kernel

theorem test_wf_refuses_needle : ([
    (.breakInstr 68 : Instr),
    (.dmaComplete 68 : Instr),
    (.dwait 68 : Instr),
    (.cycrd 68 0 : Instr),
    (.cycrd 0 32 : Instr),
    (.evt 68 0 0 : Instr),
    (.evt 0 32 0 : Instr),
    (.evt 0 0 32 : Instr),
    (.needleHeartbeatTimeout 68 : Instr),
    (.needleCoreFault 68 : Instr),
    (.needleSpareInService 68 : Instr),
    (.krnLoadDone 16 : Instr),
    (.krnSwapSwitch 16 : Instr),
    (.krnSwapForcedHalt 16 : Instr),
    (.krnStopDone 16 : Instr)] : List Instr).all (fun i => !i.wf) = true := by decide +kernel

theorem test_wf_refuses_engines : ([
    (.compBlockDone 9 : Instr),
    (.compEngineFault 9 : Instr),
    (.compSpareInService 9 : Instr),
    (.outputRingDrain 16 : Instr),
    (.refreshDue 4 0 0 : Instr),
    (.refreshDue 0 2 0 : Instr),
    (.refreshDue 0 0 16 : Instr),
    (.selfRefreshEnter 4 : Instr),
    (.selfRefreshExit 4 : Instr),
    (.rowIdleClose 4 0 0 : Instr),
    (.rowIdleClose 0 2 0 : Instr),
    (.rowIdleClose 0 0 16 : Instr),
    (.neighbourRefresh 4 0 0 : Instr),
    (.neighbourRefresh 0 2 0 : Instr),
    (.neighbourRefresh 0 0 16 : Instr)] : List Instr).all (fun i => !i.wf) = true := by decide +kernel

theorem test_wf_accepts_bounds : ([
    (.sysIdent ⟨63, 2 ^ 32 - 1, true⟩ : Instr),
    (.paramGet ⟨0, 0, false⟩ 255 (List.replicate 59 0) : Instr),
    (.paramSet ⟨0, 0, false⟩ [(2 ^ 32 - 1, -2 ^ 31), (0, 2 ^ 31 - 1)] none : Instr),
    (.zoneSync ⟨0, 0, false⟩ (2 ^ 128 - 1) (2 ^ 64 - 1) : Instr),
    (.fwStage ⟨0, 0, false⟩ 255 ⟨List.replicate 64 255, []⟩ : Instr),
    (.feChartLoad ⟨0, 0, false⟩ 0 14 (List.replicate 14 (List.replicate 16 0)) : Instr),
    (.fuseHoldExpiry 1 131071 : Instr),
    (.c2hConsWrite 135 (2 ^ 32 - 1) : Instr),
    (.castOnStart 3 7 : Instr),
    (.detectorDecision 127 3 : Instr),
    (.evt 67 31 31 : Instr),
    (.refreshDue 3 1 15 : Instr),
    (.supplyTrip ⟨2, 0⟩ : Instr),
    (.faultQuietTimer 127 : Instr),
    (.tdcEdge 16 true 3 (some 256) : Instr),
    (.dramTrainingDone (List.replicate 4 (2, 32)) 15 true : Instr),
    (.repInstr 67 (.imm 1) 4 : Instr),
    (.controlClassInstr 0 (.b 8) : Instr)] : List Instr).all (fun i => i.wf) = true := by decide +kernel

theorem test_wf_refuses_measured : ([
    .tdcEdge 17 false 0 none, .tdcEdge 0 false 4 none, .tdcEdge 0 false 0 (some 0), .tdcEdge 0 false 0 (some 257),
    .tdcCoreTestDone 16 0 [] 0, .tdcCoreTestDone 0 4 [] 0, .ramanWindowEnd 2 [] [], .gateTestDecision 2 (List.replicate 30 0),
    .gateTestDecision 0 (List.replicate 29 0), .dechirpRow 2 0 [], .sliceMonitorEval 2 0 ⟨0, []⟩, .sliceMonitorEval 0 4 ⟨0, []⟩,
    .hybBlock 2 0 [], .sliceStepDone 2 [], .sliceFgChannel 2 [], .ramanGainCalDone 2 (List.replicate 6 0), .ramanGainCalDone 0 [],
    .ramanOffsetCalDone 2 [[], []] [[], []], .ramanOffsetCalDone 0 [] [[], []], .ramanOffsetCalDone 0 [[], []] [], .feConversion [], .feSelfcalDone 16 (List.replicate 8 0)
      (List.replicate 8 0) 0 0, .feSelfcalDone 0 [] (List.replicate 8 0) 0 0, .feSelfcalDone 0 (List.replicate 8 0) [] 0 0] :
    List Instr).all (fun i => !i.wf) = true := by decide +kernel

theorem test_wf_refuses_instructions : ([
    (.controlClassInstr 68 .nop : Instr),
    (.controlClassInstr 0 (.b 2) : Instr),
    (.controlClassInstr 0 (.bc .z true 6) : Instr),
    (.controlClassInstr 0 (.call 1) : Instr),
    (.repInstr 0 (.imm 1) 2 : Instr),
    (.repInstr 68 (.imm 1) 0 : Instr),
    (.trapInstr 68 .trap : Instr),
    (.vectorAluInstr 68 (.vbcastImm 0 0) : Instr),
    (.accumulatorInstr 68 .aclr : Instr),
    (.specialFunctionInstr 68 (.rcp false 0 0) : Instr),
    (.waitInstr 68 0 0 : Instr),
    (.waitInstr 0 8 0 : Instr),
    (.doneInstr 68 0 0 : Instr),
    (.doneInstr 0 8 0 : Instr),
    (.putInstr 68 0 0 0 : Instr),
    (.putInstr 0 32 0 0 : Instr),
    (.putInstr 0 0 8 0 : Instr),
    (.ckpt 68 0 0 : Instr),
    (.ckpt 0 8 0 : Instr)] : List Instr).all (fun i => !i.wf) = true := by decide +kernel

theorem test_wf_refuses_instructions_b : ([
    (.dmaInstr 68 0 0 0 false : Instr),
    (.dmaInstr 0 8 0 0 false : Instr),
    (.cfrCfw 68 (.loop 0) false 0 : Instr),
    (.cfrCfw 0 (.loop 0) false 32 : Instr),
    (.fsrc 68 0 0 0 0 : Instr),
    (.fsrc 0 128 0 0 0 : Instr),
    (.fsrc 0 0 32 0 0 : Instr),
    (.fsrc 0 0 0 32 0 : Instr),
    (.fsrc 0 0 0 0 32 : Instr),
    (.coreSelftestDone 68 true : Instr),
    (.needleEccError 68 true : Instr)] : List Instr).all (fun i => !i.wf) = true := by decide +kernel

theorem test_wf_refuses_memory : ([
    (.loopSenseMismatch 4 0 : Instr),
    (.wckDriftCheck 4 0 0 : Instr),
    (.wckDriftCheck 0 2 0 : Instr),
    (.linkEccError 8 0 true : Instr),
    (.ecsCountCheck 4 0 0 0 0 : Instr),
    (.ecsCountCheck 0 2 0 0 0 : Instr),
    (.ecsCountCheck 0 0 16 0 0 : Instr),
    (.stitchMarkerRx 4 [] 0 0 false : Instr),
    (.plInvalidHeader 4 false : Instr),
    (.dramAccess 4 [] : Instr),
    (.dramAccess 0 [⟨8, 0⟩] : Instr),
    (.dramAccess 1 [⟨0, 0⟩] : Instr),
    (.mr4Poll (List.replicate 9 (0, 0)) : Instr),
    (.writeBufferOverflow true ⟨32, []⟩ : Instr),
    (.writeBufferOverflow false ⟨2, []⟩ : Instr),
    (.compTestDone 9 true : Instr)] : List Instr).all (fun i => !i.wf) = true := by decide +kernel

end Sys2Proof.Tests
end

section
/-! PROOFS. Plans and shots of a port (01_fibre_shots_stitches.md): O7 and O8. -/

namespace Sys2Proof.Machine

/-! ### Object IDs of the plan items -/

theorem objDom_objId_ne_three {d : Nat} (i n : Nat) (h : 4 ≤ d) : objDom (objId d i n) ≠ 3 := by
  unfold objDom objId; omega

theorem objDom_planObj {p i : Nat} (hp : p ≤ 1) (hi : i < 65536) : objDom (objId 3 p i) = 3 := by
  unfold objDom objId; omega

theorem objItem_objId {i : Nat} (d p : Nat) (hi : i < 65536) : objItem (objId d p i) = i := by
  unfold objItem objId; omega

theorem objId_inj_item {d p i j : Nat} : objId d p i = objId d p j ↔ i = j := by
  unfold objId; omega

/-- An object that PORT_APPLY applies on a port is the port's item that it names. -/
theorem objId_of_planItem {p o : Nat} (h : planItem p o = true) : o = objId 3 p (objItem o) := by
  simp only [planItem, Bool.and_eq_true, decide_eq_true_eq] at h
  obtain ⟨⟨hdom, hins⟩, -⟩ := h
  unfold objDom at hdom
  unfold objInst at hins
  unfold objId objItem
  omega

/-! ### Taking a request leaves what a plan is checked against alone

MBX_ACCEPTED is an item of domain 1; no check of a plan reads that domain or a slot. -/

section Accept
variable (s : State) (r : Req) (op : Nat)

@[simp] theorem accept_ports : (accept s r op).ports = s.ports := rfl
@[simp] theorem accept_staged : (accept s r op).staged = s.staged := rfl
@[simp] theorem accept_col : (accept s r op).col = s.col := rfl
@[simp] theorem portOf_accept (p : Nat) : portOf (accept s r op) p = portOf s p := rfl
@[simp] theorem stagedOf_accept (o : Nat) : stagedOf (accept s r op) o = stagedOf s o := rfl
@[simp] theorem zoneOf_accept (z : Nat) : zoneOf (accept s r op) z = zoneOf s z := rfl
@[simp] theorem zoneDefined_accept : zoneDefined (accept s r op) = zoneDefined s := rfl
@[simp] theorem skDefined_accept : skDefined (accept s r op) = skDefined s := rfl
@[simp] theorem skRuns_accept : skRuns (accept s r op) = skRuns s := rfl
@[simp] theorem portIdle_accept : portIdle (accept s r op) = portIdle s := rfl
@[simp] theorem checkCores_accept : checkCores (accept s r op) = checkCores s := rfl
@[simp] theorem loadedSlots_accept : loadedSlots (accept s r op) = loadedSlots s := rfl
@[simp] theorem compLimit_accept : compLimit (accept s r op) = compLimit s := rfl
@[simp] theorem ckptBytes_accept (c : Scene) : ckptBytes (accept s r op) c = ckptBytes s c := rfl

theorem getP_accept {d : Nat} (i n : Nat) (h : 2 ≤ d) : getP (accept s r op) d i n = getP s d i n := by
  refine accept_params s r op _ ?_
  simp only [objId, xMBX_ACCEPTED]
  omega

theorem natP_accept {d : Nat} (i n : Nat) (h : 2 ≤ d) : natP (accept s r op) d i n = natP s d i n := by
  simp [natP, getP_accept s r op i n h]

@[simp] theorem dualOn_accept : dualOn (accept s r op) = dualOn s := by simp [dualOn, getP_accept]

@[simp] theorem acceptedItem_accept : acceptedItem (accept s r op) = acceptedItem s := by
  funext p i; simp [acceptedItem, getP_accept]

@[simp] theorem acceptedView_accept : acceptedView (accept s r op) = acceptedView s := by
  funext p; simp [acceptedView]

@[simp] theorem stagedView_accept : stagedView (accept s r op) = stagedView s := by
  funext p; simp [stagedView]

@[simp] theorem zaccepted_accept : zaccepted (accept s r op) = zaccepted s := by
  funext z i; simp [zaccepted, getP_accept]

@[simp] theorem skview_accept : skview (accept s r op) = skview s := by
  funext k i; simp [skview, getP_accept]

@[simp] theorem scenePlans_accept (ps : List Nat) : scenePlans (accept s r op) ps = scenePlans s ps := by
  simp [scenePlans, zonesDefined]

@[simp] theorem planConflict_accept (ps : List Nat) : planConflict (accept s r op) ps = planConflict s ps := by
  simp [planConflict]

@[simp] theorem cycleLimit_accept (users : Nat) : cycleLimit (accept s r op) users = cycleLimit s users := rfl

@[simp] theorem needleFault_accept (c : Scene) (w : Nat) : needleFault (accept s r op) c w = needleFault s c w := by
  simp [needleFault, natP_accept]

@[simp] theorem pairCharge_accept (c : Scene) : pairCharge (accept s r op) c = pairCharge s c := by
  simp [pairCharge, ckptPeriod, getP_accept, natP_accept]

@[simp] theorem dramOver_accept (c : Scene) : dramOver (accept s r op) c = dramOver s c := by
  simp [dramOver, dramLoad, natP_accept]

@[simp] theorem budgetFault_accept (c : Scene) (w : Nat) : budgetFault (accept s r op) c w = budgetFault s c w := by
  simp [budgetFault, compOver, natP_accept]

@[simp] theorem applyPorts_accept (p : Nat) (v : Nat → PlanView) : applyPorts (accept s r op) p v = applyPorts s p v := by
  simp [applyPorts]

@[simp] theorem applyParamFault_accept (p : Nat) (v : Nat → PlanView) :
    applyParamFault (accept s r op) p v = applyParamFault s p v := by
  simp [applyParamFault, natP_accept]

@[simp] theorem applyStateFault_accept (ps : List Nat) (v : Nat → PlanView) :
    applyStateFault (accept s r op) ps v = applyStateFault s ps v := by
  simp [applyStateFault, dualChanges, planBudget]

end Accept

/-! ### The collector's part of the state -/

/-- `t` differs from `s` in the collector and its items only, with the snags as they were (18 R380 to R390). -/
structure OnlyCollector (s t : State) : Prop where
  rest : t = { s with params := t.params, col := t.col }
  snags : t.col.snags = s.col.snags
  items : ∀ o, objDom o ≠ 0x0D → kget paramReset t.params o = kget paramReset s.params o

theorem OnlyCollector.refl (s : State) : OnlyCollector s s := ⟨rfl, rfl, fun _ _ => rfl⟩

theorem OnlyCollector.after {a b c : State} (k : OnlyCollector b c) (h : OnlyCollector a b) : OnlyCollector a c :=
  ⟨k.rest.trans (congrArg (fun x => { x with params := c.params, col := c.col }) h.rest), k.snags.trans h.snags,
    fun o ho => (k.items o ho).trans (h.items o ho)⟩

theorem OnlyCollector.ite {c : Prop} [Decidable c] {s a b : State} (h : OnlyCollector s a) (k : OnlyCollector s b) :
    OnlyCollector s (if c then a else b) := by
  split
  · exact h
  · exact k

theorem OnlyCollector.ports {s t : State} (h : OnlyCollector s t) : t.ports = s.ports := by rw [h.rest]

theorem OnlyCollector.staged {s t : State} (h : OnlyCollector s t) : t.staged = s.staged := by rw [h.rest]

theorem setP_onlyCollector (s : State) (n : Nat) (v : Int) (hn : n < 16777216) : OnlyCollector s (setP s 0x0D 0 n v) := by
  refine ⟨rfl, rfl, fun o ho => kget_kput_ne _ _ _ fun h => ho ?_⟩
  rw [← h]
  unfold objDom objId
  omega

theorem setSrcRec_onlyCollector (s : State) (src : Nat) (x : Source) : OnlyCollector s (setSrcRec s src x) :=
  ⟨rfl, rfl, fun _ _ => rfl⟩

theorem quietIn_onlyCollector (s : State) (src ticks : Nat) : OnlyCollector s (quietIn s src ticks) :=
  setSrcRec_onlyCollector s src _

theorem detect_onlyCollector (s : State) (x : Raise) : OnlyCollector s (detect s x) := by
  unfold detect dropQuiet
  split <;> exact ⟨rfl, rfl, fun _ _ => rfl⟩

theorem makeRoom_onlyCollector (s : State) : OnlyCollector s (makeRoom s) := by
  unfold makeRoom
  split
  · exact .refl s
  · exact .after (b := bumpP s 0x0D 0 jJOURNAL_OVERWRITTEN) ⟨rfl, rfl, fun _ _ => rfl⟩ (setP_onlyCollector s _ _ (by decide))

theorem setBehind_onlyCollector (s : State) : OnlyCollector s (setBehind s) := by
  unfold setBehind detectSrc
  split
  · exact .refl s
  · exact (detect_onlyCollector _ _).after ⟨rfl, rfl, fun _ _ => rfl⟩

theorem closeJournal_onlyCollector (s : State) : OnlyCollector s (closeJournal s) := by
  unfold closeJournal
  dsimp only
  split
  · exact ⟨rfl, rfl, fun _ _ => rfl⟩
  · exact (setBehind_onlyCollector _).after ⟨rfl, rfl, fun _ _ => rfl⟩

/-- The store takes an entry that has room. -/
def storeEntry (s : State) (e : JEntry) : State :=
  let seq := natP s 0x0D 0 jJOURNAL_SEQ
  let s := setP s 0x0D 0 jJOURNAL_SEQ ((seq + 1) % 2 ^ 32 : Nat)
  { s with col := { s.col with
      store := s.col.store ++ [{ e with seq := seq }]
      openSince := if decide (openEntries s = 0) then nowClk s else s.col.openSince } }

theorem storeEntry_onlyCollector (s : State) (e : JEntry) : OnlyCollector s (storeEntry s e) :=
  .after (b := setP s 0x0D 0 jJOURNAL_SEQ ((natP s 0x0D 0 jJOURNAL_SEQ + 1) % 2 ^ 32 : Nat)) ⟨rfl, rfl, fun _ _ => rfl⟩
    (setP_onlyCollector s _ _ (by decide))

theorem appendEntry_eq (s : State) (e : JEntry) :
    appendEntry s e =
      let t := storeEntry (if storeFull s then makeRoom s else s) e
      if 1024 ≤ openEntries t then closeJournal t else t := rfl

theorem appendEntry_onlyCollector (s : State) (e : JEntry) : OnlyCollector s (appendEntry s e) := by
  have hstore : OnlyCollector s (storeEntry (if storeFull s then makeRoom s else s) e) :=
    (storeEntry_onlyCollector _ e).after (.ite (makeRoom_onlyCollector s) (.refl s))
  rw [appendEntry_eq]
  exact .ite ((closeJournal_onlyCollector _).after hstore) hstore

theorem writeEntry_onlyCollector (s : State) (e : JEntry) : OnlyCollector s (writeEntry s e) :=
  (appendEntry_onlyCollector _ _).after (setSrcRec_onlyCollector s e.src _)

theorem dropEntry_onlyCollector (s : State) (src : Nat) : OnlyCollector s (dropEntry s src) :=
  (setP_onlyCollector _ _ _ (by decide)).after (setSrcRec_onlyCollector s src _)

theorem journalEvent_onlyCollector (s : State) (e : JEntry) (x : Raise) : OnlyCollector s (journalEvent s e x) := by
  unfold journalEvent
  dsimp only
  split
  · exact (writeEntry_onlyCollector _ e).after (setSrcRec_onlyCollector s e.src _)
  · exact .ite (dropEntry_onlyCollector s e.src) (setSrcRec_onlyCollector s e.src _)

theorem clearLive_onlyCollector (s : State) (src : Nat) : OnlyCollector s (clearLive s src) := by
  unfold clearLive
  dsimp only
  split
  · exact .ite (quietIn_onlyCollector s src 0) (.refl s)
  · exact (journalEvent_onlyCollector _ _ _).after ⟨rfl, rfl, fun _ _ => rfl⟩

/-! ### What keeps the plan items -/

/-- `t` has the staged set, the snags and the items of the ports that `s` has. -/
structure PlanKept (s t : State) : Prop where
  staged : t.staged = s.staged
  snags : t.col.snags = s.col.snags
  items : ∀ o, objDom o = 3 → kget paramReset t.params o = kget paramReset s.params o

theorem PlanKept.refl (s : State) : PlanKept s s := ⟨rfl, rfl, fun _ _ => rfl⟩

theorem PlanKept.after {a b c : State} (k : PlanKept b c) (h : PlanKept a b) : PlanKept a c :=
  ⟨k.staged.trans h.staged, k.snags.trans h.snags, fun o ho => (k.items o ho).trans (h.items o ho)⟩

theorem PlanKept.ite {c : Prop} [Decidable c] {s a b : State} (h : PlanKept s a) (k : PlanKept s b) :
    PlanKept s (if c then a else b) := by
  split
  · exact h
  · exact k

theorem PlanKept.foldl {β : Type} {f : State → β → State} (h : ∀ s b, PlanKept s (f s b)) (xs : List β) (s : State) :
    PlanKept s (xs.foldl f s) := by
  induction xs generalizing s with
  | nil => exact .refl s
  | cons x xs ih => exact (ih (f s x)).after (h s x)

theorem OnlyCollector.planKept {s t : State} (h : OnlyCollector s t) : PlanKept s t :=
  ⟨h.staged, h.snags, fun o ho => h.items o (by omega)⟩

/-- Items of another domain above the ports' are no plan items. -/
theorem setP_planKept (s : State) {d : Nat} (i n : Nat) (v : Int) (h : 4 ≤ d) : PlanKept s (setP s d i n v) :=
  ⟨rfl, rfl, fun _ ho => kget_kput_ne _ _ _ fun e => objDom_objId_ne_three i n h (e ▸ ho)⟩

theorem bumpP_planKept (s : State) {d : Nat} (i n : Nat) (h : 4 ≤ d) : PlanKept s (bumpP s d i n) := setP_planKept s i n _ h

theorem modPort_planKept (s : State) (p : Nat) (f : Port → Port) : PlanKept s (modPort s p f) := ⟨rfl, rfl, fun _ _ => rfl⟩

theorem modZone_planKept (s : State) (z : Nat) (f : Zone → Zone) : PlanKept s (modZone s z f) := ⟨rfl, rfl, fun _ _ => rfl⟩

theorem modSk_planKept (s : State) (k : Nat) (f : Skein → Skein) : PlanKept s (modSk s k f) := ⟨rfl, rfl, fun _ _ => rfl⟩

theorem modLoop_planKept (s : State) (n : Nat) (f : Loop → Loop) : PlanKept s (modLoop s n f) := ⟨rfl, rfl, fun _ _ => rfl⟩

theorem raiseQuiet_planKept (s : State) (x : Raise) (src ticks : Nat) : PlanKept s (quietIn (detect s x) src ticks) :=
  ((quietIn_onlyCollector _ src ticks).after (detect_onlyCollector s x)).planKept

theorem dropZoneFrame_planKept (s : State) (r : Nat) (qs : List QFrame) : PlanKept s (dropZoneFrame s r qs) := by
  unfold dropZoneFrame
  exact (raiseQuiet_planKept _ _ 85 secTicks).after ⟨rfl, rfl, fun _ _ => rfl⟩

theorem shedZoneFrames_planKept (n : Nat) (s : State) : PlanKept s (shedZoneFrames n s) := by
  induction n generalizing s with
  | zero => exact .refl s
  | succ n ih =>
    unfold shedZoneFrames
    refine .ite (.refl s) ?_
    split
    · exact (ih _).after (dropZoneFrame_planKept s _ _)
    · exact .refl s

theorem queueZone_planKept (s : State) (z : Nat) (f : Frame) : PlanKept s (queueZone s z f) := by
  unfold queueZone
  exact (shedZoneFrames_planKept _ _).after ⟨rfl, rfl, fun _ _ => rfl⟩

theorem handFrame_planKept (s : State) (z : Nat) (f : Frame) : PlanKept s (handFrame s z f) := by
  have hcount : PlanKept s (bumpP s 0x04 z zFRAMES_OUT) := bumpP_planKept s z _ (by decide)
  unfold handFrame
  dsimp only
  split
  · exact .after (b := bumpP s 0x04 z zFRAMES_OUT) ⟨rfl, rfl, fun _ _ => rfl⟩ hcount
  · exact (queueZone_planKept _ z f).after hcount

theorem closeZoneFrame_planKept (s : State) (z : Nat) : PlanKept s (closeZoneFrame s z) := by
  unfold closeZoneFrame
  exact .ite (.refl s) ((handFrame_planKept _ z _).after (modZone_planKept s z _))

theorem zonesPlanInForce_planKept (s : State) (p : Nat) : PlanKept s (zonesPlanInForce s p) := by
  unfold zonesPlanInForce
  refine .foldl (fun s z => ?_) _ s
  have hend : PlanKept s (zoneOldEnds s z) := (modZone_planKept _ z _).after (closeZoneFrame_planKept s z)
  exact .ite (.refl s) (.ite hend (modZone_planKept s z _))

theorem skeinsMark_planKept (s : State) (p at_ : Nat) (kind : MarkKind) : PlanKept s (skeinsMark s p at_ kind) :=
  .foldl (fun s k => modSk_planKept s k _) _ s

theorem giveWork_planKept (s : State) (e : Nat) : PlanKept s (giveWork s e) := by
  unfold giveWork
  dsimp only
  split
  · exact .ite ⟨rfl, rfl, fun _ _ => rfl⟩ ⟨rfl, rfl, fun _ _ => rfl⟩
  · exact ⟨rfl, rfl, fun _ _ => rfl⟩
  · exact ⟨rfl, rfl, fun _ _ => rfl⟩
  · exact .refl s

theorem compAssign_planKept (s : State) : PlanKept s (compAssign s) := by
  unfold compAssign
  exact .foldl (fun s e => .ite (giveWork_planKept s e) (.refl s)) _ s

theorem bypassTo_planKept (limit n : Nat) (s : State) : PlanKept s (bypassTo limit n s) := by
  induction n generalizing s with
  | zero => exact .refl s
  | succ n ih =>
    unfold bypassTo
    refine .ite (.refl s) ?_
    split
    · exact .refl s
    · next f fs _ =>
      have hqueue : PlanKept s (queueZone { s with comp := { s.comp with waiting := fs } } f.frame.zone f.frame) :=
        (queueZone_planKept _ _ _).after ⟨rfl, rfl, fun _ _ => rfl⟩
      exact (((ih _).after (raiseQuiet_planKept _ _ 58 secTicks)).after (bumpP_planKept _ 0 _ (by decide))).after hqueue

theorem bypassPast_planKept (limit : Nat) (s : State) : PlanKept s (bypassPast limit s) :=
  .ite (bypassTo_planKept _ _ s) (.refl s)

theorem compKick_planKept (s : State) : PlanKept s (compKick s) := by
  unfold compKick
  exact (bypassPast_planKept _ _).after (compAssign_planKept s)

theorem loopsWatch_planKept (s : State) : PlanKept s (loopsWatch s) := by
  unfold loopsWatch
  exact .foldl (fun s n => modLoop_planKept s n _) _ s

theorem stepAbandon_planKept (s : State) (p : Nat) : PlanKept s (stepAbandon s p) := by
  unfold stepAbandon
  exact (modPort_planKept _ p _).after (.foldl (fun s c => modPort_planKept s p _) _ s)

theorem stepOnPlan_planKept (s : State) (p : Nat) : PlanKept s (stepOnPlan s p) := by
  have hslots : PlanKept s (stepToSlots s p) := modPort_planKept s p _
  unfold stepOnPlan
  exact .ite (.refl s) (.ite hslots (((modPort_planKept _ p _).after (stepAbandon_planKept _ p)).after hslots))

theorem onPlanInForce_planKept (s : State) (p : Nat) : PlanKept s (onPlanInForce s p) := by
  have hzones := (zonesPlanInForce_planKept _ p).after (stepOnPlan_planKept s p)
  unfold onPlanInForce
  exact (((loopsWatch_planKept _).after (compKick_planKept _)).after (skeinsMark_planKept _ p _ .plan)).after hzones

/-- The coverage of a port is an item of domain 8 and a matter of the collector (12 R276). -/
theorem gateEstablish_onlyCollector (s : State) (p : Nat) (v : PlanView) (applied : Bool) :
    OnlyCollector (setP s 0x08 (0x40 + p) dGATE_DIAG (gateDiag s p v : Int)) (gateEstablish s p v applied) := by
  unfold gateEstablish
  exact .ite (.ite (detect_onlyCollector _ _) (.refl _)) (clearLive_onlyCollector _ _)

theorem gateEstablish_planKept (s : State) (p : Nat) (v : PlanView) (applied : Bool) :
    PlanKept s (gateEstablish s p v applied) :=
  (gateEstablish_onlyCollector s p v applied).planKept.after (setP_planKept s _ _ _ (by decide))

theorem gateEstablish_ports (s : State) (p : Nat) (v : PlanView) (applied : Bool) :
    (gateEstablish s p v applied).ports = s.ports := by
  rw [(gateEstablish_onlyCollector s p v applied).ports, setP_ports]

/-! ### A plan's values come into force -/

/-- An object that every pair writes with one value, and that a pair writes, has that value after it. -/
theorem kget_putItems {vals : List (Nat × Int)} {o : Nat} {v : Int} (s : State) (hv : ∀ q ∈ vals, q.1 = o → q.2 = v)
    (ho : o ∈ vals.map Prod.fst ∨ kget paramReset s.params o = v) : kget paramReset (putItems s vals).params o = v := by
  induction vals generalizing s with
  | nil => simpa [putItems] using ho
  | cons q vals ih =>
    refine ih { s with params := kput paramReset s.params q.1 q.2 } (fun x hx => hv x (List.mem_cons_of_mem q hx)) ?_
    simp only [kget_kput]
    split
    · next h => exact .inr (hv q List.mem_cons_self h)
    · next h => simpa [Ne.symm h] using ho

theorem putItems_eq (s : State) (vals : List (Nat × Int)) : putItems s vals = { s with params := (putItems s vals).params } := by
  induction vals generalizing s with
  | nil => rfl
  | cons q vals ih => exact ih _

/-- The items that report what a plan fixes (01 Table 01-5, 03 Table 03-5). -/
def reportItems : List Nat :=
  [pSHOT_TICKS, pSTITCH_COUNT, pEFF_RATE, pSTITCH_RATE, pOPEN_SELVEDGE, pDUAL_DELTA, pMF_SHIFT_USED, pREF_LEN, pMF_PARTITIONS]

theorem getP_planReports (s : State) (p : Nat) {i : Nat} (h : i ∉ reportItems) : getP (planReports s p) 3 p i = getP s 3 p i := by
  simp only [reportItems, List.mem_cons, List.not_mem_nil, or_false, not_or] at h
  simp only [planReports, getP_setP, objId_inj_item, eq_comm (b := i), h, if_false]

/-- PORT_APPLY applies no report item. -/
theorem not_mem_reportItems_of_planItem {p i : Nat} (hi : i < 65536) (h : planItem p (objId 3 p i) = true) :
    i ∉ reportItems := by
  have hro : ∀ j ∈ reportItems, (itemRow 3 j).all (fun r => decide (r.applyOp ≠ 0x0304)) = true := by decide
  intro hmem
  have := hro i hmem
  rw [planItem, objItem_objId 3 p hi] at h
  cases hrow : itemRow 3 i <;> simp_all

theorem fusionOnPlan_planKept (s : State) (p : Nat) (vals : List (Nat × Int)) : PlanKept s (fusionOnPlan s p vals) := by
  unfold fusionOnPlan
  split
  · exact (modPort_planKept _ p _).after (modPort_planKept s p _)
  · split
    · exact (modPort_planKept _ p _).after (modPort_planKept s p _)
    · exact .refl s

theorem putItems_staged (s : State) (vals : List (Nat × Int)) : (putItems s vals).staged = s.staged := by rw [putItems_eq]

theorem putItems_col (s : State) (vals : List (Nat × Int)) : (putItems s vals).col = s.col := by rw [putItems_eq]

/-- The items of a plan come into force, and then reports and the receiver's start follow. -/
theorem forcePlan_eq (s : State) (p : Nat) (vals : List (Nat × Int)) :
    forcePlan s p vals = hybRestart (planReports (modPort (putItems (fusionOnPlan s p vals) vals) p
      (fun x => { x with nextPlan := [], changing := false })) p) p := rfl

theorem planReports_staged (s : State) (p : Nat) : (planReports s p).staged = s.staged := by
  unfold planReports
  iterate 9 rw [setP_staged]

theorem planReports_col (s : State) (p : Nat) : (planReports s p).col = s.col := by
  unfold planReports
  iterate 9 rw [setP_col]

theorem hybRestart_planKept (s : State) (p : Nat) : PlanKept s (hybRestart s p) := by
  unfold hybRestart setHyb
  exact (modPort_planKept _ p _).after (modPort_planKept s p _)

theorem getP_modPort (s : State) (p d j i : Nat) (f : Port → Port) : getP (modPort s p f) d j i = getP s d j i := rfl

theorem getP_hybRestart (s : State) (p d j i : Nat) : getP (hybRestart s p) d j i = getP s d j i := by
  rw [hybRestart, getP_modPort, setHyb, getP_modPort]

theorem forcePlan_staged (s : State) (p : Nat) (vals : List (Nat × Int)) : (forcePlan s p vals).staged = s.staged := by
  rw [forcePlan_eq, (hybRestart_planKept _ p).staged, planReports_staged, (modPort_planKept _ p _).staged, putItems_staged,
    (fusionOnPlan_planKept s p vals).staged]

theorem forcePlan_snags (s : State) (p : Nat) (vals : List (Nat × Int)) : (forcePlan s p vals).col.snags = s.col.snags := by
  rw [forcePlan_eq, (hybRestart_planKept _ p).snags, planReports_col, (modPort_planKept _ p _).snags, putItems_col,
    (fusionOnPlan_planKept s p vals).snags]

/-- A plan item that the values give one value has it once they are in force: no report overwrites it. -/
theorem getP_forcePlan (s : State) {p i : Nat} {v : Int} {vals : List (Nat × Int)} (hi : i < 65536)
    (hplan : planItem p (objId 3 p i) = true) (hv : ∀ q ∈ vals, q.1 = objId 3 p i → q.2 = v)
    (ho : objId 3 p i ∈ vals.map Prod.fst) : getP (forcePlan s p vals) 3 p i = v := by
  have hput := kget_putItems (fusionOnPlan s p vals) hv (.inl ho)
  rw [forcePlan_eq, getP_hybRestart, getP_planReports _ p (not_mem_reportItems_of_planItem hi hplan), getP_modPort]
  exact hput

/-! ### The staged plan -/

theorem mem_map_fst_of_kget_ne {α : Type} {d : Nat → α} {m : KMap α} {k : Nat} (h : kget d m k ≠ d k) :
    k ∈ m.map Prod.fst := by
  induction m with
  | nil => exact absurd rfl h
  | cons q m ih =>
    by_cases hq : q.1 = k
    · simp [hq]
    · simp only [kget, hq, if_false] at h
      exact List.mem_cons_of_mem _ (ih h)

theorem mem_stagedIds {s : State} {f : Nat → Bool} {o : Nat} {v : Int} (hf : f o = true) (h : stagedOf s o = some v) :
    o ∈ stagedIds s f := by
  have hmem : o ∈ s.staged.map Prod.fst := mem_map_fst_of_kget_ne (d := noStage) (by rw [← stagedOf, h]; simp [noStage])
  obtain ⟨q, hq, rfl⟩ := List.mem_map.mp hmem
  exact List.mem_map_of_mem (List.mem_filter.mpr ⟨hq, hf⟩)

theorem stagedView_of_staged {s : State} {p i : Nat} {v : Int} (hi : i < 65536) (h : stagedOf s (objId 3 p i) = some v) :
    stagedView s p i = v := by
  have hne : i ≠ pSHOT_CHIRP := by unfold pSHOT_CHIRP; omega
  simp [stagedView, withShared, hne, h]

section StagedPlan
variable {s : State} {p i : Nat} {v : Int} (hi : i < 65536) (hplan : planItem p (objId 3 p i) = true)
  (hst : stagedOf s (objId 3 p i) = some v)
include hi hplan hst

omit hi in
theorem planValues_covers_staged : objId 3 p i ∈ (planValues s p).map Prod.fst := by
  have := mem_stagedIds hplan hst
  simp only [planValues, List.map_append, List.map_map]
  exact List.mem_append_left _ (by simpa [Function.comp_def] using this)

/-- The staged value of an item, and no value of a plan accepted before it, is in the plan's values. -/
theorem planValues_staged : ∀ q ∈ planValues s p, q.1 = objId 3 p i → q.2 = v := by
  have hid := mem_stagedIds hplan hst
  intro q hq hqo
  rcases List.mem_append.mp hq with hfresh | hold
  · obtain ⟨o, -, rfl⟩ := List.mem_map.mp hfresh
    obtain rfl : o = objId 3 p i := hqo
    simpa [objItem_objId 3 p hi] using stagedView_of_staged hi hst
  · have := (List.mem_filter.mp hold).2
    simp only [hqo, Bool.not_eq_true', List.any_eq_false, List.mem_map, decide_eq_true_eq] at this
    exact absurd rfl (this _ ⟨_, hid, rfl⟩)

end StagedPlan

theorem stagedOf_dropStagedPlan (s : State) {p o : Nat} (h : planItem p o = true) : stagedOf (dropStagedPlan s p) o = none := by
  refine (kget_kfilter noStage (fun o => !planItem p o) s.staged o).trans ?_
  simp [h, noStage]

/-! ### PORT_APPLY (01 R22 to R24) -/

/-- On an IDLE port a plan is in force at once. -/
theorem takePlan_of_idle {s : State} {p : Nat} (h : (portOf s p).st = .idle) :
    takePlan s p = onPlanInForce (forcePlan (dropStagedPlan s p) p (planValues s p)) p := by
  simp [takePlan, h]

/-- A plan taken on an IDLE port: each staged item of the plan has its value and is no longer staged. -/
theorem takePlan_applies {s : State} {p i : Nat} {v : Int} (h : (portOf s p).st = .idle) (hp : p ≤ 1) (hi : i < 65536)
    (hplan : planItem p (objId 3 p i) = true) (hst : stagedOf s (objId 3 p i) = some v) :
    getP (takePlan s p) 3 p i = v ∧ stagedOf (takePlan s p) (objId 3 p i) = none := by
  rw [takePlan_of_idle h]
  have hkept := onPlanInForce_planKept (forcePlan (dropStagedPlan s p) p (planValues s p)) p
  constructor
  · exact (hkept.items _ (objDom_planObj hp hi)).trans
      (getP_forcePlan _ hi hplan (planValues_staged hi hplan hst) (planValues_covers_staged hplan hst))
  · rw [stagedOf, hkept.staged, forcePlan_staged]
    exact stagedOf_dropStagedPlan s hplan

theorem takePlan_snags {s : State} {p : Nat} (h : (portOf s p).st = .idle) : (takePlan s p).col.snags = s.col.snags := by
  rw [takePlan_of_idle h]
  exact (onPlanInForce_planKept _ p).snags.trans (forcePlan_snags _ p _)

/-- In single-ended operation PORT_APPLY applies the port it names. -/
theorem applyPorts_single {s : State} {v : Nat → PlanView} (p : Nat) (hs : dualOn s = false) (hv : vn (v 0) pDUAL_ENDED = 0) :
    applyPorts s p v = [p] := by
  simp [applyPorts, hs, hv]

/-- In single-ended operation the first item rule that the port's plan breaks decides. -/
theorem applyParamFault_single {s : State} {v : Nat → PlanView} (p : Nat) (hs : dualOn s = false)
    (h0 : vn (v 0) pDUAL_ENDED = 0) (h1 : vn (v 1) pDUAL_ENDED = 0) :
    applyParamFault s p v = (planItemFault (v p)).map (badItem p) := by
  simp [applyParamFault, applyPorts_single p hs h0, h0, h1]

/-- What PORT_APPLY does of a plan that passes on a port of a single-ended unit. -/
theorem bodyPortApply_passes {s : State} {p : Nat} (hp : p ≤ 1) (hs : dualOn s = false)
    (h0 : vn (stagedView s 0) pDUAL_ENDED = 0) (hprobe : (portOf s p).probing = false)
    (hparam : applyParamFault s p (stagedView s) = none) (hstate : applyStateFault s [p] (stagedView s) = none) :
    bodyPortApply p s =
      (drivePins (takePlan (gateEstablish s p (stagedView s p) true) p) [p],
        .final { okWith (applyPayload (stagedView s p)) with notes := bitN (planBlind (stagedView s p)) }) := by
  have hviews : applyViews s p = stagedView s := rfl
  simp [bodyPortApply, Nat.not_lt.mpr hp, hviews, hparam, applyPorts_single p hs h0, hprobe, hstate]

/-- With no snag a body that answers leaves its items and staged set, and its reply in the slot. -/
theorem post_final {s : State} {a : Reply} (n : Nat) (h : s.col.snags = []) :
    (slotOf (post s n (.final a)) n).phase = .done ∧ (slotOf (post s n (.final a)) n).reply = a ∧
      (post s n (.final a)).params = s.params ∧ (post s n (.final a)).staged = s.staged := by
  rw [post, finish_open s n a h]
  refine ⟨?_, ?_, writeResponse_params .., ?_⟩
  · simp [slotOf_writeResponse]
  · simp [slotOf_writeResponse]
  · rw [writeResponse_eq]

theorem snags_of_mailboxOpen {s : State} {n : Nat} (h : mailboxOpen s n = true) : s.col.snags = [] := by
  simp only [mailboxOpen, Bool.and_eq_true, List.isEmpty_iff] at h
  exact h.1.2

/-- An accepted plan of an IDLE port: its values are written before the reports and before what a plan in force does to zones,
skeins and loops, and none of these writes a plan item. -/
theorem portApply_applies {r : Req} {p : Nat} {s : State} (hopen : mailboxOpen s r.slot = true) (hp : p ≤ 1)
    (hidle : (portOf s p).st = .idle) (hprobe : (portOf s p).probing = false) (hdual : dualOn s = false)
    (h0 : vn (stagedView s 0) pDUAL_ENDED = 0) (hparam : applyParamFault s p (stagedView s) = none)
    (hstate : applyStateFault s [p] (stagedView s) = none) :
    ∃ t, exec (.portApply r p) s = .next t ∧ (slotOf t r.slot).phase = .done ∧ (slotOf t r.slot).reply.status = 0 ∧
      ∀ i v, i < 65536 → planItem p (objId 3 p i) = true → stagedOf s (objId 3 p i) = some v →
        getP t 3 p i = v ∧ stagedOf t (objId 3 p i) = none := by
  have hbody := bodyPortApply_passes (s := accept s r 0x0304) hp (by simpa using hdual) (by simpa using h0)
    (by simpa using hprobe) (by simpa using hparam) (by simpa using hstate)
  rw [stagedView_accept] at hbody
  have hrun := mbxRun_open (.portApply r p) r 0x0304 false (bodyPortApply p) s hopen (by simp)
  rw [hbody] at hrun
  have hgate := gateEstablish_planKept (accept s r 0x0304) p (stagedView s p) true
  have hgidle : (portOf (gateEstablish (accept s r 0x0304) p (stagedView s p) true) p).st = .idle := by
    rw [portOf, gateEstablish_ports]; exact hidle
  generalize gateEstablish (accept s r 0x0304) p (stagedView s p) true = g at *
  have hs : s.col.snags = [] := snags_of_mailboxOpen hopen
  have hsnags : (drivePins (takePlan g p) [p]).col.snags = [] := ((takePlan_snags hgidle).trans hgate.snags).trans hs
  obtain ⟨hphase, hreply, hparams, hstaged⟩ := post_final (a :=
    { okWith (applyPayload (stagedView s p)) with notes := bitN (planBlind (stagedView s p)) }) r.slot hsnags
  refine ⟨_, congrArg Host.Outcome.next hrun, hphase, congrArg Reply.status hreply, fun i v hi hplan hst => ?_⟩
  have hgst : stagedOf g (objId 3 p i) = some v := by rw [stagedOf, hgate.staged]; exact hst
  obtain ⟨hval, hnone⟩ := takePlan_applies hgidle hp hi hplan hgst
  rw [getP, hparams, stagedOf, hstaged]
  exact ⟨hval, hnone⟩

/-- A plan that breaks an item rule is turned away before anything is done. -/
theorem portApply_refuses {r : Req} {p i : Nat} {s : State} (hopen : mailboxOpen s r.slot = true) (hp : p ≤ 1)
    (h0 : vn (stagedView s 0) pDUAL_ENDED = 0) (h1 : vn (stagedView s 1) pDUAL_ENDED = 0) (hdual : dualOn s = false)
    (hfault : planItemFault (stagedView s p) = some i) :
    Answers (.portApply r p) r.slot s s (badParam (objId 3 p i) p) := by
  have hparam : applyParamFault s p (stagedView s) = some (badParam (objId 3 p i) p) := by
    rw [applyParamFault_single p hdual h0 h1, hfault]; rfl
  have hbody : bodyPortApply p (accept s r 0x0304) = reply (accept s r 0x0304) (badParam (objId 3 p i) p) := by
    have hviews : applyViews (accept s r 0x0304) p = stagedView s := stagedView_accept s r 0x0304
    simp [bodyPortApply, Nat.not_lt.mpr hp, hviews, hparam]
  exact answers_of_body (accept s r 0x0304).params rfl hopen (by simp) hbody (accept_params s r 0x0304) rfl
    (snags_of_mailboxOpen hopen)

/-- Settles O7, by what PORT_APPLY does to a plan that passes and to one that breaks an item rule. -/
theorem planApplies : Obligations.PlanApplies := by
  unfold Obligations.PlanApplies
  constructor
  · intro r p s hopen hp hidle _ hprobe hdual h0 _ hparam hstate
    exact portApply_applies hopen hp hidle hprobe hdual h0 hparam hstate
  · intro r p i s hopen hp h0 h1 hdual hfault
    exact portApply_refuses hopen hp h0 h1 hdual hfault

/-! ### A shot starts (01 R15, R25; 02 R40, R44) -/

/-- Port A at the time of its shot, with a setting of DUAL_ENDED on both ports among the Raman items that it has accepted, and
port B running. -/
def dualAmongRamanItems : State :=
  modPort (modPort State.reset 1 (fun x => { x with st := .running })) 0 (fun x => { x with
    st := .running, shotNext := some 0, planShots := 1
    raman := { x.raman with next := [(objId 3 0 pDUAL_ENDED, 1), (objId 3 1 pDUAL_ENDED, 1)] } })

/-- The next shot of port B after a step. -/
def nextShotB : Host.Outcome State Fault Refusal → Option Nat
  | .next t => (portOf t 1).shotNext
  | _ => none

/-- The interval that starts with the shot puts the accepted items in force, and port B then follows port A's shot. -/
theorem shotStart_schedules_portB : (nextShotB (exec (.shotStart 0) dualAmongRamanItems)).isSome = true := by decide

/-- Refutes O8: its frame clause for SHOT_START asks for single-ended operation only before the shot. The Raman items that a port
has accepted come into force with the shot (05 R107), and the statement admits a state in which they set DUAL_ENDED: port B then
gets a shot. PARAM_COMMIT accepts no such item (`ramanItem` takes 0x60 to 0x7C), so the clause fails for want of a hypothesis on
`raman.next`, not for a step that the unit is seen to make. -/
theorem not_shotsAndPlies : ¬ Obligations.ShotsAndPlies := by
  unfold Obligations.ShotsAndPlies
  rintro ⟨hstart, -⟩
  obtain ⟨t, ht, -, -, -, -, -, hframe, -⟩ := hstart 0 0 dualAmongRamanItems (by decide) (by decide) (by decide) (by decide)
    (by decide) (by decide) (by decide)
  have hB : portOf t 1 = portOf dualAmongRamanItems 1 := (hframe (by decide)).2 (by decide) 1 (by decide)
  have hshot : (portOf t 1).shotNext.isSome = true := by
    have := shotStart_schedules_portB
    rw [ht] at this
    exact this
  rw [hB] at hshot
  exact absurd hshot (by decide)

end Sys2Proof.Machine
end

section
/-! PROOFS. Launches of a port (02_ply_synthesis_launch.md): O6, O9 and O10. -/

namespace Sys2Proof.Machine

/-! ### A port's record -/

theorem portOf_modPort_same (s : State) (p : Nat) (f : Port → Port) : portOf (modPort s p f) p = f (portOf s p) :=
  kget_kput_same portBlank s.ports p _

theorem portOf_modPort_ne {p q : Nat} (s : State) (f : Port → Port) (h : q ≠ p) : portOf (modPort s p f) q = portOf s q :=
  kget_kput_ne portBlank s.ports _ h.symm

theorem portOf_of_ports_eq {s t : State} (h : t.ports = s.ports) (p : Nat) : portOf t p = portOf s p := by rw [portOf, h, portOf]

/-! ### PORT_START with a redefinition of a zone waiting (02 R45; 06 R131, R145) -/

/-- Port A is ARMED, and an ENABLED zone of it waits for its last sample with an accepted redefinition that names LMON_MISSED. -/
def armedBesideRedefinition : State :=
  let s := { State.reset with boot := { State.reset.boot with st := .ready, fwRuns := true } }
  modZone (modPort s 0 (fun x => { x with st := .armed })) 0 (fun z => { z with
    st := .enabled, stopping := true, pendingDef := true, next := [(objId 3 0 pLMON_MISSED, 1)] })

/-- LMON_MISSED of port A after a command. -/
def missedAfter : Host.Outcome State Fault Refusal → Option Int
  | .next t => some (getP t 3 0 pLMON_MISSED)
  | _ => none

/-- The zone closes as its port starts, and the redefinition then in force writes the count that the start had set to 0. -/
theorem missedAfter_portStart : missedAfter (exec (.portStart ⟨0, 0, true⟩ 0 0) armedBesideRedefinition) = some 1 := by decide

/-- Refutes O6: its clause for PORT_START asks for LMON_MISSED at 0 and says nothing of the port's zones. An ENABLED zone that waits
for the last sample of a stopped port closes when the port starts again, and its accepted redefinition comes into force (06 R144,
R145) after the counts were set to 0; the statement admits a state in which that redefinition names LMON_MISSED. ZONE_DEFINE
accepts items of its zone only, so the clause fails for want of a hypothesis on the zones, not for a step that the unit is seen to
make. -/
theorem not_portCommands : ¬ Obligations.PortCommands := by
  unfold Obligations.PortCommands
  rintro ⟨-, hstart, -⟩
  obtain ⟨t, ht, -, -, -, -, -, -, hmissed, -⟩ := hstart ⟨0, 0, true⟩ 0 0 armedBesideRedefinition (by decide) (by decide)
    (by decide) (by decide) (by decide) (by decide) (.inl rfl)
  have hone := missedAfter_portStart
  rw [ht, missedAfter, hmissed] at hone
  exact absurd hone (by decide)

/-! ### A launch whose reference is known (02 R46 to R48) -/

/-- `t` has the port records, the items and the timebase that `s` has. -/
structure SchedulerKept (s t : State) : Prop where
  ports : t.ports = s.ports
  params : t.params = s.params
  time : t.time = s.time

theorem SchedulerKept.after {a b c : State} (k : SchedulerKept b c) (h : SchedulerKept a b) : SchedulerKept a c :=
  ⟨k.ports.trans h.ports, k.params.trans h.params, k.time.trans h.time⟩

theorem skeinsLaunch_schedulerKept (s : State) (p : Nat) (l : Launch) : SchedulerKept s (skeinsLaunch s p l) := by
  unfold skeinsLaunch
  refine List.foldlRecOn (motive := fun t : State => SchedulerKept s t) _ _ ⟨rfl, rfl, rfl⟩ fun t ht k _ => ?_
  dsimp only
  split
  · exact ht
  · exact ⟨ht.ports, ht.params, ht.time⟩

theorem hkClose_schedulerKept (s : State) (key : Nat) : SchedulerKept s (hkClose s key) := by
  unfold hkClose
  dsimp only
  split <;> exact ⟨rfl, rfl, rfl⟩

theorem hkPut_schedulerKept (s : State) (key : Nat) (rec : List Byte) (ts : Nat) : SchedulerKept s (hkPut s key rec ts) := by
  have hclose := hkClose_schedulerKept s key
  unfold hkPut hkPutAt
  dsimp only
  split
  · exact ⟨hclose.ports, hclose.params, hclose.time⟩
  · exact ⟨rfl, rfl, rfl⟩

/-- A port's record with a launch off the wait and its row due. -/
def rowComesDue (l : Launch) (x : Port) : Port :=
  { x with
    lmonWait := x.lmonWait.filter (fun m => !(decide (m.shot = l.shot) && decide (m.ply = l.ply)))
    rowsDue := x.rowsDue ++ [l] }

theorem launchKnown_schedulerKept (s : State) (p : Nat) (l : Launch) :
    SchedulerKept (modPort s p (rowComesDue l)) (launchKnown s p l) := by
  have hrings := skeinsLaunch_schedulerKept (modPort s p (rowComesDue l)) p l
  unfold launchKnown
  dsimp only
  split
  · exact (hkPut_schedulerKept _ 0 _ _).after hrings
  · exact hrings

theorem portOf_launchKnown (s : State) (p : Nat) (l : Launch) : portOf (launchKnown s p l) p = rowComesDue l (portOf s p) :=
  (portOf_of_ports_eq (launchKnown_schedulerKept s p l).ports p).trans (portOf_modPort_same s p _)

/-- No launch of the same shot and ply waits any more. -/
theorem not_waiting_of_rowComesDue {l w : Launch} {x : Port} (h : w ∈ (rowComesDue l x).lmonWait) :
    ¬ (w.shot = l.shot ∧ w.ply = l.ply) :=
  Decidable.not_and_iff_not_or_not.mpr (by simpa using (List.mem_filter.mp h).2)

/-! ### LMON_EDGE, LMON_WINDOW_EXPIRY, LAUNCH_LOST -/

/-- A port's record once an edge has confirmed a launch with a delay: the history, and the runs of missing, present and near edges. -/
def edgeSeen (d : Int) (x : Port) : Port :=
  { x with
    delays := (d :: x.delays).take 256, missRun := 0, lostTold := false, okRun := x.okRun + 1
    nearRun := if x.delays.isEmpty || decide ((d - delayMean x.delays).natAbs ≤ 320) then x.nearRun + 1 else 0 }

/-- An edge's effect before its launch's row comes due: the port's record, LAUNCH_DELAY, and drift and presence told to the collector. -/
theorem confirm_eq (s : State) (p : Nat) (l : Launch) (ts : Nat) :
    ∃ u, confirm s p l ts = launchKnown u p { l with tL := ts } ∧
      u.ports = (modPort s p (edgeSeen (tsDiff ts l.gate))).ports ∧ u.time = s.time := by
  unfold confirm
  extract_lets x d mean near ds s₁ s₂ s₃ s₄ s₅
  have h : OnlyCollector s₂ s₅ :=
    (OnlyCollector.ite (clearLive_onlyCollector s₄ (20 + p)) (.refl s₄)).after
      ((OnlyCollector.ite (clearLive_onlyCollector s₃ (18 + p)) (.refl s₃)).after
        (OnlyCollector.ite (.refl s₂) (detect_onlyCollector s₂ (portRaise (20 + p) p 0 0))))
  exact ⟨s₅, rfl, h.ports, by rw [h.rest]; rfl⟩

/-- The state with the measurements of a channel that are left once the oldest is taken. -/
def leaveMeas (s : State) (c : Nat) (ms : List Meas) : State := setTdc s c { tdcOf s c with meas := ms }

theorem meas_leaveMeas (s : State) (c : Nat) (ms : List Meas) : (tdcOf (leaveMeas s c ms) c).meas = ms :=
  congrArg TdcChan.meas (kget_kput_same tdcBlank s.time.tdc c _)

theorem popMeas_cons {s : State} {c : Nat} {m : Meas} {ms : List Meas} (h : (tdcOf s c).meas = m :: ms) :
    popMeas s c = some (m, leaveMeas s c ms) := by
  simp only [popMeas, h, leaveMeas]

/-- An edge in the window of a waiting launch confirms it. -/
theorem lmonEdge_confirms {s : State} {p : Nat} {m : Meas} {ms : List Meas} {l : Launch} (hp : p ≤ 1)
    (hm : (tdcOf s p).meas = m :: ms) (hl : (portOf s p).lmonWait.find? (inLmonWindow s p m.ts) = some l) :
    exec (.lmonEdge p) s = .next (confirm (leaveMeas s p ms) p l m.ts) := by
  have hwait : (portOf (leaveMeas s p ms) p).lmonWait.find? (inLmonWindow (leaveMeas s p ms) p m.ts) = some l := hl
  show execLmonEdge p s = _
  simp only [execLmonEdge, popMeas_cons hm, Nat.not_lt.mpr hp, if_false, hwait]

/-- A confirmed launch: its port's record. -/
theorem portOf_confirm (s : State) (p : Nat) (l : Launch) (ts : Nat) :
    portOf (confirm s p l ts) p = rowComesDue { l with tL := ts } (edgeSeen (tsDiff ts l.gate) (portOf s p)) := by
  obtain ⟨u, hu, hports, -⟩ := confirm_eq s p l ts
  rw [hu, portOf_launchKnown, portOf_of_ports_eq hports, portOf_modPort_same]

theorem tdcOf_confirm (s : State) (p c : Nat) (l : Launch) (ts : Nat) : tdcOf (confirm s p l ts) c = tdcOf s c := by
  obtain ⟨u, hu, -, htime⟩ := confirm_eq s p l ts
  rw [hu, tdcOf, (launchKnown_schedulerKept u p _).time, modPort_time, htime, tdcOf]

/-- The oldest launch past its window is counted in LMON_MISSED, and its row comes due at the mean delay. -/
theorem lmonWindowExpiry_misses {s : State} {p : Nat} {l : Launch} {rest : List Launch} (hw : (portOf s p).lmonWait = l :: rest)
    (ht : reached s (l.gate + 256 * (natP s 0x03 p pLMON_WINDOW + 1)) = true) :
    exec (.lmonWindowExpiry p) s = .next (launchKnown
      (modPort (bumpP s 0x03 p pLMON_MISSED) p (fun x => { x with missRun := x.missRun + 1, okRun := 0, nearRun := 0 })) p
      { l with tL := tsAdd l.gate (delayMean (portOf s p).delays), missing := true }) := by
  rw [Nat.mul_comm] at ht
  show execLmonWindowExpiry p s = _
  simp only [execLmonWindowExpiry, hw, tk, ht, if_true]

/-- LAUNCH_LOST with four missing in a row, not yet told. -/
theorem launchLost_tells {s : State} {p : Nat} (hrun : 4 ≤ (portOf s p).missRun) (htold : (portOf s p).lostTold = false) :
    exec (.launchLost p) s = .next (detect (modPort s p (fun x => { x with lostTold := true })) { raiseBlank (18 + p) with port := p }) := by
  show execLaunchLost p s = _
  simp only [execLaunchLost, hrun, htold, Bool.not_false, and_self, if_true]
  rfl

/-- A raise on its way to the collector is all that differs. -/
theorem detect_eq (s : State) (x : Raise) : detect s x = { s with col := (detect s x).col } := by
  unfold detect dropQuiet
  split <;> rfl

theorem detect_modPort (s : State) (p : Nat) (f : Port → Port) (x : Raise) :
    detect (modPort s p f) x = modPort (detect s x) p f := by
  have hsrc : srcRec (modPort s p f) x.src = srcRec s x.src := rfl
  simp only [detect, dropQuiet, hsrc]
  split <;> rfl

theorem portOf_detect (s : State) (x : Raise) (p : Nat) : portOf (detect s x) p = portOf s p :=
  portOf_of_ports_eq (detect_onlyCollector s x).ports p

theorem mem_detected_detect (s : State) (x : Raise) : x ∈ (detect s x).col.detected := by simp [detect]

/-- Settles O9: the edge, the end of the window and the lost launch, each by the one command that it is. -/
theorem launchMonitor : Obligations.LaunchMonitor := by
  unfold Obligations.LaunchMonitor
  refine ⟨fun p m ms l s hp hm hl => ?_, fun p l rest s hw ht => ?_, fun p s hrun htold => ?_, fun p s h => ?_⟩
  · refine ⟨_, lmonEdge_confirms hp hm hl, ?_⟩
    rw [portOf_confirm, tdcOf_confirm]
    exact ⟨meas_leaveMeas s p ms, rfl, fun w hw => not_waiting_of_rowComesDue hw, rfl, rfl⟩
  · refine ⟨_, lmonWindowExpiry_misses hw ht, ?_⟩
    rw [portOf_launchKnown, portOf_modPort_same, getP, (launchKnown_schedulerKept _ p _).params]
    exact ⟨getP_setP_same s 3 p pLMON_MISSED _, rfl, rfl⟩
  · refine ⟨_, launchLost_tells hrun htold, ?_, ?_, ?_⟩
    · rw [detect_eq]; rfl
    · rw [detect_modPort, modPort_col]
    · rw [portOf_detect, portOf_modPort_same]
  · show execLaunchLost p s = .next s
    rcases h with h | h
    · simp [execLaunchLost, Nat.not_le.mpr h]
    · simp [execLaunchLost, h]

/-! ### A trigger edge (02 R41, R42) -/

/-- A port whose launches another pin governs takes no notice of an edge. -/
theorem portEdge_of_other_pin {s : State} {pin p : Nat} (ts tick : Nat) (h : natP s 0x03 p pLAUNCH_TRIG ≠ pin) :
    portEdge s pin ts tick p = s := by
  simp [portEdge, h]

/-- A RUNNING port in TRIGGERED mode places a shot or counts the edge. -/
theorem portEdge_of_triggered {s : State} {pin p tick : Nat} (ts : Nat) (hst : (portOf s p).st = .running)
    (hpin : natP s 0x03 p pLAUNCH_TRIG = pin) (hat : (portOf s p).startAt ≤ tick) (hheld : launchesHeld s p = false)
    (hdrain : (portOf s p).drain = none) (hmode : launchMode s p = 1) : portEdge s pin ts tick p = triggerEdge s p tick := by
  simp [portEdge, hst, hpin, Nat.not_lt.mpr hat, hheld, hdrain, hmode]

theorem triggerEdge_schedules {s : State} {p tick : Nat} (hnone : (portOf s p).shotNext = none)
    (hfits : earliestStart s p ≤ 256 * tick + 7552) :
    triggerEdge s p tick = schedule s p (256 * tick + 7552) (some tick) true false := by
  have ht : tk tick + trigLatency = 256 * tick + 7552 := by simp only [tk, trigLatency]; omega
  simp [triggerEdge, hnone, ht, Nat.not_lt.mpr hfits]

theorem triggerEdge_early {s : State} {p tick : Nat} (h : 256 * tick + 7552 < earliestStart s p) :
    triggerEdge s p tick = earlyEdge s p := by
  have ht : tk tick + trigLatency = 256 * tick + 7552 := by simp only [tk, trigLatency]; omega
  simp [triggerEdge, ht, h]

/-- An edge in TRIGGERED mode touches port records and items. -/
theorem triggerEdge_eq (s : State) (p tick : Nat) :
    triggerEdge s p tick = { s with params := (triggerEdge s p tick).params, ports := (triggerEdge s p tick).ports } := by
  unfold triggerEdge
  dsimp only
  split <;> rfl

theorem triggerEdge_itemsBut (s : State) (p tick : Nat) : itemsBut [objId 3 p pTRIG_EARLY] s (triggerEdge s p tick) := by
  unfold triggerEdge
  dsimp only
  split
  · exact fun o ho => kget_kput_ne _ _ _ fun h => ho (by simp [h])
  · exact fun _ _ => rfl

/-- With no skein running none takes a trigger. -/
theorem skeinTrigin_of_none_runs {s : State} (pin ts tick : Nat) (h : ∀ k, skRuns s k = false) : skeinTrigin s pin ts tick = s := by
  have hk (k t mask rise : Nat) : skeinCondition s k t mask rise = s := by
    have := h k
    unfold skeinCondition
    cases hst : (skOf s k).st <;> simp_all [skRuns]
  unfold skeinTrigin
  refine List.foldlRecOn (motive := fun t : State => t = s) _ _ rfl fun t ht k _ => ?_
  rw [ht]
  exact hk k _ _ _

/-- The launches of the two ports are governed by different pins: an edge serves the one. -/
theorem portEdges_of_triggered {s : State} {pin p ts tick : Nat} (hp : p ≤ 1)
    (hedge : portEdge s pin ts tick p = triggerEdge s p tick) (hother : natP s 0x03 (1 - p) pLAUNCH_TRIG ≠ pin) :
    [0, 1].foldl (fun s q => portEdge s pin ts tick q) s = triggerEdge s p tick := by
  have hbefore : portEdge s pin ts tick (1 - p) = s := portEdge_of_other_pin ts tick hother
  have hafter : portEdge (triggerEdge s p tick) pin ts tick (1 - p) = triggerEdge s p tick := by
    have hitem : objId 3 (1 - p) pLAUNCH_TRIG ∉ [objId 3 p pTRIG_EARLY] := by
      simp only [List.mem_singleton, objId, pLAUNCH_TRIG, pTRIG_EARLY]; omega
    refine portEdge_of_other_pin ts tick ?_
    rwa [natP, getP, triggerEdge_itemsBut s p tick _ hitem]
  obtain rfl | rfl := Nat.le_one_iff_eq_zero_or_eq_one.mp hp
  · simpa [hedge] using hafter
  · simpa [hbefore] using hedge

/-- In single-ended operation an edge serves the one TRIGGERED port that its pin governs, and with no skein running nothing else. -/
theorem triginEdge_of_triggered {s : State} {pin p : Nat} {m : Meas} {ms : List Meas} (hpin : pin ≤ 3)
    (hm : (tdcOf s (2 + pin)).meas = m :: ms) (hdual : dualOn s = false) (hsk : ∀ k, skRuns s k = false)
    (hports : [0, 1].foldl (fun s q => portEdge s pin m.ts m.tick q) (leaveMeas s (2 + pin) ms) =
      triggerEdge (leaveMeas s (2 + pin) ms) p m.tick) :
    exec (.triginEdge pin) s = .next (triggerEdge (leaveMeas s (2 + pin) ms) p m.tick) := by
  have hsingle : dualOn (leaveMeas s (2 + pin) ms) = false := hdual
  have hskeins := skeinTrigin_of_none_runs (s := triggerEdge (leaveMeas s (2 + pin) ms) p m.tick) pin m.ts m.tick fun k => by
    rw [triggerEdge_eq]
    exact hsk k
  show execTriginEdge pin s = _
  simp only [execTriginEdge, popMeas_cons hm, Nat.not_lt.mpr hpin, if_false, hsingle, Bool.false_eq_true, hports, hskeins]

/-! ### The end of a lock window, TGATE, the selvedge slot (02 R39, R43, R49) -/

/-- Leaving LOCKED for HOLDOVER raises source 22 or 23. -/
theorem setLockSt_holdover {s : State} {p : Nat} (h : (portOf s p).lock.st = .locked) :
    setLockSt s p .holdover =
      detect (modPort s p (fun x => { x with lock := { x.lock with st := .holdover } })) { raiseBlank (22 + p) with port := p } := by
  simp [setLockSt, h, refLost]; rfl

/-- `t` comes from `s` by port `p`'s entry into HOLDOVER, with its raise on the way to the collector. -/
structure EntersHoldover (s : State) (p : Nat) (t : State) : Prop where
  lock : (portOf t p).lock.st = .holdover
  raised : { raiseBlank (22 + p) with port := p } ∈ t.col.detected
  others : ∀ q, q ≠ p → portOf t q = portOf s q

theorem EntersHoldover.modPort {s t : State} {p : Nat} {f : Port → Port} (h : EntersHoldover s p t)
    (hf : ∀ x, (f x).lock.st = x.lock.st) : EntersHoldover s p (modPort t p f) :=
  ⟨by rw [portOf_modPort_same, hf, h.lock], h.raised, fun q hq => (portOf_modPort_ne t f hq).trans (h.others q hq)⟩

theorem setLockSt_entersHoldover {s : State} {p : Nat} (h : (portOf s p).lock.st = .locked) :
    EntersHoldover s p (setLockSt s p .holdover) := by
  rw [setLockSt_holdover h]
  exact ⟨by rw [portOf_detect, portOf_modPort_same], mem_detected_detect _ _,
    fun q hq => (portOf_detect _ _ q).trans (portOf_modPort_ne s _ hq)⟩

/-- No edge came in the window of a LOCKED port: HOLDOVER, whatever a drain lets of the next cycle. -/
theorem lockWindowExpiry_holdover {s : State} {p : Nat} (hst : (portOf s p).st = .running) (hlock : (portOf s p).lock.st = .locked)
    (href : (portOf s p).lock.tRef ≠ 0)
    (ht : reached s ((portOf s p).lock.cycleEdge.getD 0 + (portOf s p).lock.tRef + 320001) = true) :
    ∃ t, exec (.lockWindowExpiry p) s = .next t ∧ EntersHoldover s p t := by
  have hcond : (portOf s p).st = .running ∧ (portOf s p).lock.st = .locked ∧ (portOf s p).lock.tRef ≠ 0 ∧
      reached s ((portOf s p).lock.cycleEdge.getD 0 + (portOf s p).lock.tRef + lockWindow + 1) = true := ⟨hst, hlock, href, ht⟩
  have hhold := setLockSt_entersHoldover hlock
  show ∃ t, execLockWindowExpiry p s = .next t ∧ _
  unfold execLockWindowExpiry
  dsimp only
  rw [if_pos hcond]
  split
  · exact ⟨_, rfl, hhold.modPort fun _ => rfl⟩
  · exact ⟨_, rfl, .modPort (.modPort hhold fun _ => rfl) fun _ => rfl⟩

/-- On its shot TGATE opens for TGATE_WIDTH. -/
theorem tgateOpen_opens {s : State} {p : Nat} (hopen : (portOf s p).shotOpen = true) (hdone : (portOf s p).tgateDone = false)
    (hen : vn (pv s p) pTGATE_ENABLE = 1) (ht : reached s ((portOf s p).shotStart + 256 * vn (pv s p) pTGATE_OFFSET) = true)
    (hturn : ((portOf s p).planShots - 1) % max 1 (vn (pv s p) pTGATE_EVERY) = 0) (hofs : (portOf s p).raman.ofsRun = none) :
    ∃ f : Port → Port, exec (.tgateOpen p) s = .next (modPort s p f) ∧ (f (portOf s p)).tgateDone = true ∧
      (f (portOf s p)).tgateFrom = (portOf s p).shotStart + 256 * vn (pv s p) pTGATE_OFFSET ∧
      (f (portOf s p)).tgateTo = (f (portOf s p)).tgateFrom + 256 * vn (pv s p) pTGATE_WIDTH := by
  rw [Nat.mul_comm] at ht
  show ∃ f : Port → Port, execTgateOpen p s = _ ∧ _
  unfold execTgateOpen
  dsimp only
  rw [if_pos ⟨hopen, by simp [hdone], hen, ht⟩]
  refine ⟨_, rfl, rfl, ?_, ?_⟩ <;> simp [hturn, hofs, Nat.mul_comm]

/-- A gate test is a matter of the source drive. -/
theorem gateTestStart_ports (s : State) (p : Nat) (proof : Bool) (ply : Nat) : (gateTestStart s p proof ply).ports = s.ports := by
  unfold gateTestStart
  dsimp only
  generalize (if proof then proofTested s p else runTested s p (pv s p)) = tested
  rw [apply_ite State.ports]
  exact ite_self _

/-- The windows of a proof pulse in a slot that ends at `e` (02 Table 02-6). -/
def proofWindows (e : Nat) (x : Port) : Port :=
  { x with glvlFrom := e - 64000, glvlTo := e - 12800, proofFrom := e - 53760, proofTo := e - 23040 }

/-- A slot that opens. -/
theorem selvedgeSlot_opens {s : State} {p : Nat} (hopen : (portOf s p).shotOpen = true) (hdone : (portOf s p).slotDone = false)
    (ht : reached s ((portOf s p).shotStart + (planRtt (pv s p) + planTau (pv s p)) * 256 / 8000) = true) :
    exec (.selvedgeSlot p) s = .next (if (portOf s p).proofIn then proofPulse (modPort s p (fun x => { x with slotDone := true })) p
      else slotCalibrate (modPort s p (fun x => { x with slotDone := true })) p) := by
  show execSelvedgeSlot p s = _
  simp [execSelvedgeSlot, hopen, hdone, ht]

theorem proofPulse_ports (s : State) (p : Nat) :
    (proofPulse s p).ports = (modPort s p (proofWindows ((portOf s p).shotStart + shotUnits s p))).ports := by
  unfold proofPulse
  dsimp only
  rw [gateTestStart_ports]
  rfl

theorem slotCalibrate_unused {s : State} {p : Nat} (h : (portOf s p).calIn = false) : slotCalibrate s p = s := by
  simp [slotCalibrate, h]

/-- Settles O10, each clause by what its command does to the one port. -/
theorem triggersAndSlots : Obligations.TriggersAndSlots := by
  unfold Obligations.TriggersAndSlots
  refine ⟨?_, fun p s hst hlock href ht => ?_, fun p s hopen hdone hen ht hturn hofs => ?_, fun p s hopen hdone hproof ht => ?_,
    fun p s hopen hdone hproof hcal ht => ?_⟩
  · intro pin p m ms s hpin hp hm hdual hst htrig hother hat hheld hdrain hmode hsk
    have hports := portEdges_of_triggered (s := leaveMeas s (2 + pin) ms) hp
      (portEdge_of_triggered m.ts hst htrig hat hheld hdrain hmode) hother
    refine ⟨_, triginEdge_of_triggered hpin hm hdual hsk hports, ?_, fun hnone hfits => ?_, fun hnone hearly => ?_⟩
    · rw [triggerEdge_eq]
      exact meas_leaveMeas s (2 + pin) ms
    · rw [triggerEdge_schedules (s := leaveMeas s (2 + pin) ms) hnone hfits, schedule, portOf_modPort_same]
      exact ⟨congrArg some (Nat.max_eq_left hfits), rfl⟩
    · rw [triggerEdge_early (s := leaveMeas s (2 + pin) ms) hearly]
      exact ⟨hnone, getP_setP_same _ 3 p pTRIG_EARLY _⟩
  · obtain ⟨t, hexec, hhold⟩ := lockWindowExpiry_holdover hst hlock href ht
    exact ⟨t, hexec, hhold.lock, hhold.raised, hhold.others⟩
  · obtain ⟨f, hexec, hdone', hfrom, hto⟩ := tgateOpen_opens hopen hdone hen ht hturn hofs
    refine ⟨_, hexec, rfl, ?_⟩
    rw [portOf_modPort_same]
    exact ⟨hdone', hfrom, hto, fun q hq => portOf_modPort_ne s f hq⟩
  · have hexec := selvedgeSlot_opens hopen hdone ht
    rw [hproof, if_pos rfl] at hexec
    have hports := proofPulse_ports (modPort s p fun x => { x with slotDone := true }) p
    refine ⟨_, hexec, ?_⟩
    rw [portOf_of_ports_eq hports, portOf_modPort_same, portOf_modPort_same, Nat.mul_comm 256]
    exact ⟨rfl, rfl, rfl, rfl, fun q hq => (portOf_of_ports_eq hports q).trans
      ((portOf_modPort_ne _ _ hq).trans (portOf_modPort_ne s _ hq))⟩
  · have hexec := selvedgeSlot_opens hopen hdone ht
    have hcal' : (portOf (modPort s p (fun x => { x with slotDone := true })) p).calIn = false := by
      rw [portOf_modPort_same]; exact hcal
    simp only [hproof, Bool.false_eq_true, if_false, slotCalibrate_unused hcal'] at hexec
    exact ⟨_, hexec, rfl, portOf_modPort_same s p _⟩

end Sys2Proof.Machine
end

section
/-! PROOFS. The phase engine (04_phase_engine.md): O14. -/

namespace Sys2Proof.Machine

/-! ### Unwrapping the rows that wait (04 R82, R96) -/

/-- `t` differs from `s` in the record of no other port than `p`, has the same pair, and the same INTERP_MAX on `p`. -/
structure UnwrapKept (p : Nat) (s t : State) : Prop where
  others : ∀ q, q ≠ p → portOf t q = portOf s q
  pair : t.pair = s.pair
  interpMax : getP t 3 p pINTERP_MAX = getP s 3 p pINTERP_MAX

theorem UnwrapKept.refl (p : Nat) (s : State) : UnwrapKept p s s := ⟨fun _ _ => rfl, rfl, rfl⟩

theorem UnwrapKept.after {p : Nat} {a b c : State} (k : UnwrapKept p b c) (h : UnwrapKept p a b) : UnwrapKept p a c :=
  ⟨fun q hq => (k.others q hq).trans (h.others q hq), k.pair.trans h.pair, k.interpMax.trans h.interpMax⟩

theorem UnwrapKept.ite {c : Prop} [Decidable c] {p : Nat} {s a b : State} (h : UnwrapKept p s a) (k : UnwrapKept p s b) :
    UnwrapKept p s (if c then a else b) := by
  split
  · exact h
  · exact k

theorem modPort_unwrapKept (s : State) (p : Nat) (f : Port → Port) : UnwrapKept p s (modPort s p f) :=
  ⟨fun _ hq => portOf_modPort_ne s f hq, rfl, rfl⟩

theorem setP_unwrapKept {i : Nat} (s : State) (p : Nat) (v : Int) (h : i ≠ pINTERP_MAX) : UnwrapKept p s (setP s 3 p i v) :=
  ⟨fun _ _ => rfl, rfl, by rw [getP_setP, if_neg (mt objId_inj_item.mp h)]⟩

theorem clearIf_unwrapKept {p : Nat} (s : State) (src : Nat) (hp : p ≤ 1) : UnwrapKept p s (clearIf s src) := by
  have h : OnlyCollector s (clearIf s src) := clearLive_onlyCollector s src
  have hdom : objDom (objId 3 p pINTERP_MAX) = 3 := objDom_planObj hp (by decide)
  exact ⟨fun q _ => portOf_of_ports_eq h.ports q, by rw [h.rest], h.items _ (by omega)⟩

theorem specRow_unwrapKept (s : State) (p : Nat) (row : Row) : UnwrapKept p s (specRow s p row) :=
  .ite (.refl p s) (modPort_unwrapKept s p _)

/-- A row's items are CM_LAST, CM_HELD, FADED_COUNT and STALE_STITCHES, and source 24 or 25 clears as the correction returns
(04 R87, R98). -/
theorem unwrapRow_unwrapKept {p : Nat} (s : State) (row : Row) (hp : p ≤ 1) : UnwrapKept p s (unwrapRow s p row) := by
  unfold unwrapRow
  extract_lets v e ins gs ps none_ seeding cm gs' stale s₁ s₂ s₃ s₄ s₅
  have h₁ : UnwrapKept p s s₁ := setP_unwrapKept s p _ (by decide)
  have h₂ : UnwrapKept p s₁ s₂ := .ite (setP_unwrapKept s₁ p _ (by decide)) (.refl p s₁)
  have h₃ : UnwrapKept p s₂ s₃ := setP_unwrapKept s₂ p _ (by decide)
  have h₄ : UnwrapKept p s₃ s₄ := setP_unwrapKept s₃ p _ (by decide)
  have h₅ : UnwrapKept p s₄ s₅ := .ite (clearIf_unwrapKept s₄ _ hp) (.refl p s₄)
  exact (modPort_unwrapKept s₅ p _).after (h₅.after (h₄.after (h₃.after (h₂.after h₁))))

theorem unwrapRows_unwrapKept {p : Nat} (s : State) (hp : p ≤ 1) : UnwrapKept p s (unwrapRows s p) :=
  List.foldlRecOn (motive := UnwrapKept p s) _ _ (.refl p s) fun t h row _ =>
    (unwrapRow_unwrapKept _ row hp).after ((specRow_unwrapKept t p row).after h)

theorem unwrapRows_of_no_rows {s : State} {p : Nat} (h : (portOf s p).ph.rows = []) : unwrapRows s p = s := by
  rw [unwrapRows, h, List.foldl_nil]

/-- INTERP_MAX is no item that a dual-ended pair shares. -/
theorem interpMax_eq (s : State) (p : Nat) : vn (pv s p) pINTERP_MAX = (getP s 3 p pINTERP_MAX).toNat := by
  rw [vn, pv, withShared, if_neg (by decide)]

/-! ### The products of a row (04 R83) -/

theorem clampI_bounds {lo hi : Int} (v : Int) (h : lo ≤ hi) : lo ≤ clampI lo hi v ∧ clampI lo hi v ≤ hi := by
  unfold clampI
  split
  · omega
  · split <;> omega

theorem dphiOut_bounds (phi before : Nat) : -32767 ≤ dphiOut phi before ∧ dphiOut phi before ≤ 32767 := by
  unfold dphiOut
  exact clampI_bounds _ (by omega)

/-- DPHI of a delivered sample is 0 or a difference of two Φ. -/
theorem deliverGauge_dphi (interpMax : Nat) (g : Gauge) :
    (deliverGauge interpMax g).2.dphi = 0 ∨ ∃ phi before, (deliverGauge interpMax g).2.dphi = dphiOut phi before := by
  unfold deliverGauge
  split
  case h_1 => exact .inl rfl
  case h_2 x xs _ =>
    dsimp only
    split
    case isTrue => exact .inl rfl
    case isFalse =>
      split
      case isTrue => exact .inl rfl
      case isFalse =>
        split
        case isTrue =>
          dsimp only
          split
          · exact .inl rfl
          · exact .inr ⟨_, _, rfl⟩
        case isFalse =>
          split
          · dsimp only
            exact .inr ⟨_, _, rfl⟩
          · exact .inl rfl

theorem deliverGauge_dphi_bounds (interpMax : Nat) (g : Gauge) :
    -32767 ≤ (deliverGauge interpMax g).2.dphi ∧ (deliverGauge interpMax g).2.dphi ≤ 32767 := by
  obtain h | ⟨phi, before, h⟩ := deliverGauge_dphi interpMax g <;> rw [h]
  · decide
  · exact dphiOut_bounds phi before

/-! ### A row goes to its consumers (04 R95) -/

/-- `t` has the ports' records and the ports that adopt a takeover's phase that `s` has. -/
structure PhaseSourceKept (s t : State) : Prop where
  ports : t.ports = s.ports
  adopting : t.pair.adopting = s.pair.adopting

theorem PhaseSourceKept.after {a b c : State} (k : PhaseSourceKept b c) (h : PhaseSourceKept a b) : PhaseSourceKept a c :=
  ⟨k.ports.trans h.ports, k.adopting.trans h.adopting⟩

theorem gapMeasure_phaseSourceKept (s : State) (r : PhaseRow) : PhaseSourceKept s (gapMeasure s r) := by
  unfold gapMeasure
  split
  · exact ⟨rfl, rfl⟩
  · split <;> exact ⟨rfl, rfl⟩

theorem pairNoteRow_phaseSourceKept (s : State) (p : Nat) (r : PhaseRow) : PhaseSourceKept s (pairNoteRow s p r) := by
  unfold pairNoteRow
  split <;> exact ⟨rfl, rfl⟩

theorem statsTake_phaseSourceKept (s : State) (p : Nat) (r : PhaseRow) : PhaseSourceKept s (statsTake s p r) := ⟨rfl, rfl⟩

theorem zonesTakePhase_phaseSourceKept (s : State) (p : Nat) (r : PhaseRow) : PhaseSourceKept s (zonesTakePhase s p r) := by
  unfold zonesTakePhase
  refine List.foldlRecOn (motive := fun t : State => PhaseSourceKept s t) _ _ ⟨rfl, rfl⟩ fun t h z _ => ?_
  dsimp only
  split
  · exact h
  · split <;> exact ⟨h.ports, h.adopting⟩

theorem fusionTake_eq (s : State) (p : Nat) (r : PhaseRow) : ∃ f, fusionTake s p r = modRaman s p f := ⟨_, rfl⟩

/-- Of the ports' records, a delivered row changes the Raman record of its own port only: the interval means (05 R120). -/
theorem deliverPhase_kept_but_raman (s : State) (p : Nat) (r : PhaseRow) :
    ∃ u f, PhaseSourceKept s u ∧ PhaseSourceKept (modRaman u p f) (deliverPhase s p r) := by
  obtain ⟨f, hf⟩ := fusionTake_eq (pairNoteRow (gapMeasure s r) p r) p r
  refine ⟨_, f, (pairNoteRow_phaseSourceKept _ p r).after (gapMeasure_phaseSourceKept s r), ?_⟩
  rw [← hf]
  exact (zonesTakePhase_phaseSourceKept _ p r).after (statsTake_phaseSourceKept _ p r)

theorem adopting_deliverPhase (s : State) (p : Nat) (r : PhaseRow) :
    (deliverPhase s p r).pair.adopting = s.pair.adopting := by
  obtain ⟨u, f, hu, hkept⟩ := deliverPhase_kept_but_raman s p r
  rw [hkept.adopting, modRaman_pair, hu.adopting]

theorem phase_deliverPhase (s : State) (p : Nat) (r : PhaseRow) : (portOf (deliverPhase s p r) p).ph = (portOf s p).ph := by
  obtain ⟨u, f, hu, hkept⟩ := deliverPhase_kept_but_raman s p r
  rw [portOf_of_ports_eq hkept.ports, modRaman, portOf_modPort_same, portOf_of_ports_eq hu.ports]

theorem portOf_deliverPhase_ne {p q : Nat} (s : State) (r : PhaseRow) (h : q ≠ p) :
    portOf (deliverPhase s p r) q = portOf s q := by
  obtain ⟨u, f, hu, hkept⟩ := deliverPhase_kept_but_raman s p r
  rw [portOf_of_ports_eq hkept.ports, modRaman, portOf_modPort_ne u _ h, portOf_of_ports_eq hu.ports]

/-! ### The oldest row is delivered (04 R91, R95) -/

/-- `r` holds the products of `row`: its time, AMP of every stitch, and each DPHI in range (04 R83, R90, R91). -/
structure ProductsOf (row : Row) (r : PhaseRow) : Prop where
  time : r.tL = row.l.tL
  amps : r.amp.length = row.zs.length
  dphis : ∀ d ∈ r.dphi, -32767 ≤ d ∧ d ≤ 32767

/-- A port's record once its oldest unwrapped row has left as `r`, with `rest` still ahead. -/
def rowLeaves (rest : List Row) (gs : List Gauge) (r : PhaseRow) (x : Port) : Port :=
  { x with ph := { x.ph with ahead := rest, gauges := gs, idx := x.ph.idx + 1, out := some r } }

/-- The oldest row leaves the phase engine of a port that adopts no phase after a takeover. -/
theorem deliverOldest_eq {s : State} {p : Nat} {row : Row} {rest : List Row} (h : (portOf s p).ph.ahead = row :: rest)
    (hnot : s.pair.adopting.contains p = false) :
    ∃ u gs r, deliverOldest s p = deliverPhase (modPort u p (rowLeaves rest gs r)) p r ∧ u.ports = s.ports ∧ ProductsOf row r := by
  unfold deliverOldest
  extract_lets v e rs outs none_ s₁ s₂
  split
  case h_1 hnil => exact absurd (h.symm.trans hnil) (List.cons_ne_nil row rest)
  case h_2 row' rest' hcons =>
    obtain ⟨rfl, rfl⟩ := List.cons.inj (h.symm.trans hcons)
    extract_lets n dead full qual r s₃ s₄
    have hstays : s₄.pair.adopting.contains p = false := by
      rw [show s₄.pair.adopting = s.pair.adopting from adopting_deliverPhase s₃ p r]
      exact hnot
    have hdphi : ∀ o ∈ full, -32767 ≤ o.dphi ∧ o.dphi ≤ 32767 := by
      intro o ho
      obtain ho | ho := List.mem_append.mp ho
      · obtain ⟨_, hq, rfl⟩ := List.mem_map.mp ho
        obtain ⟨g, -, rfl⟩ := List.mem_map.mp hq
        exact deliverGauge_dphi_bounds _ g
      · rw [List.eq_of_mem_replicate ho]
        decide
    refine ⟨s₂, rs.map (fun q => q.1), r, ?_, rfl, rfl, List.length_map _, List.forall_mem_map.mpr hdphi⟩
    rw [hstays, Bool.false_and, Bool.false_and, if_neg Bool.false_ne_true]
    rfl

/-! ### PHASE_SAMPLE and SWATCH_LOST -/

/-- With more rows unwrapped than INTERP_MAX the oldest is delivered. -/
theorem phaseSample_delivers {s : State} {p : Nat} (hp : p < 2)
    (h : vn (pv s p) pINTERP_MAX < (portOf (unwrapRows s p) p).ph.ahead.length) :
    exec (.phaseSample p) s = .next (deliverOldest (unwrapRows s p) p) := by
  have hmax : vn (pv (unwrapRows s p) p) pINTERP_MAX = vn (pv s p) pINTERP_MAX := by
    rw [interpMax_eq, interpMax_eq, (unwrapRows_unwrapKept s (by omega)).interpMax]
  show execPhaseSample p s = _
  simp only [execPhaseSample, Nat.not_le.mpr hp, if_false, hmax, h, decide_true, Bool.true_or, if_true]

/-- With no row waiting, no look-ahead complete and more rows to come, nothing is done. -/
theorem phaseSample_waits {s : State} {p : Nat} (hp : p < 2) (hrows : (portOf s p).ph.rows = [])
    (hahead : (portOf s p).ph.ahead.length ≤ vn (pv s p) pINTERP_MAX) (hmore : streamEnded (portOf s p) = false) :
    exec (.phaseSample p) s = .next s := by
  show execPhaseSample p s = _
  simp only [execPhaseSample, Nat.not_le.mpr hp, if_false, unwrapRows_of_no_rows hrows, Nat.not_lt.mpr hahead, hmore,
    decide_false, Bool.or_self, Bool.false_eq_true]

/-- Source 24 or 25 is raised while the correction is dropped (04 R87). -/
theorem swatchLost_raises {s : State} {p : Nat} (hlost : (portOf s p).ph.lost = true) (hr : raisable s (24 + p) = true) :
    exec (.swatchLost p) s = .next (detect s { raiseBlank (24 + p) with port := p }) := by
  have hraise : raiseOnce s (portRaise (24 + p) p 0 0) = detect s { raiseBlank (24 + p) with port := p } := if_pos hr
  show execSwatchLost p s = _
  rw [execSwatchLost, if_pos hlost, hraise]

/-- Settles O14: unwrapping keeps what the delivery is decided by, and the consumers of the row keep the phase engine. -/
theorem phaseDelivers : Obligations.PhaseDelivers := by
  unfold Obligations.PhaseDelivers
  refine ⟨fun p row rest s hp hahead hmax hnot => ?_, fun p s => phaseSample_waits, fun p s => swatchLost_raises⟩
  have hunwrap : UnwrapKept p s (unwrapRows s p) := unwrapRows_unwrapKept s (by omega)
  obtain ⟨u, gs, r, hdeliver, hports, hprod⟩ := deliverOldest_eq hahead (hunwrap.pair ▸ hnot)
  have hexec := phaseSample_delivers hp (by rw [hahead]; exact hmax)
  rw [hdeliver] at hexec
  refine ⟨_, r, hexec, ?_⟩
  rw [phase_deliverPhase, portOf_modPort_same, portOf_of_ports_eq hports]
  exact ⟨rfl, rfl, rfl, rfl, hprod.time, hprod.amps, hprod.dphis, fun q hq => (portOf_deliverPhase_ne _ r hq).trans
    ((portOf_modPort_ne u _ hq).trans ((portOf_of_ports_eq hports q).trans (hunwrap.others q hq)))⟩

end Sys2Proof.Machine
end

section
/-! PROOFS. Raman and fused temperature (05_raman_fused_temperature.md): O15. -/

namespace Sys2Proof.Machine

/-! ### A port's Raman record -/

theorem raman_modRaman_same (s : State) (p : Nat) (f : Raman → Raman) :
    (portOf (modRaman s p f) p).raman = f (portOf s p).raman := by
  rw [modRaman, portOf_modPort_same]

theorem portOf_modRaman_ne {p q : Nat} (s : State) (f : Raman → Raman) (h : q ≠ p) : portOf (modRaman s p f) q = portOf s q :=
  portOf_modPort_ne s _ h

/-- A change of a Raman record after one of ports and items is one of ports and items. -/
theorem modRaman_portsAndItems {s t : State} (p : Nat) (f : Raman → Raman) (h : t = { s with ports := t.ports, params := t.params }) :
    modRaman t p f = { s with ports := (modRaman t p f).ports, params := (modRaman t p f).params } :=
  congrArg (fun u : State => { u with ports := (modRaman t p f).ports, params := (modRaman t p f).params }) h

theorem specDone_modRaman (s : State) (p : Nat) (f : Raman → Raman) :
    (portOf (modRaman s p f) p).specDone = (portOf s p).specDone := by
  rw [modRaman, portOf_modPort_same]

theorem modFuse_raman (s : State) (p g : Nat) (f : Fuse → Fuse) :
    (portOf (modFuse s p g f) p).raman =
      { (portOf s p).raman with fuse := setNth (portOf s p).raman.fuse g (f (nth fuseNone (portOf s p).raman.fuse g)) } :=
  raman_modRaman_same s p _

theorem portOf_setP (s : State) (d i n : Nat) (v : Int) (p : Nat) : portOf (setP s d i n v) p = portOf s p := rfl

/-! ### Lists by index -/

theorem nth_setNth_same {α : Type} (d x : α) {xs : List α} {i : Nat} (h : i < xs.length) : nth d (setNth xs i x) i = x := by
  simp [nth, setNth, List.getElem?_set_self h]

theorem nth_setNth_ne {α : Type} (d x : α) (xs : List α) {i j : Nat} (h : j ≠ i) : nth d (setNth xs i x) j = nth d xs j := by
  simp [nth, setNth, List.getElem?_set_ne h.symm]

/-! ### The items that the collector writes as it clears a live bit (18 R381, R387 to R390) -/

/-- The counts of the journal that an entry moves. An object is named by its number here, since the number of a port without bound can
reach the collector's domain. -/
def journalCounts : List Nat :=
  [objId 0x0D 0 jJOURNAL_SEQ, objId 0x0D 0 jJOURNAL_OVERWRITTEN, objId 0x0D 0 jLOG_DROPPED]

theorem itemsBut_refl (os : List Nat) (s : State) : itemsBut os s s := fun _ _ => rfl

theorem itemsBut_of_params_eq {os : List Nat} {s t : State} (h : t.params = s.params) : itemsBut os s t := fun _ _ => by rw [h]

theorem itemsBut_trans {os : List Nat} {a b c : State} (h : itemsBut os a b) (k : itemsBut os b c) : itemsBut os a c :=
  fun o ho => (k o ho).trans (h o ho)

theorem setP_itemsBut {os : List Nat} {d i n : Nat} (s : State) (v : Int) (h : objId d i n ∈ os) :
    itemsBut os s (setP s d i n v) :=
  fun _ ho => kget_kput_ne _ _ _ (ne_of_mem_of_not_mem h ho)

theorem addP_itemsBut {os : List Nat} {d i n : Nat} (s : State) (k : Nat) (h : objId d i n ∈ os) :
    itemsBut os s (addP s d i n k) := setP_itemsBut s _ h

theorem modRaman_itemsBut {os : List Nat} {s t : State} (p : Nat) (f : Raman → Raman) (h : itemsBut os s t) :
    itemsBut os s (modRaman t p f) := h

theorem detect_params (s : State) (x : Raise) : (detect s x).params = s.params := by rw [detect_eq]

theorem itemsBut_ite {c : Prop} [Decidable c] {os : List Nat} {s a b : State} (h : itemsBut os s a) (k : itemsBut os s b) :
    itemsBut os s (if c then a else b) := by
  split
  · exact h
  · exact k

theorem makeRoom_itemsBut (s : State) : itemsBut journalCounts s (makeRoom s) := by
  unfold makeRoom
  split
  · exact itemsBut_refl _ s
  · exact itemsBut_trans (b := bumpP s 0x0D 0 jJOURNAL_OVERWRITTEN) (setP_itemsBut s _ (by decide)) (itemsBut_of_params_eq rfl)

theorem setBehind_params (s : State) : (setBehind s).params = s.params := by
  unfold setBehind
  split
  · rfl
  · exact detect_params _ _

theorem closeJournal_params (s : State) : (closeJournal s).params = s.params := by
  unfold closeJournal
  dsimp only
  split
  · rfl
  · exact setBehind_params _

theorem storeEntry_itemsBut (s : State) (e : JEntry) : itemsBut journalCounts s (storeEntry s e) :=
  itemsBut_trans (b := setP s 0x0D 0 jJOURNAL_SEQ ((natP s 0x0D 0 jJOURNAL_SEQ + 1) % 2 ^ 32 : Nat))
    (setP_itemsBut s _ (by decide)) (itemsBut_of_params_eq rfl)

theorem appendEntry_itemsBut (s : State) (e : JEntry) : itemsBut journalCounts s (appendEntry s e) := by
  have hroom : itemsBut journalCounts s (if storeFull s then makeRoom s else s) :=
    itemsBut_ite (makeRoom_itemsBut s) (itemsBut_refl _ s)
  have hstore := itemsBut_trans hroom (storeEntry_itemsBut _ e)
  rw [appendEntry_eq]
  exact itemsBut_ite (itemsBut_trans hstore (itemsBut_of_params_eq (closeJournal_params _))) hstore

theorem writeEntry_itemsBut (s : State) (e : JEntry) : itemsBut journalCounts s (writeEntry s e) :=
  itemsBut_trans (itemsBut_of_params_eq rfl) (appendEntry_itemsBut (setSrcRec s e.src _) _)

theorem dropEntry_itemsBut (s : State) (src : Nat) : itemsBut journalCounts s (dropEntry s src) :=
  itemsBut_trans (itemsBut_of_params_eq rfl) (setP_itemsBut (setSrcRec s src _) _ (by decide))

theorem journalEvent_itemsBut (s : State) (e : JEntry) (x : Raise) : itemsBut journalCounts s (journalEvent s e x) := by
  unfold journalEvent
  dsimp only
  split
  · exact itemsBut_trans (itemsBut_of_params_eq rfl) (writeEntry_itemsBut (setSrcRec s e.src _) e)
  · exact itemsBut_ite (dropEntry_itemsBut s e.src) (itemsBut_of_params_eq rfl)

theorem clearLive_itemsBut (s : State) (src : Nat) : itemsBut journalCounts s (clearLive s src) := by
  unfold clearLive
  dsimp only
  split
  · exact itemsBut_ite (itemsBut_of_params_eq rfl) (itemsBut_refl _ s)
  · refine itemsBut_trans ?_ (journalEvent_itemsBut _ _ _)
    exact itemsBut_of_params_eq rfl

/-! ### What a function does under the items of the interval before (05 R107) -/

theorem putItems_ports (s : State) (vals : List (Nat × Int)) : (putItems s vals).ports = s.ports := by rw [putItems_eq]

/-- A function under kept values starts from a state with the same ports, and leaves the ports it would leave there; with none kept
that state is the present one. -/
theorem underOld_ports (s : State) (f : State → State) :
    ∃ u, (underOld s f).ports = (f u).ports ∧ u.ports = s.ports ∧
      ((portOf s 0).raman.old = [] → (portOf s 1).raman.old = [] → u = s) :=
  ⟨putItems s ((portOf s 0).raman.old ++ (portOf s 1).raman.old), putItems_ports _ _, putItems_ports s _,
    fun h0 h1 => by rw [h0, h1]; rfl⟩

/-- An update of TR, FT or FS reaches zones only. -/
theorem deliverTemp_ports (s : State) (p product : Nat) (r : TRow) : (deliverTemp s p product r).ports = s.ports := by
  unfold deliverTemp zonesTakeTemp
  refine List.foldlRecOn (motive := fun t : State => t.ports = s.ports) _ _ rfl fun t h z _ => ?_
  dsimp only
  split
  · exact h
  · exact h

theorem raman_deliverTemp (s : State) (p q product : Nat) (r : TRow) :
    (portOf (deliverTemp s p product r) q).raman = (portOf s q).raman := by
  rw [portOf_of_ports_eq (deliverTemp_ports s p product r)]

/-! ### RAMAN_WINDOW_END (05 R101 to R107) -/

/-- A port's Raman record once a window's sums `a` have joined its interval: the one that has ended for a late window. -/
def windowJoins (w : RamanWin) (a : RamanSums) (x : Raman) : Raman :=
  match w.late, x.ended with
  | true, some e => { x with win := none, ended := some { e with sums := a } }
  | _, _ => { x with win := none, acc := a }

/-- The sums that a window joins. -/
def windowBank (w : RamanWin) (x : Raman) : RamanSums :=
  match w.late, x.ended with
  | true, some e => e.sums
  | _, _ => x.acc

theorem windowJoins_win (w : RamanWin) (a : RamanSums) (x : Raman) : (windowJoins w a x).win = none := by
  unfold windowJoins
  split <;> rfl

theorem windowJoins_early {w : RamanWin} (a : RamanSums) (x : Raman) (h : w.late = false) :
    windowJoins w a x = { x with win := none, acc := a } := by
  simp [windowJoins, h]

theorem windowJoins_late {w : RamanWin} {x : Raman} {e : RamanEnded} (a : RamanSums) (h : w.late = true) (he : x.ended = some e) :
    windowJoins w a x = { x with win := none, ended := some { e with sums := a } } := by
  simp [windowJoins, h, he]

theorem windowBank_early {w : RamanWin} (x : Raman) (h : w.late = false) : windowBank w x = x.acc := by simp [windowBank, h]

theorem windowBank_late {w : RamanWin} {x : Raman} {e : RamanEnded} (h : w.late = true) (he : x.ended = some e) :
    windowBank w x = e.sums := by simp [windowBank, h, he]

section WindowEnd
variable {p : Nat} {w : RamanWin} {s : State} (hwin : (portOf s p).raman.win = some w) (hover : w.start + 5 * w.len ≤ s.time.ticks)
include hwin hover

theorem ramanWindowEnd_spoilt (xs ys : List Int) (h : w.spoilt = true) :
    exec (.ramanWindowEnd p xs ys) s = .next (windowSpoilt s p w) := by
  show execRamanWindowEnd p xs ys s = _
  simp only [execRamanWindowEnd, hwin, hover, h, if_true]

/-- The samples join the sums of their interval, and RAMAN_SAT counts those excluded. -/
theorem ramanWindowEnd_good (xs ys : List Int) (h : w.spoilt = false) :
    let a := ramanAdd (portOf s p).raman w xs ys (windowBank w (portOf s p).raman)
    exec (.ramanWindowEnd p xs ys) s = .next
      (modRaman (addP s 0x03 p pRAMAN_SAT (a.sats - (windowBank w (portOf s p).raman).sats)) p (windowJoins w a)) := by
  show execRamanWindowEnd p xs ys s = _
  simp only [execRamanWindowEnd, hwin, hover, h, if_true, Bool.false_eq_true, if_false]
  rfl

end WindowEnd

/-- RAMAN_WINDOW_END: a spoilt window goes, a good one joins the sums of its interval. -/
theorem ramanWindowEnd_takes {p : Nat} {w : RamanWin} {s : State} (xs ys : List Int) (hwin : (portOf s p).raman.win = some w)
    (hover : w.start + 5 * w.len ≤ s.time.ticks) : ∃ t, exec (.ramanWindowEnd p xs ys) s = .next t ∧
      t = { s with ports := t.ports, params := t.params } ∧ itemsBut [objId 3 p pRAMAN_SAT] s t ∧ (portOf t p).raman.win = none ∧
      (w.spoilt = true → (portOf t p).raman.acc = (portOf s p).raman.acc ∧ (portOf t p).raman.ended = (portOf s p).raman.ended) ∧
      (w.spoilt = false → w.late = false → (portOf t p).raman.acc = ramanAdd (portOf s p).raman w xs ys (portOf s p).raman.acc) ∧
      (∀ e, w.spoilt = false → w.late = true → (portOf s p).raman.ended = some e →
        (portOf t p).raman.ended = some { e with sums := ramanAdd (portOf s p).raman w xs ys e.sums }) ∧
      ∀ q, q ≠ p → portOf t q = portOf s q := by
  cases hspoilt : w.spoilt with
  | true =>
    refine ⟨_, ramanWindowEnd_spoilt hwin hover xs ys hspoilt, rfl, itemsBut_refl _ s, ?_⟩
    rw [windowSpoilt, raman_modRaman_same]
    exact ⟨rfl, fun _ => ⟨rfl, rfl⟩, nofun, nofun, fun q hq => portOf_modRaman_ne s _ hq⟩
  | false =>
    refine ⟨_, ramanWindowEnd_good hwin hover xs ys hspoilt, modRaman_portsAndItems p _ rfl,
      modRaman_itemsBut p _ (addP_itemsBut s _ (List.mem_singleton_self _)), ?_⟩
    rw [raman_modRaman_same, addP, portOf_setP]
    refine ⟨windowJoins_win .., nofun, fun _ hearly => ?_, fun e _ hlate he => ?_, fun q hq => portOf_modRaman_ne _ _ hq⟩
    · rw [windowJoins_early _ _ hearly, windowBank_early _ hearly]
    · rw [windowJoins_late _ hlate he, windowBank_late hlate he]

/-! ### SHOT_END at the end of an interval (05 R107) -/

/-- A shot that ends RAMAN_INT or more after its interval began ends the interval with its sums. -/
theorem intervalEnds_ends {s : State} {p t b : Nat} (hb : (portOf s p).raman.intStart = some b)
    (hended : (portOf s p).raman.ended = none) (hmeans : (portOf s p).raman.eEnd = none)
    (hlong : b + natP s 0x03 p pRAMAN_INT * 1250000 ≤ clkOfTick s (tickOf t)) :
    (portOf (intervalEnds s p t) p).raman.intStart = none ∧
      (portOf (intervalEnds s p t) p).raman.ended = some ⟨(portOf s p).raman.acc, clkOfTick s (tickOf t) - b⟩ := by
  simp only [intervalEnds, hb, msTicks, hlong, hended, hmeans, Option.isNone_none, Option.isSome_none, and_self, if_true,
    Bool.false_eq_true, if_false, raman_modRaman_same]

/-- The last ply launched and no drain to begin: the shot ends, and its interval if that is long enough. -/
theorem shotEnd_closes {s : State} {p : Nat} (hopen : (portOf s p).shotOpen = true) (hplies : planP_ (pv s p) ≤ (portOf s p).plyNext)
    (ht : reached s ((portOf s p).shotStart + 256 * planNShot (pv s p)) = true) (hstop : (portOf s p).stop = .none)
    (hchange : (portOf s p).changing = false) :
    exec (.shotEnd p) s = .next (modPort (intervalEnds s p ((portOf s p).shotStart + 256 * planNShot (pv s p))) p
      (fun x => { x with shotOpen := false })) := by
  rw [Nat.mul_comm 256] at ht ⊢
  show execShotEnd p s = _
  simp only [execShotEnd, shotUnits, tk, hopen, hplies, ht, hstop, hchange, and_self, if_true, ne_eq, not_true_eq_false,
    Bool.false_eq_true, or_self, if_false]

/-! ### RAMAN_INTERVAL_END (05 R107 to R109) -/

/-- `t` has the ports' records that `s` has, and RAMAN_AVG of `p`. -/
structure AvgKept (p : Nat) (s t : State) : Prop where
  ports : t.ports = s.ports
  avg : getP t 3 p pRAMAN_AVG = getP s 3 p pRAMAN_AVG

theorem AvgKept.refl (p : Nat) (s : State) : AvgKept p s s := ⟨rfl, rfl⟩

theorem AvgKept.after {p : Nat} {a b c : State} (k : AvgKept p b c) (h : AvgKept p a b) : AvgKept p a c :=
  ⟨k.ports.trans h.ports, k.avg.trans h.avg⟩

theorem AvgKept.ite {c : Prop} [Decidable c] {p : Nat} {s a b : State} (h : AvgKept p s a) (k : AvgKept p s b) :
    AvgKept p s (if c then a else b) := by
  split
  · exact h
  · exact k

theorem setP_avgKept {i : Nat} (s : State) (p : Nat) (v : Int) (h : i ≠ pRAMAN_AVG) : AvgKept p s (setP s 3 p i v) :=
  ⟨rfl, by rw [getP_setP, if_neg (mt objId_inj_item.mp h)]⟩

theorem detect_avgKept (s : State) (p : Nat) (x : Raise) : AvgKept p s (detect s x) :=
  ⟨(detect_onlyCollector s x).ports, by rw [getP, detect_params, getP]⟩

/-- RAMAN_AVG is none of the journal's counts, whatever the port's number. -/
theorem avg_not_mem_journalCounts (p : Nat) : objId 3 p pRAMAN_AVG ∉ journalCounts := by
  simp only [journalCounts, List.mem_cons, List.not_mem_nil, or_false, objId, pRAMAN_AVG, jJOURNAL_SEQ, jJOURNAL_OVERWRITTEN,
    jLOG_DROPPED]
  omega

theorem clearIf_avgKept (s : State) (p src : Nat) : AvgKept p s (clearIf s src) :=
  ⟨(clearLive_onlyCollector s src).ports, clearLive_itemsBut s src _ (avg_not_mem_journalCounts p)⟩

/-- The checks of an interval write the collector and the two APD reports. -/
theorem ramanChecks_avgKept (s : State) (p : Nat) (a : RamanSums) : AvgKept p s (ramanChecks s p a) := by
  unfold ramanChecks
  extract_lets ia is_ lo hi bad s₁ s₂
  have hreports : AvgKept p s s₁ := (setP_avgKept _ p _ (by decide)).after (setP_avgKept s p _ (by decide))
  have hcurrents : AvgKept p s s₂ :=
    .ite (.refl p s) ((AvgKept.ite (detect_avgKept s₁ p _) (clearIf_avgKept s₁ p _)).after hreports)
  exact (AvgKept.ite (detect_avgKept s₂ p _) (clearIf_avgKept s₂ p _)).after hcurrents

/-- A port's Raman record once an interval has joined its moving sum of at most `avg`. -/
def intervalJoins (e : RamanEnded) (avg : Nat) (x : Raman) : Raman :=
  { x with
    past := (e.sums :: x.past.filter (fun b => b.epoch = e.sums.epoch)).take avg
    ended := none, trDue := true, fuseDue := true, lastLen := e.len }

theorem intervalComplete_ports (s : State) (p : Nat) (e : RamanEnded) :
    (intervalComplete s p e).ports = (modRaman s p (intervalJoins e (natP s 3 p pRAMAN_AVG))).ports := by
  have h : AvgKept p s (setP (ramanChecks s p e.sums) 0x03 p pRAMAN_LAST_WINDOWS
      ((min e.sums.bgWindows 65535 * 65536 + min e.sums.sigWindows 65535 : Nat) : Int)) :=
    (setP_avgKept _ p _ (by decide)).after (ramanChecks_avgKept s p e.sums)
  have hcongr {t : State} (h : AvgKept p s t) : (modRaman t p (intervalJoins e (natP t 3 p pRAMAN_AVG))).ports =
      (modRaman s p (intervalJoins e (natP s 3 p pRAMAN_AVG))).ports := by
    simp only [modRaman, modPort, setPort, portOf, h.ports, natP, h.avg]
  exact hcongr h

/-- An interval that has ended, with no late window in progress, is complete. -/
theorem ramanIntervalEnd_completes {s : State} {p : Nat} {e : RamanEnded} (he : (portOf s p).raman.ended = some e)
    (hlate : ∀ w, (portOf s p).raman.win = some w → w.late = false) :
    exec (.ramanIntervalEnd p) s = .next (underOld s (fun s => intervalComplete s p e)) := by
  have hopen : ((portOf s p).raman.win.map (fun w => w.late)).getD false = false := by
    cases hw : (portOf s p).raman.win with
    | none => rfl
    | some w => exact hlate w hw
  show execRamanIntervalEnd p s = _
  simp only [execRamanIntervalEnd, he, hopen, Bool.false_eq_true, if_false]

/-- RAMAN_INTERVAL_END: the interval joins the moving sum, of at most RAMAN_AVG where no values are kept for it. -/
theorem ramanIntervalEnd_joins {p : Nat} {e : RamanEnded} {s : State} (he : (portOf s p).raman.ended = some e)
    (hlate : ∀ w, (portOf s p).raman.win = some w → w.late = false) :
    ∃ t avg, exec (.ramanIntervalEnd p) s = .next t ∧ (portOf t p).raman = intervalJoins e avg (portOf s p).raman ∧
      ((portOf s 0).raman.old = [] → (portOf s 1).raman.old = [] → avg = natP s 3 p pRAMAN_AVG) ∧
      ∀ q, q ≠ p → portOf t q = portOf s q := by
  obtain ⟨u, hports, hu, hnone⟩ := underOld_ports s fun s => intervalComplete s p e
  have hjoin := hports.trans (intervalComplete_ports u p e)
  refine ⟨_, natP u 3 p pRAMAN_AVG, ramanIntervalEnd_completes he hlate, ?_, fun h0 h1 => ?_, fun q hq => ?_⟩
  · rw [portOf_of_ports_eq hjoin, raman_modRaman_same, portOf_of_ports_eq hu]
  · rw [hnone h0 h1]
  · rw [portOf_of_ports_eq hjoin, portOf_modRaman_ne _ _ hq, portOf_of_ports_eq hu]

/-! ### TR_UPDATE (05 R109, R111 to R115; log 179) -/

/-- The port's TR is the profile, and no longer due. -/
theorem trGive_gives (s : State) (p : Nat) (vals : List TVal) :
    (portOf (trGive s p vals) p).raman.trDue = false ∧ (portOf (trGive s p vals) p).raman.tr = vals := by
  rw [trGive, raman_deliverTemp, raman_modRaman_same]
  exact ⟨rfl, rfl⟩

theorem portOf_trGive_ne {p q : Nat} (s : State) (vals : List TVal) (h : q ≠ p) : portOf (trGive s p vals) q = portOf s q := by
  rw [trGive, portOf_of_ports_eq (deliverTemp_ports _ _ _ _), portOf_modRaman_ne s _ h]

theorem trUpdate_single {s : State} {p : Nat} (hdue : (portOf s p).raman.trDue = true) (hsingle : ramanDual s = false) :
    exec (.trUpdate p) s = .next (underOld s (fun s => trGive (trSingle s p).1 p (trSingle s p).2)) := by
  show execTrUpdate p s = _
  simp only [execTrUpdate, hdue, hsingle, if_true, Bool.false_eq_true, if_false]

/-- In the dual-ended case both ports get the profile formed once, port B the reverse of port A's. -/
theorem trUpdate_dual {s : State} {p : Nat} (hp : p ≤ 1) (hA : (portOf s 0).raman.trDue = true)
    (hB : (portOf s 1).raman.trDue = true) (hdual : ramanDual s = true) :
    exec (.trUpdate p) s = .next (underOld s (fun s => trGive (trGive (trDual s).1 0 (trDual s).2) 1 (trDual s).2.reverse)) := by
  have hdue : (portOf s p).raman.trDue = true := by
    obtain rfl | rfl := Nat.le_one_iff_eq_zero_or_eq_one.mp hp
    · exact hA
    · exact hB
  show execTrUpdate p s = _
  simp only [execTrUpdate, hdue, hA, hB, hdual, and_self, if_true]

/-! ### RAMAN_REF_HOLD_EXPIRY (05 R113) -/

/-- REF_HOLD runs out: source 28 or 29 is raised. -/
theorem ramanRefHoldExpiry_raises {s : State} {p q : Nat} (hheld : (portOf s p).raman.heldSince = some q)
    (hlost : (portOf s p).raman.refLost = false) (hover : q + natP s 0x03 p pREF_HOLD * 1250000000 ≤ nowClk s)
    (hr : raisable s (28 + p) = true) :
    exec (.ramanRefHoldExpiry p) s =
      .next (modRaman (detect s { raiseBlank (28 + p) with port := p }) p (fun x => { x with refLost := true })) := by
  have hraise (f : Raman → Raman) : raiseOnce (modRaman s p f) (portRaise (28 + p) p 0 0) =
      modRaman (detect s { raiseBlank (28 + p) with port := p }) p f :=
    (if_pos hr).trans (detect_modPort s p _ _)
  show execRamanRefHoldExpiry p s = _
  simp only [execRamanRefHoldExpiry, hheld, hlost, hover, hraise, secTicks, Bool.not_false, and_self, if_true]

/-! ### SPEC_RECORD (04 R96; 05 R119) -/

theorem specTake_eq (s : State) (p : Nat) (r : SpecRec) :
    ∃ n f, specTake s p r = modRaman (addP s 0x03 p pSPEC_LOST_COUNT n) p f := by
  unfold specTake
  extract_lets
  exact ⟨_, _, rfl⟩

/-- A port's record once its oldest closed record has left, with `rs` still to go. -/
def recordLeaves (rs : List SpecRec) (x : Port) : Port := { x with specDone := rs }

/-- The oldest record leaves, and where tracks exist they move and SPEC_LOST_COUNT counts those lost. -/
theorem specRecord_takes {s : State} {p : Nat} {r : SpecRec} {rs : List SpecRec} (h : (portOf s p).specDone = r :: rs) :
    exec (.specRecord p) s = .next (modPort s p (recordLeaves rs)) ∨
      ∃ n f, exec (.specRecord p) s =
        .next (modRaman (addP (modPort s p (recordLeaves rs)) 0x03 p pSPEC_LOST_COUNT n) p f) := by
  have hexec : exec (.specRecord p) s =
      let u := modPort s p (recordLeaves rs)
      .next (if getP u 0x03 p pSPEC_ENABLE = 1 ∧ 8 ≤ planP_ (pv u p) then specTake u p r else u) := by
    show execSpecRecord p s = _
    simp only [execSpecRecord, h]
    rfl
  rw [hexec]
  dsimp only
  split
  · obtain ⟨n, f, hf⟩ := specTake_eq (modPort s p (recordLeaves rs)) p r
    exact .inr ⟨n, f, by rw [hf]⟩
  · exact .inl rfl

/-- The record leaves whether or not tracks exist; of items only SPEC_LOST_COUNT may change. -/
theorem specRecord_leaves {s : State} {p : Nat} {r : SpecRec} {rs : List SpecRec} (h : (portOf s p).specDone = r :: rs) :
    ∃ t, exec (.specRecord p) s = .next t ∧ t = { s with ports := t.ports, params := t.params } ∧
      itemsBut [objId 3 p pSPEC_LOST_COUNT] s t ∧ (portOf t p).specDone = rs ∧ ∀ q, q ≠ p → portOf t q = portOf s q := by
  obtain hexec | ⟨n, f, hexec⟩ := specRecord_takes h
  · refine ⟨_, hexec, rfl, itemsBut_refl _ s, ?_⟩
    rw [portOf_modPort_same]
    exact ⟨rfl, fun q hq => portOf_modPort_ne s _ hq⟩
  · have hitems : itemsBut [objId 3 p pSPEC_LOST_COUNT] s (addP (modPort s p (recordLeaves rs)) 3 p pSPEC_LOST_COUNT n) :=
      itemsBut_trans (itemsBut_of_params_eq (modPort_params s p _)) (addP_itemsBut _ n (List.mem_singleton_self _))
    refine ⟨_, hexec, modRaman_portsAndItems p f rfl, modRaman_itemsBut p f hitems, ?_⟩
    rw [specDone_modRaman, addP, portOf_setP, portOf_modPort_same]
    exact ⟨rfl, fun q hq => by rw [portOf_modRaman_ne _ _ hq, portOf_setP, portOf_modPort_ne _ _ hq]⟩

/-! ### FUSION_UPDATE (05 R107, R120 to R125) -/

/-- The products of every stitch of the fibre are formed. -/
theorem fuseUpdate_forms (s : State) (p : Nat) :
    (portOf (fuseUpdate s p) p).raman.fuseDue = false ∧ (portOf (fuseUpdate s p) p).raman.ft.length = planN_ (pv s p) ∧
      (portOf (fuseUpdate s p) p).raman.fs.length = planN_ (pv s p) := by
  have hlen (n g : Nat) : (n - g) + (n - (n - g)) = n := by omega
  unfold fuseUpdate
  extract_lets x n g rs tail ft fs s₁
  rw [raman_deliverTemp, raman_deliverTemp, raman_modRaman_same]
  refine ⟨rfl, ?_, ?_⟩
  · simp [ft, rs, tail, hlen, n]
  · simp [fs, rs, tail, hlen, n]

/-- A due update with TR formed: the products are formed under the items of their interval, which are then done with. -/
theorem fusionUpdate_forms {s : State} {p : Nat} (hdue : (portOf s p).raman.fuseDue = true) (htr : (portOf s p).raman.trDue = false) :
    exec (.fusionUpdate p) s = .next (modRaman (underOld s (fun s => fuseUpdate s p)) p
      (fun x => { x with old := if productsDue x then x.old else [] })) := by
  show execFusionUpdate p s = _
  simp only [execFusionUpdate, hdue, htr, Bool.not_false, and_self, if_true]

/-! ### FUSION_STATE_TIMER and FUSE_HOLD_EXPIRY (05 R121, R122, R124) -/

theorem fusionStateTimer_ends {s : State} {p g : Nat} (hb : (nth fuseNone (portOf s p).raman.fuse g).b.isSome = true)
    (hst : (nth fuseNone (portOf s p).raman.fuse g).st ≠ 0) (hend : (nth fuseNone (portOf s p).raman.fuse g).stEnd ≤ nowClk s) :
    exec (.fusionStateTimer p g) s = .next (modFuse s p g (fun f => { f with st := 0 })) := by
  show execFusionStateTimer p g s = _
  simp only [execFusionStateTimer, hb, hst, hend, ne_eq, not_false_eq_true, and_self, if_true]

/-- A port's Raman record as its product in `mode` loses its source at a gauge. -/
def holdEnds (mode g : Nat) (x : Raman) : Raman :=
  { x with ft := if mode = 0 then noSource x.ft g else x.ft, fs := if mode = 1 then noSource x.fs g else x.fs }

theorem fuseHoldExpiry_ends {s : State} {p g q : Nat} (hheld : (nth fuseNone (portOf s p).raman.fuse g).holdSince = some q)
    (hover : (nth fuseNone (portOf s p).raman.fuse g).holdOver = false) (hmode : natP s 0x03 p pFUSE_MODE < 2)
    (ht : q + natP s 0x03 p pFUSE_HOLD * 1250000000 ≤ nowClk s) :
    exec (.fuseHoldExpiry p g) s = .next (modRaman (modFuse s p g (fun f => { f with holdOver := true })) p
      (holdEnds (natP s 0x03 p pFUSE_MODE) g)) := by
  show execFuseHoldExpiry p g s = _
  simp only [execFuseHoldExpiry, hheld, hover, hmode, ht, secTicks, Bool.not_false, and_self, if_true]
  rfl

/-- Settles O15, each clause by what its command does to the port's Raman record: the dual-ended profile goes to port B in reverse (log
179), values kept for an ended interval leave the ports' records as they are, and the collector writes no item of a port. -/
theorem ramanPath : Obligations.RamanPath := by
  unfold Obligations.RamanPath
  refine ⟨fun p w xs ys s => ramanWindowEnd_takes xs ys,
    fun p b s hopen hplies ht hstop hchange hb hended hmeans hlong => ?_, fun p e s he hlate => ?_, fun p s hdue hsingle => ?_,
    fun p s hp hA hB hdual => ?_, fun p q s hheld hlost hover hr => ?_, fun p r rs s => specRecord_leaves, fun p s hdue htr => ?_,
    fun p g s hg hb hst hend => ?_, fun p g q s hg hheld hover hmode ht => ?_⟩
  · refine ⟨_, shotEnd_closes hopen hplies ht hstop hchange, ?_⟩
    rw [portOf_modPort_same]
    exact intervalEnds_ends hb hended hmeans hlong
  · obtain ⟨t, avg, hexec, hraman, havg, hothers⟩ := ramanIntervalEnd_joins he hlate
    refine ⟨t, hexec, ?_⟩
    rw [hraman]
    exact ⟨rfl, rfl, rfl, fun h0 h1 => by rw [← havg h0 h1]; rfl, hothers⟩
  · obtain ⟨u, hports, -, -⟩ := underOld_ports s fun s => trGive (trSingle s p).1 p (trSingle s p).2
    refine ⟨_, trUpdate_single hdue hsingle, ?_⟩
    rw [portOf_of_ports_eq hports]
    exact (trGive_gives _ p _).1
  · obtain ⟨u, hports, -, -⟩ := underOld_ports s fun s => trGive (trGive (trDual s).1 0 (trDual s).2) 1 (trDual s).2.reverse
    refine ⟨_, trUpdate_dual hp hA hB hdual, ?_⟩
    obtain ⟨hdueA, htrA⟩ := trGive_gives (trDual u).1 0 (trDual u).2
    obtain ⟨hdueB, htrB⟩ := trGive_gives (trGive (trDual u).1 0 (trDual u).2) 1 (trDual u).2.reverse
    have hA' := portOf_trGive_ne (trGive (trDual u).1 0 (trDual u).2) (trDual u).2.reverse Nat.zero_ne_one
    rw [portOf_of_ports_eq hports, portOf_of_ports_eq hports, htrB, hA', htrA]
    exact ⟨hdueA, hdueB, rfl⟩
  · refine ⟨_, ramanRefHoldExpiry_raises hheld hlost hover hr, ?_, ?_, fun q hq => ?_⟩
    · rw [detect_eq]
      rfl
    · rw [raman_modRaman_same, portOf_detect]
    · rw [portOf_modRaman_ne _ _ hq, portOf_detect]
  · refine ⟨_, fusionUpdate_forms hdue htr, ?_⟩
    obtain ⟨u, hports, -, hnone⟩ := underOld_ports s fun s => fuseUpdate s p
    obtain ⟨hdone, hlengths⟩ := fuseUpdate_forms u p
    rw [raman_modRaman_same, portOf_of_ports_eq hports]
    exact ⟨hdone, fun h0 h1 => hnone h0 h1 ▸ hlengths⟩
  · refine ⟨_, fusionStateTimer_ends hb hst hend, rfl, ?_⟩
    rw [modFuse_raman]
    exact ⟨nth_setNth_same _ _ hg, fun h hne => nth_setNth_ne _ _ _ hne⟩
  · refine ⟨_, fuseHoldExpiry_ends hheld hover hmode ht, rfl, ?_⟩
    rw [raman_modRaman_same, modFuse_raman]
    refine ⟨nth_setNth_same _ _ hg, fun h => ?_, fun h => ?_⟩
    · rw [h]
      exact ⟨rfl, rfl⟩
    · rw [h]
      exact ⟨rfl, rfl⟩

end Sys2Proof.Machine
end

section
/-! PROOFS. A zone's record, and what leaves the zones alone (06_zones_output_filtering.md): the rules for O16 and O17. -/

namespace Sys2Proof.Machine

/-! ### A zone's record and its items -/

theorem zoneOf_modZone_same (s : State) (z : Nat) (f : Zone → Zone) : zoneOf (modZone s z f) z = f (zoneOf s z) :=
  kget_kput_same zoneBlank s.cap.zones z _

theorem zoneOf_modZone_ne {z y : Nat} (s : State) (f : Zone → Zone) (h : y ≠ z) : zoneOf (modZone s z f) y = zoneOf s y :=
  kget_kput_ne zoneBlank s.cap.zones _ h.symm

theorem zoneOf_of_zones_eq {s t : State} (h : t.cap.zones = s.cap.zones) (z : Nat) : zoneOf t z = zoneOf s z := by
  rw [zoneOf, h, zoneOf]

theorem objDom_zoneObj {z i : Nat} (hz : z < 128) (hi : i < 65536) : objDom (objId 4 z i) = 4 := by
  unfold objDom objId; omega

theorem objDom_objId_ne_four {d : Nat} (n i : Nat) (h : 5 ≤ d) : objDom (objId d n i) ≠ 4 := by
  unfold objDom objId; omega

/-- The same change to every zone of a list is the change to each of them. -/
theorem zoneOf_foldl_modZone (f : Zone → Zone) {zs : List Nat} (hzs : zs.Nodup) (s : State) (y : Nat) :
    zoneOf (zs.foldl (fun s z => modZone s z f) s) y = if y ∈ zs then f (zoneOf s y) else zoneOf s y := by
  induction zs generalizing s with
  | nil => rfl
  | cons z zs ih =>
    obtain ⟨hz, hnodup⟩ := List.nodup_cons.mp hzs
    rw [List.foldl_cons, ih hnodup]
    by_cases hy : y = z
    · subst hy
      simp [hz, zoneOf_modZone_same]
    · simp [hy, zoneOf_modZone_ne s f hy]

theorem foldl_modZone_eq (f : Zone → Zone) (zs : List Nat) (s : State) :
    zs.foldl (fun s z => modZone s z f) s =
      { s with cap := { s.cap with zones := (zs.foldl (fun s z => modZone s z f) s).cap.zones } } := by
  induction zs generalizing s with
  | nil => rfl
  | cons z zs ih => exact ih (modZone s z f)

/-! ### What keeps the zones -/

/-- `t` has the zones' records and items that `s` has. -/
structure ZonesKept (s t : State) : Prop where
  zones : t.cap.zones = s.cap.zones
  items : ∀ o, objDom o = 4 → kget paramReset t.params o = kget paramReset s.params o

theorem ZonesKept.refl (s : State) : ZonesKept s s := ⟨rfl, fun _ _ => rfl⟩

theorem ZonesKept.after {a b c : State} (k : ZonesKept b c) (h : ZonesKept a b) : ZonesKept a c :=
  ⟨k.zones.trans h.zones, fun o ho => (k.items o ho).trans (h.items o ho)⟩

theorem ZonesKept.ite {c : Prop} [Decidable c] {s a b : State} (h : ZonesKept s a) (k : ZonesKept s b) :
    ZonesKept s (if c then a else b) := by
  split
  · exact h
  · exact k

theorem ZonesKept.foldl {β : Type} {f : State → β → State} (h : ∀ s b, ZonesKept s (f s b)) (xs : List β) (s : State) :
    ZonesKept s (xs.foldl f s) :=
  List.foldlRecOn (motive := ZonesKept s) xs f (.refl s) fun t k b _ => (h t b).after k

theorem OnlyCollector.zonesKept {s t : State} (h : OnlyCollector s t) : ZonesKept s t :=
  ⟨by rw [h.rest], fun o ho => h.items o (by omega)⟩

/-- Items of a domain above the zones' are no zone items. -/
theorem setP_zonesKept (s : State) {d : Nat} (n i : Nat) (v : Int) (h : 5 ≤ d) : ZonesKept s (setP s d n i v) :=
  ⟨rfl, fun _ ho => kget_kput_ne _ _ _ fun e => objDom_objId_ne_four n i h (e ▸ ho)⟩

theorem raiseQuiet_zonesKept (s : State) (x : Raise) (src ticks : Nat) : ZonesKept s (quietIn (detect s x) src ticks) :=
  ((quietIn_onlyCollector _ src ticks).after (detect_onlyCollector s x)).zonesKept

theorem modSk_zonesKept (s : State) (k : Nat) (f : Skein → Skein) : ZonesKept s (modSk s k f) := ⟨rfl, fun _ _ => rfl⟩

theorem modLoop_zonesKept (s : State) (n : Nat) (f : Loop → Loop) : ZonesKept s (modLoop s n f) := ⟨rfl, fun _ _ => rfl⟩

theorem loopsWatch_zonesKept (s : State) : ZonesKept s (loopsWatch s) := by
  unfold loopsWatch
  exact .foldl (fun s n => modLoop_zonesKept s n _) _ s

theorem skeinsZoneOff_zonesKept (s : State) (z : Nat) : ZonesKept s (skeinsZoneOff s z) :=
  .foldl (fun s k => modSk_zonesKept s k _) _ s

theorem skeinsZoneOff_planKept (s : State) (z : Nat) : PlanKept s (skeinsZoneOff s z) :=
  .foldl (fun s k => modSk_planKept s k _) _ s

/-! ### Frames leave the zones alone (06 R146; 14 R307; 10 R218, R235) -/

theorem dropZoneFrame_zonesKept (s : State) (r : Nat) (qs : List QFrame) : ZonesKept s (dropZoneFrame s r qs) := by
  unfold dropZoneFrame
  exact (raiseQuiet_zonesKept _ _ 85 secTicks).after ⟨rfl, fun _ _ => rfl⟩

theorem shedZoneFrames_zonesKept (n : Nat) (s : State) : ZonesKept s (shedZoneFrames n s) := by
  induction n generalizing s with
  | zero => exact .refl s
  | succ n ih =>
    unfold shedZoneFrames
    refine .ite (.refl s) ?_
    split
    · exact (ih _).after (dropZoneFrame_zonesKept s _ _)
    · exact .refl s

theorem queueZone_zonesKept (s : State) (z : Nat) (f : Frame) : ZonesKept s (queueZone s z f) := by
  unfold queueZone
  exact (shedZoneFrames_zonesKept _ _).after ⟨rfl, fun _ _ => rfl⟩

theorem giveWork_zonesKept (s : State) (e : Nat) : ZonesKept s (giveWork s e) := by
  unfold giveWork
  dsimp only
  split
  · exact .ite ⟨rfl, fun _ _ => rfl⟩ ⟨rfl, fun _ _ => rfl⟩
  · exact ⟨rfl, fun _ _ => rfl⟩
  · exact ⟨rfl, fun _ _ => rfl⟩
  · exact .refl s

theorem compAssign_zonesKept (s : State) : ZonesKept s (compAssign s) := by
  unfold compAssign
  exact .foldl (fun s e => .ite (giveWork_zonesKept s e) (.refl s)) _ s

theorem bypassTo_zonesKept (limit n : Nat) (s : State) : ZonesKept s (bypassTo limit n s) := by
  induction n generalizing s with
  | zero => exact .refl s
  | succ n ih =>
    unfold bypassTo
    refine .ite (.refl s) ?_
    split
    · exact .refl s
    · next f fs _ =>
      have hqueue : ZonesKept s (queueZone { s with comp := { s.comp with waiting := fs } } f.frame.zone f.frame) :=
        (queueZone_zonesKept _ _ _).after ⟨rfl, fun _ _ => rfl⟩
      exact (((ih _).after (raiseQuiet_zonesKept _ _ 58 secTicks)).after (setP_zonesKept _ 0 _ _ (by decide))).after hqueue

theorem compKick_zonesKept (s : State) : ZonesKept s (compKick s) := by
  unfold compKick bypassPast
  exact (ZonesKept.ite (bypassTo_zonesKept _ _ _) (.refl _)).after (compAssign_zonesKept s)

theorem handFrame_zones (s : State) (z : Nat) (f : Frame) : (handFrame s z f).cap.zones = s.cap.zones := by
  unfold handFrame
  dsimp only
  split
  · rfl
  · exact (queueZone_zonesKept _ z f).zones

/-- A frame that closes leaves its zone an empty one, and all else of the record. -/
theorem zoneOf_closeZoneFrame_same (s : State) (z : Nat) :
    ∃ f, zoneOf (closeZoneFrame s z) z = { zoneOf s z with frame := f } ∧ f.rows = [] := by
  unfold closeZoneFrame
  dsimp only
  split
  · next h => exact ⟨(zoneOf s z).frame, rfl, List.isEmpty_iff.mp h⟩
  · refine ⟨zframeNone, ?_, rfl⟩
    rw [zoneOf_of_zones_eq (handFrame_zones _ z _), zoneOf_modZone_same]

theorem zoneOf_closeZoneFrame_ne {z y : Nat} (s : State) (h : y ≠ z) : zoneOf (closeZoneFrame s z) y = zoneOf s y := by
  unfold closeZoneFrame
  dsimp only
  split
  · rfl
  · rw [zoneOf_of_zones_eq (handFrame_zones _ z _), zoneOf_modZone_ne s _ h]

/-! ### Rows to skeins and kernels leave the zones alone (07 R163; 09 R210) -/

theorem skeinsRow_zonesKept (s : State) (z : Nat) (r : ZRow) : ZonesKept s (skeinsRow s z r) :=
  .foldl (fun s k => modSk_zonesKept s k _) _ s

theorem krnDrop_zonesKept (s : State) (n count : Nat) : ZonesKept s (krnDrop s n count) := by
  unfold krnDrop
  exact .ite (.refl s) ((raiseQuiet_zonesKept _ _ 54 secTicks).after (setP_zonesKept s n _ _ (by decide)))

theorem ringRow_zonesKept (s : State) (n i : Nat) (shadow : Bool) (label : Nat) (body : List Byte) :
    ZonesKept s (ringRow s n i shadow label body) := by
  unfold ringRow
  dsimp only
  split
  · exact .ite ⟨rfl, fun _ _ => rfl⟩ ((krnDrop_zonesKept _ n 1).after ⟨rfl, fun _ _ => rfl⟩)
  · exact .refl s

theorem kernelsRow_zonesKept (s : State) (z : Nat) (r : ZRow) : ZonesKept s (kernelsRow s z r) := by
  unfold kernelsRow
  refine .foldl (fun s n => .ite (.refl s) (.foldl (fun s i => ?_) _ s)) _ s
  dsimp only
  split
  · exact .ite (ringRow_zonesKept s n i _ _ _) (.refl s)
  · exact .refl s

theorem onZoneRow_zonesKept (s : State) (z : Nat) (r : ZRow) : ZonesKept s (onZoneRow s z r) :=
  (kernelsRow_zonesKept _ z r).after (skeinsRow_zonesKept s z r)

end Sys2Proof.Machine
end

section
/-! PROOFS. Samples through a zone (06_zones_output_filtering.md): O17. -/

namespace Sys2Proof.Machine

/-! ### Work on one zone -/

/-- `t` comes from `s` by work on zone `z` that takes no sample from its queue and makes no output row. -/
structure WithinZone (z : Nat) (s t : State) : Prop where
  others : ∀ y, y ≠ z → zoneOf t y = zoneOf s y
  inq : (zoneOf t z).inq = (zoneOf s z).inq
  last : (zoneOf t z).last = (zoneOf s z).last
  stopping : (zoneOf t z).stopping = (zoneOf s z).stopping
  items : ∀ i, i < 65536 → i ≠ zFRAMES_OUT → i ≠ zSAT_COUNT → getP t 4 z i = getP s 4 z i

theorem WithinZone.refl (z : Nat) (s : State) : WithinZone z s s := ⟨fun _ _ => rfl, rfl, rfl, rfl, fun _ _ _ _ => rfl⟩

theorem WithinZone.after {z : Nat} {a b c : State} (k : WithinZone z b c) (h : WithinZone z a b) : WithinZone z a c :=
  ⟨fun y hy => (k.others y hy).trans (h.others y hy), k.inq.trans h.inq, k.last.trans h.last, k.stopping.trans h.stopping,
    fun i hi hf hs => (k.items i hi hf hs).trans (h.items i hi hf hs)⟩

theorem WithinZone.ite {c : Prop} [Decidable c] {z : Nat} {s a b : State} (h : WithinZone z s a) (k : WithinZone z s b) :
    WithinZone z s (if c then a else b) := by
  split
  · exact h
  · exact k

theorem ZonesKept.within {s t : State} {z : Nat} (h : ZonesKept s t) (hz : z < 128) : WithinZone z s t := by
  have hzone := zoneOf_of_zones_eq h.zones
  exact ⟨fun y _ => hzone y, by rw [hzone], by rw [hzone], by rw [hzone], fun i hi _ _ => h.items _ (objDom_zoneObj hz hi)⟩

theorem modZone_within (s : State) (z : Nat) {f : Zone → Zone}
    (hf : ∀ x, (f x).inq = x.inq ∧ (f x).last = x.last ∧ (f x).stopping = x.stopping := by exact fun _ => ⟨rfl, rfl, rfl⟩) :
    WithinZone z s (modZone s z f) := by
  obtain ⟨hinq, hlast, hstopping⟩ := hf (zoneOf s z)
  exact ⟨fun y hy => zoneOf_modZone_ne s f hy, by rw [zoneOf_modZone_same, hinq], by rw [zoneOf_modZone_same, hlast],
    by rw [zoneOf_modZone_same, hstopping], fun _ _ _ _ => rfl⟩

/-- The two counts that work on a zone moves. -/
theorem setP_within {z i : Nat} (s : State) (v : Int) (h : i = zFRAMES_OUT ∨ i = zSAT_COUNT) : WithinZone z s (setP s 4 z i v) := by
  refine ⟨fun _ _ => rfl, rfl, rfl, rfl, fun j _ hf hs => ?_⟩
  rw [getP_setP, if_neg]
  rw [objId_inj_item]
  rintro rfl
  exact h.elim hf hs

section Frames
variable {z : Nat} (s : State) (hz : z < 128)
include hz

theorem handFrame_within (f : Frame) : WithinZone z s (handFrame s z f) := by
  have hcount : WithinZone z s (bumpP s 4 z zFRAMES_OUT) := setP_within s _ (.inl rfl)
  unfold handFrame
  dsimp only
  split
  · exact .after (b := bumpP s 4 z zFRAMES_OUT) (ZonesKept.within ⟨rfl, fun _ _ => rfl⟩ hz) hcount
  · exact ((queueZone_zonesKept _ z f).within hz).after hcount

theorem closeZoneFrame_within : WithinZone z s (closeZoneFrame s z) := by
  unfold closeZoneFrame
  exact .ite (.refl z s) ((handFrame_within _ hz _).after (modZone_within s z))

theorem splitRow_within (ts : Nat) (valid : Bool) (n q : Nat) (xs : List QVal) :
    WithinZone z s (splitRow s z ts valid n q xs) := by
  induction n generalizing s q xs with
  | zero => exact .refl z s
  | succ n ih =>
    unfold splitRow
    exact .ite (.refl z s) ((ih _ _ _).after (handFrame_within s hz _))

theorem frameRow_within (r : ZRow) (first : Bool) : WithinZone z s (frameRow s z r first) := by
  have hclose := closeZoneFrame_within s hz
  unfold frameRow
  exact .ite ((splitRow_within _ hz _ _ _ _ _).after hclose)
    ((modZone_within _ z).after (.ite hclose (.refl z s)))

theorem zoneOldEnds_within : WithinZone z s (zoneOldEnds s z) :=
  (modZone_within _ z).after (closeZoneFrame_within s hz)

end Frames

theorem zoneReset_within (s : State) (z label : Nat) : WithinZone z s (zoneReset s z label) := by
  unfold zoneReset
  exact modZone_within s z

theorem feedDetectors_within (s : State) (z : Nat) (r : ZRow) (warm : Bool) : WithinZone z s (feedDetectors s z r warm) := by
  unfold feedDetectors
  exact modZone_within s z

theorem takePeriod_within (s : State) (z : Nat) : WithinZone z s (takePeriod s z) := by
  unfold takePeriod
  exact .ite (modZone_within s z) (.refl z s)

/-- With its port running a zone's frame may close after the sample, and nothing else happens. -/
theorem inputDone_within {s : State} {z : Nat} (hz : z < 128) (h : (zoneOf s z).stopping = false) :
    WithinZone z s (inputDone s z) := by
  have hold : WithinZone z s (if (zoneOf s z).oldLeft = some 0 then compKick (zoneOldEnds s z) else s) :=
    .ite (((compKick_zonesKept _).within hz).after (zoneOldEnds_within s hz)) (.refl z s)
  have hrun := hold.stopping.trans h
  unfold inputDone
  simp only [hrun, Bool.false_and, Bool.false_eq_true, if_false]
  exact hold

/-! ### One output row (06 R139 to R142, R146) -/

/-- `t` comes from `s` by work on zone `z` that makes the one output row `r`. -/
structure MakesRow (z : Nat) (r : ZRow) (s t : State) : Prop where
  others : ∀ y, y ≠ z → zoneOf t y = zoneOf s y
  inq : (zoneOf t z).inq = (zoneOf s z).inq
  last : (zoneOf t z).last = some r
  stopping : (zoneOf t z).stopping = (zoneOf s z).stopping
  samples : getP t 4 z zSAMPLES_OUT = inc32 (getP s 4 z zSAMPLES_OUT)

theorem WithinZone.samples {z : Nat} {s t : State} (h : WithinZone z s t) :
    getP t 4 z zSAMPLES_OUT = getP s 4 z zSAMPLES_OUT := h.items _ (by decide) (by decide) (by decide)

theorem MakesRow.after {z : Nat} {r : ZRow} {a b c : State} (k : MakesRow z r b c) (h : WithinZone z a b) : MakesRow z r a c :=
  ⟨fun y hy => (k.others y hy).trans (h.others y hy), k.inq.trans h.inq, k.last, k.stopping.trans h.stopping,
    by rw [k.samples, h.samples]⟩

theorem WithinZone.afterRow {z : Nat} {r : ZRow} {a b c : State} (k : WithinZone z b c) (h : MakesRow z r a b) : MakesRow z r a c :=
  ⟨fun y hy => (k.others y hy).trans (h.others y hy), k.inq.trans h.inq, k.last.trans h.last, k.stopping.trans h.stopping,
    by rw [k.samples, h.samples]⟩

theorem emitRow_makesRow {z : Nat} (s : State) (r : ZRow) (warm first : Bool) (hz : z < 128) :
    MakesRow z r s (emitRow s z r warm first) := by
  have hcount : MakesRow z r s
      (modZone (bumpP s 4 z zSAMPLES_OUT) z (fun x => { x with last := some r, outIdx := x.outIdx + 1 })) := by
    refine ⟨fun y hy => zoneOf_modZone_ne _ _ hy, ?_, ?_, ?_, getP_setP_same s 4 z zSAMPLES_OUT _⟩ <;> rw [zoneOf_modZone_same]
    · rfl
    · rfl
  exact ((onZoneRow_zonesKept _ z r).within hz).afterRow
    ((feedDetectors_within _ z r warm).afterRow ((frameRow_within _ hz r first).afterRow hcount))

/-- A row of the chain makes one output row with its label and its number of values. -/
theorem outputRow_makesRow {z : Nat} (s : State) (label : Nat) (vals : List QVal) (hz : z < 128) :
    ∃ r : ZRow, MakesRow z r s (outputRow s z label vals) ∧ r.label = label ∧ r.vals.length = vals.length := by
  unfold outputRow
  extract_lets v x w warm first row dc words sats s₁ s₂ s₃
  have hbefore : WithinZone z s s₃ := (takePeriod_within _ z).after
    ((modZone_within _ z).after (setP_within s _ (.inr rfl)))
  have hlen : row.length = vals.length := by
    simp only [row]
    split <;> simp
  exact ⟨_, (emitRow_makesRow s₃ _ warm first hz).after hbefore, rfl, by simp [hlen]⟩

/-! ### The products enter (06 R133) -/

section Definition
variable {z : Nat} {s t : State} (h : WithinZone z s t)
include h

/-- Work on a zone leaves its definition. -/
theorem WithinZone.zn {i : Nat} (hi : i < 0x80) : zn (zview t z) i = zn (zview s z) i :=
  congrArg Int.toNat (h.items i (by omega) (by unfold zFRAMES_OUT; omega) (by unfold zSAT_COUNT; omega))

theorem WithinZone.zcount : zcount (zview t z) = zcount (zview s z) := h.zn (by decide)

theorem WithinZone.zdecim : zdecim (zview t z) = zdecim (zview s z) := by
  have hproduct : Machine.zn (zview t z) zPRODUCT = Machine.zn (zview s z) zPRODUCT := h.zn (by decide)
  have hdecim : Machine.zn (zview t z) zDECIM = Machine.zn (zview s z) zDECIM := h.zn (by decide)
  simp [Machine.zdecim, zphase, hproduct, hdecim]

end Definition

theorem tempInput_makesRow {z : Nat} (s : State) (r : TRow) (hz : z < 128) :
    ∃ row : ZRow, MakesRow z row s (tempInput s z r) ∧ row.label = r.ts ∧ row.vals.length = zcount (zview s z) := by
  have hreset : WithinZone z s (if resetFalls (zoneOf s z) r.ts then zoneReset s z r.ts else s) :=
    .ite (zoneReset_within s z r.ts) (.refl z s)
  unfold tempInput
  extract_lets t v
  obtain ⟨row, hrow, hlabel, hlen⟩ := outputRow_makesRow t r.ts ((zstitches v).map (tempStitch t v r)) hz
  refine ⟨row, hrow.after hreset, hlabel, ?_⟩
  rw [hlen, List.length_map, zstitches, List.length_map, List.length_range, ← hreset.zcount]

/-- A sample's way to the chain: its frame and its reset, before the stages. -/
structure ReachesChain (z : Nat) (s t : State) : Prop where
  within : WithinZone z s t
  stages : zdecim (zview s z) = 0 → (zoneOf s z).stages = [] → (zoneOf t z).stages = []

theorem ReachesChain.refl (z : Nat) (s : State) : ReachesChain z s s := ⟨.refl z s, fun _ h => h⟩

theorem ReachesChain.after {z : Nat} {a b c : State} (k : ReachesChain z b c) (h : ReachesChain z a b) : ReachesChain z a c :=
  ⟨k.within.after h.within, fun hdecim hstages => k.stages (h.within.zdecim.trans hdecim) (h.stages hdecim hstages)⟩

theorem ReachesChain.ite {c : Prop} [Decidable c] {z : Nat} {s a b : State} (h : ReachesChain z s a) (k : ReachesChain z s b) :
    ReachesChain z s (if c then a else b) := by
  split
  · exact h
  · exact k

theorem modZone_reachesChain (s : State) (z : Nat) {f : Zone → Zone}
    (hf : ∀ x, (f x).inq = x.inq ∧ (f x).last = x.last ∧ (f x).stopping = x.stopping := by exact fun _ => ⟨rfl, rfl, rfl⟩)
    (hstages : ∀ x, (f x).stages = x.stages := by exact fun _ => rfl) : ReachesChain z s (modZone s z f) :=
  ⟨modZone_within s z hf, fun _ h => by rw [zoneOf_modZone_same, hstages, h]⟩

theorem closeZoneFrame_reachesChain {z : Nat} (s : State) (hz : z < 128) : ReachesChain z s (closeZoneFrame s z) := by
  obtain ⟨f, hzone, -⟩ := zoneOf_closeZoneFrame_same s z
  exact ⟨closeZoneFrame_within s hz, fun _ h => by rw [hzone]; exact h⟩

theorem zoneReset_reachesChain (s : State) (z label : Nat) : ReachesChain z s (zoneReset s z label) := by
  refine ⟨zoneReset_within s z label, fun hdecim _ => ?_⟩
  unfold zoneReset
  rw [zoneOf_modZone_same, hdecim]
  rfl

/-- With no half-band stages each sample of port A makes one output row (06 R136, R142). -/
theorem phaseInput_makesRow {z : Nat} {s : State} (a : PhaseRow) (b : Option PhaseRow) (hz : z < 128)
    (hdecim : zdecim (zview s z) = 0) (hstages : (zoneOf s z).stages = []) :
    ∃ row : ZRow, MakesRow z row s (phaseInput s z a b) ∧ row.label = a.tL ∧ row.vals.length = zcount (zview s z) := by
  unfold phaseInput
  extract_lets s₁ s₂ v s₃ x picked entered r s₄ s₅
  have h₁ : ReachesChain z s s₁ := .ite ((modZone_reachesChain _ z).after (closeZoneFrame_reachesChain s hz)) (.refl z s)
  have h₂ : ReachesChain z s s₂ := (ReachesChain.ite (zoneReset_reachesChain s₁ z a.tL) (.refl z s₁)).after h₁
  have h₃ : ReachesChain z s s₃ := (ReachesChain.ite (modZone_reachesChain s₂ z) (.refl z s₂)).after h₂
  have h₅ : WithinZone z s s₅ := ((modZone_within s₄ z).after (setP_within s₃ _ (.inr rfl))).after h₃.within
  have hchain : r.2.1 = some (entered.map (fun e => e.1)) := by
    simp only [r, x, h₃.stages hdecim hstages, chainPush]
  have hlen : (entered.map (fun e => e.1)).length = zcount (zview s z) := by
    simp [entered, picked, zstitches, v, h₂.within.zcount]
  have hflat : ¬ (zn v zPRESET = 3 ∧ 1 ≤ zdecim v) := by
    have : zdecim v = 0 := h₂.within.zdecim.trans hdecim
    omega
  obtain ⟨row, hrow, hlabel, hvals⟩ := outputRow_makesRow s₅ a.tL (entered.map (fun e => e.1)) hz
  rw [hchain]
  dsimp only
  rw [if_neg hflat]
  exact ⟨row, hrow.after h₅, hlabel, hvals.trans hlen⟩

/-! ### ZONE_INPUT_SAMPLE (06 R131 to R148) -/

/-- A waiting sample goes through the zone, a single port's product without port B's rows. -/
def takeSample (s : State) (z : Nat) : ZIn → State
  | .phase a => phaseInput (popInput s z (.phase a)) z a none
  | .temp r => tempInput (popInput s z (.temp r)) z r

/-- The time that labels what a sample makes (06 R142). -/
def sampleLabel : ZIn → Nat
  | .phase a => a.tL
  | .temp r => r.ts

/-- A sample of temperature, or of phase with no half-band stages, makes one output row. -/
theorem takeSample_makesRow {z : Nat} {i : ZIn} {s : State} (hz : z < 128)
    (h : (∃ r, i = .temp r) ∨ zdecim (zview s z) = 0 ∧ (zoneOf s z).stages = []) :
    ∃ row : ZRow, MakesRow z row (popInput s z i) (takeSample s z i) ∧ row.label = sampleLabel i ∧
      row.vals.length = zcount (zview s z) := by
  cases i with
  | temp r => exact tempInput_makesRow (popInput s z (.temp r)) r hz
  | phase a =>
    obtain ⟨hdecim, hstages⟩ := h.resolve_left (by simp)
    refine phaseInput_makesRow (s := popInput s z (.phase a)) a none hz hdecim ?_
    rw [popInput, zoneOf_modZone_same]
    exact hstages

/-- With its definition in force a zone takes the sample through it. -/
theorem zoneInputSample_takes {z : Nat} {i : ZIn} {rest : List ZIn} {s : State} (hen : zoneEnabled s z = true)
    (hq : (zoneOf s z).inq = i :: rest) (hdef : (zoneOf s z).pendingDef = false)
    (hport : (∃ r, i = .temp r) ∨ zn (zview s z) zPORT ≠ 2) :
    exec (.zoneInputSample z) s = .next (inputDone (compKick (takeSample s z i)) z) := by
  have hpop : (zoneOf (popInput s z i) z).pendingDef = false := by
    rw [popInput, zoneOf_modZone_same]; exact hdef
  have hview : zview (popInput s z i) z = zview s z := rfl
  show execZoneInputSample z s = _
  cases i with
  | phase a =>
    have hsingle : zn (zview s z) zPORT ≠ 2 := hport.resolve_left (by simp)
    simp [execZoneInputSample, takeSample, hen, hq, hpop, hview, hsingle]
  | temp r => simp [execZoneInputSample, takeSample, hen, hq, hpop, hview]

/-- What the sample makes of the zone once it has left the queue is what the command makes. -/
theorem zoneInputSample_makesRow {z : Nat} {i : ZIn} {rest : List ZIn} {s : State} {row : ZRow} (hz : z < 128)
    (hen : zoneEnabled s z = true) (hq : (zoneOf s z).inq = i :: rest) (hdef : (zoneOf s z).pendingDef = false)
    (hstop : (zoneOf s z).stopping = false) (hport : (∃ r, i = .temp r) ∨ zn (zview s z) zPORT ≠ 2)
    (hrow : MakesRow z row (popInput s z i) (takeSample s z i)) :
    ∃ t, exec (.zoneInputSample z) s = .next t ∧ (zoneOf t z).inq = rest ∧ (zoneOf t z).last = some row ∧
      getP t 4 z zSAMPLES_OUT = inc32 (getP s 4 z zSAMPLES_OUT) ∧ ∀ y, y ≠ z → zoneOf t y = zoneOf s y := by
  have hpop : (zoneOf (popInput s z i) z).inq = rest ∧ (zoneOf (popInput s z i) z).stopping = false := by
    rw [popInput, zoneOf_modZone_same]
    exact ⟨congrArg (List.drop 1) hq, hstop⟩
  have hkick := ((compKick_zonesKept _).within hz).afterRow hrow
  have hdone := (inputDone_within hz (hkick.stopping.trans hpop.2)).afterRow hkick
  exact ⟨_, zoneInputSample_takes hen hq hdef hport, hdone.inq.trans hpop.1, hdone.last, hdone.samples,
    fun y hy => (hdone.others y hy).trans (zoneOf_modZone_ne s _ hy)⟩

/-- A dual-ended zone waits for port B's row. -/
theorem zoneInputSample_waits {z : Nat} {a : PhaseRow} {rest : List ZIn} {s : State} (hen : zoneEnabled s z = true)
    (hq : (zoneOf s z).inq = .phase a :: rest) (hdual : zn (zview s z) zPORT = 2)
    (hpair : pairedRow s (zoneOf s z) a = (none, false)) : exec (.zoneInputSample z) s = .next s := by
  show execZoneInputSample z s = _
  simp [execZoneInputSample, hen, hq, hdual, hpair]

theorem zoneInputSample_of_not_enabled {z : Nat} {s : State} (h : zoneEnabled s z = false) :
    exec (.zoneInputSample z) s = .next s := by
  show execZoneInputSample z s = _
  simp [execZoneInputSample, h]

/-! ### Live bits (18 R380, R381) -/

theorem isLive_setSrcRec (s : State) (src : Nat) {x : Source} (n : Nat) (h : x.live = isLive s src := by rfl) :
    isLive (setSrcRec s src x) n = isLive s n := by
  unfold isLive srcRec setSrcRec at *
  rw [kget_kput]
  split
  · next hn => rw [h, hn]
  · rfl

theorem isLive_dropQuiet (s : State) (src n : Nat) : isLive (dropQuiet s src) n = isLive s n := by
  unfold dropQuiet
  split
  · exact isLive_setSrcRec s src n
  · rfl

theorem isLive_detect (s : State) (x : Raise) (n : Nat) : isLive (detect s x) n = isLive s n := isLive_dropQuiet s x.src n

theorem isLive_setBehind (s : State) (n : Nat) : isLive (setBehind s) n = isLive s n := by
  unfold setBehind detectSrc
  split
  · rfl
  · exact isLive_detect _ _ n

theorem isLive_closeJournal (s : State) (n : Nat) : isLive (closeJournal s) n = isLive s n := by
  unfold closeJournal
  dsimp only
  split
  · rfl
  · exact isLive_setBehind _ n

theorem isLive_makeRoom (s : State) (n : Nat) : isLive (makeRoom s) n = isLive s n := by
  unfold makeRoom
  split <;> rfl

theorem isLive_appendEntry (s : State) (e : JEntry) (n : Nat) : isLive (appendEntry s e) n = isLive s n := by
  have hroom : isLive (if storeFull s then makeRoom s else s) n = isLive s n := by
    rw [apply_ite (isLive · n), isLive_makeRoom, ite_self]
  have hstore : isLive (storeEntry (if storeFull s then makeRoom s else s) e) n = isLive s n := hroom
  rw [appendEntry_eq]
  dsimp only
  rw [apply_ite (isLive · n), isLive_closeJournal, ite_self, hstore]

theorem isLive_writeEntry (s : State) (e : JEntry) (n : Nat) : isLive (writeEntry s e) n = isLive s n :=
  (isLive_appendEntry _ _ n).trans (isLive_setSrcRec s e.src n)

theorem isLive_journalEvent (s : State) (e : JEntry) (x : Raise) (n : Nat) : isLive (journalEvent s e x) n = isLive s n := by
  unfold journalEvent
  dsimp only
  split
  · exact (isLive_writeEntry _ e n).trans (isLive_setSrcRec s e.src n)
  · split
    · exact isLive_setSrcRec s e.src n
    · exact isLive_setSrcRec s e.src n

/-- A source whose condition has ended is not live. -/
theorem not_isLive_clearLive (s : State) (src : Nat) : isLive (clearLive s src) src = false := by
  unfold clearLive
  dsimp only
  split
  · next h =>
    have hlive : isLive s src = false := by simpa [isLive] using h
    split
    · exact (isLive_setSrcRec s src src).trans hlive
    · exact hlive
  · rw [isLive_journalEvent]
    simp [uncover, dropEndedActions, isLive, srcRec, setSrcRec]

/-! ### ZONE_SAT_SECOND (06 R141) -/

/-- A zone's counts start anew. -/
def satRestarts (x : Zone) : Zone := { x with satNow := 0, outNow := 0 }

/-- The zones with too many values saturated. -/
def saturatedZones (s : State) : List Nat := (List.range 128).filter (fun z => zoneSatBad (zoneOf s z))

/-- A second is over: every zone's counts and the compressor's ratios start anew. -/
def secondEnds (s : State) : State :=
  let u := compSecond ((List.range 128).foldl (fun s z => modZone s z satRestarts) s)
  { u with cap := { u.cap with secFrom := u.cap.secFrom + secTicks } }

/-- Source 50 for a zone. -/
def saturates (s : State) (z : Nat) : State := detect s { raiseBlank 50 with zone := z }

theorem zoneSatSecond_over {s : State} (h : s.cap.secFrom + 1250000000 ≤ nowClk s) :
    exec .zoneSatSecond s = .next (if (saturatedZones s).isEmpty then clearIf (secondEnds s) 50
      else (saturatedZones s).foldl saturates (secondEnds s)) := by
  show execZoneSatSecond s = _
  unfold execZoneSatSecond
  rw [if_neg (Nat.not_lt.mpr h)]
  rfl

theorem compSecond_cap (s : State) : (compSecond s).cap = s.cap := by
  unfold compSecond
  dsimp only
  exact List.foldlRecOn (motive := fun t : State => t.cap = s.cap) _ _ rfl fun t ht z _ => ht

theorem secondEnds_secFrom (s : State) : (secondEnds s).cap.secFrom = s.cap.secFrom + 1250000000 := by
  unfold secondEnds
  dsimp only
  rw [compSecond_cap, foldl_modZone_eq]

theorem zoneOf_secondEnds (s : State) {z : Nat} (hz : z < 128) : zoneOf (secondEnds s) z = satRestarts (zoneOf s z) := by
  have hzones : (secondEnds s).cap.zones = ((List.range 128).foldl (fun s z => modZone s z satRestarts) s).cap.zones := by
    unfold secondEnds
    dsimp only
    rw [compSecond_cap]
  rw [zoneOf_of_zones_eq hzones, zoneOf_foldl_modZone satRestarts List.nodup_range, if_pos (List.mem_range.mpr hz)]

theorem saturates_onlyCollector (s : State) (zs : List Nat) : OnlyCollector s (zs.foldl saturates s) :=
  List.foldlRecOn (motive := OnlyCollector s) zs saturates (.refl s) fun _ ht _ _ => (detect_onlyCollector _ _).after ht

theorem detected_saturates (s : State) (z : Nat) :
    (saturates s z).col.detected = s.col.detected ++ [{ raiseBlank 50 with zone := z }] := by
  unfold saturates detect dropQuiet
  split <;> rfl

theorem mem_detected_saturates {z : Nat} {zs : List Nat} (s : State) (h : z ∈ zs) :
    { raiseBlank 50 with zone := z } ∈ (zs.foldl saturates s).col.detected := by
  have hall : (zs.foldl saturates s).col.detected = s.col.detected ++ zs.map (fun z => { raiseBlank 50 with zone := z }) := by
    clear h
    induction zs generalizing s with
    | nil => simp
    | cons z zs ih => rw [List.foldl_cons, ih, detected_saturates]; simp
  rw [hall]
  exact List.mem_append_right _ (List.mem_map_of_mem h)

theorem OnlyCollector.cap {s t : State} (h : OnlyCollector s t) : t.cap = s.cap := by rw [h.rest]

/-- The second is over: whatever is told to the collector, the counts start anew. -/
theorem zoneSatSecond_restarts {s t : State} (h : OnlyCollector (secondEnds s) t) :
    t.cap.secFrom = s.cap.secFrom + 1250000000 ∧ ∀ z, z < 128 → (zoneOf t z).satNow = 0 ∧ (zoneOf t z).outNow = 0 := by
  refine ⟨h.cap ▸ secondEnds_secFrom s, fun z hz => ?_⟩
  rw [zoneOf_of_zones_eq (congrArg _ h.cap), zoneOf_secondEnds s hz]
  exact ⟨rfl, rfl⟩

/-- Settles O17: what takes a sample through a zone leaves the queue and the latest row to the one output row, and the work of a frame, a
skein, a kernel or the compressor leaves the zones alone. -/
theorem zoneRows : Obligations.ZoneRows := by
  unfold Obligations.ZoneRows
  refine ⟨fun z i rest s hz hen hq hdef hstop hkind => ?_, fun z a rest s hen hq hdual hpair => zoneInputSample_waits hen hq hdual hpair,
    fun z s h => zoneInputSample_of_not_enabled h, fun s h => ?_, fun s h => ?_⟩
  · have hport : (∃ r, i = .temp r) ∨ zn (zview s z) zPORT ≠ 2 := hkind.imp_right fun ⟨_, _, _, h⟩ => h
    obtain ⟨row, hmakes, hlabel, hlen⟩ := takeSample_makesRow (s := s) hz
      (hkind.imp_right fun ⟨_, hdecim, hstages, _⟩ => ⟨hdecim, hstages⟩)
    obtain ⟨t, hexec, hinq, hlast, hsamples, hothers⟩ := zoneInputSample_makesRow hz hen hq hdef hstop hport hmakes
    exact ⟨t, row, hexec, hinq, hlast, hlabel.trans (by cases i <;> rfl), hlen, hsamples, hothers⟩
  · refine ⟨_, zoneSatSecond_over h, ?_⟩
    by_cases hbad : (saturatedZones s).isEmpty = true
    · rw [if_pos hbad]
      obtain ⟨hsec, hcounts⟩ := zoneSatSecond_restarts (clearLive_onlyCollector (secondEnds s) 50)
      refine ⟨hsec, hcounts, fun _ => not_isLive_clearLive _ 50, fun z hz hsat => ?_⟩
      have hmem : z ∈ saturatedZones s := List.mem_filter.mpr ⟨List.mem_range.mpr hz, decide_eq_true hsat⟩
      exact absurd (List.isEmpty_iff.mp hbad ▸ hmem) List.not_mem_nil
    · rw [if_neg hbad]
      obtain ⟨hsec, hcounts⟩ := zoneSatSecond_restarts (saturates_onlyCollector (secondEnds s) (saturatedZones s))
      refine ⟨hsec, hcounts, fun hnone => absurd ?_ hbad, fun z hz hsat => mem_detected_saturates _ ?_⟩
      · rw [List.isEmpty_iff, saturatedZones, List.filter_eq_nil_iff]
        intro z hz
        simpa [zoneSatBad] using hnone z (List.mem_range.mp hz)
      · exact List.mem_filter.mpr ⟨List.mem_range.mpr hz, decide_eq_true hsat⟩
  · show execZoneSatSecond s = _
    rw [execZoneSatSecond, if_pos h]

end Sys2Proof.Machine
end

section
/-! PROOFS. The zone commands (06_zones_output_filtering.md): O16. -/

namespace Sys2Proof.Machine

/-! ### A command with a final answer (15 R318) -/

/-- With no snag a final answer is in the slot, and posting it leaves captures, items and staged set. -/
theorem answered_of_body {c : Instr} {r : Req} {op : Nat} {body : State → State × Answer} {s u : State} {a : Reply}
    (hc : exec c s = .next (mbxRun c r op false body s)) (hopen : mailboxOpen s r.slot = true)
    (hbody : body (accept s r op) = (u, .final a)) (hsnags : u.col.snags = []) :
    ∃ t, exec c s = .next t ∧ answered t r.slot a ∧ t.cap = u.cap ∧ t.params = u.params ∧ t.staged = u.staged := by
  obtain ⟨hphase, hreply, hparams, hstaged⟩ := post_final (a := a) r.slot hsnags
  rw [mbxRun_open c r op false body s hopen (by simp), hbody] at hc
  refine ⟨_, hc, ⟨hphase, hreply⟩, ?_, hparams, hstaged⟩
  rw [post, finish_open u r.slot a hsnags, writeResponse_eq]

/-- A command that is turned away changes nothing. -/
theorem answers_of_refusal {c : Instr} {r : Req} {op : Nat} {body : State → State × Answer} {s : State} {a : Reply}
    (hc : exec c s = .next (mbxRun c r op false body s)) (hopen : mailboxOpen s r.slot = true)
    (hbody : body (accept s r op) = reply (accept s r op) a) : Answers c r.slot s s a :=
  answers_of_body (accept s r op).params hc hopen (by simp) hbody (accept_params s r op) rfl (snags_of_mailboxOpen hopen)

/-! ### Staged items of a zone (06 R131; 15 R325) -/

theorem mem_stagedPairs {s : State} {f : Nat → Bool} {o : Nat} {v : Int} (hf : f o = true) (h : stagedOf s o = some v) :
    o ∈ (stagedPairs s f).map Prod.fst := by
  obtain ⟨q, hq, rfl⟩ := List.mem_map.mp (mem_stagedIds hf h)
  exact List.mem_map.mpr ⟨(q.1, v), List.mem_filterMap.mpr ⟨q, hq, by simp [h]⟩, rfl⟩

theorem stagedPairs_value {s : State} {f : Nat → Bool} {o : Nat} {v : Int} (h : stagedOf s o = some v) :
    ∀ q ∈ stagedPairs s f, q.1 = o → q.2 = v := by
  intro q hq ho
  obtain ⟨x, -, hx⟩ := List.mem_filterMap.mp hq
  obtain ⟨w, hw, rfl⟩ := Option.map_eq_some_iff.mp hx
  obtain rfl : x.1 = o := ho
  exact Option.some.inj (hw.symm.trans h)

theorem stagedOf_takeStaged (s : State) {f : Nat → Bool} {o : Nat} (h : f o = true) : stagedOf (takeStaged s f).1 o = none := by
  refine (kget_kfilter noStage (fun o => !f o) s.staged o).trans ?_
  simp [h, noStage]

/-! ### A definition takes effect (06 R140, R145) -/

/-- A zone's record as its items change from a definition to another. -/
def underItems (old new : ZView) (x : Zone) : Zone := { x with
  next := [], pendingDef := false, mu := muAfter old new x.mu
  frozen := x.nextFrozen.getD (x.frozen && !dcItems.any (fun i => decide (old i ≠ new i))), nextFrozen := none
  dets := (List.range 4).map (fun d => { detKept (nth detNone x.dets d) with hold := detOn new d }) }

theorem zoneApply_eq (s : State) (z : Nat) (vals : List (Nat × Int)) :
    zoneApply s z vals = modZone (putItems s vals) z (underItems (zview s z) (zview (putItems s vals) z)) := rfl

theorem putItems_cap (s : State) (vals : List (Nat × Int)) : (putItems s vals).cap = s.cap := by rw [putItems_eq]

theorem zoneOf_zoneApply_same (s : State) (z : Nat) (vals : List (Nat × Int)) :
    zoneOf (zoneApply s z vals) z = underItems (zview s z) (zview (putItems s vals) z) (zoneOf s z) := by
  rw [zoneApply_eq, zoneOf_modZone_same, zoneOf_of_zones_eq (congrArg _ (putItems_cap s vals))]

theorem zoneOf_zoneApply_ne {z y : Nat} (s : State) (vals : List (Nat × Int)) (h : y ≠ z) :
    zoneOf (zoneApply s z vals) y = zoneOf s y := by
  rw [zoneApply_eq, zoneOf_modZone_ne _ _ h, zoneOf_of_zones_eq (congrArg _ (putItems_cap s vals))]

theorem zoneApply_col (s : State) (z : Nat) (vals : List (Nat × Int)) : (zoneApply s z vals).col = s.col := putItems_col s vals

/-- A zone that starts on its definition waits for its reset; its state and what is accepted for it stay. -/
theorem zoneOf_zoneBuild_same (s : State) (z : Nat) :
    (zoneOf (zoneBuild s z) z).st = (zoneOf s z).st ∧ (zoneOf (zoneBuild s z) z).pendingDef = (zoneOf s z).pendingDef ∧
      (zoneOf (zoneBuild s z) z).resetDue = true ∧ (zoneOf (zoneBuild s z) z).inq = [] := by
  unfold zoneBuild
  rw [zoneOf_modZone_same]
  exact ⟨rfl, rfl, rfl, rfl⟩

theorem zoneOf_zoneBuild_ne {z y : Nat} (s : State) (h : y ≠ z) : zoneOf (zoneBuild s z) y = zoneOf s y :=
  zoneOf_modZone_ne s _ h

/-- A redefinition that takes effect: the zone stays in its state, with a reset due and nothing more accepted. -/
theorem zoneOf_zoneSwitch_same (s : State) (z : Nat) :
    (zoneOf (zoneSwitch s z) z).st = (zoneOf s z).st ∧ (zoneOf (zoneSwitch s z) z).pendingDef = false ∧
      (zoneOf (zoneSwitch s z) z).resetDue = true := by
  obtain ⟨f, hclosed, -⟩ := zoneOf_closeZoneFrame_same s z
  obtain ⟨hst, hdef, hreset, -⟩ :=
    zoneOf_zoneBuild_same (zoneApply (closeZoneFrame s z) z (zoneOf (closeZoneFrame s z) z).next) z
  have hzone : (zoneOf (closeZoneFrame s z) z).st = (zoneOf s z).st := by rw [hclosed]
  rw [zoneOf_zoneApply_same] at hst hdef
  exact ⟨hst.trans hzone, hdef, hreset⟩

theorem zoneOf_zoneSwitch_ne {z y : Nat} (s : State) (h : y ≠ z) : zoneOf (zoneSwitch s z) y = zoneOf s y := by
  unfold zoneSwitch
  rw [zoneOf_zoneBuild_ne _ h, zoneOf_zoneApply_ne _ _ h, zoneOf_closeZoneFrame_ne s h]

theorem zoneSwitch_snags (s : State) (z : Nat) : (zoneSwitch s z).col.snags = s.col.snags := by
  unfold zoneSwitch zoneBuild
  dsimp only
  rw [modZone_col, zoneApply_col, (closeZoneFrame_planKept s z).snags]

/-! ### ZONE_DEFINE (06 R131, R145) -/

/-- The counts of a zone are items only. -/
theorem zoneCounts_rest (s : State) (z : Nat) : (zoneCounts s z).cap = s.cap ∧ (zoneCounts s z).col = s.col ∧
    (zoneCounts s z).ports = s.ports ∧ (zoneCounts s z).staged = s.staged := by
  unfold zoneCounts
  iterate 2 rw [setP_cap, setP_col, setP_ports, setP_staged]
  exact List.foldlRecOn (motive := fun t : State => t.cap = s.cap ∧ t.col = s.col ∧ t.ports = s.ports ∧ t.staged = s.staged) _ _
    ⟨rfl, rfl, rfl, rfl⟩ fun _ ht _ _ => by rw [setP_cap, setP_col, setP_ports, setP_staged]; exact ht

/-- The state from which a definition takes effect: its staged items taken, the zone's RO counts at 0 (06 R130). -/
def definitionTaken (s : State) (z : Nat) : State := zoneCounts (takeStaged s (zoneItem z)).1 z

theorem zoneOf_definitionTaken (s : State) (z y : Nat) : zoneOf (definitionTaken s z) y = zoneOf s y := by
  obtain ⟨hcap, -, -, -⟩ := zoneCounts_rest (takeStaged s (zoneItem z)).1 z
  exact zoneOf_of_zones_eq (congrArg Capturing.zones hcap) y

theorem zoneEnabled_definitionTaken (s : State) (z : Nat) : zoneEnabled (definitionTaken s z) z = zoneEnabled s z := by
  rw [zoneEnabled, zoneOf_definitionTaken, zoneEnabled]

theorem definitionTaken_col (s : State) (z : Nat) : (definitionTaken s z).col = s.col := by
  obtain ⟨-, hcol, -, -⟩ := zoneCounts_rest (takeStaged s (zoneItem z)).1 z
  exact hcol

theorem portOf_definitionTaken (s : State) (z p : Nat) : portOf (definitionTaken s z) p = portOf s p := by
  obtain ⟨-, -, hports, -⟩ := zoneCounts_rest (takeStaged s (zoneItem z)).1 z
  exact portOf_of_ports_eq hports p

theorem stagedOf_definitionTaken (s : State) {z o : Nat} (h : zoneItem z o = true) : stagedOf (definitionTaken s z) o = none := by
  obtain ⟨-, -, -, hstaged⟩ := zoneCounts_rest (takeStaged s (zoneItem z)).1 z
  rw [stagedOf, definitionTaken, hstaged]
  exact stagedOf_takeStaged s h

/-- The counts are no items of a definition: the port stays. -/
theorem zport_definitionTaken (s : State) (z : Nat) : zport (zview (definitionTaken s z) z) = zport (zview s z) := by
  have hother (j : Nat) : objId 0x0F z j ≠ objId 4 z zPORT := by simp only [objId, zPORT]; omega
  have hport : getP (definitionTaken s z) 4 z zPORT = getP s 4 z zPORT := by
    simp only [definitionTaken, zoneCounts, List.foldl, getP_setP, objId_inj_item, hother, if_false]
    rfl
  exact congrArg (fun v : Int => if v.toNat = 2 then 0 else v.toNat) hport

theorem leBytes_length (n v : Nat) : (leBytes n v).length = n := by
  induction n generalizing v with
  | zero => rfl
  | succ n ih => simp [leBytes, ih]

theorem definePayload_length (s : State) (v : ZView) : (definePayload s v).length = 16 := by
  simp [definePayload, leBytes_length]

/-- The state in which the staged definition is in force. -/
def definitionInForce (s : State) (z : Nat) : State := zoneApply (definitionTaken s z) z (stagedPairs s (zoneItem z))

/-- A zone for which values have been accepted that wait. -/
def awaits (vals : List (Nat × Int)) (x : Zone) : Zone := { x with next := vals, pendingDef := true }

/-- The state in which the staged definition waits for the switch sample (06 R145). -/
def definitionWaits (s : State) (z : Nat) : State := modZone (definitionTaken s z) z (awaits (stagedPairs s (zoneItem z)))

theorem zoneOf_definitionWaits_same (s : State) (z : Nat) :
    zoneOf (definitionWaits s z) z = awaits (stagedPairs s (zoneItem z)) (zoneOf s z) := by
  rw [definitionWaits, zoneOf_modZone_same, zoneOf_definitionTaken]

theorem zoneOf_definitionWaits_ne {z y : Nat} (s : State) (h : y ≠ z) : zoneOf (definitionWaits s z) y = zoneOf s y := by
  rw [definitionWaits, zoneOf_modZone_ne _ _ h, zoneOf_definitionTaken]

/-- A zone that becomes DEFINED, with its SAMPLE_PERIOD. -/
def becomesDefined (period : Nat) (x : Zone) : Zone := { x with st := .defined, period := period }

/-- A released zone: what is kept are the changes that no record has reported (07 R157). -/
def releasedZone (z : Nat) (x : Zone) : Zone := { zoneBlank z with dets := x.dets.map detKept }

theorem zoneOf_definitionInForce_ne {z y : Nat} (s : State) (h : y ≠ z) : zoneOf (definitionInForce s z) y = zoneOf s y := by
  rw [definitionInForce, zoneOf_zoneApply_ne _ _ h, zoneOf_definitionTaken]

theorem stagedOf_definitionInForce (s : State) {z o : Nat} (h : zoneItem z o = true) :
    stagedOf (definitionInForce s z) o = none := by
  have hstaged : (definitionInForce s z).staged = (definitionTaken s z).staged := putItems_staged _ _
  rw [stagedOf, hstaged]
  exact stagedOf_definitionTaken s h

/-- A staged item of the definition has its value. -/
theorem getP_definitionInForce {s : State} {z i : Nat} {v : Int} (hitem : zoneItem z (objId 4 z i) = true)
    (h : stagedOf s (objId 4 z i) = some v) : getP (definitionInForce s z) 4 z i = v :=
  kget_putItems (definitionTaken s z) (stagedPairs_value h) (.inl (mem_stagedPairs hitem h))

theorem dets_definitionInForce (s : State) (z : Nat) : (zoneOf (definitionInForce s z) z).dets.map detKept =
    [0, 1, 2, 3].map (fun d => detKept (nth detNone (zoneOf s z).dets d)) := by
  rw [definitionInForce, zoneOf_zoneApply_same, zoneOf_definitionTaken]
  rfl

theorem definitionInForce_col (s : State) (z : Nat) : (definitionInForce s z).col = s.col := by
  rw [definitionInForce, zoneApply_col, definitionTaken_col]

theorem definitionWaits_col (s : State) (z : Nat) : (definitionWaits s z).col = s.col := by
  rw [definitionWaits, modZone_col, definitionTaken_col]

/-- What ZONE_DEFINE writes, in the words of this file. -/
theorem takeStaged_definition (s : State) (z : Nat) :
    zoneCounts (takeStaged s (zoneItem z)).1 z = definitionTaken s z ∧ (takeStaged s (zoneItem z)).2 = stagedPairs s (zoneItem z) :=
  ⟨rfl, rfl⟩

/-- A definition of a zone that is not ENABLED is in force at once. -/
theorem bodyZoneDefine_admits {s : State} {z : Nat} (hz : z ≤ 127) (h : zoneAdmits s z = true) :
    ∃ period q, bodyZoneDefine z s =
      (modZone (definitionInForce s z) z (becomesDefined period), .final (okWith q)) ∧ q.length = 16 := by
  simp only [zoneAdmits, Bool.and_eq_true, decide_eq_true_eq, Option.isNone_iff_eq_none, Bool.not_eq_true'] at h
  obtain ⟨⟨⟨⟨hproduct, hitems⟩, hen⟩, hskein⟩, hbudget⟩ := h
  obtain ⟨htaken, hpairs⟩ := takeStaged_definition s z
  let period := samplePeriod (definitionInForce s z) (zview (definitionInForce s z) z)
  refine ⟨period, definePayload (modZone (definitionInForce s z) z (becomesDefined period)) (zstaged s z), ?_,
    definePayload_length _ _⟩
  simp only [bodyZoneDefine, Nat.not_lt.mpr hz, hproduct, if_false, defineZone, hitems, hen, hskein, hbudget, htaken, hpairs,
    zoneEnabled_definitionTaken, Bool.false_eq_true]
  rfl

/-- A definition of an ENABLED zone waits for the switch sample of a RUNNING port, and is in force at once otherwise. -/
theorem bodyZoneDefine_redefines {s : State} {z : Nat} (hz : z ≤ 127) (h : zoneRedefines s z = true) :
    ∃ q, bodyZoneDefine z s = (if (portOf s (zport (zview s z))).st = .running then definitionWaits s z
      else zoneSwitch (definitionWaits s z) z, .final (okWith q)) ∧ q.length = 16 := by
  simp only [zoneRedefines, Bool.and_eq_true, decide_eq_true_eq, Option.isNone_iff_eq_none] at h
  obtain ⟨⟨⟨⟨⟨hproduct, hitems⟩, hen⟩, hpending⟩, hskein⟩, hbudget⟩ := h
  obtain ⟨htaken, hpairs⟩ := takeStaged_definition s z
  refine ⟨definePayload (if (portOf s (zport (zview s z))).st = .running then definitionWaits s z
      else zoneSwitch (definitionWaits s z) z) (zstaged s z), ?_, definePayload_length _ _⟩
  simp only [bodyZoneDefine, Nat.not_lt.mpr hz, hproduct, if_false, defineZone, hitems, hen, hpending, hskein, hbudget, htaken,
    hpairs, zoneEnabled_definitionTaken, portOf_definitionTaken, zport_definitionTaken, if_true, decide_eq_true_eq]
  rfl

/-- A release: the definition's items are applied, and the zone's record starts anew. -/
theorem bodyZoneDefine_releases {s : State} {z : Nat} (hz : z ≤ 127) (h : zoneReleases s z = true) :
    bodyZoneDefine z s = (modZone (definitionInForce s z) z (releasedZone z), .final (okWith (zeros 16))) := by
  simp only [zoneReleases, Bool.and_eq_true, decide_eq_true_eq, Option.isNone_iff_eq_none] at h
  obtain ⟨⟨⟨⟨hproduct, hitems⟩, hst⟩, hskein⟩, hkernel⟩ := h
  obtain ⟨htaken, hpairs⟩ := takeStaged_definition s z
  simp only [bodyZoneDefine, Nat.not_lt.mpr hz, hproduct, if_false, if_true, releaseZone, hitems, hst, hskein, hkernel, htaken,
    hpairs, ne_eq, not_true_eq_false]
  rfl

theorem zport_zview_accept (s : State) (r : Req) (op z : Nat) : zport (zview (accept s r op) z) = zport (zview s z) :=
  congrArg (fun v : Int => if v.toNat = 2 then 0 else v.toNat) (getP_accept s r op z zPORT (by decide))

theorem loopsWatch_eq (s : State) : loopsWatch s = { s with loops := (loopsWatch s).loops } := by
  unfold loopsWatch
  exact List.foldlRecOn (motive := fun t : State => t = { s with loops := t.loops }) _ _ rfl fun t ht n _ => by rw [ht]; rfl

/-- A zone that becomes ENABLED. -/
def becomesEnabled (x : Zone) : Zone := { x with st := .enabled }

/-- The state in which an ENABLED zone starts. -/
def zoneStarts (s : State) (z : Nat) : State := zoneBuild (modZone s z becomesEnabled) z

theorem bodyZoneEnable_defined {s : State} {z : Nat} (hz : z ≤ 127) (h : (zoneOf s z).st = .defined) :
    bodyZoneEnable z s =
      ({ s with cap := (zoneStarts s z).cap, loops := (loopsWatch (zoneStarts s z)).loops }, .final okBare) := by
  have hstarts : zoneStarts s z = { s with cap := (zoneStarts s z).cap } := rfl
  have hwatch : loopsWatch (zoneStarts s z) =
      { s with cap := (zoneStarts s z).cap, loops := (loopsWatch (zoneStarts s z)).loops } :=
    (loopsWatch_eq _).trans (congrArg (fun u : State => { u with loops := (loopsWatch (zoneStarts s z)).loops }) hstarts)
  rw [← hwatch]
  simp only [bodyZoneEnable, Nat.not_lt.mpr hz, if_false, h, ne_eq, not_true_eq_false]
  rfl

/-- A zone that becomes DEFINED again and takes no further sample. -/
def stopsSampling (x : Zone) : Zone :=
  { x with st := .defined, inq := [], inqB := [], oldLeft := none, syncAt := none, stopping := false }

/-- The state in which an ENABLED zone has stopped with its frame closed. -/
def zoneStops (s : State) (z : Nat) : State :=
  loopsWatch (compKick (skeinsZoneOff (modZone (closeZoneFrame s z) z stopsSampling) z))

theorem zoneStops_zones (s : State) (z : Nat) :
    (zoneStops s z).cap.zones = (modZone (closeZoneFrame s z) z stopsSampling).cap.zones :=
  ((loopsWatch_zonesKept _).after ((compKick_zonesKept _).after (skeinsZoneOff_zonesKept _ z))).zones

theorem zoneOf_zoneStops_same (s : State) (z : Nat) :
    ∃ f, zoneOf (zoneStops s z) z = stopsSampling { zoneOf s z with frame := f } ∧ f.rows = [] := by
  obtain ⟨f, hclosed, hrows⟩ := zoneOf_closeZoneFrame_same s z
  exact ⟨f, by rw [zoneOf_of_zones_eq (zoneStops_zones s z), zoneOf_modZone_same, hclosed], hrows⟩

theorem zoneOf_zoneStops_ne {z y : Nat} (s : State) (h : y ≠ z) : zoneOf (zoneStops s z) y = zoneOf s y := by
  rw [zoneOf_of_zones_eq (zoneStops_zones s z), zoneOf_modZone_ne _ _ h, zoneOf_closeZoneFrame_ne s h]

theorem zoneStops_planKept (s : State) (z : Nat) : PlanKept s (zoneStops s z) :=
  (loopsWatch_planKept _).after ((compKick_planKept _).after ((skeinsZoneOff_planKept _ z).after
    ((modZone_planKept _ z stopsSampling).after (closeZoneFrame_planKept s z))))

theorem bodyZoneDisable_enabled {s : State} {z : Nat} (hz : z ≤ 127) (hen : zoneEnabled s z = true)
    (hdef : (zoneOf s z).pendingDef = false) : bodyZoneDisable z s = (zoneStops s z, .final okBare) := by
  obtain ⟨f, hclosed, -⟩ := zoneOf_closeZoneFrame_same s z
  have hdef' : (zoneOf (closeZoneFrame s z) z).pendingDef = false := by rw [hclosed]; exact hdef
  simp only [bodyZoneDisable, Nat.not_lt.mpr hz, if_false, hen, hdef', Bool.not_true, Bool.false_eq_true]
  rfl

section Define
variable {r : Req} {z : Nat} {s : State} (hopen : mailboxOpen s r.slot = true) (hz : z ≤ 127)
include hopen hz

theorem zoneDefine_admits (h : zoneAdmits (accept s r 0x0401) z = true) :
    ∃ t q, exec (.zoneDefine r z) s = .next t ∧ answered t r.slot (okWith q) ∧ q.length = 16 ∧ (zoneOf t z).st = .defined ∧
      (∀ i v, zoneItem z (objId 4 z i) = true → stagedOf s (objId 4 z i) = some v →
        getP t 4 z i = v ∧ stagedOf t (objId 4 z i) = none) ∧
      ∀ y, y ≠ z → zoneOf t y = zoneOf s y := by
  obtain ⟨period, q, hbody, hlen⟩ := bodyZoneDefine_admits hz h
  obtain ⟨t, hexec, hans, hcap, hparams, hstaged⟩ := answered_of_body (c := .zoneDefine r z) rfl hopen hbody
    (by rw [modZone_col, definitionInForce_col, accept_col, snags_of_mailboxOpen hopen])
  have hzone := zoneOf_of_zones_eq (congrArg Capturing.zones hcap)
  refine ⟨t, q, hexec, hans, hlen, ?_, fun i v hitem hst => ⟨?_, ?_⟩, fun y hy => ?_⟩
  · rw [hzone, zoneOf_modZone_same]
    rfl
  · rw [getP, hparams]
    exact getP_definitionInForce (s := accept s r 0x0401) hitem hst
  · rw [stagedOf, hstaged]
    exact stagedOf_definitionInForce (accept s r 0x0401) hitem
  · rw [hzone, zoneOf_modZone_ne _ _ hy, zoneOf_definitionInForce_ne _ hy]
    rfl

theorem zoneDefine_releases (h : zoneReleases (accept s r 0x0401) z = true) :
    ∃ t, exec (.zoneDefine r z) s = .next t ∧ answered t r.slot (okWith (zeros 16)) ∧
      zoneOf t z = { zoneBlank z with dets := [0, 1, 2, 3].map (fun d => detKept (nth detNone (zoneOf s z).dets d)) } ∧
      ∀ y, y ≠ z → zoneOf t y = zoneOf s y := by
  obtain ⟨t, hexec, hans, hcap, -, -⟩ := answered_of_body (c := .zoneDefine r z) rfl hopen (bodyZoneDefine_releases hz h)
    (by rw [modZone_col, definitionInForce_col, accept_col, snags_of_mailboxOpen hopen])
  have hzone := zoneOf_of_zones_eq (congrArg Capturing.zones hcap)
  refine ⟨t, hexec, hans, ?_, fun y hy => ?_⟩
  · rw [hzone, zoneOf_modZone_same, releasedZone, dets_definitionInForce]
    rfl
  · rw [hzone, zoneOf_modZone_ne _ _ hy, zoneOf_definitionInForce_ne _ hy]
    rfl

theorem zoneDefine_redefines (h : zoneRedefines (accept s r 0x0401) z = true) :
    ∃ t q, exec (.zoneDefine r z) s = .next t ∧ answered t r.slot (okWith q) ∧ q.length = 16 ∧ (zoneOf t z).st = .enabled ∧
      ((portOf s (zport (zview s z))).st = .running → (zoneOf t z).pendingDef = true ∧
        zoneOf t z = { zoneOf s z with next := (zoneOf t z).next, pendingDef := true }) ∧
      ((portOf s (zport (zview s z))).st ≠ .running → (zoneOf t z).pendingDef = false ∧ (zoneOf t z).resetDue = true) ∧
      ∀ y, y ≠ z → zoneOf t y = zoneOf s y := by
  have hen : (zoneOf s z).st = .enabled := by
    simp only [zoneRedefines, Bool.and_eq_true] at h
    obtain ⟨⟨⟨⟨-, hen⟩, -⟩, -⟩, -⟩ := h
    exact of_decide_eq_true hen
  obtain ⟨q, hbody, hlen⟩ := bodyZoneDefine_redefines hz h
  rw [portOf_accept, zport_zview_accept] at hbody
  have hwaits := zoneOf_definitionWaits_same (accept s r 0x0401) z
  rw [zoneOf_accept] at hwaits
  have hothers (y : Nat) (hy : y ≠ z) : zoneOf (definitionWaits (accept s r 0x0401) z) y = zoneOf s y :=
    zoneOf_definitionWaits_ne (accept s r 0x0401) hy
  have hsnags : (definitionWaits (accept s r 0x0401) z).col.snags = [] := by
    rw [definitionWaits_col, accept_col, snags_of_mailboxOpen hopen]
  by_cases hrun : (portOf s (zport (zview s z))).st = .running
  · rw [if_pos hrun] at hbody
    obtain ⟨t, hexec, hans, hcap, -, -⟩ := answered_of_body (c := .zoneDefine r z) rfl hopen hbody hsnags
    have hzone := zoneOf_of_zones_eq (congrArg Capturing.zones hcap)
    refine ⟨t, q, hexec, hans, hlen, ?_, fun _ => ?_, fun hnot => absurd hrun hnot, fun y hy => (hzone y).trans (hothers y hy)⟩
    · rw [hzone, hwaits]
      exact hen
    · rw [hzone, hwaits]
      exact ⟨rfl, rfl⟩
  · rw [if_neg hrun] at hbody
    obtain ⟨t, hexec, hans, hcap, -, -⟩ := answered_of_body (c := .zoneDefine r z) rfl hopen hbody
      ((zoneSwitch_snags _ z).trans hsnags)
    have hzone := zoneOf_of_zones_eq (congrArg Capturing.zones hcap)
    obtain ⟨hst, hdef, hreset⟩ := zoneOf_zoneSwitch_same (definitionWaits (accept s r 0x0401) z) z
    refine ⟨t, q, hexec, hans, hlen, ?_, fun h => absurd h hrun, fun _ => ?_, fun y hy => ?_⟩
    · rw [hzone, hst, hwaits]
      exact hen
    · rw [hzone]
      exact ⟨hdef, hreset⟩
    · rw [hzone, zoneOf_zoneSwitch_ne _ hy, hothers y hy]

/-! ### ZONE_ENABLE and ZONE_DISABLE (06 R131) -/

theorem zoneEnable_enables (h : (zoneOf s z).st = .defined) :
    ∃ s', Answers (.zoneEnable r z) r.slot s s' okBare ∧ s' = { s with cap := s'.cap, loops := s'.loops } ∧
      (zoneOf s' z).st = .enabled ∧ (zoneOf s' z).resetDue = true ∧ (zoneOf s' z).inq = [] ∧
      ∀ y, y ≠ z → zoneOf s' y = zoneOf s y := by
  obtain ⟨hst, -, hreset, hinq⟩ := zoneOf_zoneBuild_same (modZone (accept s r 0x0402) z becomesEnabled) z
  refine ⟨{ s with cap := (zoneStarts (accept s r 0x0402) z).cap, loops := (loopsWatch (zoneStarts (accept s r 0x0402) z)).loops },
    ?_, rfl, ?_, hreset, hinq, fun y hy => ?_⟩
  · exact answers_of_body (accept s r 0x0402).params rfl hopen (by simp) (bodyZoneEnable_defined hz h) (accept_params s r _) rfl
      (snags_of_mailboxOpen hopen)
  · exact hst.trans (by rw [zoneOf_modZone_same]; rfl)
  · exact (zoneOf_zoneBuild_ne _ hy).trans (zoneOf_modZone_ne _ _ hy)

theorem zoneEnable_refuses (h : (zoneOf s z).st ≠ .defined) : Answers (.zoneEnable r z) r.slot s s (badState 0 z) := by
  have hst : (zoneOf (accept s r 0x0402) z).st ≠ .defined := h
  exact answers_of_refusal (body := bodyZoneEnable z) rfl hopen (by rw [bodyZoneEnable, if_neg (Nat.not_lt.mpr hz), if_pos hst])

theorem zoneDisable_disables (hen : zoneEnabled s z = true) (hdef : (zoneOf s z).pendingDef = false) :
    ∃ t, exec (.zoneDisable r z) s = .next t ∧ answered t r.slot okBare ∧ (zoneOf t z).st = .defined ∧ (zoneOf t z).inq = [] ∧
      (zoneOf t z).frame.rows = [] ∧ ∀ y, y ≠ z → zoneOf t y = zoneOf s y := by
  have hbody := bodyZoneDisable_enabled (s := accept s r 0x0403) hz hen hdef
  have hplan := zoneStops_planKept (accept s r 0x0403) z
  obtain ⟨t, hexec, hans, hcap, -, -⟩ := answered_of_body (c := .zoneDisable r z) rfl hopen hbody
    (by rw [hplan.snags, accept_col, snags_of_mailboxOpen hopen])
  obtain ⟨f, hzone, hrows⟩ := zoneOf_zoneStops_same (accept s r 0x0403) z
  have ht := zoneOf_of_zones_eq (congrArg Capturing.zones hcap)
  refine ⟨t, hexec, hans, ?_, ?_, ?_, fun y hy => (ht y).trans (zoneOf_zoneStops_ne (accept s r 0x0403) hy)⟩ <;> rw [ht, hzone]
  · rfl
  · rfl
  · exact hrows

end Define

/-! ### ZONE_SYNC (06 R143) -/

/-- A zone with a reset due at once (0) or at a time. -/
def syncs (at_ : Nat) (x : Zone) : Zone :=
  { x with resetDue := decide (at_ = 0), syncAt := if at_ = 0 then none else some (ts72 at_ 0) }

/-- The zones of a mask. -/
def maskZones (mask : Nat) : List Nat := (List.range 128).filter (fun z => mask.testBit z)

theorem mem_maskZones {mask z : Nat} : z ∈ maskZones mask ↔ z < 128 ∧ mask.testBit z = true := by simp [maskZones]

/-- The state in which every zone of a mask has its reset due. -/
def zonesSync (s : State) (mask at_ : Nat) : State := (maskZones mask).foldl (fun s z => modZone s z (syncs at_)) s

theorem bodyZoneSync_syncs {s : State} {mask at_ : Nat} (hat : at_ = 0 ∨ s.time.ticks ≤ at_)
    (hzones : ∀ z, z < 128 → mask.testBit z = true → zoneEnabled s z = true ∧ (zoneOf s z).pendingDef = false) :
    bodyZoneSync mask at_ s = (zonesSync s mask at_, .final okBare) := by
  have hlate : ¬ (at_ ≠ 0 ∧ at_ < s.time.ticks) := by omega
  have hen : (maskZones mask).find? (fun z => !zoneEnabled s z) = none := by
    rw [List.find?_eq_none]
    intro z hz
    obtain ⟨hlt, hbit⟩ := mem_maskZones.mp hz
    simp [(hzones z hlt hbit).1]
  have hdef : (maskZones mask).find? (fun z => (zoneOf s z).pendingDef) = none := by
    rw [List.find?_eq_none]
    intro z hz
    obtain ⟨hlt, hbit⟩ := mem_maskZones.mp hz
    simp [(hzones z hlt hbit).2]
  rw [maskZones] at hen hdef
  simp only [bodyZoneSync, hlate, if_false, hen, hdef]
  rfl

theorem zoneSync_syncs {r : Req} {mask at_ : Nat} {s : State} (hopen : mailboxOpen s r.slot = true)
    (hat : at_ = 0 ∨ s.time.ticks ≤ at_)
    (hzones : ∀ z, z < 128 → mask.testBit z = true → zoneEnabled s z = true ∧ (zoneOf s z).pendingDef = false) :
    ∃ s', Answers (.zoneSync r mask at_) r.slot s s' okBare ∧ s' = { s with cap := { s.cap with zones := s'.cap.zones } } ∧
      ∀ z, zoneOf s' z = if z < 128 ∧ mask.testBit z = true then syncs at_ (zoneOf s z) else zoneOf s z := by
  have hbody := bodyZoneSync_syncs (s := accept s r 0x0404) hat hzones
  have hrest : zonesSync (accept s r 0x0404) mask at_ = { accept s r 0x0404 with
      cap := { s.cap with zones := (zonesSync (accept s r 0x0404) mask at_).cap.zones } } := foldl_modZone_eq (syncs at_) _ _
  rw [hrest] at hbody
  refine ⟨{ s with cap := { s.cap with zones := (zonesSync (accept s r 0x0404) mask at_).cap.zones } }, ?_, rfl, fun z => ?_⟩
  · exact answers_of_body (accept s r 0x0404).params rfl hopen (by simp) hbody (accept_params s r _) rfl (snags_of_mailboxOpen hopen)
  · have hzone := zoneOf_foldl_modZone (syncs at_) (zs := maskZones mask) (List.nodup_range.filter _) (accept s r 0x0404) z
    simp only [mem_maskZones, zoneOf_accept] at hzone
    exact hzone

theorem zoneSync_refuses {r : Req} {mask at_ : Nat} {s : State} (hopen : mailboxOpen s r.slot = true) (h0 : at_ ≠ 0)
    (hpast : at_ < s.time.ticks) : Answers (.zoneSync r mask at_) r.slot s s (badField 128) := by
  have hlate : at_ ≠ 0 ∧ at_ < (accept s r 0x0404).time.ticks := ⟨h0, hpast⟩
  exact answers_of_refusal (body := bodyZoneSync mask at_) rfl hopen (by rw [bodyZoneSync, if_pos hlate])

/-! ### ZONE_FREEZE_DC (06 R140) -/

/-- A zone with its freeze set or cleared, and no definition waiting. -/
def freezes (f : Nat) (x : Zone) : Zone := { x with frozen := decide (f = 1), nextFrozen := none }

theorem zoneFreezeDc_freezes {r : Req} {z f : Nat} {s : State} (hopen : mailboxOpen s r.slot = true) (hz : z ≤ 127) (hf : f ≤ 1)
    (hst : (zoneOf s z).st ≠ .undefined) (hdef : (zoneOf s z).pendingDef = false) :
    Answers (.zoneFreezeDc r z f) r.slot s (modZone s z (freezes f)) okBare := by
  have hbody : bodyZoneFreezeDc z f (accept s r 0x0405) = (modZone (accept s r 0x0405) z (freezes f), .final okBare) := by
    simp [bodyZoneFreezeDc, Nat.not_lt.mpr hz, Nat.not_lt.mpr hf, hst, modZone, hdef, freezes]
  exact answers_of_body (accept s r 0x0405).params rfl hopen (by simp) hbody (accept_params s r _) rfl (snags_of_mailboxOpen hopen)

/-! ### No zone above 127 -/

theorem no_zone_above_127 {r : Req} {z f : Nat} {s : State} (hopen : mailboxOpen s r.slot = true) (hz : 127 < z) :
    Answers (.zoneDefine r z) r.slot s s (badField 0) ∧ Answers (.zoneEnable r z) r.slot s s (badField 0) ∧
      Answers (.zoneDisable r z) r.slot s s (badField 0) ∧ Answers (.zoneFreezeDc r z f) r.slot s s (badField 0) :=
  ⟨answers_of_refusal (body := bodyZoneDefine z) rfl hopen (if_pos hz),
    answers_of_refusal (body := bodyZoneEnable z) rfl hopen (if_pos hz),
    answers_of_refusal (body := bodyZoneDisable z) rfl hopen (if_pos hz),
    answers_of_refusal (body := bodyZoneFreezeDc z f) rfl hopen (if_pos hz)⟩

/-- Settles O16, each clause by what its command does to the one zone: what a definition, a closing frame or a stop does besides leaves the
other zones' records alone. -/
theorem zoneCommands : Obligations.ZoneCommands := by
  unfold Obligations.ZoneCommands
  refine ⟨fun r z s hopen hz h => ?_, fun r z s hopen hz => zoneDefine_releases hopen hz,
    fun r z s hopen hz => zoneDefine_redefines hopen hz,
    fun r z s hopen hz => ⟨zoneEnable_enables hopen hz, zoneEnable_refuses hopen hz⟩,
    fun r z s hopen hz => zoneDisable_disables hopen hz,
    fun r mask at_ s hopen => ⟨zoneSync_syncs hopen, zoneSync_refuses hopen⟩, fun r z f s hopen hz hf hst hdef => ?_,
    fun r z f s hopen hz => no_zone_above_127 hopen hz⟩
  · obtain ⟨t, q, hexec, hans, hlen, hst, hitems, hothers⟩ := zoneDefine_admits hopen hz h
    exact ⟨t, q, hexec, hans, hlen, hst, fun i v _ _ _ _ _ => hitems i v, hothers⟩
  · exact ⟨_, zoneFreezeDc_freezes hopen hz hf hst hdef, rfl, zoneOf_modZone_same s z _, fun y hy => zoneOf_modZone_ne s _ hy⟩

end Sys2Proof.Machine
end

section
/-! PROOFS. A skein's states (07_events_skeins.md): O19. -/

namespace Sys2Proof.Machine

/-! ### A skein's record -/

theorem skOf_setSk_same (s : State) (k : Nat) (x : Skein) : skOf (setSk s k x) k = x := kget_kput_same skeinBlank s.cap.skeins k x

theorem skOf_setSk_ne {k j : Nat} (s : State) (x : Skein) (h : j ≠ k) : skOf (setSk s k x) j = skOf s j :=
  kget_kput_ne skeinBlank s.cap.skeins x h.symm

theorem skOf_modSk_same (s : State) (k : Nat) (f : Skein → Skein) : skOf (modSk s k f) k = f (skOf s k) := skOf_setSk_same s k _

theorem skOf_modSk_ne {k j : Nat} (s : State) (f : Skein → Skein) (h : j ≠ k) : skOf (modSk s k f) j = skOf s j :=
  skOf_setSk_ne s _ h

theorem skOf_of_skeins_eq {s t : State} (h : t.cap.skeins = s.cap.skeins) (j : Nat) : skOf t j = skOf s j := by rw [skOf, h, skOf]

theorem skOf_accept (s : State) (r : Req) (op k : Nat) : skOf (accept s r op) k = skOf s k := rfl

/-- A final response, written or held, leaves captures and collector alone (15 R318). -/
theorem finish_cap_col (s : State) (n : Nat) (r : Reply) : (finish s n r).cap = s.cap ∧ (finish s n r).col = s.col := by
  unfold finish
  split
  · exact ⟨rfl, rfl⟩
  · rw [writeResponse_eq]
    exact ⟨rfl, rfl⟩

theorem complete_cap_col (s : State) (j : Job) (r : Reply) : (complete s j r).cap = s.cap ∧ (complete s j r).col = s.col := by
  unfold complete
  split
  · exact finish_cap_col s _ r
  · exact ⟨rfl, rfl⟩

/-! ### CAP_SKEIN_CREATE (07 R159 to R162, R166) -/

theorem skeinItem_objId {k i : Nat} (hk : k ≤ 31) (hi : i < 128) : skeinItem k (objId 5 k i) = true := by
  simp only [skeinItem, Bool.and_eq_true, decide_eq_true_eq]
  unfold objDom objInst objItem objId
  omega

theorem putItems_params (s : State) (vals : List (Nat × Int)) :
    (putItems s vals).params = vals.foldl (fun m q => kput paramReset m q.1 q.2) s.params := by
  induction vals generalizing s with
  | nil => rfl
  | cons q vals ih => exact ih _

/-- Staged values are applied as the pairs that stand staged are written. -/
theorem applyStaged_params (s : State) (f : Nat → Bool) : (applyStaged s f).params = (putItems s (stagedPairs s f)).params := by
  rw [putItems_params, stagedPairs, List.foldl_filterMap]
  show List.foldl _ _ _ = List.foldl _ _ _
  congr 1
  funext m q
  cases stagedOf s q.1 <;> rfl

/-- A staged value that is applied is the item's value, and is no longer staged (15 R325). -/
theorem applyStaged_applies {s : State} {f : Nat → Bool} {o : Nat} {v : Int} (hf : f o = true) (h : stagedOf s o = some v) :
    kget paramReset (applyStaged s f).params o = v ∧ stagedOf (applyStaged s f) o = none := by
  rw [applyStaged_params]
  exact ⟨kget_putItems s (stagedPairs_value h) (.inl (mem_stagedPairs hf h)), stagedOf_takeStaged s hf⟩

theorem applyStaged_col (s : State) (f : Nat → Bool) : (applyStaged s f).col = s.col := rfl

theorem skOf_applyStaged (s : State) (f : Nat → Bool) (k : Nat) : skOf (applyStaged s f) k = skOf s k := rfl

theorem skstaged_accept (s : State) (r : Req) (op k : Nat) : skstaged (accept s r op) k = skstaged s k := by
  funext i
  simp [skstaged, planP, getP_accept]

/-- HANK_BYTES and SEG_RATE of a definition, as CAP_SKEIN_CREATE answers them (07 R162). -/
def createPayload (s : State) (z : ZView) (v : SView) : List Byte :=
  leBytes 8 (hankBytes (skPlan s v) z v) ++ leBytes 4 (segRateKb s v)

theorem createPayload_length (s : State) (z : ZView) (v : SView) : (createPayload s z v).length = 12 := by
  simp [createPayload, leBytes_length]

/-- A definition that passes makes the skein IDLE, of a new record. -/
theorem bodyCapSkeinCreate_admits {s : State} {k : Nat} (hk : k ≤ 31) (h : skeinAdmits s k = true) :
    ∃ q, bodyCapSkeinCreate k s = (setSk (applyStaged s (skeinItem k)) k { skeinBlank k with st := .idle }, .final (okWith q)) ∧
      q.length = 12 := by
  simp only [skeinAdmits, Bool.and_eq_true, decide_eq_true_eq, Option.isNone_iff_eq_none, Bool.not_eq_true', Bool.or_eq_true,
    decide_eq_false_iff_not] at h
  obtain ⟨⟨⟨⟨⟨hkind, hitems⟩, hst⟩, hpin⟩, hrate⟩, hspace⟩ := h
  have hstate : ((skOf s k).st ≠ .idle && (skOf s k).st ≠ .undefined) = false := by
    rcases hst with hst | hst <;> rw [hst] <;> rfl
  refine ⟨createPayload (applyStaged s (skeinItem k)) (zview s (sn (skstaged s k) kSOURCE_ZONE)) (skstaged s k), ?_,
    createPayload_length _ _ _⟩
  simp only [bodyCapSkeinCreate, Nat.not_lt.mpr hk, hkind, if_false, hitems, hstate, hpin, hrate, hspace, Bool.false_eq_true,
    createPayload]

/-- SOURCE_KIND NONE releases an IDLE skein. -/
theorem bodyCapSkeinCreate_releases {s : State} {k : Nat} (hk : k ≤ 31) (hkind : sn (skstaged s k) kSOURCE_KIND = 15)
    (hst : (skOf s k).st = .idle) :
    bodyCapSkeinCreate k s = (setSk (applyStaged s (skeinItem k)) k (skeinBlank k), .final (okWith (zeros 12))) := by
  simp only [bodyCapSkeinCreate, Nat.not_lt.mpr hk, if_false, hkind, if_true, hst, ne_eq, not_true_eq_false]

section Create
variable {r : Req} {k : Nat} {s : State} (hopen : mailboxOpen s r.slot = true) (hk : k ≤ 31)
include hopen hk

theorem capSkeinCreate_admits (h : skeinAdmits (accept s r 0x0501) k = true) :
    ∃ t q, exec (.capSkeinCreate r k) s = .next t ∧ answered t r.slot (okWith q) ∧ q.length = 12 ∧
      skOf t k = { skeinBlank k with st := .idle } ∧
      (∀ i v, i < 128 → stagedOf s (objId 5 k i) = some v → getP t 5 k i = v ∧ stagedOf t (objId 5 k i) = none) ∧
      ∀ j, j ≠ k → skOf t j = skOf s j := by
  obtain ⟨q, hbody, hlen⟩ := bodyCapSkeinCreate_admits hk h
  obtain ⟨t, hexec, hans, hcap, hparams, hstaged⟩ := answered_of_body (c := .capSkeinCreate r k) rfl hopen hbody
    (by rw [setSk_col, applyStaged_col, accept_col, snags_of_mailboxOpen hopen])
  have hsk := skOf_of_skeins_eq (congrArg Capturing.skeins hcap)
  refine ⟨t, q, hexec, hans, hlen, (hsk k).trans (skOf_setSk_same _ k _), fun i v hi hst => ?_,
    fun j hj => by rw [hsk, skOf_setSk_ne _ _ hj, skOf_applyStaged, skOf_accept]⟩
  rw [getP, hparams, stagedOf, hstaged]
  exact applyStaged_applies (s := accept s r 0x0501) (skeinItem_objId hk hi) hst

theorem capSkeinCreate_releases (hkind : sn (skstaged s k) kSOURCE_KIND = 15) (hst : (skOf s k).st = .idle) :
    ∃ t, exec (.capSkeinCreate r k) s = .next t ∧ answered t r.slot (okWith (zeros 12)) ∧ skOf t k = skeinBlank k ∧
      ∀ j, j ≠ k → skOf t j = skOf s j := by
  have hbody := bodyCapSkeinCreate_releases (s := accept s r 0x0501) hk (by rw [skstaged_accept, hkind]) hst
  obtain ⟨t, hexec, hans, hcap, -, -⟩ := answered_of_body (c := .capSkeinCreate r k) rfl hopen hbody
    (by rw [setSk_col, applyStaged_col, accept_col, snags_of_mailboxOpen hopen])
  have hsk := skOf_of_skeins_eq (congrArg Capturing.skeins hcap)
  exact ⟨t, hexec, hans, (hsk k).trans (skOf_setSk_same _ k _),
    fun j hj => by rw [hsk, skOf_setSk_ne _ _ hj, skOf_applyStaged, skOf_accept]⟩

end Create

/-! ### CAP_ARM (07 R163, R164, R166) -/

/-- A skein armed at the present time of a state, with empty rings. -/
def armsFrom (s : State) (x : Skein) : Skein :=
  { x with st := .armed, rows := [], launches := [], marks := [], cap := none, armedAt := nowClk s, armedTick := s.time.ticks
           truncated := false, gap := false, holes := [], lost := [] }

theorem bodyCapArm_arms {s : State} {k : Nat} (hk : k ≤ 31) (h : skeinArms s k = true) :
    bodyCapArm k s = (modSk s k (armsFrom s), .final okBare) := by
  simp only [skeinArms, Bool.and_eq_true, decide_eq_true_eq, Option.isNone_iff_eq_none, Bool.not_eq_true', Bool.or_eq_true,
    decide_eq_false_iff_not] at h
  obtain ⟨⟨⟨hzone, hst⟩, hraw⟩, hdram⟩ := h
  have hfault : (if skDefined s k && !skRaw (skview s k) then zoneSkeinFault s (skview s k) else none) = none := by
    rcases hzone with hzone | hzone <;> simp [hzone]
  simp only [bodyCapArm, Nat.not_lt.mpr hk, if_false, hfault, hst, hraw, hdram, ne_eq, not_true_eq_false]
  rfl

theorem capArm_arms {r : Req} {k : Nat} {s : State} (hopen : mailboxOpen s r.slot = true) (hk : k ≤ 31)
    (h : skeinArms (accept s r 0x0502) k = true) : Answers (.capArm r k) r.slot s (modSk s k (armsFrom s)) okBare :=
  answers_of_body (accept s r 0x0502).params rfl hopen (by simp) (bodyCapArm_arms hk h) (accept_params s r _) rfl
    (snags_of_mailboxOpen hopen)

/-! ### A condition opens a capture (07 R167, R170) -/

/-- A pulse touches the TRIGOUT pins only. -/
theorem pulseTrigOut_eq (s : State) (k rise : Nat) : pulseTrigOut s k rise =
    { s with cap := { s.cap with trigOut := (pulseTrigOut s k rise).cap.trigOut } } := by
  unfold pulseTrigOut
  dsimp only
  split <;> rfl

theorem pulseTrigOut_skeins (s : State) (k rise : Nat) : (pulseTrigOut s k rise).cap.skeins = s.cap.skeins := by
  rw [pulseTrigOut_eq]

theorem openCapture_eq (s : State) (k t mask rise : Nat) :
    openCapture s k t mask rise = { s with cap := (openCapture s k t mask rise).cap } := by
  unfold openCapture
  dsimp only
  rw [pulseTrigOut_eq]
  rfl

/-- The skein captures, on the one condition of the present tick; a CAP_FORCE that waits goes on waiting. -/
theorem skOf_openCapture_same (s : State) (k t mask rise : Nat) :
    (skOf (openCapture s k t mask rise) k).st = .capturing ∧ (skOf (openCapture s k t mask rise) k).forceAt = (skOf s k).forceAt ∧
      ∃ c, (skOf (openCapture s k t mask rise) k).cap = some c ∧ c.conds = [⟨t, mask, s.time.ticks⟩] := by
  unfold openCapture
  dsimp only
  rw [skOf_of_skeins_eq (pulseTrigOut_skeins _ k rise), skOf_modSk_same]
  refine ⟨rfl, ?_, _, rfl, rfl⟩
  split <;> rfl

theorem skOf_openCapture_ne {k j : Nat} (s : State) (t mask rise : Nat) (h : j ≠ k) :
    skOf (openCapture s k t mask rise) j = skOf s j := by
  unfold openCapture
  dsimp only
  rw [skOf_of_skeins_eq (pulseTrigOut_skeins _ k rise), skOf_modSk_ne _ _ h]

theorem skeinCondition_of_armed {s : State} {k : Nat} (t mask rise : Nat) (h : (skOf s k).st = .armed) :
    skeinCondition s k t mask rise = openCapture s k t mask rise := by
  simp only [skeinCondition, h]

/-! ### CAP_FORCE (07 R158) -/

/-- A CAP_FORCE that waits for its AT. -/
def waitsFor (at_ : Nat) (x : Skein) : Skein := { x with forceAt := some at_ }

/-- A CAP_FORCE no longer waits. -/
def waitsNoMore (x : Skein) : Skein := { x with forceAt := none }

section Force
variable {r : Req} {k : Nat} {s : State} (hk : k ≤ 31) (hpair : pairOn s = false) (hforce : (skOf s k).forceAt = none)
  (hsoft : sn (skview s k) kSOFT_ENABLE ≠ 0)
include hk hpair hforce hsoft

/-- Without AT the condition comes at once; with one it waits. -/
theorem bodyCapForce_takes {at_ : Nat} (hruns : skRuns s k = true) (hat : at_ = 0 ∨ s.time.ticks ≤ at_) :
    bodyCapForce k at_ s = if at_ = 0 then (skeinCondition s k (nowTs s) 256 (nowTs s), .final okBare)
      else (modSk s k (waitsFor at_), .later (.capForce k)) := by
  have hlate : ¬ (at_ ≠ 0 ∧ at_ < s.time.ticks) := by omega
  have hactive : standbyRefuses s 0x0504 = false := by simp [standbyRefuses, hpair]
  simp only [bodyCapForce, Nat.not_lt.mpr hk, if_false, hlate, hactive, hforce, hruns, hsoft, Option.isSome_none, Bool.not_true,
    Bool.false_eq_true]
  rfl

variable (hopen : mailboxOpen s r.slot = true)
include hopen

theorem capForce_opens (hst : (skOf s k).st = .armed) :
    ∃ s', Answers (.capForce r k 0) r.slot s s' okBare ∧ s' = { s with cap := s'.cap } ∧ (skOf s' k).st = .capturing ∧
      (∃ c, (skOf s' k).cap = some c ∧ c.conds = [⟨nowTs s, 256, s.time.ticks⟩]) ∧ ∀ j, j ≠ k → skOf s' j = skOf s j := by
  have hruns : skRuns s k = true := by simp [skRuns, hst]
  have hbody := bodyCapForce_takes (s := accept s r 0x0504) (at_ := 0) hk (by simpa [pairOn, getP_accept] using hpair) hforce
    (by rwa [skview_accept]) hruns (.inl rfl)
  rw [if_pos rfl, skeinCondition_of_armed (s := accept s r 0x0504) _ _ _ hst, openCapture_eq] at hbody
  obtain ⟨hcapturing, -, hconds⟩ := skOf_openCapture_same (accept s r 0x0504) k (nowTs s) 256 (nowTs s)
  exact ⟨{ s with cap := (openCapture (accept s r 0x0504) k (nowTs s) 256 (nowTs s)).cap },
    answers_of_body (accept s r 0x0504).params rfl hopen (by simp) hbody (accept_params s r _) rfl (snags_of_mailboxOpen hopen),
    rfl, hcapturing, hconds, fun j hj => skOf_openCapture_ne (accept s r 0x0504) _ _ _ hj⟩

theorem capForce_waits {at_ : Nat} (hruns : skRuns s k = true) (h0 : at_ ≠ 0) (hat : s.time.ticks ≤ at_) :
    Defers (.capForce r k at_) r.slot s (modSk s k (waitsFor at_)) (.capForce k) := by
  have hbody := bodyCapForce_takes (s := accept s r 0x0504) hk (by simpa [pairOn, getP_accept] using hpair) hforce
    (by rwa [skview_accept]) hruns (.inr hat)
  rw [if_neg h0] at hbody
  exact defers_of_body (accept s r 0x0504).params rfl hopen (by simp) hbody (accept_params s r _) rfl

end Force

theorem capForceAtReached_opens {k q : Nat} {s : State} (hforce : (skOf s k).forceAt = some q) (hq : q ≤ s.time.ticks)
    (hst : (skOf s k).st = .armed) :
    ∃ t, exec (.capForceAtReached k) s = .next t ∧ (skOf t k).st = .capturing ∧ (skOf t k).forceAt = none ∧
      (∃ c, (skOf t k).cap = some c ∧ c.conds = [⟨ts72 q 0, 256, s.time.ticks⟩]) ∧ ∀ j, j ≠ k → skOf t j = skOf s j := by
  have harmed : (skOf (modSk s k waitsNoMore) k).st = .armed := by rw [skOf_modSk_same]; exact hst
  have hexec : exec (.capForceAtReached k) s =
      .next (complete (openCapture (modSk s k waitsNoMore) k (ts72 q 0) 256 (ts72 q 0)) (.capForce k) okBare) := by
    rw [← skeinCondition_of_armed _ _ _ harmed]
    show execCapForceAtReached k s = _
    simp only [execCapForceAtReached, hforce, hq, if_true]
    rfl
  have hsk := skOf_of_skeins_eq (congrArg Capturing.skeins
    (complete_cap_col (openCapture (modSk s k waitsNoMore) k (ts72 q 0) 256 (ts72 q 0)) (.capForce k) okBare).1)
  obtain ⟨hcapturing, hwaits, hconds⟩ := skOf_openCapture_same (modSk s k waitsNoMore) k (ts72 q 0) 256 (ts72 q 0)
  refine ⟨_, hexec, ?_, ?_, ?_, fun j hj => ?_⟩
  · rw [hsk]; exact hcapturing
  · rw [hsk, hwaits, skOf_modSk_same]; rfl
  · rw [hsk]; exact hconds
  · rw [hsk, skOf_openCapture_ne _ _ _ _ hj, skOf_modSk_ne _ _ hj]

/-! ### A capture ends with CAP_DISARM (07 R166, R169) -/

/-- A hank written is the next one of its skein and closes the capture; beside it only the collector is touched (07 R165). -/
theorem writeHank_writes {s : State} {k : Nat} {c : Capture} (truncated : Bool) (h : (skOf s k).cap = some c) :
    ∃ u hank lost, OnlyCollector s u ∧ hank.seq = (skOf s k).seqNext ∧ writeHank s k truncated = setSk u k { skOf s k with
      cap := none, hanks := (skOf s k).hanks ++ [hank], seqNext := ((skOf s k).seqNext + 1) % 2 ^ 32, incapLost := lost } := by
  simp only [writeHank, h]
  exact ⟨_, _, _, .ite (.refl s) (clearLive_onlyCollector s 68), rfl, rfl⟩

/-- The conditions of a capture that did not come in a tick. -/
def condsBefore (now : Nat) (cs : List Cond) : List Cond := cs.filter (fun q => decide (q.at_ ≠ now))

/-- A skein's capture is dropped. -/
def dropsCapture (x : Skein) : Skein := { x with cap := none }

/-- A skein's capture is `c`. -/
def captures (c : Capture) (x : Skein) : Skein := { x with cap := some c }

/-- The state in which a skein's capture keeps the conditions that came before the present tick. -/
def captureCut (s : State) (k : Nat) (c : Capture) : State :=
  modSk s k (captures { c with conds := condsBefore s.time.ticks c.conds })

/-- A capture with a condition of an earlier tick closes as a hank. -/
theorem disarmCapture_writes {s : State} {k : Nat} {c : Capture} {q : Cond} (hq : q ∈ c.conds) (hat : q.at_ ≠ s.time.ticks) :
    ∃ hank, hank.seq = (skOf s k).seqNext ∧ (skOf (disarmCapture s k c) k).cap = none ∧
      (skOf (disarmCapture s k c) k).hanks = (skOf s k).hanks ++ [hank] ∧ (∀ j, j ≠ k → skOf (disarmCapture s k c) j = skOf s j) ∧
      (disarmCapture s k c).col.snags = s.col.snags := by
  have hmem : q ∈ condsBefore s.time.ticks c.conds := List.mem_filter.mpr ⟨hq, decide_eq_true hat⟩
  have hsome : (condsBefore s.time.ticks c.conds).isEmpty = false := List.isEmpty_eq_false_iff.mpr (List.ne_nil_of_mem hmem)
  have hcut : skOf (captureCut s k c) k = captures { c with conds := condsBefore s.time.ticks c.conds } (skOf s k) :=
    skOf_modSk_same s k _
  have hdisarm : disarmCapture s k c = writeHank (captureCut s k c) k true := by
    rw [condsBefore] at hsome
    simp only [disarmCapture, hsome, Bool.false_eq_true, if_false]
    rfl
  obtain ⟨u, hank, lost, hu, hseq, hwrite⟩ := writeHank_writes true (congrArg Skein.cap hcut)
  rw [hcut] at hseq hwrite
  rw [hdisarm, hwrite, skOf_setSk_same]
  refine ⟨hank, hseq, rfl, rfl, fun j hj => ?_, hu.snags⟩
  rw [skOf_setSk_ne _ _ hj, skOf_of_skeins_eq (congrArg _ hu.cap), captureCut, skOf_modSk_ne _ _ hj]

/-- A capture that the tick itself opened leaves no hank. -/
theorem disarmCapture_drops {s : State} {k : Nat} {c : Capture} (hat : ∀ q ∈ c.conds, q.at_ = s.time.ticks) :
    (skOf (disarmCapture s k c) k).cap = none ∧ (skOf (disarmCapture s k c) k).hanks = (skOf s k).hanks ∧
      (∀ j, j ≠ k → skOf (disarmCapture s k c) j = skOf s j) ∧ (disarmCapture s k c).col.snags = s.col.snags := by
  have hnone : condsBefore s.time.ticks c.conds = [] := by simpa [condsBefore] using hat
  obtain ⟨hskeins, hcol⟩ : (disarmCapture s k c).cap.skeins = (modSk s k dropsCapture).cap.skeins ∧
      (disarmCapture s k c).col = s.col := by
    rw [condsBefore] at hnone
    simp only [disarmCapture, hnone, List.isEmpty_nil, if_true]
    split <;> exact ⟨rfl, rfl⟩
  have hsk := skOf_of_skeins_eq hskeins
  rw [hsk, skOf_modSk_same, hcol]
  exact ⟨rfl, rfl, fun j hj => by rw [hsk, skOf_modSk_ne _ _ hj], rfl⟩

/-- A skein that is stopped. -/
def stopsRunning (x : Skein) : Skein := { x with st := .idle, forceAt := none }

theorem skeinStops_cap_col (s : State) (k : Nat) :
    (skeinStops s k).cap = (modSk s k stopsRunning).cap ∧ (skeinStops s k).col = s.col := complete_cap_col _ _ _

/-- A CAP_DISARM that stops its skein from a state `u` has done so, whatever `u` is. -/
theorem capDisarm_stops {r : Req} {k : Nat} {s u : State} (hopen : mailboxOpen s r.slot = true)
    (hbody : bodyCapDisarm k (accept s r 0x0503) = (skeinStops u k, .final okBare)) (hsnags : u.col.snags = s.col.snags) :
    ∃ t, exec (.capDisarm r k) s = .next t ∧ answered t r.slot okBare ∧ skOf t k = stopsRunning (skOf u k) ∧
      ∀ j, j ≠ k → skOf t j = skOf u j := by
  obtain ⟨hcap, hcol⟩ := skeinStops_cap_col u k
  obtain ⟨t, hexec, hans, ht, -, -⟩ := answered_of_body (c := .capDisarm r k) rfl hopen hbody
    (by rw [hcol, hsnags, snags_of_mailboxOpen hopen])
  have hsk := skOf_of_skeins_eq (congrArg Capturing.skeins (ht.trans hcap))
  exact ⟨t, hexec, hans, (hsk k).trans (skOf_modSk_same u k _), fun j hj => (hsk j).trans (skOf_modSk_ne u _ hj)⟩

theorem bodyCapDisarm_armed {s : State} {k : Nat} (hk : k ≤ 31) (hst : (skOf s k).st = .armed) :
    bodyCapDisarm k s = (skeinStops s k, .final okBare) := by
  simp only [bodyCapDisarm, Nat.not_lt.mpr hk, if_false, hst]

theorem bodyCapDisarm_held {s : State} {k : Nat} (hk : k ≤ 31) (hst : (skOf s k).st = .held) :
    bodyCapDisarm k s = (skeinStops (setSk s k (disarmMissed (skOf s k) s.time.ticks)) k, .final okBare) := by
  simp only [bodyCapDisarm, Nat.not_lt.mpr hk, if_false, hst]

theorem bodyCapDisarm_capturing {s : State} {k : Nat} {c : Capture} (hk : k ≤ 31) (hst : (skOf s k).st = .capturing)
    (hcap : (skOf s k).cap = some c) : bodyCapDisarm k s = (skeinStops (disarmCapture s k c) k, .final okBare) := by
  simp only [bodyCapDisarm, Nat.not_lt.mpr hk, if_false, hst, hcap]

section Disarm
variable {r : Req} {k : Nat} {s : State} (hopen : mailboxOpen s r.slot = true) (hk : k ≤ 31)
include hopen hk

theorem capDisarm_armed (hst : (skOf s k).st = .armed) :
    ∃ t, exec (.capDisarm r k) s = .next t ∧ answered t r.slot okBare ∧ skOf t k = stopsRunning (skOf s k) ∧
      ∀ j, j ≠ k → skOf t j = skOf s j :=
  capDisarm_stops (u := accept s r 0x0503) hopen (bodyCapDisarm_armed (s := accept s r 0x0503) hk hst) rfl

theorem capDisarm_held (hst : (skOf s k).st = .held) :
    ∃ t, exec (.capDisarm r k) s = .next t ∧ answered t r.slot okBare ∧
      skOf t k = stopsRunning (disarmMissed (skOf s k) s.time.ticks) ∧ ∀ j, j ≠ k → skOf t j = skOf s j := by
  obtain ⟨t, hexec, hans, hskein, hothers⟩ := capDisarm_stops hopen (bodyCapDisarm_held (s := accept s r 0x0503) hk hst) rfl
  rw [skOf_setSk_same] at hskein
  exact ⟨t, hexec, hans, hskein, fun j hj => (hothers j hj).trans (skOf_setSk_ne _ _ hj)⟩

/-- A capture of an earlier tick becomes one more hank. -/
theorem capDisarm_capturing_before {c : Capture} {q : Cond} (hst : (skOf s k).st = .capturing) (hcap : (skOf s k).cap = some c)
    (hq : q ∈ c.conds) (hat : q.at_ ≠ s.time.ticks) :
    ∃ t h, exec (.capDisarm r k) s = .next t ∧ answered t r.slot okBare ∧ (skOf t k).st = .idle ∧ (skOf t k).cap = none ∧
      (skOf t k).hanks = (skOf s k).hanks ++ [h] ∧ h.seq = (skOf s k).seqNext ∧ ∀ j, j ≠ k → skOf t j = skOf s j := by
  obtain ⟨hank, hseq, hnone, hhanks, hothers, hsnags⟩ := disarmCapture_writes (s := accept s r 0x0503) (k := k) hq hat
  obtain ⟨t, hexec, hans, hskein, hrest⟩ := capDisarm_stops hopen (bodyCapDisarm_capturing hk hst hcap) hsnags
  refine ⟨t, hank, hexec, hans, ?_, ?_, ?_, hseq, fun j hj => (hrest j hj).trans (hothers j hj)⟩ <;> rw [hskein]
  · rfl
  · exact hnone
  · exact hhanks

/-- A capture that the tick itself opened leaves no hank. -/
theorem capDisarm_capturing_same_tick {c : Capture} (hst : (skOf s k).st = .capturing) (hcap : (skOf s k).cap = some c)
    (hat : ∀ q ∈ c.conds, q.at_ = s.time.ticks) :
    ∃ t, exec (.capDisarm r k) s = .next t ∧ answered t r.slot okBare ∧ (skOf t k).st = .idle ∧ (skOf t k).cap = none ∧
      (skOf t k).hanks = (skOf s k).hanks ∧ ∀ j, j ≠ k → skOf t j = skOf s j := by
  obtain ⟨hnone, hhanks, hothers, hsnags⟩ := disarmCapture_drops (s := accept s r 0x0503) (k := k) hat
  obtain ⟨t, hexec, hans, hskein, hrest⟩ := capDisarm_stops hopen (bodyCapDisarm_capturing hk hst hcap) hsnags
  refine ⟨t, hexec, hans, ?_, ?_, ?_, fun j hj => (hrest j hj).trans (hothers j hj)⟩ <;> rw [hskein]
  · rfl
  · exact hnone
  · exact hhanks

end Disarm

/-- Settles O19, each clause by what its command does to the one skein's record. A definition starts the record anew, so that a skein
created again holds no hanks (log 149); writing a hank beside that touches the collector alone, and so no other skein. -/
theorem skeinStates : Obligations.SkeinStates := by
  unfold Obligations.SkeinStates
  refine ⟨fun r k s hopen hk => capSkeinCreate_admits hopen hk, fun r k s hopen hk => capSkeinCreate_releases hopen hk,
    fun r k s hopen hk h => ?_, fun r k at_ s hopen hk hpair hforce hsoft => ⟨?_, fun hruns h0 hat => ?_⟩,
    fun k q s => capForceAtReached_opens, fun r k s hopen hk => ⟨capDisarm_armed hopen hk, capDisarm_held hopen hk,
      fun c q => capDisarm_capturing_before hopen hk, fun c => capDisarm_capturing_same_tick hopen hk⟩⟩
  · exact ⟨_, capArm_arms hopen hk h, rfl, skOf_modSk_same s k _, fun j hj => skOf_modSk_ne s _ hj⟩
  · rintro hst rfl
    exact capForce_opens hk hpair hforce hsoft hopen hst
  · exact ⟨_, capForce_waits hk hpair hforce hsoft hopen hruns h0 hat, rfl, skOf_modSk_same s k _, fun j hj => skOf_modSk_ne s _ hj⟩

end Sys2Proof.Machine
end

section
/-! PROOFS. One step of the block (00_scope.md; 08_timebase_tdc.md R174): O1. -/

namespace Sys2Proof.Machine

/-! ### What a step runs (log 116) -/

theorem step_of_pending (c : Instr) (cs : List Instr) (s : State) :
    step { s with pending := c :: cs } = exec c { s with pending := cs } := rfl

/-- With nothing queued and nothing held back a step is a tick. -/
theorem step_of_idle {s : State} (hpending : s.pending = []) (hheld : s.held = []) : step s = .next (tick s) := by
  have hnext : heldNext s = none := by simp [heldNext, hheld]
  simp only [step, hpending, hnext]

/-! ### A tick (08 R174) -/

theorem tick_of_unlocked {s : State} (h : s.boot.rootLocked = false) : tick s = s := by simp [tick, h]

theorem trainStarts_time (s : State) : (trainStarts s).time = s.time := by
  unfold trainStarts
  split <;> rfl

theorem pairRecover_time (s : State) : (pairRecover s).time = s.time := by
  unfold pairRecover
  split <;> rfl

/-- What else a tick lets go on leaves the timebase to `advanceTime`. -/
theorem tick_time {s : State} (hlocked : s.boot.rootLocked = true) (hbind : s.boot.bindOff = none) :
    (tick s).time = (advanceTime s).time := by
  have hcheck : bindOffCheck (advanceTime s) = advanceTime s := by simp [bindOffCheck, hbind]
  rw [tick, if_pos hlocked, pairRecover_time, trainStarts_time, hcheck]

/-- Settles O1, the queue by the definition of a step and the empty queue by what a tick does to the timebase. -/
theorem stepRunsFrontCommand : Obligations.StepRunsFrontCommand := by
  unfold Obligations.StepRunsFrontCommand
  refine ⟨step_of_pending, fun s hpending hheld => ⟨tick s, step_of_idle hpending hheld, tick_of_unlocked, fun hlocked hbind => ?_⟩⟩
  rw [tick_time hlocked hbind]
  exact ⟨rfl, rfl⟩

end Sys2Proof.Machine
end

section
/-! PROOFS. Edges at the TDC channels (08_timebase_tdc.md): O21. -/

namespace Sys2Proof.Machine

/-! ### A channel's record and items -/

@[simp] theorem tdcOf_setTdc_same (s : State) (c : Nat) (x : TdcChan) : tdcOf (setTdc s c x) c = x :=
  kget_kput_same tdcBlank s.time.tdc c x

theorem tdcOf_setTdc_ne {c d : Nat} (s : State) (x : TdcChan) (h : d ≠ c) : tdcOf (setTdc s c x) d = tdcOf s d :=
  kget_kput_ne tdcBlank s.time.tdc x h.symm

theorem tdcOf_of_time_eq {s t : State} (h : t.time = s.time) (c : Nat) : tdcOf t c = tdcOf s c := by rw [tdcOf, h, tdcOf]

@[simp] theorem getP_bumpP_same (s : State) (d i n : Nat) : getP (bumpP s d i n) d i n = inc32 (getP s d i n) :=
  getP_setP_same s d i n _

theorem getP_bumpP_ne {n m : Nat} (s : State) (d i : Nat) (h : m ≠ n) : getP (bumpP s d i n) d i m = getP s d i m := by
  rw [bumpP, getP_setP, if_neg fun e => h (objId_inj_item.mp e).symm]

/-- Counting leaves every other object alone. -/
theorem bumpP_itemsBut {os : List Nat} {d i n : Nat} (s : State) (h : objId d i n ∈ os) : itemsBut os s (bumpP s d i n) :=
  setP_itemsBut s _ h

/-! ### Which channel an edge reaches (08 R176, R179) -/

/-- GATE_A and GATE_B share channel 11; every other input has its own. -/
theorem tdcInput_by_gateSel (s : State) :
    (natP s 0x06 11 tTDC_GATE_SEL = 0 → tdcInput s 11 = some 11 ∧ tdcInput s 16 = none) ∧
      (natP s 0x06 11 tTDC_GATE_SEL = 1 → tdcInput s 11 = none ∧ tdcInput s 16 = some 11) ∧
      ∀ c, c < 16 → c ≠ 11 → tdcInput s c = some c := by
  refine ⟨fun h => ?_, fun h => ?_, fun c hc h11 => ?_⟩
  · simp [tdcInput, h]
  · simp [tdcInput, h]
  · have h16 : c ≠ 16 := by omega
    simp [tdcInput, h16, h11, hc]

/-- An edge of a selected polarity at the input of an enabled channel arrives at the channel. -/
theorem tdcEdge_arrives {i c want : Nat} {falling : Bool} {code : Option Nat} {s : State} (hinput : tdcInput s i = some c)
    (hlocked : s.boot.rootLocked = true) (hen : natP s 0x06 c tTDC_ENABLE = 1) (hsel : edgeSelected s c falling = true) :
    exec (.tdcEdge i falling want code) s = .next (edgeArrives s c falling want code) := by
  show execTdcEdge i falling want code s = _
  simp [execTdcEdge, hinput, hlocked, hen, hsel]

/-! ### What becomes of it (08 R179, R180, R182) -/

theorem any_lt_eq_false {o : Option Nat} {f : Nat → Nat} {n : Nat} (h : ∀ q, o = some q → f q ≤ n) :
    o.any (fun q => decide (n < f q)) = false := by
  cases o with
  | none => rfl
  | some q => simpa using h q rfl

section Arrives
variable {s : State} {c want : Nat} {falling : Bool} {code : Option Nat}
  (hsettled : ∀ q, (tdcOf s c).settleUntil = some q → q ≤ nowClk s) (hfore : (tdcOf s c).foreground = false)
  (hcores : coresOf s c % 16 ≠ 0)
include hsettled hfore hcores

theorem edgeArrives_accepts
    (hapart : ∀ q, (tdcOf s c).lastEdge = some q → q + 50 ≤ nowClk s ∧ q + natP s 0x06 c tTDC_HOLDOFF ≤ nowClk s) :
    edgeArrives s c falling want code = acceptEdge s c falling want code := by
  have hdead := any_lt_eq_false fun q hq => (hapart q hq).1
  have hhold := any_lt_eq_false fun q hq => (hapart q hq).2
  simp [edgeArrives, any_lt_eq_false hsettled, hfore, hcores, hdead, hhold]

theorem edgeArrives_heldOff {q : Nat} (hlast : (tdcOf s c).lastEdge = some q) (hdead : q + 50 ≤ nowClk s)
    (hhold : nowClk s < q + natP s 0x06 c tTDC_HOLDOFF) :
    edgeArrives s c falling want code = bumpP s 0x06 c tHOLDOFF_COUNT := by
  simp [edgeArrives, any_lt_eq_false hsettled, hfore, hcores, hlast, Nat.not_lt.mpr hdead, hhold]

end Arrives

/-- Settling, without a core or within the dead time an edge is lost. -/
theorem edgeArrives_loses {s : State} {c want : Nat} {falling : Bool} {code : Option Nat} (hfore : (tdcOf s c).foreground = false)
    (hlost : (∃ q, (tdcOf s c).settleUntil = some q ∧ nowClk s < q) ∨ coresOf s c % 16 = 0 ∨
      (∃ q, (tdcOf s c).lastEdge = some q ∧ nowClk s < q + 50)) :
    edgeArrives s c falling want code = loseEdge s c := by
  unfold edgeArrives
  rcases hlost with ⟨q, hq, hlt⟩ | hcores | ⟨q, hq, hlt⟩
  · simp [hq, hlt]
  · simp [hfore, hcores]
  · simp [hfore, hq, hlt]

/-! ### An edge that is accepted (08 R176, R177, R184) -/

/-- A channel that can measure hands the edge to a core in rotation. -/
theorem testBit_coreFor {mask : Nat} (want : Nat) (h : mask % 16 ≠ 0) : mask.testBit (coreFor mask want) = true := by
  obtain ⟨q, hq⟩ := Nat.exists_testBit_of_ne_zero h
  rw [show 16 = 2 ^ 4 from rfl, Nat.testBit_mod_two_pow, Bool.and_eq_true, decide_eq_true_eq] at hq
  unfold coreFor
  split
  · next hwant => exact (Bool.and_eq_true_iff.mp hwant).2
  · cases hfind : (List.range 4).find? (fun q => mask.testBit q) with
    | none => exact absurd hq.2 (List.find?_eq_none.mp hfind q (List.mem_range.mpr hq.1))
    | some r => exact List.find?_some hfind

/-- The state with an accepted edge counted (08 Table 08-4). -/
def countEdge (s : State) (c : Nat) (code : Option Nat) : State :=
  let s := bumpP s 0x06 c tEDGES_ACCEPTED
  if code.isNone then bumpP s 0x06 c tEDGES_OVFL else s

/-- A channel's record once an edge has been measured (08 R176, R179). -/
def edgeTaken (c now : Nat) (m : Meas) (x : TdcChan) : TdcChan :=
  { x with lastEdge := some now, seq := (x.seq + 1) % 2 ^ 32, meas := if measKept c then x.meas ++ [m] else x.meas }

/-- The state with a measured edge counted and left for the channel's users. -/
def takeEdge (s : State) (c : Nat) (code : Option Nat) (m : Meas) : State :=
  setTdc (countEdge s c code) c (edgeTaken c (nowClk s) m (tdcOf s c))

theorem countEdge_eq (s : State) (c : Nat) (code : Option Nat) :
    countEdge s c code = { s with params := (countEdge s c code).params } := by
  unfold countEdge
  cases code <;> rfl

theorem countEdge_time (s : State) (c : Nat) (code : Option Nat) : (countEdge s c code).time = s.time := by rw [countEdge_eq]

theorem getP_countEdge_accepted (s : State) (c : Nat) (code : Option Nat) :
    getP (countEdge s c code) 0x06 c tEDGES_ACCEPTED = inc32 (getP s 0x06 c tEDGES_ACCEPTED) := by
  cases code with
  | none => exact (getP_bumpP_ne _ 6 c (by decide)).trans (getP_bumpP_same s 6 c tEDGES_ACCEPTED)
  | some n => exact getP_bumpP_same s 6 c tEDGES_ACCEPTED

theorem itemsBut_countEdge (s : State) (c : Nat) (code : Option Nat) :
    itemsBut [objId 6 c tEDGES_ACCEPTED, objId 6 c tEDGES_OVFL] s (countEdge s c code) := by
  unfold countEdge
  dsimp only
  have hacc := bumpP_itemsBut s (List.mem_cons_self (a := objId 6 c tEDGES_ACCEPTED) (l := [objId 6 c tEDGES_OVFL]))
  exact itemsBut_ite (itemsBut_trans hacc (bumpP_itemsBut _ (.tail _ (.head _)))) hacc

/-- An accepted edge is measured in the scale in force after its step, counted, left for the users, and recorded. -/
theorem acceptEdge_eq (s : State) (c : Nat) (falling : Bool) (want : Nat) (code : Option Nat) :
    let core := coreFor (coresOf s c) want
    let p := edgeStep s c (edgeTs s c s.time.ticks (fineOf (tdcOf s c) core code))
    let m : Meas := ⟨p.2, core, code.isNone, falling, p.1.time.ticks⟩
    acceptEdge s c falling want code = logEdge (takeEdge p.1 c code m) c m := by
  intro core p m
  have htdc : tdcOf (countEdge p.1 c code) c = tdcOf p.1 c := tdcOf_of_time_eq (countEdge_time ..) c
  have hnow : nowClk (countEdge p.1 c code) = nowClk p.1 := congrArg Timing.sclk (countEdge_time ..)
  rw [takeEdge, ← htdc, ← hnow]
  rfl

/-- Without a step that waits at PPS_IN an edge is measured in the present scale. -/
theorem edgeStep_of_no_step {s : State} {c : Nat} (ts : Nat) (h : c = 6 → s.time.step = none) : edgeStep s c ts = (s, ts) := by
  unfold edgeStep
  split
  · next hstep => exact absurd (h rfl) (by rw [hstep]; simp)
  · rfl

theorem logEdge_of_unlogged {s : State} {c : Nat} (m : Meas) (h : natP s 0x06 c tTDC_LOG = 0) : logEdge s c m = s := by
  simp [logEdge, h]

theorem natP_takeEdge_log (s : State) (c : Nat) (code : Option Nat) (m : Meas) :
    natP (takeEdge s c code m) 0x06 c tTDC_LOG = natP s 0x06 c tTDC_LOG := by
  have hother : objId 6 c tTDC_LOG ∉ [objId 6 c tEDGES_ACCEPTED, objId 6 c tEDGES_OVFL] := by
    simp only [List.mem_cons, List.not_mem_nil, or_false, objId_inj_item]
    decide
  exact congrArg Int.toNat (itemsBut_countEdge s c code (objId 6 c tTDC_LOG) hother)

theorem takeEdge_rest (s : State) (c : Nat) (code : Option Nat) (m : Meas) :
    takeEdge s c code m = { s with
      params := (takeEdge s c code m).params, time := { s.time with tdc := (takeEdge s c code m).time.tdc } } := by
  unfold takeEdge
  rw [countEdge_eq]
  rfl

theorem tdcOf_takeEdge_same (s : State) (c : Nat) (code : Option Nat) (m : Meas) :
    tdcOf (takeEdge s c code m) c = edgeTaken c (nowClk s) m (tdcOf s c) := tdcOf_setTdc_same ..

theorem tdcOf_takeEdge_ne {c d : Nat} (s : State) (code : Option Nat) (m : Meas) (h : d ≠ c) :
    tdcOf (takeEdge s c code m) d = tdcOf s d :=
  (tdcOf_setTdc_ne _ _ h).trans (tdcOf_of_time_eq (countEdge_time s c code) d)

/-- An accepted edge of a channel without records and without a step that waits. -/
theorem acceptEdge_unlogged {s : State} {c : Nat} (falling : Bool) (want : Nat) (code : Option Nat)
    (hlog : natP s 0x06 c tTDC_LOG = 0) (hstep : c = 6 → s.time.step = none) :
    ∃ ts, acceptEdge s c falling want code =
      takeEdge s c code ⟨ts, coreFor (coresOf s c) want, code.isNone, falling, s.time.ticks⟩ := by
  have hedge := acceptEdge_eq s c falling want code
  simp only [edgeStep_of_no_step _ hstep] at hedge
  exact ⟨_, hedge.trans (logEdge_of_unlogged _ ((natP_takeEdge_log s c code _).trans hlog))⟩

/-! ### An edge that is lost, and the end of a settling (08 R179, R180) -/

theorem itemsBut_loseEdge (s : State) (c : Nat) : itemsBut [objId 6 c tEDGES_LOST] s (loseEdge s c) :=
  bumpP_itemsBut s (List.mem_singleton.mpr rfl)

theorem getP_loseEdge (s : State) (c : Nat) : getP (loseEdge s c) 0x06 c tEDGES_LOST = inc32 (getP s 0x06 c tEDGES_LOST) :=
  getP_bumpP_same s 6 c tEDGES_LOST

theorem thresh_settles {s : State} {c q : Nat} (hq : (tdcOf s c).settleUntil = some q) (hnow : q ≤ nowClk s) :
    exec (.tdcThreshSettled c) s = .next (setTdc s c { tdcOf s c with settleUntil := none }) := by
  show execTdcThreshSettled c s = _
  simp [execTdcThreshSettled, hq, hnow]

/-- Settles O21, each clause by the branch of R179, R180 or R182 that its premises pick (both conditions of R179 run from the
channel's previous accepted edge of either polarity, log 143). -/
theorem tdcEdges : Obligations.TdcEdges := by
  unfold Obligations.TdcEdges
  refine ⟨fun i c want falling code s hinput hlocked hen hsel hsettled hfore hcores hlog hstep hapart => ?_,
    fun i c want q falling code s hinput hlocked hen hsel hsettled hfore hcores hlast hdead hhold => ?_,
    fun i c want falling code s hinput hlocked hen hsel hfore hlost => ?_, fun c q s hq hnow => ?_, tdcInput_by_gateSel⟩
  · obtain ⟨ts, hacc⟩ := acceptEdge_unlogged falling want code hlog hstep
    refine ⟨_, tdcEdge_arrives hinput hlocked hen hsel, ?_⟩
    rw [edgeArrives_accepts hsettled hfore hcores hapart, hacc, tdcOf_takeEdge_same]
    refine ⟨takeEdge_rest .., getP_countEdge_accepted s c code, itemsBut_countEdge s c code, rfl, rfl, fun hc => ?_, fun hc => ?_,
      fun d hd => tdcOf_takeEdge_ne s code _ hd⟩
    · simp [edgeTaken, measKept, Nat.not_lt.mpr hc]
    · exact ⟨_, by simp only [edgeTaken, measKept, hc, decide_true, if_true]; rfl, rfl, rfl, rfl, testBit_coreFor want hcores⟩
  · refine ⟨_, tdcEdge_arrives hinput hlocked hen hsel, ?_⟩
    rw [edgeArrives_heldOff hsettled hfore hcores hlast hdead hhold]
    exact ⟨rfl, bumpP_itemsBut s (List.mem_singleton.mpr rfl), getP_bumpP_same ..⟩
  · refine ⟨_, tdcEdge_arrives hinput hlocked hen hsel, ?_⟩
    rw [edgeArrives_loses hfore hlost]
    exact ⟨rfl, itemsBut_loseEdge s c, getP_loseEdge s c, tdcOf_setTdc_same .., fun d hd => tdcOf_setTdc_ne _ _ hd⟩
  · exact ⟨_, thresh_settles hq hnow, rfl, tdcOf_setTdc_same .., fun d hd => tdcOf_setTdc_ne s _ hd⟩

end Sys2Proof.Machine
end

section
/-! PROOFS. Setting the timebase (08_timebase_tdc.md): O22. -/

namespace Sys2Proof.Machine

/-! ### What a final response writes (15 R317, R318) -/

theorem finish_rest (s : State) (n : Nat) (r : Reply) :
    finish s n r = { s with slots := (finish s n r).slots, link := (finish s n r).link } := by
  unfold finish
  split
  · rfl
  · rw [writeResponse_eq]

theorem complete_rest (s : State) (j : Job) (r : Reply) :
    complete s j r = { s with slots := (complete s j r).slots, link := (complete s j r).link } := by
  unfold complete
  split
  · exact finish_rest s _ r
  · rfl

theorem complete_time (s : State) (j : Job) (r : Reply) : (complete s j r).time = s.time := by rw [complete_rest]

/-! ### A step of the timebase (08 R185) -/

/-- A measurement that no one has taken, in the scale after a step of `d` ticks. -/
def moveMeas (d : Int) (m : Meas) : Meas := { m with ts := tsAdd m.ts (256 * d), tick := moveTick d m.tick }

/-- A function that leaves what an unlisted key reads as may be applied pair by pair. -/
theorem kget_mapValues {α : Type} (d : Nat → α) (f : α → α) (m : KMap α) {k : Nat} (h : f (d k) = d k) :
    kget d (m.map fun q => (q.1, f q.2)) k = f (kget d m k) := by
  induction m with
  | nil => exact h.symm
  | cons q m ih =>
    simp only [List.map_cons, kget, ih]
    split <;> rfl

theorem tdcOf_stepTimebase (s : State) (d : Int) (c : Nat) :
    tdcOf (stepTimebase s d) c = { tdcOf s c with meas := (tdcOf s c).meas.map (moveMeas d) } :=
  kget_mapValues tdcBlank (fun x => { x with meas := x.meas.map (moveMeas d) }) s.time.tdc rfl

/-- The counter moves by the step, in 64 bits. -/
theorem stepTimebase_ticks (s : State) (d : Int) : ((stepTimebase s d).time.ticks : Int) = ((s.time.ticks : Int) + d) % 2 ^ 64 :=
  Int.toNat_of_nonneg (Int.emod_nonneg _ (by decide))

/-- A step to a value of 64 bits shows that value. -/
theorem stepTimebase_ticks_to (s : State) (v : Nat) :
    (stepTimebase s (((v % 2 ^ 64 : Nat) : Int) - s.time.ticks)).time.ticks = v % 2 ^ 64 := by
  have h := stepTimebase_ticks s (((v % 2 ^ 64 : Nat) : Int) - s.time.ticks)
  omega

/-! ### TIME_SET (08 R185, R186) -/

theorem timebaseInUse_accept (s : State) (r : Req) (op : Nat) : timebaseInUse (accept s r op) = timebaseInUse s := rfl

/-- The state in which no TIME_SET waits for its edge. -/
def withoutStep (s : State) : State := { s with time := { s.time with step := none } }

theorem bodyTimeSet_immediate {s : State} (v : Nat) (huse : timebaseInUse s = false) (hstep : s.time.step = none) :
    bodyTimeSet v 0 s =
      (stepTimebase (withoutStep s) (((v % 2 ^ 64 : Nat) : Int) - s.time.ticks), .final (okWith (tsBytes (nowTs s)))) := by
  simp [bodyTimeSet, huse, hstep, noteReplaced, withoutStep]

theorem bodyTimeSet_atPps {s : State} (v : Nat) (huse : timebaseInUse s = false) (hstep : s.time.step = none) :
    bodyTimeSet v 1 s =
      ({ s with time := { s.time with step := some ⟨v % 2 ^ 64, nowClk s + 2500000000, false⟩ } }, .later .timeSet) := by
  simp [bodyTimeSet, huse, hstep, secTicks]

theorem bodyTimeSet_inUse {s : State} {mode : Nat} (v : Nat) (hmode : mode ≤ 1) (huse : timebaseInUse s = true) :
    bodyTimeSet v mode s = reply s (badState 0x0601 0) := by
  simp [bodyTimeSet, Nat.not_lt.mpr hmode, huse]

section TimeSet
variable {r : Req} {s : State} (v : Nat) (hopen : mailboxOpen s r.slot = true)
include hopen

theorem timeSet_immediate (huse : timebaseInUse s = false) (hstep : s.time.step = none) :
    Answers (.timeSet r v 0) r.slot s (stepTimebase (withoutStep s) (((v % 2 ^ 64 : Nat) : Int) - s.time.ticks))
      (okWith (tsBytes (nowTs s))) :=
  answers_of_body (accept s r 0x0601).params rfl hopen (by simp)
    (bodyTimeSet_immediate (s := accept s r 0x0601) v huse hstep) (accept_params s r _) rfl (snags_of_mailboxOpen hopen)

theorem timeSet_atPps (huse : timebaseInUse s = false) (hstep : s.time.step = none) :
    Defers (.timeSet r v 1) r.slot s
      { s with time := { s.time with step := some ⟨v % 2 ^ 64, nowClk s + 2500000000, false⟩ } } .timeSet :=
  defers_of_body (accept s r 0x0601).params rfl hopen (by simp)
    (bodyTimeSet_atPps (s := accept s r 0x0601) v huse hstep) (accept_params s r _) rfl

theorem timeSet_inUse {mode : Nat} (hmode : mode ≤ 1) (huse : timebaseInUse s = true) :
    Answers (.timeSet r v mode) r.slot s s (badState 0x0601 0) :=
  answers_of_refusal rfl hopen (bodyTimeSet_inUse v hmode huse)

end TimeSet

theorem timeSetTimeout_drops {s : State} {p : TimeStep} (hstep : s.time.step = some p) (hnow : p.deadline ≤ nowClk s) :
    exec .timeSetTimeout s = .next (complete (withoutStep s) .timeSet (noteReplaced p.replaced (statusOnly stTimeout))) := by
  show execTimeSetTimeout s = _
  simp [execTimeSetTimeout, hstep, hnow, withoutStep]

/-! ### The edge at PPS_IN that a TIME_SET waits for (08 R185) -/

/-- The ticks by which a TIME_SET of mode 1 steps the timebase at an edge that measured `e`. -/
def stepBy (s : State) (p : TimeStep) (e : Nat) : Int := (p.v : Int) - Int.fdiv ((e : Int) - getP s 0x06 0 tPPS_DELAY) 256

/-- The state with the pending TIME_SET ended and steering no longer suspended. -/
def stepEnds (s : State) : State := { s with time := { s.time with step := none, ppsSuspended := false } }

theorem stepAt_time (s : State) (p : TimeStep) (e : Nat) :
    (stepAt s p e).time = (stepTimebase (stepEnds s) (stepBy s p e)).time := by
  unfold stepAt clearIf
  rw [complete_time, (clearLive_onlyCollector _ 7).rest]
  rfl

theorem edgeStep_of_step {s : State} {p : TimeStep} (ts : Nat) (h : s.time.step = some p) :
    edgeStep s 6 ts = (stepAt s p ts, tsAdd ts (256 * stepBy s p ts)) := by
  simp [edgeStep, h, stepBy]

/-- `t` has the counters of the timebase, the pending step and a channel's measurements as `s` has them. -/
structure MeasureKept (c : Nat) (s t : State) : Prop where
  ticks : t.time.ticks = s.time.ticks
  sclk : t.time.sclk = s.time.sclk
  step : t.time.step = s.time.step
  meas : (tdcOf t c).meas = (tdcOf s c).meas

theorem measureKept_lost {s u : State} (htime : u.time = s.time) (c n : Nat) :
    MeasureKept c s (setTdc u c { tdcOf u c with lost := n }) := by
  refine ⟨?_, ?_, ?_, ?_⟩
  · exact (congrArg Timing.ticks htime :)
  · exact (congrArg Timing.sclk htime :)
  · exact (congrArg Timing.step htime :)
  · rw [tdcOf_setTdc_same, tdcOf_of_time_eq htime]

/-- A record takes nothing from the channel's users. -/
theorem logEdge_measureKept (s : State) (c : Nat) (m : Meas) : MeasureKept c s (logEdge s c m) := by
  unfold logEdge
  split
  · exact ⟨rfl, rfl, rfl, rfl⟩
  · dsimp only
    split
    · exact measureKept_lost (by rfl) c _
    · refine measureKept_lost ?_ c 0
      exact (hkPut_schedulerKept _ 1 _ _).time

theorem takeEdge_time (s : State) (c : Nat) (code : Option Nat) (m : Meas) :
    (takeEdge s c code m).time = { s.time with tdc := (takeEdge s c code m).time.tdc } :=
  congrArg State.time (takeEdge_rest s c code m)

/-- An accepted edge at PPS_IN with a step pending: the step is applied, and the edge is measured after it. -/
theorem acceptEdge_steps {s : State} {p : TimeStep} {e : Nat} {falling : Bool} {want : Nat} {code : Option Nat}
    (hstep : s.time.step = some p)
    (he : e = edgeTs s 6 s.time.ticks (fineOf (tdcOf s 6) (coreFor (coresOf s 6) want) code)) :
    ∃ m, m.ts = tsAdd e (256 * stepBy s p e) ∧
      acceptEdge s 6 falling want code = logEdge (takeEdge (stepAt s p e) 6 code m) 6 m := by
  have hedge := acceptEdge_eq s 6 falling want code
  simp only [← he, edgeStep_of_step e hstep] at hedge
  exact ⟨_, rfl, hedge⟩

/-- Settles O22: TIME_SET by its three bodies, its time-out, and the edge at PPS_IN by what a step does to the counter and to the
measurements of channel 6. -/
theorem timeSetting : Obligations.TimeSetting := by
  unfold Obligations.TimeSetting
  refine ⟨fun r v s hopen huse hstep => ⟨⟨_, timeSet_immediate v hopen huse hstep, ?_, rfl, rfl, rfl⟩,
      timeSet_atPps v hopen huse hstep⟩, fun r v mode s hopen hmode huse => timeSet_inUse v hopen hmode huse,
    fun p s hstep hnow => ⟨_, timeSetTimeout_drops hstep hnow, complete_rest ..⟩,
    fun p want e falling code s hstep hlocked hen hsel hsettled hfore hcores hapart he => ?_⟩
  · exact stepTimebase_ticks_to (withoutStep s) v
  · obtain ⟨m, hts, hacc⟩ := acceptEdge_steps (falling := falling) hstep he
    have hinput : tdcInput s 6 = some 6 := (tdcInput_by_gateSel s).2.2 6 (by decide) (by decide)
    have hkept := logEdge_measureKept (takeEdge (stepAt s p e) 6 code m) 6 m
    have htime := takeEdge_time (stepAt s p e) 6 code m
    have hstepped := stepAt_time s p e
    have hchan : tdcOf (stepAt s p e) 6 = _ := (tdcOf_of_time_eq hstepped 6).trans (tdcOf_stepTimebase _ _ 6)
    refine ⟨_, (tdcOf (stepAt s p e) 6).meas, m, tdcEdge_arrives hinput hlocked hen hsel, ?_⟩
    rw [edgeArrives_accepts hsettled hfore hcores hapart, hacc, hkept.step, hkept.sclk, hkept.ticks, hkept.meas, htime, hstepped,
      tdcOf_takeEdge_same]
    refine ⟨rfl, rfl, stepTimebase_ticks (stepEnds s) _, rfl, ?_, hts⟩
    rw [hchan]
    exact List.length_map _

end Sys2Proof.Machine
end

section
/-! PROOFS. PPS discipline and PTM (08_timebase_tdc.md): O23. -/

namespace Sys2Proof.Machine

/-! ### PPS_EDGE (08 R187; log 13) -/

theorem tdcOf_leaveMeas_same (s : State) (c : Nat) (ms : List Meas) :
    tdcOf (leaveMeas s c ms) c = { tdcOf s c with meas := ms } := tdcOf_setTdc_same ..

theorem tdcOf_leaveMeas_ne {c d : Nat} (s : State) (ms : List Meas) (h : d ≠ c) : tdcOf (leaveMeas s c ms) d = tdcOf s d :=
  tdcOf_setTdc_ne s _ h

theorem nowClk_leaveMeas (s : State) (c : Nat) (ms : List Meas) : nowClk (leaveMeas s c ms) = nowClk s := rfl

theorem nowTs_leaveMeas (s : State) (c : Nat) (ms : List Meas) : nowTs (leaveMeas s c ms) = nowTs s := rfl

theorem tdcOf_setP (s : State) (d i n : Nat) (v : Int) (c : Nat) : tdcOf (setP s d i n v) c = tdcOf s c := rfl

theorem tdcOf_bumpP (s : State) (d i n c : Nat) : tdcOf (bumpP s d i n) c = tdcOf s c := rfl

theorem tdcOf_ppsReference (s : State) (e good c : Nat) : tdcOf (ppsReference s e good) c = tdcOf s c := rfl

section PpsEdge
variable {s : State} {m : Meas} {ms : List Meas} (hm : (tdcOf s 6).meas = m :: ms)
include hm

theorem ppsEdge_off (hmode : natP s 0x06 0 tPPS_MODE = 0) : exec .ppsEdge s = .next (leaveMeas s 6 ms) := by
  have hleft : natP (leaveMeas s 6 ms) 0x06 0 tPPS_MODE = 0 := hmode
  show execPpsEdge s = _
  simp only [execPpsEdge, popMeas_cons hm, hleft, if_true]

theorem ppsEdge_works (hmode : natP s 0x06 0 tPPS_MODE ≠ 0) :
    exec .ppsEdge s = .next (ppsEdgeWork (leaveMeas s 6 ms) (tsAdd m.ts (-(getP s 0x06 0 tPPS_DELAY)))) := by
  have hleft : natP (leaveMeas s 6 ms) 0x06 0 tPPS_MODE ≠ 0 := hmode
  show execPpsEdge s = _
  simp only [execPpsEdge, popMeas_cons hm, hleft, if_false]
  rfl

end PpsEdge

theorem ppsEdgeWork_first {s : State} (e : Nat) (h : s.time.ppsLast = none) :
    ppsEdgeWork s e = setP (ppsReference s e 0) 0x06 0 tPPS_OFFSET (satS 32 (ppsOffset e)) := by
  simp only [ppsEdgeWork, h]

theorem ppsEdgeWork_rejects {s : State} {e last : Nat} (h : s.time.ppsLast = some last)
    (hout : 3200000 < (tsDiff e last - 320000000000).natAbs) : ppsEdgeWork s e = bumpP s 0x06 0 tPPS_REJECTS := by
  simp only [ppsEdgeWork, h]
  exact if_pos hout

theorem ppsEdgeWork_takes {s : State} {e last : Nat} (h : s.time.ppsLast = some last)
    (hin : (tsDiff e last - 320000000000).natAbs ≤ 3200000) : ppsEdgeWork s e = ppsInWindow s last e := by
  simp only [ppsEdgeWork, h]
  exact if_neg (Nat.not_lt.mpr hin)

/-- The window of the next edge ends 1 s and 10 µs after the reference. -/
theorem ppsDeadline_ppsReference (s : State) (e good : Nat) : (ppsReference s e good).time.ppsDeadline =
    some ((nowClk s + 1250012500 : Nat) - Int.fdiv (tsDiff (nowTs s) e) 256).toNat := by
  simp only [ppsReference, secTicks, usTicks, Nat.add_assoc]

/-! ### The third edge in a window (08 R187, R188) -/

/-- `t` has the state of PPS discipline, its reference and its report items as `s` has them, and source 6 as live. -/
structure PpsKept (s t : State) : Prop where
  pps : t.time.pps = s.time.pps
  last : t.time.ppsLast = s.time.ppsLast
  good : t.time.ppsGood = s.time.ppsGood
  offset : getP t 6 0 tPPS_OFFSET = getP s 6 0 tPPS_OFFSET
  freq : getP t 6 0 tPPS_FREQ_ERR = getP s 6 0 tPPS_FREQ_ERR
  live : isLive t 6 = isLive s 6

theorem PpsKept.refl (s : State) : PpsKept s s := ⟨rfl, rfl, rfl, rfl, rfl, rfl⟩

theorem PpsKept.after {a b c : State} (k : PpsKept b c) (h : PpsKept a b) : PpsKept a c :=
  ⟨k.pps.trans h.pps, k.last.trans h.last, k.good.trans h.good, k.offset.trans h.offset, k.freq.trans h.freq, k.live.trans h.live⟩

theorem PpsKept.ite {c : Prop} [Decidable c] {s a b : State} (h : PpsKept s a) (k : PpsKept s b) :
    PpsKept s (if c then a else b) := by
  split
  · exact h
  · exact k

/-- Steering is suspended with source 7 raised. -/
def ppsSuspends (s : State) : State := detectSrc { s with time := { s.time with ppsSuspended := true } } 7

theorem ppsSuspends_ppsKept (s : State) : PpsKept s (ppsSuspends s) := by
  have hcol : ppsSuspends s = _ := detect_eq _ _
  refine ⟨?_, ?_, ?_, ?_, ?_, isLive_detect _ _ 6⟩ <;> rw [hcol] <;> rfl

theorem ppsDuty_rest (s : State) (duty : Nat) : ppsDuty s duty = { s with src := (ppsDuty s duty).src } := by
  unfold ppsDuty
  dsimp only
  split <;> rfl

/-- Steering writes PPS_TUNE_DUTY and drives the tuning channel. -/
theorem steer_ppsKept (s : State) (d o : Int) : PpsKept s (steer s d o) := by
  unfold steer
  dsimp only
  rw [ppsDuty_rest]
  refine ⟨rfl, rfl, rfl, ?_, ?_, rfl⟩ <;> exact kget_kput_ne paramReset s.params _ (by decide)

/-- The state with an in-window edge as the reference, and its offset and frequency error reported. -/
def ppsReports (s : State) (last e : Nat) : State :=
  setP (setP (ppsReference s e (s.time.ppsGood + 1)) 0x06 0 tPPS_OFFSET (satS 32 (ppsOffset e))) 0x06 0 tPPS_FREQ_ERR
    (satS 32 (roundDivI (100 * (tsDiff e last - (secUnits : Int))) 320))

/-- The state TRACKING, source 6 over. -/
def ppsTracks (s : State) : State := clearLive { s with time := { s.time with pps := .tracking } } 6

theorem ppsTracks_time (s : State) : (ppsTracks s).time = { s.time with pps := .tracking } := by
  rw [ppsTracks, (clearLive_onlyCollector _ 6).rest]

theorem getP_ppsTracks (s : State) (n : Nat) (h : n < 65536) : getP (ppsTracks s) 6 0 n = getP s 6 0 n :=
  (clearLive_onlyCollector _ 6).items _ (by unfold objDom objId; omega)

/-- After the third edge in a window PPS tracks; what follows may suspend steering or steer. -/
theorem ppsInWindow_tracks {s : State} (last e : Nat) (h : 2 ≤ s.time.ppsGood) :
    PpsKept (ppsTracks (ppsReports s last e)) (ppsInWindow s last e) := by
  have hgood : 3 ≤ s.time.ppsGood + 1 := by omega
  have htrack : (ppsTracks (ppsReports s last e)).time.pps = .tracking := by rw [ppsTracks_time]
  unfold ppsInWindow
  dsimp only
  rw [if_pos hgood]
  show PpsKept _ (if (ppsTracks (ppsReports s last e)).time.pps = .tracking then _ else _)
  rw [if_pos htrack]
  have hfar : PpsKept (ppsTracks (ppsReports s last e))
      (if decide (winUnits < (ppsOffset e).natAbs) then ppsSuspends (ppsTracks (ppsReports s last e))
        else ppsTracks (ppsReports s last e)) := .ite (ppsSuspends_ppsKept _) (.refl _)
  exact .ite ((steer_ppsKept _ _ _).after hfar) hfar

/-! ### PPS_WINDOW_EXPIRY, PPS_OUT (08 R187, R188) -/

/-- The state in HOLDOVER, its window a second later (log 13). -/
def ppsHolds (s : State) (deadline : Nat) : State :=
  { s with time := { s.time with
      pps := .holdover, ppsGood := 0, ppsDeadline := some (deadline + 1250000000)
      ppsLast := s.time.ppsLast.map (fun e => tsAdd e secUnits) } }

theorem ppsWindowExpiry_holds {s : State} {q : Nat} (hq : s.time.ppsDeadline = some q) (hnow : q ≤ nowClk s)
    (hmeas : (tdcOf s 6).meas = []) :
    exec .ppsWindowExpiry s = .next (if s.time.pps = .holdover then ppsHolds s q else detectSrc (ppsHolds s q) 6) := by
  show execPpsWindowExpiry s = _
  simp only [execPpsWindowExpiry, hq, hnow, hmeas, and_self, if_true, decide_eq_true_eq]
  rfl

theorem dropQuiet_detected (s : State) (src : Nat) : (dropQuiet s src).col.detected = s.col.detected := by
  unfold dropQuiet
  split <;> rfl

/-- A raise waits behind those that wait. -/
theorem detected_detect (s : State) (x : Raise) : (detect s x).col.detected = s.col.detected ++ [x] :=
  congrArg (· ++ [x]) (dropQuiet_detected s x.src)

theorem ppsOutSecond_drives {s : State} (hlocked : s.boot.rootLocked = true) (hsec : s.time.ticks % 1250000000 = 0)
    (hen : natP s 0x06 0 tPPS_OUT_ENABLE = 1) :
    exec .ppsOutSecond s = .next { s with time := { s.time with
      ppsOut := true, ppsOutEnd := nowClk s + natP s 0x06 0 tPPS_OUT_WIDTH * 1250 } } := by
  show execPpsOutSecond s = _
  simp only [execPpsOutSecond, hlocked, secTicks, hsec, hen, decide_true, Bool.and_self, if_true]

theorem ppsOutPulseEnd_ends {s : State} (hout : s.time.ppsOut = true) (hnow : s.time.ppsOutEnd ≤ nowClk s) :
    exec .ppsOutPulseEnd s = .next { s with time := { s.time with ppsOut := false } } := by
  show execPpsOutPulseEnd s = _
  simp only [execPpsOutPulseEnd, hout, hnow, decide_true, Bool.and_self, if_true]

/-! ### TIME_PPS_CFG (08 R191) -/

/-- PPS as it starts. -/
def ppsStarts (x : Timing) : Timing := { x with pps := .acquiring, ppsLast := none, ppsDeadline := none, ppsGood := 0 }

/-- The state with a PPS_MODE of 1 in force and nothing staged. -/
def ppsModeTaken (s : State) : State := { setP s 6 0 tPPS_MODE 1 with staged := [] }

@[simp] theorem ppsModeTaken_time (s : State) : (ppsModeTaken s).time = s.time := rfl

theorem natP_ppsModeTaken {s : State} {n : Nat} (h : n ≠ tPPS_MODE) : natP (ppsModeTaken s) 6 0 n = natP s 6 0 n :=
  congrArg Int.toNat ((getP_setP s 6 0 tPPS_MODE 6 0 n 1).trans (if_neg fun e => h (objId_inj_item.mp e).symm))

/-- A PPS_MODE of 1 that alone is staged is applied. -/
theorem applyStaged_ppsMode {s : State} (h : s.staged = [(objId 6 0 tPPS_MODE, some 1)]) :
    applyStaged s timeItem = ppsModeTaken s := by
  have hitem : timeItem (objId 6 0 tPPS_MODE) = true := by decide
  simp [applyStaged, h, hitem, stagedOf, kget, ppsModeTaken, setP]

theorem commitTime_starts {s : State} (hmode : natP s 0x06 0 tPPS_MODE = 0) (h : s.staged = [(objId 6 0 tPPS_MODE, some 1)]) :
    commitTime s = ({ ppsModeTaken s with time := ppsStarts s.time }, .final (okWith [1])) := by
  have hplan : planN s 0x06 0 tPPS_MODE = 1 := by simp [planN, planP, stagedOf, h, kget]
  have hptm : natP (ppsModeTaken s) 0x06 0 tPTM_PERIOD = natP s 0x06 0 tPTM_PERIOD := natP_ppsModeTaken (by decide)
  simp [commitTime, hplan, hmode, applyStaged_ppsMode h, hptm, ppsStarts, ppsCode, leBytes]

/-- A final response leaves the timebase. -/
theorem post_final_time (s : State) (n : Nat) (a : Reply) : (post s n (.final a)).time = s.time := by
  rw [post, finish_rest]

theorem timePpsCfg_starts {r : Req} {s : State} (hopen : mailboxOpen s r.slot = true) (hmode : natP s 0x06 0 tPPS_MODE = 0)
    (h : s.staged = [(objId 6 0 tPPS_MODE, some 1)]) :
    ∃ t, exec (.timePpsCfg r) s = .next t ∧ answered t r.slot (okWith [1]) ∧ getP t 0x06 0 tPPS_MODE = 1 ∧ t.staged = [] ∧
      t.time = ppsStarts s.time := by
  have hrun := mbxRun_open (.timePpsCfg r) r 0x0603 false commitTime s hopen (by simp)
  rw [commitTime_starts (s := accept s r 0x0603) (by rwa [natP_accept _ _ _ _ _ (by decide)]) h] at hrun
  obtain ⟨hphase, hreply, hparams, hstaged⟩ := post_final (a := okWith [1])
    (s := { ppsModeTaken (accept s r 0x0603) with time := ppsStarts s.time }) r.slot (snags_of_mailboxOpen (s := s) hopen)
  refine ⟨_, congrArg Host.Outcome.next hrun, ⟨hphase, hreply⟩, ?_, hstaged, post_final_time ..⟩
  exact (congrArg (kget paramReset · (objId 6 0 tPPS_MODE)) hparams).trans (getP_setP_same (accept s r 0x0603) 6 0 tPPS_MODE 1)

/-! ### PTM (08 R189) -/

theorem ptmDialogStart_opens {s : State} (fine : Nat) (hperiod : natP s 0x06 0 tPTM_PERIOD ≠ 0) (hup : s.link.linkUp = true)
    (hnone : s.time.ptmDialog = none) (hnow : s.time.ptmAt ≤ nowClk s) :
    exec (.ptmDialogStart fine) s = .next { s with time := { s.time with
      ptmDialog := some (ts72 s.time.ticks fine, nowClk s + 12500000)
      ptmAt := nowClk s + natP s 0x06 0 tPTM_PERIOD * 1250000 } } := by
  show execPtmDialogStart fine s = _
  simp [execPtmDialogStart, hperiod, hup, hnone, hnow, msTicks]

/-- A record that enters a housekeeping frame is a matter of the host link (14 R449). -/
theorem hkPut_rest (s : State) (key : Nat) (rec : List Byte) (ts : Nat) :
    ∃ l, hkPut s key rec ts = { s with link := l } := by
  unfold hkPut hkPutAt hkClose
  dsimp only
  split
  · split
    · exact ⟨_, rfl⟩
    · exact ⟨_, rfl⟩
  · exact ⟨_, rfl⟩

theorem mem_recs_hkPut (s : State) (key : Nat) (rec : List Byte) (ts : Nat) : rec ∈ (hkGet (hkPut s key rec ts) key).recs := by
  unfold hkPut hkPutAt
  generalize (if 65536 < (hkGet s key).bytes + rec.length then hkClose s key else s) = u
  dsimp only
  rw [hkGet, kget_kput_same]
  split
  · exact List.mem_singleton.mpr rfl
  · exact List.mem_append_right _ (List.mem_singleton.mpr rfl)

theorem hkGet_clearLive (s : State) (src key : Nat) : hkGet (clearLive s src) key = hkGet s key := by
  have hlink : (clearLive s src).link = s.link := by rw [(clearLive_onlyCollector s src).rest]
  rw [hkGet, hlink, hkGet]

/-- A dialog is over. -/
def ptmEnds (s : State) : State := { s with time := { s.time with ptmDialog := none } }

theorem ptmResponse_records {s : State} {p : Nat × Nat} (fine master delay : Nat) (h : s.time.ptmDialog = some p) :
    exec (.ptmResponse fine master delay) s =
      .next (clearLive (hkPut (ptmEnds s) 2 (ptmRecord p.1 (ts72 s.time.ticks fine) master delay) p.1) 88) := by
  show execPtmResponse fine master delay s = _
  simp only [execPtmResponse, h]
  rfl

/-- A correlation record has 48 bytes and begins with t1 (log 14). -/
theorem ptmRecord_length_take (t1 t4 master delay : Nat) :
    (ptmRecord t1 t4 master delay).length = 48 ∧ (ptmRecord t1 t4 master delay).take 12 = tsBytes t1 := by
  have hlen (t : Nat) : (tsBytes t).length = 12 := leBytes_length 12 _
  constructor
  · simp [ptmRecord, hlen, leBytes_length, zeros]
  · simp [ptmRecord, hlen]

theorem ptmTimeout_raises {s : State} {p : Nat × Nat} (h : s.time.ptmDialog = some p) (hnow : p.2 ≤ nowClk s) :
    exec .ptmTimeout s = .next (detectSrc { s with time := { s.time with ptmDialog := none } } 88) := by
  show execPtmTimeout s = _
  simp only [execPtmTimeout, h, hnow, if_true]

/-- Settles O23, each clause by the branch of its event that the premises pick. -/
theorem ppsAndPtm : Obligations.PpsAndPtm := by
  unfold Obligations.PpsAndPtm
  refine ⟨fun m ms s hm hmode => ?_, fun m ms e s hm hmode he => ?_, fun q s hq hnow hmeas => ?_,
    fun s hlocked hsec hen => ppsOutSecond_drives hlocked hsec hen, fun s hout hnow => ppsOutPulseEnd_ends hout hnow,
    fun r s hopen hmode h => timePpsCfg_starts hopen hmode h,
    fun fine s hperiod hup hnone hnow => ptmDialogStart_opens fine hperiod hup hnone hnow,
    fun fine master delay p s h => ?_, fun p s h hnow => ptmTimeout_raises h hnow⟩
  · exact ⟨_, ppsEdge_off hm hmode, rfl, tdcOf_leaveMeas_same s 6 ms, fun d hd => tdcOf_leaveMeas_ne s ms hd⟩
  · have hedge := ppsEdge_works hm hmode
    rw [← he] at hedge
    refine ⟨fun hlast => ⟨_, hedge, ?_⟩, fun last hlast hin hgood => ⟨_, hedge, ?_⟩, fun last hlast hout => ⟨_, hedge, ?_⟩⟩
    · have hdeadline := ppsDeadline_ppsReference (leaveMeas s 6 ms) e 0
      rw [nowClk_leaveMeas, nowTs_leaveMeas] at hdeadline
      rw [ppsEdgeWork_first (s := leaveMeas s 6 ms) e hlast, setP_time, tdcOf_setP, tdcOf_ppsReference]
      refine ⟨rfl, itemsBut_trans (itemsBut_of_params_eq rfl) (setP_itemsBut _ _ (List.mem_singleton.mpr rfl)),
        getP_setP_same .., hdeadline, tdcOf_leaveMeas_same s 6 ms, fun d hd => ?_⟩
      rw [tdcOf_setP, tdcOf_ppsReference, tdcOf_leaveMeas_ne s ms hd]
    · rw [ppsEdgeWork_takes (s := leaveMeas s 6 ms) hlast hin]
      have hkept := ppsInWindow_tracks (s := leaveMeas s 6 ms) last e hgood
      have htime := ppsTracks_time (ppsReports (leaveMeas s 6 ms) last e)
      refine ⟨hkept.pps.trans ?_, hkept.last.trans ?_, hkept.good.trans ?_, hkept.offset.trans ?_, hkept.freq.trans ?_,
        hkept.live.trans (not_isLive_clearLive _ 6)⟩
      · rw [htime]
      · rw [htime]; rfl
      · rw [htime]; rfl
      · rw [getP_ppsTracks _ _ (by decide)]
        exact (kget_kput_ne paramReset _ _ (by decide)).trans (getP_setP_same _ 6 0 _ _)
      · rw [getP_ppsTracks _ _ (by decide)]
        exact getP_setP_same _ 6 0 _ _
    · rw [ppsEdgeWork_rejects (s := leaveMeas s 6 ms) hlast hout, tdcOf_bumpP]
      refine ⟨rfl, bumpP_itemsBut _ (List.mem_singleton.mpr rfl), getP_bumpP_same _ 6 0 _, tdcOf_leaveMeas_same s 6 ms,
        fun d hd => ?_⟩
      rw [tdcOf_bumpP, tdcOf_leaveMeas_ne s ms hd]
  · refine ⟨_, ppsWindowExpiry_holds hq hnow hmeas, ?_⟩
    split
    · next hheld => exact ⟨rfl, rfl, fun h => absurd hheld h⟩
    · have hcol : detectSrc (ppsHolds s q) 6 = _ := detect_eq (ppsHolds s q) (raiseBlank 6)
      have htime : (detectSrc (ppsHolds s q) 6).time = (ppsHolds s q).time := by rw [hcol]
      rw [htime]
      exact ⟨hcol, rfl, fun _ => detected_detect (ppsHolds s q) (raiseBlank 6)⟩
  · obtain ⟨hlen, htake⟩ := ptmRecord_length_take p.1 (ts72 s.time.ticks fine) master delay
    refine ⟨_, ptmResponse_records fine master delay h, ?_, not_isLive_clearLive _ 88, _, ?_, hlen, htake⟩
    · obtain ⟨l, hl⟩ := hkPut_rest (ptmEnds s) 2 (ptmRecord p.1 (ts72 s.time.ticks fine) master delay) p.1
      rw [(clearLive_onlyCollector _ 88).rest, hl]
      rfl
    · rw [hkGet_clearLive]
      exact mem_recs_hkPut ..

end Sys2Proof.Machine
end

section
/-! PROOFS. Code-density tests and the configuration of channels (08_timebase_tdc.md): O24. -/

namespace Sys2Proof.Machine

/-! ### One bit of a mask -/

/-- Taking a set bit out leaves the others. -/
theorem testBit_sub_two_pow {v i : Nat} (j : Nat) (h : v.testBit i = true) :
    (v - 2 ^ i).testBit j = (v.testBit j && decide (i ≠ j)) := by
  induction i generalizing v j with
  | zero =>
    rw [Nat.testBit_zero, decide_eq_true_eq] at h
    cases j with
    | zero => simp only [Nat.testBit_zero, ne_eq, not_true, decide_false, Bool.and_false, decide_eq_false_iff_not]; omega
    | succ j =>
      have hhalf : (v - 1) / 2 = v / 2 := by omega
      simp [Nat.testBit_succ, hhalf]
  | succ i ih =>
    rw [Nat.testBit_succ] at h
    cases j with
    | zero =>
      have hle := Nat.ge_two_pow_of_testBit h
      simp only [Nat.testBit_zero, Nat.pow_succ, ne_eq, Nat.succ_ne_zero, not_false_eq_true, decide_true, Bool.and_true,
        decide_eq_decide]
      omega
    | succ j =>
      have hhalf : (v - 2 ^ (i + 1)) / 2 = v / 2 - 2 ^ i := by rw [Nat.pow_succ]; omega
      simp only [Nat.testBit_succ, hhalf, ih j h, ne_eq, Nat.succ_inj]

theorem testBit_putBit (v i j : Nat) (b : Bool) : (putBit v i b).testBit j = if i = j then b else v.testBit j := by
  unfold putBit
  cases b with
  | true =>
    simp only [if_true, Nat.testBit_or, Nat.testBit_two_pow]
    split <;> simp [*]
  | false =>
    simp only [Bool.false_eq_true, if_false]
    split
    · next h =>
      rw [testBit_sub_two_pow j h]
      split <;> simp [*]
    · split
      · next h e => simpa [e] using h
      · rfl

theorem testBit_putBit_same (v i : Nat) (b : Bool) : (putBit v i b).testBit i = b := (testBit_putBit v i i b).trans (if_pos rfl)

theorem getP_of_params_eq {s t : State} (h : t.params = s.params) (d i n : Nat) : getP t d i n = getP s d i n := by
  rw [getP, h, getP]

theorem coresOf_setCores (s : State) (c mask : Nat) : coresOf (setP s 0x06 c tCORES_IN_SERVICE (mask : Int)) c = mask :=
  congrArg Int.toNat (getP_setP_same s 6 c tCORES_IN_SERVICE (mask : Int))

/-! ### What goes on after a core's test (08 R183; 19 R396) -/

/-- `t` has, of one core of a channel, what its test decided in `s`: whether it failed, is calibrated and in service, the repair map
and the raises on their way; and if it has been tested it is not under test again. -/
structure VerdictKept (c core : Nat) (s t : State) : Prop where
  failed : (tdcOf t c).failed = (tdcOf s c).failed
  calibrated : (tdcOf t c).calibrated = (tdcOf s c).calibrated
  inService : (coresOf t c).testBit core = (coresOf s c).testBit core
  testing : (tdcOf s c).testing.testBit core = false → (tdcOf t c).testing.testBit core = false
  toTest : (tdcOf s c).toTest.testBit core = false → (tdcOf t c).toTest.testBit core = false
  repair : t.cal.repair = s.cal.repair
  detected : t.col.detected = s.col.detected

theorem VerdictKept.refl (c core : Nat) (s : State) : VerdictKept c core s s := ⟨rfl, rfl, rfl, id, id, rfl, rfl⟩

theorem VerdictKept.after {c core : Nat} {s t u : State} (k : VerdictKept c core t u) (h : VerdictKept c core s t) :
    VerdictKept c core s u :=
  ⟨k.failed.trans h.failed, k.calibrated.trans h.calibrated, k.inService.trans h.inService, k.testing ∘ h.testing,
    k.toTest ∘ h.toTest,    k.repair.trans h.repair, k.detected.trans h.detected⟩

theorem VerdictKept.ite {c core : Nat} {p : Prop} [Decidable p] {s a b : State} (h : VerdictKept c core s a)
    (k : VerdictKept c core s b) : VerdictKept c core s (if p then a else b) := by
  split
  · exact h
  · exact k

/-- Timebase, items, repair map and raises alone matter to it. -/
theorem VerdictKept.of_rest {c core : Nat} {s t : State} (htime : t.time = s.time) (hparams : t.params = s.params)
    (hrepair : t.cal.repair = s.cal.repair) (hdet : t.col.detected = s.col.detected) : VerdictKept c core s t := by
  have hchan := tdcOf_of_time_eq htime c
  have hcores : coresOf t c = coresOf s c := by rw [coresOf, natP, getP_of_params_eq hparams, coresOf, natP]
  exact ⟨by rw [hchan], by rw [hchan], by rw [hcores], fun h => by rw [hchan]; exact h,
    fun h => by rw [hchan]; exact h, hrepair, hdet⟩

theorem quietIn_verdictKept (c core : Nat) (s : State) (src ticks : Nat) : VerdictKept c core s (quietIn s src ticks) :=
  .of_rest rfl rfl rfl rfl

theorem complete_verdictKept (c core : Nat) (s : State) (j : Job) (r : Reply) : VerdictKept c core s (complete s j r) := by
  rw [complete_rest]
  exact .of_rest rfl rfl rfl rfl

theorem calSet_verdictKept (c core : Nat) (s : State) (d i : Nat) (x : CalRec) : VerdictKept c core s (calSet s d i x) :=
  .of_rest rfl rfl rfl rfl

theorem calEndAll_verdictKept (c core : Nat) (s : State) (d : Nat) : VerdictKept c core s (calEndAll s d) := by
  unfold calEndAll
  dsimp only
  exact .ite ((complete_verdictKept c core _ _ _).after (calSet_verdictKept c core s d 0xFF _)) (.refl c core s)

theorem calEnd_verdictKept (c core : Nat) (s : State) (d i : Nat) : VerdictKept c core s (calEnd s d i) := by
  unfold calEnd
  dsimp only
  have hrec := calSet_verdictKept c core s d i (calDoneRec s (calGet s d i) (bitN (calGet s d i).failed))
  exact ((calEndAll_verdictKept c core _ d).after (complete_verdictKept c core _ _ _)).after
    (.ite ((calSet_verdictKept c core _ d 0xFF _).after hrec) hrec)

/-- A channel's record changed where no verdict stands. -/
theorem setTdc_verdictKept {c core : Nat} {s : State} {x : TdcChan} (hfailed : x.failed = (tdcOf s c).failed)
    (hcal : x.calibrated = (tdcOf s c).calibrated)
    (htesting : (tdcOf s c).testing.testBit core = false → x.testing.testBit core = false)
    (htodo : (tdcOf s c).toTest.testBit core = false → x.toTest.testBit core = false) : VerdictKept c core s (setTdc s c x) := by
  refine ⟨?_, ?_, rfl, ?_, ?_, rfl, rfl⟩ <;> rw [tdcOf_setTdc_same] <;> assumption

theorem coresTold_verdictKept (c core : Nat) (s : State) : VerdictKept c core s (coresTold s c) := by
  have hends : VerdictKept c core s (setTdc s c
      { tdcOf s c with testing := 0, toTest := 0, foreground := false, coreTold := false }) :=
    setTdc_verdictKept rfl rfl (fun _ => Nat.zero_testBit core) fun _ => Nat.zero_testBit core
  exact .ite ((quietIn_verdictKept c core _ 44 0).after hends) hends

theorem chanBack_verdictKept (c core : Nat) (s : State) : VerdictKept c core s (chanBack s c) := by
  have hback : VerdictKept c core s (setTdc s c { tdcOf s c with chanTold := false }) := setTdc_verdictKept rfl rfl id id
  exact .ite ((quietIn_verdictKept c core _ 45 0).after hback) hback

/-- The rotation without a core. -/
def coreLeaves (s : State) (c core : Nat) : State := setP s 0x06 c tCORES_IN_SERVICE (putBit (coresOf s c) core false)

theorem coresOf_coreLeaves (s : State) (c core : Nat) : coresOf (coreLeaves s c core) c = putBit (coresOf s c) core false :=
  coresOf_setCores s c _

/-- Another core that leaves the rotation for its test. -/
theorem testCore_verdictKept {c core other : Nat} (s : State) (h : other ≠ core) : VerdictKept c core s (testCore s c other) := by
  have hchan : tdcOf (coreLeaves s c other) c = tdcOf s c := tdcOf_setP ..
  have hleaves : VerdictKept c core s (coreLeaves s c other) := by
    refine ⟨by rw [hchan], by rw [hchan], ?_, fun hdone => by rwa [hchan], fun hdone => by rwa [hchan], ?_, ?_⟩
    · rw [coresOf_coreLeaves, testBit_putBit, if_neg h]
    · rw [coreLeaves, setP_cal]
    · rw [coreLeaves, setP_col]
  have htests : VerdictKept c core (coreLeaves s c other) (testCore s c other) :=
    setTdc_verdictKept (by rw [hchan]) (by rw [hchan]) (fun _ => Nat.testBit_two_pow_of_ne h) fun hdone => by
      rw [hchan] at hdone
      rw [testBit_putBit, if_neg h, hdone]
  exact htests.after hleaves

/-- The core taken for a background test has still to be tested, and is not alone in service (08 R183). -/
theorem nextTest_spec {s : State} {c q : Nat} (h : nextTest s c = some q) :
    (tdcOf s c).toTest.testBit q = true ∧ coresOf s c % 16 ≠ 2 ^ q := by
  unfold nextTest at h
  have hq := List.find?_some h
  rwa [Bool.and_eq_true, decide_eq_true_eq] at hq

theorem nextCore_verdictKept {c core : Nat} {s : State} (h : (tdcOf s c).toTest.testBit core = false) :
    VerdictKept c core s (nextCore s c) := by
  unfold nextCore
  dsimp only
  refine .ite (.refl c core s) ?_
  split
  · next q hq =>
    have hnext : nextTest s c = some q := by
      split at hq
      · exact absurd hq (by simp)
      · exact hq
    refine testCore_verdictKept s fun e => ?_
    rw [← e, (nextTest_spec hnext).1] at h
    exact absurd h (by simp)
  · exact ((calEnd_verdictKept c core _ 1 c).after (coresTold_verdictKept c core _)).after (.of_rest rfl rfl rfl rfl)

/-! ### TDC_CORE_TEST_DONE (08 R181, R182; 19 R410) -/

/-- A channel's record once a core has passed. -/
def corePassed (core : Nat) (hist : List Nat) (x : TdcChan) : TdcChan :=
  { x with
    table := densityTable core 1 0 hist x.table
    calibrated := putBit x.calibrated core true
    failed := putBit x.failed core false
    testing := putBit x.testing core false }

/-- The state with a core that passed back in rotation and out of the repair map. -/
def coreReturns (s : State) (c core : Nat) (hist : List Nat) : State :=
  repairDrop (setP (setTdc s c (corePassed core hist (tdcOf s c))) 0x06 c tCORES_IN_SERVICE (putBit (coresOf s c) core true))
    (.tdcCore c core)

theorem corePasses_eq (s : State) (c core : Nat) (hist : List Nat) :
    corePasses s c core hist = chanBack (coreReturns s c core hist) c := rfl

theorem tdcOf_coreReturns (s : State) (c core : Nat) (hist : List Nat) :
    tdcOf (coreReturns s c core hist) c = corePassed core hist (tdcOf s c) := by
  have htime : (coreReturns s c core hist).time = (setTdc s c (corePassed core hist (tdcOf s c))).time := by
    rw [coreReturns, repairDrop_time, setP_time]
  rw [tdcOf_of_time_eq htime, tdcOf_setTdc_same]

theorem coresOf_coreReturns (s : State) (c core : Nat) (hist : List Nat) :
    coresOf (coreReturns s c core hist) c = putBit (coresOf s c) core true := by
  rw [coresOf, natP, coreReturns, getP_of_params_eq (repairDrop_params ..)]
  exact coresOf_setCores _ c _

theorem repairHas_repairDrop (s : State) (u : RepairUnit) : repairHas (repairDrop s u) u = false := by
  simp [repairHas, repairDrop]

theorem repairHas_repairAdd (s : State) (u : RepairUnit) : repairHas (repairAdd s u) u = true := by
  unfold repairAdd
  split
  · next h => exact h
  · simp [repairHas]

/-- A channel's record once a core has failed. -/
def coreFailed (core : Nat) (x : TdcChan) : TdcChan :=
  { x with failed := putBit x.failed core true, testing := putBit x.testing core false, coreTold := true }

/-- The state with a failing core out of rotation and in the repair map, and its raise on its way. -/
def coreDrops (s : State) (c core : Nat) : State :=
  detect (calFail (repairAdd (coreLeaves (setTdc s c (coreFailed core (tdcOf s c))) c core) (.tdcCore c core)) 1 c)
    { raiseBlank 44 with ins := c, d0 := core }

/-- Source 45 as a channel loses its last core. -/
def chanLost (s : State) (c : Nat) : State :=
  detect (setTdc s c { tdcOf s c with chanTold := true }) { raiseBlank 45 with port := if c < 2 then c else 0xFF, ins := c }

theorem coreFails_eq (s : State) (c core : Nat) : coreFails s c core =
    if coresOf (coreDrops s c core) c % 16 = 0 && (tdcOf (coreDrops s c core) c).testing = 0 then chanLost (coreDrops s c core) c
    else coreDrops s c core := rfl

theorem coreDrops_time (s : State) (c core : Nat) :
    (coreDrops s c core).time = (setTdc s c (coreFailed core (tdcOf s c))).time := by
  rw [coreDrops, detect_eq, calFail_time, repairAdd_time, coreLeaves, setP_time]

theorem tdcOf_coreDrops (s : State) (c core : Nat) : tdcOf (coreDrops s c core) c = coreFailed core (tdcOf s c) :=
  (tdcOf_of_time_eq (coreDrops_time s c core) c).trans (tdcOf_setTdc_same ..)

theorem coresOf_coreDrops (s : State) (c core : Nat) : coresOf (coreDrops s c core) c = putBit (coresOf s c) core false := by
  have hparams : (coreDrops s c core).params = (coreLeaves (setTdc s c (coreFailed core (tdcOf s c))) c core).params := by
    rw [coreDrops, detect_params, calFail_params, repairAdd_params]
  rw [coresOf, natP, getP_of_params_eq hparams]
  exact coresOf_coreLeaves (setTdc s c (coreFailed core (tdcOf s c))) c core

theorem repairHas_coreDrops (s : State) (c core : Nat) : repairHas (coreDrops s c core) (.tdcCore c core) = true := by
  have hcal (u : State) (x : Raise) : (detect u x).cal = u.cal := by rw [detect_eq]
  rw [repairHas, coreDrops, hcal]
  exact repairHas_repairAdd _ _

/-- What a failing core leaves, whether or not its channel is left without one. -/
structure CoreOut (c core : Nat) (s t : State) : Prop where
  failed : (tdcOf t c).failed.testBit core = true
  inService : (coresOf t c).testBit core = false
  toTest : (tdcOf t c).toTest = (tdcOf s c).toTest
  repair : repairHas t (.tdcCore c core) = true
  raised : { raiseBlank 44 with ins := c, d0 := core } ∈ t.col.detected

theorem coreDrops_coreOut (s : State) (c core : Nat) : CoreOut c core s (coreDrops s c core) where
  failed := by rw [tdcOf_coreDrops]; exact testBit_putBit_same _ core true
  inService := by rw [coresOf_coreDrops, testBit_putBit_same]
  toTest := by rw [tdcOf_coreDrops]; rfl
  repair := repairHas_coreDrops s c core
  raised := mem_detected_detect _ _

theorem CoreOut.of_chanLost {c core : Nat} {s t : State} (h : CoreOut c core s t) : CoreOut c core s (chanLost t c) := by
  have hchan : tdcOf (chanLost t c) c = { tdcOf t c with chanTold := true } := by
    have htime : (chanLost t c).time = (setTdc t c { tdcOf t c with chanTold := true }).time := by
      rw [chanLost, detect_eq]
    rw [tdcOf_of_time_eq htime, tdcOf_setTdc_same]
  have hcores : coresOf (chanLost t c) c = coresOf t c := by
    have hparams : (chanLost t c).params = t.params := by rw [chanLost, detect_params, setTdc_params]
    rw [coresOf, natP, getP_of_params_eq hparams, coresOf, natP]
  have hcal : (chanLost t c).cal = t.cal := by rw [chanLost, detect_eq]; rfl
  refine ⟨?_, ?_, ?_, ?_, ?_⟩
  · rw [hchan]; exact h.failed
  · rw [hcores]; exact h.inService
  · rw [hchan]; exact h.toTest
  · rw [repairHas, hcal]; exact h.repair
  · rw [chanLost, detected_detect]; exact List.mem_append_left _ h.raised

theorem coreFails_coreOut (s : State) (c core : Nat) : CoreOut c core s (coreFails s c core) := by
  rw [coreFails_eq]
  split
  · exact (coreDrops_coreOut s c core).of_chanLost
  · exact coreDrops_coreOut s c core

/-- The test of a core ends: its verdict, and then what goes on. -/
theorem tdcCoreTestDone_judges {s : State} {c core : Nat} (hist : List Nat) (ovf : Nat) (hcore : core < 4)
    (htest : (tdcOf s c).testing.testBit core = true) : exec (.tdcCoreTestDone c core hist ovf) s =
      .next (nextCore (if densityFails hist ovf then coreFails s c core else corePasses s c core (hist.take 256)) c) := by
  show execTdcCoreTestDone c core hist ovf s = _
  simp only [execTdcCoreTestDone, hcore, htest, decide_true, Bool.and_self, if_true]

section TestDone
variable {s : State} {c core : Nat} {hist : List Nat} {ovf : Nat} (hcore : core < 4)
  (htest : (tdcOf s c).testing.testBit core = true) (hdone : (tdcOf s c).toTest.testBit core = false)
include hcore htest hdone

theorem tdcCoreTestDone_passes (hpass : densityFails hist ovf = false) :
    ∃ t, exec (.tdcCoreTestDone c core hist ovf) s = .next t ∧
      (tdcOf t c).calibrated.testBit core = true ∧ (tdcOf t c).failed.testBit core = false ∧
      (tdcOf t c).testing.testBit core = false ∧ (coresOf t c).testBit core = true ∧ repairHas t (.tdcCore c core) = false := by
  have hexec := tdcCoreTestDone_judges hist ovf hcore htest
  rw [hpass, if_neg Bool.false_ne_true, corePasses_eq] at hexec
  have hback := chanBack_verdictKept c core (coreReturns s c core (hist.take 256))
  have hkept := (nextCore_verdictKept (hback.toTest (by rw [tdcOf_coreReturns]; exact hdone))).after hback
  refine ⟨_, hexec, ?_, ?_, hkept.testing ?_, ?_, ?_⟩
  · rw [hkept.calibrated, tdcOf_coreReturns]; exact testBit_putBit_same _ core true
  · rw [hkept.failed, tdcOf_coreReturns]; exact testBit_putBit_same _ core false
  · rw [tdcOf_coreReturns]; exact testBit_putBit_same _ core false
  · rw [hkept.inService, coresOf_coreReturns, testBit_putBit_same]
  · rw [repairHas, hkept.repair]; exact repairHas_repairDrop _ _

theorem tdcCoreTestDone_fails (hfail : densityFails hist ovf = true) :
    ∃ t, exec (.tdcCoreTestDone c core hist ovf) s = .next t ∧
      (tdcOf t c).failed.testBit core = true ∧ (coresOf t c).testBit core = false ∧ repairHas t (.tdcCore c core) = true ∧
      { raiseBlank 44 with ins := c, d0 := core } ∈ t.col.detected := by
  have hexec := tdcCoreTestDone_judges hist ovf hcore htest
  rw [hfail, if_pos rfl] at hexec
  have hout := coreFails_coreOut s c core
  have hkept : VerdictKept c core _ (nextCore (coreFails s c core) c) := nextCore_verdictKept (by rw [hout.toTest]; exact hdone)
  refine ⟨_, hexec, ?_, ?_, ?_, ?_⟩
  · rw [hkept.failed]; exact hout.failed
  · rw [hkept.inService]; exact hout.inService
  · rw [repairHas, hkept.repair]; exact hout.repair
  · rw [hkept.detected]; exact hout.raised

end TestDone

/-! ### TIME_TDC_CONFIG (08 R190, R191) -/

/-- A staged item that is applied has its staged value; one that is not staged stays (15 R325). -/
theorem kget_applyStaged {s : State} {f : Nat → Bool} {o : Nat} (hf : f o = true) :
    kget paramReset (applyStaged s f).params o = (stagedOf s o).getD (kget paramReset s.params o) := by
  cases hst : stagedOf s o with
  | some v => exact (applyStaged_applies hf hst).1
  | none =>
    rw [applyStaged_params]
    refine kget_putItems s (fun q hq ho => ?_) (.inr rfl)
    obtain ⟨x, -, hx⟩ := List.mem_filterMap.mp hq
    obtain ⟨w, hw, rfl⟩ := Option.map_eq_some_iff.mp hx
    rw [show x.1 = o from ho, hst] at hw
    exact absurd hw (by simp)

/-- The items that TDC_CONFIG applies to a channel (08 R191). -/
def channelItem (c o : Nat) : Bool := decide (objDom o = 0x06) && decide (objInst o = c) && decide (0x10 ≤ objItem o)

theorem channelItem_thresh {c : Nat} (hc : c < 16) : channelItem c (objId 6 c tTDC_THRESH) = true := by
  simp only [channelItem, Bool.and_eq_true, decide_eq_true_eq, tTDC_THRESH]
  unfold objDom objInst objItem objId
  omega

/-- The state with a channel's staged items applied and its counts at 0. -/
def channelTaken (s : State) (c : Nat) : State :=
  [tEDGES_ACCEPTED, tEDGES_LOST, tHOLDOFF_COUNT, tEDGES_OVFL].foldl (fun s i => setP s 0x06 c i 0) (applyStaged s (channelItem c))

theorem tdcApply_eq (s : State) (c : Nat) : ∃ x, tdcApply s c = setTdc (channelTaken s c) c x := ⟨_, rfl⟩

theorem foldl_setP_rest (s : State) (d i : Nat) (v : Int) (ns : List Nat) : ns.foldl (fun s n => setP s d i n v) s =
    { s with params := (ns.foldl (fun s n => setP s d i n v) s).params } := by
  induction ns generalizing s with
  | nil => rfl
  | cons n ns ih => exact ih (setP s d i n v)

theorem channelTaken_time (s : State) (c : Nat) : (channelTaken s c).time = s.time := by
  rw [channelTaken, foldl_setP_rest]
  rfl

theorem channelTaken_col (s : State) (c : Nat) : (channelTaken s c).col = s.col := by
  rw [channelTaken, foldl_setP_rest]
  rfl

theorem tdcOf_accept (s : State) (r : Req) (op c : Nat) : tdcOf (accept s r op) c = tdcOf s c := rfl

theorem getP_setTdc (s : State) (c : Nat) (x : TdcChan) (d i n : Nat) : getP (setTdc s c x) d i n = getP s d i n := rfl

theorem getP_channelTaken_counts (s : State) (c : Nat) :
    getP (channelTaken s c) 6 c tEDGES_ACCEPTED = 0 ∧ getP (channelTaken s c) 6 c tEDGES_LOST = 0 := by
  simp [channelTaken, getP_setP, objId_inj_item]

theorem getP_channelTaken_thresh {s : State} {c : Nat} (hc : c < 16) :
    getP (channelTaken s c) 6 c tTDC_THRESH = planP s 6 c tTDC_THRESH := by
  simp only [channelTaken, List.foldl, getP_setP, objId_inj_item]
  exact kget_applyStaged (channelItem_thresh hc)

theorem planP_accept {d : Nat} (s : State) (r : Req) (op i n : Nat) (h : 2 ≤ d) : planP (accept s r op) d i n = planP s d i n := by
  rw [planP, getP_accept s r op i n h, stagedOf_accept, planP]

theorem tdcConflict_accept (s : State) (r : Req) (op c : Nat) : tdcConflict (accept s r op) c = tdcConflict s c := by
  have htrig (pin : Nat) : trigOfArmed (accept s r op) pin = trigOfArmed s pin := by
    simp only [trigOfArmed, launchMode, governor, natP_accept s r op _ _ (show 2 ≤ 3 by decide), dualOn_accept, portOf_accept]
    rfl
  have hpin : chartUsesPin (accept s r op) = chartUsesPin s := rfl
  simp [tdcConflict, tdcChangesTiming, tdcChanges, planP_accept, getP_accept, htrig, hpin]

/-- A mask of one channel names that channel. -/
theorem maskChannels_two_pow {c : Nat} (hc : c < 16) : (List.range 16).filter (fun d => (2 ^ c).testBit d) = [c] := by
  have hall : ∀ c < 16, (List.range 16).filter (fun d => (2 ^ c).testBit d) = [c] := by decide
  exact hall c hc

theorem bodyTimeTdcConfig_one {s : State} {c : Nat} (hc : c < 16) (h : tdcConflict s c = false) :
    bodyTimeTdcConfig (2 ^ c) s = (tdcApply s c, .final (okWith (leBytes 8 (allCores (tdcApply s c))))) := by
  simp [bodyTimeTdcConfig, maskChannels_two_pow hc, h]

theorem timeTdcConfig_applies {r : Req} {c : Nat} {s : State} (hopen : mailboxOpen s r.slot = true) (hc : c < 16)
    (h : tdcConflict s c = false) : ∃ t, exec (.timeTdcConfig r (2 ^ c)) s = .next t ∧ (slotOf t r.slot).phase = .done ∧
      (slotOf t r.slot).reply.status = 0 ∧ (∀ d, d ≠ c → tdcOf t d = tdcOf s d) ∧ getP t 0x06 c tEDGES_ACCEPTED = 0 ∧
      getP t 0x06 c tEDGES_LOST = 0 ∧ getP t 0x06 c tTDC_THRESH = planP s 0x06 c tTDC_THRESH := by
  obtain ⟨x, hx⟩ := tdcApply_eq (accept s r 0x0604) c
  have hrun := mbxRun_open (.timeTdcConfig r (2 ^ c)) r 0x0604 false (bodyTimeTdcConfig (2 ^ c)) s hopen (by simp)
  rw [bodyTimeTdcConfig_one hc (by rwa [tdcConflict_accept]), hx] at hrun
  have hsnags : (setTdc (channelTaken (accept s r 0x0604) c) c x).col.snags = [] := by
    rw [setTdc_col, channelTaken_col, accept_col, snags_of_mailboxOpen hopen]
  obtain ⟨hphase, hreply, hparams, -⟩ := post_final
    (a := okWith (leBytes 8 (allCores (setTdc (channelTaken (accept s r 0x0604) c) c x)))) r.slot hsnags
  obtain ⟨hacc, hlost⟩ := getP_channelTaken_counts (accept s r 0x0604) c
  refine ⟨_, congrArg Host.Outcome.next hrun, hphase, congrArg Reply.status hreply, fun d hd => ?_, ?_, ?_, ?_⟩
  · rw [tdcOf_of_time_eq (post_final_time ..), tdcOf_setTdc_ne _ _ hd, tdcOf_of_time_eq (channelTaken_time ..), tdcOf_accept]
  · rw [getP_of_params_eq hparams, getP_setTdc, hacc]
  · rw [getP_of_params_eq hparams, getP_setTdc, hlost]
  · rw [getP_of_params_eq hparams, getP_setTdc, getP_channelTaken_thresh hc, planP_accept _ _ _ _ _ (by decide)]

/-- Settles O24: a core's test by its verdict, which the next core's test and the run's end leave; and TIME_TDC_CONFIG by the items
it applies. -/
theorem tdcCores : Obligations.TdcCores := by
  unfold Obligations.TdcCores
  exact ⟨fun c core hist ovf s hcore htest hdone =>
      ⟨tdcCoreTestDone_passes hcore htest hdone, tdcCoreTestDone_fails hcore htest hdone⟩,
    fun c core s h hnext => (nextTest_spec hnext).2 h, fun r c s hopen hc h => timeTdcConfig_applies hopen hc h⟩

end Sys2Proof.Machine
end

section
/-! PROOFS. What the compressor's work leaves alone as it is given out (10_stream_compressor.md): the rules for O31. -/

namespace Sys2Proof.Machine

/-! ### An engine's record -/

theorem engineOf_setEngine (s : State) (e d : Nat) (x : Engine) : engineOf (setEngine s e x) d = if e = d then x else engineOf s d :=
  kget_kput engineReset s.comp.engines e d x

theorem engineOf_setEngine_same (s : State) (e : Nat) (x : Engine) : engineOf (setEngine s e x) e = x := by
  simp [engineOf_setEngine]

theorem engineOf_setEngine_ne {e d : Nat} (s : State) (x : Engine) (h : d ≠ e) : engineOf (setEngine s e x) d = engineOf s d := by
  simp [engineOf_setEngine, h.symm]

theorem engineOf_of_engines_eq {s t : State} (h : t.comp.engines = s.comp.engines) (e : Nat) : engineOf t e = engineOf s e := by
  rw [engineOf, h, engineOf]

/-! ### A ring's record -/

theorem ringOf_setRing (s : State) (r n : Nat) (x : Ring) : ringOf (setRing s r x) n = if r = n then x else ringOf s n :=
  kget_kput ringBlank s.link.rings r n x

/-- A record that keeps its ring's CONS keeps every ring's. -/
theorem cons_setRing {s : State} {r : Nat} {x : Ring} (h : x.cons = (ringOf s r).cons) (n : Nat) :
    (ringOf (setRing s r x) n).cons = (ringOf s n).cons := by
  rw [ringOf_setRing]
  split
  · next hn => rw [h, hn]
  · rfl

theorem ringOf_raiseVector (s : State) (v n : Nat) : ringOf (raiseVector s v) n = ringOf s n := by
  rw [raiseVector_eq]
  rfl

theorem cons_announce (s : State) (r n : Nat) : (ringOf (announce s r) n).cons = (ringOf s n).cons := by
  unfold announce
  dsimp only
  split
  · rw [ringOf_raiseVector]
    exact cons_setRing (by rfl) n
  · exact cons_setRing (by rfl) n

theorem writeStatus_rings (s : State) (r : Nat) : (writeStatus s r).link.rings = s.link.rings := by
  unfold writeStatus
  rfl

theorem ringOf_writeStatus (s : State) (r n : Nat) : ringOf (writeStatus s r) n = ringOf s n := by
  rw [ringOf, writeStatus_rings, ringOf]

theorem raiseVector_rest (s : State) (v : Nat) : raiseVector s v = { s with link := (raiseVector s v).link } := by
  unfold raiseVector
  split
  · rfl
  · split <;> rfl

/-- A completion that is announced is a matter of the host link (14 R306). -/
theorem announce_rest (s : State) (r : Nat) : announce s r = { s with link := (announce s r).link } := by
  unfold announce
  dsimp only
  split
  · exact raiseVector_rest (setRing s r _) _
  · rfl

theorem announce_params (s : State) (r : Nat) : (announce s r).params = s.params := by rw [announce_rest]

theorem announce_hostMem (s : State) (r : Nat) : (announce s r).link.hostMem = s.link.hostMem := by
  obtain ⟨-, -, hmem, -⟩ := announce_kept s r
  exact hmem

/-- Ring 135 with its next job descriptor taken (14 R308). -/
def jobTaken (s : State) : Ring :=
  { ringOf s 135 with cons := ((ringOf s 135).cons + 1) % 2 ^ 32, seq := ((ringOf s 135).seq + 1) % 2 ^ 32 }

theorem takeDescriptor_job_eq (s : State) : takeDescriptor s 3 =
    if (ringOf s 135).st = .running ∨ (ringOf s 135).st = .stopping then writeStatus (setRing s 135 (jobTaken s)) 135
    else setRing s 135 (jobTaken s) := by
  simp [takeDescriptor, jobTaken]

/-- A job descriptor that is taken is a matter of the host link. -/
theorem takeDescriptor_job_rest (s : State) : takeDescriptor s 3 = { s with link := (takeDescriptor s 3).link } := by
  rw [takeDescriptor_job_eq]
  split
  · rfl
  · rfl

theorem cons_takeDescriptor_job (s : State) :
    (ringOf (takeDescriptor s 3) 135).cons = ((ringOf s 135).cons + 1) % 2 ^ 32 := by
  rw [takeDescriptor_job_eq]
  split
  · rw [ringOf_writeStatus, ringOf_setRing, if_pos rfl, jobTaken]
  · rw [ringOf_setRing, if_pos rfl, jobTaken]

/-! ### What giving work out leaves alone (10 R218, R235) -/

/-- `t` has what giving work out leaves of `s`: every item but BYPASS_FRAMES, the repair map, each ring's CONS, live bits and the raises
that wait, the suspended jobs, the number of descriptors taken, and the state of each engine. -/
structure KickKept (s t : State) : Prop where
  items : itemsBut [objId 0x0F 0 cBYPASS_FRAMES] s t
  repair : t.cal.repair = s.cal.repair
  cons : ∀ n, (ringOf t n).cons = (ringOf s n).cons
  detected : s.col.detected ⊆ t.col.detected
  live : ∀ n, isLive t n = isLive s n
  suspended : t.comp.suspended = s.comp.suspended
  orders : t.comp.orders = s.comp.orders
  engines : ∀ e, (engineOf t e).st = (engineOf s e).st

theorem KickKept.refl (s : State) : KickKept s s :=
  ⟨itemsBut_refl _ s, rfl, fun _ => rfl, fun _ h => h, fun _ => rfl, rfl, rfl, fun _ => rfl⟩

theorem KickKept.after {a b c : State} (k : KickKept b c) (h : KickKept a b) : KickKept a c where
  items := itemsBut_trans h.items k.items
  repair := k.repair.trans h.repair
  cons n := (k.cons n).trans (h.cons n)
  detected _ hx := k.detected (h.detected hx)
  live n := (k.live n).trans (h.live n)
  suspended := k.suspended.trans h.suspended
  orders := k.orders.trans h.orders
  engines e := (k.engines e).trans (h.engines e)

theorem KickKept.ite {c : Prop} [Decidable c] {s a b : State} (h : KickKept s a) (k : KickKept s b) :
    KickKept s (if c then a else b) := by
  split
  · exact h
  · exact k

/-- An engine in service that takes work stays in service. -/
theorem KickKept.of_takes {s : State} {e : Nat} (h : (engineOf s e).st = .inService) (w : EngineWork) (q : Nat)
    (fs : List CompFrame) (js : List HostJob) (rs : List (Nat × Nat)) :
    KickKept s { s with comp := { s.comp with
      engines := kput engineReset s.comp.engines e ⟨.inService, w, q⟩, waiting := fs, jobs := js, recent := rs } } := by
  refine ⟨itemsBut_refl _ s, rfl, fun _ => rfl, fun _ h => h, fun _ => rfl, rfl, rfl, fun d => ?_⟩
  refine (congrArg Engine.st (engineOf_setEngine s e d ⟨.inService, w, q⟩)).trans ?_
  split
  · next hd => rw [← hd, h]
  · rfl

theorem giveWork_kickKept {s : State} {e : Nat} (h : (engineOf s e).st = .inService) : KickKept s (giveWork s e) := by
  unfold giveWork
  dsimp only
  split
  · exact .ite (.of_takes h ..) (.of_takes h ..)
  · exact .of_takes h ..
  · exact .of_takes h ..
  · exact .refl s

theorem compAssign_kickKept (s : State) : KickKept s (compAssign s) := by
  unfold compAssign
  refine List.foldlRecOn (motive := KickKept s) _ _ (.refl s) fun t ht e _ => ?_
  dsimp only
  split
  · next h => exact (giveWork_kickKept h.1).after ht
  · exact ht

/-- A raise leaves everything but the collector, which it waits in. -/
theorem detect_kickKept (s : State) (x : Raise) : KickKept s (detect s x) := by
  have hcol : detect s x = { s with col := (detect s x).col } := detect_eq s x
  refine ⟨itemsBut_of_params_eq (detect_params s x), ?_, fun n => ?_, ?_, isLive_detect s x, ?_, ?_, fun e => ?_⟩
  · rw [hcol]
  · rw [hcol]; rfl
  · rw [detected_detect]; exact List.subset_append_left _ _
  · rw [hcol]
  · rw [hcol]
  · rw [hcol]; rfl

theorem quietIn_kickKept (s : State) (src ticks : Nat) : KickKept s (quietIn s src ticks) :=
  ⟨itemsBut_refl _ s, rfl, fun _ => rfl, fun _ h => h, isLive_setSrcRec s src, rfl, rfl, fun _ => rfl⟩

theorem setRing_kickKept {s : State} {r : Nat} {x : Ring} (h : x.cons = (ringOf s r).cons) : KickKept s (setRing s r x) :=
  ⟨itemsBut_refl _ s, rfl, cons_setRing h, fun _ h => h, fun _ => rfl, rfl, rfl, fun _ => rfl⟩

theorem dropZoneFrame_kickKept (s : State) (r : Nat) (qs : List QFrame) : KickKept s (dropZoneFrame s r qs) := by
  unfold dropZoneFrame
  exact ((quietIn_kickKept _ 85 secTicks).after (detect_kickKept _ _)).after (setRing_kickKept (by rfl))

theorem shedZoneFrames_kickKept (n : Nat) (s : State) : KickKept s (shedZoneFrames n s) := by
  induction n generalizing s with
  | zero => exact .refl s
  | succ n ih =>
    unfold shedZoneFrames
    refine .ite (.refl s) ?_
    split
    · exact (ih _).after (dropZoneFrame_kickKept s _ _)
    · exact .refl s

theorem queueZone_kickKept (s : State) (z : Nat) (f : Frame) : KickKept s (queueZone s z f) := by
  unfold queueZone
  exact (shedZoneFrames_kickKept _ _).after (setRing_kickKept (by rfl))

theorem bypassTo_kickKept (limit n : Nat) (s : State) : KickKept s (bypassTo limit n s) := by
  induction n generalizing s with
  | zero => exact .refl s
  | succ n ih =>
    unfold bypassTo
    refine .ite (.refl s) ?_
    split
    · exact .refl s
    · next f fs _ =>
      have hleaves : KickKept s { s with comp := { s.comp with waiting := fs } } :=
        ⟨itemsBut_refl _ s, rfl, fun _ => rfl, fun _ h => h, fun _ => rfl, rfl, rfl, fun _ => rfl⟩
      have hcounts (u : State) : KickKept u (bumpP u 0x0F 0 cBYPASS_FRAMES) :=
        ⟨bumpP_itemsBut u (by simp), rfl, fun _ => rfl, fun _ h => h, fun _ => rfl, rfl, rfl, fun _ => rfl⟩
      exact (ih _).after ((quietIn_kickKept _ 58 secTicks).after ((detect_kickKept _ _).after
        ((hcounts _).after ((queueZone_kickKept _ _ _).after hleaves))))

theorem compKick_kickKept (s : State) : KickKept s (compKick s) := by
  unfold compKick bypassPast
  exact (KickKept.ite (bypassTo_kickKept _ _ _) (.refl _)).after (compAssign_kickKept s)

theorem compKick_hostMem (s : State) : (compKick s).link.hostMem = s.link.hostMem := by
  obtain ⟨-, -, hmem, -⟩ := compKick_kept s
  exact hmem

/-- With nothing waiting there is no work to give out. -/
theorem compKick_of_empty {s : State} (hwaiting : s.comp.waiting = []) (hjobs : s.comp.jobs = []) : compKick s = s := by
  have hgive (e : Nat) : giveWork s e = s := by simp [giveWork, hwaiting, hjobs]
  have hassign : compAssign s = s := by
    refine List.foldlRecOn (motive := fun t => t = s) _ _ rfl fun t ht e _ => ?_
    rw [ht]
    dsimp only
    rw [hgive, ite_self]
  have hbacklog : backlog s = 0 := by simp [backlog, hwaiting, sumN]
  simp [compKick, hassign, bypassPast, hbacklog]

end Sys2Proof.Machine
end

section
/-! PROOFS. Blocks of the compressor (10_stream_compressor.md): what an engine's block that is done does with its frame or job, for O31. -/

namespace Sys2Proof.Machine

/-! ### A frame joins its ring (14 R307) -/

/-- Bytes that the frames waiting for a ring take. -/
def ringWaiting (s : State) (r : Nat) : Nat := sumN ((ringOf s r).queue.map (fun q => frameSize q.frame))

theorem sumN_eq_sum (xs : List Nat) : sumN xs = xs.sum := List.sum_eq_foldl.symm

theorem zoneWaiting_eq_sum (s : State) : zoneWaiting s = ((List.range 128).map (ringWaiting s)).sum := sumN_eq_sum _

theorem queue_queueFrame (s : State) (z : Nat) (f : Frame) (l : Job) :
    (ringOf (queueFrame s z f l) z).queue = (ringOf s z).queue ++ [⟨f, nowClk s, l⟩] := by
  rw [queueFrame, ringOf_setRing, if_pos rfl]

theorem ringWaiting_queueFrame (s : State) (z r : Nat) (f : Frame) (l : Job) :
    ringWaiting (queueFrame s z f l) r = ringWaiting s r + if z = r then frameSize f else 0 := by
  split
  · next h =>
    subst h
    rw [ringWaiting, queue_queueFrame, List.map_append, sumN_eq_sum, List.sum_append, ringWaiting, sumN_eq_sum]
    simp
  · next h => rw [ringWaiting, queueFrame, ringOf_setRing, if_neg h, ringWaiting, Nat.add_zero]

/-- One summand of a list without repeats grows by `k`, if it is there, and the sum by no more. -/
theorem sum_map_bump_le {zs : List Nat} (hzs : zs.Nodup) (f : Nat → Nat) (z k : Nat) :
    (zs.map fun r => f r + if z = r then k else 0).sum ≤ (zs.map f).sum + k := by
  induction zs with
  | nil => exact Nat.zero_le _
  | cons r zs ih =>
    obtain ⟨hr, hnodup⟩ := List.nodup_cons.mp hzs
    simp only [List.map_cons, List.sum_cons]
    by_cases h : z = r
    · subst h
      have hrest : (zs.map fun r => f r + if z = r then k else 0) = zs.map f :=
        List.map_congr_left fun r hmem => by rw [if_neg (ne_of_mem_of_not_mem hmem hr).symm, Nat.add_zero]
      rw [hrest, if_pos rfl]
      omega
    · have := ih hnodup
      rw [if_neg h]
      omega

/-- A frame that joins a queue adds at most its size to the waiting frames: nothing if its ring is no zone's. -/
theorem zoneWaiting_queueFrame_le (s : State) (z : Nat) (f : Frame) (l : Job) :
    zoneWaiting (queueFrame s z f l) ≤ zoneWaiting s + frameSize f := by
  rw [zoneWaiting_eq_sum, zoneWaiting_eq_sum, funext fun r => ringWaiting_queueFrame s z r f l]
  exact sum_map_bump_le List.nodup_range (ringWaiting s) z (frameSize f)

/-- A frame for which the waiting frames leave room joins its ring, and none is shed. -/
theorem queueZone_of_room {s : State} {f : Frame} (z : Nat) (h : zoneWaiting s + frameSize f ≤ 33554432) :
    queueZone s z f = queueFrame s z f .none := by
  rw [queueZone, shedZoneFrames, if_pos (Nat.le_trans (zoneWaiting_queueFrame_le s z f .none) h)]

theorem frameSize_mono {f g : Frame} (h : f.payload.length ≤ g.payload.length) : frameSize f ≤ frameSize g := by
  unfold frameSize
  omega

/-! ### A zone frame's block (10 R222, R223) -/

/-- A compressed format carries the shorter of the payload and its compressed form; beside the ring only counts change. -/
theorem frameDone_queues (s : State) {f : CompFrame} (h : f.format ≠ 2) : ∃ u x, frameDone s f = queueZone u f.frame.zone x ∧
    u.link = s.link ∧ u.time = s.time ∧ u.comp = { s.comp with ratioIn := u.comp.ratioIn, ratioOut := u.comp.ratioOut } ∧
    x.payload.length ≤ f.frame.payload.length ∧ x.zone = f.frame.zone ∧ x.ts = f.frame.ts := by
  unfold frameDone
  dsimp only
  generalize frameStream f.format _ = out
  by_cases hlen : f.frame.payload.length ≤ out.length
  · simp only [h, hlen, ne_eq, not_false_eq_true, decide_true, Bool.and_self, if_true]
    exact ⟨_, _, rfl, rfl, rfl, rfl, Nat.le_refl _, rfl, rfl⟩
  · simp only [hlen, decide_false, Bool.and_false, Bool.false_eq_true, if_false]
    exact ⟨_, _, rfl, rfl, rfl, rfl, Nat.le_of_not_le hlen, rfl, rfl⟩

/-! ### A job's last block (10 R228, R233) -/

/-- With nothing left to code or to form, a single job's output is complete: its completion is all that is written. -/
theorem jobDone_of_ended (s : State) {j : HostJob} (hcodes : j.codes = []) (hneeds : jobNeeds j = false) (hstream : j.stream = none) :
    ∃ u k, jobDone s j = endJob u k 0 (k.base + k.src.length) ∧ u.comp = s.comp ∧ u.params = s.params := by
  have hneeds' (n c : Nat) (bits : List Bool) :
      jobNeeds { jobWrote j n with codes := [], partBits := bits, consumed := c } = false := hneeds
  have hwrite (room : Nat) (most : Option Nat) :
      writeCodes room most [] ⟨[], j.partBits, [], 0, 0, .all⟩ = ⟨[], j.partBits, [], 0, 0, .all⟩ := rfl
  refine ⟨{ s with link := { s.link with hostMem := jobMem s.link.hostMem j [] } },
    { jobWrote j 0 with codes := [], partBits := j.partBits, consumed := j.consumed + 0 }, ?_, rfl, rfl⟩
  simp only [jobDone, hcodes, hneeds, Bool.and_false, Bool.false_eq_true, if_false, hwrite, hneeds', List.reverse_nil]
  rw [keepStream]
  simp only [jobWrote, hstream]

theorem jobCompletion_rest (s : State) (j : HostJob) (status upTo : Nat) :
    jobCompletion s j status upTo =
      { s with params := (jobCompletion s j status upTo).params, link := (jobCompletion s j status upTo).link } := by
  unfold jobCompletion
  dsimp only
  split
  · rfl
  · rfl

theorem endJob_comp (s : State) (j : HostJob) (status upTo : Nat) : (endJob s j status upTo).comp = s.comp := by
  rw [endJob, announce_rest, jobCompletion_rest]

theorem endJob_time (s : State) (j : HostJob) (status upTo : Nat) : (endJob s j status upTo).time = s.time := by
  rw [endJob, announce_rest, jobCompletion_rest]

theorem endJob_params (s : State) (j : HostJob) (status upTo : Nat) :
    (endJob s j status upTo).params = (jobCompletion s j status upTo).params := announce_params _ 135

/-- A job that ends is counted; one that is suspended is not. -/
theorem jobsDone_endJob (s : State) (j : HostJob) {status : Nat} (upTo : Nat) (h : status ≠ 0x0D) :
    getP (endJob s j status upTo) 0x0F 0 cJOBS_DONE = inc32 (getP s 0x0F 0 cJOBS_DONE) := by
  rw [getP_of_params_eq (endJob_params ..), jobCompletion]
  simp only [h, if_false]
  exact getP_bumpP_same _ _ _ _

theorem endJob_itemsBut (s : State) (j : HostJob) (status upTo : Nat) :
    itemsBut [objId 0x0F 0 cJOBS_DONE] s (endJob s j status upTo) := by
  have hdone : itemsBut [objId 0x0F 0 cJOBS_DONE] s (jobCompletion s j status upTo) := by
    unfold jobCompletion
    exact itemsBut_ite (itemsBut_of_params_eq rfl) (setP_itemsBut s _ (by simp))
  exact itemsBut_trans hdone (itemsBut_of_params_eq (endJob_params ..))

/-! ### COMP_BLOCK_DONE (10 R218, R223, R228) -/

/-- An engine is free again. -/
def engineFreed (s : State) (e : Nat) : State := setEngine s e { engineOf s e with work := .idle }

theorem engineOf_engineFreed_same (s : State) (e : Nat) : engineOf (engineFreed s e) e = { engineOf s e with work := .idle } :=
  engineOf_setEngine_same s e _

theorem engineOf_engineFreed_ne {e d : Nat} (s : State) (h : d ≠ e) : engineOf (engineFreed s e) d = engineOf s d :=
  engineOf_setEngine_ne s _ h

theorem zoneWaiting_of_link_eq {s t : State} (h : t.link = s.link) : zoneWaiting t = zoneWaiting s := by
  simp only [zoneWaiting, ringOf, h]

theorem snagArmed_of_no_snags {s : State} (h : s.col.snags = []) (num target : Nat) : snagArmed s num target = false := by
  simp [snagArmed, snagOf, h]

section BlockDone
variable {e : Nat} {s : State} (he : e < 9) (hst : (engineOf s e).st = .inService) (hready : (engineOf s e).readyAt ≤ nowClk s)
  (hsnags : s.col.snags = [])
include he hst hready hsnags

/-- With no snag a block passes its check: the engine is free and the frame goes on. -/
theorem compBlockDone_zone {f : CompFrame} (hwork : (engineOf s e).work = .zone f) :
    exec (.compBlockDone e) s = .next (compKick (frameDone (engineFreed s e) f)) := by
  show execCompBlockDone e s = _
  have harmed := snagArmed_of_no_snags hsnags 0x0041 e
  simp [execCompBlockDone, Nat.not_le.mpr he, hst, Nat.not_lt.mpr hready, harmed, hwork, engineFreed]

/-- With no snag the engine is free and the job goes on. -/
theorem compBlockDone_job {j : HostJob} (hwork : (engineOf s e).work = .job j) :
    exec (.compBlockDone e) s = .next (compKick (jobDone (engineFreed s e) j)) := by
  show execCompBlockDone e s = _
  have harmed := snagArmed_of_no_snags hsnags 0x0041 e
  simp [execCompBlockDone, Nat.not_le.mpr he, hst, Nat.not_lt.mpr hready, harmed, hwork, engineFreed]

variable (hwaiting : s.comp.waiting = []) (hjobs : s.comp.jobs = [])
include hwaiting hjobs

theorem compBlockDone_sends_frame {f : CompFrame} (hwork : (engineOf s e).work = .zone f) (hformat : f.format ≠ 2)
    (hroom : zoneWaiting s + frameSize f.frame ≤ 33554432) : ∃ t x, exec (.compBlockDone e) s = .next t ∧
      (engineOf t e).work = .idle ∧ (engineOf t e).st = .inService ∧
      (ringOf t f.frame.zone).queue = (ringOf s f.frame.zone).queue ++ [⟨x, nowClk s, .none⟩] ∧
      x.payload.length ≤ f.frame.payload.length ∧ x.zone = f.frame.zone ∧ x.ts = f.frame.ts ∧
      ∀ d, d ≠ e → engineOf t d = engineOf s d := by
  obtain ⟨u, x, hdone, hlink, htime, hcomp, hlen, hzone, hts⟩ := frameDone_queues (engineFreed s e) hformat
  have hsize : zoneWaiting u + frameSize x ≤ 33554432 := by
    rw [zoneWaiting_of_link_eq (t := u) (s := s) hlink]
    exact Nat.le_trans (Nat.add_le_add_left (frameSize_mono hlen) _) hroom
  have hkick : compKick (queueFrame u f.frame.zone x .none) = queueFrame u f.frame.zone x .none :=
    compKick_of_empty ((congrArg Compressor.waiting hcomp).trans hwaiting) ((congrArg Compressor.jobs hcomp).trans hjobs)
  have hengines : u.comp.engines = (engineFreed s e).comp.engines := by rw [hcomp]
  have hengine (d : Nat) : engineOf (queueFrame u f.frame.zone x .none) d = engineOf (engineFreed s e) d :=
    engineOf_of_engines_eq hengines d
  refine ⟨queueFrame u f.frame.zone x .none, x, ?_, ?_, ?_, ?_, hlen, hzone, hts, fun d hd => ?_⟩
  · rw [compBlockDone_zone he hst hready hsnags hwork, hdone, queueZone_of_room _ hsize, hkick]
  · rw [hengine, engineOf_engineFreed_same]
  · rw [hengine, engineOf_engineFreed_same]; exact hst
  · rw [queue_queueFrame, ringOf, hlink, nowClk, htime]; rfl
  · rw [hengine, engineOf_engineFreed_ne s hd]

theorem compBlockDone_ends_job {j : HostJob} (hwork : (engineOf s e).work = .job j) (hcodes : j.codes = [])
    (hneeds : jobNeeds j = false) (hstream : j.stream = none) : ∃ t, exec (.compBlockDone e) s = .next t ∧
      (engineOf t e).work = .idle ∧ getP t 0x0F 0 cJOBS_DONE = inc32 (getP s 0x0F 0 cJOBS_DONE) := by
  obtain ⟨u, k, hdone, hucomp, huparams⟩ := jobDone_of_ended (engineFreed s e) hcodes hneeds hstream
  have hcomp : (endJob u k 0 (k.base + k.src.length)).comp = (engineFreed s e).comp := (endJob_comp ..).trans hucomp
  have hkick : compKick (endJob u k 0 (k.base + k.src.length)) = endJob u k 0 (k.base + k.src.length) :=
    compKick_of_empty ((congrArg Compressor.waiting hcomp).trans hwaiting) ((congrArg Compressor.jobs hcomp).trans hjobs)
  refine ⟨endJob u k 0 (k.base + k.src.length), ?_, ?_, ?_⟩
  · rw [compBlockDone_job he hst hready hsnags hwork, hdone, hkick]
  · rw [engineOf_of_engines_eq (congrArg Compressor.engines hcomp), engineOf_engineFreed_same]
  · rw [jobsDone_endJob _ _ _ (by decide), getP_of_params_eq huparams]
    rfl

end BlockDone

end Sys2Proof.Machine
end

section
/-! PROOFS. Suspended jobs, streams and the compressor's commands (10_stream_compressor.md): O31. -/

namespace Sys2Proof.Machine

/-! ### Jobs and streams that go (10 R230, R231) -/

/-- `t` has the compressor of `s` but for jobs that no longer wait and for what is known of streams. -/
structure JobsLeave (s t : State) : Prop where
  comp : t.comp = { s.comp with jobs := t.comp.jobs, streams := t.comp.streams }
  jobs : t.comp.jobs ⊆ s.comp.jobs
  time : t.time = s.time

theorem JobsLeave.refl (s : State) : JobsLeave s s := ⟨rfl, fun _ h => h, rfl⟩

theorem JobsLeave.after {a b c : State} (k : JobsLeave b c) (h : JobsLeave a b) : JobsLeave a c :=
  ⟨k.comp.trans (congrArg (fun x => { x with jobs := c.comp.jobs, streams := c.comp.streams }) h.comp),
    fun _ hx => h.jobs (k.jobs hx), k.time.trans h.time⟩

theorem JobsLeave.foldl {β : Type} {f : State → β → State} (h : ∀ s b, JobsLeave s (f s b)) (xs : List β) (s : State) :
    JobsLeave s (xs.foldl f s) :=
  List.foldlRecOn (motive := JobsLeave s) xs f (.refl s) fun t k b _ => (h t b).after k

theorem JobsLeave.streamBusy {s t : State} (h : JobsLeave s t) (n : Nat) : streamBusy t n = streamBusy s n := by
  unfold Machine.streamBusy engineOf
  rw [h.comp]

/-- What is known of a stream's number. -/
def streamOf (s : State) (n : Nat) : StreamSlot := kget streamNone s.comp.streams n

theorem streamOf_setStream (s : State) (n m : Nat) (x : StreamSlot) :
    streamOf (setStream s n x) m = if n = m then x else streamOf s m := kget_kput streamNone s.comp.streams n m x

theorem setStream_jobsLeave (s : State) (n : Nat) (x : StreamSlot) : JobsLeave s (setStream s n x) := ⟨rfl, fun _ h => h, rfl⟩

/-- The jobs of a list end, each with a completion. -/
theorem endJobs_rest (js : List HostJob) (status upTo : Nat) (s : State) :
    (js.foldl (fun s j => endJob s j status upTo) s).comp = s.comp ∧ (js.foldl (fun s j => endJob s j status upTo) s).time = s.time ∧
      itemsBut [objId 0x0F 0 cJOBS_DONE] s (js.foldl (fun s j => endJob s j status upTo) s) :=
  List.foldlRecOn (motive := fun t : State => t.comp = s.comp ∧ t.time = s.time ∧ itemsBut [objId 0x0F 0 cJOBS_DONE] s t) js _
    ⟨rfl, rfl, itemsBut_refl _ s⟩ fun t ⟨hcomp, htime, hitems⟩ j _ => ⟨(endJob_comp t j status upTo).trans hcomp,
      (endJob_time t j status upTo).trans htime, itemsBut_trans hitems (endJob_itemsBut t j status upTo)⟩

/-- A stream that is discarded takes its waiting jobs with it, and no other stream is touched. -/
theorem discardStream_spec (s : State) (n : Nat) : JobsLeave s (discardStream s n) ∧
    (∀ m, m ≠ n → streamOf (discardStream s n) m = streamOf s m) ∧ itemsBut [objId 0x0F 0 cJOBS_DONE] s (discardStream s n) := by
  obtain ⟨hcomp, htime, hitems⟩ := endJobs_rest (s.comp.jobs.filter (fun j => decide (j.stream = some n))) 0x04 0
    { s with comp := { s.comp with jobs := s.comp.jobs.filter (fun j => !decide (j.stream = some n)) } }
  refine ⟨(setStream_jobsLeave _ n _).after ⟨?_, ?_, htime⟩, fun m hm => ?_, hitems⟩
  · rw [hcomp]
  · rw [hcomp]; exact fun _ h => (List.mem_filter.mp h).1
  · rw [discardStream, streamOf_setStream, if_neg hm.symm, streamOf, hcomp, streamOf]

/-! ### SUSPEND_TIMEOUT_EXPIRY (10 R230, R231) -/

/-- A suspended job is lost, and its stream with it. -/
def loseJob (s : State) (j : HostJob) : State :=
  match j.stream with
  | some n => discardStream (bumpP s 0x0F 0 cSUSPENDED_LOST) n
  | none => bumpP s 0x0F 0 cSUSPENDED_LOST

/-- A stream that is idle past its time is discarded. -/
def expireStream (s : State) (n : Nat) : State :=
  match kget streamNone s.comp.streams n with
  | .opened x =>
    if x.dropAt ≤ nowClk s ∧ !streamBusy s n ∧ !s.comp.jobs.any (fun j => decide (j.stream = some n)) then setStream s n .discarded
    else s
  | _ => s

/-- The state without the suspended jobs that are due. -/
def dueOut (s : State) : State :=
  { s with comp := { s.comp with suspended := s.comp.suspended.filter (fun j => !decide (j.dropAt ≤ nowClk s)) } }

/-- The suspended jobs that are due. -/
def dueJobs (s : State) : List HostJob := s.comp.suspended.filter (fun j => decide (j.dropAt ≤ nowClk s))

theorem suspendTimeoutExpiry_eq (s : State) :
    exec .suspendTimeoutExpiry s = .next ([0, 1, 2, 3].foldl expireStream ((dueJobs s).foldl loseJob (dueOut s))) := rfl

theorem loseJob_spec (s : State) (j : HostJob) : JobsLeave s (loseJob s j) ∧
    (∀ n, j.stream ≠ some n → streamOf (loseJob s j) n = streamOf s n) ∧
    getP (loseJob s j) 0x0F 0 cSUSPENDED_LOST = inc32 (getP s 0x0F 0 cSUSPENDED_LOST) := by
  have hcount := getP_bumpP_same s 0x0F 0 cSUSPENDED_LOST
  unfold loseJob
  split
  · next n hn =>
    obtain ⟨hleave, hother, hitems⟩ := discardStream_spec (bumpP s 0x0F 0 cSUSPENDED_LOST) n
    refine ⟨hleave.after ⟨rfl, fun _ h => h, rfl⟩, fun m hm => hother m fun h => hm (h ▸ hn), ?_⟩
    exact (hitems _ (by decide)).trans hcount
  · exact ⟨⟨rfl, fun _ h => h, rfl⟩, fun _ _ => rfl, hcount⟩

/-- An open stream whose time is over and that no job holds (10 R231). -/
def StreamDue (s : State) (n : Nat) : Prop :=
  ∃ x, streamOf s n = .opened x ∧ x.dropAt ≤ nowClk s ∧ streamBusy s n = false ∧ ∀ j ∈ s.comp.jobs, j.stream ≠ some n

/-- A stream stays due while jobs leave and its own record stays. -/
theorem StreamDue.of_jobsLeave {s t : State} {n : Nat} (h : StreamDue s n) (hleave : JobsLeave s t)
    (hstream : streamOf t n = streamOf s n) : StreamDue t n := by
  obtain ⟨x, hx, hdue, hbusy, hjobs⟩ := h
  exact ⟨x, hstream.trans hx, by rwa [nowClk, hleave.time], (hleave.streamBusy n).trans hbusy, fun j hj => hjobs j (hleave.jobs hj)⟩

theorem expireStream_of_due {s : State} {n : Nat} (h : StreamDue s n) : expireStream s n = setStream s n .discarded := by
  obtain ⟨x, hx, hdue, hbusy, hjobs⟩ := h
  have hnone : s.comp.jobs.any (fun j => decide (j.stream = some n)) = false := by
    simpa only [List.any_eq_false, decide_eq_true_eq] using hjobs
  rw [streamOf] at hx
  simp [expireStream, hx, hdue, hbusy, hnone]

/-- A stream's time touches only the stream's own record, and no item. -/
theorem expireStream_spec (s : State) (n : Nat) : JobsLeave s (expireStream s n) ∧ (expireStream s n).params = s.params ∧
    (∀ m, m ≠ n → streamOf (expireStream s n) m = streamOf s m) ∧
    (streamOf s n = .discarded → streamOf (expireStream s n) n = .discarded) := by
  unfold expireStream
  split
  · split
    · exact ⟨setStream_jobsLeave s n _, rfl, fun m hm => by rw [streamOf_setStream, if_neg hm.symm],
        fun _ => by rw [streamOf_setStream, if_pos rfl]⟩
    · exact ⟨.refl s, rfl, fun _ _ => rfl, fun h => h⟩
  · exact ⟨.refl s, rfl, fun _ _ => rfl, fun h => h⟩

theorem expireStreams_rest (ns : List Nat) (s : State) :
    JobsLeave s (ns.foldl expireStream s) ∧ (ns.foldl expireStream s).params = s.params :=
  ⟨.foldl (fun s n => (expireStream_spec s n).1) ns s, List.foldlRecOn (motive := fun t : State => t.params = s.params) ns _ rfl
    fun t ht n _ => (expireStream_spec t n).2.1.trans ht⟩

theorem discarded_expireStreams {s : State} {n : Nat} (ns : List Nat) (h : streamOf s n = .discarded) :
    streamOf (ns.foldl expireStream s) n = .discarded :=
  List.foldlRecOn (motive := fun t : State => streamOf t n = .discarded) ns _ h fun t ht m _ => by
    obtain ⟨-, -, hother, hsame⟩ := expireStream_spec t m
    by_cases hm : n = m
    · subst hm; exact hsame ht
    · exact (hother n hm).trans ht

/-- A stream that is due is discarded, whatever comes before and after it in the list. -/
theorem expireStreams_discards {s : State} {n : Nat} {ns : List Nat} (hn : n ∈ ns) (h : StreamDue s n) :
    streamOf (ns.foldl expireStream s) n = .discarded := by
  induction ns generalizing s with
  | nil => exact absurd hn List.not_mem_nil
  | cons m ns ih =>
    rw [List.foldl_cons]
    by_cases hm : n = m
    · subst hm
      exact discarded_expireStreams ns (by rw [expireStream_of_due h, streamOf_setStream, if_pos rfl])
    · obtain ⟨hleave, -, hother, -⟩ := expireStream_spec s m
      exact ih ((List.mem_cons.mp hn).resolve_left hm) (h.of_jobsLeave hleave (hother n hm))

theorem streamBusy_eq_false {s : State} {n : Nat} : streamBusy s n = false ↔
    (∀ e < 9, ∀ j, (engineOf s e).work = .job j → j.stream ≠ some n) ∧ ∀ j ∈ s.comp.suspended, j.stream ≠ some n := by
  simp only [streamBusy, Bool.or_eq_false_iff, List.any_eq_false, List.mem_range, decide_eq_true_eq]
  refine and_congr_left fun _ => forall₂_congr fun e _ => ?_
  cases (engineOf s e).work <;> simp

theorem suspendTimeoutExpiry_discards (s : State) : ∃ t, exec .suspendTimeoutExpiry s = .next t ∧
    t.comp.suspended = s.comp.suspended.filter (fun j => !decide (j.dropAt ≤ nowClk s)) ∧
    (∀ j, s.comp.suspended.filter (fun j => decide (j.dropAt ≤ nowClk s)) = [j] →
      getP t 0x0F 0 cSUSPENDED_LOST = inc32 (getP s 0x0F 0 cSUSPENDED_LOST)) ∧
    ∀ n x, n < 4 → kget streamNone s.comp.streams n = .opened x → x.dropAt ≤ nowClk s → streamBusy s n = false →
      (∀ j ∈ s.comp.jobs, j.stream ≠ some n) → kget streamNone t.comp.streams n = .discarded := by
  have hlost : JobsLeave (dueOut s) ((dueJobs s).foldl loseJob (dueOut s)) := .foldl (fun s j => (loseJob_spec s j).1) _ _
  obtain ⟨hleave, hparams⟩ := expireStreams_rest [0, 1, 2, 3] ((dueJobs s).foldl loseJob (dueOut s))
  refine ⟨_, suspendTimeoutExpiry_eq s, ?_, fun j hj => ?_, fun n x hn hx hdue hbusy hjobs => ?_⟩
  · rw [(hleave.after hlost).comp, dueOut]
  · obtain ⟨-, -, hcount⟩ := loseJob_spec (dueOut s) j
    rw [getP_of_params_eq hparams, show dueJobs s = [j] from hj]
    exact hcount
  · obtain ⟨hengines, hsuspended⟩ := streamBusy_eq_false.mp hbusy
    have hout : StreamDue (dueOut s) n :=
      ⟨x, hx, hdue, streamBusy_eq_false.mpr ⟨hengines, fun j hj => hsuspended j (List.mem_filter.mp hj).1⟩, hjobs⟩
    have hstream : streamOf ((dueJobs s).foldl loseJob (dueOut s)) n = streamOf (dueOut s) n :=
      List.foldlRecOn (motive := fun t => streamOf t n = streamOf (dueOut s) n) _ _ rfl fun t ht j hj =>
        ((loseJob_spec t j).2.1 n (hsuspended j (List.mem_filter.mp hj).1)).trans ht
    exact expireStreams_discards (by simp; omega) (hout.of_jobsLeave hlost hstream)

/-! ### COMP_CONFIG (10 R225, R237) -/

/-- An item whose object is not among those applied stays. -/
theorem kget_applyStaged_other {s : State} {f : Nat → Bool} {o : Nat} (hf : f o = false) :
    kget paramReset (applyStaged s f).params o = kget paramReset s.params o := by
  rw [applyStaged_params]
  refine kget_putItems s (fun q hq ho => ?_) (.inr rfl)
  obtain ⟨x, hx, hq⟩ := List.mem_filterMap.mp hq
  obtain ⟨w, -, rfl⟩ := Option.map_eq_some_iff.mp hq
  have hfx : f x.1 = true := (List.mem_filter.mp hx).2
  rw [show x.1 = o from ho, hf] at hfx
  exact absurd hfx Bool.false_ne_true

/-- Taking the request moves MBX_ACCEPTED alone, so the staged items are applied as they are without it. -/
theorem applyStaged_accept {s : State} (r : Req) (op : Nat) (f : Nat → Bool) {o : Nat} (h : o ≠ objId 0x01 0 xMBX_ACCEPTED) :
    kget paramReset (applyStaged (accept s r op) f).params o = kget paramReset (applyStaged s f).params o := by
  cases hf : f o with
  | true => rw [kget_applyStaged hf, kget_applyStaged hf, accept_params s r op o h, stagedOf_accept]
  | false => rw [kget_applyStaged_other hf, kget_applyStaged_other hf, accept_params s r op o h]

section Config
variable {r : Req} {s : State} (hopen : mailboxOpen s r.slot = true)
include hopen

theorem compConfig_general (zone : Nat) (h : planN s 0x0F 0 cHOST_RESERVE ≤ natP s 0x0F 0 cHOST_RESERVE) :
    ∃ t, exec (.compConfig r 0 zone) s = .next t ∧ answered t r.slot okBare ∧ ∀ o v, compScope 0 0 o = true →
      o ≠ objId 0x0F 0 cBYPASS_FRAMES → stagedOf s o = some v → kget paramReset t.params o = v ∧ stagedOf t o = none := by
  have hplan : planN (accept s r 0x0F01) 0x0F 0 cHOST_RESERVE ≤ natP (accept s r 0x0F01) 0x0F 0 cHOST_RESERVE := by
    rw [planN, planP_accept _ _ _ _ _ (by decide), natP_accept _ _ _ _ _ (by decide)]; exact h
  have hbody : bodyCompConfig 0 zone (accept s r 0x0F01) =
      (compKick (applyStaged (accept s r 0x0F01) (compScope 0 0)), .final okBare) := by
    simp [bodyCompConfig, Nat.not_lt.mpr hplan]
  have hkick := compKick_planKept (applyStaged (accept s r 0x0F01) (compScope 0 0))
  have hitems := (compKick_kickKept (applyStaged (accept s r 0x0F01) (compScope 0 0))).items
  obtain ⟨t, hexec, hanswer, -, hparams, hstaged⟩ := answered_of_body (c := .compConfig r 0 zone) rfl hopen hbody
    (hkick.snags.trans (snags_of_mailboxOpen (s := s) hopen))
  refine ⟨t, hexec, hanswer, fun o v ho hne hv => ?_⟩
  obtain ⟨hval, hnone⟩ := applyStaged_applies (s := accept s r 0x0F01) ho hv
  constructor
  · rw [hparams, hitems o (by simpa using hne), hval]
  · rw [stagedOf, hstaged, hkick.staged, ← stagedOf, hnone]

variable {z : Nat} (hz : z < 128)
include hz

theorem compConfig_zone (h : ¬ (planP s 0x0F z cZFORMAT = 2 ∧ planP s 0x0F z cZPRE = 1)) :
    ∃ s', Answers (.compConfig r 1 z) r.slot s s' okBare ∧ s' = { s with params := s'.params, staged := s'.staged } ∧
      ∀ o v, compScope 1 z o = true → stagedOf s o = some v → kget paramReset s'.params o = v ∧ stagedOf s' o = none := by
  have hbody : bodyCompConfig 1 z (accept s r 0x0F01) = (applyStaged (accept s r 0x0F01) (compScope 1 z), .final okBare) := by
    simp [bodyCompConfig, Nat.not_le.mpr hz, planP_accept, h]
  exact ⟨applyStaged s (compScope 1 z), answers_of_body (applyStaged (accept s r 0x0F01) (compScope 1 z)).params rfl hopen (by simp)
    hbody (fun o ho => applyStaged_accept r _ _ ho) rfl (snags_of_mailboxOpen hopen), rfl, fun o v ho hv => applyStaged_applies ho hv⟩

theorem compConfig_refuses_zone (hformat : planP s 0x0F z cZFORMAT = 2) (hpre : planP s 0x0F z cZPRE = 1) :
    Answers (.compConfig r 1 z) r.slot s s (badParam (objId 0x0F z cZPRE) 0) :=
  answers_of_refusal (body := bodyCompConfig 1 z) rfl hopen
    (by simp [bodyCompConfig, Nat.not_le.mpr hz, planP_accept, hformat, hpre])

end Config

/-! ### COMP_JOB_DESCRIPTOR (10 R228, R231, R233) -/

/-- A good descriptor's job is queued, and work is given out. -/
theorem compJobDescriptor_queues {q : Bulk} {s : State} (hready : descriptorReady s 3 = true) (hmagic : (jobDescOf q).magic = 0x434A)
    (hfault : descFault (jobDescOf q) = none) (hstream : streamRefuses s (jobDescOf q) = false) :
    ∃ t, exec (.compJobDescriptor q) s = .next t ∧ t.comp.orders = s.comp.orders + 1 ∧
      (ringOf t 135).cons = ((ringOf s 135).cons + 1) % 2 ^ 32 ∧ t.link.hostMem = (takeDescriptor s 3).link.hostMem := by
  have hrefuses : streamRefuses (takeDescriptor s 3) (jobDescOf q) = false := by
    rw [takeDescriptor_job_rest]; exact hstream
  have hcomp : (takeDescriptor s 3).comp = s.comp := by rw [takeDescriptor_job_rest]
  have hcons := cons_takeDescriptor_job s
  have hexec : exec (.compJobDescriptor q) s = .next (compKick { takeDescriptor s 3 with comp := { (takeDescriptor s 3).comp with
      jobs := (takeDescriptor s 3).comp.jobs ++ [freshJob (takeDescriptor s 3) (jobDescOf q)]
      orders := (takeDescriptor s 3).comp.orders + 1 } }) := by
    show execCompJobDescriptor q s = _
    simp [execCompJobDescriptor, hready, hmagic, hfault, hrefuses]
  refine ⟨_, hexec, ?_, ?_, ?_⟩
  · rw [(compKick_kickKept _).orders, hcomp]
  · rw [(compKick_kickKept _).cons]; exact hcons
  · rw [compKick_hostMem]

/-- A descriptor that is refused: its completion is written, announced and counted. -/
theorem refuseJob_spec (s : State) (d : JobDesc) (status field : Nat) : (refuseJob s d status field).comp = s.comp ∧
    (refuseJob s d status field).link.hostMem =
      memWrite s.link.hostMem d.compl (complRecord d.format status field d.tag 0 0 0 0 0) ∧
    (∀ n, (ringOf (refuseJob s d status field) n).cons = (ringOf s n).cons) ∧
    getP (refuseJob s d status field) 0x0F 0 cJOBS_DONE = inc32 (getP s 0x0F 0 cJOBS_DONE) := by
  unfold refuseJob
  dsimp only
  generalize memWrite s.link.hostMem d.compl (complRecord d.format status field d.tag 0 0 0 0 0) = m
  refine ⟨?_, ?_, fun n => ?_, ?_⟩
  · rw [announce_rest, bumpP_comp]
  · rw [announce_hostMem, bumpP_link]
  · rw [cons_announce, ringOf, bumpP_link, ringOf]
  · rw [getP_of_params_eq (announce_params ..), getP_bumpP_same, getP, getP]

/-- A descriptor with a wrong field ends at once with a completion that names it. -/
theorem compJobDescriptor_refuses {q : Bulk} {s : State} {b : Nat} (hready : descriptorReady s 3 = true)
    (hmagic : (jobDescOf q).magic = 0x434A) (hfault : descFault (jobDescOf q) = some b) :
    ∃ t, exec (.compJobDescriptor q) s = .next t ∧ t.comp = s.comp ∧
      t.link.hostMem = memWrite (takeDescriptor s 3).link.hostMem (jobDescOf q).compl
        (complRecord (jobDescOf q).format 0x03 b (jobDescOf q).tag 0 0 0 0 0) ∧
      (ringOf t 135).cons = ((ringOf s 135).cons + 1) % 2 ^ 32 ∧ getP t 0x0F 0 cJOBS_DONE = inc32 (getP s 0x0F 0 cJOBS_DONE) := by
  have hexec : exec (.compJobDescriptor q) s = .next (refuseJob (takeDescriptor s 3) (jobDescOf q) 0x03 b) := by
    show execCompJobDescriptor q s = _
    simp [execCompJobDescriptor, hready, hmagic, hfault]
  obtain ⟨hcomp, hmem, hcons, hdone⟩ := refuseJob_spec (takeDescriptor s 3) (jobDescOf q) 0x03 b
  have hrest : (takeDescriptor s 3).comp = s.comp ∧ (takeDescriptor s 3).params = s.params := by
    rw [takeDescriptor_job_rest]
    exact ⟨rfl, rfl⟩
  refine ⟨_, hexec, hcomp.trans hrest.1, hmem, (hcons 135).trans (cons_takeDescriptor_job s), ?_⟩
  rw [hdone, getP_of_params_eq hrest.2]

/-! ### COMP_RESUME (10 R230) -/

/-- With no snag a final answer is in the slot, and posting it leaves the compressor. -/
theorem answered_of_body_comp {c : Instr} {r : Req} {op : Nat} {body : State → State × Answer} {s u : State} {a : Reply}
    (hc : exec c s = .next (mbxRun c r op false body s)) (hopen : mailboxOpen s r.slot = true)
    (hbody : body (accept s r op) = (u, .final a)) (hsnags : u.col.snags = []) :
    ∃ t, exec c s = .next t ∧ answered t r.slot a ∧ t.comp = u.comp := by
  obtain ⟨hphase, hreply, -, -⟩ := post_final (a := a) r.slot hsnags
  rw [mbxRun_open c r op false body s hopen (by simp), hbody] at hc
  exact ⟨_, hc, ⟨hphase, hreply⟩, by rw [post, finish_rest]⟩

section Resume
variable {r : Req} {tag dst len : Nat} {s : State} (hopen : mailboxOpen s r.slot = true)
include hopen

/-- A resumed job leaves the suspended ones; giving work out brings none of them back. -/
theorem compResume_resumes {j : HostJob} (hlen : 64 ≤ len) (hj : s.comp.suspended.find? (fun k => decide (k.tag = tag)) = some j) :
    ∃ t, exec (.compResume r tag dst len) s = .next t ∧ answered t r.slot okBare ∧
      t.comp.suspended = s.comp.suspended.filter (fun k => !decide (k.order = j.order)) := by
  obtain ⟨u, hbody, hsuspended, hcol⟩ : ∃ u, bodyCompResume tag dst len (accept s r 0x0F02) = (compKick u, .final okBare) ∧
      u.comp.suspended = s.comp.suspended.filter (fun k => !decide (k.order = j.order)) ∧ u.col = s.col := by
    have hj' : (accept s r 0x0F02).comp.suspended.find? (fun k => decide (k.tag = tag)) = some j := hj
    simp only [bodyCompResume, Nat.not_lt.mpr hlen, if_false, hj']
    exact ⟨_, rfl, rfl, rfl⟩
  have hsnags : (compKick u).col.snags = [] := by
    rw [(compKick_planKept u).snags, hcol, snags_of_mailboxOpen hopen]
  obtain ⟨t, hexec, hanswer, hcomp⟩ := answered_of_body_comp (c := .compResume r tag dst len) rfl hopen hbody hsnags
  exact ⟨t, hexec, hanswer, by rw [hcomp, (compKick_kickKept u).suspended, hsuspended]⟩

theorem compResume_unknown (hlen : 64 ≤ len) (h : ∀ k ∈ s.comp.suspended, k.tag ≠ tag) :
    Answers (.compResume r tag dst len) r.slot s s (badState 0 tag) := by
  have hnone : (accept s r 0x0F02).comp.suspended.find? (fun k => decide (k.tag = tag)) = none :=
    List.find?_eq_none.mpr fun k hk => by simpa using h k hk
  exact answers_of_refusal (body := bodyCompResume tag dst len) rfl hopen (by simp [bodyCompResume, Nat.not_lt.mpr hlen, hnone])

theorem compResume_short (hlen : len < 64) : Answers (.compResume r tag dst len) r.slot s s (badField 128) :=
  answers_of_refusal (body := bodyCompResume tag dst len) rfl hopen (by simp [bodyCompResume, hlen])

end Resume

/-! ### Engine faults and spares (10 R234) -/

/-- A block that waits again leaves engines and collector alone, and is counted. -/
theorem redoWork_spec (s : State) (w : EngineWork) : (redoWork s w).comp.engines = s.comp.engines ∧
    (w ≠ .idle → getP (redoWork s w) 0x0F 0 cBLOCKS_REDONE = inc32 (getP s 0x0F 0 cBLOCKS_REDONE)) := by
  cases w with
  | idle => exact ⟨rfl, fun h => absurd rfl h⟩
  | zone f => exact ⟨rfl, fun _ => getP_bumpP_same _ _ _ _⟩
  | job j => exact ⟨rfl, fun _ => getP_bumpP_same _ _ _ _⟩

/-- A failed engine is out, its block waits again, it is in the repair map and source 56 is on its way. -/
def engineOut (s : State) (e : Nat) : State :=
  detect (repairAdd (redoWork (setEngine s e ⟨.failed, .idle, 0⟩) (engineOf s e).work) (.engine e)) { raiseBlank 56 with ins := e }

theorem engineFails_eq (s : State) (e : Nat) : engineFails s e =
    compKick (if (spareEngine (engineOut s e)).isNone then detectSrc (engineOut s e) 57 else engineOut s e) := rfl

theorem engineFails_kickKept (s : State) (e : Nat) : KickKept (engineOut s e) (engineFails s e) := by
  rw [engineFails_eq]
  exact (compKick_kickKept _).after (.ite (detect_kickKept _ _) (.refl _))

theorem compEngineFault_fails {e : Nat} {s : State} (he : e < 9) (hst : (engineOf s e).st = .inService) :
    ∃ t, exec (.compEngineFault e) s = .next t ∧ (engineOf t e).st = .failed ∧ repairHas t (.engine e) = true ∧
      (∃ x ∈ t.col.detected, x.src = 56 ∧ x.ins = e) ∧
      ((engineOf s e).work ≠ .idle → getP t 0x0F 0 cBLOCKS_REDONE = inc32 (getP s 0x0F 0 cBLOCKS_REDONE)) := by
  have hexec : exec (.compEngineFault e) s = .next (engineFails s e) := by
    show execCompEngineFault e s = _
    simp [execCompEngineFault, he, hst]
  obtain ⟨hengines, hredone⟩ := redoWork_spec (setEngine s e ⟨.failed, .idle, 0⟩) (engineOf s e).work
  have hkept := engineFails_kickKept s e
  refine ⟨_, hexec, ?_, ?_, ⟨{ raiseBlank 56 with ins := e }, hkept.detected (mem_detected_detect _ _), rfl, rfl⟩, fun hwork => ?_⟩
  · have hout : (engineOut s e).comp.engines = (setEngine s e ⟨.failed, .idle, 0⟩).comp.engines := by
      rw [engineOut, detect_eq, repairAdd_comp, hengines]
    rw [hkept.engines, engineOf_of_engines_eq hout, engineOf_setEngine_same]
  · rw [repairHas, hkept.repair, engineOut, (detect_kickKept _ _).repair]
    exact repairHas_repairAdd _ _
  · rw [getP, hkept.items _ (by decide), ← getP, engineOut, getP_of_params_eq (detect_params ..),
      getP_of_params_eq (repairAdd_params ..), hredone hwork]
    rfl

/-- A spare is in service, and source 56 clears. -/
def spareServes (s : State) (e : Nat) : State := clearLive (setEngine s e ⟨.inService, .idle, 0⟩) 56

theorem compSpareInService_serves {e : Nat} {s : State} (he : e < 9) (hst : (engineOf s e).st = .spare)
    (hfew : enginesInService s < 8) : ∃ t, exec (.compSpareInService e) s = .next t ∧ (engineOf t e).st = .inService ∧
      (srcRec t 56).live = false := by
  have hexec : exec (.compSpareInService e) s = .next (compKick (spareServes s e)) := by
    show execCompSpareInService e s = _
    rw [execCompSpareInService, if_pos ⟨he, hst, hfew⟩, clearIf, spareServes]
  have hkept := compKick_kickKept (spareServes s e)
  refine ⟨_, hexec, ?_, ?_⟩
  · have hcomp : (spareServes s e).comp = (setEngine s e ⟨.inService, .idle, 0⟩).comp := by
      rw [spareServes, (clearLive_onlyCollector _ 56).rest]
    rw [hkept.engines, engineOf_of_engines_eq (congrArg Compressor.engines hcomp), engineOf_setEngine_same]
  · rw [← isLive, hkept.live, spareServes, not_isLive_clearLive]

/-- Settles O31: giving work out and shedding a backlog leave alone what each command and event has done before it. -/
theorem compressor : Obligations.Compressor := by
  unfold Obligations.Compressor
  refine ⟨fun r zone s hopen h => compConfig_general hopen zone h, fun r z s hopen hz => ?_, fun q d s hd hready hmagic => ?_,
    fun e f s he hst hwork hready hsnags hwaiting hjobs hformat hroom =>
      compBlockDone_sends_frame he hst hready hsnags hwaiting hjobs hwork hformat hroom,
    fun e j s he hst hwork hready hsnags hwaiting hjobs hcodes hneeds hstream =>
      compBlockDone_ends_job he hst hready hsnags hwaiting hjobs hwork hcodes hneeds hstream,
    fun r tag dst len s hopen => ?_, fun e s he hst => compEngineFault_fails he hst,
    fun e s he hst hfew => compSpareInService_serves he hst hfew, suspendTimeoutExpiry_discards⟩
  · exact ⟨compConfig_zone hopen hz, compConfig_refuses_zone hopen hz⟩
  · subst hd
    exact ⟨compJobDescriptor_queues hready hmagic, fun b hfault => compJobDescriptor_refuses hready hmagic hfault⟩
  · exact ⟨fun j hlen hj => compResume_resumes hopen hlen hj, compResume_unknown hopen, compResume_short hopen⟩

end Sys2Proof.Machine
end

section
/-! PROOFS. Loop outputs (11_precision_front_end_loops.md): O33. -/

namespace Sys2Proof.Machine

/-! ### A command's answer leaves the state its body made (15 R317, R318) -/

theorem post_rest (s : State) (n : Nat) (a : Answer) : post s n a = { s with slots := (post s n a).slots, link := (post s n a).link } := by
  cases a with
  | final r => exact finish_rest s n r
  | later j => rw [post, writeResponse_eq]

/-- With no snag a final answer is in the slot, and posting it leaves loops, items and staged set. -/
theorem answered_of_body_loops {c : Instr} {r : Req} {op : Nat} {body : State → State × Answer} {s u : State} {a : Reply}
    (hc : exec c s = .next (mbxRun c r op false body s)) (hopen : mailboxOpen s r.slot = true)
    (hbody : body (accept s r op) = (u, .final a)) (hsnags : u.col.snags = []) :
    ∃ t, exec c s = .next t ∧ answered t r.slot a ∧ t.loops = u.loops ∧ t.params = u.params ∧ t.staged = u.staged := by
  obtain ⟨hphase, hreply, hparams, hstaged⟩ := post_final (a := a) r.slot hsnags
  rw [mbxRun_open c r op false body s hopen (by simp), hbody] at hc
  exact ⟨_, hc, ⟨hphase, hreply⟩, by rw [post_rest], hparams, hstaged⟩

/-! ### A loop's record and items -/

theorem objId_ne_of_item {d e i j m n : Nat} (hm : m < 65536) (hn : n < 65536) (h : m ≠ n) : objId d i m ≠ objId e j n := by
  unfold objId
  omega

theorem objId_ne_of_inst {d i j n : Nat} (h : i ≠ j) : objId d i n ≠ objId d j n := by
  unfold objId
  omega

/-- Writing one item leaves the items of another number, of whatever object. -/
theorem getP_setP_item {m n : Nat} (s : State) (d i e j : Nat) (v : Int) (hm : m < 65536) (hn : n < 65536) (h : m ≠ n) :
    getP (setP s d i n v) e j m = getP s e j m := by
  rw [getP_setP, if_neg (objId_ne_of_item hn hm h.symm)]

theorem loopOf_modLoop_same (s : State) (n : Nat) (f : Loop → Loop) : loopOf (modLoop s n f) n = f (loopOf s n) :=
  kget_kmod_same loopBlank s.loops.loops n f

theorem loopOf_modLoop_ne {n m : Nat} (s : State) (f : Loop → Loop) (h : m ≠ n) : loopOf (modLoop s n f) m = loopOf s m :=
  kget_kmod_ne loopBlank s.loops.loops f h.symm

theorem loopOf_of_loops_eq {s t : State} (h : t.loops = s.loops) (n : Nat) : loopOf t n = loopOf s n := by rw [loopOf, h, loopOf]

/-! ### What setpoints are formed from (11 R256, R257) -/

/-- The settings of every loop and V(REFX) are the same in `t` as in `s`: every item but the setpoints. -/
def SameSettings (s t : State) : Prop := ∀ n i, i < 65536 → i ≠ fLOOP_SET → getP t 7 n i = getP s 7 n i

theorem SameSettings.of_params_eq {s t : State} (h : t.params = s.params) : SameSettings s t :=
  fun n i _ _ => getP_of_params_eq h 7 n i

theorem SameSettings.of_itemsBut {s t : State} {n : Nat} (h : itemsBut [objId 7 n fLOOP_SET] s t) : SameSettings s t :=
  fun m i hi hne => h _ (by simpa using objId_ne_of_item (i := m) (j := n) hi (by decide) hne)

theorem accept_sameSettings (s : State) (r : Req) (op : Nat) : SameSettings s (accept s r op) :=
  fun n i _ _ => getP_accept s r op n i (by decide)

section Settings
variable {s t : State} (h : SameSettings s t)
include h

theorem SameSettings.natP {i : Nat} (n : Nat) (hi : i < 65536) (hne : i ≠ fLOOP_SET) : natP t 7 n i = natP s 7 n i :=
  congrArg Int.toNat (h n i hi hne)

theorem SameSettings.loopMode (n : Nat) : loopMode t n = loopMode s n := h.natP n (by decide) (by decide)

theorem SameSettings.refx : refx t = refx s := h.natP 0 (by decide) (by decide)

theorem SameSettings.refxOk : refxOk t = refxOk s := by rw [Machine.refxOk, h.refx, Machine.refxOk]

theorem SameSettings.loopMap (n : Nat) (x : Rat) : loopMap t n x = loopMap s n x := by
  have hnom : lp t n fREFX_NOM = lp s n fREFX_NOM := h n fREFX_NOM (by decide) (by decide)
  simp only [Machine.loopMap, h.loopMode, h.refx, hnom]

theorem SameSettings.loopFaultLevel (n : Nat) (up : Bool) : loopFaultLevel t n up = loopFaultLevel s n up := by
  simp only [Machine.loopFaultLevel, h.loopMode, h.refx, h.refxOk]

end Settings

/-! ### Work on one loop -/

/-- `t` is `s` with one loop's record and setpoint changed. -/
structure LoopDriven (n : Nat) (s t : State) : Prop where
  rest : t = { s with loops := t.loops, params := t.params }
  refxAt : t.loops.refxAt = s.loops.refxAt
  items : itemsBut [objId 7 n fLOOP_SET] s t
  others : ∀ m, m ≠ n → loopOf t m = loopOf s m

theorem LoopDriven.after {n : Nat} {a b c : State} (k : LoopDriven n b c) (h : LoopDriven n a b) : LoopDriven n a c :=
  ⟨k.rest.trans (congrArg (fun x => { x with loops := c.loops, params := c.params }) h.rest), k.refxAt.trans h.refxAt,
    itemsBut_trans h.items k.items, fun m hm => (k.others m hm).trans (h.others m hm)⟩

theorem modLoop_driven (s : State) (n : Nat) (f : Loop → Loop) : LoopDriven n s (modLoop s n f) :=
  ⟨rfl, rfl, itemsBut_refl _ s, fun _ hm => loopOf_modLoop_ne s f hm⟩

theorem loopDrive_driven (s : State) (n : Nat) (set : Int) : LoopDriven n s (loopDrive s n set) :=
  (modLoop_driven _ n _).after ⟨rfl, rfl, setP_itemsBut s set (by simp), fun _ _ => rfl⟩

theorem getP_loopDrive (s : State) (n : Nat) (set : Int) : getP (loopDrive s n set) 7 n fLOOP_SET = set :=
  getP_setP_same s 7 n fLOOP_SET set

/-- Driving a setpoint leaves all of a loop's record but the drive. -/
theorem loopOf_loopDrive (s : State) (n : Nat) (set : Int) : ∃ d, loopOf (loopDrive s n set) n = { loopOf s n with drive := d } :=
  ⟨_, loopOf_modLoop_same _ n _⟩

theorem st_loopDrive (s : State) (n : Nat) (set : Int) : (loopOf (loopDrive s n set) n).st = (loopOf s n).st := by
  obtain ⟨d, hd⟩ := loopOf_loopDrive s n set
  rw [hd]

theorem loopToFault_driven (s : State) (n : Nat) : LoopDriven n s (loopToFault s n) :=
  (loopDrive_driven _ n _).after (modLoop_driven s n _)

theorem st_loopToFault (s : State) (n : Nat) : (loopOf (loopToFault s n) n).st = .faultLevel := by
  rw [loopToFault, st_loopDrive, loopOf_modLoop_same]

theorem getP_loopToFault (s : State) (n : Nat) :
    getP (loopToFault s n) 7 n fLOOP_SET = loopFaultLevel s n (decide (lp s n fLOOP_FAIL_DIR = 1)) := getP_loopDrive _ n _

/-! ### LOOP_CFG (11 R259) -/

theorem loopItem_objId {n i : Nat} (hn : n ≤ 3) (hlo : 0x40 ≤ i) (hhi : i < 0x80) : loopItem n (objId 7 n i) = true := by
  simp only [loopItem, Bool.and_eq_true, decide_eq_true_eq]
  unfold objDom objInst objItem objId
  omega

/-- The setpoint is no item that LOOP_CFG applies. -/
theorem loopItem_set (n : Nat) : loopItem n (objId 7 n fLOOP_SET) = false := by
  have hitem : objItem (objId 7 n fLOOP_SET) = fLOOP_SET := objItem_objId 7 n (by decide)
  simp only [loopItem, hitem, Bool.and_eq_false_imp]
  exact fun _ => by decide

theorem loopOf_loopsWatch (s : State) (n : Nat) : ∃ q, loopOf (loopsWatch s) n = { loopOf s n with downSince := q } := by
  unfold loopsWatch
  refine List.foldlRecOn (motive := fun t : State => ∃ q, loopOf t n = { loopOf s n with downSince := q }) _ _
    ⟨(loopOf s n).downSince, rfl⟩ fun t ht m _ => ?_
  obtain ⟨q, hq⟩ := ht
  by_cases hm : n = m
  · subst hm
    rw [loopOf_modLoop_same, hq]
    exact ⟨_, rfl⟩
  · exact ⟨q, (loopOf_modLoop_ne t _ hm).trans hq⟩

theorem st_loopsWatch (s : State) (n : Nat) : (loopOf (loopsWatch s) n).st = (loopOf s n).st := by
  obtain ⟨q, hq⟩ := loopOf_loopsWatch s n
  rw [hq]

theorem loopsWatch_params (s : State) : (loopsWatch s).params = s.params := by rw [loopsWatch_eq]

theorem lpPlan_accept (s : State) (r : Req) (op n i : Nat) : lpPlan (accept s r op) n i = lpPlan s n i :=
  planP_accept s r op n i (by decide)

/-- A loop that starts stands at its fault level; the others go on (11 R259). -/
theorem loopStart_spec (s : State) (n : Nat) : (loopOf (loopStart s n) n).st = .faultLevel ∧
    (∀ m, m ≠ n → (loopOf (loopStart s n) m).st = (loopOf s m).st) ∧ itemsBut [objId 7 n fLOOP_SET] s (loopStart s n) ∧
    (loopStart s n).staged = s.staged ∧ (loopStart s n).col = s.col := by
  have hdriven := (loopToFault_driven _ n).after (modLoop_driven s n fun _ => { loopBlank n with st := .faultLevel, validAt := nowClk s })
  unfold loopStart
  refine ⟨(st_loopsWatch _ n).trans (st_loopToFault _ n), fun m hm => ?_, ?_, ?_, ?_⟩
  · rw [st_loopsWatch, hdriven.others m hm]
  · exact itemsBut_trans hdriven.items (itemsBut_of_params_eq (loopsWatch_params _))
  · rw [loopsWatch_eq, hdriven.rest]
  · rw [loopsWatch_eq, hdriven.rest]

/-- A loop that is released goes downscale for 100 ms (11 R259). -/
theorem loopRelease_spec (s : State) (n : Nat) : (loopOf (loopRelease s n) n).st = .releasing ∧
    (loopOf (loopRelease s n) n).releaseAt = nowClk s + 125000000 ∧
    getP (loopRelease s n) 7 n fLOOP_SET = loopFaultLevel s n false ∧ (loopRelease s n).col.snags = s.col.snags := by
  obtain ⟨u, hu, hloops, hparams, hsnags⟩ : ∃ u, loopRelease s n = loopDrive u n (loopFaultLevel u n false) ∧
      u.loops = (modLoop s n fun x => { x with
        st := .releasing, releaseAt := nowClk s + 100 * msTicks, downSince := none, sense := none, agreeAt := none, next := [] }).loops ∧
      u.params = s.params ∧ u.col.snags = s.col.snags := by
    refine ⟨_, rfl, ?_, ?_, ?_⟩ <;> split <;> rfl
  obtain ⟨d, hd⟩ := loopOf_loopDrive u n (loopFaultLevel u n false)
  rw [loopOf_of_loops_eq hloops, loopOf_modLoop_same] at hd
  rw [hu, hd, getP_loopDrive, (SameSettings.of_params_eq hparams).loopFaultLevel, (loopDrive_driven u n _).rest]
  exact ⟨rfl, rfl, rfl, hsnags⟩

section Cfg
variable {r : Req} {n : Nat} {s : State} (hopen : mailboxOpen s r.slot = true) (hn : n ≤ 3)
  (hwaits : slotWaiting (accept s r 0x0704) (.loopRelease n) = none) (hfault : loopFault (accept s r 0x0704) n = none)
include hopen hn hwaits hfault

theorem feLoopCfg_enables (hst : (loopOf s n).st = .off) (hmode : lpPlan s n fLOOP_MODE ≠ 0) :
    ∃ t, exec (.feLoopCfg r n) s = .next t ∧ answered t r.slot okBare ∧ (loopOf t n).st = .faultLevel ∧
    (∀ i v, 0x40 ≤ i → i < 0x80 → i ≠ fLOOP_SET → stagedOf s (objId 7 n i) = some v →
      getP t 7 n i = v ∧ stagedOf t (objId 7 n i) = none) ∧ ∀ m, m < 4 → m ≠ n → (loopOf t m).st = (loopOf s m).st := by
  obtain ⟨hstart, hothers, hitems, hstaged, hcol⟩ := loopStart_spec (applyStaged (accept s r 0x0704) (loopItem n)) n
  have hbody : bodyFeLoopCfg n (accept s r 0x0704) = (loopStart (applyStaged (accept s r 0x0704) (loopItem n)) n, .final okBare) := by
    have hoff : (loopOf (accept s r 0x0704) n).st = .off := hst
    simp [bodyFeLoopCfg, Nat.not_lt.mpr hn, hwaits, hfault, hoff, lpPlan_accept, hmode]
  obtain ⟨t, hexec, hanswer, hloops, hparams, hstay⟩ := answered_of_body_loops (c := .feLoopCfg r n) rfl hopen hbody
    ((congrArg Collector.snags hcol).trans (snags_of_mailboxOpen (s := s) hopen))
  refine ⟨t, hexec, hanswer, ?_, fun i v hlo hhi hne hv => ?_, fun m _ hm => ?_⟩
  · rw [loopOf_of_loops_eq hloops, hstart]
  · obtain ⟨hval, hnone⟩ := applyStaged_applies (s := accept s r 0x0704) (loopItem_objId hn hlo hhi) hv
    rw [getP_of_params_eq hparams, SameSettings.of_itemsBut hitems n i (by omega) hne, stagedOf, hstay, hstaged]
    exact ⟨hval, hnone⟩
  · rw [loopOf_of_loops_eq hloops, hothers m hm]
    rfl

theorem feLoopCfg_releases (hst : (loopOf s n).st = .normal ∨ (loopOf s n).st = .faultLevel) (hmode : lpPlan s n fLOOP_MODE = 0) :
    ∃ t, exec (.feLoopCfg r n) s = .next t ∧ answered t r.slot okBare ∧ (loopOf t n).st = .releasing ∧
      (loopOf t n).releaseAt = nowClk s + 125000000 ∧
      (stagedOf s (objId 7 n fLOOP_SET) = none → getP t 7 n fLOOP_SET = loopFaultLevel s n false) := by
  obtain ⟨hrel, hat, hset, hsnags⟩ := loopRelease_spec (accept s r 0x0704) n
  have hbody : bodyFeLoopCfg n (accept s r 0x0704) = (applyStaged (loopRelease (accept s r 0x0704) n) (loopItem n), .final okBare) := by
    have hactive : (loopOf (accept s r 0x0704) n).st = .normal ∨ (loopOf (accept s r 0x0704) n).st = .faultLevel := hst
    rcases hactive with h | h <;> simp [bodyFeLoopCfg, Nat.not_lt.mpr hn, hwaits, hfault, h, lpPlan_accept, hmode]
  obtain ⟨t, hexec, hanswer, hloops, hparams, -⟩ := answered_of_body_loops (c := .feLoopCfg r n) rfl hopen hbody
    (hsnags.trans (snags_of_mailboxOpen (s := s) hopen))
  have hrec : loopOf t n = loopOf (loopRelease (accept s r 0x0704) n) n := loopOf_of_loops_eq hloops n
  refine ⟨t, hexec, hanswer, by rw [hrec, hrel], by rw [hrec, hat]; rfl, fun _ => ?_⟩
  rw [getP_of_params_eq hparams, getP, kget_applyStaged_other (loopItem_set n), ← getP, hset,
    (accept_sameSettings s r 0x0704).loopFaultLevel]

end Cfg

/-! ### LOOP_UPDATE (11 R256) -/

/-- A loop has taken a row. -/
def rowSeen (s : State) (n : Nat) (row : ZRow) : State :=
  modLoop s n (fun y => { y with label := some row.label, updated := some (nowClk s) })

theorem loopBlocked_modLoop (s : State) (n : Nat) {f : Loop → Loop} (h : (f (loopOf s n)).downSince = (loopOf s n).downSince) :
    loopBlocked (modLoop s n f) n = loopBlocked s n := by
  have hrec : (loopOf (modLoop s n f) n).downSince = (loopOf s n).downSince := by rw [loopOf_modLoop_same, h]
  rw [loopBlocked, hrec]
  rfl

section Update
variable {n : Nat} {row : ZRow} {s : State} (hon : loopOn s n = true) (hlast : (zoneOf s (loopZone s n)).last = some row)
  (hlabel : (loopOf s n).label ≠ some row.label) (hrested : ∀ q, (loopOf s n).updated = some q → q + 1250000 ≤ nowClk s)
include hon hlast hlabel hrested

theorem loopUpdate_takes_row : exec (.loopUpdate n) s =
    .next ((loopValue s n row).elim (rowSeen s n row) fun v => loopTakes (rowSeen s n row) n (loopX s n v)) := by
  show execLoopUpdate n s = _
  unfold execLoopUpdate
  simp only [hlast]
  refine (if_pos ?_).trans ?_
  · simp only [hon, hlabel, Bool.true_and, ne_eq, not_false_eq_true, decide_true, Bool.and_true]
    split
    · next q hq => exact decide_eq_true (hrested q hq)
    · rfl
  · split
    · next v hv => rw [show loopValue s n row = some v from hv]; rfl
    · next hv => rw [show loopValue s n row = none from hv]; rfl

theorem loopUpdate_drives {v : Rat} (hv : loopValue s n row = some v) (hblocked : loopBlocked s n = false) :
    ∃ t, exec (.loopUpdate n) s = .next t ∧ t = { s with loops := t.loops, params := t.params } ∧ itemsBut [objId 7 n fLOOP_SET] s t ∧
      (loopOf t n).st = .normal ∧ getP t 7 n fLOOP_SET = loopMap s n (loopX s n v) ∧ ∀ m, m ≠ n → loopOf t m = loopOf s m := by
  have hexec := loopUpdate_takes_row hon hlast hlabel hrested
  have hfree : loopBlocked (modLoop (rowSeen s n row) n fun y => { y with x := loopX s n v, validAt := nowClk s }) n = false := by
    rw [loopBlocked_modLoop _ n (by rfl), rowSeen, loopBlocked_modLoop s n (by rfl), hblocked]
  have htakes : loopTakes (rowSeen s n row) n (loopX s n v) = loopDrive (modLoop (modLoop (rowSeen s n row) n fun y =>
      { y with x := loopX s n v, validAt := nowClk s }) n fun y => { y with st := .normal }) n (loopMap s n (loopX s n v)) := by
    unfold loopTakes
    exact if_neg (Bool.eq_false_iff.mp hfree)
  rw [hv, Option.elim_some, htakes] at hexec
  have hdriven := (loopDrive_driven _ n (loopMap s n (loopX s n v))).after ((modLoop_driven _ n fun y => { y with st := .normal }).after
    ((modLoop_driven _ n fun y => { y with x := loopX s n v, validAt := nowClk s }).after
      (modLoop_driven s n fun y => { y with label := some row.label, updated := some (nowClk s) })))
  refine ⟨_, hexec, hdriven.rest, hdriven.items, ?_, getP_loopDrive _ n _, hdriven.others⟩
  rw [st_loopDrive, loopOf_modLoop_same]

theorem loopUpdate_without_value (hv : loopValue s n row = none) : ∃ t, exec (.loopUpdate n) s = .next t ∧
    t = { s with loops := t.loops } ∧ loopOf t n = { loopOf s n with label := some row.label, updated := some (nowClk s) } := by
  have hexec := loopUpdate_takes_row hon hlast hlabel hrested
  rw [hv, Option.elim_none] at hexec
  exact ⟨_, hexec, rfl, loopOf_modLoop_same s n _⟩

end Update

/-! ### REFX_MEASURE (11 R256, R257; log 185) -/

/-- `t` has a loop's record and setpoint, and every setting, of `s`: only other loops have moved. -/
structure SparesLoop (n : Nat) (s t : State) : Prop where
  loop : loopOf t n = loopOf s n
  items : ∀ o, (∀ m, m ≠ n → o ≠ objId 7 m fLOOP_SET) → kget paramReset t.params o = kget paramReset s.params o

theorem SparesLoop.refl (n : Nat) (s : State) : SparesLoop n s s := ⟨rfl, fun _ _ => rfl⟩

theorem SparesLoop.after {n : Nat} {a b c : State} (k : SparesLoop n b c) (h : SparesLoop n a b) : SparesLoop n a c :=
  ⟨k.loop.trans h.loop, fun o ho => (k.items o ho).trans (h.items o ho)⟩

theorem LoopDriven.spares {n k : Nat} {s t : State} (h : LoopDriven k s t) (hk : k ≠ n) : SparesLoop n s t :=
  ⟨h.others n hk.symm, fun o ho => h.items o (by simpa using ho k hk)⟩

theorem SparesLoop.settings {n : Nat} {s t : State} (h : SparesLoop n s t) : SameSettings s t :=
  fun _ _ hi hne => h.items _ fun _ _ => objId_ne_of_item hi (by decide) hne

theorem SparesLoop.set {n : Nat} {s t : State} (h : SparesLoop n s t) : getP t 7 n fLOOP_SET = getP s 7 n fLOOP_SET :=
  h.items _ fun _ hm => objId_ne_of_inst hm.symm

/-- A loop follows a measurement of V(REFX): to its fault level, or with its last value to the setpoint that it now gives. -/
def refxFollows (s : State) (n : Nat) : State :=
  if loopRefxBad s n || decide ((loopOf s n).st = .faultLevel) then loopToFault s n else loopDrive s n (loopMap s n (loopOf s n).x)

theorem refxFollows_driven (s : State) (n : Nat) : LoopDriven n s (refxFollows s n) := by
  unfold refxFollows
  split
  · exact loopToFault_driven s n
  · exact loopDrive_driven s n _

/-- The loops that use V(REFX). -/
def refxUsers (s : State) : List Nat := [0, 1, 2, 3].filter fun n => loopOn s n && decide (2 ≤ loopMode s n)

theorem mem_refxUsers {s : State} {n : Nat} (hn : n ≤ 3) (hon : loopOn s n = true) (hmode : 2 ≤ loopMode s n) : n ∈ refxUsers s := by
  have hmem : n ∈ [0, 1, 2, 3] := by simp; omega
  exact List.mem_filter.mpr ⟨hmem, by simp [hon, hmode]⟩

theorem nodup_refxUsers (s : State) : (refxUsers s).Nodup := List.filter_sublist.nodup (by decide)

/-- The loops that use V(REFX) have followed it. -/
def refxFollowed (s : State) : State := (refxUsers s).foldl refxFollows s

theorem foldl_refxFollows_spares {n : Nat} {ks : List Nat} (h : n ∉ ks) (s : State) : SparesLoop n s (ks.foldl refxFollows s) :=
  List.foldlRecOn (motive := SparesLoop n s) ks _ (.refl n s) fun t ht k hk =>
    ((refxFollows_driven t k).spares (ne_of_mem_of_not_mem hk h)).after ht

/-- Each loop follows once, and the others leave it alone before and after. -/
theorem refxFollowed_at {s : State} {n : Nat} (h : n ∈ refxUsers s) :
    ∃ u, SparesLoop n s u ∧ SparesLoop n (refxFollows u n) (refxFollowed s) := by
  obtain ⟨as, bs, hsplit⟩ := List.append_of_mem h
  have hnodup := hsplit ▸ nodup_refxUsers s
  obtain ⟨-, htail, hdisj⟩ := List.nodup_append.mp hnodup
  refine ⟨as.foldl refxFollows s, foldl_refxFollows_spares (fun ha => hdisj n ha n List.mem_cons_self rfl) s, ?_⟩
  rw [refxFollowed, hsplit, List.foldl_append, List.foldl_cons]
  exact foldl_refxFollows_spares (List.nodup_cons.mp htail).1 _

theorem refxFollowed_keeps (s : State) : (refxFollowed s).loops.refxAt = s.loops.refxAt ∧ SameSettings s (refxFollowed s) :=
  List.foldlRecOn (motive := fun t : State => t.loops.refxAt = s.loops.refxAt ∧ SameSettings s t) _ _ ⟨rfl, fun _ _ _ _ => rfl⟩
    fun t ⟨hat, hset⟩ k _ => ⟨(refxFollows_driven t k).refxAt.trans hat,
      fun m i hi hne => (SameSettings.of_itemsBut (refxFollows_driven t k).items m i hi hne).trans (hset m i hi hne)⟩

theorem raiseOnce_rest (s : State) (x : Raise) : raiseOnce s x = { s with col := (raiseOnce s x).col } := by
  unfold raiseOnce dropQuiet
  split
  · exact detect_eq s x
  · split <;> rfl

/-- Beside the loops, what a measurement does is a matter of the collector: source 102. -/
theorem refxChecks_rest (s : State) : refxChecks s = { refxFollowed s with col := (refxChecks s).col } := by
  unfold refxChecks
  dsimp only
  split
  · split <;> rfl
  · split
    · split <;> rfl
    · rw [raiseOnce_rest]
      split <;> rfl

/-- V(REFX) is `mv`, and the next measurement is due 1 ms after this one. -/
def refxMeasured (s : State) (mv : Nat) : State :=
  let t := setP s 0x07 0 fREFX_MEAS (mv : Int)
  { t with loops := { t.loops with refxAt := t.loops.refxAt + msTicks } }

theorem refx_refxMeasured (s : State) (mv : Nat) : refx (refxMeasured s mv) = mv :=
  congrArg Int.toNat (getP_setP_same s 7 0 fREFX_MEAS (mv : Int))

theorem loopMode_refxMeasured (s : State) (mv n : Nat) : loopMode (refxMeasured s mv) n = loopMode s n :=
  congrArg Int.toNat (getP_setP_item s 7 0 7 n (mv : Int) (by decide) (by decide) (by decide))

section Followed
variable {s : State} {n : Nat} (hn : n ≤ 3) (hon : loopOn s n = true) (hmode : 2 ≤ loopMode s n)
include hn hon hmode

theorem refxFollowed_faults (hbad : refxOk s = false) : (loopOf (refxFollowed s) n).st = .faultLevel := by
  obtain ⟨u, hbefore, hafter⟩ := refxFollowed_at (mem_refxUsers hn hon hmode)
  have hfollows : refxFollows u n = loopToFault u n := 
    if_pos (by simp [loopRefxBad, hbefore.settings.loopMode, hbefore.settings.refxOk, hmode, hbad])
  rw [hafter.loop, hfollows, st_loopToFault]

theorem refxFollowed_drives (hok : refxOk s = true) (hst : (loopOf s n).st = .normal) :
    (loopOf (refxFollowed s) n).st = .normal ∧ getP (refxFollowed s) 7 n fLOOP_SET = loopMap s n (loopOf s n).x := by
  obtain ⟨u, hbefore, hafter⟩ := refxFollowed_at (mem_refxUsers hn hon hmode)
  have hfollows : refxFollows u n = loopDrive u n (loopMap u n (loopOf u n).x) :=
    if_neg (by simp [loopRefxBad, hbefore.settings.refxOk, hok, hbefore.loop, hst])
  rw [hafter.loop, hafter.set, hfollows, st_loopDrive, getP_loopDrive, hbefore.loop, hbefore.settings.loopMap]
  exact ⟨hst, rfl⟩

end Followed

theorem refxOk_refxMeasured (s : State) (mv : Nat) : refxOk (refxMeasured s mv) = true ↔ 1000 ≤ mv ∧ mv ≤ 3000 := by
  rw [refxOk, refx_refxMeasured, Bool.and_eq_true, decide_eq_true_eq, decide_eq_true_eq]

theorem refxMeasure_follows {mv : Nat} {s : State} (hnow : s.loops.refxAt ≤ nowClk s) :
    ∃ t, exec (.refxMeasure mv) s = .next t ∧ getP t 7 0 fREFX_MEAS = mv ∧ t.loops.refxAt = s.loops.refxAt + 1250000 ∧
    ∀ n, n ≤ 3 → loopOn s n = true → 2 ≤ loopMode s n →
      (mv < 1000 ∨ 3000 < mv → (loopOf t n).st = .faultLevel) ∧
      (1000 ≤ mv → mv ≤ 3000 → (loopOf s n).st = .normal → (loopOf t n).st = .normal ∧
        getP t 7 n fLOOP_SET = loopMap t n (loopOf s n).x) := by
  have hloops : (refxChecks (refxMeasured s mv)).loops = (refxFollowed (refxMeasured s mv)).loops := by rw [refxChecks_rest]
  have hparams : (refxChecks (refxMeasured s mv)).params = (refxFollowed (refxMeasured s mv)).params := by rw [refxChecks_rest]
  obtain ⟨hat, hsettings⟩ := refxFollowed_keeps (refxMeasured s mv)
  refine ⟨refxChecks (refxMeasured s mv), ?_, ?_, ?_, fun n hn hon hmode => ?_⟩
  · show execRefxMeasure mv s = _
    rw [execRefxMeasure, if_pos hnow]
    rfl
  · rw [getP_of_params_eq hparams, hsettings 0 fREFX_MEAS (by decide) (by decide)]
    exact getP_setP_same s 7 0 fREFX_MEAS (mv : Int)
  · rw [hloops]
    exact hat
  · rw [← loopMode_refxMeasured s mv] at hmode
    rw [loopOf_of_loops_eq hloops, getP_of_params_eq hparams, (SameSettings.of_params_eq hparams).loopMap, hsettings.loopMap]
    refine ⟨fun hout => refxFollowed_faults hn hon hmode (Bool.eq_false_iff.mpr fun hok => ?_),
      fun hlo hhi hst => refxFollowed_drives hn hon hmode ((refxOk_refxMeasured s mv).mpr ⟨hlo, hhi⟩) hst⟩
    have hin := (refxOk_refxMeasured s mv).mp hok
    omega

/-! ### LOOP_HOLD_EXPIRY (11 R257) -/

theorem loopHoldExpiry_faults {n : Nat} {s : State} (hst : (loopOf s n).st = .normal) (hstale : loopStale s n = true) :
    exec (.loopHoldExpiry n) s = .next (loopToFault s n) := by
  show execLoopHoldExpiry n s = _
  simp [execLoopHoldExpiry, hst, hstale]

theorem loopHoldExpiry_keeps {n : Nat} {s : State} (h : (loopOf s n).st ≠ .normal ∨ loopStale s n = false) :
    exec (.loopHoldExpiry n) s = .next s := by
  show execLoopHoldExpiry n s = _
  rcases h with h | h <;> simp [execLoopHoldExpiry, h]

/-! ### LOOP_SENSE_MISMATCH (11 R258) -/

/-- A loop reports that the sensed value stands above or below its setpoint; the condition of source 101 holds. -/
def loopReports (s : State) (n : Nat) (v : Int) : State :=
  let t := modLoop (setP s 0x07 n fLOOP_MEAS v) n fun x => { x with sense := some (decide (lp s n fLOOP_SET < v)), agreeAt := none }
  setSrcRec t 101 { srcRec t 101 with quietAt := none }

theorem loopSenseMismatch_reports {n : Nat} {v : Int} {s : State} (hon : loopOn s n = true) (hrole : s.pair.role ≠ .standby)
    (hsnags : s.col.snags = []) (hband : senseBand s n < (v - lp s n fLOOP_SET).natAbs) :
    exec (.loopSenseMismatch n v) s = .next (if (loopOf s n).sense = some (decide (lp s n fLOOP_SET < v)) ∧ (loopOf s n).agreeAt = none
      then loopReports s n v else detect (loopReports s n v) { raiseBlank 101 with ins := n }) := by
  have hset : lp (setP s 0x07 n fLOOP_MEAS v) n fLOOP_SET = lp s n fLOOP_SET :=
    getP_setP_item s 7 n 7 n v (by decide) (by decide) (by decide)
  have hsame : senseBand (setP s 0x07 n fLOOP_MEAS v) n = senseBand s n := by
    have hmode : loopMode (setP s 0x07 n fLOOP_MEAS v) n = loopMode s n :=
      congrArg Int.toNat (getP_setP_item s 7 n 7 n v (by decide) (by decide) (by decide))
    have hrefx : refx (setP s 0x07 n fLOOP_MEAS v) = refx s :=
      congrArg Int.toNat (getP_setP_item s 7 n 7 0 v (by decide) (by decide) (by decide))
    rw [senseBand, hmode, hrefx, senseBand]
  show execLoopSenseMismatch n v s = _
  unfold execLoopSenseMismatch
  simp only [hon, hrole, snagArmed_of_no_snags hsnags, hset, hsame, hband, Bool.not_true, decide_false, Bool.or_self, if_true, if_false,
    Bool.false_eq_true, Int.add_zero]
  rfl

/-- The report, with source 101 told of it or not: the collector alone differs. -/
theorem loopReports_spec {n : Nat} {v : Int} {s t : State} (h : t = { loopReports s n v with col := t.col }) :
    (loopOf t n).sense = some (decide (lp s n fLOOP_SET < v)) ∧ (loopOf t n).agreeAt = none ∧ getP t 7 n fLOOP_MEAS = v := by
  have hrec : loopOf t n = _ := (loopOf_of_loops_eq (show t.loops = (loopReports s n v).loops by rw [h]) n).trans
    (loopOf_modLoop_same (setP s 0x07 n fLOOP_MEAS v) n _)
  have hmeas : getP t 7 n fLOOP_MEAS = getP (setP s 0x07 n fLOOP_MEAS v) 7 n fLOOP_MEAS := getP_of_params_eq (by rw [h]; rfl) 7 n _
  rw [hrec, hmeas, getP_setP_same]
  exact ⟨rfl, rfl, rfl⟩

theorem loopSenseMismatch_spec {n : Nat} {v : Int} {s : State} (hon : loopOn s n = true) (hrole : s.pair.role ≠ .standby)
    (hsnags : s.col.snags = []) (hband : senseBand s n < (v - lp s n fLOOP_SET).natAbs) :
    ∃ t, exec (.loopSenseMismatch n v) s = .next t ∧
      (loopOf t n).sense = some (decide (lp s n fLOOP_SET < v)) ∧ (loopOf t n).agreeAt = none ∧ getP t 7 n fLOOP_MEAS = v ∧
      t.col.detected = if (loopOf s n).sense = some (decide (lp s n fLOOP_SET < v)) ∧ (loopOf s n).agreeAt = none then s.col.detected
        else s.col.detected ++ [{ raiseBlank 101 with ins := n }] := by
  have hexec := loopSenseMismatch_reports hon hrole hsnags hband
  split at hexec
  · next hstands =>
    obtain ⟨hsense, hagree, hmeas⟩ := loopReports_spec (t := loopReports s n v) rfl
    exact ⟨_, hexec, hsense, hagree, hmeas, (if_pos hstands).symm⟩
  · next hstands =>
    obtain ⟨hsense, hagree, hmeas⟩ := loopReports_spec (detect_eq (loopReports s n v) { raiseBlank 101 with ins := n })
    exact ⟨_, hexec, hsense, hagree, hmeas, (detected_detect _ _).trans (if_neg hstands).symm⟩

/-- Settles O33: each event writes the record and the setpoint of its own loops alone, and the settings, which it leaves alone, give the
setpoint. -/
theorem loopOutputs : Obligations.LoopOutputs := by
  unfold Obligations.LoopOutputs
  refine ⟨fun r n s hopen hn hwaits hfault => ⟨feLoopCfg_enables hopen hn hwaits hfault, feLoopCfg_releases hopen hn hwaits hfault⟩,
    fun n row s _ hon hlast hlabel hrested => ⟨fun v => loopUpdate_drives hon hlast hlabel hrested,
      loopUpdate_without_value hon hlast hlabel hrested⟩,
    fun mv s hnow => refxMeasure_follows hnow, fun n s _ => ⟨fun hst hstale => ?_, loopHoldExpiry_keeps⟩,
    fun n v s _ hon hrole hsnags hband => loopSenseMismatch_spec hon hrole hsnags hband⟩
  have hdriven := loopToFault_driven s n
  exact ⟨_, loopHoldExpiry_faults hst hstale, st_loopToFault s n, getP_loopToFault s n, hdriven.items, hdriven.rest⟩

end Sys2Proof.Machine
end

section
/-! PROOFS. What the report of a front-end result leaves alone (11_precision_front_end_loops.md; 12 R271 to R274): the rules for O32. -/

namespace Sys2Proof.Machine

/-! ### Raises that wait stay while a live bit clears (18 R380, R381, R389, R390) -/

theorem detected_setBehind (s : State) : s.col.detected ⊆ (setBehind s).col.detected := by
  unfold setBehind detectSrc
  split
  · exact List.Subset.refl _
  · rw [detected_detect]
    exact List.subset_append_left _ _

theorem detected_closeJournal (s : State) : s.col.detected ⊆ (closeJournal s).col.detected := by
  unfold closeJournal
  dsimp only
  split
  · exact List.Subset.refl _
  · exact fun _ hx => detected_setBehind _ hx

theorem detected_makeRoom (s : State) : (makeRoom s).col.detected = s.col.detected := by
  unfold makeRoom
  split <;> rfl

theorem detected_appendEntry (s : State) (e : JEntry) : s.col.detected ⊆ (appendEntry s e).col.detected := by
  have hstore : (storeEntry (if storeFull s then makeRoom s else s) e).col.detected = s.col.detected := by
    show (if storeFull s then makeRoom s else s).col.detected = s.col.detected
    rw [apply_ite (fun t : State => t.col.detected), detected_makeRoom, ite_self]
  rw [appendEntry_eq]
  generalize storeEntry (if storeFull s then makeRoom s else s) e = u at hstore
  rw [← hstore]
  dsimp only
  split
  · exact detected_closeJournal u
  · exact List.Subset.refl _

theorem detected_journalEvent (s : State) (e : JEntry) (x : Raise) : s.col.detected ⊆ (journalEvent s e x).col.detected := by
  unfold journalEvent
  dsimp only
  split
  · exact detected_appendEntry (setSrcRec (setSrcRec s e.src _) e.src _) _
  · split <;> exact List.Subset.refl _

theorem detected_clearLive (s : State) (src : Nat) : s.col.detected ⊆ (clearLive s src).col.detected := by
  unfold clearLive
  dsimp only
  split
  · split <;> exact List.Subset.refl _
  · exact detected_journalEvent (uncover (setSrcRec s src _) src) _ _

/-! ### What a report keeps -/

/-- `t` has the front end of `s` but for what holds its sources live, every item outside the collector's, and the raises that wait. -/
structure ReportKept (s t : State) : Prop where
  fe : t.fe = { s.fe with told := t.fe.told }
  items : ∀ o, objDom o ≠ 0x0D → kget paramReset t.params o = kget paramReset s.params o
  detected : s.col.detected ⊆ t.col.detected

theorem ReportKept.of_rest {s t : State} (hfe : t.fe = s.fe) (hparams : t.params = s.params) (hdet : s.col.detected ⊆ t.col.detected) :
    ReportKept s t :=
  ⟨by rw [hfe], fun _ _ => by rw [hparams], hdet⟩

theorem ReportKept.refl (s : State) : ReportKept s s := .of_rest rfl rfl (List.Subset.refl _)

theorem ReportKept.after {a b c : State} (k : ReportKept b c) (h : ReportKept a b) : ReportKept a c :=
  ⟨k.fe.trans (congrArg (fun x => { x with told := c.fe.told }) h.fe), fun o ho => (k.items o ho).trans (h.items o ho),
    fun _ hx => k.detected (h.detected hx)⟩

theorem ReportKept.ite {c : Prop} [Decidable c] {s a b : State} (h : ReportKept s a) (k : ReportKept s b) :
    ReportKept s (if c then a else b) := by
  split
  · exact h
  · exact k

theorem ReportKept.foldl {β : Type} {f : State → β → State} (h : ∀ s b, ReportKept s (f s b)) (xs : List β) (s : State) :
    ReportKept s (xs.foldl f s) :=
  List.foldlRecOn (motive := ReportKept s) xs f (.refl s) fun t ht b _ => (h t b).after ht

theorem OnlyCollector.reportKept {s t : State} (h : OnlyCollector s t) (hdet : s.col.detected ⊆ t.col.detected) : ReportKept s t :=
  ⟨by rw [h.rest], h.items, hdet⟩

theorem setSrcRec_reportKept (s : State) (src : Nat) (x : Source) : ReportKept s (setSrcRec s src x) :=
  .of_rest rfl rfl (List.Subset.refl _)

theorem detect_reportKept (s : State) (x : Raise) : ReportKept s (detect s x) :=
  (detect_onlyCollector s x).reportKept (by rw [detected_detect]; exact List.subset_append_left _ _)

theorem clearLive_reportKept (s : State) (src : Nat) : ReportKept s (clearLive s src) :=
  (clearLive_onlyCollector s src).reportKept (detected_clearLive s src)

theorem hkPut_reportKept (s : State) (key : Nat) (rec : List Byte) (ts : Nat) : ReportKept s (hkPut s key rec ts) := by
  obtain ⟨l, hl⟩ := hkPut_rest s key rec ts
  rw [hl]
  exact .of_rest rfl rfl (List.Subset.refl _)

/-! ### Sources 96 to 99 (11 R244, R250, R260) -/

/-- What is told of sources is a matter of `told` alone. -/
theorem modFe_told_reportKept (s : State) (l : List (Nat × Nat)) : ReportKept s (modFe s fun x => { x with told := l }) :=
  ⟨rfl, fun _ _ => rfl, List.Subset.refl _⟩

theorem feEnds_reportKept (s : State) (src ins : Nat) : ReportKept s (feEnds s src ins) := by
  have htold := modFe_told_reportKept s (s.fe.told.filter fun q => q ≠ (src, ins))
  exact .ite htold (.ite ((clearLive_reportKept _ src).after htold) ((setSrcRec_reportKept _ src _).after htold))

theorem feSource_reportKept (s : State) (src ins : Nat) (on clears : Bool) : ReportKept s (feSource s src ins on clears) :=
  .ite ((detect_reportKept _ _).after ((setSrcRec_reportKept _ src _).after (modFe_told_reportKept s _)))
    (.ite (feEnds_reportKept s src ins) (.refl s))

theorem mem_detected_feSource (s : State) (src ins : Nat) (clears : Bool) :
    { raiseBlank src with ins := ins } ∈ (feSource s src ins true clears).col.detected := mem_detected_detect _ _

theorem feSources_reportKept (s : State) (t : FeTask) (flags : Nat) (checked : Bool) : ReportKept s (feSources s t flags checked) :=
  (feSource_reportKept _ 99 _ _ _).after ((feSource_reportKept _ 98 _ _ _).after
    ((feSource_reportKept _ 97 _ _ _).after (feSource_reportKept s 96 _ _ _)))

/-- A result with OPEN raises source 96 (11 R244). -/
theorem feSources_raises_open (s : State) (t : FeTask) {flags : Nat} (checked : Bool) (h : flags.testBit 0 = true) :
    { raiseBlank 96 with ins := taskIns t } ∈ (feSources s t flags checked).col.detected := by
  unfold feSources
  refine (feSource_reportKept _ 99 _ _ _).detected ((feSource_reportKept _ 98 _ _ _).detected ((feSource_reportKept _ 97 _ _ _).detected ?_))
  rw [h]
  exact mem_detected_feSource s 96 (taskIns t) true

/-- A result with SHORT raises source 97 (11 R244). -/
theorem feSources_raises_short (s : State) (t : FeTask) {flags : Nat} (checked : Bool) (h : flags.testBit 1 = true) :
    { raiseBlank 97 with ins := taskIns t } ∈ (feSources s t flags checked).col.detected := by
  unfold feSources
  refine (feSource_reportKept _ 99 _ _ _).detected ((feSource_reportKept _ 98 _ _ _).detected ?_)
  rw [h]
  exact mem_detected_feSource _ 97 (taskIns t) true

/-! ### The source drive takes a result (12 R271 to R274) -/

theorem modSd_reportKept (s : State) (c : Nat) (f : SdChan → SdChan) : ReportKept s (modSd s c f) :=
  .of_rest rfl rfl (List.Subset.refl _)

theorem sdRaise_reportKept (s : State) (src c : Nat) : ReportKept s (sdRaise s src c) := detect_reportKept s _

theorem sdClear_reportKept (s : State) (src : Nat) (holds : SdChan → Bool) : ReportKept s (sdClear s src holds) :=
  .ite (.refl s) (clearLive_reportKept s src)

theorem satQuiet_reportKept (s : State) : ReportKept s (satQuiet s) := .ite (.refl s) (setSrcRec_reportKept s 106 _)

theorem satLeave_reportKept (s : State) (c : Nat) : ReportKept s (satLeave s c) :=
  .ite ((satQuiet_reportKept _).after (modSd_reportKept s c _)) (modSd_reportKept s c _)

theorem sdWatchSat_reportKept (s : State) (c : Nat) : ReportKept s (sdWatchSat s c) :=
  .ite (.ite (.refl s) ((modSd_reportKept _ c _).after (satLeave_reportKept s c))) (satLeave_reportKept s c)

theorem sdRegulate_reportKept (s : State) (c : Nat) (value : Int) (ts : Nat) : ReportKept s (sdRegulate s c value ts) :=
  (sdWatchSat_reportKept _ c).after (modSd_reportKept s c _)

theorem sdTakeTable_reportKept (s : State) (c : Nat) (tb : CompTable) (value : Int) : ReportKept s (sdTakeTable s c tb value) :=
  .ite ((sdRaise_reportKept _ 105 c).after (modSd_reportKept s c _)) ((sdClear_reportKept _ 105 _).after (modSd_reportKept s c _))

theorem sdLose_reportKept (s : State) (c : Nat) : ReportKept s (sdLose s c) := (sdRaise_reportKept _ 103 c).after (modSd_reportKept s c _)

theorem sdFound_reportKept (s : State) (c : Nat) : ReportKept s (sdFound s c) := (sdClear_reportKept _ 103 _).after (modSd_reportKept s c _)

theorem sdLimit_reportKept (s : State) (c : Nat) (value : Int) (failed : Bool) : ReportKept s (sdLimit s c value failed) :=
  .ite (.ite ((sdRaise_reportKept _ 104 c).after ((satLeave_reportKept _ c).after (modSd_reportKept s c _))) (.refl s))
    (.ite ((sdClear_reportKept _ 104 _).after (modSd_reportKept s c _)) (.refl s))

theorem sdTake_reportKept (s : State) (entry : Nat) (value : Int) (failed : Bool) (ts c : Nat) :
    ReportKept s (sdTake s entry value failed ts c) := by
  unfold sdTake
  refine .ite (.refl s) ?_
  extract_lets limited tabled on
  have hlimited : ReportKept s limited := .ite (sdLimit_reportKept s c value failed) (.refl s)
  have htabled : ReportKept limited tabled := by
    unfold tabled
    split
    · exact .ite (sdTakeTable_reportKept limited c _ value) (.refl limited)
    · exact .refl limited
  have htakes : ReportKept tabled _ := sdFound_reportKept tabled c
  refine ReportKept.after ?_ (htabled.after hlimited)
  refine .ite (.ite (sdLose_reportKept tabled c) ?_) ?_
  · exact (modSd_reportKept _ c _).after (.ite ((sdRegulate_reportKept _ c value ts).after htakes) htakes)
  · have hagain := ReportKept.ite (c := (!on && !failed && decide (sdWatched tabled c = some entry)) = true) htakes (.refl tabled)
    exact .ite ((modSd_reportKept _ c _).after hagain) hagain

theorem srcResult_reportKept (s : State) (entry : Nat) (value : Int) (failed : Bool) (ts : Nat) :
    ReportKept s (srcResult s entry value failed ts) :=
  .foldl (fun s c => sdTake_reportKept s entry value failed ts c) _ s

end Sys2Proof.Machine
end

section
/-! PROOFS. The precision front end (11_precision_front_end_loops.md): O32. -/

namespace Sys2Proof.Machine

/-! ### CHART_LOAD (11 R247, R249; log 187) -/

/-- Writing a run of keys in turn, each by `op`, does to each of them what `op` does and leaves every other key. -/
theorem kget_foldl_range {α : Type} {d : Nat → α} {op : KMap α → Nat → KMap α} {φ : Nat → α → α} {first : Nat}
    (h : ∀ m i j, kget d (op m i) j = if first + i = j then φ i (kget d m j) else kget d m j) (count : Nat) (m : KMap α) (j : Nat) :
    kget d ((List.range count).foldl op m) j =
      if first ≤ j ∧ j < first + count then φ (j - first) (kget d m j) else kget d m j := by
  induction count with
  | zero => rw [if_neg (by omega)]; rfl
  | succ n ih =>
    rw [List.range_succ, List.foldl_append, List.foldl_cons, List.foldl_nil, h, ih]
    by_cases hj : first + n = j
    · subst hj
      simp
    · rw [if_neg hj]
      congr 1
      simp only [eq_iff_iff]
      omega

/-- The definitions that a CHART_LOAD brings. -/
def loadedEntries (entries : List (List Byte)) (count : Nat) : List ChartEntry :=
  (List.range count).map fun i => chartOf (nth [] entries i)

theorem nth_loadedEntries (entries : List (List Byte)) {count i : Nat} (h : i < count) :
    nth (chartBlank 0) (loadedEntries entries count) i = chartOf (nth [] entries i) := by
  simp [nth, loadedEntries, h]

/-- The chart with entries from `first` on defined anew, their leads to be measured anew. -/
def chartLoaded (first count : Nat) (es : List ChartEntry) (x : FrontEnd) : FrontEnd := { x with
  chart := (List.range count).foldl (fun m i => kput chartBlank m (first + i) (nth (chartBlank 0) es i)) x.chart
  entries := (List.range count).foldl (fun m i => kmod entryBlank m (first + i) (fun y => { y with leads := none })) x.entries }

theorem chartGet_chartLoaded (s : State) (first count n : Nat) (es : List ChartEntry) :
    chartGet (modFe s (chartLoaded first count es)) n =
      if first ≤ n ∧ n < first + count then nth (chartBlank 0) es (n - first) else chartGet s n :=
  kget_foldl_range (φ := fun i _ => nth (chartBlank 0) es i) (fun m i j => kget_kput chartBlank m (first + i) j _) count s.fe.chart n

theorem entryGet_chartLoaded (s : State) (first count n : Nat) (es : List ChartEntry) :
    entryGet (modFe s (chartLoaded first count es)) n =
      if first ≤ n ∧ n < first + count then { entryGet s n with leads := none } else entryGet s n := by
  refine kget_foldl_range (φ := fun _ y => { y with leads := none }) (fun m i j => ?_) count s.fe.entries n
  rw [kmod, kget_kput]
  split
  · next hj => rw [hj]
  · rfl

theorem chartTdcClash_accept (s : State) (r : Req) (op : Nat) (es : List ChartEntry) :
    chartTdcClash (accept s r op) es = chartTdcClash s es := by
  simp [chartTdcClash, natP_accept]

theorem bodyFeChartLoad_good {s : State} {first count : Nat} {entries : List (List Byte)} (hfirst : first ≤ 31) (hone : 1 ≤ count)
    (hcount : count ≤ 14) (hsum : first + count ≤ 32) (hgood : chartListFault 0 (loadedEntries entries count) = none)
    (hclash : chartTdcClash s (loadedEntries entries count) = none) :
    bodyFeChartLoad first count entries s = (modFe s (chartLoaded first count (loadedEntries entries count)), .final okBare) := by
  have hcountOk : (decide (count = 0) || decide (14 < count) || decide (32 < first + count)) = false := by simp; omega
  unfold bodyFeChartLoad
  rw [if_neg (Nat.not_lt.mpr hfirst)]
  rw [loadedEntries] at *
  simp only [hcountOk, hgood, hclash]
  rfl

section ChartLoad
variable {r : Req} {first count : Nat} {entries : List (List Byte)} {s : State}

theorem feChartLoad_defines (hopen : mailboxOpen s r.slot = true) (hfirst : first ≤ 31) (hone : 1 ≤ count)
    (hcount : count ≤ 14) (hsum : first + count ≤ 32) (hgood : chartListFault 0 (loadedEntries entries count) = none)
    (hclash : chartTdcClash s (loadedEntries entries count) = none) :
    ∃ s', Answers (.feChartLoad r first count entries) r.slot s s' okBare ∧
      s' = { s with fe := { s.fe with chart := s'.fe.chart, entries := s'.fe.entries } } ∧
      (∀ i, i < count → chartGet s' (first + i) = chartOf (nth [] entries i) ∧
        entryGet s' (first + i) = { entryGet s (first + i) with leads := none }) ∧
      ∀ n, n < first ∨ first + count ≤ n → chartGet s' n = chartGet s n ∧ entryGet s' n = entryGet s n := by
  have hbody := bodyFeChartLoad_good (s := accept s r 0x0701) hfirst hone hcount hsum hgood (by rwa [chartTdcClash_accept])
  refine ⟨modFe s (chartLoaded first count (loadedEntries entries count)), answers_of_body (accept s r 0x0701).params rfl hopen (by simp)
    hbody (accept_params s r 0x0701) rfl (snags_of_mailboxOpen (s := s) hopen), rfl, fun i hi => ?_, fun n hn => ?_⟩
  · rw [chartGet_chartLoaded, entryGet_chartLoaded, if_pos ⟨by omega, by omega⟩, if_pos ⟨by omega, by omega⟩, Nat.add_sub_cancel_left,
      nth_loadedEntries entries hi]
    exact ⟨rfl, rfl⟩
  · rw [chartGet_chartLoaded, entryGet_chartLoaded, if_neg (by omega), if_neg (by omega)]
    exact ⟨rfl, rfl⟩

end ChartLoad

/-! ### An entry starts (11 R241, R246, R247) -/

/-- Items taken at an entry's start are items: the chart, the converter, the collector and the time stay. -/
theorem takeEntryItems_rest (s : State) (n : Nat) : (takeEntryItems s n).fe.chart = s.fe.chart ∧
    (takeEntryItems s n).fe.conn = s.fe.conn ∧ (takeEntryItems s n).fe.st = s.fe.st ∧ (takeEntryItems s n).col = s.col ∧
    (takeEntryItems s n).time = s.time := by
  have hput : takeEntryItems s n = modEntry (putItems s (entryGet s n).next) n fun x => { x with next := [] } := rfl
  rw [hput, putItems_eq]
  exact ⟨rfl, rfl, rfl, rfl, rfl⟩

/-- A run starts with no code, its switch now where the converter stands otherwise (11 R241; log 186). -/
theorem beginRun_starts (s : State) (t : FeTask) (e : ChartEntry) (items : List Int) (leads : Bool) : ∃ x,
    (beginRun s t e items leads).fe.run = some x ∧ x.task = t ∧ x.entry = e ∧ x.codes = [] ∧
    (s.fe.conn ≠ some (connOf e .main) → x.startClk = nowClk s) :=
  ⟨_, rfl, rfl, rfl, rfl, fun hconn => by simp [hconn]⟩

/-- With no snag an entry's start is the start of a run under its present definition. -/
theorem beginEntry_eq {s : State} (n : Nat) (hsnags : s.col.snags = []) : ∃ u items leads f,
    beginEntry s n = modEntry (beginRun u (.entry n) (chartGet s n) items leads) n f ∧
    u.fe.conn = s.fe.conn ∧ u.fe.st = s.fe.st ∧ u.col = s.col ∧ u.time = s.time := by
  obtain ⟨hchart, hconn, hst, hcol, htime⟩ := takeEntryItems_rest s n
  have hentry : chartGet (takeEntryItems s n) n = chartGet s n := by rw [chartGet, hchart, chartGet]
  unfold beginEntry
  rw [← hentry]
  extract_lets taken e items next run counted
  have harmed : snagArmed counted 0x0050 n = false := snagArmed_of_no_snags (hsnags ▸ congrArg Collector.snags hcol) _ _
  exact ⟨next, items, _, _, if_neg (by simp [harmed]), hconn, hst, hcol, htime⟩

theorem beginEntry_starts {s : State} (n : Nat) (hsnags : s.col.snags = []) : ∃ x, (beginEntry s n).fe.run = some x ∧
    x.task = .entry n ∧ x.entry = chartGet s n ∧ x.codes = [] ∧
    (s.fe.conn ≠ some (connOf (chartGet s n) .main) → x.startClk = nowClk s) ∧
    (beginEntry s n).fe.st = s.fe.st ∧ (beginEntry s n).col = s.col := by
  obtain ⟨u, items, leads, f, hbegin, hconn, hst, hcol, htime⟩ := beginEntry_eq n hsnags
  obtain ⟨x, hx, htask, hentry, hcodes, hclk⟩ := beginRun_starts u (.entry n) (chartGet s n) items leads
  have hnow : nowClk u = nowClk s := congrArg Timing.sclk htime
  rw [hconn, hnow] at hclk
  rw [hbegin]
  exact ⟨x, hx, htask, hentry, hcodes, hclk, hst, hcol⟩

/-- The front end that no run, calibration or injection keeps from the chart goes on with its next entry. -/
theorem feAdvance_of_running {s : State} (hrun : s.fe.run = none) (hcal : s.fe.calSince = none) (hqueue : s.fe.queue = [])
    (hdue : s.fe.calDue = false) (hst : s.fe.st = .running) : feAdvance s = beginEntry s s.fe.next := by
  simp [feAdvance, hrun, hcal, hqueue, hdue, hst]

theorem feAdvance_of_busy {s : State} (h : s.fe.run ≠ none ∨ s.fe.calSince ≠ none) : feAdvance s = s := by
  have hbusy : (s.fe.run.isSome || s.fe.calSince.isSome) = true := by
    rcases h with h | h <;> simp [Option.isSome_iff_ne_none.mpr h]
  rw [feAdvance, if_pos hbusy]

theorem feSettle_of_entry {s : State} {x : FeRun} {n : Nat} (hrun : s.fe.run = some x) (htask : x.task = .entry n) :
    feSettle s = s := by
  have hentry : entryRuns s = true := by simp [entryRuns, hrun, htask]
  rw [feSettle, if_pos hentry]

/-! ### CHART_RUN and FE_INJECT (11 R247, R252) -/

theorem post_fe (s : State) (n : Nat) (a : Answer) : (post s n a).fe = s.fe := by rw [post_rest]

theorem feChartRun_starts {r : Req} {s : State} (hopen : mailboxOpen s r.slot = true) (hst : s.fe.st ≠ .stopping) (hrun : s.fe.run = none)
    (hcal : s.fe.calSince = none) (hqueue : s.fe.queue = []) (hdue : s.fe.calDue = false) : ∃ t x,
      exec (.feChartRun r 1) s = .next t ∧ answered t r.slot okBare ∧ t.fe.st = .running ∧ t.fe.run = some x ∧ x.task = .entry 0 ∧
      x.entry = chartGet s 0 ∧ x.codes = [] ∧ (s.fe.conn ≠ some (connOf (chartGet s 0) .main) → x.startClk = nowClk s) := by
  obtain ⟨x, hx, htask, hentry, hcodes, hclk, hruns, hcol⟩ :=
    beginEntry_starts (s := chartStart (accept s r 0x0702)) 0 (snags_of_mailboxOpen (s := s) hopen)
  have hbody : bodyFeChartRun 1 (accept s r 0x0702) = (beginEntry (chartStart (accept s r 0x0702)) 0, .final okBare) := by
    have hadvance := feAdvance_of_running (s := chartStart (accept s r 0x0702)) hrun hcal hqueue hdue rfl
    have hst' : (accept s r 0x0702).fe.st ≠ .stopping := hst
    simp [bodyFeChartRun, hst', hadvance]
    rfl
  generalize beginEntry (chartStart (accept s r 0x0702)) 0 = u at *
  have hexec : exec (.feChartRun r 1) s = .next (post u r.slot (.final okBare)) := by
    show Host.Outcome.next (feSettle (mbxRun _ r 0x0702 false (bodyFeChartRun 1) s)) = _
    rw [mbxRun_open _ r 0x0702 false _ s hopen (by simp), hbody, feSettle_of_entry (by rw [post_fe, hx]) htask]
  obtain ⟨hphase, hreply, -, -⟩ := post_final (a := okBare) r.slot
    ((congrArg Collector.snags hcol).trans (snags_of_mailboxOpen (s := s) hopen))
  exact ⟨_, x, hexec, ⟨hphase, hreply⟩, by rw [post_fe, hruns]; rfl, by rw [post_fe, hx], htask, hentry, hcodes, hclk⟩

theorem feChartRun_stops {r : Req} {s : State} {x : FeRun} {n : Nat} (hopen : mailboxOpen s r.slot = true) (hst : s.fe.st = .running)
    (hrun : s.fe.run = some x) (htask : x.task = .entry n) :
    Defers (.feChartRun r 0) r.slot s { s with fe := { s.fe with st := .stopping } } .chartStop := by
  have hbody : bodyFeChartRun 0 (accept s r 0x0702) =
      (modFe (accept s r 0x0702) fun x => { x with st := .stopping }, .later .chartStop) := by
    have hst' : (accept s r 0x0702).fe.st = .running := hst
    simp [bodyFeChartRun, hst']
  have hc : exec (.feChartRun r 0) s = .next (mbxRun (.feChartRun r 0) r 0x0702 false (bodyFeChartRun 0) s) := by
    show Host.Outcome.next (feSettle _) = _
    rw [mbxRun_open _ r 0x0702 false _ s hopen (by simp), hbody, feSettle_of_entry (by rw [post_fe]; exact hrun) htask]
  exact defers_of_body (accept s r 0x0702).params hc hopen (by simp) hbody (accept_params s r 0x0702) rfl

theorem feInject_queues {r : Req} {tag : Nat} {entry : List Byte} {s : State} (hopen : mailboxOpen s r.slot = true) (hone : 1 ≤ tag)
    (htag : tag ≤ 255) (hgood : chartFault (chartOf entry) = none) (hroom : s.fe.queue.length < 4)
    (hbusy : s.fe.run ≠ none ∨ s.fe.calSince ≠ none) : Defers (.feInject r tag entry) r.slot s { s with fe := { s.fe with
      queue := s.fe.queue ++ [⟨tag, r.slot, chartOf entry, s.fe.calSince.isSome⟩] } } (.inject r.slot) := by
  have hbody : bodyFeInject r.slot tag entry (accept s r 0x0703) = (modFe (accept s r 0x0703) fun x => { x with
      queue := x.queue ++ [⟨tag, r.slot, chartOf entry, x.calSince.isSome⟩] }, .later (.inject r.slot)) := by
    have htagOk : (decide (tag = 0) || decide (255 < tag)) = false := by simp; omega
    have hroom' : ¬ 4 ≤ (accept s r 0x0703).fe.queue.length := Nat.not_le.mpr hroom
    simp only [bodyFeInject, htagOk, hgood, hroom']
    rfl
  have hc : exec (.feInject r tag entry) s = .next (mbxRun (.feInject r tag entry) r 0x0703 false (bodyFeInject r.slot tag entry) s) := by
    show Host.Outcome.next (feAdvance _) = _
    rw [mbxRun_open _ r 0x0703 false _ s hopen (by simp), hbody, feAdvance_of_busy (by rw [post_fe]; exact hbusy)]
  exact defers_of_body (accept s r 0x0703).params hc hopen (by simp) hbody (accept_params s r 0x0703) rfl

/-! ### FE_CONVERSION (11 R240, R241) -/

theorem convRecord_params (s : State) (x : FeRun) (code : Int) (discard ovr : Bool) : (convRecord s x code discard ovr).params = s.params := by
  unfold convRecord
  dsimp only
  split
  · rfl
  · obtain ⟨l, hl⟩ := hkPut_rest s 3 _ _
    rw [hl]

theorem takeCode_discards (s : State) (x : FeRun) (code : Int) (h : x.outs < 2) : takeCode s x code = { x with outs := x.outs + 1 } :=
  if_pos (Nat.succ_le_of_lt h)

theorem takeCode_keeps (s : State) {x : FeRun} (code : Int) (h : 2 ≤ x.outs) (hsub : x.sub = .main) :
    takeCode s x code = { x with outs := x.outs + 1, codes := x.codes ++ [code], ovr := x.ovr || feOver code } := by
  have hkept : ¬ x.outs + 1 ≤ 2 := by omega
  simp [takeCode, hkept, hsub]

section Conversion
variable {volts : List Rat} {x : FeRun} {s : State} (hrun : s.fe.run = some x) (hopened : x.opened = false)
  (htimes : x.codes.length < x.entry.times) (hnow : x.startClk + tdelay x.entry + (x.outs + 1) * tconv x.entry ≤ nowClk s)
include hrun hopened htimes hnow

theorem feConversion_takes : ∃ u, exec (.feConversion volts) s =
    .next (followRun u (takeCode u x (feCode s x.entry (feRaw (connOf x.entry x.sub) volts)))) ∧
    (x.outs < 2 → getP u 7 0 fDISCARDED = inc32 (getP s 7 0 fDISCARDED)) := by
  have htakes : (!x.opened && decide (x.codes.length < x.entry.times) &&
      decide (x.startClk + tdelay x.entry + (x.outs + 1) * tconv x.entry ≤ nowClk s)) = true := by simp [hopened, htimes, hnow]
  show ∃ u, execFeConversion volts s = _ ∧ _
  unfold execFeConversion
  simp only [hrun, if_pos htakes]
  refine ⟨_, rfl, fun houts => ?_⟩
  rw [if_pos (decide_eq_true houts), getP_bumpP_same, getP_of_params_eq (convRecord_params ..)]

theorem feConversion_spec : ∃ t, exec (.feConversion volts) s = .next t ∧
    (x.outs < 2 → t.fe.run = some { x with outs := x.outs + 1 } ∧ getP t 7 0 fDISCARDED = inc32 (getP s 7 0 fDISCARDED)) ∧
    (2 ≤ x.outs → x.sub = .main → t.fe.run = some { x with
      outs := x.outs + 1
      codes := x.codes ++ [feCode s x.entry (feRaw (connOf x.entry .main) volts)]
      ovr := x.ovr || feOver (feCode s x.entry (feRaw (connOf x.entry .main) volts)) }) := by
  obtain ⟨u, hexec, hdiscarded⟩ := feConversion_takes hrun hopened htimes hnow (volts := volts)
  refine ⟨_, hexec, fun houts => ⟨congrArg some ?_, hdiscarded houts⟩, fun houts hsub => congrArg some ?_⟩
  · exact takeCode_discards u x _ houts
  · rw [takeCode_keeps u _ houts hsub, hsub]

end Conversion

/-! ### A result is reported (11 R244, R251, R252) -/

/-- Nothing waits for the front end: no injection, no calibration, no chart. -/
structure FeRests (x : FrontEnd) : Prop where
  queue : x.queue = []
  calDue : x.calDue = false
  calSince : x.calSince = none
  st : x.st = .stopped

theorem feAdvance_of_rests {s : State} (hrun : s.fe.run = none) (h : FeRests s.fe) :
    feAdvance s = modFe s fun x => { x with conn := none } := by
  simp [feAdvance, hrun, h.queue, h.calDue, h.calSince, h.st]

theorem chartStopped_of_rests {s : State} (h : FeRests s.fe) : chartStopped s = s := by
  simp [chartStopped, h.st]

theorem ReportKept.rests {s t : State} (h : ReportKept s t) (hrests : FeRests s.fe) : FeRests t.fe := by
  rw [h.fe]
  exact ⟨hrests.queue, hrests.calDue, hrests.calSince, hrests.st⟩

theorem ReportKept.getP {s t : State} (h : ReportKept s t) {n i : Nat} (hn : n < 32) (hi : i < 65536) : getP t 7 n i = getP s 7 n i :=
  h.items _ (by unfold objDom objId; omega)

/-- The run of an entry is over, and its result stands in the entry's items. -/
def entryDone (s : State) (n ts flags : Nat) (value code : Int) (leads : Nat × Nat) : State :=
  setResult (modFe s fun y => { y with run := none }) n ts flags value code leads

theorem getP_entryDone (s : State) (n ts flags : Nat) (value code : Int) (leads : Nat × Nat) :
    getP (entryDone s n ts flags value code leads) 7 n fRESULT_VALUE = value ∧
    getP (entryDone s n ts flags value code leads) 7 n fRESULT_CODE = code ∧
    getP (entryDone s n ts flags value code leads) 7 n fRESULT_FLAGS = flags := by
  simp [entryDone, setResult, getP_setP, objId_inj_item, fRESULT_VALUE, fRESULT_CODE, fRESULT_FLAGS, fRESULT_LEADS,
    fRESULT_TICKS_LO, fRESULT_TICKS_HI]

theorem feReport_entry {x : FeRun} {n : Nat} (htask : x.task = .entry n) (s : State) (value code : Int) (flags ts : Nat)
    (pair : Option (Rat × Rat)) (checked : Bool) : ∃ u, ReportKept s u ∧ feReport s x value code flags ts pair checked =
      feAdvance (chartStopped (srcResult (entryDone (feSources u x.task flags checked) n ts flags value code (leadField pair))
        n (wrapS 32 value) (feFailed flags) ts)) := by
  refine ⟨if feLogs s x then hkPut s 3 (feRecord ts value code flags (leadField pair) x.task x.codes.length 0 (taskSeq s x.task)) ts else s,
    .ite (hkPut_reportKept s 3 _ ts) (.refl s), ?_⟩
  unfold feReport entryDone
  simp only [htask]

/-- With nothing waiting the report of an entry's result ends the run, writes the entry's items, and leaves the raises it makes. -/
theorem feReport_spec {s : State} {x : FeRun} {n : Nat} (htask : x.task = .entry n) (hn : n < 32) (hrests : FeRests s.fe)
    (value code : Int) (flags ts : Nat) (pair : Option (Rat × Rat)) (checked : Bool) :
    ∃ t u, feReport s x value code flags ts pair checked = t ∧ t.fe.run = none ∧ getP t 7 n fRESULT_VALUE = value ∧
      getP t 7 n fRESULT_CODE = code ∧ getP t 7 n fRESULT_FLAGS = flags ∧
      (feSources u x.task flags checked).col.detected ⊆ t.col.detected := by
  obtain ⟨u, hlogged, hreport⟩ := feReport_entry htask s value code flags ts pair checked
  have htold := ((feSources_reportKept u x.task flags checked).after hlogged).rests hrests
  have hdone : FeRests (entryDone (feSources u x.task flags checked) n ts flags value code (leadField pair)).fe :=
    ⟨htold.queue, htold.calDue, htold.calSince, htold.st⟩
  have hkept := srcResult_reportKept (entryDone (feSources u x.task flags checked) n ts flags value code (leadField pair))
    n (wrapS 32 value) (feFailed flags) ts
  obtain ⟨hvalue, hcode, hflags⟩ := getP_entryDone (feSources u x.task flags checked) n ts flags value code (leadField pair)
  generalize srcResult _ n (wrapS 32 value) (feFailed flags) ts = v at hkept hreport
  have hrun : v.fe.run = none := congrArg FrontEnd.run hkept.fe
  rw [hreport, chartStopped_of_rests (hkept.rests hdone), feAdvance_of_rests hrun (hkept.rests hdone)]
  exact ⟨_, u, rfl, hrun, (hkept.getP hn (by decide)).trans hvalue, (hkept.getP hn (by decide)).trans hcode,
    (hkept.getP hn (by decide)).trans hflags, hkept.detected⟩

/-! ### FE_ENTRY_RESULT of a voltage (11 R246, R248) -/

theorem feFinish_volts {s : State} {x : FeRun} {n : Nat} (htask : x.task = .entry n) (hkind : x.entry.kind = 0) (hrests : FeRests s.fe) :
    ∃ u flags checked, FeRests u.fe ∧ feFinish s x = feReport u x (roundQ (feVolts x.entry (meanCode x) * 1000000000))
      (roundQ (meanCode x)) flags (resultTs x) none checked := by
  unfold feFinish feReading
  simp only [hkind, if_true, htask]
  refine ⟨_, _, _, ?_, rfl⟩
  split
  · exact ⟨hrests.queue, hrests.calDue, hrests.calSince, hrests.st⟩
  · exact hrests

theorem feEntryResult_volts {x : FeRun} {n : Nat} {s : State} (hrun : s.fe.run = some x) (hsub : x.sub = .main)
    (hlen : x.codes.length = x.entry.times) (hopened : x.opened = false) (htask : x.task = .entry n) (hn : n < 32)
    (hkind : x.entry.kind = 0) (hrests : FeRests s.fe) : ∃ t, exec .feEntryResult s = .next t ∧ t.fe.run = none ∧
      getP t 7 n fRESULT_VALUE = roundQ (feVolts x.entry (meanCode x) * 1000000000) ∧ getP t 7 n fRESULT_CODE = roundQ (meanCode x) := by
  have hexec : exec .feEntryResult s = .next (feFinish s x) := by
    show execFeEntryResult s = _
    simp [execFeEntryResult, hrun, hsub, hlen, hopened]
  obtain ⟨u, flags, checked, hu, hfinish⟩ := feFinish_volts htask hkind hrests
  obtain ⟨t, -, ht, hnone, hvalue, hcode, -, -⟩ := feReport_spec htask hn hu (roundQ (feVolts x.entry (meanCode x) * 1000000000))
    (roundQ (meanCode x)) flags (resultTs x) none checked
  exact ⟨t, by rw [hexec, hfinish, ht], hnone, hvalue, hcode⟩

/-! ### EXC_MONITOR_TRIP (11 R244; log 85) -/

/-- An entry with an excitation keeps it through its sub-conversions (11 R243, R249). -/
theorem connOf_exc_isSome {e : ChartEntry} (huse : e.use.testBit 0 = true) (hkind : e.excKind ≠ 0) (sub : FeSub) :
    (connOf e sub).exc.isSome = true := by
  cases sub with
  | main => simp [connOf, huse, hkind]
  | leadA => simp [connOf, huse, hkind]
  | leadB =>
    unfold connOf
    dsimp only
    split <;> simp [huse, hkind]

/-- The flags of a run that the monitor ends: OPEN or SHORT. -/
def tripFlags (s : State) (t : FeTask) (short : Bool) : Nat := baseFlags s t + bitN (!short) + 2 * bitN short

theorem testBit_tripFlags (s : State) (n : Nat) (short : Bool) :
    (tripFlags s (.entry n) short).testBit 0 = !short ∧ (tripFlags s (.entry n) short).testBit 1 = short := by
  show (0 + 128 * bitN (!s.fe.passed) + bitN (!short) + 2 * bitN short).testBit 0 = !short ∧
    (0 + 128 * bitN (!s.fe.passed) + bitN (!short) + 2 * bitN short).testBit 1 = short
  generalize s.fe.passed = passed
  revert passed short
  decide

theorem excMonitorTrip_ends {x : FeRun} {n : Nat} {short : Bool} {s : State} (hrun : s.fe.run = some x) (htask : x.task = .entry n)
    (hn : n < 32) (huse : x.entry.use.testBit 0 = true) (hexc : x.entry.excKind = 2 ∨ (x.entry.excKind = 1 ∧ short = false))
    (hrests : FeRests s.fe) : ∃ t, exec (.excMonitorTrip short) s = .next t ∧ t.fe.run = none ∧ getP t 7 n fRESULT_VALUE = 0x80000000 ∧
      (getP t 7 n fRESULT_FLAGS).toNat.testBit 0 = !short ∧ (getP t 7 n fRESULT_FLAGS).toNat.testBit 1 = short ∧
      ∃ y ∈ t.col.detected, y.src = (if short then 97 else 96) ∧ y.ins = n := by
  have htrips : (x.entry.excKind = 2 || (x.entry.excKind = 1 && !short)) = true := by
    rcases hexc with h | ⟨h, hshort⟩
    · simp [h]
    · simp [h, hshort]
  have hon : (connOf x.entry x.sub).exc.isSome = true := connOf_exc_isSome huse (by omega) x.sub
  have hexec : ∃ u code ts, FeRests u.fe ∧ exec (.excMonitorTrip short) s =
      .next (feReport u x 0x80000000 code (tripFlags s x.task short) ts none false) := by
    show ∃ u code ts, _ ∧ execExcMonitorTrip short s = _
    unfold execExcMonitorTrip
    simp only [hrun, hon, htrips, Bool.and_self, if_true]
    refine ⟨_, _, _, ?_, rfl⟩
    exact ⟨hrests.queue, hrests.calDue, hrests.calSince, hrests.st⟩
  obtain ⟨u, code, ts, hu, hexec⟩ := hexec
  obtain ⟨t, v, ht, hnone, hvalue, -, hflags, hraised⟩ :=
    feReport_spec htask hn hu 0x80000000 code (tripFlags s x.task short) ts none false
  rw [htask] at hflags hraised
  obtain ⟨hopen, hshort⟩ := testBit_tripFlags s n short
  refine ⟨t, by rw [hexec, ht], hnone, hvalue, by rw [hflags]; exact hopen, by rw [hflags]; exact hshort, ?_⟩
  cases short with
  | false => exact ⟨_, hraised (feSources_raises_open v (.entry n) false hopen), rfl, rfl⟩
  | true => exact ⟨_, hraised (feSources_raises_short v (.entry n) false hshort), rfl, rfl⟩

/-! ### FE_SELFCAL_DONE (11 R253; log 184) -/

theorem calEndAll_rest (s : State) (d : Nat) : ∃ cal slots link, calEndAll s d = { s with cal := cal, slots := slots, link := link } := by
  unfold calEndAll
  split
  · rw [complete_rest]
    exact ⟨_, _, _, rfl⟩
  · exact ⟨_, _, _, rfl⟩

/-- The end of a run is a matter of its record, and of the slot that waits for it. -/
theorem calEnd_rest (s : State) (d i : Nat) : (calEnd s d i).fe = s.fe ∧ (calEnd s d i).col = s.col := by
  unfold calEnd
  extract_lets x done recorded failed
  obtain ⟨cal, slots, link, hall⟩ := calEndAll_rest (complete failed (.calRun d i) (okWith (calPayload done))) d
  have hfailed : failed.fe = s.fe ∧ failed.col = s.col := by
    unfold failed
    split <;> exact ⟨rfl, rfl⟩
  rw [hall, complete_rest]
  exact hfailed

/-- A self-calibration has ended: the factors of the steps that passed are in force. -/
def feCalibrated (s : State) (failed : Nat) (new : FeFactors) : State := modFe s fun x => { x with
  calSince := none, factors := feNewFactors x.factors new failed, calState := if decide (failed % 16 = 0) then 1 else 2
  passed := x.passed || decide (failed % 16 = 0) }

/-- What a self-calibration says of source 100. -/
def feCalTold (s : State) (failed : Nat) : State :=
  if decide (failed % 16 = 0) then clearIf { s with boot := { s.boot with feCalTemp := s.boot.dieTemp } } 100
  else calFail (detect s { raiseBlank 100 with d0 := failed % 16 }) 2 0

theorem feCalTold_fe (s : State) (failed : Nat) : (feCalTold s failed).fe = s.fe := by
  unfold feCalTold clearIf
  split
  · rw [(clearLive_onlyCollector _ 100).rest]
  · rw [calFail_fe, detect_eq]

theorem feCalEnd_spec {s : State} (failed : Nat) (new : FeFactors) (hrun : s.fe.run = none) (hqueue : s.fe.queue = [])
    (hdue : s.fe.calDue = false) (hst : s.fe.st = .stopped) :
    (feCalEnd s failed new).fe = { (feCalibrated s failed new).fe with conn := none } ∧
    (feCalEnd s failed new).col = (feCalTold (feCalibrated s failed new) failed).col := by
  obtain ⟨hfe, hcol⟩ := calEnd_rest (feCalTold (feCalibrated s failed new) failed) 2 0
  rw [feCalTold_fe] at hfe
  have hend : feCalEnd s failed new = feAdvance (calEnd (feCalTold (feCalibrated s failed new) failed) 2 0) := rfl
  rw [hend]
  generalize calEnd (feCalTold (feCalibrated s failed new) failed) 2 0 = u at hfe hcol ⊢
  have hrests : FeRests u.fe := by
    rw [hfe]
    exact ⟨hqueue, hdue, rfl, hst⟩
  rw [feAdvance_of_rests (by rw [hfe]; exact hrun) hrests]
  exact ⟨congrArg (fun x : FrontEnd => { x with conn := none }) hfe, hcol⟩

theorem feSelfcalDone_ends {failed q : Nat} (ofs refs : List Rat) (cur vol : Rat) {s : State} (hcal : s.fe.calSince = some q)
    (hnow : q + 15000000 ≤ nowClk s) : exec (.feSelfcalDone failed ofs refs cur vol) s =
      .next (feCalEnd s (selfcalFailed failed ofs refs) (feMeasured ofs refs cur vol)) := by
  show execFeSelfcalDone failed ofs refs cur vol s = _
  have hover : q + 12 * msTicks ≤ nowClk s := hnow
  simp [execFeSelfcalDone, hcal, hover]

theorem selfcalFailed_of_no_zero {ofs refs : List Rat} (failed : Nat) (h : ∀ g, g < 8 → feRefCode ofs refs g ≠ 0) :
    selfcalFailed failed ofs refs = failed := by
  have hnone : (List.range 8).any (fun g => decide (feRefCode ofs refs g = 0)) = false := by
    simpa [List.any_eq_false] using h
  rw [selfcalFailed, hnone]
  rfl

theorem selfcalFailed_all (ofs refs : List Rat) : selfcalFailed 15 ofs refs = 15 := by
  unfold selfcalFailed
  split <;> rfl

theorem feSelfcalDone_spec {failed q : Nat} {ofs refs : List Rat} {cur vol : Rat} {s : State} (hcal : s.fe.calSince = some q)
    (hnow : q + 15000000 ≤ nowClk s) (hrun : s.fe.run = none) (hqueue : s.fe.queue = []) (hdue : s.fe.calDue = false)
    (hst : s.fe.st = .stopped) : ∃ t, exec (.feSelfcalDone failed ofs refs cur vol) s = .next t ∧ t.fe.calSince = none ∧
      (failed = 0 → (∀ g, g < 8 → feRefCode ofs refs g ≠ 0) → t.fe.factors = feMeasured ofs refs cur vol ∧ t.fe.calState = 1 ∧
        t.fe.passed = true ∧ (srcRec t 100).live = false) ∧
      (failed = 15 → t.fe.factors = s.fe.factors ∧ t.fe.calState = 2 ∧
        t.col.detected = s.col.detected ++ [{ raiseBlank 100 with d0 := 15 }]) := by
  obtain ⟨hfe, hcol⟩ := feCalEnd_spec (selfcalFailed failed ofs refs) (feMeasured ofs refs cur vol) hrun hqueue hdue hst
  refine ⟨_, feSelfcalDone_ends ofs refs cur vol hcal hnow, by rw [hfe]; rfl, fun h0 hgood => ?_, fun h15 => ?_⟩
  · subst h0
    rw [selfcalFailed_of_no_zero 0 hgood] at *
    rw [srcRec, hcol, hfe]
    exact ⟨rfl, rfl, Bool.or_true _, not_isLive_clearLive _ 100⟩
  · subst h15
    rw [selfcalFailed_all] at *
    rw [hcol, hfe]
    exact ⟨rfl, rfl, detected_detect _ _⟩

/-- Settles O32: a run's start, its codes and its end follow the front end's own record; what a result tells sources and source drive
leaves that record and the result's items alone. -/
theorem frontEndRuns : Obligations.FrontEndRuns := by
  unfold Obligations.FrontEndRuns
  refine ⟨fun r first count entries s hopen hfirst hone hcount hsum hgood hclash =>
      feChartLoad_defines hopen hfirst hone hcount hsum hgood hclash,
    fun r s hopen => ⟨feChartRun_starts hopen, fun x n hst hrun htask => ⟨_, feChartRun_stops hopen hst hrun htask, rfl⟩⟩,
    fun r tag entry s hopen hone htag hgood hroom hbusy => feInject_queues hopen hone htag hgood hroom hbusy,
    fun volts x s hrun hopened htimes hnow => feConversion_spec hrun hopened htimes hnow,
    fun x n s hrun hsub hlen hopened htask hn hkind hqueue hdue hcal hst =>
      feEntryResult_volts hrun hsub hlen hopened htask hn hkind ⟨hqueue, hdue, hcal, hst⟩,
    fun x n short s hrun htask hn huse hexc hqueue hdue hcal hst =>
      excMonitorTrip_ends hrun htask hn huse hexc ⟨hqueue, hdue, hcal, hst⟩,
    fun failed q ofs refs cur vol s hcal hnow hrun hqueue hdue hst => feSelfcalDone_spec hcal hnow hrun hqueue hdue hst⟩

end Sys2Proof.Machine
end

section
/-! PROOFS. The queue of waiting commands and the canonical form of both memories (13_memory_controller.md, 14_host_link_dma.md): O2, O3. -/

namespace Sys2Proof.Machine

/-- A byte memory is in canonical form (13 R280). -/
def Canonical (m : Memory) : Prop := Memory.wf m

@[simp] theorem canonical_memWrite {m : Memory} {a : Nat} {bs : List Byte} (h : Canonical m) : Canonical (memWrite m a bs) :=
  memWrite_wf a bs h

@[simp] theorem canonical_memPutWord {m : Memory} {a n v : Nat} (h : Canonical m) : Canonical (memPutWord m a n v) :=
  memPutWord_wf a n v h

@[simp] theorem canonical_kfilter {m : Memory} {f : Nat → Bool} (h : Canonical m) : Canonical (kfilter f m) := memFilter_wf f h

/-- What an answer does to the canonical form of host memory. -/
def HostKept (s : State) (o : Host.Outcome State Fault Refusal) : Prop :=
  ∃ t, o = .next t ∧ (Canonical s.link.hostMem → Canonical t.link.hostMem)

theorem foldl_canonical {β : Type} {f : State → β → State} (hf : ∀ s b, Canonical s.link.hostMem → Canonical (f s b).link.hostMem)
    (xs : List β) {s : State} (hc : Canonical s.link.hostMem) : Canonical (xs.foldl f s).link.hostMem := by
  induction xs generalizing s with
  | nil => exact hc
  | cons x xs ih => exact ih (hf s x hc)

theorem mbxRun_canonical {self : Instr} {r : Req} {op : Nat} {need : Bool} {body : State → State × Answer} {s : State}
    (hb : ∀ s, Canonical s.link.hostMem → Canonical (body s).1.link.hostMem) (hc : Canonical s.link.hostMem) :
    Canonical (mbxRun self r op need body s).link.hostMem := by
  unfold mbxRun
  dsimp only
  (repeat' split) <;> simp [hc, hb]

/-! ### Host memory: each operation that may write it (13 R280; 14 R304) -/

@[simp] theorem writeStatus_canonical (s : State) (r : Nat) (hc : Canonical s.link.hostMem) :
    Canonical (writeStatus s r).link.hostMem := by
  unfold writeStatus
  simp [hc]

@[simp] theorem takeDescriptor_canonical (s : State) (h : Nat) (hc : Canonical s.link.hostMem) :
    Canonical (takeDescriptor s h).link.hostMem := by
  unfold takeDescriptor
  dsimp only
  (repeat' split) <;> simp [hc]

@[simp] theorem ringStart_canonical (s : State) (r : Nat) (hc : Canonical s.link.hostMem) :
    Canonical (ringStart s r).link.hostMem := by
  unfold ringStart
  dsimp only
  split <;> simp [hc]

@[simp] theorem settleRing_canonical (s : State) (r : Nat) (works : Bool) (hc : Canonical s.link.hostMem) :
    Canonical (settleRing s r works).link.hostMem := by
  unfold settleRing
  dsimp only
  (repeat' split) <;> simp [hc]

@[simp] theorem dropShadow_canonical (s : State) (n : Nat) (hc : Canonical s.link.hostMem) :
    Canonical (dropShadow s n).link.hostMem := by
  unfold dropShadow
  extract_lets x u v w y
  have hv : Canonical v.link.hostMem := by
    unfold v
    split
    · exact takeDescriptor_canonical _ 1 (by unfold u; (repeat' split) <;> simp [hc])
    · unfold u; (repeat' split) <;> simp [hc]
  have hy : Canonical y.link.hostMem := settleRing_canonical _ _ _ (by simpa [w] using hv)
  simpa using hy

theorem krnDropped_canonical (s : State) (n : Nat) (hc : Canonical s.link.hostMem) :
    Canonical (complete (modKrn (dropShadow s n) n (fun x => { x with st := .trapped, stopping := false }))
      (.krnStop n) (statusOnly stAborted)).link.hostMem := by
  have h := dropShadow_canonical s n hc
  generalize dropShadow s n = t at h ⊢
  rw [(complete_kept _ _ _).2.2.1, (modKrn_kept t n _).2.2.1]
  exact h

theorem krnTrapRaised_hostMem (s : State) (n cause pc : Nat) :
    (detect (setP (setP s 0x0C n nTRAP_CAUSE cause) 0x0C n nTRAP_PC (wrapS 32 pc))
      { raiseBlank 52 with ins := n, d0 := cause, d1 := pc }).link.hostMem = s.link.hostMem := by
  rw [(detect_kept _ _).2.2.1, (setP_kept _ _ _ _ _).2.2.1, (setP_kept _ _ _ _ _).2.2.1]

@[simp] theorem krnTrap_canonical (s : State) (n : Nat) (cause : Nat) (pc : Nat) (hc : Canonical s.link.hostMem) :
    Canonical (krnTrap s n cause pc).link.hostMem := by
  unfold krnTrap
  exact krnDropped_canonical _ n (krnTrapRaised_hostMem s n cause pc ▸ hc)

@[simp] theorem coreTrap_canonical (s : State) (c : Nat) (cause : Nat) (hc : Canonical s.link.hostMem) :
    Canonical (coreTrap s c cause).link.hostMem := by
  unfold coreTrap
  dsimp only
  split
  · exact krnTrap_canonical _ _ _ _ (by simpa using hc)
  · simpa using hc
  · simpa using hc

@[simp] theorem jobCompletion_canonical (s : State) (j : HostJob) (status : Nat) (upTo : Nat) (hc : Canonical s.link.hostMem) :
    Canonical (jobCompletion s j status upTo).link.hostMem := by
  unfold jobCompletion
  split <;> simp [hc]

@[simp] theorem abortJobs_canonical (s : State) (hc : Canonical s.link.hostMem) :
    Canonical (abortJobs s).link.hostMem := by
  unfold abortJobs
  generalize List.range 9 = es
  extract_lets running u v
  have hu : Canonical u.link.hostMem := foldl_canonical (fun s j h => jobCompletion_canonical s j _ _ h) _ hc
  have hv : v.link.hostMem = u.link.hostMem := (abortJobs_engines_kept u es).2.2.1
  clear_value u v
  simp [hv, hu]

@[simp] theorem stageLost_canonical (s : State) (status : Nat) (hc : Canonical s.link.hostMem) :
    Canonical (stageLost s status).link.hostMem := by
  unfold stageLost
  split <;> simp [hc]

@[simp] theorem abortLoads_canonical (s : State) (hc : Canonical s.link.hostMem) :
    Canonical (abortLoads s).link.hostMem := by
  unfold abortLoads
  exact foldl_canonical (fun s n h => by split <;> simp [h]) _ hc

@[simp] theorem abortConsumers_canonical (s : State) (ring : Nat) (hc : Canonical s.link.hostMem) :
    Canonical (abortConsumers s ring).link.hostMem := by
  unfold abortConsumers
  split <;> simp [hc]

@[simp] theorem abortHostTransfers_canonical (s : State) (hc : Canonical s.link.hostMem) :
    Canonical (abortHostTransfers s).link.hostMem := by
  unfold abortHostTransfers
  exact abortJobs_canonical _ (abortLoads_canonical _ (stageLost_canonical _ _ hc))

@[simp] theorem writeFrame_canonical (s : State) (r : Nat) (f : Frame) (hc : Canonical s.link.hostMem) :
    Canonical (writeFrame s r f).link.hostMem := by
  unfold writeFrame
  dsimp only
  rw [(announce_kept _ _).2.2.1]
  refine writeStatus_canonical _ _ ?_
  split <;> simp [hc, ringWrite]

theorem execC2hFrameWrite_hostKept (ring : Nat) (s : State) : HostKept s (execC2hFrameWrite ring s) := by
  unfold execC2hFrameWrite
  dsimp only
  (repeat' split) <;> exact ⟨_, rfl, fun hc => by simp [hc]⟩

@[simp] theorem enableRing_canonical (s : State) (r : Nat) (hc : Canonical s.link.hostMem) :
    Canonical (enableRing s r).link.hostMem := by
  unfold enableRing
  dsimp only
  (repeat' split) <;> simp [hc]

@[simp] theorem disableRing_canonical (s : State) (r : Nat) (hc : Canonical s.link.hostMem) :
    Canonical (disableRing s r).link.hostMem := by
  unfold disableRing
  dsimp only
  (repeat' split) <;> simp [hc]

theorem execRingEnable_hostKept (ring : Nat) (s : State) : HostKept s (execRingEnable ring s) := by
  unfold execRingEnable
  split <;> exact ⟨_, rfl, fun hc => by simp [hc]⟩

theorem execRingDisable_hostKept (ring : Nat) (s : State) : HostKept s (execRingDisable ring s) := by
  unfold execRingDisable
  split <;> exact ⟨_, rfl, fun hc => by simp [hc]⟩

@[simp] theorem writeRingRegister_canonical (s : State) (r : Nat) (reg : Nat) (v : Nat) (hc : Canonical s.link.hostMem) :
    Canonical (writeRingRegister s r reg v).link.hostMem := by
  unfold writeRingRegister
  dsimp only
  (repeat' split) <;> simp [hc]

@[simp] theorem writeBar0_canonical (s : State) (off : Nat) (v : Nat) (hc : Canonical s.link.hostMem) :
    Canonical (writeBar0 s off v).link.hostMem := by
  unfold writeBar0
  (repeat' split) <;> simp [hc]

theorem execRegisterWrite_hostKept (target : RegTarget) (v : Nat) (s : State) : HostKept s (execRegisterWrite target v s) := by
  unfold execRegisterWrite
  (repeat' split) <;> exact ⟨_, rfl, fun hc => by simp [hc]⟩

@[simp] theorem resetEndpoint_canonical (s : State) (kind : EndpointReset) (hc : Canonical s.link.hostMem) :
    Canonical (resetEndpoint s kind).link.hostMem := by
  unfold resetEndpoint
  dsimp only
  split <;> simp [hc]

theorem execEndpointReset_hostKept (kind : EndpointReset) (s : State) : HostKept s (execEndpointReset kind s) := by
  unfold execEndpointReset
  split <;> exact ⟨_, rfl, fun hc => by simp [hc]⟩

@[simp] theorem dmaFails_canonical (s : State) (ring : Nat) (code : Nat) (src : Nat) (hc : Canonical s.link.hostMem) :
    Canonical (dmaFails s ring code src).link.hostMem := by
  unfold dmaFails
  simp [hc]

theorem execDmaCompletionError_hostKept (ring : Nat) (s : State) : HostKept s (execDmaCompletionError ring s) := by
  unfold execDmaCompletionError
  split <;> exact ⟨_, rfl, fun hc => by simp [hc]⟩

theorem execDmaCompletionTimeout_hostKept (ring : Nat) (s : State) : HostKept s (execDmaCompletionTimeout ring s) := by
  unfold execDmaCompletionTimeout
  split <;> exact ⟨_, rfl, fun hc => by simp [hc]⟩

@[simp] theorem endJob_canonical (s : State) (j : HostJob) (status : Nat) (upTo : Nat) (hc : Canonical s.link.hostMem) :
    Canonical (endJob s j status upTo).link.hostMem := by
  unfold endJob
  simp [hc]

@[simp] theorem freeBuffer_canonical (s : State) (q : Nat × Nat) (hc : Canonical s.link.hostMem) :
    Canonical (freeBuffer s q).link.hostMem := by
  unfold freeBuffer
  simp [hc]

@[simp] theorem jobNotShrunk_canonical (s : State) (j : HostJob) (hc : Canonical s.link.hostMem) :
    Canonical (jobNotShrunk s j).link.hostMem := by
  unfold jobNotShrunk
  exact endJob_canonical _ _ _ _ (by rw [(bumpP_kept _ _ _ _).2.2.1]; exact foldl_canonical (fun s q h => freeBuffer_canonical s q h) _ hc)

@[simp] theorem discardStream_canonical (s : State) (n : Nat) (hc : Canonical s.link.hostMem) :
    Canonical (discardStream s n).link.hostMem := by
  unfold discardStream
  dsimp only
  rw [(setStream_kept _ _ _).2.2.1]
  exact foldl_canonical (fun s j h => endJob_canonical s j _ _ h) _ hc

@[simp] theorem suspendJob_canonical (s : State) (j : HostJob) (hc : Canonical s.link.hostMem) :
    Canonical (suspendJob s j).link.hostMem := by
  unfold suspendJob
  (repeat' split) <;> simp [hc]

@[simp] theorem jobDone_canonical (s : State) (j : HostJob) (hc : Canonical s.link.hostMem) :
    Canonical (jobDone s j).link.hostMem := by
  unfold jobDone
  dsimp only
  generalize (if (j.codes.isEmpty && jobNeeds j) = true then formBlock j else j) = j
  generalize writeCodes _ _ _ _ = w
  have hm : Canonical (jobMem s.link.hostMem j w.out.reverse) := by unfold jobMem; simp [hc]
  (repeat' split) <;> simp [hm]

@[simp] theorem refuseJob_canonical (s : State) (d : JobDesc) (status : Nat) (field : Nat) (hc : Canonical s.link.hostMem) :
    Canonical (refuseJob s d status field).link.hostMem := by
  unfold refuseJob
  simp [hc]

theorem execCompJobDescriptor_hostKept (desc : Bulk) (s : State) : HostKept s (execCompJobDescriptor desc s) := by
  unfold execCompJobDescriptor
  extract_lets d u v w
  have hu : Canonical s.link.hostMem → Canonical u.link.hostMem := takeDescriptor_canonical s 3
  have hv : v.link.hostMem = u.link.hostMem := by unfold v; split <;> simp
  clear_value d v u
  split
  · exact ⟨_, rfl, id⟩
  · split
    · exact ⟨_, rfl, fun hc => by simp [hu hc]⟩
    · split
      · exact ⟨_, rfl, fun hc => by simp [hu hc]⟩
      · split
        · exact ⟨_, rfl, fun hc => by simp [hv, hu hc]⟩
        · exact ⟨_, rfl, fun hc => by simp [hu hc]⟩

theorem loseJob_canonical (s : State) (j : HostJob) (hc : Canonical s.link.hostMem) :
    Canonical (loseJob s j).link.hostMem := by
  unfold loseJob
  split
  · exact discardStream_canonical _ _ (by rw [(bumpP_kept s _ _ _).2.2.1]; exact hc)
  · rw [(bumpP_kept s _ _ _).2.2.1]; exact hc

theorem execSuspendTimeoutExpiry_hostKept (s : State) : HostKept s (execSuspendTimeoutExpiry s) := by
  refine ⟨_, suspendTimeoutExpiry_eq s, fun hc => ?_⟩
  refine foldl_canonical (fun u n h => ?_) _ (foldl_canonical loseJob_canonical _ hc)
  unfold expireStream
  (repeat' split) <;> simp [h]

theorem execCompBlockDone_hostKept (engine : Nat) (s : State) : HostKept s (execCompBlockDone engine s) := by
  unfold execCompBlockDone
  extract_lets x flip u v
  have hu : u.link.hostMem = s.link.hostMem := by unfold u; split <;> simp
  have hv : v.link.hostMem = s.link.hostMem := by rw [show v = setEngine u engine { x with work := .idle } from rfl, (setEngine_kept _ _ _).2.2.1, hu]
  clear_value u v
  split
  · exact ⟨_, rfl, id⟩
  · split
    · exact ⟨_, rfl, fun hc => by simp [hu, hc]⟩
    · split
      · exact ⟨_, rfl, fun hc => by rw [hv]; exact hc⟩
      · exact ⟨_, rfl, fun hc => by simp [hv, hc]⟩
      · exact ⟨_, rfl, fun hc => by simp [hv, hc]⟩

theorem withBulk_canonical {slot : Nat} {b : Bulk} {good : Bulk → Bool} {f : List Byte → State → State × Answer} {s : State}
    (hf : ∀ bs s, Canonical s.link.hostMem → Canonical (f bs s).1.link.hostMem) (hc : Canonical s.link.hostMem) :
    Canonical (withBulk slot b good f s).1.link.hostMem := by
  unfold withBulk
  dsimp only
  (repeat' split) <;> simp [hc, hf]

@[simp] theorem bodyParamSet_canonical (slot : Nat) (pairs : List (Nat × Int)) (bulk : Option Bulk) (s : State) (hc : Canonical s.link.hostMem) :
    Canonical (bodyParamSet slot pairs bulk s).1.link.hostMem := by
  unfold bodyParamSet
  split
  · split <;> simp [hc]
  · exact withBulk_canonical (fun bs u h => by simpa using h) hc

theorem execParamSet_hostKept (r : Req) (pairs : List (Nat × Int)) (bulk : Option Bulk) (s : State) : HostKept s (execParamSet r pairs bulk s) :=
  ⟨_, rfl, fun hc => mbxRun_canonical (fun u h => bodyParamSet_canonical _ _ _ u h) hc⟩

theorem onCore_canonical {s : State} {c : Nat} {f : Core → State} (hf : ∀ k, Canonical (f k).link.hostMem)
    (hc : Canonical s.link.hostMem) : Canonical (onCore s c f).link.hostMem := by
  unfold onCore
  dsimp only
  (repeat' split) <;> simp [hc, hf]

theorem onN_canonical {s : State} {c : Nat} {f : Core → State} (hf : ∀ k, Canonical (f k).link.hostMem)
    (hc : Canonical s.link.hostMem) : Canonical (onN s c f).link.hostMem :=
  onCore_canonical (fun k => by split <;> simp [hc, hf]) hc

theorem onX_canonical {s : State} {c : Nat} {f : Core → State} (hf : ∀ k, Canonical (f k).link.hostMem)
    (hc : Canonical s.link.hostMem) : Canonical (onX s c f).link.hostMem :=
  onCore_canonical (fun k => by split <;> simp [hc, hf]) hc

@[simp] theorem pickTrap_canonical (s : State) (c : Nat) (causes : List Nat) (hc : Canonical s.link.hostMem) :
    Canonical (pickTrap s c causes).link.hostMem := by
  unfold pickTrap
  split <;> simp [hc]

theorem execWaitInstr_hostKept (core : Nat) (sub : Nat) (k : Nat) (s : State) : HostKept s (execWaitInstr core sub k s) := by
  refine ⟨_, rfl, fun hc => onCore_canonical (fun k => ?_) hc⟩
  simp [hc]

theorem execDoneInstr_hostKept (core : Nat) (sub : Nat) (k : Nat) (s : State) : HostKept s (execDoneInstr core sub k s) := by
  refine ⟨_, rfl, fun hc => onCore_canonical (fun k => ?_) hc⟩
  simp [hc]

@[simp] theorem putEffect_canonical (s : State) (c : Nat) (ts : Nat) (an : Nat) (len : Nat) (k : Core) (hc : Canonical s.link.hostMem) :
    Canonical (putEffect s c ts an len k).link.hostMem := by
  unfold putEffect
  dsimp only
  (repeat' split) <;> simp [hc]

theorem execPutInstr_hostKept (core : Nat) (ts : Nat) (an : Nat) (len : Nat) (s : State) : HostKept s (execPutInstr core ts an len s) := by
  refine ⟨_, rfl, fun hc => onCore_canonical (fun k => ?_) hc⟩
  simp [hc]

@[simp] theorem dmaEffect_canonical (s : State) (c : Nat) (an : Nat) (window : Nat) (units : Nat) (out : Bool) (k : Core) (hc : Canonical s.link.hostMem) :
    Canonical (dmaEffect s c an window units out k).link.hostMem := by
  unfold dmaEffect
  dsimp only
  (repeat' split) <;> simp [hc]

theorem execDmaInstr_hostKept (core : Nat) (an : Nat) (window : Nat) (units : Nat) (toWindow : Bool) (s : State) : HostKept s (execDmaInstr core an window units toWindow s) := by
  refine ⟨_, rfl, fun hc => onCore_canonical (fun k => ?_) hc⟩
  simp [hc]

theorem execDwait_hostKept (core : Nat) (s : State) : HostKept s (execDwait core s) := by
  refine ⟨_, rfl, fun hc => onCore_canonical (fun k => ?_) hc⟩
  (repeat' split) <;> simp [hc]

theorem execCycrd_hostKept (core : Nat) (dst : Nat) (s : State) : HostKept s (execCycrd core dst s) := by
  refine ⟨_, rfl, fun hc => onCore_canonical (fun k => ?_) hc⟩
  simp [hc]

theorem execEvt_hostKept (core : Nat) (det : Nat) (ts : Nat) (s : State) : HostKept s (execEvt core det ts s) := by
  refine ⟨_, rfl, fun hc => onX_canonical (fun k => ?_) hc⟩
  simp [hc]

theorem execFsrc_hostKept (core : Nat) (src : Nat) (ins : Nat) (d0 : Nat) (d1 : Nat) (s : State) : HostKept s (execFsrc core src ins d0 d1 s) := by
  refine ⟨_, rfl, fun hc => onX_canonical (fun k => ?_) hc⟩
  simp [hc]

@[simp] theorem ckptEffect_canonical (s : State) (c : Nat) (an : Nat) (len : Nat) (k : Core) (hc : Canonical s.link.hostMem) :
    Canonical (ckptEffect s c an len k).link.hostMem := by
  unfold ckptEffect
  dsimp only
  split <;> simp [hc]

theorem execCkpt_hostKept (core an len : Nat) (s : State) : HostKept s (execCkpt core an len s) := by
  refine ⟨_, rfl, fun hc => onX_canonical (fun k => ?_) hc⟩
  simp [hc]

theorem execCfrCfw_hostKept (core : Nat) (target : FabricReg) (write : Bool) (g : Nat) (s : State) : HostKept s (execCfrCfw core target write g s) := by
  refine ⟨_, rfl, fun hc => onX_canonical (fun k => ?_) hc⟩
  (repeat' split) <;> simp [hc]

@[simp] theorem bodyFwKrnLoad_canonical (slot n : Nat) (b : Bulk) (s : State) (hc : Canonical s.link.hostMem) :
    Canonical (bodyFwKrnLoad slot n b s).1.link.hostMem := by
  unfold bodyFwKrnLoad krnCommand
  dsimp only
  (repeat' split)
  all_goals first
    | (simp [hc]; done)
    | (next h => obtain ⟨-, -, h3, -⟩ := slotGetsCore_kept _ _ _ h; simp [hc, h3])

theorem execFwKrnLoad_hostKept (r : Req) (slot : Nat) (desc : Bulk) (s : State) : HostKept s (execFwKrnLoad r slot desc s) :=
  ⟨_, rfl, fun hc => mbxRun_canonical (fun u h => bodyFwKrnLoad_canonical _ _ _ u h) hc⟩

theorem execKrnLoadDone_hostKept (slot : Nat) (s : State) : HostKept s (execKrnLoadDone slot s) := by
  unfold execKrnLoadDone
  dsimp only
  (repeat' split) <;> exact ⟨_, rfl, fun hc => by simp [hc]⟩

@[simp] theorem findSpare_canonical (s : State) (c : Nat) (hc : Canonical s.link.hostMem) :
    Canonical (findSpare s c).1.link.hostMem := by
  unfold findSpare
  (repeat' split) <;> simp [hc]

@[simp] theorem slotLosesCore_canonical (s : State) (n : Nat) (hc : Canonical s.link.hostMem) :
    Canonical (slotLosesCore s n).link.hostMem := by
  unfold slotLosesCore
  split <;> simp [hc]

@[simp] theorem degrade_canonical (s : State) (f : CoreFault) (hc : Canonical s.link.hostMem) :
    Canonical (degrade s f).link.hostMem := by
  unfold degrade
  dsimp only
  (repeat' split) <;> simp [hc]

@[simp] theorem spareFor_canonical (s : State) (f : CoreFault) (hc : Canonical s.link.hostMem) :
    Canonical (spareFor s f).1.link.hostMem := by
  unfold spareFor
  split <;> simp [hc]

theorem execNeedleCoreFault_hostKept (core : Nat) (s : State) : HostKept s (execNeedleCoreFault core s) := by
  unfold execNeedleCoreFault
  dsimp only
  (repeat' split) <;> exact ⟨_, rfl, fun hc => by simp [hc]⟩

theorem execNeedleEccError_hostKept (core : Nat) (double : Bool) (s : State) : HostKept s (execNeedleEccError core double s) := by
  unfold execNeedleEccError
  dsimp only
  (repeat' split) <;> exact ⟨_, rfl, fun hc => by simp [hc]⟩

theorem execCoreSelftestDone_hostKept (core : Nat) (pass : Bool) (s : State) : HostKept s (execCoreSelftestDone core pass s) := by
  unfold execCoreSelftestDone
  dsimp only
  (repeat' split) <;> exact ⟨_, rfl, fun hc => by simp [hc]⟩

@[simp] theorem bodyNvmRestore_canonical (slot : Nat) (dom : Nat) (bulk : Option Bulk) (s : State) (hc : Canonical s.link.hostMem) :
    Canonical (bodyNvmRestore slot dom bulk s).1.link.hostMem := by
  unfold bodyNvmRestore
  split
  · simp [hc]
  · split
    · exact withBulk_canonical (fun bs u h => by simpa using h) hc
    · split <;> simp [hc]

theorem execNvmRestore_hostKept (r : Req) (dom : Nat) (bulk : Option Bulk) (s : State) : HostKept s (execNvmRestore r dom bulk s) :=
  ⟨_, rfl, fun hc => mbxRun_canonical (fun u h => bodyNvmRestore_canonical _ _ _ u h) hc⟩

@[simp] theorem cutJob_canonical (s : State) (j : Job) (hc : Canonical s.link.hostMem) :
    Canonical (cutJob s j).link.hostMem := by
  unfold cutJob
  split
  case h_8 dom ins =>
    rw [foldl_hostMem _ (fun u i => (calAbortOne_kept u dom i).2.2.1)]
    split <;> simp [hc]
  all_goals simp [hc]

@[simp] theorem endDeferred_canonical (s : State) (hc : Canonical s.link.hostMem) :
    Canonical (endDeferred s).link.hostMem := by
  refine foldl_canonical (fun s n h => ?_) _ hc
  dsimp only
  split <;> simp [h]

@[simp] theorem bodySysBindOff_canonical (s : State) (hc : Canonical s.link.hostMem) :
    Canonical (bodySysBindOff s).1.link.hostMem := by
  unfold bodySysBindOff
  dsimp only
  (repeat' split) <;> simp [hc]

theorem execSysBindOff_hostKept (r : Req) (s : State) : HostKept s (execSysBindOff r s) :=
  ⟨_, rfl, fun hc => by simpa using mbxRun_canonical (fun u h => bodySysBindOff_canonical u h) hc⟩

@[simp] theorem bodyFwStage_canonical (slot : Nat) (n : Nat) (b : Bulk) (s : State) (hc : Canonical s.link.hostMem) :
    Canonical (bodyFwStage slot n b s).1.link.hostMem := by
  unfold bodyFwStage
  dsimp only
  (repeat' split) <;> simp [hc]

theorem execFwStage_hostKept (r : Req) (slot : Nat) (desc : Bulk) (s : State) : HostKept s (execFwStage r slot desc s) :=
  ⟨_, rfl, fun hc => mbxRun_canonical (fun u h => bodyFwStage_canonical _ _ _ u h) hc⟩

theorem execFwStageDone_hostKept (written : Bool) (s : State) : HostKept s (execFwStageDone written s) := by
  unfold execFwStageDone
  (repeat' split) <;> exact ⟨_, rfl, fun hc => by simp [hc]⟩

@[simp] theorem warmReset_canonical (s : State) (hc : Canonical s.link.hostMem) :
    Canonical (warmReset s).link.hostMem := by
  unfold warmReset
  simp [hc]

@[simp] theorem resetSettle_canonical (s : State) (hc : Canonical s.link.hostMem) :
    Canonical (resetSettle s).link.hostMem := by
  unfold resetSettle
  split <;> simp [hc]

@[simp] theorem bodySysReset_canonical (confirm : Nat) (s : State) (hc : Canonical s.link.hostMem) :
    Canonical (bodySysReset confirm s).1.link.hostMem := by
  unfold bodySysReset
  (repeat' split) <;> simp [hc]

theorem execSysReset_hostKept (r : Req) (confirm : Nat) (s : State) : HostKept s (execSysReset r confirm s) :=
  ⟨_, rfl, fun hc => resetSettle_canonical _ (mbxRun_canonical (fun u h => bodySysReset_canonical confirm u h) hc)⟩

theorem execFwActivate_hostKept (r : Req) (slot : Nat) (s : State) : HostKept s (execFwActivate r slot s) := by
  refine ⟨_, rfl, fun hc => resetSettle_canonical _ ?_⟩
  rw [(activateSettle_kept _).2.2.1]
  exact mbxRun_canonical (fun u h => by rw [(bodyFwActivate_kept r.slot slot u).2.2.1]; exact h) hc

@[simp] theorem ringIfEnabled_canonical (s : State) (r : Nat) (hc : Canonical s.link.hostMem) :
    Canonical (ringIfEnabled s r).link.hostMem := by
  unfold ringIfEnabled
  split <;> simp [hc]

theorem execRecoveryBoot_hostKept (image : List Byte) (s : State) : HostKept s (execRecoveryBoot image s) := by
  unfold execRecoveryBoot
  dsimp only
  (repeat' split) <;> exact ⟨_, rfl, fun hc => by simp [hc]⟩

theorem execBootReady_hostKept (s : State) : HostKept s (execBootReady s) := by
  unfold execBootReady
  split
  · refine ⟨_, rfl, fun hc => ?_⟩
    rw [(pinAtReady_kept _).2.2.1, (linkEnabled_kept _).2.2.1]
    exact foldl_canonical (fun s r h => ringIfEnabled_canonical s r h) _ (by simpa using hc)
  · exact ⟨_, rfl, id⟩

@[simp] theorem jump_canonical (s : State) (c : Nat) (target : Nat) (reads : List Nat) (f : Core → Core) (hc : Canonical s.link.hostMem) :
    Canonical (jump s c target reads f).link.hostMem := by
  unfold jump
  split <;> simp [hc]

@[simp] theorem controlEffect_canonical (s : State) (c : Nat) (op : CtlOp) (k : Core) (hc : Canonical s.link.hostMem) :
    Canonical (controlEffect s c op k).link.hostMem := by
  unfold controlEffect
  (repeat' split) <;> simp [hc]

theorem execControlClassInstr_hostKept (core : Nat) (op : CtlOp) (s : State) : HostKept s (execControlClassInstr core op s) := by
  refine ⟨_, rfl, fun hc => onCore_canonical (fun k => ?_) hc⟩
  simp [hc]

@[simp] theorem repEffect_canonical (s : State) (c : Nat) (count : RepCount) (after : Nat) (k : Core) (hc : Canonical s.link.hostMem) :
    Canonical (repEffect s c count after k).link.hostMem := by
  unfold repEffect
  dsimp only
  (repeat' split) <;> simp [hc]

theorem execRepInstr_hostKept (core : Nat) (count : RepCount) (after : Nat) (s : State) : HostKept s (execRepInstr core count after s) := by
  refine ⟨_, rfl, fun hc => onCore_canonical (fun k => ?_) hc⟩
  simp [hc]

theorem execBreakInstr_hostKept (core : Nat) (s : State) : HostKept s (execBreakInstr core s) := by
  refine ⟨_, rfl, fun hc => onCore_canonical (fun k => ?_) hc⟩
  simp [hc]

theorem execTrapInstr_hostKept (core : Nat) (op : TrapOp) (s : State) : HostKept s (execTrapInstr core op s) := by
  refine ⟨_, rfl, fun hc => onCore_canonical (fun k => ?_) hc⟩
  (repeat' split) <;> simp [hc]

theorem execScalarInstr_hostKept (core : Nat) (op : ScalarInstr) (s : State) : HostKept s (execScalarInstr core op s) := by
  refine ⟨_, rfl, fun hc => onCore_canonical (fun k => ?_) hc⟩
  (repeat' split) <;> simp [hc]

theorem execLoadStoreInstr_hostKept (core : Nat) (op : MemInstr) (s : State) : HostKept s (execLoadStoreInstr core op s) := by
  refine ⟨_, rfl, fun hc => onCore_canonical (fun k => ?_) hc⟩
  (repeat' split) <;> simp [hc]

theorem execVectorAluInstr_hostKept (core : Nat) (op : VecInstr) (s : State) : HostKept s (execVectorAluInstr core op s) := by
  refine ⟨_, rfl, fun hc => onCore_canonical (fun k => ?_) hc⟩
  (repeat' split) <;> simp [hc]

@[simp] theorem macLoads_canonical (s : State) (c : Nat) (op : MacInstr) (l1 : Nat × MemRef) (l2 : Nat × MemRef) (k : Core) (hc : Canonical s.link.hostMem) :
    Canonical (macLoads s c op l1 l2 k).link.hostMem := by
  unfold macLoads
  dsimp only
  split <;> simp [hc]

theorem execMacInstr_hostKept (core : Nat) (op : MacInstr) (s : State) : HostKept s (execMacInstr core op s) := by
  refine ⟨_, rfl, fun hc => onN_canonical (fun k => ?_) hc⟩
  (repeat' split) <;> simp [hc]

theorem execAccumulatorInstr_hostKept (core : Nat) (op : AccInstr) (s : State) : HostKept s (execAccumulatorInstr core op s) := by
  refine ⟨_, rfl, fun hc => onCore_canonical (fun k => ?_) hc⟩
  simp [hc]

theorem execFloatInstr_hostKept (core : Nat) (op : FloatInstr) (s : State) : HostKept s (execFloatInstr core op s) := by
  refine ⟨_, rfl, fun hc => ?_⟩
  split
  · exact onCore_canonical (fun k => by simp [hc]) hc
  · exact onN_canonical (fun k => by simp [hc]) hc
  · exact onCore_canonical (fun k => by simp [hc]) hc
  · exact onCore_canonical (fun k => by simp [hc]) hc

theorem execSpecialFunctionInstr_hostKept (core : Nat) (op : SpecialInstr) (s : State) : HostKept s (execSpecialFunctionInstr core op s) := by
  refine ⟨_, rfl, fun hc => onCore_canonical (fun k => ?_) hc⟩
  (repeat' split) <;> simp [hc]

/-! ### Device DRAM: each command that may write it (09 R210; 13 R280; 14 R300; 20 R418) -/

/-- What an answer does to the canonical form of device DRAM. -/
def DramKept (s : State) (o : Host.Outcome State Fault Refusal) : Prop :=
  ∃ t, o = .next t ∧ (Canonical s.dram → Canonical t.dram)

theorem canonical_empty : Canonical [] := ⟨List.Pairwise.nil, fun _ h => absurd h List.not_mem_nil⟩

theorem execBar4Write_dramKept (addr : Nat) (bytes : List Byte) (s : State) : DramKept s (execBar4Write addr bytes s) := by
  unfold execBar4Write
  (repeat' split) <;> exact ⟨_, rfl, fun hc => by simp [hc]⟩

theorem execDmaComplete_dramKept (core : Nat) (s : State) : DramKept s (execDmaComplete core s) := by
  unfold execDmaComplete
  dsimp only
  (repeat' split) <;> exact ⟨_, rfl, fun hc => by simp [hc]⟩

theorem onX_dramCanonical {s : State} {c : Nat} {f : Core → State} (hf : ∀ k, Canonical (f k).dram)
    (hc : Canonical s.dram) : Canonical (onX s c f).dram := by
  unfold onX onCore
  dsimp only
  (repeat' split) <;> simp [hc, hf]

theorem ckptEffect_dramCanonical (s : State) (c an len : Nat) (k : Core) (hc : Canonical s.dram) :
    Canonical (ckptEffect s c an len k).dram := by
  unfold ckptEffect
  dsimp only
  split <;> simp [hc]

theorem execCkpt_dramKept (core an len : Nat) (s : State) : DramKept s (execCkpt core an len s) :=
  ⟨_, rfl, fun hc => onX_dramCanonical (fun k => ckptEffect_dramCanonical s core an len k hc) hc⟩

theorem execKrnLoadDone_dramKept (slot : Nat) (s : State) : DramKept s (execKrnLoadDone slot s) := by
  unfold execKrnLoadDone
  dsimp only
  (repeat' split) <;> exact ⟨_, rfl, fun hc => by simp [hc]⟩

theorem coldReset_dram (s : State) : (coldReset s).dram = [] := rfl

theorem dramAfterReset_canonical (s : State) (hc : Canonical s.dram) : Canonical (dramAfterReset s) := by
  unfold dramAfterReset
  have h : ∀ (qs : List ((Nat × Byte) × Byte)) (m : Memory), Canonical m →
      Canonical (qs.foldl (fun m q => memPut m q.1.1 q.2) m) := by
    intro qs
    induction qs with
    | nil => exact fun _ h => h
    | cons q qs ih => exact fun m h => ih _ (memPut_wf _ _ h)
  exact h _ _ (canonical_kfilter hc)

theorem resetSettle_dramCanonical (s : State) (hc : Canonical s.dram) : Canonical (resetSettle s).dram := by
  unfold resetSettle
  split
  · exact dramAfterReset_canonical _ (by
      rw [(cutNvm_kept _).2.1, (endAllSnags_kept _).2.1, (endDeferred_kept _).2.1]; exact hc)
  · exact hc

theorem execSysReset_dramKept (r : Req) (confirm : Nat) (s : State) : DramKept s (execSysReset r confirm s) :=
  ⟨_, rfl, fun hc => resetSettle_dramCanonical _ (by
    rw [(mbxRun_keptH _ r _ _ _ s (fun u => bodySysReset_kept confirm u)).2.1]; exact hc)⟩

theorem execFwActivate_dramKept (r : Req) (slot : Nat) (s : State) : DramKept s (execFwActivate r slot s) :=
  ⟨_, rfl, fun hc => resetSettle_dramCanonical _ (by
    rw [(activateSettle_kept _).2.1, (mbxRun_kept _ r _ _ _ s (fun u => bodyFwActivate_kept r.slot slot u)).2.1]; exact hc)⟩

theorem execPorstNAssert_dramKept (s : State) : DramKept s (execPorstNAssert s) :=
  ⟨_, rfl, fun _ => canonical_empty⟩

theorem execThermalShutdown_dramKept (s : State) : DramKept s (execThermalShutdown s) := by
  unfold execThermalShutdown
  split
  · exact ⟨_, rfl, id⟩
  · exact ⟨_, rfl, fun _ => canonical_empty⟩

theorem execSupplyTrip_dramKept (r : RailReading) (s : State) : DramKept s (execSupplyTrip r s) := by
  unfold execSupplyTrip
  split
  · refine ⟨_, rfl, fun hc => ?_⟩
    dsimp only
    split
    · exact hc
    · exact canonical_empty
  · exact ⟨_, rfl, id⟩

theorem execDieTempSample_dramKept (sensors : List Int) (s : State) : DramKept s (execDieTempSample sensors s) := by
  unfold execDieTempSample
  extract_lets temp b u v
  have hu : u.dram = s.dram := rfl
  have hv : v.dram = s.dram := by unfold v; (repeat' split) <;> simp [hu]
  clear_value u v
  split
  · exact ⟨_, rfl, id⟩
  · split
    · exact ⟨_, rfl, fun _ => canonical_empty⟩
    · split
      · exact ⟨_, rfl, fun hc => hu ▸ hc⟩
      · split
        · exact ⟨_, rfl, fun hc => by rw [(driftFe_kept _).2.1, foldl_dram _ (fun u n => (driftTdc_kept u n).2.1), hv]; exact hc⟩
        · exact ⟨_, rfl, fun hc => hv ▸ hc⟩

/-! ### What every command keeps -/

/-- What every command keeps: the queue of waiting commands, the canonical form of both memories, and, but for the end of a firmware
activation, the count of blown fuses. -/
structure Preserves (c : Instr) (s t : State) : Prop where
  queue : t.pending = s.pending
  form : memoriesOk s → memoriesOk t
  fuses : c ≠ .fwActivationDone → t.boot.rollback = s.boot.rollback

/-- A command answers a next state that preserves. -/
def Answered (c : Instr) (s : State) (o : Host.Outcome State Fault Refusal) : Prop := ∃ t, o = .next t ∧ Preserves c s t

theorem next_inj {s t : State} (h : (Host.Outcome.next s : Host.Outcome State Fault Refusal) = .next t) : s = t := by
  cases h; rfl

section
variable {c : Instr} {s : State} {o : Host.Outcome State Fault Refusal}

theorem Answered.of_kept (h : ∃ t, o = .next t ∧ Kept s t) : Answered c s o := by
  obtain ⟨t, rfl, hq, hd, hm, hf⟩ := h
  exact ⟨t, rfl, hq, fun hs => ⟨hd ▸ hs.1, hm ▸ hs.2⟩, fun _ => hf⟩

theorem Answered.of_keptH (h : ∃ t, o = .next t ∧ KeptH s t) (hh : HostKept s o) : Answered c s o := by
  obtain ⟨t, rfl, hq, hd, hf⟩ := h
  obtain ⟨u, hu, hm⟩ := hh
  cases next_inj hu
  exact ⟨t, rfl, hq, fun hs => ⟨hd ▸ hs.1, hm hs.2⟩, fun _ => hf⟩

theorem Answered.of_keptD (h : ∃ t, o = .next t ∧ KeptD s t) (hh : DramKept s o) : Answered c s o := by
  obtain ⟨t, rfl, hq, hm, hf⟩ := h
  obtain ⟨u, hu, hd⟩ := hh
  cases next_inj hu
  exact ⟨t, rfl, hq, fun hs => ⟨hd hs.1, hm ▸ hs.2⟩, fun _ => hf⟩

theorem Answered.of_keptQ (h : ∃ t, o = .next t ∧ KeptQ s t) (hh : HostKept s o) (hk : DramKept s o) : Answered c s o := by
  obtain ⟨t, rfl, hq, hf⟩ := h
  obtain ⟨u, hu, hm⟩ := hh
  obtain ⟨v, hv, hd⟩ := hk
  cases next_inj hu
  cases next_inj hv
  exact ⟨t, rfl, hq, fun hs => ⟨hd hs.1, hm hs.2⟩, fun _ => hf⟩

theorem Answered.of_keptR (h : ∃ t, o = .next t ∧ KeptR s t) : Answered .fwActivationDone s o := by
  obtain ⟨t, rfl, hq, hd, hm⟩ := h
  exact ⟨t, rfl, hq, fun hs => ⟨hd ▸ hs.1, hm ▸ hs.2⟩, fun h => absurd rfl h⟩

end


/-- Every command answers a next state and preserves: one line per command, from what its effect keeps. -/
theorem exec_preserves (c : Instr) (s : State) : Answered c s (exec c s) := by
  cases c with
  | sysIdent r => exact .of_kept (execSysIdent_kept r s)
  | sysStatus r => exact .of_kept (execSysStatus_kept r s)
  | sysReset r confirm => exact .of_keptQ (execSysReset_kept r confirm s) (execSysReset_hostKept r confirm s) (execSysReset_dramKept r confirm s)
  | sysBindOff r => exact .of_keptH (execSysBindOff_kept r s) (execSysBindOff_hostKept r s)
  | paramGet r source ids => exact .of_kept (execParamGet_kept r source ids s)
  | paramSet r pairs bulk => exact .of_keptH (execParamSet_kept r pairs bulk s) (execParamSet_hostKept r pairs bulk s)
  | paramCommit r dom ins action => exact .of_kept (execParamCommit_kept r dom ins action s)
  | paramList r dom ins start => exact .of_kept (execParamList_kept r dom ins start s)
  | portArm r port => exact .of_kept (execPortArm_kept r port s)
  | portStart r port startAt => exact .of_kept (execPortStart_kept r port startAt s)
  | portStop r port => exact .of_kept (execPortStop_kept r port s)
  | portApply r port => exact .of_kept (execPortApply_kept r port s)
  | portStatus r port => exact .of_kept (execPortStatus_kept r port s)
  | portProbe r port => exact .of_kept (execPortProbe_kept r port s)
  | portProbeDone port profile floor => exact .of_kept (execPortProbeDone_kept port profile floor s)
  | zoneDefine r zone => exact .of_kept (execZoneDefine_kept r zone s)
  | zoneEnable r zone => exact .of_kept (execZoneEnable_kept r zone s)
  | zoneDisable r zone => exact .of_kept (execZoneDisable_kept r zone s)
  | zoneSync r mask syncAt => exact .of_kept (execZoneSync_kept r mask syncAt s)
  | zoneFreezeDc r zone freeze => exact .of_kept (execZoneFreezeDc_kept r zone freeze s)
  | zoneStatus r zone => exact .of_kept (execZoneStatus_kept r zone s)
  | capSkeinCreate r skein => exact .of_kept (execCapSkeinCreate_kept r skein s)
  | capArm r skein => exact .of_kept (execCapArm_kept r skein s)
  | capDisarm r skein => exact .of_kept (execCapDisarm_kept r skein s)
  | capForce r skein forceAt => exact .of_kept (execCapForce_kept r skein forceAt s)
  | capForceAtReached skein => exact .of_kept (execCapForceAtReached_kept skein s)
  | capRead r skein select => exact .of_kept (execCapRead_kept r skein select s)
  | capRelease r skein hank => exact .of_kept (execCapRelease_kept r skein hank s)
  | timeSet r v mode => exact .of_kept (execTimeSet_kept r v mode s)
  | timeSetTimeout => exact .of_kept (execTimeSetTimeout_kept s)
  | timeGet r => exact .of_kept (execTimeGet_kept r s)
  | timePpsCfg r => exact .of_kept (execTimePpsCfg_kept r s)
  | timeTdcConfig r mask => exact .of_kept (execTimeTdcConfig_kept r mask s)
  | feChartLoad r first count entries => exact .of_kept (execFeChartLoad_kept r first count entries s)
  | feChartRun r run => exact .of_kept (execFeChartRun_kept r run s)
  | feInject r tag entry => exact .of_kept (execFeInject_kept r tag entry s)
  | feLoopCfg r loop => exact .of_kept (execFeLoopCfg_kept r loop s)
  | srcConfig r ins => exact .of_kept (execSrcConfig_kept r ins s)
  | srcEnable r ch => exact .of_kept (execSrcEnable_kept r ch s)
  | srcDisable r ch => exact .of_kept (execSrcDisable_kept r ch s)
  | srcCompTable r table bytes => exact .of_kept (execSrcCompTable_kept r table bytes s)
  | calRun r dom ins => exact .of_kept (execCalRun_kept r dom ins s)
  | calStatus r dom ins => exact .of_kept (execCalStatus_kept r dom ins s)
  | calAbort r dom ins => exact .of_kept (execCalAbort_kept r dom ins s)
  | nvmStore r dom => exact .of_kept (execNvmStore_kept r dom s)
  | nvmStoreDone written => exact .of_kept (execNvmStoreDone_kept written s)
  | nvmRestore r dom bulk => exact .of_keptH (execNvmRestore_kept r dom bulk s) (execNvmRestore_hostKept r dom bulk s)
  | nvmEraseUser r confirm => exact .of_kept (execNvmEraseUser_kept r confirm s)
  | pairConfig r => exact .of_kept (execPairConfig_kept r s)
  | pairStatus r => exact .of_kept (execPairStatus_kept r s)
  | pairSwap r => exact .of_kept (execPairSwap_kept r s)
  | pairLink r action => exact .of_kept (execPairLink_kept r action s)
  | fwStage r slot desc => exact .of_keptH (execFwStage_kept r slot desc s) (execFwStage_hostKept r slot desc s)
  | fwVerify r slot => exact .of_kept (execFwVerify_kept r slot s)
  | fwActivate r slot => exact .of_keptQ (execFwActivate_kept r slot s) (execFwActivate_hostKept r slot s) (execFwActivate_dramKept r slot s)
  | fwKrnLoad r slot desc => exact .of_keptH (execFwKrnLoad_kept r slot desc s) (execFwKrnLoad_hostKept r slot desc s)
  | fwKrnStart r slot => exact .of_kept (execFwKrnStart_kept r slot s)
  | fwKrnStop r slot => exact .of_kept (execFwKrnStop_kept r slot s)
  | faultRead r first count => exact .of_kept (execFaultRead_kept r first count s)
  | faultClear r mask => exact .of_kept (execFaultClear_kept r mask s)
  | faultSeverity r src sev => exact .of_kept (execFaultSeverity_kept r src sev s)
  | faultJournalCfg r => exact .of_kept (execFaultJournalCfg_kept r s)
  | faultPinRelease r action => exact .of_kept (execFaultPinRelease_kept r action s)
  | diagUnlock r stepNo sig => exact .of_kept (execDiagUnlock_kept r stepNo sig s)
  | diagSnagSet r snag args => exact .of_kept (execDiagSnagSet_kept r snag args s)
  | diagSnagClear r snag => exact .of_kept (execDiagSnagClear_kept r snag s)
  | compConfig r scope zone => exact .of_kept (execCompConfig_kept r scope zone s)
  | compResume r jobTag dst dstLen => exact .of_kept (execCompResume_kept r jobTag dst dstLen s)
  | memFreq r fsp => exact .of_kept (execMemFreq_kept r fsp s)
  | memTrain r => exact .of_kept (execMemTrain_kept r s)
  | memPpr r ch rank bank kind row => exact .of_kept (execMemPpr_kept r ch rank bank kind row s)
  | badOpcode r opcode => exact .of_kept (execBadOpcode_kept r opcode s)
  | mbxDoorbellBusySlot slot => exact .of_kept (execMbxDoorbellBusySlot_kept slot s)
  | malformedRequest slot header => exact .of_kept (execMalformedRequest_kept slot header s)
  | ringEnable ring => exact .of_keptH (execRingEnable_kept ring s) (execRingEnable_hostKept ring s)
  | ringDisable ring => exact .of_keptH (execRingDisable_kept ring s) (execRingDisable_hostKept ring s)
  | c2hConsWrite ring v => exact .of_kept (execC2hConsWrite_kept ring v s)
  | h2cProdWrite ring v => exact .of_kept (execH2cProdWrite_kept ring v s)
  | bootStateRead => exact .of_kept (execBootStateRead_kept s)
  | registerWrite target v => exact .of_keptH (execRegisterWrite_kept target v s) (execRegisterWrite_hostKept target v s)
  | bar4Read addr len => exact .of_kept (execBar4Read_kept addr len s)
  | bar4Write addr bytes => exact .of_keptD (execBar4Write_kept addr bytes s) (execBar4Write_dramKept addr bytes s)
  | hostBadRequest kind => exact .of_kept (execHostBadRequest_kept kind s)
  | endpointReset kind => exact .of_keptH (execEndpointReset_kept kind s) (execEndpointReset_hostKept kind s)
  | linkUp width speed => exact .of_kept (execLinkUp_kept width speed s)
  | dmaCompletionError ring => exact .of_keptH (execDmaCompletionError_kept ring s) (execDmaCompletionError_hostKept ring s)
  | dmaCompletionTimeout ring => exact .of_keptH (execDmaCompletionTimeout_kept ring s) (execDmaCompletionTimeout_hostKept ring s)
  | irqModTimer ring => exact .of_kept (execIrqModTimer_kept ring s)
  | c2hFrameWrite ring => exact .of_keptH (execC2hFrameWrite_kept ring s) (execC2hFrameWrite_hostKept ring s)
  | ringHoldExpiry ring => exact .of_kept (execRingHoldExpiry_kept ring s)
  | housekeepingFrameClose key => exact .of_kept (execHousekeepingFrameClose_kept key s)
  | statisticsSecond port => exact .of_kept (execStatisticsSecond_kept port s)
  | ptmDialogStart fine => exact .of_kept (execPtmDialogStart_kept fine s)
  | ptmResponse fine master delay => exact .of_kept (execPtmResponse_kept fine master delay s)
  | ptmTimeout => exact .of_kept (execPtmTimeout_kept s)
  | castOnStart bootSel pairId => exact .of_kept (execCastOnStart_kept bootSel pairId s)
  | rootLock => exact .of_kept (execRootLock_kept s)
  | rootLockTimeout => exact .of_kept (execRootLockTimeout_kept s)
  | nvmLoaded nvm => exact .of_kept (execNvmLoaded_kept nvm s)
  | bootVerify => exact .of_kept (execBootVerify_kept s)
  | recoveryBoot image => exact .of_keptH (execRecoveryBoot_kept image s) (execRecoveryBoot_hostKept image s)
  | marchTestDone rows => exact .of_kept (execMarchTestDone_kept rows s)
  | dramTrainingDone fitted failed rfm => exact .of_kept (execDramTrainingDone_kept fitted failed rfm s)
  | castOnCalDone => exact .of_kept (execCastOnCalDone_kept s)
  | bootReady => exact .of_keptH (execBootReady_kept s) (execBootReady_hostKept s)
  | thermalShutdown => exact .of_keptD (execThermalShutdown_kept s) (execThermalShutdown_dramKept s)
  | thermalRecover sensors => exact .of_kept (execThermalRecover_kept sensors s)
  | supplyTrip r => exact .of_keptD (execSupplyTrip_kept r s) (execSupplyTrip_dramKept r s)
  | railExcursion r => exact .of_kept (execRailExcursion_kept r s)
  | rootUnlock => exact .of_kept (execRootUnlock_kept s)
  | refclkLost => exact .of_kept (execRefclkLost_kept s)
  | dieTempSample sensors => exact .of_keptD (execDieTempSample_kept sensors s) (execDieTempSample_dramKept sensors s)
  | shotStart port => exact .of_kept (execShotStart_kept port s)
  | plyLaunch port => exact .of_kept (execPlyLaunch_kept port s)
  | shotEnd port => exact .of_kept (execShotEnd_kept port s)
  | drainEnd port => exact .of_kept (execDrainEnd_kept port s)
  | lmonEdge port => exact .of_kept (execLmonEdge_kept port s)
  | lmonWindowExpiry port => exact .of_kept (execLmonWindowExpiry_kept port s)
  | launchLost port => exact .of_kept (execLaunchLost_kept port s)
  | triginEdge pin => exact .of_kept (execTriginEdge_kept pin s)
  | lockWindowExpiry port => exact .of_kept (execLockWindowExpiry_kept port s)
  | ppsEdge => exact .of_kept (execPpsEdge_kept s)
  | ppsWindowExpiry => exact .of_kept (execPpsWindowExpiry_kept s)
  | ppsOutSecond => exact .of_kept (execPpsOutSecond_kept s)
  | tdcEdge input falling core code => exact .of_kept (execTdcEdge_kept input falling core code s)
  | tdcThreshSettled ch => exact .of_kept (execTdcThreshSettled_kept ch s)
  | tdcCoreTestDone ch core hist overflows => exact .of_kept (execTdcCoreTestDone_kept ch core hist overflows s)
  | tgateOpen port => exact .of_kept (execTgateOpen_kept port s)
  | ramanWindowEnd port asCodes stCodes => exact .of_kept (execRamanWindowEnd_kept port asCodes stCodes s)
  | ramanIntervalEnd port => exact .of_kept (execRamanIntervalEnd_kept port s)
  | trUpdate port => exact .of_kept (execTrUpdate_kept port s)
  | ramanRefHoldExpiry port => exact .of_kept (execRamanRefHoldExpiry_kept port s)
  | fusionUpdate port => exact .of_kept (execFusionUpdate_kept port s)
  | fusionStateTimer port gauge => exact .of_kept (execFusionStateTimer_kept port gauge s)
  | fuseHoldExpiry port gauge => exact .of_kept (execFuseHoldExpiry_kept port gauge s)
  | selvedgeSlot port => exact .of_kept (execSelvedgeSlot_kept port s)
  | gateTestDecision port samples => exact .of_kept (execGateTestDecision_kept port samples s)
  | dechirpRow port from_ codes => exact .of_kept (execDechirpRow_kept port from_ codes s)
  | breakDetectorArm port => exact .of_kept (execBreakDetectorArm_kept port s)
  | phaseSample port => exact .of_kept (execPhaseSample_kept port s)
  | swatchLost port => exact .of_kept (execSwatchLost_kept port s)
  | specRecord port => exact .of_kept (execSpecRecord_kept port s)
  | sliceMonitorEval port chan codes => exact .of_kept (execSliceMonitorEval_kept port chan codes s)
  | sliceSpareSwap port chan => exact .of_kept (execSliceSpareSwap_kept port chan s)
  | sliceInterpolate port chan => exact .of_kept (execSliceInterpolate_kept port chan s)
  | hybBlock port from_ codes => exact .of_kept (execHybBlock_kept port from_ codes s)
  | clipRateSecond port => exact .of_kept (execClipRateSecond_kept port s)
  | zoneInputSample zone => exact .of_kept (execZoneInputSample_kept zone s)
  | zoneSatSecond => exact .of_kept (execZoneSatSecond_kept s)
  | detectorDecision zone det => exact .of_kept (execDetectorDecision_kept zone det s)
  | eventFrameClose => exact .of_kept (execEventFrameClose_kept s)
  | eventSummary => exact .of_kept (execEventSummary_kept s)
  | hankPostComplete skein => exact .of_kept (execHankPostComplete_kept skein s)
  | skeinRearm skein => exact .of_kept (execSkeinRearm_kept skein s)
  | trigoutPulseEnd pin => exact .of_kept (execTrigoutPulseEnd_kept pin s)
  | controlClassInstr core op => exact .of_keptH (execControlClassInstr_kept core op s) (execControlClassInstr_hostKept core op s)
  | repInstr core count after => exact .of_keptH (execRepInstr_kept core count after s) (execRepInstr_hostKept core count after s)
  | breakInstr core => exact .of_keptH (execBreakInstr_kept core s) (execBreakInstr_hostKept core s)
  | trapInstr core op => exact .of_keptH (execTrapInstr_kept core op s) (execTrapInstr_hostKept core op s)
  | scalarInstr core op => exact .of_keptH (execScalarInstr_kept core op s) (execScalarInstr_hostKept core op s)
  | loadStoreInstr core op => exact .of_keptH (execLoadStoreInstr_kept core op s) (execLoadStoreInstr_hostKept core op s)
  | vectorAluInstr core op => exact .of_keptH (execVectorAluInstr_kept core op s) (execVectorAluInstr_hostKept core op s)
  | macInstr core op => exact .of_keptH (execMacInstr_kept core op s) (execMacInstr_hostKept core op s)
  | accumulatorInstr core op => exact .of_keptH (execAccumulatorInstr_kept core op s) (execAccumulatorInstr_hostKept core op s)
  | floatInstr core op => exact .of_keptH (execFloatInstr_kept core op s) (execFloatInstr_hostKept core op s)
  | specialFunctionInstr core op => exact .of_keptH (execSpecialFunctionInstr_kept core op s) (execSpecialFunctionInstr_hostKept core op s)
  | waitInstr core sub k => exact .of_keptH (execWaitInstr_kept core sub k s) (execWaitInstr_hostKept core sub k s)
  | doneInstr core sub k => exact .of_keptH (execDoneInstr_kept core sub k s) (execDoneInstr_hostKept core sub k s)
  | putInstr core ts an len => exact .of_keptH (execPutInstr_kept core ts an len s) (execPutInstr_hostKept core ts an len s)
  | dmaInstr core an window units toWindow => exact .of_keptH (execDmaInstr_kept core an window units toWindow s) (execDmaInstr_hostKept core an window units toWindow s)
  | dmaComplete core => exact .of_keptD (execDmaComplete_kept core s) (execDmaComplete_dramKept core s)
  | dwait core => exact .of_keptH (execDwait_kept core s) (execDwait_hostKept core s)
  | cycrd core dst => exact .of_keptH (execCycrd_kept core dst s) (execCycrd_hostKept core dst s)
  | evt core det ts => exact .of_keptH (execEvt_kept core det ts s) (execEvt_hostKept core det ts s)
  | ckpt core an len => exact .of_keptQ (execCkpt_kept core an len s) (execCkpt_hostKept core an len s) (execCkpt_dramKept core an len s)
  | cfrCfw core target write g => exact .of_keptH (execCfrCfw_kept core target write g s) (execCfrCfw_hostKept core target write g s)
  | fsrc core src ins d0 d1 => exact .of_keptH (execFsrc_kept core src ins d0 d1 s) (execFsrc_hostKept core src ins d0 d1 s)
  | krnLoadDone slot => exact .of_keptQ (execKrnLoadDone_kept slot s) (execKrnLoadDone_hostKept slot s) (execKrnLoadDone_dramKept slot s)
  | krnSwapSwitch slot => exact .of_kept (execKrnSwapSwitch_kept slot s)
  | krnSwapForcedHalt slot => exact .of_kept (execKrnSwapForcedHalt_kept slot s)
  | krnStopDone slot => exact .of_kept (execKrnStopDone_kept slot s)
  | coreSelftestDone core pass => exact .of_keptH (execCoreSelftestDone_kept core pass s) (execCoreSelftestDone_hostKept core pass s)
  | needleHeartbeatTimeout core => exact .of_kept (execNeedleHeartbeatTimeout_kept core s)
  | needleCoreFault core => exact .of_keptH (execNeedleCoreFault_kept core s) (execNeedleCoreFault_hostKept core s)
  | needleSpareInService core => exact .of_kept (execNeedleSpareInService_kept core s)
  | needleEccError core double => exact .of_keptH (execNeedleEccError_kept core double s) (execNeedleEccError_hostKept core double s)
  | spareTestTimer => exact .of_kept (execSpareTestTimer_kept s)
  | compJobDescriptor desc => exact .of_keptH (execCompJobDescriptor_kept desc s) (execCompJobDescriptor_hostKept desc s)
  | compBlockDone engine => exact .of_keptH (execCompBlockDone_kept engine s) (execCompBlockDone_hostKept engine s)
  | compEngineFault engine => exact .of_kept (execCompEngineFault_kept engine s)
  | compSpareInService engine => exact .of_kept (execCompSpareInService_kept engine s)
  | suspendTimeoutExpiry => exact .of_keptH (execSuspendTimeoutExpiry_kept s) (execSuspendTimeoutExpiry_hostKept s)
  | feConversion volts => exact .of_kept (execFeConversion_kept volts s)
  | feEntryResult => exact .of_kept (execFeEntryResult_kept s)
  | excMonitorTrip short => exact .of_kept (execExcMonitorTrip_kept short s)
  | feSelfcalDone failed ofs refs cur vol => exact .of_kept (execFeSelfcalDone_kept failed ofs refs cur vol s)
  | loopUpdate loop => exact .of_kept (execLoopUpdate_kept loop s)
  | refxMeasure mv => exact .of_kept (execRefxMeasure_kept mv s)
  | loopHoldExpiry loop => exact .of_kept (execLoopHoldExpiry_kept loop s)
  | loopSenseMismatch loop sensed => exact .of_kept (execLoopSenseMismatch_kept loop sensed s)
  | loopReleaseEnd loop => exact .of_kept (execLoopReleaseEnd_kept loop s)
  | sdCarrierPeriod ch => exact .of_kept (execSdCarrierPeriod_kept ch s)
  | sdFbHoldExpiry ch => exact .of_kept (execSdFbHoldExpiry_kept ch s)
  | sdSaturationTimer ch => exact .of_kept (execSdSaturationTimer_kept ch s)
  | refreshDue ch rank bank => exact .of_kept (execRefreshDue_kept ch rank bank s)
  | mr4Poll rates => exact .of_kept (execMr4Poll_kept rates s)
  | wckDriftCheck ch rank drift => exact .of_kept (execWckDriftCheck_kept ch rank drift s)
  | selfRefreshEnter ch => exact .of_kept (execSelfRefreshEnter_kept ch s)
  | selfRefreshExit ch => exact .of_kept (execSelfRefreshExit_kept ch s)
  | rowIdleClose ch rank bank => exact .of_kept (execRowIdleClose_kept ch rank bank s)
  | actCountReset => exact .of_kept (execActCountReset_kept s)
  | neighbourRefresh ch rank bank => exact .of_kept (execNeighbourRefresh_kept ch rank bank s)
  | fspChangeComplete => exact .of_kept (execFspChangeComplete_kept s)
  | memTrainDone failed => exact .of_kept (execMemTrainDone_kept failed s)
  | pprHardDone confirmed => exact .of_kept (execPprHardDone_kept confirmed s)
  | linkEccError port unit corrected => exact .of_kept (execLinkEccError_kept port unit corrected s)
  | ecsCountCheck ch rank bank row count => exact .of_kept (execEcsCountCheck_kept ch rank bank row count s)
  | writeBufferOverflow p0 d => exact .of_kept (execWriteBufferOverflow_kept p0 d s)
  | plDetectStep => exact .of_kept (execPlDetectStep_kept s)
  | plPeerStep lanes => exact .of_kept (execPlPeerStep_kept lanes s)
  | plActivityDetected lanes => exact .of_kept (execPlActivityDetected_kept lanes s)
  | plCtleStep errors => exact .of_kept (execPlCtleStep_kept errors s)
  | plTrainEnd offsetPpb => exact .of_kept (execPlTrainEnd_kept offsetPpb s)
  | plBlockLock => exact .of_kept (execPlBlockLock_kept s)
  | plMarkerSend => exact .of_kept (execPlMarkerSend_kept s)
  | stitchMarkerRx lane body blocks arrival inverted => exact .of_kept (execStitchMarkerRx_kept lane body blocks arrival inverted s)
  | plInvalidHeader lane again => exact .of_kept (execPlInvalidHeader_kept lane again s)
  | plCapsSend => exact .of_kept (execPlCapsSend_kept s)
  | capsRx packet clean => exact .of_kept (execCapsRx_kept packet clean s)
  | plStatusSend => exact .of_kept (execPlStatusSend_kept s)
  | statusRx packet clean arrival => exact .of_kept (execStatusRx_kept packet clean arrival s)
  | plInvalidPacket => exact .of_kept (execPlInvalidPacket_kept s)
  | plStateTimeout => exact .of_kept (execPlStateTimeout_kept s)
  | plLossTimeout => exact .of_kept (execPlLossTimeout_kept s)
  | plIdleWake => exact .of_kept (execPlIdleWake_kept s)
  | plIdleHoldExpiry => exact .of_kept (execPlIdleHoldExpiry_kept s)
  | exitRx relocked => exact .of_kept (execExitRx_kept relocked s)
  | idleEnterRx => exact .of_kept (execIdleEnterRx_kept s)
  | ckptCut => exact .of_kept (execCkptCut_kept s)
  | ckptPacketRx packet whole => exact .of_kept (execCkptPacketRx_kept packet whole s)
  | ckptStaleTimer => exact .of_kept (execCkptStaleTimer_kept s)
  | swapPrepareRx => exact .of_kept (execSwapPrepareRx_kept s)
  | swapReadyRx => exact .of_kept (execSwapReadyRx_kept s)
  | swapReleaseDone => exact .of_kept (execSwapReleaseDone_kept s)
  | peerActEdge => exact .of_kept (execPeerActEdge_kept s)
  | peerLossClaim => exact .of_kept (execPeerLossClaim_kept s)
  | pairWiringTimer => exact .of_kept (execPairWiringTimer_kept s)
  | pairWatchdogLapse => exact .of_kept (execPairWatchdogLapse_kept s)
  | actWaveStop => exact .of_kept (execActWaveStop_kept s)
  | qualityTest floors => exact .of_kept (execQualityTest_kept floors s)
  | faultRaise => exact .of_kept (execFaultRaise_kept s)
  | actionWindowEnd => exact .of_kept (execActionWindowEnd_kept s)
  | faultQuietTimer src => exact .of_kept (execFaultQuietTimer_kept src s)
  | faultNPulseEnd => exact .of_kept (execFaultNPulseEnd_kept s)
  | tokenRefill => exact .of_kept (execTokenRefill_kept s)
  | journalSummaryTick => exact .of_kept (execJournalSummaryTick_kept s)
  | journalFrameClose => exact .of_kept (execJournalFrameClose_kept s)
  | fwWatchdogExpiry => exact .of_kept (execFwWatchdogExpiry_kept s)
  | snagApply num target => exact .of_kept (execSnagApply_kept num target s)
  | snagLiveExpiry num target => exact .of_kept (execSnagLiveExpiry_kept num target s)
  | sliceStepDone port results => exact .of_kept (execSliceStepDone_kept port results s)
  | sliceFgChannel port results => exact .of_kept (execSliceFgChannel_kept port results s)
  | ramanGainCalDone port codes => exact .of_kept (execRamanGainCalDone_kept port codes s)
  | ramanOffsetCalDone port low high => exact .of_kept (execRamanOffsetCalDone_kept port low high s)
  | sramRowRepair r errs => exact .of_kept (execSramRowRepair_kept r errs s)
  | fwStageDone written => exact .of_keptH (execFwStageDone_kept written s) (execFwStageDone_hostKept written s)
  | fwVerifyDone => exact .of_kept (execFwVerifyDone_kept s)
  | fwActivationDone => exact .of_keptR (execFwActivationDone_kept s)
  | fwFallback => exact .of_kept (execFwFallback_kept s)
  | porstNAssert => exact .of_keptD (execPorstNAssert_kept s) (execPorstNAssert_dramKept s)
  | supplyReturn r => exact .of_kept (execSupplyReturn_kept r s)
  | linkReady => exact .of_kept (execLinkReady_kept s)
  | perstNRelease => exact .of_kept (execPerstNRelease_kept s)
  | ppsOutPulseEnd => exact .of_kept (execPpsOutPulseEnd_kept s)
  | snagEffectEnd num target => exact .of_kept (execSnagEffectEnd_kept num target s)
  | outputRingDrain slot => exact .of_kept (execOutputRingDrain_kept slot s)
  | dramAccess ch arrived => exact .of_kept (execDramAccess_kept ch arrived s)
  | compTestDone engine pass => exact .of_kept (execCompTestDone_kept engine pass s)
  | sramCalDone failed passed => exact .of_kept (execSramCalDone_kept failed passed s)
  | nvmEraseDone written => exact .of_kept (execNvmEraseDone_kept written s)
  | pairLinkTimeout => exact .of_kept (execPairLinkTimeout_kept s)

/-- A step runs a command on a state with a shorter queue or with the command released from the bind-off, or lets time pass. -/
theorem step_cases {s t : State} (h : step s = .next t) :
    (∃ c u, Preserves c u t ∧ (memoriesOk s → memoriesOk u) ∧ u.boot.rollback = s.boot.rollback ∧ exec c u = .next t ∧
      ((∃ cs, s.pending = c :: cs) ∨ ∃ cs, s.held = c :: cs)) ∨ Kept s t := by
  unfold step at h
  split at h
  case h_1 c cs hp =>
    obtain ⟨v, hv, hk⟩ := exec_preserves c { s with pending := cs }
    rw [hv] at h
    cases next_inj h
    exact .inl ⟨c, _, hk, id, rfl, hv, .inl ⟨cs, hp⟩⟩
  case h_2 hp =>
    split at h
    case h_1 p hn =>
      unfold heldNext at hn
      split at hn
      · cases hn
      · split at hn
        · cases hn
        · next c cs hh =>
          cases hn
          obtain ⟨v, hv, hk⟩ := exec_preserves c { s with held := cs, boot := { s.boot with releaseHeld := true } }
          rw [hv] at h
          cases next_inj h
          exact .inl ⟨c, _, hk, id, rfl, hv, .inr ⟨cs, hh⟩⟩
    case h_2 hn =>
      cases next_inj h
      exact .inr (tick_kept s)

/-- Settles O2: every command preserves, and preserving keeps the queue. -/
theorem commandsAnswerAndKeepQueue : Obligations.CommandsAnswerAndKeepQueue := by
  unfold Obligations.CommandsAnswerAndKeepQueue
  intro c s
  obtain ⟨t, ht, hk⟩ := exec_preserves c s
  exact ⟨t, ht, hk.queue⟩

/-- Settles O3: a step is a command that preserves, or a tick, which writes no memory. -/
theorem stepKeepsMemoryForm : Obligations.StepKeepsMemoryForm := by
  unfold Obligations.StepKeepsMemoryForm
  intro s t hs h
  obtain ⟨c, u, hk, hu, -⟩ | ⟨-, hd, hm, -⟩ := step_cases h
  · exact hk.form (hu hs)
  · exact ⟨hd ▸ hs.1, hm ▸ hs.2⟩

end Sys2Proof.Machine
end

section
/-! PROOFS. Payload layouts and the mailbox's reads (15_mailbox_commands.md): O41; the anti-rollback counter (20 R423): O4. -/

namespace Sys2Proof.Machine

/-! ### Fields of payloads (00 R2) -/

theorem ofLe_leBytes (n v : Nat) : ofLe (leBytes n v) = v % 2 ^ (8 * n) := by
  induction n generalizing v with
  | zero => simp [leBytes, ofLe, Nat.mod_one]
  | succ n ih =>
    have h8 : 2 ^ (8 * (n + 1)) = 256 * 2 ^ (8 * n) := by rw [Nat.mul_succ, Nat.pow_add]; omega
    simp only [leBytes, ofLe, ih, BitVec.toNat_ofNat, h8, Nat.mod_mul]

theorem fieldAt_append_left {xs ys : List Byte} {off n : Nat} (h : off + n ≤ xs.length) :
    fieldAt (xs ++ ys) off n = fieldAt xs off n := by
  unfold fieldAt
  rw [List.drop_append_of_le_length (by omega), List.take_append_of_le_length (by simp; omega)]

theorem fieldAt_append_right {xs ys : List Byte} {off n : Nat} (h : xs.length ≤ off) :
    fieldAt (xs ++ ys) off n = fieldAt ys (off - xs.length) n := by
  unfold fieldAt
  rw [List.drop_append, List.drop_eq_nil_of_le h, List.nil_append]

theorem fieldAt_leBytes (n v : Nat) : fieldAt (leBytes n v) 0 n = v % 2 ^ (8 * n) := by
  rw [fieldAt, List.drop_zero, List.take_of_length_le (leBytes_length n v).le, ofLe_leBytes]

@[simp] theorem leBytesI_length (n : Nat) (v : Int) : (leBytesI n v).length = n := leBytes_length ..

@[simp] theorem zeros_length (n : Nat) : (zeros n).length = n := List.length_replicate ..

@[simp] theorem tsBytes_length (t : Nat) : (tsBytes t).length = 12 := leBytes_length ..

@[simp] theorem fitBytes_length (n : Nat) (bs : List Byte) : (fitBytes n bs).length = n := by
  simp [fitBytes]; omega

theorem flatten_length_const {α : Type} {f : α → List Byte} {k : Nat} (hf : ∀ x, (f x).length = k) (xs : List α) :
    (xs.map f).flatten.length = k * xs.length := by
  simp [List.length_flatten, Function.comp_def, hf, Nat.mul_comm]

/-! ### The reads (15 R327, R329, R332, R334; 19 R396) -/

theorem sysIdent_reads {r : Req} {s : State} (h : mailboxOpen s r.slot = true) :
    ∃ p, Answers (.sysIdent r) r.slot s s (okWith p) ∧ p.length = 44 ∧ fieldAt p 0 4 = 0x64200001 ∧
      fieldAt p 17 1 = s.boot.unitId % 256 ∧ fieldAt p 24 4 = s.boot.rollback % 2 ^ 32 := by
  refine ⟨_, answers_of_refusal rfl h rfl, ?_, ?_, ?_, ?_⟩
  · simp [leBytes_length]
  · simp [-List.append_assoc, fieldAt_append_left, fieldAt_leBytes, leBytes_length]
    decide
  · simp [-List.append_assoc, fieldAt_append_left, fieldAt_append_right, fieldAt_leBytes, leBytes_length]
    rfl
  · simp [-List.append_assoc, fieldAt_append_left, fieldAt_append_right, fieldAt_leBytes, leBytes_length]

theorem bootWord_accept (s : State) (r : Req) (op : Nat) : bootWord (accept s r op) = bootWord s := rfl

theorem sysStatus_reads {r : Req} {s : State} (h : mailboxOpen s r.slot = true) :
    ∃ p, Answers (.sysStatus r) r.slot s s (okWith p) ∧ p.length = 60 ∧ fieldAt p 0 4 = bootWord s % 2 ^ 32 := by
  refine ⟨_, answers_of_refusal rfl h rfl, ?_, ?_⟩
  · simp [leBytes_length]
  · simp [-List.append_assoc, fieldAt_append_left, fieldAt_leBytes, leBytes_length, bootWord_accept]

theorem timeGet_reads {r : Req} {s : State} (h : mailboxOpen s r.slot = true) :
    ∃ p, Answers (.timeGet r) r.slot s s (okWith p) ∧ p.length = 20 ∧ p.take 12 = tsBytes (nowTs s) := by
  refine ⟨_, answers_of_refusal rfl h rfl, ?_, ?_⟩
  · simp [leBytes_length]
  · rw [List.append_assoc, List.append_assoc, List.take_left' (tsBytes_length _)]; rfl

theorem pairStatus_reads {r : Req} {s : State} (h : mailboxOpen s r.slot = true) :
    ∃ p, Answers (.pairStatus r) r.slot s s (okWith p) ∧ p.length = 20 ∧ fieldAt p 0 1 = roleCode s.pair.role := by
  have hrole : roleCode s.pair.role < 256 := by cases s.pair.role <;> decide
  refine ⟨_, answers_of_refusal rfl h rfl, ?_, ?_⟩
  · simp [leBytes_length]
  · simp [-List.append_assoc, fieldAt_append_left, fieldAt_leBytes, leBytes_length]
    exact Nat.mod_eq_of_lt hrole

theorem portStatus_reads {r : Req} {p : Nat} {s : State} (h : mailboxOpen s r.slot = true) (hp : p ≤ 1) :
    ∃ q, Answers (.portStatus r p) r.slot s s (okWith q) ∧ fieldAt q 0 1 = portStCode (portOf s p).st := by
  have hcode : portStCode (portOf s p).st < 256 := by cases (portOf s p).st <;> decide
  refine ⟨_, answers_of_refusal rfl h (by rw [bodyPortStatus, if_neg (by omega)]), ?_⟩
  simp [-List.append_assoc, fieldAt_append_left, fieldAt_leBytes, leBytes_length]
  exact hcode

theorem zoneStatus_reads {r : Req} {z : Nat} {s : State} (h : mailboxOpen s r.slot = true) (hz : z ≤ 127) :
    ∃ q, Answers (.zoneStatus r z) r.slot s s (okWith q) ∧ q.length = 64 := by
  refine ⟨_, answers_of_refusal rfl h (by rw [bodyZoneStatus, if_neg (by omega)]), ?_⟩
  rw [flatten_length_const (k := 4) (fun _ => leBytesI_length ..)]
  rfl

theorem calStateOf_accept (s : State) (r : Req) (op dom ins : Nat) : calStateOf (accept s r op) dom ins = calStateOf s dom ins := rfl

theorem maxN_le {xs : List Nat} {b : Nat} (h : ∀ x ∈ xs, x ≤ b) : maxN xs ≤ b :=
  List.foldlRecOn (motive := fun m => m ≤ b) xs _ (Nat.zero_le b) fun _ hm x hx => max_le hm (h x hx)

theorem calStateOf_le (s : State) (dom ins : Nat) : calStateOf s dom ins ≤ 3 := by
  refine maxN_le fun x hx => ?_
  obtain ⟨i, -, rfl⟩ := List.mem_map.mp hx
  unfold calState
  split
  · unfold bitN; split <;> decide
  all_goals decide

theorem calStatus_reads {r : Req} {dom ins : Nat} {s : State} (h : mailboxOpen s r.slot = true) (hn : calFault dom ins = none) :
    ∃ q, Answers (.calStatus r dom ins) r.slot s s (okWith q) ∧ fieldAt q 0 1 = calStateOf s dom ins ∧
      fieldAt q 4 4 = (calGet s dom ins).count % 2 ^ 32 := by
  refine ⟨_, answers_of_refusal rfl h (by rw [bodyCalStatus, hn]), ?_, ?_⟩
  · simp [-List.append_assoc, fieldAt_append_left, fieldAt_leBytes, leBytes_length, calStateOf_accept]
    exact (calStateOf_le s dom ins).trans_lt (by decide)
  · simp [-List.append_assoc, fieldAt_append_left, fieldAt_append_right, fieldAt_leBytes, leBytes_length]
    rfl

theorem sourceByte_accept (s : State) (r : Req) (op n : Nat) : sourceByte (accept s r op) n = sourceByte s n := by
  simp [sourceByte, natP_accept, srcRec]

theorem faultRead_reads {r : Req} {first count : Nat} {s : State} (h : mailboxOpen s r.slot = true) (hf : first ≤ 127) (hc : 1 ≤ count)
    (hsum : first + count ≤ 128) : Answers (.faultRead r first count) r.slot s s
      (okWith ((List.range count).map (fun i => sourceByte s (first + i)))) := by
  refine answers_of_refusal rfl h ?_
  rw [bodyFaultRead, if_neg (by omega), if_neg (by omega), if_neg (by omega)]
  simp only [sourceByte_accept]

theorem firstBad_all {α : Type} {f : α → Bool} {xs : List α} (n : Nat) (h : ∀ x ∈ xs, f x = true) : firstBad f n xs = none := by
  induction xs generalizing n with
  | nil => rfl
  | cons x xs ih => rw [firstBad, if_pos (h x (by simp)), ih _ (fun y hy => h y (by simp [hy]))]

theorem stagedMask_accept (s : State) (r : Req) (op n : Nat) (ids : List Nat) : stagedMask (accept s r op) n ids = stagedMask s n ids := by
  induction ids generalizing n with
  | nil => rfl
  | cons o os ih => rw [stagedMask, stagedMask, ih]; rfl

theorem paramGet_reads {r : Req} {source : Nat} {ids : List Nat} {s : State} (h : mailboxOpen s r.slot = true) (hs : source ≤ 1)
    (hne : ids ≠ []) (hlen : ids.length ≤ 54) (hids : ∀ o ∈ ids, objExists o = true) : Answers (.paramGet r source ids) r.slot s s
      (okWith (leBytes 8 (stagedMask s 0 ids) ++ (ids.map (fun o => leBytesI 4
        (if objAccess o = 2 then 0
         else if source = 1 then (stagedOf s o).getD (readItem (accept s r 0x0201) o)
         else readItem (accept s r 0x0201) o))).flatten)) := by
  refine answers_of_refusal rfl h ?_
  rw [bodyParamGet, if_neg (by simp [hne, hlen]), if_neg (by omega), firstBad_all 0 hids]
  simp only [stagedMask_accept, getValue, stagedOf_accept]

theorem listEntry_length (dom ins : Nat) (p : Nat × Item) : (listEntry dom ins p).length = 20 := by
  simp [listEntry, leBytes_length]

theorem paramList_reads {r : Req} {dom ins start : Nat} {s : State} (h : mailboxOpen s r.slot = true) (hl : listItems dom ins 0 ≠ [])
    (hrows : (itemRowsOf dom).isEmpty = false) : ∃ q, Answers (.paramList r dom ins start) r.slot s s (okWith q) ∧
      fieldAt q 2 2 = min 11 (listItems dom ins start).length ∧ q.length = 4 + 20 * min 11 (listItems dom ins start).length := by
  refine ⟨_, answers_of_refusal rfl h (by
    rw [bodyParamList, if_neg (by simp [hrows]), if_neg (by simpa using hl)]), ?_, ?_⟩
  · simp [-List.append_assoc, fieldAt_append_left, fieldAt_append_right, fieldAt_leBytes, leBytes_length]
  · simp only [List.length_append, leBytes_length, flatten_length_const (listEntry_length dom ins), List.length_take]

/-- Settles O41: each read replies on the accepted state, which its body leaves as it is. -/
theorem readsChangeNothing : Obligations.ReadsChangeNothing := by
  unfold Obligations.ReadsChangeNothing
  refine ⟨fun r s h => ⟨?_, sysStatus_reads h, timeGet_reads h, pairStatus_reads h⟩,
    fun r p s h => ⟨portStatus_reads h, fun hp => answers_of_refusal rfl h (by rw [bodyPortStatus, if_pos hp])⟩,
    fun r z s h => ⟨zoneStatus_reads h, fun hz => answers_of_refusal rfl h (by rw [bodyZoneStatus, if_pos hz])⟩,
    fun r dom ins s h hn => calStatus_reads h hn,
    fun r first count s h => ⟨faultRead_reads h, fun hsum => answers_of_refusal rfl h (by rw [bodyFaultRead, if_pos hsum])⟩,
    fun r source ids s h hs hne hlen hids => paramGet_reads h hs hne hlen hids,
    fun r dom ins start s h hl hrows => paramList_reads h hl hrows⟩
  obtain ⟨p, hp, hlen, hdev, hunit, -⟩ := sysIdent_reads h
  exact ⟨p, hp, hlen, hdev, hunit⟩

/-! ### The anti-rollback counter (20 R423) -/

theorem fwActivationDone_rollback {s t : State} (hs : s.boot.rollback ≤ 64) (h : exec .fwActivationDone s = .next t) :
    s.boot.rollback ≤ t.boot.rollback ∧ t.boot.rollback ≤ 64 := by
  have hr : ∀ a, s.boot.rollback ≤ (activationEnds s a).boot.rollback ∧ (activationEnds s a).boot.rollback ≤ 64 := by
    intro a
    unfold activationEnds
    rw [show ∀ u, (clearIf u 112).boot.rollback = u.boot.rollback from fun u => (clearIf_kept u 112).2.2.2]
    dsimp only
    split
    · exact ⟨le_refl _, hs⟩
    · exact ⟨le_max_left _ _, max_le hs (min_le_left _ _)⟩
  change execFwActivationDone s = _ at h
  unfold execFwActivationDone at h
  split at h
  · cases next_inj h; exact ⟨le_refl _, hs⟩
  · split at h
    · cases next_inj h; exact hr _
    · cases next_inj h; exact ⟨le_refl _, hs⟩

theorem step_rollback {s t : State} (hs : s.boot.rollback ≤ 64) (h : step s = .next t) :
    s.boot.rollback ≤ t.boot.rollback ∧ t.boot.rollback ≤ 64 ∧
    ((∀ cs, s.pending ≠ .fwActivationDone :: cs) → (∀ cs, s.held ≠ .fwActivationDone :: cs) →
      t.boot.rollback = s.boot.rollback) := by
  obtain ⟨c, u, hk, -, hu, hx, hc⟩ | ⟨-, -, -, hf⟩ := step_cases h
  · by_cases h112 : c = .fwActivationDone
    · subst h112
      obtain ⟨hlo, hhi⟩ := fwActivationDone_rollback (hu ▸ hs) hx
      refine ⟨hu ▸ hlo, hhi, fun hp hh => ?_⟩
      obtain ⟨cs, hq⟩ | ⟨cs, hq⟩ := hc
      · exact absurd hq (hp cs)
      · exact absurd hq (hh cs)
    · have hf := (hk.fuses h112).trans hu
      exact ⟨hf.ge, hf ▸ hs, fun _ _ => hf⟩
  · exact ⟨hf.ge, hf ▸ hs, fun _ _ => hf⟩

theorem verdict_of_rollback_low {s : State} {image : List Byte} (h : imgRollback image < s.boot.rollback) :
    verdict s image true = .auth := by
  unfold verdict
  (repeat' split) <;> simp_all

/-- Settles O4: only FW_ACTIVATION_DONE writes the count, as the larger of it and the image's, 64 at most. -/
theorem rollbackCounterOnlyRises : Obligations.RollbackCounterOnlyRises := by
  unfold Obligations.RollbackCounterOnlyRises
  refine ⟨fun s t hs h => step_rollback hs h, fun s image h => verdict_of_rollback_low h, fun r s hopen => ?_⟩
  obtain ⟨p, ⟨t, ht, ⟨hphase, hreply⟩, -⟩, -, -, -, hfield⟩ := sysIdent_reads hopen
  exact ⟨t, ht, hreply ▸ hfield⟩

end Sys2Proof.Machine
end

section
/-! PROOFS. The staged set and commits without rules of their own (15_mailbox_commands.md): O42, O43. -/

namespace Sys2Proof.Machine

/-! ### The staged set (15 R325, R326, R328) -/

theorem firstBad_first {α : Type} {f : α → Bool} {pre post : List α} {x : α} (n : Nat) (h : ∀ y ∈ pre, f y = true)
    (hx : f x = false) : firstBad f n (pre ++ x :: post) = some (n + pre.length, x) := by
  induction pre generalizing n with
  | nil => simp [firstBad, hx]
  | cons y pre ih =>
    rw [List.cons_append, firstBad, if_pos (h y (by simp)), ih _ (fun z hz => h z (by simp [hz]))]
    simp only [List.length_cons]
    congr 2
    omega

/-- Staging pairs writes the staged set alone. -/
theorem stageAll_rest (s : State) (ps : List (Nat × Int)) : stageAll s ps = { s with staged := (stageAll s ps).staged } := by
  induction ps generalizing s with
  | nil => rfl
  | cons p ps ih => exact (ih (stage s p.1 p.2)).trans rfl

theorem stagedOf_stageAll_other {ps : List (Nat × Int)} {o : Nat} (s : State) (h : ∀ p ∈ ps, p.1 ≠ o) :
    stagedOf (stageAll s ps) o = stagedOf s o := by
  induction ps generalizing s with
  | nil => rfl
  | cons p ps ih =>
    show stagedOf (stageAll (stage s p.1 p.2) ps) o = _
    rw [ih _ (fun q hq => h q (by simp [hq])), stagedOf_stage, if_neg (h p (by simp))]

theorem stagedOf_stageAll_last {pre post : List (Nat × Int)} {o : Nat} {v : Int} (s : State) (h : ∀ p ∈ post, p.1 ≠ o) :
    stagedOf (stageAll s (pre ++ (o, v) :: post)) o = some v := by
  rw [stageAll, List.foldl_append]
  show stagedOf (stageAll (stage (stageAll s pre) o v) post) o = _
  rw [stagedOf_stageAll_other _ h, stagedOf_stage, if_pos rfl]

theorem paramSet_stages {r : Req} {ps : List (Nat × Int)} {s : State} (hopen : mailboxOpen s r.slot = true) (hne : ps ≠ [])
    (hlen : ps.length ≤ 29) (hok : ∀ p ∈ ps, pairOk p = true) : Answers (.paramSet r ps none) r.slot s (stageAll s ps) okBare := by
  have hstaged : (stageAll (accept s r 0x0202) ps).staged = (stageAll s ps).staged := by
    suffices h : ∀ (u v : State), u.staged = v.staged → (stageAll u ps).staged = (stageAll v ps).staged from h _ _ rfl
    clear hne hlen hok
    induction ps with
    | nil => exact fun _ _ h => h
    | cons p ps ih => exact fun u v h => ih _ _ (congrArg (fun m => kput noStage m p.1 (some p.2)) h)
  refine answers_of_body (accept s r 0x0202).params rfl hopen (by simp) ?_ (fun o ho => ?_) ?_ ?_
  · show (if _ then _ else _) = _
    rw [if_neg (by simp [hne, hlen]), setPairs, firstBad_all 0 hok]
    dsimp only
    rw [stageAll_rest (accept s r 0x0202), hstaged, stageAll_rest s]
    rfl
  · rw [stageAll_rest s]; exact accept_params s r _ o ho
  · rw [stageAll_rest s]
  · rw [stageAll_rest s]; exact snags_of_mailboxOpen hopen

theorem paramSet_refuses {r : Req} {pre post : List (Nat × Int)} {p : Nat × Int} {s : State} (hopen : mailboxOpen s r.slot = true)
    (hlen : (pre ++ p :: post).length ≤ 29) (hok : ∀ q ∈ pre, pairOk q = true) (hbad : pairOk p = false) :
    Answers (.paramSet r (pre ++ p :: post) none) r.slot s s (badParam p.1 pre.length) := by
  refine answers_of_refusal rfl hopen ?_
  show (if _ then _ else _) = _
  rw [if_neg (by simp only [Bool.or_eq_true, decide_eq_true_eq]; simp at hlen ⊢; omega), setPairs, firstBad_first 0 hok hbad, Nat.zero_add]

theorem stagedOf_unstage {s : State} {f : Nat → Bool} (o : Nat) :
    stagedOf (unstage s f) o = if f o = true then none else stagedOf s o := by
  show kget noStage (kfilter (fun o => !f o) s.staged) o = _
  rw [kget_kfilter]
  cases f o <;> rfl

theorem paramCommit_discards {r : Req} {dom ins : Nat} {s : State} (hopen : mailboxOpen s r.slot = true)
    (hrows : (itemRowsOf dom).isEmpty = false) (hins : ins = 0xFF ∨ listItems dom ins 0 ≠ []) :
    Answers (.paramCommit r dom ins 1) r.slot s
      (unstage s (fun o => decide (objDom o = dom) && (decide (ins = 0xFF) || decide (objInst o = ins)))) okBare := by
  refine answers_of_body (accept s r 0x0203).params rfl hopen (by simp) ?_ (accept_params s r _) rfl (snags_of_mailboxOpen hopen)
  rw [bodyParamCommit, if_neg (by simp [hrows]), if_neg (by rintro ⟨h1, h2⟩; rcases hins with h | h <;> simp_all), if_neg (by decide),
    if_pos rfl]
  rfl

/-- Settles O42: pairs are checked in turn, then staged in turn; discarding filters the staged set. -/
theorem stagedSet : Obligations.StagedSet := by
  unfold Obligations.StagedSet
  refine ⟨fun r ps s hopen hne hlen hok => ⟨_, paramSet_stages hopen hne hlen hok, stageAll_rest s ps,
      fun o h => stagedOf_stageAll_other s h, fun o v pre post hps h => ?_⟩,
    fun r pre post p s hopen hlen hok hbad => paramSet_refuses hopen hlen hok hbad,
    fun r dom ins s hopen hrows hins => ⟨_, paramCommit_discards hopen hrows hins, rfl, fun o hd hi => ?_, fun o h => ?_⟩⟩
  · subst hps
    exact stagedOf_stageAll_last s h
  · rw [stagedOf_unstage, if_pos (by simpa [hd] using hi)]
  · rw [stagedOf_unstage, if_neg (by simpa using h)]

/-! ### PARAM_COMMIT where no rule between items is checked (15 R328) -/

/-- A body that applies staged items, none of them MBX_ACCEPTED, answers as on the state before the request. -/
theorem answers_applied {c : Instr} {r : Req} {op : Nat} {body : State → State × Answer} {s : State} {f : Nat → Bool}
    (hc : exec c s = .next (mbxRun c r op false body s)) (hopen : mailboxOpen s r.slot = true)
    (hbody : body (accept s r op) = (applyStaged (accept s r op) f, .final okBare)) : Answers c r.slot s (applyStaged s f) okBare :=
  answers_of_body (applyStaged (accept s r op) f).params hc hopen (by simp) hbody
    (fun _ ho => applyStaged_accept r op f ho) rfl (snags_of_mailboxOpen hopen)

theorem applyStaged_leaves {s : State} {f : Nat → Bool} {o : Nat} (h : f o = false ∨ stagedOf s o = none) :
    kget paramReset (applyStaged s f).params o = kget paramReset s.params o ∧ stagedOf (applyStaged s f) o = stagedOf s o := by
  have hstaged : stagedOf (applyStaged s f) o = if f o = true then none else stagedOf s o := stagedOf_unstage (s := s) o
  cases hf : f o with
  | false => exact ⟨kget_applyStaged_other hf, by rw [hstaged, hf]; rfl⟩
  | true =>
    have hnone : stagedOf s o = none := h.resolve_left (by simp [hf])
    exact ⟨by rw [kget_applyStaged hf, hnone]; rfl, by rw [hstaged, hf, hnone]; rfl⟩

theorem objInst_objId {n i : Nat} (d : Nat) (hn : n < 256) (hi : i < 65536) : objInst (objId d n i) = n := by
  simp only [objInst, objId]; omega

/-- A zone has the item PRODUCT, so its list is not empty (06 Table 6-1). -/
theorem listItems_zone_ne_nil {ins : Nat} (h : ins < 128) : listItems 4 ins 0 ≠ [] := by
  have hobj : objExists (objId 4 ins 1) = true := by
    rw [objExists, objDom_zoneObj h (by decide), objItem_objId 4 ins (by decide), objInst_objId 4 (by omega) (by decide)]
    simp only [instOk, h, itemRow, itemRowsOf, itemRows04A]
    rfl
  refine List.ne_nil_of_mem (a := (1, ⟨0x04, 0x0001, 0x0001, 1, 0x0401, [(0, 2)], 0⟩)) ?_
  refine List.mem_filter.mpr ⟨List.mem_flatten.mpr ⟨_, List.mem_map.mpr ⟨_, List.mem_append_left _ List.mem_cons_self, rfl⟩, ?_⟩, ?_⟩
  · decide
  · simpa using hobj

/-- Settles O43: both bodies apply the staged items of a scope and answer OK. -/
theorem commitApplies : Obligations.CommitApplies := by
  unfold Obligations.CommitApplies
  refine ⟨fun r ins s hopen hins => ⟨_, answers_applied rfl hopen ?_, rfl, fun o v hf hv => applyStaged_applies hf hv,
      fun o h => applyStaged_leaves h⟩,
    fun r s hopen => ⟨_, answers_applied rfl hopen rfl, answers_applied rfl hopen rfl, rfl, fun o v hd hv => ?_, fun o h => ?_⟩⟩
  · have hlist : ¬ (ins ≠ 0xFF ∧ (listItems 4 ins 0).isEmpty) := fun h => listItems_zone_ne_nil hins (by simpa using h.2)
    rw [bodyParamCommit, if_neg (by decide), if_neg hlist, if_neg (by decide), if_neg (by decide)]
    rfl
  · exact applyStaged_applies (by simpa [collectorItem] using hd) hv
  · exact applyStaged_leaves (by simpa [collectorItem] using h)

end Sys2Proof.Machine
end

section
/-! PROOFS. What the mailbox refuses, and debug unlock (15_mailbox_commands.md): O44, O45. -/

namespace Sys2Proof.Machine

/-! ### The collector's record of a source (18 R379 to R381) -/

theorem srcRec_setSrcRec (s : State) (src n : Nat) (x : Source) : srcRec (setSrcRec s src x) n = if src = n then x else srcRec s n :=
  kget_kput sourceBlank s.col.sources src n x

theorem srcRec_dropQuiet (s : State) (src n : Nat) :
    srcRec (dropQuiet s src) n = if src = n then { srcRec s n with quietAt := none } else srcRec s n := by
  unfold dropQuiet
  split
  · rw [srcRec_setSrcRec]
    split
    · next h => rw [h]
    · rfl
  · next hq =>
    split
    · next h =>
      subst h
      rw [← Option.not_isSome_iff_eq_none.mp (by simpa using hq)]
    · rfl

/-- Detecting a raise stops the quiet time of its source and touches no other record. -/
theorem srcRec_detect (s : State) (x : Raise) (n : Nat) :
    srcRec (detect s x) n = if x.src = n then { srcRec s n with quietAt := none } else srcRec s n := srcRec_dropQuiet s x.src n

theorem srcRec_quietIn (s : State) (src ticks n : Nat) :
    srcRec (quietIn s src ticks) n = if src = n then { srcRec s n with quietAt := some (nowClk s + ticks) } else srcRec s n := by
  rw [quietIn, srcRec_setSrcRec]
  split
  · next h => rw [h]
  · rfl

/-- A raise with a quiet time sets the time of its source, from its record as it was. -/
theorem quietFrom_detect (s : State) (x : Raise) (ticks : Nat) : quietFrom x.src ticks s (quietIn (detect s x) x.src ticks) := by
  refine ⟨?_, fun n hn => ?_⟩
  · rw [srcRec_quietIn, if_pos rfl, srcRec_detect, if_pos rfl, detect_eq]
    rfl
  · rw [srcRec_quietIn, if_neg (Ne.symm hn), srcRec_detect, if_neg (Ne.symm hn)]

/-- A raise waits behind those detected before it; of the collector else only the quiet time of its source can change. -/
theorem detect_rest (s : State) (x : Raise) : detect s x =
    { s with col := { s.col with detected := s.col.detected ++ [x], sources := (detect s x).col.sources } } := by
  unfold detect dropQuiet
  dsimp only
  split <;> rfl

theorem quietIn_detect_rest (s : State) (x : Raise) (src ticks : Nat) : quietIn (detect s x) src ticks =
    { s with col := { s.col with
        detected := s.col.detected ++ [x], sources := (quietIn (detect s x) src ticks).col.sources } } := by
  rw [detect_rest]
  rfl

/-! ### What the mailbox answers before a command's own checks (15 R319, R323, R324) -/

/-- What a violation leaves: it counts, and raises 89 with the slot (15 R319). -/
theorem busyDoorbell_spec (s : State) (n : Nat) :
    busyDoorbell s n = { s with params := (bumpP s 1 0 xMBX_VIOLATIONS).params
                                col := { s.col with detected := s.col.detected ++ [{ raiseBlank 89 with ins := n }]
                                                    sources := (busyDoorbell s n).col.sources } } ∧
      quietFrom 89 1250000000 s (busyDoorbell s n) :=
  ⟨quietIn_detect_rest (bumpP s 1 0 xMBX_VIOLATIONS) { raiseBlank 89 with ins := n } 89 secTicks,
    quietFrom_detect (bumpP s 1 0 xMBX_VIOLATIONS) { raiseBlank 89 with ins := n } secTicks⟩

theorem busyDoorbell_params (s : State) (n : Nat) : (busyDoorbell s n).params = (bumpP s 1 0 xMBX_VIOLATIONS).params := by
  rw [(busyDoorbell_spec s n).1]

theorem mbxDoorbellBusySlot_violates {slot : Nat} {s : State} (h : slotBusy s slot = true) :
    exec (.mbxDoorbellBusySlot slot) s = .next (busyDoorbell s slot) := by
  show execMbxDoorbellBusySlot slot s = _
  rw [execMbxDoorbellBusySlot, if_pos h]

/-- A request to an open mailbox that is refused before its own checks gets its answer on the accepted state. -/
theorem mbxEarly_open {r : Req} {op : Nat} {body : State → State × Reply} {s : State} (h : mailboxOpen s r.slot = true) :
    mbxEarly r op body s = finish (body (accept s r op)).1 r.slot (body (accept s r op)).2 := by
  simp only [mailboxOpen, Bool.and_eq_true, Bool.not_eq_true', decide_eq_true_eq, Option.isNone_iff_eq_none] at h
  obtain ⟨⟨⟨⟨⟨⟨⟨h1, h2⟩, h3⟩, h4⟩, h5⟩, h6⟩, -⟩, -⟩ := h
  have hserves : mailboxServes (accept s r op) op = true := by rw [accept_eq]; simp [mailboxServes, h1, h3]
  simp [mbxEarly, h6, h2, hserves]

/-- A final answer on the accepted state is one on the state before the request. -/
theorem answers_of_finish {c : Instr} {r : Req} {op : Nat} {s : State} {a : Reply} (hopen : mailboxOpen s r.slot = true)
    (hc : exec c s = .next (finish (accept s r op) r.slot a)) : Answers c r.slot s s a := by
  have hs := snags_of_mailboxOpen hopen
  have hsnags : (accept s r op).col.snags = [] := hs
  refine ⟨_, hc, ?_⟩
  rw [finish_open _ _ _ hsnags]
  refine ⟨⟨?_, ?_⟩, ?_, fun o ho => ?_, fun n hn => ?_⟩
  · rw [slotOf_writeResponse, if_pos rfl]
  · rw [slotOf_writeResponse, if_pos rfl]
  · rw [writeResponse_eq]; rfl
  · rw [writeResponse_params]; exact accept_params s r op o ho
  · rw [slotOf_writeResponse, if_neg (Ne.symm hn)]; exact slotOf_accept s r op n hn

theorem badOpcode_answers {r : Req} {op : Nat} {s : State} (h : mailboxOpen s r.slot = true) :
    Answers (.badOpcode r op) r.slot s s (statusOnly 0x02) :=
  answers_of_finish h (congrArg Host.Outcome.next (mbxEarly_open h))

theorem snagSet_locked {r : Req} {num : Nat} {args : List Byte} {s : State} (h : mailboxOpen s r.slot = true)
    (hlock : s.boot.unlocked = false) : Answers (.diagSnagSet r num args) r.slot s s (statusOnly 0x0C) := by
  refine answers_of_finish (op := 0x0E02) h (congrArg Host.Outcome.next ?_)
  simp only [mailboxOpen, Bool.and_eq_true, Bool.not_eq_true', decide_eq_true_eq, Option.isNone_iff_eq_none] at h
  obtain ⟨⟨⟨⟨⟨⟨⟨h1, h2⟩, h3⟩, h4⟩, h5⟩, h6⟩, -⟩, -⟩ := h
  have hboot : (accept s r 0x0E02).boot = s.boot := rfl
  have hserves : mailboxServes (accept s r 0x0E02) 0x0E02 = true := by simp [mailboxServes, hboot, h1, h3]
  simp [mbxRun, h2, h5, h6, hserves, hboot, h4, hlock]

theorem sysStatus_booting {r : Req} {s : State} (hruns : s.boot.fwRuns = true) (hready : s.boot.st ≠ .ready)
    (hrec : s.boot.st ≠ .recovery) (hheld : s.boot.releaseHeld = false) (hslot : slotBusy s r.slot = false) (hsnags : s.col.snags = []) :
    ∃ t, exec (.sysStatus r) s = .next t ∧ answered t r.slot (statusOnly 0x10) := by
  have hserves : mailboxServes (accept s r 0x0102) 0x0102 = false := by
    rw [accept_eq]; simp [mailboxServes, hready, hrec]
  have hrun : mbxRun (.sysStatus r) r 0x0102 false bodySysStatus s = finish (accept s r 0x0102) r.slot (statusOnly 0x10) := by
    simp [mbxRun, hruns, hheld, hslot, hserves]
  refine ⟨_, rfl, ?_⟩
  rw [hrun, finish_open _ _ _ (by exact hsnags)]
  exact ⟨by rw [slotOf_writeResponse, if_pos rfl], by rw [slotOf_writeResponse, if_pos rfl]⟩

/-- The state after a malformed request was counted, before its answer (15 R323). -/
def malformedCounted (slot : Nat) (header : List Byte) (s : State) : State :=
  busyDoorbell (bumpP (accept s (reqOf slot header) (reqOpcode header)) 1 0 xMBX_MALFORMED) slot

theorem busyDoorbell_snags (s : State) (n : Nat) : (busyDoorbell s n).col.snags = s.col.snags := by
  rw [(busyDoorbell_spec s n).1]

theorem malformed_answers {slot : Nat} {header : List Byte} {s : State} (h : mailboxOpen s slot = true) :
    exec (.malformedRequest slot header) s = .next (writeResponse (malformedCounted slot header s) slot .done .none (statusOnly 0x0E)) := by
  have hs := snags_of_mailboxOpen h
  have hsnags : (malformedCounted slot header s).col.snags = [] := (busyDoorbell_snags _ _).trans hs
  exact congrArg Host.Outcome.next ((mbxEarly_open (r := reqOf slot header) h).trans (finish_open _ _ _ hsnags))

theorem malformedCounted_params (slot : Nat) (header : List Byte) (s : State) : (malformedCounted slot header s).params =
    (bumpP (bumpP (bumpP s 1 0 xMBX_ACCEPTED) 1 0 xMBX_MALFORMED) 1 0 xMBX_VIOLATIONS).params := busyDoorbell_params _ _

theorem writeResponse_col (s : State) (n : Nat) (ph : SlotPhase) (j : Job) (r : Reply) : (writeResponse s n ph j r).col = s.col := by
  rw [writeResponse_eq]

theorem malformedRequest_spec {slot : Nat} {header : List Byte} {s : State} (h : mailboxOpen s slot = true) :
    ∃ t, exec (.malformedRequest slot header) s = .next t ∧
    answered t slot (statusOnly 0x0E) ∧ (slotOf t slot).tag = fieldAt header 12 4 ∧ (slotOf t slot).opcode = fieldAt header 0 2 ∧
    itemsBut [objId 1 0 xMBX_ACCEPTED, objId 1 0 xMBX_MALFORMED, objId 1 0 xMBX_VIOLATIONS] s t ∧
    getP t 1 0 xMBX_MALFORMED = inc32 (getP s 1 0 xMBX_MALFORMED) ∧
    getP t 1 0 xMBX_VIOLATIONS = inc32 (getP s 1 0 xMBX_VIOLATIONS) ∧
    t.col.detected = s.col.detected ++ [{ raiseBlank 89 with ins := slot }] ∧ quietFrom 89 1250000000 s t := by
  obtain ⟨hrest, hquiet⟩ := busyDoorbell_spec (bumpP (accept s (reqOf slot header) (reqOpcode header)) 1 0 xMBX_MALFORMED) slot
  have hparams := malformedCounted_params slot header s
  have hslot : ∀ n, slotOf (malformedCounted slot header s) n = slotOf (accept s (reqOf slot header) (reqOpcode header)) n := by
    intro n; rw [malformedCounted, hrest]; rfl
  have htaken : slotOf (accept s (reqOf slot header) (reqOpcode header)) slot = { slotOf s slot with
      phase := .accepted, opcode := reqOpcode header, tag := fieldAt header 12 4, noIrq := (reqOf slot header).noIrq, job := .none, held := none } := by
    unfold accept; rw [slotOf_setSlot]; exact if_pos rfl
  have hitem : ∀ n, getP (writeResponse (malformedCounted slot header s) slot .done .none (statusOnly 0x0E)) 1 0 n =
      getP (bumpP (bumpP (bumpP s 1 0 xMBX_ACCEPTED) 1 0 xMBX_MALFORMED) 1 0 xMBX_VIOLATIONS) 1 0 n := fun n => by
    rw [getP, writeResponse_params, hparams]; rfl
  refine ⟨_, malformed_answers h, ⟨?_, ?_⟩, ?_, ?_, fun o ho => ?_, ?_, ?_, ?_, ?_⟩
  · rw [slotOf_writeResponse, if_pos rfl]
  · rw [slotOf_writeResponse, if_pos rfl]
  · rw [slotOf_writeResponse, if_pos rfl, hslot, htaken]
  · rw [slotOf_writeResponse, if_pos rfl, hslot, htaken]; rfl
  · rw [writeResponse_params, hparams]
    exact itemsBut_trans (itemsBut_trans (bumpP_itemsBut s (by simp)) (bumpP_itemsBut _ (by simp)))
      (bumpP_itemsBut _ (by simp)) o ho
  · rw [hitem, getP_bumpP_ne _ _ _ (by decide), getP_bumpP_same, getP_bumpP_ne _ _ _ (by decide)]
  · rw [hitem, getP_bumpP_same, getP_bumpP_ne _ _ _ (by decide), getP_bumpP_ne _ _ _ (by decide)]
  · rw [writeResponse_col, malformedCounted, hrest]; rfl
  · have hrec : ∀ n, srcRec (writeResponse (malformedCounted slot header s) slot .done .none (statusOnly 0x0E)) n =
        srcRec (malformedCounted slot header s) n := fun n => by rw [srcRec, writeResponse_col]; rfl
    exact ⟨(hrec 89).trans hquiet.1, fun n hn => (hrec n).trans (hquiet.2 n hn)⟩


/-- Settles O44: each refusal is an answer on the accepted state; the violations add one counted raise. -/
theorem mailboxRefuses : Obligations.MailboxRefuses := by
  unfold Obligations.MailboxRefuses
  refine ⟨fun r op s h => badOpcode_answers h, fun slot header s h => malformedRequest_spec h, fun slot s h => ?_,
    fun r s hruns hready hrec hheld hslot hsnags => sysStatus_booting hruns hready hrec hheld hslot hsnags,
    fun r num args s h hlock => snagSet_locked h hlock⟩
  obtain ⟨hrest, hquiet⟩ := busyDoorbell_spec s slot
  have hparams := busyDoorbell_params s slot
  refine ⟨_, mbxDoorbellBusySlot_violates h, ?_, fun o ho => ?_, ?_, hquiet⟩
  · rw [hrest]
  · rw [hparams]; exact bumpP_itemsBut s (by simp) o ho
  · rw [getP, hparams]; exact getP_bumpP_same s 1 0 xMBX_VIOLATIONS


/-! ### Debug unlock (15 R335) -/

theorem diagUnlock_challenges {r : Req} {sig : List Byte} {s : State} (h : mailboxOpen s r.slot = true) :
    Answers (.diagUnlock r 0 sig) r.slot s
      { s with free := s.free + 1, boot := { s.boot with challenge := some (fitBytes 48 (Config.challenge s.free)) } }
      (okWith (fitBytes 48 (Config.challenge s.free))) :=
  answers_of_body (accept s r 0x0E01).params rfl h (by simp) rfl (accept_params s r _) rfl (snags_of_mailboxOpen h)

theorem diagUnlock_checks {r : Req} {sig c : List Byte} {s : State} (h : mailboxOpen s r.slot = true) (hc : s.boot.challenge = some c) :
    Answers (.diagUnlock r 1 sig) r.slot s { s with boot := { s.boot with
        challenge := none
        unlocked := s.boot.unlocked || Config.debugSigOk c (fitBytes 16 s.boot.serial) (fitBytes 96 sig) } }
      (if Config.debugSigOk c (fitBytes 16 s.boot.serial) (fitBytes 96 sig) then okBare else statusOnly 0x08) := by
  refine answers_of_body (accept s r 0x0E01).params rfl h (by simp) ?_ (accept_params s r _) rfl (snags_of_mailboxOpen h)
  have hacc : (accept s r 0x0E01).boot.challenge = some c := hc
  simp only [bodyDiagUnlock, hacc]
  rfl

theorem diagUnlock_unasked {r : Req} {sig : List Byte} {s : State} (h : mailboxOpen s r.slot = true) (hc : s.boot.challenge = none) :
    Answers (.diagUnlock r 1 sig) r.slot s s (statusOnly 0x08) := by
  have hacc : (accept s r 0x0E01).boot.challenge = none := hc
  refine answers_of_refusal rfl h ?_
  simp only [bodyDiagUnlock, hacc]
  rfl

theorem mem_kput {α : Type} [DecidableEq α] {d : Nat → α} {m : KMap α} {k : Nat} {v : α} {p : Nat × α} (h : p ∈ kput d m k v) :
    p = (k, v) ∨ p ∈ m := by
  rw [kput] at h
  split at h
  · exact .inr (List.mem_filter.mp h).1
  · exact mem_kins h

/-- A slot that takes a request is not deferred, and no other slot changes. -/
theorem deferredSlots_accept {s : State} (r : Req) (op : Nat) (h : deferredSlots s = []) : deferredSlots (accept s r op) = [] := by
  refine List.map_eq_nil_iff.mpr (List.filter_eq_nil_iff.mpr fun p hp => ?_)
  have hp' : p ∈ kput (fun _ => slotBlank) (bumpP s 1 0 xMBX_ACCEPTED).slots r.slot
      { slotOf (bumpP s 1 0 xMBX_ACCEPTED) r.slot with
        phase := .accepted, opcode := op, tag := r.tag, noIrq := r.noIrq, job := .none, held := none } := hp
  rcases mem_kput hp' with rfl | hmem
  · simp
  · exact List.filter_eq_nil_iff.mp (List.map_eq_nil_iff.mp h) p hmem

theorem deferredBut_of_none {s : State} (slot : Nat) (h : deferredSlots s = []) : deferredBut s slot = none := by
  rw [deferredBut, h]; rfl

theorem canRecordMany_zero (s : State) : canRecordMany s 0 = true := decide_eq_true (Nat.zero_le _)

/-- FW_ACTIVATE of a verified slot locks debug and starts the 200 ms (20 R427). -/
def activationBegins (n : Nat) (s : State) : State :=
  { lockDebug s with boot := { (lockDebug s).boot with activation := some ⟨n, s.boot.fwSlot, nowClk s + 200 * msTicks, false⟩ } }

theorem bodyFwActivate_begins {n slot : Nat} {s : State} (hn : n ≤ 1) (hready : s.boot.st = .ready) (hsnags : s.col.snags = [])
    (hd : deferredSlots s = []) (hv : (fwSlotOf s n).verified = true) :
    bodyFwActivate slot n s = (activationBegins n s, .final okBare) := by
  rw [bodyFwActivate, if_neg (by omega), deferredBut_of_none slot hd]
  simp only [hv, hsnags, List.length_nil, canRecordMany_zero, hready]
  rfl

theorem boot_of_mailboxOpen {s : State} {slot : Nat} (h : mailboxOpen s slot = true) :
    s.boot.st = .ready ∧ s.boot.fwRuns = true ∧ s.boot.activation = none ∧ s.boot.bindOff = none ∧ s.boot.releaseHeld = false := by
  simp only [mailboxOpen, Bool.and_eq_true, Bool.not_eq_true', decide_eq_true_eq, Option.isNone_iff_eq_none] at h
  obtain ⟨⟨⟨⟨⟨⟨⟨h1, h2⟩, h3⟩, h4⟩, h5⟩, -⟩, -⟩, -⟩ := h
  exact ⟨h1, h2, h3, h4, h5⟩

/-- No final response is held back (18 Table 18-5, snag 0x0040). -/
def NoneHeld (s : State) : Prop := ∀ p ∈ s.slots, p.2.held = none

theorem noneHeld_of_mailboxOpen {s : State} {slot : Nat} (h : mailboxOpen s slot = true) : NoneHeld s := by
  simp only [mailboxOpen, Bool.and_eq_true, List.all_eq_true, Option.isNone_iff_eq_none] at h
  exact h.2

theorem noneHeld_setSlot {s : State} {n : Nat} {x : Slot} (h : NoneHeld s) (hx : x.held = none) : NoneHeld (setSlot s n x) := by
  intro p hp
  rcases mem_kput (show p ∈ kput (fun _ => slotBlank) s.slots n x from hp) with rfl | hmem
  · exact hx
  · exact h p hmem

theorem noneHeld_accept {s : State} (r : Req) (op : Nat) (h : NoneHeld s) : NoneHeld (accept s r op) :=
  noneHeld_setSlot (s := bumpP s 1 0 xMBX_ACCEPTED) h rfl

theorem noneHeld_writeResponse {s : State} (n : Nat) (ph : SlotPhase) (j : Job) (r : Reply) (h : NoneHeld s) :
    NoneHeld (writeResponse s n ph j r) := by
  unfold writeResponse
  dsimp only
  split
  · exact noneHeld_setSlot h rfl
  · intro p hp
    rw [raiseVector_slots] at hp
    exact noneHeld_setSlot h rfl p hp

theorem flushHeld_of_noneHeld {s : State} (h : NoneHeld s) : flushHeld s = s := by
  unfold flushHeld
  exact List.foldlRecOn (motive := fun t => t = s) _ _ rfl fun t ht p hp => by rw [ht, h p hp]

/-- With no snag active and no response held back, ending all snags does nothing. -/
theorem endAllSnags_none {s : State} (hs : s.col.snags = []) (h : NoneHeld s) : endAllSnags s = s := by
  rw [endAllSnags, hs, List.foldl_nil, flushHeld_of_noneHeld h]

theorem resetSettle_notDue {s : State} (h : s.boot.resetDue = false) : resetSettle s = s := by
  rw [resetSettle, if_neg (by simp [h])]

theorem fwActivate_begins {r : Req} {n : Nat} {s : State} (h : mailboxOpen s r.slot = true) (hn : n ≤ 1) (hdue : s.boot.resetDue = false)
    (hd : deferredSlots s = []) (hv : (fwSlotOf s n).verified = true) :
    exec (.fwActivate r n) s =
      .next (writeResponse (activationBegins n (accept s r 0x0C03)) r.slot .done .none okBare) := by
  obtain ⟨hready, -⟩ := boot_of_mailboxOpen h
  have hsnags := snags_of_mailboxOpen h
  show execFwActivate r n s = _
  rw [execFwActivate, mbxRun_open _ _ _ _ _ _ h (by simp),
    bodyFwActivate_begins (s := accept s r 0x0C03) hn hready hsnags (deferredSlots_accept r _ hd) hv]
  have hfin : finish (activationBegins n (accept s r 0x0C03)) r.slot okBare =
      writeResponse (activationBegins n (accept s r 0x0C03)) r.slot .done .none okBare := finish_open _ _ _ hsnags
  have hheld : NoneHeld (writeResponse (activationBegins n (accept s r 0x0C03)) r.slot .done .none okBare) :=
    noneHeld_writeResponse _ _ _ _ (noneHeld_accept r _ (noneHeld_of_mailboxOpen h))
  simp only [post, hfin]
  generalize hu : writeResponse (activationBegins n (accept s r 0x0C03)) r.slot .done .none okBare = u at hheld ⊢
  have hboot : u.boot = (activationBegins n s).boot := by rw [← hu, writeResponse_eq]; rfl
  have hcol : u.col.snags = [] := by rw [← hu, writeResponse_col]; exact hsnags
  have hsome : u.boot.activation.isSome = true := by rw [hboot]; rfl
  rw [activateSettle, if_pos hsome, endAllSnags_none hcol hheld, resetSettle_notDue (by rw [hboot]; exact hdue)]

/-- SYS_RESET is due: the deferred commands have ended, and a bind-off with them (20 R418). -/
def resetAsked (s : State) : State := { endDeferred s with boot := { (endDeferred s).boot with resetDue := true, bindOff := none } }

theorem bodySysReset_asked {s : State} (hsnags : s.col.snags = []) : bodySysReset 0x5253 s = (resetAsked s, .final okBare) := by
  rw [bodySysReset, if_neg (by decide), hsnags, List.length_nil, canRecordMany_zero]
  rfl

theorem sysReset_resets {r : Req} {s : State} (h : mailboxOpen s r.slot = true) :
    exec (.sysReset r 0x5253) s = .next (warmReset (finish (resetAsked (accept s r 0x0103)) r.slot okBare)) := by
  have hdue : (finish (resetAsked (accept s r 0x0103)) r.slot okBare).boot.resetDue = true := by rw [finish_rest]; rfl
  have hsnags := snags_of_mailboxOpen h
  show execSysReset r 0x5253 s = _
  rw [execSysReset, mbxRun_open _ _ _ _ _ _ h (by simp), bodySysReset_asked (s := accept s r 0x0103) hsnags]
  simp only [post, resetSettle, hdue, if_true]

/-- Settles O45: the challenge is used up by its one answer, and every reset and an activation lock again. -/
theorem debugUnlock : Obligations.DebugUnlock := by
  unfold Obligations.DebugUnlock
  refine ⟨fun r sig s h => ⟨_, fitBytes_length 48 _, diagUnlock_challenges h⟩, fun r sig c s h hc => diagUnlock_checks h hc,
    fun r sig s h hc => diagUnlock_unasked h hc, fun s => ⟨_, rfl, rfl⟩, fun r s h => ⟨_, sysReset_resets h, rfl⟩,
    fun r n s h hn hdue hd hv => ⟨_, fwActivate_begins h hn hdue hd hv, ?_⟩⟩
  rw [writeResponse_eq]
  rfl

end Sys2Proof.Machine
end

section
/-! PROOFS. Staging, verifying and activating firmware (20_reset_boot_firmware.md): O59. -/

namespace Sys2Proof.Machine

/-! ### What rings, sources and answers leave of the boot state -/

theorem clearLive_boot (s : State) (n : Nat) : (clearLive s n).boot = s.boot := by rw [(clearLive_onlyCollector s n).rest]

theorem complete_boot (s : State) (j : Job) (r : Reply) : (complete s j r).boot = s.boot := by rw [complete_rest]

theorem foldl_boot {β : Type} {f : State → β → State} (hf : ∀ s b, (f s b).boot = s.boot) (xs : List β) (s : State) :
    (xs.foldl f s).boot = s.boot :=
  List.foldlRecOn (motive := fun t => t.boot = s.boot) xs f rfl fun t ht x _ => (hf t x).trans ht

theorem clearDmaSources_boot (s : State) (r : Nat) : (clearDmaSources s r).boot = s.boot := by
  unfold clearDmaSources
  exact foldl_boot (fun u n => by split; · rfl
                                  · exact clearLive_boot u n) _ _

theorem takeDescriptor_boot (s : State) (h : Nat) : (takeDescriptor s h).boot = s.boot := by
  unfold takeDescriptor
  dsimp only
  split
  · split
    · rw [announce_rest]; rfl
    · rfl
  · rfl

theorem ringStart_boot (s : State) (r : Nat) : (ringStart s r).boot = s.boot := by
  unfold ringStart
  dsimp only
  split
  · exact clearDmaSources_boot _ r
  · exact clearDmaSources_boot _ r

theorem writeStatus_boot (s : State) (r : Nat) : (writeStatus s r).boot = s.boot := by
  unfold writeStatus
  rfl

theorem settleRing_boot (s : State) (r : Nat) (works : Bool) : (settleRing s r works).boot = s.boot := by
  unfold settleRing
  dsimp only
  split
  · rfl
  · split
    · rw [ringStart_boot, setRing_boot, writeStatus_boot]
    · rw [setRing_boot, writeStatus_boot]

/-! ### Firmware slots (20 R421) -/

theorem fwSlotOf_congr {s t : State} (h : t.boot = s.boot) (n : Nat) : fwSlotOf t n = fwSlotOf s n := by
  rw [fwSlotOf, fwSlotOf, h]

theorem fwSlotOf_setFwSlot_same (s : State) (n : Nat) (x : FwSlot) : fwSlotOf (setFwSlot s n x) n = x := by
  unfold fwSlotOf setFwSlot
  split <;> rfl

theorem fwSlotOf_setFwSlot_other {s : State} {n : Nat} (x : FwSlot) (h : n ≤ 1) :
    fwSlotOf (setFwSlot s n x) (1 - n) = fwSlotOf s (1 - n) := by
  obtain rfl | rfl : n = 0 ∨ n = 1 := by omega
  · rfl
  · rfl

theorem nvmGood_boot (s : State) (n : Nat) : (nvmGood s n).boot = s.boot := by
  unfold nvmGood
  dsimp only
  split
  · rw [clearLive_boot]
  · rfl

/-! ### FW_STAGE and FW_STAGE_DONE (20 R424) -/

/-- The write has begun and the slot is unverified. -/
def stageBegins (n : Nat) (b : Bulk) (s : State) : State :=
  let s := setFwSlot s n { fwSlotOf s n with verified := false }
  { s with boot := { s.boot with staging := some (n, (bulkBytes s b).take (imgFrame + imgBytes (bulkBytes s b)), bulkTag b) } }

theorem fwStage_begins {r : Req} {n : Nat} {b : Bulk} {s : State} (h : mailboxOpen s r.slot = true) (hn : n ≤ 1)
    (hfree : slotInUse s n = false) (hst : s.boot.staging = none) (hv : n ∉ s.boot.verifying) (hready : descriptorReady s 0 = true)
    (hok : bulkOk b = true) (hgood : stageFault (bulkBytes s b) (bulkLen b) = none) :
    Defers (.fwStage r n b) r.slot s (stageBegins n b s) .fwStage := by
  have hboot : (accept s r 0x0C01).boot = s.boot := rfl
  have huse : slotInUse (accept s r 0x0C01) n = false := hfree
  have hdesc : descriptorReady (accept s r 0x0C01) 0 = true := hready
  have hbytes : bulkBytes (accept s r 0x0C01) b = bulkBytes s b := rfl
  refine defers_of_body (accept s r 0x0C01).params rfl h (by simp) ?_ (accept_params s r _) rfl
  rw [bodyFwStage, if_neg (by simp [huse, Nat.not_lt.mpr hn]), if_neg (by simp [hboot, hst]), if_neg (by simpa [hboot] using hv),
    if_neg (by simp [hdesc]), if_neg (by simp [hok]), hbytes]
  dsimp only
  rw [hgood]
  obtain rfl | rfl : n = 0 ∨ n = 1 := by omega
  · rfl
  · rfl

/-- FW_STAGE_DONE of an image that is written leaves it in its slot, unverified, and no write. -/
theorem fwStageDone_boot {n tag : Nat} {im : List Byte} {s : State} (hst : s.boot.staging = some (n, im, tag)) :
    ∃ t, exec (.fwStageDone true) s = .next t ∧ t.boot = (setFwSlot { s with boot := { s.boot with staging := none } } n ⟨im, false⟩).boot := by
  refine ⟨_, show execFwStageDone true s = _ by rw [execFwStageDone, hst]; rfl, ?_⟩
  rw [complete_boot, nvmGood_boot, setFwSlot, settleRing_boot, takeDescriptor_boot]
  rfl

theorem fwStageDone_writes {n tag : Nat} {im : List Byte} {s : State} (hst : s.boot.staging = some (n, im, tag)) (hn : n ≤ 1) :
    ∃ t, exec (.fwStageDone true) s = .next t ∧ t.boot.staging = none ∧ fwSlotOf t n = ⟨im, false⟩ ∧
      fwSlotOf t (1 - n) = fwSlotOf s (1 - n) ∧ t.boot.rollback = s.boot.rollback := by
  obtain ⟨t, ht, hboot⟩ := fwStageDone_boot hst
  refine ⟨t, ht, ?_, ?_, ?_, ?_⟩
  · rw [hboot, setFwSlot]; split <;> rfl
  · rw [fwSlotOf_congr hboot, fwSlotOf_setFwSlot_same]
  · rw [fwSlotOf_congr hboot, fwSlotOf_setFwSlot_other _ hn]; rfl
  · rw [hboot, setFwSlot]; split <;> rfl

/-! ### FW_VERIFY and FW_VERIFY_DONE (20 R425) -/

theorem fwVerify_begins {r : Req} {n : Nat} {s : State} (h : mailboxOpen s r.slot = true) (hn : n ≤ 1) (hst : s.boot.staging = none)
    (hv : n ∉ s.boot.verifying) :
    Defers (.fwVerify r n) r.slot s { s with boot := { s.boot with verifying := s.boot.verifying ++ [n] } } (.fwVerify n) := by
  have hboot : (accept s r 0x0C02).boot = s.boot := rfl
  refine defers_of_body (accept s r 0x0C02).params rfl h (by simp) ?_ (accept_params s r _) rfl
  rw [bodyFwVerify, if_neg (by omega), if_neg (by simp [hboot, hst]), if_neg (by simpa [hboot] using hv)]
  rfl

/-- The state as a verification ends, before its verdict. -/
def verifyTaken (rest : List Nat) (s : State) : State := { s with boot := { s.boot with verifying := rest } }

theorem setFwSlot_verifying (s : State) (n : Nat) (x : FwSlot) : (setFwSlot s n x).boot.verifying = s.boot.verifying := by
  unfold setFwSlot; split <;> rfl

theorem slotFails_boot (s : State) (n : Nat) (v : Verdict) :
    (slotFails s n v).boot = (setFwSlot s n { fwSlotOf s n with verified := false }).boot := by
  unfold slotFails
  dsimp only
  split
  · rw [authFails, detect_eq]
  · rfl

theorem fwVerifyDone_ends {n : Nat} {rest : List Nat} {s : State} (hv : s.boot.verifying = n :: rest) :
    ∃ t, exec .fwVerifyDone s = .next t ∧ t.boot.verifying = rest ∧ (fwSlotOf t n).image = (fwSlotOf s n).image ∧
      ((fwSlotOf t n).verified = true ↔ verdict s (fwSlotOf s n).image true = .pass) ∧
      (verdict s (fwSlotOf s n).image true = .auth → ({ raiseBlank 114 with ins := n } : Raise) ∈ t.col.detected) := by
  have hverdict : verdict (verifyTaken rest s) (fwSlotOf (verifyTaken rest s) n).image true = verdict s (fwSlotOf s n).image true := rfl
  have hexec : execFwVerifyDone s = (match verdict s (fwSlotOf s n).image true with
      | .pass => .next (complete (slotPasses (verifyTaken rest s) n) (.fwVerify n)
          (okWith (leBytes 4 (fwVersion (fwSlotOf s n)) ++ leBytes 4 (imgRollback (fwSlotOf s n).image))))
      | .auth => .next (complete (slotFails (verifyTaken rest s) n .auth) (.fwVerify n) (statusOnly stAuthFail))
      | .devRev => .next (complete (slotFails (verifyTaken rest s) n .devRev) (.fwVerify n) (badHeader 496))) := by
    rw [execFwVerifyDone, hv]
    rfl
  have hslot : ∀ (v : Bool) (t : State), t.boot = (setFwSlot (verifyTaken rest s) n { fwSlotOf s n with verified := v }).boot →
      t.boot.verifying = rest ∧ (fwSlotOf t n).image = (fwSlotOf s n).image ∧ (fwSlotOf t n).verified = v := by
    intro v t ht
    refine ⟨by rw [ht, setFwSlot_verifying]; rfl, ?_, ?_⟩ <;> rw [fwSlotOf_congr ht, fwSlotOf_setFwSlot_same]
  cases hver : verdict s (fwSlotOf s n).image true with
  | pass =>
    simp only [hver] at hexec
    obtain ⟨h1, h2, h3⟩ := hslot true _ ((complete_boot _ _ _).trans (clearLive_boot _ 114))
    exact ⟨_, hexec, h1, h2, ⟨fun _ => rfl, fun _ => h3⟩, by simp⟩
  | auth =>
    simp only [hver] at hexec
    obtain ⟨h1, h2, h3⟩ := hslot false _ ((complete_boot _ _ _).trans (slotFails_boot _ n .auth))
    refine ⟨_, hexec, h1, h2, by simp [h3], fun _ => ?_⟩
    rw [complete_rest]
    exact mem_detected_detect _ _
  | devRev =>
    simp only [hver] at hexec
    obtain ⟨h1, h2, h3⟩ := hslot false _ ((complete_boot _ _ _).trans (slotFails_boot _ n .devRev))
    exact ⟨_, hexec, h1, h2, by simp [h3], by simp⟩

/-! ### FW_ACTIVATE, FW_FALLBACK and FW_ACTIVATION_DONE (20 R426, R427) -/

theorem fwActivate_unverified {r : Req} {n : Nat} {s : State} (h : mailboxOpen s r.slot = true) (hn : n ≤ 1)
    (hdue : s.boot.resetDue = false) (hd : deferredSlots s = []) (hv : (fwSlotOf s n).verified = false) :
    Answers (.fwActivate r n) r.slot s s (statusOnly 0x08) := by
  have hslot : (fwSlotOf (accept s r 0x0C03) n).verified = false := hv
  have hbody : bodyFwActivate r.slot n (accept s r 0x0C03) = reply (accept s r 0x0C03) (statusOnly 0x08) := by
    rw [bodyFwActivate, if_neg (by omega), deferredBut_of_none r.slot (deferredSlots_accept r _ hd)]
    simp only [hslot]
    rfl
  obtain ⟨-, -, hact, -⟩ := boot_of_mailboxOpen h
  refine answers_of_finish h (op := 0x0C03) ?_
  show execFwActivate r n s = _
  rw [execFwActivate, mbxRun_open _ _ _ _ _ _ h (by simp), hbody]
  simp only [reply, post]
  generalize hu : finish (accept s r 0x0C03) r.slot (statusOnly 0x08) = u
  have hboot : u.boot = s.boot := by rw [← hu, finish_rest]; rfl
  rw [activateSettle, if_neg (by simp [hboot, hact]), resetSettle_notDue (by rw [hboot]; exact hdue)]

theorem detect_withBoot (s : State) (b : Boot) (x : Raise) :
    detect { s with boot := b } x = { s with boot := b, col := (detect s x).col } := by
  have hsrc : srcRec { s with boot := b } x.src = srcRec s x.src := rfl
  unfold detect dropQuiet
  rw [hsrc]
  split <;> rfl

theorem fwFallback_restarts {a : Activation} {s : State} (ha : s.boot.activation = some a) (hf : a.fallback = false)
    (hd : a.deadline ≤ nowClk s) : exec .fwFallback s = .next { s with
      boot := { s.boot with activation := some { a with fallback := true } }, col := (detect s (raiseBlank 112)).col } := by
  show execFwFallback s = _
  rw [execFwFallback, ha]
  dsimp only
  rw [if_neg (by simp [hf, hd]), detectSrc, detect_withBoot]

theorem activationEnds_spec (a : Activation) (s : State) :
    activationEnds s a = { s with boot := (activationEnds s a).boot, col := (activationEnds s a).col, params := (activationEnds s a).params } ∧
      (activationEnds s a).boot.activation = none ∧ (activationEnds s a).boot.fwSlot = (if a.fallback then a.before else a.slot) ∧
      (activationEnds s a).boot.activeSlot = (if a.fallback then s.boot.activeSlot else a.slot) ∧
      (activationEnds s a).boot.rollback = (if a.fallback then s.boot.rollback
        else max s.boot.rollback (min 64 (imgRollback (fwSlotOf s a.slot).image))) := by
  unfold activationEnds
  dsimp only
  refine ⟨?_, ?_, ?_, ?_, ?_⟩
  · rw [clearIf, (clearLive_onlyCollector _ 112).rest]
  all_goals
    rw [clearIf, clearLive_boot]
    split <;> rfl

/-- Settles O59: each step of an image's life writes the boot state as stated; rings, answers and sources leave it. -/
theorem firmwareLife : Obligations.FirmwareLife := by
  unfold Obligations.FirmwareLife
  refine ⟨fun r n b s h hn hfree hst hv hready hok hgood => ⟨_, fwStage_begins h hn hfree hst hv hready hok hgood, rfl, ?_, rfl⟩,
    fun n tag im s hst hn => fwStageDone_writes hst hn, fun r n s h hn hst hv => fwVerify_begins h hn hst hv,
    fun n rest s hv _ => fwVerifyDone_ends hv, fun r n s h hn hdue hd hv => ⟨_, fwActivate_begins h hn hdue hd hv, ⟨?_, ?_⟩, ?_⟩,
    fun r n s h hn hdue hd hv => fwActivate_unverified h hn hdue hd hv,
    fun a s ha hf hd => ⟨fwFallback_restarts ha hf hd, detected_detect s _⟩, fun a s ha hgo => ⟨_, ?_, activationEnds_spec a s⟩⟩
  · exact (fwSlotOf_setFwSlot_same s n _).symm ▸ rfl
  · rw [slotOf_writeResponse, if_pos rfl]
  · rw [slotOf_writeResponse, if_pos rfl]
  · rw [writeResponse_eq]
    exact ⟨rfl, rfl, rfl, rfl, rfl⟩
  · show execFwActivationDone s = _
    rw [execFwActivationDone, ha]
    exact if_pos (by simpa using hgo)

end Sys2Proof.Machine
end

section
/-! PROOFS. The journal (18_faults_journal_snags.md): O50. -/

namespace Sys2Proof.Machine

/-! ### What writing in the journal leaves of the collector (18 R387 to R390) -/

/-- Live and sticky bits are the same. -/
structure FlagsKept (s t : State) : Prop where
  live : ∀ n, (srcRec t n).live = (srcRec s n).live
  sticky : ∀ n, (srcRec t n).sticky = (srcRec s n).sticky

/-- An entry moves the store, its frames, the tokens and drops of a source, and may raise JOURNAL_BEHIND; flags, actions, the pin and
the snags stay. -/
structure JournalKept (s t : State) : Prop where
  flags : FlagsKept s t
  col : t.col = { s.col with
    detected := t.col.detected, sources := t.col.sources, store := t.col.store, openSince := t.col.openSince
    closed := t.col.closed, gapNext := t.col.gapNext, behind := t.col.behind }
  waits : ∃ xs, t.col.detected = s.col.detected ++ xs ∧ ∀ x ∈ xs, x = raiseBlank 115

theorem FlagsKept.refl (s : State) : FlagsKept s s := ⟨fun _ => rfl, fun _ => rfl⟩

theorem FlagsKept.after {a b c : State} (k : FlagsKept b c) (h : FlagsKept a b) : FlagsKept a c :=
  ⟨fun n => (k.live n).trans (h.live n), fun n => (k.sticky n).trans (h.sticky n)⟩

theorem FlagsKept.of_sources {s t : State} (h : t.col.sources = s.col.sources) : FlagsKept s t :=
  ⟨fun n => by rw [srcRec, h, srcRec], fun n => by rw [srcRec, h, srcRec]⟩

theorem FlagsKept.foldl {β : Type} {f : State → β → State} (hf : ∀ s b, FlagsKept s (f s b)) (xs : List β) (s : State) :
    FlagsKept s (xs.foldl f s) :=
  List.foldlRecOn (motive := FlagsKept s) xs f (.refl s) fun t ht x _ => (hf t x).after ht

theorem JournalKept.refl (s : State) : JournalKept s s := ⟨.refl s, rfl, [], by simp, by simp⟩

theorem JournalKept.after {a b c : State} (k : JournalKept b c) (h : JournalKept a b) : JournalKept a c := by
  obtain ⟨xs, hxs, h115⟩ := h.waits
  obtain ⟨ys, hys, k115⟩ := k.waits
  refine ⟨k.flags.after h.flags, k.col.trans (by rw [h.col]), xs ++ ys, by rw [hys, hxs, List.append_assoc], fun x hx => ?_⟩
  rcases List.mem_append.mp hx with hx | hx
  · exact h115 x hx
  · exact k115 x hx

theorem JournalKept.ite {c : Prop} [Decidable c] {s a b : State} (h : JournalKept s a) (k : JournalKept s b) :
    JournalKept s (if c then a else b) := by
  split
  · exact h
  · exact k

theorem JournalKept.of_col {s t : State} (h : t.col = s.col) : JournalKept s t :=
  ⟨.of_sources (by rw [h]), by rw [h], [], by simp [h], by simp⟩

theorem flagsKept_setSrcRec (s : State) {src : Nat} {x : Source} (hl : x.live = (srcRec s src).live) (hs : x.sticky = (srcRec s src).sticky) :
    FlagsKept s (setSrcRec s src x) := by
  constructor <;> intro n <;> rw [srcRec_setSrcRec] <;> split
  · next h => rw [hl, h]
  · rfl
  · next h => rw [hs, h]
  · rfl

theorem journalKept_setSrcRec (s : State) {src : Nat} {x : Source} (hl : x.live = (srcRec s src).live) (hs : x.sticky = (srcRec s src).sticky) :
    JournalKept s (setSrcRec s src x) := ⟨flagsKept_setSrcRec s hl hs, rfl, [], by simp [setSrcRec], by simp⟩

theorem flagsKept_quietIn (s : State) (src ticks : Nat) : FlagsKept s (quietIn s src ticks) := flagsKept_setSrcRec s rfl rfl

theorem flagsKept_detect (s : State) (x : Raise) : FlagsKept s (detect s x) := by
  constructor <;> intro n <;> rw [srcRec_detect] <;> split <;> rfl

theorem setBehind_journalKept (s : State) : JournalKept s (setBehind s) := by
  unfold setBehind
  split
  · exact .refl s
  · refine ⟨(flagsKept_detect _ _).after (.of_sources rfl), ?_, [raiseBlank 115], ?_, by simp⟩
    · rw [detectSrc, detect_rest]
    · rw [detectSrc, detected_detect]

theorem closeJournal_journalKept (s : State) : JournalKept s (closeJournal s) := by
  have hclosed : JournalKept s { s with col := { s.col with
      closed := s.col.closed ++ [⟨min 1024 (openEntries s), s.col.gapNext⟩], gapNext := false, openSince := nowClk s } } :=
    ⟨.of_sources rfl, rfl, [], by simp, by simp⟩
  exact .ite hclosed ((setBehind_journalKept _).after hclosed)

theorem makeRoom_journalKept (s : State) : JournalKept s (makeRoom s) := by
  unfold makeRoom
  split
  · exact .refl s
  · exact ⟨.of_sources rfl, rfl, [], by simp [bumpP, setP], by simp⟩

theorem storeEntry_journalKept (s : State) (e : JEntry) : JournalKept s (storeEntry s e) :=
  ⟨.of_sources rfl, rfl, [], by simp [storeEntry, setP], by simp⟩

theorem appendEntry_journalKept (s : State) (e : JEntry) : JournalKept s (appendEntry s e) := by
  have hstore : JournalKept s (storeEntry (if storeFull s then makeRoom s else s) e) :=
    (storeEntry_journalKept _ e).after (.ite (makeRoom_journalKept s) (.refl s))
  rw [appendEntry_eq]
  exact .ite ((closeJournal_journalKept _).after hstore) hstore

theorem writeEntry_journalKept (s : State) (e : JEntry) : JournalKept s (writeEntry s e) :=
  (appendEntry_journalKept _ _).after (journalKept_setSrcRec s rfl rfl)

theorem dropEntry_journalKept (s : State) (src : Nat) : JournalKept s (dropEntry s src) :=
  .after (b := setSrcRec s src { srcRec s src with dropped := min ((srcRec s src).dropped + 1) 0xFFFF }) (.of_col rfl)
    (journalKept_setSrcRec s rfl rfl)

theorem journalEvent_journalKept (s : State) (e : JEntry) (x : Raise) : JournalKept s (journalEvent s e x) := by
  unfold journalEvent
  dsimp only
  split
  · exact (writeEntry_journalKept _ e).after (journalKept_setSrcRec s rfl rfl)
  · exact .ite (dropEntry_journalKept s e.src) (journalKept_setSrcRec s rfl rfl)

/-- With room in the store an entry goes behind those that wait, with the next SEQ. -/
theorem appendEntry_store {s : State} (e : JEntry) (h : storeFull s = false) :
    (appendEntry s e).col.store = s.col.store ++ [{ e with seq := natP s 0x0D 0 jJOURNAL_SEQ }] := by
  have hclose : ∀ u : State, (closeJournal u).col.store = u.col.store := by
    intro u
    unfold closeJournal setBehind detectSrc
    dsimp only
    split
    · rfl
    · split
      · rfl
      · rw [detect_rest]
  rw [appendEntry_eq, if_neg (Bool.eq_false_iff.mp h)]
  dsimp only
  split
  · exact hclose _
  · rfl

theorem appendEntry_seq {s : State} (e : JEntry) (h : storeFull s = false) :
    getP (appendEntry s e) 0x0D 0 jJOURNAL_SEQ = ((natP s 0x0D 0 jJOURNAL_SEQ + 1) % 2 ^ 32 : Nat) := by
  rw [appendEntry_eq, if_neg (Bool.eq_false_iff.mp h)]
  dsimp only
  split
  · rw [getP, closeJournal_params]; exact getP_setP_same s 0x0D 0 jJOURNAL_SEQ _
  · exact getP_setP_same s 0x0D 0 jJOURNAL_SEQ _

theorem canRecord_of_not_full {s : State} (h : storeFull s = false) : canRecord s = true := by simp [canRecord, h]

theorem writeEntry_store {s : State} (e : JEntry) (h : storeFull s = false) : (writeEntry s e).col.store =
    s.col.store ++ [{ e with dropped := (srcRec s e.src).dropped, seq := natP s 0x0D 0 jJOURNAL_SEQ }] :=
  appendEntry_store (s := setSrcRec s e.src { srcRec s e.src with dropped := 0 }) _ h

theorem writeEntry_seq {s : State} (e : JEntry) (h : storeFull s = false) :
    getP (writeEntry s e) 0x0D 0 jJOURNAL_SEQ = ((natP s 0x0D 0 jJOURNAL_SEQ + 1) % 2 ^ 32 : Nat) :=
  appendEntry_seq (s := setSrcRec s e.src { srcRec s e.src with dropped := 0 }) _ h

/-! ### The journal (18 R377, R387 to R389): O50 -/

/-- An item of a source's severity is none of the journal's counts. -/
theorem severity_not_mem_journalCounts (src : Nat) : objId 0x0D 0 (jSEVERITY + src) ∉ journalCounts := by
  simp only [journalCounts, List.mem_cons, List.not_mem_nil, or_false, objId, jSEVERITY, jJOURNAL_SEQ, jJOURNAL_OVERWRITTEN, jLOG_DROPPED]
  omega

/-- What FAULT_SEVERITY makes of the items before it writes its entry. -/
def severitySet (src sev : Nat) (s : State) : State :=
  { setP s 0x0D 0 (jSEVERITY + src) sev with staged := kput noStage s.staged (objId 0x0D 0 (jSEVERITY + src)) none }

/-- The SEVERITY entry. -/
def severityEntry (src sev : Nat) (s : State) : JEntry :=
  { entryOf s .severity (fclkTs s) (raiseBlank src) sev with live := isLive s src, action := actionSeverity s }

theorem bodyFaultSeverity_sets {src sev : Nat} {s : State} (hsrc : sourceExists src = true) (hsev : sev ≤ 5) (hroom : storeFull s = false) :
    bodyFaultSeverity src sev s =
      (writeEntry (severitySet src sev s) (severityEntry src sev (severitySet src sev s)), .final okBare) := by
  rw [bodyFaultSeverity, if_neg (by simp [hsrc]), if_neg (by omega), if_neg (by simp [canRecord_of_not_full hroom])]
  rfl

theorem faultSeverity_sets {r : Req} {src sev : Nat} {s : State} (hopen : mailboxOpen s r.slot = true) (hsrc : sourceExists src = true)
    (hsev : sev ≤ 5) (hroom : storeFull s = false) :
    ∃ t e, exec (.faultSeverity r src sev) s = .next t ∧ answered t r.slot okBare ∧
      getP t 0x0D 0 (jSEVERITY + src) = sev ∧ stagedOf t (objId 0x0D 0 (jSEVERITY + src)) = none ∧
      t.col.store = s.col.store ++ [e] ∧ e.kind = .severity ∧ e.src = src ∧ e.severity = sev ∧ e.seq = natP s 0x0D 0 jJOURNAL_SEQ ∧
      getP t 0x0D 0 jJOURNAL_SEQ = ((natP s 0x0D 0 jJOURNAL_SEQ + 1) % 2 ^ 32 : Nat) ∧ t.col.actions = s.col.actions := by
  have hsnags := snags_of_mailboxOpen hopen
  have hseq : natP (severitySet src sev (accept s r 0x0D03)) 0x0D 0 jJOURNAL_SEQ = natP s 0x0D 0 jJOURNAL_SEQ := by
    have hne : objId 0x0D 0 (jSEVERITY + src) ≠ objId 0x0D 0 jJOURNAL_SEQ := by
      simp only [objId, jSEVERITY, jJOURNAL_SEQ]; omega
    rw [natP, natP, ← getP_accept s r 0x0D03 0 jJOURNAL_SEQ (by decide)]
    exact congrArg Int.toNat ((getP_setP (accept s r 0x0D03) 0x0D 0 (jSEVERITY + src) 0x0D 0 jJOURNAL_SEQ sev).trans (if_neg hne))
  have hbody := bodyFaultSeverity_sets (s := accept s r 0x0D03) hsrc hsev hroom
  generalize hu : severitySet src sev (accept s r 0x0D03) = u at hbody hseq
  have hufull : storeFull u = false := by rw [← hu]; exact hroom
  have hkept := writeEntry_journalKept u (severityEntry src sev u)
  have hwsnags : (writeEntry u (severityEntry src sev u)).col.snags = [] := by rw [hkept.col, ← hu]; exact hsnags
  have hexec : exec (.faultSeverity r src sev) s =
      .next (post (writeEntry u (severityEntry src sev u)) r.slot (.final okBare)) := by
    show execFaultSeverity r src sev s = _
    rw [execFaultSeverity, mbxRun_open _ _ _ _ _ _ hopen (by simp), hbody]
  obtain ⟨hphase, hreply, hparams, hstaged⟩ := post_final (a := okBare) r.slot hwsnags
  have hcol : (post (writeEntry u (severityEntry src sev u)) r.slot (.final okBare)).col = (writeEntry u (severityEntry src sev u)).col := by
    rw [post_rest]
  refine ⟨_, { severityEntry src sev u with dropped := (srcRec u src).dropped, seq := natP u 0x0D 0 jJOURNAL_SEQ }, hexec, ⟨hphase, hreply⟩, ?_, ?_, ?_, rfl, rfl, rfl, hseq, ?_, ?_⟩
  · rw [getP, hparams, writeEntry_itemsBut u _ _ (severity_not_mem_journalCounts src), ← hu]
    exact getP_setP_same (accept s r 0x0D03) 0x0D 0 (jSEVERITY + src) sev
  · rw [stagedOf, hstaged, (writeEntry_onlyCollector u _).staged, ← hu]
    exact kget_kput_same noStage s.staged _ none
  · rw [hcol, writeEntry_store _ hufull, ← hu]; rfl
  · rw [getP, hparams, ← hseq]; exact writeEntry_seq _ hufull
  · rw [hcol, hkept.col, ← hu]; rfl

theorem journalFrameClose_closes {s : State} (h : 1024 ≤ openEntries s ∨ (0 < openEntries s ∧ s.col.openSince + 12500000 ≤ nowClk s)) :
    ∃ t, exec .journalFrameClose s = .next t ∧ t = { s with col := t.col } ∧
      t.col.closed = s.col.closed ++ [⟨min 1024 (openEntries s), s.col.gapNext⟩] ∧ t.col.store = s.col.store := by
  have hdue : execJournalFrameClose s = .next (closeJournal s) := if_pos (by simpa [msTicks] using h)
  refine ⟨_, hdue, ?_⟩
  unfold closeJournal setBehind detectSrc
  dsimp only
  split
  · exact ⟨rfl, rfl, rfl⟩
  · split
    · exact ⟨rfl, rfl, rfl⟩
    · rw [detect_rest]
      exact ⟨rfl, rfl, rfl⟩

theorem journalSummaryTick_idle {s : State} (ht : s.time.ticks % 12500000 = 0) (h : ∀ p ∈ s.col.sources, p.2.coal = none) :
    exec .journalSummaryTick s = .next s := by
  have hnone : s.col.sources.filterMap (fun p => p.2.coal.map (fun c => (p.1, c))) = [] :=
    List.filterMap_eq_nil_iff.mpr fun p hp => by rw [h p hp]; rfl
  show execJournalSummaryTick s = _
  rw [execJournalSummaryTick, if_pos ht, writeSummaries, hnone, List.foldl_nil]

/-- A fold that writes at each listed key what a function of the key gives leaves that at every key whose blank the function gives. -/
theorem kget_foldl_kput {α β : Type} [DecidableEq α] {d : Nat → α} {f : Nat → α} (ps : List (Nat × β)) (m : KMap α) (n : Nat) :
    kget d (ps.foldl (fun m p => kput d m p.1 (f p.1)) m) n = if ∃ p ∈ ps, p.1 = n then f n else kget d m n := by
  induction ps generalizing m with
  | nil => simp
  | cons p ps ih =>
    rw [List.foldl_cons, ih, kget_kput]
    by_cases hp : p.1 = n
    · simp [hp]
    · simp only [hp, if_false, List.exists_mem_cons_iff, false_or]

theorem kget_of_not_listed {α : Type} {d : Nat → α} {m : KMap α} {n : Nat} (h : ¬ ∃ p ∈ m, p.1 = n) : kget d m n = d n := by
  induction m with
  | nil => rfl
  | cons p m ih =>
    rw [kget, if_neg (fun hp => h ⟨p, by simp, hp⟩)]
    exact ih fun ⟨q, hq, hn⟩ => h ⟨q, by simp [hq], hn⟩

theorem tokenRefill_refills {s : State} (hlock : s.boot.rootLocked = true) (hdue : s.col.tokenAt ≤ nowClk s) :
    ∃ t, exec .tokenRefill s = .next t ∧
      t = { s with col := { s.col with tokenAt := s.col.tokenAt + 78125, sources := t.col.sources } } ∧
      ∀ n, srcRec t n = { srcRec s n with tokens := min 16 ((srcRec s n).tokens + 1) } := by
  refine ⟨refillTokens s, if_pos (by simp [hlock, hdue]), rfl, fun n => ?_⟩
  refine (kget_foldl_kput (f := fun n => { srcRec s n with tokens := min 16 ((srcRec s n).tokens + 1) }) _ _ n).trans ?_
  split
  · rfl
  · next h =>
    have hblank : srcRec s n = sourceBlank n := kget_of_not_listed h
    exact hblank.trans (by rw [hblank]; rfl)

theorem actionWindowEnd_ends {s : State} (h : ∃ a ∈ s.col.actions, a.running = true ∧ a.windowEnd ≤ nowClk s) :
    ∃ t, exec .actionWindowEnd s = .next t ∧ t = { s with col := { s.col with actions := t.col.actions } } ∧
      ∀ a ∈ t.col.actions, a.running = true → nowClk s < a.windowEnd := by
  refine ⟨endWindow s, if_pos (by simpa using h), rfl, fun a ha hrun => ?_⟩
  obtain ⟨b, -, rfl⟩ := List.mem_map.mp (List.mem_filter.mp ha).1
  split at hrun
  · simp at hrun
  · next hb =>
    rw [if_neg hb]
    simp only [hrun, Bool.true_and, decide_eq_true_eq] at hb
    omega

/-- Settles O50: entries go behind those that wait; frames, buckets and windows move as their own events say. -/
theorem journal : Obligations.Journal := by
  unfold Obligations.Journal
  exact ⟨fun r src sev s hopen hsrc hsev hroom => faultSeverity_sets hopen hsrc hsev hroom, fun s h => journalFrameClose_closes h,
    fun s ht h => journalSummaryTick_idle ht h, fun s hlock hdue => tokenRefill_refills hlock hdue, fun s h => actionWindowEnd_ends h⟩

end Sys2Proof.Machine
end

section
/-! PROOFS. Registration, FAULT_CLEAR and the quiet time (18_faults_journal_snags.md): O48. -/

namespace Sys2Proof.Machine

/-! ### Raises in the order of their sources (18 R382) -/

theorem insertRaise_perm (x : Raise) (ys : List Raise) : (insertRaise x ys).Perm (x :: ys) := by
  induction ys with
  | nil => exact .refl _
  | cons y ys ih =>
    rw [insertRaise]
    split
    · exact .refl _
    · exact (ih.cons y).trans (.swap x y ys)

theorem mem_sortRaises {xs : List Raise} {x : Raise} : x ∈ sortRaises xs ↔ x ∈ xs := by
  suffices h : ∀ acc : List Raise, x ∈ xs.foldl (fun a y => insertRaise y a) acc ↔ x ∈ xs ∨ x ∈ acc by
    simpa [sortRaises] using h []
  induction xs with
  | nil => simp
  | cons y ys ih =>
    intro acc
    rw [List.foldl_cons, ih, (insertRaise_perm y acc).mem_iff]
    simp only [List.mem_cons]
    tauto

/-! ### Registration (18 R379 to R383) -/

theorem live_setLive (s : State) (ts : Nat) (x : Raise) (n : Nat) :
    (srcRec (setLive s ts x) n).live = (decide (x.src = n) || (srcRec s n).live) ∧
    (srcRec (setLive s ts x) n).sticky = (decide (x.src = n) || (srcRec s n).sticky) := by
  unfold setLive
  dsimp only
  split
  · next hl =>
    rw [srcRec_setSrcRec]
    by_cases h : x.src = n
    · subst h; simp [hl]
    · simp [h]
  · rw [srcRec_setSrcRec]
    by_cases h : x.src = n
    · simp [h]
    · simp [h]

/-- Every raise of the cycle makes its source live and sticky. -/
def setAllLive (ts : Nat) (xs : List Raise) (s : State) : State := xs.foldl (fun s x => setLive s ts x) s

theorem flags_setAllLive (ts : Nat) (xs : List Raise) (s : State) (n : Nat) :
    (srcRec (setAllLive ts xs s) n).live = (xs.any (fun x => decide (x.src = n)) || (srcRec s n).live) ∧
    (srcRec (setAllLive ts xs s) n).sticky = (xs.any (fun x => decide (x.src = n)) || (srcRec s n).sticky) := by
  induction xs generalizing s with
  | nil => simp [setAllLive]
  | cons x xs ih =>
    obtain ⟨hl, hs⟩ := ih (setLive s ts x)
    obtain ⟨kl, ks⟩ := live_setLive s ts x n
    rw [kl] at hl
    rw [ks] at hs
    refine ⟨hl.trans ?_, hs.trans ?_⟩ <;> simp only [List.any_cons, Bool.or_left_comm, Bool.or_assoc]

theorem setAllLive_rest (ts : Nat) (xs : List Raise) (s : State) :
    setAllLive ts xs s = { s with col := { s.col with sources := (setAllLive ts xs s).col.sources } } := by
  refine List.foldlRecOn (motive := fun t : State => t = { s with col := { s.col with sources := t.col.sources } }) xs _ rfl
    fun t ht x _ => ?_
  unfold setLive
  dsimp only
  split <;> (rw [ht]; rfl)

/-- An action starts or grows; REPAIRS may count. -/
theorem startAction_rest (s : State) (xs : List Raise) : (startAction s xs).1 =
    { s with params := (startAction s xs).1.params, col := { s.col with actions := (startAction s xs).1.col.actions } } ∧
      itemsBut [objId 0x0D 0 jREPAIRS] s (startAction s xs).1 := by
  have hbump : ∀ u : State, itemsBut [objId 0x0D 0 jREPAIRS] u (bumpP u 0x0D 0 jREPAIRS) := fun u => bumpP_itemsBut u (by simp)
  unfold startAction
  dsimp only
  split
  · split
    · split
      · exact ⟨rfl, hbump _⟩
      · exact ⟨rfl, itemsBut_of_params_eq rfl⟩
    · split
      · exact ⟨rfl, hbump _⟩
      · exact ⟨rfl, itemsBut_of_params_eq rfl⟩
  · split
    · exact ⟨rfl, hbump _⟩
    · exact ⟨rfl, itemsBut_of_params_eq rfl⟩

/-- The RAISE entries of a cycle. -/
def raiseEntries (ts : Nat) (same merged : Bool) (newly xs : List Raise) (s : State) : State :=
  xs.foldl (fun s x => raiseEntry s ts same (merged && newly.any (fun y => y.src = x.src)) x) s

theorem raiseEntries_keeps (ts : Nat) (same merged : Bool) (newly xs : List Raise) (s : State) :
    JournalKept s (raiseEntries ts same merged newly xs s) ∧ OnlyCollector s (raiseEntries ts same merged newly xs s) ∧
      itemsBut journalCounts s (raiseEntries ts same merged newly xs s) :=
  List.foldlRecOn (motive := fun t => JournalKept s t ∧ OnlyCollector s t ∧ itemsBut journalCounts s t) xs _
    ⟨.refl s, .refl s, itemsBut_refl _ s⟩ fun _ ⟨h1, h2, h3⟩ _ _ =>
      ⟨(journalEvent_journalKept _ _ _).after h1, (journalEvent_onlyCollector _ _ _).after h2,
        itemsBut_trans h3 (journalEvent_itemsBut _ _ _)⟩

/-- The raises of a cycle, in order. -/
def cycleRaises (s : State) : List Raise := sortRaises (s.col.detected.filter (fun x => sourceExists x.src))

/-- The cycle takes what waits. -/
def raisesTaken (s : State) : State := { s with col := { s.col with detected := [], regAt := some (fclkNow s) } }

/-- The raises are counted and their sources live. -/
def raisesLive (s : State) : State :=
  setAllLive (fclkTs s) (cycleRaises s) (addP (raisesTaken s) 0x0D 0 jRAISES (cycleRaises s).length)

/-- The sources newly live have started an action, or joined one. -/
def raisesActed (s : State) : State × Bool :=
  if (newlyLive s (cycleRaises s)).isEmpty then (raisesLive s, false) else startAction (raisesLive s) (newlyLive s (cycleRaises s))

/-- The entries are written. -/
def raisesWritten (s : State) : State :=
  raiseEntries (fclkTs s) (decide (1 < (cycleRaises s).length)) (raisesActed s).2 (newlyLive s (cycleRaises s)) (cycleRaises s)
    (raisesActed s).1

/-- The highest severity of the sources newly live. -/
def raisesTop (s : State) : Nat :=
  maxN ((newlyLive s (cycleRaises s)).map (fun x => severityFor (raisesWritten s) x.src x.ins))

/-- The fault vector's message goes out. -/
def raisesTold (s : State) : State :=
  if !(newlyLive s (cycleRaises s)).isEmpty && 1 ≤ raisesTop s then raiseVector (raisesWritten s) (raisesWritten s).link.faultVector
  else raisesWritten s

theorem registerRaises_eq {s : State} (h : cycleRaises s ≠ []) : registerRaises s =
    if !(newlyLive s (cycleRaises s)).isEmpty && natP (raisesTold s) 0x0D 0 jFAULT_N_SEV ≤ raisesTop s then pulseFaultN (raisesTold s)
    else raisesTold s := by
  have hne : (cycleRaises s).isEmpty = false := by simpa using h
  unfold registerRaises
  rw [show sortRaises (s.col.detected.filter (fun x => sourceExists x.src)) = cycleRaises s from rfl]
  simp only [hne]
  rfl

theorem registerRaises_none {s : State} (h : cycleRaises s = []) : registerRaises s = { s with col := { s.col with detected := [] } } := by
  unfold registerRaises
  rw [show sortRaises (s.col.detected.filter (fun x => sourceExists x.src)) = cycleRaises s from rfl, h]
  rfl

theorem raisesTaken_flags (s : State) : FlagsKept s (addP (raisesTaken s) 0x0D 0 jRAISES (cycleRaises s).length) := .of_sources rfl

theorem raisesActed_flags (s : State) : FlagsKept (raisesLive s) (raisesActed s).1 := by
  unfold raisesActed
  split
  · exact .refl _
  · exact .of_sources (by rw [(startAction_rest _ _).1])

theorem raisesWritten_keeps (s : State) : JournalKept (raisesActed s).1 (raisesWritten s) ∧ OnlyCollector (raisesActed s).1 (raisesWritten s) ∧
    itemsBut journalCounts (raisesActed s).1 (raisesWritten s) := raiseEntries_keeps _ _ _ _ _ _

theorem raisesTold_col (s : State) : (raisesTold s).col = (raisesWritten s).col := by
  unfold raisesTold
  split
  · rw [raiseVector_rest]
  · rfl

theorem registerRaises_flagsKept {s : State} (h : cycleRaises s ≠ []) : FlagsKept (raisesLive s) (registerRaises s) := by
  have htold : FlagsKept (raisesLive s) (raisesTold s) :=
    (FlagsKept.of_sources (congrArg Collector.sources (raisesTold_col s))).after ((raisesWritten_keeps s).1.flags.after (raisesActed_flags s))
  rw [registerRaises_eq h]
  split
  · exact .after (b := raisesTold s) (.of_sources rfl) htold
  · exact htold

/-- A registered source is live and sticky; every other is as it was. -/
theorem registerRaises_flags (s : State) (n : Nat) :
    (srcRec (registerRaises s) n).live = ((cycleRaises s).any (fun x => decide (x.src = n)) || (srcRec s n).live) ∧
    (srcRec (registerRaises s) n).sticky = ((cycleRaises s).any (fun x => decide (x.src = n)) || (srcRec s n).sticky) := by
  by_cases h : cycleRaises s = []
  · rw [registerRaises_none h, h]
    exact ⟨rfl, rfl⟩
  · obtain ⟨hl, hs⟩ := flags_setAllLive (fclkTs s) (cycleRaises s) (addP (raisesTaken s) 0x0D 0 jRAISES (cycleRaises s).length) n
    exact ⟨((registerRaises_flagsKept h).live n).trans hl, ((registerRaises_flagsKept h).sticky n).trans hs⟩

theorem raisesLive_detected (s : State) : (raisesLive s).col.detected = [] := by
  rw [raisesLive, setAllLive_rest]
  rfl

theorem raisesActed_detected (s : State) : (raisesActed s).1.col.detected = [] := by
  unfold raisesActed
  split
  · exact raisesLive_detected s
  · rw [(startAction_rest _ _).1]; exact raisesLive_detected s

/-- What waits once a cycle has been registered is JOURNAL_BEHIND. -/
theorem registerRaises_detected {s : State} {x : Raise} (hx : x ∈ (registerRaises s).col.detected) : x.src = 115 := by
  by_cases h : cycleRaises s = []
  · rw [registerRaises_none h] at hx
    simp at hx
  · have hcol : (registerRaises s).col.detected = (raisesWritten s).col.detected := by
      rw [registerRaises_eq h]
      split
      · show (raisesTold s).col.detected = _
        rw [raisesTold_col]
      · rw [raisesTold_col]
    obtain ⟨⟨-, -, xs, hxs, h115⟩, -, -⟩ := raisesWritten_keeps s
    rw [raisesActed_detected, List.nil_append] at hxs
    rw [h115 x (hxs ▸ hcol ▸ hx)]
    rfl

/-- Registration writes items, collector and messages alone. -/
theorem registerRaises_rest (s : State) :
    registerRaises s = { s with params := (registerRaises s).params, col := (registerRaises s).col, link := (registerRaises s).link } := by
  by_cases h : cycleRaises s = []
  · rw [registerRaises_none h]
  · have hlive : raisesLive s = { s with params := (raisesLive s).params, col := (raisesLive s).col } := by
      rw [raisesLive, setAllLive_rest]; rfl
    have hacted : (raisesActed s).1 = { s with params := (raisesActed s).1.params, col := (raisesActed s).1.col } := by
      unfold raisesActed
      split
      · exact hlive
      · rw [(startAction_rest _ _).1, hlive]
    have hwritten : raisesWritten s = { s with params := (raisesWritten s).params, col := (raisesWritten s).col } :=
      (raisesWritten_keeps s).2.1.rest.trans
        (congrArg (fun u : State => { u with params := (raisesWritten s).params, col := (raisesWritten s).col }) hacted)
    have htold : raisesTold s = { s with params := (raisesTold s).params, col := (raisesTold s).col, link := (raisesTold s).link } := by
      unfold raisesTold
      split
      · rw [raiseVector_rest, hwritten]
      · rw [hwritten]
    rw [registerRaises_eq h]
    split
    · rw [pulseFaultN, htold]; rfl
    · exact htold

/-- A raise of a cycle sends loops to their fault level, which is not the collector's part. -/
theorem loopsFault_rest (s : State) : loopsFault s = { s with params := (loopsFault s).params, loops := (loopsFault s).loops } ∧
    ∀ n, getP (loopsFault s) 0x0D 0 n = getP s 0x0D 0 n := by
  refine List.foldlRecOn (motive := fun t : State => t = { s with params := t.params, loops := t.loops } ∧
    ∀ n, getP t 0x0D 0 n = getP s 0x0D 0 n) _ _ ⟨rfl, fun _ => rfl⟩ fun t ⟨ht, hp⟩ m hm => ?_
  split
  · refine ⟨by rw [ht]; rfl, fun n => (?_ : getP (setP t 0x07 m fLOOP_SET _) 0x0D 0 n = _).trans (hp n)⟩
    refine (getP_setP t 0x07 m fLOOP_SET 0x0D 0 n _).trans (if_neg ?_)
    have hm4 : m < 4 := by simp at hm; omega
    simp only [objId, fLOOP_SET]
    omega
  · exact ⟨ht, hp⟩

theorem loopsFault_col (s : State) : (loopsFault s).col = s.col := by rw [(loopsFault_rest s).1]

theorem faultRaise_registers {s : State} (hwait : s.col.detected ≠ []) (hreg : s.col.regAt ≠ some (fclkNow s)) :
    exec .faultRaise s = .next (loopsFault (registerRaises s)) := by
  show execFaultRaise s = _
  rw [execFaultRaise, if_neg (by simp [hwait, hreg])]

theorem mem_cycleRaises {s : State} {x : Raise} : x ∈ cycleRaises s ↔ x ∈ s.col.detected ∧ sourceExists x.src = true := by
  rw [cycleRaises, mem_sortRaises, List.mem_filter]

theorem faultRaise_spec {s : State} (hwait : s.col.detected ≠ []) (hreg : s.col.regAt ≠ some (fclkNow s)) :
    ∃ t, exec .faultRaise s = .next t ∧ (∀ x ∈ t.col.detected, x.src = 115) ∧
    (∀ x ∈ s.col.detected, sourceExists x.src = true → (srcRec t x.src).live = true ∧ (srcRec t x.src).sticky = true) ∧
    (∀ n, (∀ x ∈ s.col.detected, x.src ≠ n) → (srcRec t n).live = (srcRec s n).live ∧ (srcRec t n).sticky = (srcRec s n).sticky) := by
  have hrec : ∀ n, srcRec (loopsFault (registerRaises s)) n = srcRec (registerRaises s) n := fun n => by
    rw [srcRec, loopsFault_col, srcRec]
  refine ⟨_, faultRaise_registers hwait hreg, fun x hx => ?_, fun x hx hex => ?_, fun n hn => ?_⟩
  · rw [loopsFault_col] at hx
    exact registerRaises_detected hx
  · have hany : (cycleRaises s).any (fun y => decide (y.src = x.src)) = true :=
      List.any_eq_true.mpr ⟨x, mem_cycleRaises.mpr ⟨hx, hex⟩, by simp⟩
    obtain ⟨hl, hs⟩ := registerRaises_flags s x.src
    rw [hrec, hl, hs, hany]
    exact ⟨rfl, rfl⟩
  · have hany : (cycleRaises s).any (fun y => decide (y.src = n)) = false :=
      List.any_eq_false.mpr fun y hy => by simpa using hn y (mem_cycleRaises.mp hy).1
    obtain ⟨hl, hs⟩ := registerRaises_flags s n
    rw [hrec, hl, hs, hany]
    exact ⟨rfl, rfl⟩

/-! ### FAULT_CLEAR and the quiet time (15 R334; 18 R381) -/

theorem clearStickyOne_flags (s : State) (src : Nat) (e : JEntry) (n : Nat) :
    (srcRec (writeEntry (setSrcRec s src { srcRec s src with sticky := false }) e) n).live = (srcRec s n).live ∧
    (srcRec (writeEntry (setSrcRec s src { srcRec s src with sticky := false }) e) n).sticky =
      (decide (src ≠ n) && (srcRec s n).sticky) := by
  have hkept := (writeEntry_journalKept (setSrcRec s src { srcRec s src with sticky := false }) e).flags
  rw [hkept.live, hkept.sticky, srcRec_setSrcRec]
  by_cases hn : src = n
  · subst hn; simp
  · simp [hn]

theorem clearSticky_flags {srcs : List Nat} {s : State} (h : ∀ n ∈ srcs, (srcRec s n).live = false) (n : Nat) :
    (srcRec (clearSticky s srcs) n).live = (srcRec s n).live ∧
    (srcRec (clearSticky s srcs) n).sticky = (!srcs.contains n && (srcRec s n).sticky) := by
  induction srcs generalizing s with
  | nil => simp [clearSticky]
  | cons i srcs ih =>
    have hi : (srcRec s i).live = false := h i (by simp)
    rw [clearSticky, List.foldl_cons]
    dsimp only
    split
    · next hc =>
      obtain ⟨hl, hs⟩ := ih (s := s) fun m hm => h m (by simp [hm])
      refine ⟨hl, hs.trans ?_⟩
      have hsticky : (srcRec s i).sticky = false := by simpa [hi] using hc
      by_cases hn : n = i
      · subst hn; simp [hsticky]
      · simp [hn]
    · have hone := clearStickyOne_flags s i { entryOf (setSrcRec s i { srcRec s i with sticky := false }) .stickyCleared
          (fclkTs (setSrcRec s i { srcRec s i with sticky := false })) (raiseBlank i)
          (severityFor (setSrcRec s i { srcRec s i with sticky := false }) i 0) with
        action := actionSeverity (setSrcRec s i { srcRec s i with sticky := false }) }
      obtain ⟨hl, hs⟩ := ih fun m hm => ((hone m).1).trans (h m (by simp [hm]))
      refine ⟨hl.trans (hone n).1, hs.trans ?_⟩
      rw [(hone n).2]
      by_cases hn : n = i
      · subst hn; simp
      · simp [hn, Ne.symm hn]

theorem clearSticky_onlyCollector (srcs : List Nat) (s : State) : OnlyCollector s (clearSticky s srcs) := by
  refine List.foldlRecOn (motive := OnlyCollector s) srcs _ (.refl s) fun t ht n _ => ?_
  dsimp only
  split
  · exact ht
  · exact (writeEntry_onlyCollector _ _).after ((setSrcRec_onlyCollector t n _).after ht)

/-- The sum of the powers of two of the numbers that a test keeps has exactly their bits. -/
theorem testBit_sum_pow (f : Nat → Bool) (k n : Nat) :
    (sumN (((List.range k).filter f).map (fun i => 2 ^ i))).testBit n = (decide (n < k) && f n) := by
  rw [sumN_eq_sum]
  suffices h : (((List.range k).filter f).map (fun i => 2 ^ i)).sum < 2 ^ k ∧
      (((List.range k).filter f).map (fun i => 2 ^ i)).sum.testBit n = (decide (n < k) && f n) from h.2
  induction k with
  | zero => simp
  | succ k ih =>
    obtain ⟨hlt, hbit⟩ := ih
    rw [List.range_succ, List.filter_append, List.map_append, List.sum_append]
    generalize (((List.range k).filter f).map (fun i => 2 ^ i)).sum = a at hlt hbit ⊢
    cases hf : f k with
    | false =>
      simp only [List.filter_cons, hf, List.filter_nil, Bool.false_eq_true, if_false, List.map_nil, List.sum_nil, Nat.add_zero]
      refine ⟨by rw [Nat.pow_succ]; omega, hbit.trans ?_⟩
      by_cases hn : n = k
      · subst hn; simp [hf]
      · congr 1; simp only [decide_eq_decide]; omega
    | true =>
      simp only [List.filter_cons, hf, List.filter_nil, if_true, List.map_cons, List.map_nil, List.sum_cons, List.sum_nil, Nat.add_zero]
      refine ⟨by rw [Nat.pow_succ]; omega, ?_⟩
      rw [Nat.add_comm]
      rcases Nat.lt_trichotomy n k with hn | rfl | hn
      · rw [Nat.testBit_two_pow_add_gt hn, hbit]; simp [hn, Nat.lt_succ_of_lt hn]
      · rw [Nat.testBit_two_pow_add_eq, hbit]; simp [hf]
      · rw [Nat.testBit_lt_two_pow]
        · simp; omega
        · calc 2 ^ k + a < 2 ^ k + 2 ^ k := by omega
            _ = 2 ^ (k + 1) := by rw [Nat.pow_succ]; omega
            _ ≤ 2 ^ n := Nat.pow_le_pow_right (by decide) hn

theorem pairRecover_rest (s : State) : pairRecover s = { s with pair := (pairRecover s).pair } := by
  unfold pairRecover
  split
  · rfl
  · rfl

/-- What FAULT_CLEAR takes: the named sources that are neither live nor won by a raise, and sticky. -/
def clearable (mask : Nat) (s : State) : List Nat :=
  (maskSources mask).filter (fun i => !isLive s i && !raiseWins s i && (srcRec s i).sticky)

/-- STILL_SET of FAULT_CLEAR. -/
def stillSet (mask : Nat) (s : State) : Nat :=
  sumN (((maskSources mask).filter (fun i => isLive s i || raiseWins s i)).map (fun i => 2 ^ i))

/-- The state as FAULT_CLEAR leaves it before its answer. -/
def faultsCleared (mask : Nat) (s : State) : State :=
  pairRecover (modPair (clearSticky s (clearable mask s)) (fun x => { x with faultCleared := decide (x.role = .faulted) }))

theorem faultsCleared_col (mask : Nat) (s : State) : (faultsCleared mask s).col = (clearSticky s (clearable mask s)).col := by
  rw [faultsCleared, pairRecover_rest]
  rfl

theorem canRecordMany_mono {s : State} {m n : Nat} (h : m ≤ n) (hn : canRecordMany s n = true) : canRecordMany s m = true := by
  simp only [canRecordMany, decide_eq_true_eq] at hn ⊢
  omega

theorem clearable_length (mask : Nat) (s : State) : (clearable mask s).length ≤ 128 :=
  (List.length_filter_le _ _).trans ((List.length_filter_le _ _).trans (by simp))

theorem bodyFaultClear_clears {mask : Nat} {s : State} (hroom : canRecordMany s 128 = true) :
    bodyFaultClear mask s = (faultsCleared mask s, .final (okWith (leBytes 16 (stillSet mask s)))) := by
  unfold bodyFaultClear
  dsimp only
  have hgo : canRecordMany s (clearable mask s).length = true := canRecordMany_mono (clearable_length mask s) hroom
  exact if_neg (by rw [← clearable, hgo]; decide)

theorem testBit_stillSet (mask : Nat) (s : State) {n : Nat} (hn : n < 128) : (stillSet mask s).testBit n = true ↔
    mask.testBit n = true ∧ sourceExists n = true ∧ ((srcRec s n).live = true ∨ raiseWins s n = true) := by
  rw [stillSet, maskSources, List.filter_filter, testBit_sum_pow]
  simp only [hn, decide_true, Bool.true_and, Bool.and_eq_true, Bool.or_eq_true, isLive]
  tauto

theorem mem_clearable {mask : Nat} {s : State} {n : Nat} : n ∈ clearable mask s ↔ n < 128 ∧ mask.testBit n = true ∧
    sourceExists n = true ∧ (srcRec s n).live = false ∧ raiseWins s n = false ∧ (srcRec s n).sticky = true := by
  simp only [clearable, maskSources, List.mem_filter, List.mem_range, Bool.and_eq_true, Bool.not_eq_true', isLive]
  tauto

theorem faultClear_clears {r : Req} {mask : Nat} {s : State} (hopen : mailboxOpen s r.slot = true) (hroom : canRecordMany s 128 = true) :
    ∃ t a, exec (.faultClear r mask) s = .next t ∧ answered t r.slot (okWith (leBytes 16 a)) ∧
      (∀ n, n < 128 → (a.testBit n = true ↔ mask.testBit n = true ∧ sourceExists n = true ∧ ((srcRec s n).live = true ∨ raiseWins s n = true))) ∧
      (∀ n, n < 128 → (srcRec t n).live = (srcRec s n).live) ∧
      (∀ n, n < 128 → mask.testBit n = true → sourceExists n = true → (srcRec s n).live = false → raiseWins s n = false →
        (srcRec t n).sticky = false) ∧
      (∀ n, mask.testBit n = false ∨ (srcRec s n).live = true ∨ raiseWins s n = true → (srcRec t n).sticky = (srcRec s n).sticky) := by
  have hsnags := snags_of_mailboxOpen hopen
  have hbody := bodyFaultClear_clears (mask := mask) (s := accept s r 0x0D02) hroom
  have hcol := faultsCleared_col mask (accept s r 0x0D02)
  have hquiet : (faultsCleared mask (accept s r 0x0D02)).col.snags = [] := by
    rw [hcol, (clearSticky_onlyCollector _ _).snags]; exact hsnags
  have hlive : ∀ n ∈ clearable mask (accept s r 0x0D02), (srcRec (accept s r 0x0D02) n).live = false := fun n hn =>
    (mem_clearable.mp hn).2.2.2.1
  have hexec : exec (.faultClear r mask) s = .next (post (faultsCleared mask (accept s r 0x0D02)) r.slot
      (.final (okWith (leBytes 16 (stillSet mask (accept s r 0x0D02)))))) := by
    show execFaultClear r mask s = _
    rw [execFaultClear, mbxRun_open _ _ _ _ _ _ hopen (by simp), hbody]
  obtain ⟨hphase, hreply, -, -⟩ := post_final (a := okWith (leBytes 16 (stillSet mask (accept s r 0x0D02)))) r.slot hquiet
  have hrec : ∀ n, srcRec (post (faultsCleared mask (accept s r 0x0D02)) r.slot
      (.final (okWith (leBytes 16 (stillSet mask (accept s r 0x0D02)))))) n =
      srcRec (clearSticky (accept s r 0x0D02) (clearable mask (accept s r 0x0D02))) n := fun n => by
    rw [post_rest, srcRec, srcRec, ← hcol]
  refine ⟨_, _, hexec, ⟨hphase, hreply⟩, fun n hn => testBit_stillSet mask _ hn, fun n _ => ?_, fun n hn hm hex hl hw => ?_, fun n hn => ?_⟩
  · rw [hrec, (clearSticky_flags hlive n).1]; rfl
  · rw [hrec, (clearSticky_flags hlive n).2]
    cases hs : (srcRec (accept s r 0x0D02) n).sticky with
    | false => simp
    | true =>
      have hmem : n ∈ clearable mask (accept s r 0x0D02) := mem_clearable.mpr ⟨hn, hm, hex, hl, hw, hs⟩
      simp [hmem]
  · have hmem : n ∉ clearable mask (accept s r 0x0D02) := fun h => by
      obtain ⟨-, hm, -, hl, hw, -⟩ := mem_clearable.mp h
      rcases hn with hn | hn | hn
      · simp [hm] at hn
      · exact absurd (hn.symm.trans hl) (by decide)
      · exact absurd (hn.symm.trans hw) (by decide)
    rw [hrec, (clearSticky_flags hlive n).2]
    simp only [List.contains_eq_mem, hmem, decide_false, Bool.not_false, Bool.true_and]
    rfl

theorem clearLive_flags (s : State) (src n : Nat) :
    (srcRec (clearLive s src) n).live = (decide (src ≠ n) && (srcRec s n).live) ∧
    (srcRec (clearLive s src) n).sticky = (srcRec s n).sticky := by
  unfold clearLive
  dsimp only
  split
  · next h =>
    have hl : (srcRec s src).live = false := by simpa using h
    have hsame : (srcRec s n).live = (decide (src ≠ n) && (srcRec s n).live) := by
      by_cases hn : src = n
      · subst hn; simp [hl]
      · simp [hn]
    split
    · exact ⟨((flagsKept_quietIn s src 0).live n).trans hsame, (flagsKept_quietIn s src 0).sticky n⟩
    · exact ⟨hsame, rfl⟩
  · have hkept := fun e x => (journalEvent_journalKept (uncover (setSrcRec s src { srcRec s src with live := false, quietAt := none }) src) e x).flags
    have hrec : srcRec (uncover (setSrcRec s src { srcRec s src with live := false, quietAt := none }) src) n =
        srcRec (setSrcRec s src { srcRec s src with live := false, quietAt := none }) n := rfl
    rw [(hkept _ _).live, (hkept _ _).sticky, hrec, srcRec_setSrcRec]
    by_cases hn : src = n
    · subst hn; simp
    · simp [hn]

theorem faultQuietTimer_clears {n q : Nat} {s : State} (hq : (srcRec s n).quietAt = some q) (hdue : q ≤ nowClk s)
    (hlive : (srcRec s n).live = true) :
    ∃ t, exec (.faultQuietTimer n) s = .next t ∧ t = { s with col := t.col, params := t.params } ∧ (srcRec t n).live = false ∧
      (srcRec t n).sticky = (srcRec s n).sticky ∧
      ∀ m, m ≠ n → (srcRec t m).live = (srcRec s m).live ∧ (srcRec t m).sticky = (srcRec s m).sticky := by
  have hexec : execFaultQuietTimer n s = .next (clearLive s n) := by
    rw [execFaultQuietTimer, hq]
    exact if_pos (by simp [hlive, hdue])
  refine ⟨_, hexec, (clearLive_onlyCollector s n).rest, ?_, (clearLive_flags s n n).2, fun m hm => ⟨?_, (clearLive_flags s n m).2⟩⟩
  · rw [(clearLive_flags s n n).1]; simp
  · rw [(clearLive_flags s n m).1]; simp [Ne.symm hm]

/-- Settles O48: a cycle registers what waits; FAULT_CLEAR and the quiet time clear the one bit each that they may. -/
theorem liveAndSticky : Obligations.LiveAndSticky := by
  unfold Obligations.LiveAndSticky
  refine ⟨fun s h => ?_, fun s hwait hreg => faultRaise_spec hwait hreg, fun r mask s hopen hroom => faultClear_clears hopen hroom,
    fun n q s hq hdue hlive => faultQuietTimer_clears hq hdue hlive⟩
  show execFaultRaise s = _
  rw [execFaultRaise, if_pos (by simp [h])]

end Sys2Proof.Machine
end

section
/-! PROOFS. The FAULT_N pin (18_faults_journal_snags.md): O49. -/

namespace Sys2Proof.Machine

/-! ### One raise that pulses FAULT_N (18 R385) -/

/-- The counts that registration moves beside FAULT_N_PULSES. -/
def raiseCounts : List Nat := [objId 0x0D 0 jRAISES, objId 0x0D 0 jREPAIRS] ++ journalCounts

theorem raisesLive_params (s : State) : (raisesLive s).params = (addP s 0x0D 0 jRAISES (cycleRaises s).length).params := by
  rw [raisesLive, setAllLive_rest]
  rfl

theorem itemsBut_mono {os ps : List Nat} {s t : State} (h : itemsBut os s t) (hsub : os ⊆ ps) : itemsBut ps s t :=
  fun o ho => h o fun hm => ho (hsub hm)

theorem raisesActed_itemsBut (s : State) : itemsBut [objId 0x0D 0 jREPAIRS] (raisesLive s) (raisesActed s).1 := by
  unfold raisesActed
  split
  · exact itemsBut_refl _ _
  · exact (startAction_rest _ _).2

theorem raisesTold_params (s : State) : (raisesTold s).params = (raisesWritten s).params := by
  unfold raisesTold
  split
  · rw [raiseVector_rest]
  · rfl

theorem raisesTold_itemsBut (s : State) : itemsBut (objId 0x0D 0 jREPAIRS :: journalCounts) (raisesLive s) (raisesTold s) := by
  have hacted := itemsBut_mono (raisesActed_itemsBut s) (ps := objId 0x0D 0 jREPAIRS :: journalCounts) (by simp)
  have hwritten := itemsBut_mono (raisesWritten_keeps s).2.2 (ps := objId 0x0D 0 jREPAIRS :: journalCounts) (by simp)
  exact itemsBut_trans (itemsBut_trans hacted hwritten) (itemsBut_of_params_eq (raisesTold_params s))

theorem raisesTold_getP {s : State} {n : Nat} (h : objId 0x0D 0 n ∉ raiseCounts) : getP (raisesTold s) 0x0D 0 n = getP s 0x0D 0 n := by
  simp only [raiseCounts, List.cons_append, List.nil_append, List.mem_cons, not_or] at h
  obtain ⟨hr, hrep, hj⟩ := h
  refine (raisesTold_itemsBut s _ (by simp only [List.mem_cons, not_or]; exact ⟨hrep, hj⟩)).trans ?_
  rw [raisesLive_params]
  exact kget_kput_ne paramReset _ _ (Ne.symm hr)

theorem raisesTold_raises (s : State) : getP (raisesTold s) 0x0D 0 jRAISES = add32 (getP s 0x0D 0 jRAISES) (cycleRaises s).length := by
  refine (raisesTold_itemsBut s _ (by decide)).trans ?_
  rw [raisesLive_params]
  exact getP_setP_same s 0x0D 0 jRAISES _

theorem raisesWritten_severityFor (s : State) (src ins : Nat) :
    severityFor (raisesWritten s) src ins = severityFor s src ins := by
  have hitem : objId 0x0D 0 (jSEVERITY + src) ∉ raiseCounts := by
    simp only [raiseCounts, journalCounts, List.mem_append, List.mem_cons, List.not_mem_nil, or_false, objId, jSEVERITY, jRAISES, jREPAIRS,
      jJOURNAL_SEQ, jJOURNAL_OVERWRITTEN, jLOG_DROPPED]
    omega
  have hget : getP (raisesWritten s) 0x0D 0 (jSEVERITY + src) = getP s 0x0D 0 (jSEVERITY + src) := by
    refine Eq.trans ?_ (raisesTold_getP hitem)
    rw [getP, getP, raisesTold_params]
  rw [severityFor, severityFor, natP, natP, hget]

section OneRaise
variable {x : Raise} {s : State} (hone : s.col.detected = [x]) (hex : sourceExists x.src = true)
include hone hex

theorem cycleRaises_one : cycleRaises s = [x] := by
  rw [cycleRaises, hone]
  simp [hex, sortRaises, insertRaise]

theorem newlyLive_one (hlive : isLive s x.src = false) : newlyLive s (cycleRaises s) = [x] := by
  rw [cycleRaises_one hone hex]
  simp [newlyLive, hlive]

theorem raisesTop_one (hlive : isLive s x.src = false) : raisesTop s = severityFor s x.src x.ins := by
  rw [raisesTop, newlyLive_one hone hex hlive]
  simp [maxN, raisesWritten_severityFor s x.src x.ins]

theorem registerRaises_pulses (hlive : isLive s x.src = false) (hsev : natP s 0x0D 0 jFAULT_N_SEV ≤ severityFor s x.src x.ins) :
    registerRaises s = pulseFaultN (raisesTold s) := by
  have hthreshold : natP (raisesTold s) 0x0D 0 jFAULT_N_SEV = natP s 0x0D 0 jFAULT_N_SEV := by
    rw [natP, raisesTold_getP (by decide), natP]
  rw [registerRaises_eq (by rw [cycleRaises_one hone hex]; simp), newlyLive_one hone hex hlive, hthreshold, raisesTop_one hone hex hlive]
  simp [hsev]

end OneRaise

theorem faultRaise_pulses {x : Raise} {s : State} (hone : s.col.detected = [x]) (hreg : s.col.regAt ≠ some (fclkNow s))
    (hex : sourceExists x.src = true) (hlive : isLive s x.src = false)
    (hsev : natP s 0x0D 0 jFAULT_N_SEV ≤ severityFor s x.src x.ins) : ∃ t, exec .faultRaise s = .next t ∧
      t.col.pinLow = true ∧ t.col.raisedSince = true ∧
      t.col.pulseEnd = some (nowClk s + natP s 0x0D 0 jFAULT_N_PULSE * 1250) ∧
      getP t 0x0D 0 jFAULT_N_PULSES = inc32 (getP s 0x0D 0 jFAULT_N_PULSES) ∧
      getP t 0x0D 0 jRAISES = inc32 (getP s 0x0D 0 jRAISES) := by
  have hpulse := registerRaises_pulses hone hex hlive hsev
  have hclk : nowClk (raisesTold s) = nowClk s := by
    have hsclk : (pulseFaultN (raisesTold s)).time.sclk = s.time.sclk := by rw [← hpulse, registerRaises_rest]
    exact hsclk
  refine ⟨_, faultRaise_registers (by rw [hone]; simp) hreg, ?_⟩
  rw [loopsFault_col, (loopsFault_rest _).2, (loopsFault_rest _).2, hpulse]
  refine ⟨rfl, rfl, ?_, ?_, ?_⟩
  · show some (nowClk (raisesTold s) + natP (bumpP (raisesTold s) 0x0D 0 jFAULT_N_PULSES) 0x0D 0 jFAULT_N_PULSE * 1250) = _
    rw [hclk, natP, getP_bumpP_ne _ _ _ (by decide), raisesTold_getP (by decide), natP]
  · refine (getP_bumpP_same (raisesTold s) 0x0D 0 jFAULT_N_PULSES).trans ?_
    rw [raisesTold_getP (by decide)]
  · refine (getP_bumpP_ne (raisesTold s) 0x0D 0 (by decide)).trans ?_
    rw [raisesTold_raises, cycleRaises_one hone hex]
    rfl

/-! ### The pulse's end and the host's hold (18 R385, R386) -/

theorem faultNPulseEnd_releases {q : Nat} {s : State} (hq : s.col.pulseEnd = some q) (hdue : q ≤ nowClk s) (hst : s.boot.st = .ready) :
    exec .faultNPulseEnd s = .next { s with col := { s.col with
      pinLow := s.col.hostHolds || !(decide (natP s 0x0D 0 jFAULT_N_AFTER = 0) || s.col.releaseWaits)
      pulseEnd := none, releaseWaits := false } } := by
  show execFaultNPulseEnd s = _
  rw [execFaultNPulseEnd, hq]
  dsimp only
  rw [if_pos hdue, endPulse, hst]
  simp

/-- The collector as FAULT_PIN_RELEASE leaves it, once its entry is written. -/
def pinSet (action : Nat) (waits : Bool) (s : State) (c : Collector) : Collector :=
  if action = 1 then { c with pinLow := true, hostHolds := true, releaseWaits := false }
  else if waits then { c with hostHolds := false, releaseWaits := true }
  else { c with pinLow := decide (s.boot.st ≠ .ready), hostHolds := false }

/-- Does a release wait for the end of a pulse? -/
def pinWaits (action : Nat) (s : State) : Bool := decide (action = 0) && s.col.pulseEnd.isSome

theorem bodyFaultPinRelease_sets {action : Nat} {s : State} (ha : action ≤ 1) (hroom : canRecord s = true) :
    bodyFaultPinRelease action s =
      (let u := appendEntry s (pinEntry s action (pinWaits action s))
       { u with col := pinSet action (pinWaits action s) u u.col }, .final okBare) := by
  rw [bodyFaultPinRelease, if_neg (by omega), if_neg (by simp [hroom])]
  rfl

theorem faultPinRelease_sets {r : Req} {action : Nat} {s : State} (hopen : mailboxOpen s r.slot = true) (ha : action ≤ 1)
    (hroom : canRecord s = true) : ∃ t e, exec (.faultPinRelease r action) s = .next t ∧ answered t r.slot okBare ∧
      (∃ u : State, JournalKept s u ∧ u.boot = s.boot ∧ t.col = pinSet action (pinWaits action s) u u.col) ∧
      (storeFull s = false → t.col.store = s.col.store ++ [e]) ∧ e.kind = .pin ∧ e.src = 0xFF ∧ e.seq = natP s 0x0D 0 jJOURNAL_SEQ := by
  have hsnags := snags_of_mailboxOpen hopen
  have hbody := bodyFaultPinRelease_sets (s := accept s r 0x0D05) ha hroom
  have hkept := appendEntry_journalKept (accept s r 0x0D05) (pinEntry (accept s r 0x0D05) action (pinWaits action s))
  have hboot : (appendEntry (accept s r 0x0D05) (pinEntry (accept s r 0x0D05) action (pinWaits action s))).boot = s.boot := by
    rw [(appendEntry_onlyCollector _ _).rest]; rfl
  have hstore := fun h => appendEntry_store (s := accept s r 0x0D05) (pinEntry (accept s r 0x0D05) action (pinWaits action s)) h
  have hseq : natP (accept s r 0x0D05) 0x0D 0 jJOURNAL_SEQ = natP s 0x0D 0 jJOURNAL_SEQ := natP_accept s r _ _ _ (by decide)
  rw [show pinWaits action (accept s r 0x0D05) = pinWaits action s from rfl] at hbody
  generalize appendEntry (accept s r 0x0D05) (pinEntry (accept s r 0x0D05) action (pinWaits action s)) = u at hbody hkept hboot hstore
  have hset : (pinSet action (pinWaits action s) u u.col).snags = [] ∧ (pinSet action (pinWaits action s) u u.col).store = u.col.store := by
    have husnags : u.col.snags = [] := by rw [hkept.col]; exact hsnags
    unfold pinSet
    split
    · exact ⟨husnags, rfl⟩
    · split <;> exact ⟨husnags, rfl⟩
  obtain ⟨hphase, hreply, -, -⟩ := post_final (s := { u with col := pinSet action (pinWaits action s) u u.col }) (a := okBare) r.slot hset.1
  refine ⟨post { u with col := pinSet action (pinWaits action s) u u.col } r.slot (.final okBare),
    { pinEntry (accept s r 0x0D05) action (pinWaits action s) with seq := natP (accept s r 0x0D05) 0x0D 0 jJOURNAL_SEQ }, ?_,
    ⟨hphase, hreply⟩, ⟨u, hkept.after (.of_col rfl), hboot, by rw [post_rest]⟩, fun h => ?_, rfl, rfl, hseq⟩
  · show execFaultPinRelease r action s = _
    rw [execFaultPinRelease, mbxRun_open _ _ _ _ _ _ hopen (by simp), hbody]
  · rw [post_rest]
    exact hset.2.trans (hstore h)

/-- Settles O49: a lone raise at the threshold pulses the pin; its end and the host's commands set pin, hold and wait. -/
theorem faultPin_holds : Obligations.FaultPin := by
  unfold Obligations.FaultPin
  refine ⟨fun x s hone hreg hex hlive hsev => faultRaise_pulses hone hreg hex hlive hsev,
    fun q s hq hdue hst => faultNPulseEnd_releases hq hdue hst, fun r s hopen hroom => ⟨?_, ?_, fun hfull => ?_⟩⟩
  · obtain ⟨t, e, ht, hans, ⟨u, -, -, hcol⟩, -⟩ := faultPinRelease_sets hopen (action := 1) (by decide) hroom
    exact ⟨t, ht, hans, by rw [hcol]; rfl, by rw [hcol]; rfl⟩
  · obtain ⟨t, e, ht, hans, ⟨u, hkept, hboot, hcol⟩, -⟩ := faultPinRelease_sets hopen (action := 0) (by decide) hroom
    obtain ⟨hready, -⟩ := boot_of_mailboxOpen hopen
    refine ⟨t, ht, hans, ?_, fun hp => ?_, fun hp => ?_⟩
    · rw [hcol, pinSet, if_neg (by decide)]
      split <;> rfl
    · rw [hcol, pinSet, if_neg (by decide), if_neg (by simp [pinWaits, hp]), hboot, hready]
      rfl
    · rw [hcol, pinSet, if_neg (by decide), if_pos (by simp [pinWaits, Option.isSome_iff_ne_none.mpr hp])]
      exact ⟨by show u.col.pinLow = _; rw [hkept.col], rfl⟩
  · obtain ⟨t, e, ht, -, -, hstore, hkind, hsrc, hseq⟩ := faultPinRelease_sets hopen (action := 1) (by decide) hroom
    exact ⟨t, e, ht, hstore hfull, hkind, hsrc, hseq⟩

end Sys2Proof.Machine
end

section
/-! PROOFS. Snags (18_faults_journal_snags.md): O51. -/

namespace Sys2Proof.Machine

/-! ### Snags (18 R391, R392) -/

/-- The RAISE snag that DIAG_SNAG_SET makes of its arguments (18 Table 18-5). -/
def raiseSnag (args : List Byte) (s : State) : Snag :=
  let a := fitBytes 32 args
  ⟨1, fieldAt a 0 2, fieldAt a 2 2, (fieldAt a 4 4 : Nat), fieldAt a 8 4, fieldAt a 12 4, 0, nowClk s, none, false, a.take 14⟩

/-- The state with a first snag, before its entry. -/
def firstSnag (x : Snag) (s : State) : State := { s with col := { s.col with snags := [x] } }

theorem bodyDiagSnagSet_first {args : List Byte} {s : State} (hsnags : s.col.snags = []) (hroom : storeFull s = false)
    (hok : snagBadField 1 (fieldAt (fitBytes 32 args) 0 2) (fieldAt (fitBytes 32 args) 2 2) (fieldAt (fitBytes 32 args) 4 4 : Nat) = none) :
    bodyDiagSnagSet 1 args s = (detectSrc (appendEntry (firstSnag (raiseSnag args s) s)
      (snagEntry (firstSnag (raiseSnag args s) s) (raiseSnag args s))) 120, .final okBare) := by
  have hnone : snagOf s 1 (fieldAt (fitBytes 32 args) 0 2) = none := by simp [snagOf, hsnags]
  have hrec := canRecord_of_not_full hroom
  simp only [bodyDiagSnagSet, show snagNoTarget 1 = false from rfl, show snagSigned 1 = false from rfl, Bool.false_eq_true, if_false, hok,
    hnone, hsnags, hrec, Option.isSome_none, Bool.false_and, Bool.not_false, Bool.true_and, List.length_nil, List.filter_nil,
    List.foldl_nil, List.isEmpty_nil, List.nil_append, if_true, Bool.not_true, show decide (8 ≤ 0) = false from rfl]
  rfl

theorem snagOf_single {x : Snag} {s : State} (h : s.col.snags = [x]) : snagOf s x.num x.target = some x := by
  simp [snagOf, h]

theorem finish_of_raiseSnag {s : State} {x : Snag} (h : s.col.snags = [x]) (hn : x.num = 1) (n : Nat) (r : Reply) :
    finish s n r = writeResponse s n .done .none r := by
  have hnone : snagOf s 0x0040 0 = none := by simp [snagOf, h, hn]
  rw [finish, hnone]
  rfl

theorem diagSnagSet_first {r : Req} {args : List Byte} {s : State} (hopen : mailboxOpen s r.slot = true) (hlock : s.boot.unlocked = true)
    (hroom : storeFull s = false)
    (hok : snagBadField 1 (fieldAt (fitBytes 32 args) 0 2) (fieldAt (fitBytes 32 args) 2 2) (fieldAt (fitBytes 32 args) 4 4 : Nat) = none) :
    ∃ t x e, exec (.diagSnagSet r 1 args) s = .next t ∧ answered t r.slot okBare ∧ t.col.snags = [x] ∧ x.num = 1 ∧
      x.target = fieldAt (fitBytes 32 args) 0 2 ∧ x.applied = 0 ∧ t.col.store = s.col.store ++ [e] ∧ e.kind = .snag ∧
      raiseBlank 120 ∈ t.col.detected := by
  have hsnags := snags_of_mailboxOpen hopen
  have hbody := bodyDiagSnagSet_first (args := args) (s := accept s r 0x0E02) hsnags hroom hok
  generalize hx : raiseSnag args (accept s r 0x0E02) = x at hbody
  generalize hf : firstSnag x (accept s r 0x0E02) = f at hbody
  have hfull : storeFull f = false := by rw [← hf]; exact hroom
  have hkept := appendEntry_journalKept f (snagEntry f x)
  have hstore := appendEntry_store (snagEntry f x) hfull
  generalize appendEntry f (snagEntry f x) = u at hbody hkept hstore
  have husnags : u.col.snags = [x] := by rw [hkept.col, ← hf]; rfl
  have hdet : (detectSrc u 120).col.snags = [x] ∧ (detectSrc u 120).col.store = u.col.store := by
    rw [detectSrc, detect_rest]; exact ⟨husnags, rfl⟩
  have hnum : x.num = 1 := by rw [← hx]; rfl
  have hexec : exec (.diagSnagSet r 1 args) s = .next (writeResponse (detectSrc u 120) r.slot .done .none okBare) := by
    show execDiagSnagSet r 1 args s = _
    rw [execDiagSnagSet, mbxRun_open _ _ _ _ _ _ hopen (fun _ => hlock), hbody]
    exact congrArg Host.Outcome.next (finish_of_raiseSnag hdet.1 hnum r.slot okBare)
  refine ⟨_, x, { snagEntry f x with seq := natP f 0x0D 0 jJOURNAL_SEQ }, hexec, ⟨?_, ?_⟩, ?_, hnum, by rw [← hx]; rfl, by rw [← hx]; rfl,
    ?_, rfl, ?_⟩
  · rw [slotOf_writeResponse, if_pos rfl]
  · rw [slotOf_writeResponse, if_pos rfl]
  · rw [writeResponse_col]; exact hdet.1
  · rw [writeResponse_col, hdet.2, hstore, ← hf]; rfl
  · rw [writeResponse_col]; exact mem_detected_detect u _

theorem modSnag_single {x : Snag} {num : Nat} {s : State} (f : Snag → Snag) (h : s.col.snags = [x]) (hn : x.num = num) :
    modSnag s num x.target f = { s with col := { s.col with snags := [f x] } } := by
  simp [modSnag, h, hn]

/-- A snag that has not been applied has applications left. -/
theorem snagDone_of_not_applied {x : Snag} (h : x.applied = 0) : snagDone x = false := by
  unfold snagDone snagTotal
  by_cases hc : x.count = 0
  · simp [hc]
  · by_cases hp : x.period = 0
    · simp [hc, hp, h]
    · simp [hc, hp, h]

/-- A RAISE snag as one application leaves it. -/
def snagApplied (x : Snag) (s : State) : Snag :=
  { x with applied := x.applied + 1, nextAt := nowClk s + x.period * usTicks, endAt := (snagSpan x).map (fun n => nowClk s + n)
           armed := (snagSpan x).isNone }

theorem snagApply_raises {x : Snag} {s : State} (h : s.col.snags = [x]) (hn : x.num = 1) (ha : x.applied = 0) (hdue : x.nextAt ≤ nowClk s) :
    ∃ t y, exec (.snagApply 1 x.target) s = .next t ∧ t.col.detected = s.col.detected ++ [raiseBlank x.target] ∧
      t.col.snags = [y] ∧ y.applied = 1 ∧ y.endAt = some (nowClk s + x.value.toNat * 1250) := by
  have hone := snagOf_single h
  rw [hn] at hone
  have hspan : snagSpan x = some (x.value.toNat * usTicks) := by
    unfold snagSpan
    rw [hn]
    rfl
  have hexec : exec (.snagApply 1 x.target) s = .next (detectSrc { s with col := { s.col with snags := [snagApplied x s] } } x.target) := by
    show execSnagApply 1 x.target s = _
    rw [execSnagApply, hone]
    dsimp only
    rw [if_pos (by simp [hdue, ha, snagDone_of_not_applied ha]), applySnag]
    dsimp only
    rw [if_pos hn, modSnag_single _ h rfl]
    rfl
  refine ⟨_, snagApplied x s, hexec, detected_detect _ _, ?_, ?_, ?_⟩
  · rw [detectSrc, detect_rest]
  · rw [snagApplied, ha]
  · rw [snagApplied, hspan]; rfl

theorem clearLive_snags (s : State) (n : Nat) : (clearLive s n).col.snags = s.col.snags := (clearLive_onlyCollector s n).snags

theorem leaveLive_flags (s : State) (x : Snag) : FlagsKept s (leaveLive s x) ∧ OnlyCollector s (leaveLive s x) := by
  unfold leaveLive
  split
  · refine List.foldlRecOn (motive := fun t : State => FlagsKept s t ∧ OnlyCollector s t) _ _ ⟨.refl s, .refl s⟩ fun t ⟨hf, ho⟩ n _ => ?_
    split
    · exact ⟨(flagsKept_setSrcRec t (by rfl) (by rfl)).after hf, (setSrcRec_onlyCollector t n _).after ho⟩
    · exact ⟨hf, ho⟩
  · exact ⟨.refl s, .refl s⟩

/-- A snag that ends has its SNAG entry if the store has room. -/
def snagWritten (s : State) (x : Snag) : State :=
  let s := leaveLive s x
  if canRecord s then appendEntry s (snagEntry s x) else s

/-- The snag is gone from the list. -/
def snagGone (s : State) (x : Snag) : State := { snagWritten s x with col := { (snagWritten s x).col with
  snags := (snagWritten s x).col.snags.filter (fun y => !(y.num = x.num && y.target = x.target)) } }

theorem endSnag_eq (s : State) (x : Snag) :
    endSnag s x = if (snagGone s x).col.snags.isEmpty then clearLive (snagGone s x) 120 else snagGone s x := rfl

theorem snagWritten_kept (s : State) (x : Snag) : FlagsKept s (snagWritten s x) ∧ OnlyCollector s (snagWritten s x) := by
  obtain ⟨hf, ho⟩ := leaveLive_flags s x
  unfold snagWritten
  dsimp only
  split
  · exact ⟨(appendEntry_journalKept _ _).flags.after hf, (appendEntry_onlyCollector _ _).after ho⟩
  · exact ⟨hf, ho⟩

theorem endSnag_snags (s : State) (x : Snag) :
    (endSnag s x).col.snags = s.col.snags.filter (fun y => !(y.num = x.num && y.target = x.target)) := by
  have hgone : (snagGone s x).col.snags = s.col.snags.filter (fun y => !(y.num = x.num && y.target = x.target)) := by
    rw [snagGone, (snagWritten_kept s x).2.snags]
  rw [endSnag_eq]
  split
  · rw [clearLive_snags, hgone]
  · exact hgone

theorem endSnag_not_live {s : State} (x : Snag) {n : Nat} (h : (srcRec s n).live = false) : (srcRec (endSnag s x) n).live = false := by
  have hgone : (srcRec (snagGone s x) n).live = false := ((snagWritten_kept s x).1.live n).trans h
  rw [endSnag_eq]
  split
  · rw [(clearLive_flags _ 120 n).1, hgone, Bool.and_false]
  · exact hgone

theorem settleSnag_snags (s : State) (num target : Nat) : (settleSnag s num target).col.snags ⊆ s.col.snags := by
  unfold settleSnag
  split
  · split
    · rw [endSnag_snags]; exact fun y hy => (List.mem_filter.mp hy).1
    · exact List.Subset.refl _
  · exact List.Subset.refl _

theorem settleSnag_not_live {s : State} (num target : Nat) {n : Nat} (h : (srcRec s n).live = false) :
    (srcRec (settleSnag s num target) n).live = false := by
  unfold settleSnag
  split
  · split
    · exact endSnag_not_live _ h
    · exact h
  · exact h

theorem snagLiveExpiry_ends {x : Snag} {q : Nat} {s : State} (h : s.col.snags = [x]) (hn : x.num = 1) (hq : x.endAt = some q)
    (hdue : q ≤ nowClk s) : ∃ t, exec (.snagLiveExpiry 1 x.target) s = .next t ∧ (srcRec t x.target).live = false ∧
      (∀ y ∈ t.col.snags, y.endAt = none) := by
  have hone := snagOf_single h
  rw [hn] at hone
  have hsnags : (clearLive s x.target).col.snags = [x] := by rw [clearLive_snags, h]
  have hexec : exec (.snagLiveExpiry 1 x.target) s = .next (settleSnag { clearLive s x.target with
      col := { (clearLive s x.target).col with snags := [{ x with endAt := none }] } } 1 x.target) := by
    show execSnagLiveExpiry 1 x.target s = _
    rw [execSnagLiveExpiry, hone]
    dsimp only
    rw [if_pos (by simp [hq, hdue]), show snagSources x = [x.target] by rw [snagSources, if_pos hn], List.foldl_cons, List.foldl_nil]
    rw [modSnag_single _ hsnags hn]
  refine ⟨_, hexec, settleSnag_not_live 1 x.target (not_isLive_clearLive s x.target), fun y hy => ?_⟩
  have hmem := settleSnag_snags _ _ _ hy
  simp only [List.mem_singleton] at hmem
  rw [hmem]

theorem flushHeld_col (s : State) : (flushHeld s).col = s.col := by
  unfold flushHeld
  refine List.foldlRecOn (motive := fun t : State => t.col = s.col) _ _ rfl fun t ht p _ => ?_
  split
  · exact (writeResponse_col _ _ _ _ _).trans ht
  · exact ht

theorem snagEffectEnd_ends {x : Snag} {q : Nat} {s : State} (h : s.col.snags = [x]) (hn : 2 < x.num) (hq : x.endAt = some q)
    (hdue : q ≤ nowClk s) : ∃ t, exec (.snagEffectEnd x.num x.target) s = .next t ∧ ∀ y ∈ t.col.snags, y.endAt = none := by
  have hexec : ∃ u : State, u.col.snags = [{ x with endAt := none }] ∧
      exec (.snagEffectEnd x.num x.target) s = .next (settleSnag u x.num x.target) := by
    refine ⟨if x.num = 0x0040 then flushHeld { s with col := { s.col with snags := [{ x with endAt := none }] } }
      else { s with col := { s.col with snags := [{ x with endAt := none }] } }, ?_, ?_⟩
    · split
      · rw [flushHeld_col]
      · rfl
    · show execSnagEffectEnd x.num x.target s = _
      rw [execSnagEffectEnd, snagOf_single h]
      dsimp only
      rw [if_pos (by simp [hn, hq, hdue]), modSnag_single _ h rfl]
  obtain ⟨u, hu, hexec⟩ := hexec
  refine ⟨_, hexec, fun y hy => ?_⟩
  have hmem := settleSnag_snags _ _ _ hy
  rw [hu, List.mem_singleton] at hmem
  rw [hmem]

theorem foldl_endSnag_snags (xs : List Snag) (s : State) :
    (xs.foldl endSnag s).col.snags = s.col.snags.filter (fun y => xs.all (fun x => !(y.num = x.num && y.target = x.target))) := by
  induction xs generalizing s with
  | nil => simp
  | cons x xs ih =>
    rw [List.foldl_cons, ih, endSnag_snags, List.filter_filter]
    simp only [List.all_cons, Bool.and_comm]

theorem foldl_endSnag_rest (xs : List Snag) (s : State) :
    xs.foldl endSnag s = { s with params := (xs.foldl endSnag s).params, col := (xs.foldl endSnag s).col } := by
  have hend : ∀ (u : State) (x : Snag), endSnag u x = { u with params := (endSnag u x).params, col := (endSnag u x).col } := by
    intro u x
    have hgone : snagGone u x = { u with params := (snagGone u x).params, col := (snagGone u x).col } := by
      rw [snagGone, (snagWritten_kept u x).2.rest]
    rw [endSnag_eq]
    split
    · rw [(clearLive_onlyCollector _ 120).rest, hgone]
    · exact hgone
  refine List.foldlRecOn (motive := fun t : State => t = { s with params := t.params, col := t.col }) xs endSnag rfl fun t ht x _ => ?_
  rw [hend t x, ht]

/-- DIAG_SNAG_CLEAR 0xFFFF ends all. -/
theorem endAllSnags_snags (s : State) : (endAllSnags s).col.snags = [] := by
  rw [endAllSnags, flushHeld_col, foldl_endSnag_snags]
  refine List.filter_eq_nil_iff.mpr fun y hy => ?_
  simp only [List.all_eq_true, not_forall]
  exact ⟨y, hy, by simp⟩

/-- The mailbox is open but for snags that are active, and the command needs no unlock. -/
theorem mbxRun_open_snags {self : Instr} {r : Req} {op : Nat} {body : State → State × Answer} {s : State}
    (h : mailboxOpen { s with col := { s.col with snags := [] } } r.slot = true) :
    mbxRun self r op false body s = post (body (accept s r op)).1 r.slot (body (accept s r op)).2 := by
  have hboot := boot_of_mailboxOpen h
  obtain ⟨h1, h2, h3, h4, h5⟩ : s.boot.st = .ready ∧ s.boot.fwRuns = true ∧ s.boot.activation = none ∧ s.boot.bindOff = none ∧
      s.boot.releaseHeld = false := hboot
  simp only [mailboxOpen, Bool.and_eq_true, Bool.not_eq_true'] at h
  obtain ⟨⟨⟨-, h6⟩, -⟩, -⟩ := h
  have hbusy : slotBusy s r.slot = false := h6
  have hserves : mailboxServes (accept s r op) op = true := by rw [accept_eq]; simp [mailboxServes, h1, h3]
  have hbind : (accept s r op).boot.bindOff = none := h4
  simp [mbxRun, h5, hbusy, h2, hserves, hbind]

theorem diagSnagClear_all {r : Req} {s : State} (h : mailboxOpen { s with col := { s.col with snags := [] } } r.slot = true)
    (hroom : canRecordMany s s.col.snags.length = true) : ∃ t, exec (.diagSnagClear r 0xFFFF) s = .next t ∧
    answered t r.slot okBare ∧ t.col.snags = [] := by
  have hall : (accept s r 0x0E03).col.snags.filter (fun x => (0xFFFF : Nat) = 0xFFFF || x.num = 0xFFFF) = s.col.snags :=
    List.filter_eq_self.mpr fun _ _ => rfl
  have hbody : bodyDiagSnagClear 0xFFFF (accept s r 0x0E03) = (endAllSnags (accept s r 0x0E03), .final okBare) := by
    unfold bodyDiagSnagClear
    dsimp only
    rw [hall, if_neg (by rw [show canRecordMany (accept s r 0x0E03) = canRecordMany s from rfl, hroom]; decide), if_pos rfl]
  have hexec : exec (.diagSnagClear r 0xFFFF) s = .next (post (endAllSnags (accept s r 0x0E03)) r.slot (.final okBare)) := by
    show execDiagSnagClear r 0xFFFF s = _
    rw [execDiagSnagClear]
    exact congrArg Host.Outcome.next ((mbxRun_open_snags h).trans (by rw [hbody]))
  obtain ⟨hphase, hreply, -, -⟩ := post_final (a := okBare) r.slot (endAllSnags_snags (accept s r 0x0E03))
  refine ⟨_, hexec, ⟨hphase, hreply⟩, ?_⟩
  rw [post_rest]
  exact endAllSnags_snags _

theorem fwWatchdogExpiry_raises {s : State} (hruns : s.boot.fwRuns = true) (hact : s.boot.activation = none)
    (hdue : s.col.fedAt + 12500000 ≤ nowClk s) : ∃ t, exec .fwWatchdogExpiry s = .next t ∧
      t = { s with col := { s.col with detected := s.col.detected ++ [raiseBlank 112], sources := t.col.sources } } ∧
      quietFrom 112 0 s t :=
  ⟨_, if_pos (by simpa [hruns, hact, msTicks] using hdue), quietIn_detect_rest s (raiseBlank 112) 112 0, quietFrom_detect s (raiseBlank 112) 0⟩

/-- Settles O51: a snag is one record of the collector's list, which its commands and events add, move on and take away. -/
theorem snags : Obligations.Snags := by
  unfold Obligations.Snags
  exact ⟨fun r args s hopen hlock hroom hok => diagSnagSet_first hopen hlock hroom hok,
    fun x s h hn ha hdue => snagApply_raises h hn ha hdue, fun x q s h hn hq hdue => snagLiveExpiry_ends h hn hq hdue,
    fun x q s h hn hq hdue => snagEffectEnd_ends h hn hq hdue, fun r s h hroom => diagSnagClear_all h hroom,
    fun s hruns hact hdue => fwWatchdogExpiry_raises hruns hact hdue⟩

end Sys2Proof.Machine
end

section
/-! PROOFS. Resets, monitors and SYS_RESET (18_faults_journal.md, 20_cast_on.md): O5, O54, O55, O56, O58. -/

namespace Sys2Proof.Machine

/-! ### The reset state (20 R418): O5 -/

/-- Settles O5: every map of the reset state is empty, so each entry reads as its blank. -/
theorem resetState : Obligations.ResetState := by
  unfold Obligations.ResetState
  exact ⟨rfl, rfl, rfl, rfl, rfl, rfl, fun _ => rfl, fun _ => rfl, fun _ => rfl, fun _ => ⟨rfl, rfl⟩, fun _ => rfl, fun _ => rfl,
    Nat.zero_le _, ⟨canonical_empty, canonical_empty⟩, rfl⟩

/-! ### What cutting NVM writes short changes (19 R407; 20 R424) -/

theorem endNvm_rest (s : State) : endNvm s = { s with free := (endNvm s).free, cal := { s.cal with
    bank0 := (endNvm s).cal.bank0, bank1 := (endNvm s).cal.bank1, nvmOp := none } } := by
  unfold endNvm
  split <;> rfl

theorem endNvm_banks {s : State} (h : s.cal.nvmOp ≠ some .erase) :
    (endNvm s).cal.bank0 = s.cal.bank0 ∧ (endNvm s).cal.bank1 = s.cal.bank1 := by
  unfold endNvm
  split
  · next he => exact absurd he h
  · exact ⟨rfl, rfl⟩

theorem fwSlotLost_rest (s : State) (n size : Nat) : fwSlotLost s n size = { s with free := (fwSlotLost s n size).free, boot := { s.boot with
    slotA := (fwSlotLost s n size).boot.slotA, slotB := (fwSlotLost s n size).boot.slotB } } := by
  unfold fwSlotLost setFwSlot
  dsimp only
  split <;> rfl

/-- Cutting NVM writes short uses free values and changes banks, slots and what is in progress. -/
theorem cutNvm_rest (s : State) : cutNvm s = { s with
    free := (cutNvm s).free
    boot := { s.boot with slotA := (cutNvm s).boot.slotA, slotB := (cutNvm s).boot.slotB, staging := (cutNvm s).boot.staging }
    cal := { s.cal with bank0 := (endNvm s).cal.bank0, bank1 := (endNvm s).cal.bank1, nvmOp := none } } := by
  have hend := endNvm_rest s
  unfold cutNvm
  generalize endNvm s = u at hend ⊢
  dsimp only
  split
  · rw [hend]
  · rw [fwSlotLost_rest, hend]

theorem cutNvm_noStaging {s : State} (h : s.boot.staging = none) : (cutNvm s).boot = s.boot := by
  have hstaging : (endNvm s).boot.staging = none := by rw [endNvm_rest]; exact h
  unfold cutNvm
  dsimp only
  rw [hstaging]
  dsimp only
  rw [endNvm_rest]

/-! ### PORST_N, thermal shutdown and supply trip (20 R418; 18 R378; 20 R416): O54 -/

theorem coldReset_coldFrom (s : State) : coldFrom s (coldReset s) := by
  have hcut := cutNvm_rest s
  refine ⟨?_, fun o ho => ?_, ?_, fun h => ?_, fun h => ?_⟩
  · unfold coldReset
    rw [hcut]
    rfl
  · show kget paramReset (kfilter (fun o => decide (o = objId 9 0 aNVM_U_WRITES)) (cutNvm s).params) o = _
    rw [kget_kfilter, if_neg (by simpa using ho)]
  · show kget paramReset (kfilter (fun o => decide (o = objId 9 0 aNVM_U_WRITES)) (cutNvm s).params) _ = _
    rw [kget_kfilter, if_pos (by simp), hcut]
    rfl
  · have hboot := cutNvm_noStaging h
    exact ⟨by rw [← hboot]; rfl, by rw [← hboot]; rfl⟩
  · obtain ⟨h0, h1⟩ := endNvm_banks h
    refine ⟨?_, ?_⟩
    · rw [← h0]; show (cutNvm s).cal.bank0 = _; rw [hcut]
    · rw [← h1]; show (cutNvm s).cal.bank1 = _; rw [hcut]

/-- What cold reset keeps of the boot state's holds. -/
theorem coldReset_boot (s : State) : (coldReset s).boot.carried = s.boot.carried ∧ (coldReset s).boot.thermalHold = s.boot.thermalHold ∧
    (coldReset s).boot.supplyHold = s.boot.supplyHold ∧ (coldReset s).boot.porstLow = s.boot.porstLow := by
  have hcut := cutNvm_rest s
  refine ⟨?_, ?_, ?_, ?_⟩ <;> (unfold coldReset; rw [hcut]; rfl)

theorem coldFrom_carry {s t : State} (src : Nat) (h : coldFrom (carry s src) t) : coldFrom s t := h

theorem mem_carry (s : State) (src : Nat) : src ∈ (carry s src).boot.carried := by
  show src ∈ if s.boot.carried.contains src then s.boot.carried else s.boot.carried ++ [src]
  split
  · next h => simpa using h
  · simp

/-- Writing the pin, the holds and the die temperature of a state after a full reset leaves it one. -/
theorem coldFrom_holds {s t : State} (h : coldFrom s t) (porst thermal : Bool) (supply : Nat) (temp : Int) :
    coldFrom s { t with boot := { t.boot with porstLow := porst, thermalHold := thermal, supplyHold := supply, dieTemp := temp } } := by
  obtain ⟨hrest, hitems, hwrites, himages, hbanks⟩ := h
  refine ⟨?_, hitems, hwrites, himages, hbanks⟩
  generalize t.boot.slotA = a at *
  rw [hrest]

theorem thermalTrip_spec {s : State} (temp : Int) (hlow : s.boot.porstLow = false) : coldFrom s (thermalTrip s temp) ∧
    (thermalTrip s temp).boot.thermalHold = true ∧ 8 ∈ (thermalTrip s temp).boot.carried ∧ (thermalTrip s temp).boot.dieTemp = temp ∧
    (thermalTrip s temp).boot.porstLow = false := by
  obtain ⟨hcarried, -, hsupply, hporst⟩ := coldReset_boot (carry s 8)
  refine ⟨?_, rfl, ?_, rfl, hporst.trans hlow⟩
  · exact coldFrom_holds (coldFrom_carry 8 (coldReset_coldFrom (carry s 8))) _ true _ temp
  · show 8 ∈ (coldReset (carry s 8)).boot.carried
    rw [hcarried]
    exact mem_carry s 8

/-- Settles O54: each is the cold reset, with the pin, the hold and the carried event of its own. -/
theorem fullResets : Obligations.FullResets := by
  unfold Obligations.FullResets
  refine ⟨fun s => ?_, fun s hlow hhold => ?_, fun sensors s htemp hlow hhold => ?_, fun rail uv s hrail hbelow hlow => ?_⟩
  · obtain ⟨hcarried, hthermal, hsupply, -⟩ := coldReset_boot s
    exact ⟨_, rfl, coldFrom_holds (coldReset_coldFrom s) true _ _ _, rfl, hcarried, hthermal, hsupply⟩
  · obtain ⟨hcold, hth, hcar, hdie, hporst⟩ := thermalTrip_spec (max 16500 s.boot.dieTemp) hlow
    exact ⟨_, if_neg (by simp [hlow, hhold]), hcold, hth, hcar, hdie ▸ le_max_left _ _, hporst⟩
  · obtain ⟨hcold, hth, hcar, hdie, -⟩ := thermalTrip_spec (hottest sensors) hlow
    refine ⟨_, ?_, hcold, hth, hcar, hdie⟩
    show execDieTempSample sensors s = _
    rw [execDieTempSample, if_neg (by simp [hlow, hhold]), if_pos htemp]
  · obtain ⟨hcarried, -, -, -⟩ := coldReset_boot (carry s (railOf rail).src)
    have hexec : exec (.supplyTrip ⟨rail, uv⟩) s = .next { coldReset (carry s (railOf rail).src) with boot :=
        { (coldReset (carry s (railOf rail).src)).boot with
          supplyHold := putBit (coldReset (carry s (railOf rail).src)).boot.supplyHold rail true } } := by
      show execSupplyTrip ⟨rail, uv⟩ s = _
      rw [execSupplyTrip, if_pos (by simp [railHolds, hrail, hbelow])]
      simp only [hlow]
      rfl
    refine ⟨_, hexec, coldFrom_holds (coldFrom_carry _ (coldReset_coldFrom _)) _ _ _ _, ?_, ?_⟩
    · show (putBit _ rail true).testBit rail = true
      exact testBit_putBit_same _ _ _
    show (railOf rail).src ∈ (coldReset (carry s (railOf rail).src)).boot.carried
    rw [hcarried]
    exact mem_carry s _

/-! ### The holds end and the root clock starts (20 R378, R416; 09 R174): O55 -/

theorem testBit_supplyReturn (v rail i : Nat) : (putBit v rail false).testBit i = (v.testBit i && decide (i ≠ rail)) := by
  rw [testBit_putBit]
  by_cases h : i = rail
  · simp [h]
  · simp [h, Ne.symm h]

/-- The raises of the sources carried over a reset wait together. -/
def detectAll (srcs : List Nat) (s : State) : State := srcs.foldl detectSrc s

theorem detectAll_rest (srcs : List Nat) (s : State) : detectAll srcs s = { s with col := { s.col with
    detected := s.col.detected ++ srcs.map raiseBlank, sources := (detectAll srcs s).col.sources } } := by
  induction srcs generalizing s with
  | nil => simp [detectAll]
  | cons n srcs ih =>
    have h := ih (detectSrc s n)
    rw [detectSrc, detect_rest] at h
    rw [show detectAll (n :: srcs) s = detectAll srcs (detect s (raiseBlank n)) from rfl, detect_rest, h]
    simp only [List.map_cons, List.append_assoc, List.cons_append, List.nil_append]

def quietAll (srcs : List Nat) (s : State) : State := srcs.foldl (fun s src => quietIn s src (carriedQuiet src)) s

theorem quietAll_rest (srcs : List Nat) (s : State) : quietAll srcs s = { s with col := (quietAll srcs s).col } :=
  List.foldlRecOn (motive := fun t : State => t = { s with col := t.col }) srcs _ rfl fun t ht n _ => by
    rw [quietIn, setSrcRec, ht]

theorem quietAll_flags (srcs : List Nat) (s : State) : FlagsKept s (quietAll srcs s) :=
  List.foldlRecOn (motive := FlagsKept s) srcs _ (.refl s) fun t ht n _ => (flagsKept_quietIn t n _).after ht

/-- The state in which the carried sources wait for the first FCLK cycle. -/
def rootStarted (s : State) : State := detectAll s.boot.carried { s with
  time := { s.time with ticks := 0, sclk := 0 }, boot := { s.boot with rootLocked := true, carried := [] } }

theorem rootLock_starts {s : State} (h : rootStarts s = true) :
    exec .rootLock s = .next (quietAll s.boot.carried (registerRaises (rootStarted s))) := by
  have hlock : s.boot.rootLocked = false := by
    simp only [rootStarts, Bool.and_eq_true, Bool.not_eq_true'] at h
    exact h.1.1.2
  show execRootLock s = _
  rw [execRootLock, if_neg (by simp [hlock]), if_pos h]
  rfl

theorem rootLock_raisesCarried {s : State} {src : Nat} (hsrc : src ∈ s.boot.carried) (hexists : sourceExists src = true) :
    (srcRec (quietAll s.boot.carried (registerRaises (rootStarted s))) src).live = true ∧
    (srcRec (quietAll s.boot.carried (registerRaises (rootStarted s))) src).sticky = true := by
  have hwaits : raiseBlank src ∈ cycleRaises (rootStarted s) := by
    refine mem_cycleRaises.mpr ⟨?_, hexists⟩
    rw [rootStarted, detectAll_rest]
    exact List.mem_append_right _ (List.mem_map_of_mem hsrc)
  have hany : (cycleRaises (rootStarted s)).any (fun x => decide (x.src = src)) = true :=
    List.any_eq_true.mpr ⟨_, hwaits, by simp [raiseBlank]⟩
  obtain ⟨hlive, hsticky⟩ := registerRaises_flags (rootStarted s) src
  have hkept := quietAll_flags s.boot.carried (registerRaises (rootStarted s))
  rw [hkept.live, hkept.sticky, hlive, hsticky, hany]
  exact ⟨rfl, rfl⟩

theorem rootLock_rest (s : State) : quietAll s.boot.carried (registerRaises (rootStarted s)) = { s with
    time := { s.time with ticks := 0, sclk := 0 }, boot := { s.boot with rootLocked := true, carried := [] }
    params := (quietAll s.boot.carried (registerRaises (rootStarted s))).params
    col := (quietAll s.boot.carried (registerRaises (rootStarted s))).col
    link := (quietAll s.boot.carried (registerRaises (rootStarted s))).link } := by
  have hregister := registerRaises_rest (rootStarted s)
  have hstarted : rootStarted s = { s with
      time := { s.time with ticks := 0, sclk := 0 }
      boot := { s.boot with rootLocked := true, carried := [] }
      col := (rootStarted s).col } := by
    rw [rootStarted, detectAll_rest]
  rw [quietAll_rest, hregister]
  generalize rootStarted s = u at *
  rw [hstarted]

/-- Settles O55: each event ends what holds the device in reset, and the last starts the root clock. -/
theorem clocksStart : Obligations.ClocksStart := by
  unfold Obligations.ClocksStart
  refine ⟨fun sensors s hhold htemp => ?_, fun rail uv s h => ?_, fun rail uv s h => ?_, fun sel id s h => ?_, fun s h => ?_, fun s h => ?_⟩
  · show execThermalRecover sensors s = _
    rw [execThermalRecover, if_pos (by simp [hhold, htemp])]
  · refine ⟨{ s with boot := { s.boot with supplyHold := putBit s.boot.supplyHold rail false } }, ?_, rfl, testBit_supplyReturn _ rail⟩
    show execSupplyReturn ⟨rail, uv⟩ s = _
    rw [execSupplyReturn, if_neg (by simp [h])]
  · show execSupplyReturn ⟨rail, uv⟩ s = _
    rw [execSupplyReturn, if_pos h]
  · show execCastOnStart sel id s = _
    rw [execCastOnStart, if_pos h]
  · exact ⟨_, rootLock_starts h, rootLock_rest s, fun src hsrc hexists => rootLock_raisesCarried hsrc hexists⟩
  · show execRootLockTimeout s = _
    rw [execRootLockTimeout, if_pos h]

/-! ### The clock and rail monitors (18 Table 18-2; 20 R414): O56 -/

theorem rootLock_clears {s : State} (h : s.boot.rootLocked = true) : exec .rootLock s = .next (clearLive s 0) := by
  show execRootLock s = _
  rw [execRootLock, if_pos h]
  rfl

theorem clearLive_idle {s : State} {src : Nat} (hlive : (srcRec s src).live = false) (hpend : raisePending s src = false) :
    clearLive s src = s := by
  simp [clearLive, hlive, hpend]

theorem railExcursion_raises {rail : Nat} {uv : Int} {s : State} (hlock : s.boot.rootLocked = true) (hrail : rail < 8)
    (hout : railAbove rail uv = true ∨ (railBelow rail uv = true ∧ 3 ≤ rail)) :
    exec (.railExcursion ⟨rail, uv⟩) s =
      .next (quietIn (detect s (raiseBlank (railOf rail).src)) (railOf rail).src 1250000) := by
  have hexc : (railAbove rail uv || (railBelow rail uv && !railHolds rail)) = true := by
    rcases hout with h | ⟨h, hr⟩
    · simp [h]
    · simp [h, railHolds, hr]
  show execRailExcursion ⟨rail, uv⟩ s = _
  rw [execRailExcursion]
  dsimp only
  rw [hexc, if_pos (by simp [hlock, hrail])]
  rfl

theorem raisable_of_quiet {s : State} {src : Nat} (hlive : (srcRec s src).live = false) (hwait : ∀ x ∈ s.col.detected, x.src ≠ src) :
    raisable s src = true := by
  have hpend : raisePending s src = false := by
    rw [raisePending, List.any_eq_false]
    simpa using hwait
  simp [raisable, isLive, hlive, hpend]

/-- The part of a die temperature sample that follows the reading: the check of DIE_HOT and the drifts. -/
def dieChecked (temp : Int) (s : State) : Host.Outcome State Fault Refusal :=
  if !s.boot.rootLocked then .next s
  else
    let s := if 15000 < temp then raiseOnce s (raiseBlank 5) else if temp < 14500 then clearIf s 5 else s
    if s.boot.userApplied then .next (driftFe ((List.range 16).foldl driftTdc s)) else .next s

theorem dieTempSample_checks {sensors : List Int} {s : State} (hlow : s.boot.porstLow = false) (hhold : s.boot.thermalHold = false)
    (hcool : hottest sensors < 16500) : exec (.dieTempSample sensors) s =
      dieChecked (hottest sensors) { s with boot := { s.boot with dieTemp := hottest sensors } } := by
  show execDieTempSample sensors s = _
  rw [execDieTempSample, if_neg (by simp [hlow, hhold]), if_neg (by omega)]
  rfl

theorem dieChecked_hot {temp : Int} {s : State} (hlock : s.boot.rootLocked = true) (huser : s.boot.userApplied = false)
    (hhot : 15000 < temp) (hraise : raisable s 5 = true) : dieChecked temp s = .next (detect s (raiseBlank 5)) := by
  have hraised : raiseOnce s (raiseBlank 5) = detect s (raiseBlank 5) := if_pos hraise
  have hkept : (detect s (raiseBlank 5)).boot.userApplied = false := by rw [detect_eq]; exact huser
  rw [dieChecked, hlock, if_neg (by decide), if_pos hhot, hraised]
  dsimp only
  rw [hkept, if_neg (by decide)]

/-- Settles O56: each monitor raises its source and changes the collector only. -/
theorem monitorsRaise : Obligations.MonitorsRaise := by
  unfold Obligations.MonitorsRaise
  refine ⟨fun s h => ⟨?_, ?_⟩, fun s h => ?_, fun rail uv s h hrail hout => ?_, fun s h => ?_,
    fun sensors s hlock hlow hhold huser hhot hcool hlive hwait => ?_⟩
  · show execRootUnlock s = _
    rw [execRootUnlock, if_pos h, ← detect_eq]
    rfl
  · rw [detect_rest]
  · refine ⟨quietIn (detect s (raiseBlank 1)) 1 1250000, ?_, quietIn_detect_rest s _ _ _, quietFrom_detect s (raiseBlank 1) _⟩
    show execRefclkLost s = _
    rw [execRefclkLost, if_pos h]
    rfl
  · exact ⟨_, railExcursion_raises h hrail hout, quietIn_detect_rest s _ _ _, quietFrom_detect s (raiseBlank _) _⟩
  · refine ⟨_, rootLock_clears h, (clearLive_onlyCollector s 0).rest, ?_, fun n hn => ?_, clearLive_idle⟩
    · rw [(clearLive_flags s 0 0).1]; rfl
    · obtain ⟨hlive, hsticky⟩ := clearLive_flags s 0 n
      rw [hlive, hsticky]
      simp [Ne.symm hn]
  · refine (dieTempSample_checks hlow hhold hcool).trans ((dieChecked_hot ?_ ?_ hhot ?_).trans
      (congrArg Host.Outcome.next (detect_withBoot s _ _)))
    · exact hlock
    · exact huser
    · exact raisable_of_quiet (s := s) hlive hwait

/-! ### SYS_RESET (20 R418): O58 -/

/-- A completed slot is not deferred, and no other slot changes. -/
theorem deferredSlots_writeResponse_done {s : State} (n : Nat) (j : Job) (r : Reply) (h : deferredSlots s = []) :
    deferredSlots (writeResponse s n .done j r) = [] := by
  have hset : ∀ x : Slot, x.phase = .done → deferredSlots (setSlot s n x) = [] := fun x hx => by
    refine List.map_eq_nil_iff.mpr (List.filter_eq_nil_iff.mpr fun p hp => ?_)
    rcases mem_kput (show p ∈ kput (fun _ => slotBlank) s.slots n x from hp) with rfl | hmem
    · simp [hx]
    · exact List.filter_eq_nil_iff.mp (List.map_eq_nil_iff.mp h) p hmem
  unfold writeResponse
  dsimp only
  split
  · exact hset _ rfl
  · rw [deferredSlots, raiseVector_slots]
    exact hset _ rfl

theorem endDeferred_none {s : State} (h : deferredSlots s = []) : endDeferred s = { s with held := [] } := by
  have hheld : deferredSlots { s with held := [] } = [] := h
  rw [endDeferred, hheld]
  rfl

/-- With nothing deferred and no snag, a warm reset starts by cutting the NVM writes short. -/
theorem warmReset_cuts {s : State} (hd : deferredSlots s = []) (hs : s.col.snags = []) (hn : NoneHeld s) :
    cutNvm (endAllSnags (endDeferred s)) = cutNvm { s with held := [] } := by
  rw [endDeferred_none hd, endAllSnags_none (s := { s with held := [] }) hs hn]

theorem collectorKept_sticky (s : State) (n : Nat) : (kget sourceBlank (collectorKept s).sources n).sticky = false := by
  refine (congrArg Source.sticky (kget_foldl_kput (f := fun n => { srcRec s n with sticky := false }) s.col.sources s.col.sources n)).trans ?_
  split
  · rfl
  · next h => rw [kget_of_not_listed h]; rfl

/-- Freed bytes go to addresses outside the control area. -/
theorem memGet_dramAfterReset (s : State) {a : Nat} (ha : controlArea a = true) : memGet (dramAfterReset s) a = memGet s.dram a := by
  rw [dramAfterReset]
  refine List.foldlRecOn (motive := fun m => memGet m a = memGet s.dram a) _ _ ?_ fun m hm q hq => ?_
  · rw [memGet, kget_kfilter, if_pos ha]
    rfl
  · have hlost : q.1 ∈ s.dram.filter (fun p => !controlArea p.1) := (List.of_mem_zip (a := q.1) (b := q.2) hq).1
    have hne : q.1.1 ≠ a := fun h => by simp [h, ha] at hlost
    rw [memGet_memPut_ne m q.2 hne, hm]

theorem sysReset_params (s : State) {o : Nat} (ho : objAccess o ≠ 0) :
    kget paramReset (kfilter countKept s.params) o = paramReset o := by
  rw [kget_kfilter, if_neg (by simp [countKept, ho])]

theorem sysReset_unconfirmed {r : Req} {confirm : Nat} {s : State} (h : mailboxOpen s r.slot = true) (hc : confirm ≠ 0x5253)
    (hdue : s.boot.resetDue = false) : Answers (.sysReset r confirm) r.slot s s (badField 0) := by
  refine answers_of_finish h (op := 0x0103) ?_
  show execSysReset r confirm s = _
  rw [execSysReset, mbxRun_open _ _ _ _ _ _ h (by simp), bodySysReset, if_pos hc]
  simp only [reply, post]
  rw [resetSettle_notDue (by rw [finish_rest]; exact hdue)]

/-- What SYS_RESET leaves of the state `u` in which it is answered. -/
theorem warmReset_keeps {u : State} (hd : deferredSlots u = []) (hs : u.col.snags = []) (hn : NoneHeld u) :
    (warmReset u).time.ticks = u.time.ticks ∧ (warmReset u).link.endpointUp = u.link.endpointUp ∧
    (warmReset u).boot.rollback = u.boot.rollback ∧ (warmReset u).cal.regionR = u.cal.regionR ∧
    (warmReset u).cal.activeBank = u.cal.activeBank ∧ (warmReset u).link.msixTable = u.link.msixTable ∧
    (warmReset u).col.store = u.col.store ∧ (warmReset u).slots = u.slots := by
  have hcut := cutNvm_rest { u with held := [] }
  unfold warmReset
  rw [warmReset_cuts hd hs hn, hcut]
  exact ⟨rfl, rfl, rfl, rfl, rfl, rfl, rfl, rfl⟩

theorem warmReset_dram {u : State} (hd : deferredSlots u = []) (hs : u.col.snags = []) (hn : NoneHeld u) {a : Nat}
    (ha : controlArea a = true) : memGet (warmReset u).dram a = memGet u.dram a := by
  have hcut := cutNvm_rest { u with held := [] }
  unfold warmReset
  rw [warmReset_cuts hd hs hn]
  refine (memGet_dramAfterReset _ ha).trans ?_
  rw [hcut]

/-- Settles O58: SYS_RESET answers first, and the warm reset keeps what Table 20-4 names. -/
theorem sysResetKeeps : Obligations.SysResetKeeps := by
  unfold Obligations.SysResetKeeps
  refine ⟨fun r s hopen hd => ⟨_, sysReset_resets hopen, ?_⟩, fun r confirm s hopen hc hdue => sysReset_unconfirmed hopen hc hdue⟩
  have hs : s.col.snags = [] := snags_of_mailboxOpen hopen
  have hasked : resetAsked (accept s r 0x0103) = { accept s r 0x0103 with
      held := [], boot := { s.boot with resetDue := true, bindOff := none } } := by
    rw [resetAsked, endDeferred_none (deferredSlots_accept r _ hd)]
    rfl
  have hsnags : (resetAsked (accept s r 0x0103)).col.snags = [] := by rw [hasked]; exact hs
  rw [finish_open _ _ _ hsnags, hasked]
  generalize hv : ({ accept s r 0x0103 with held := [], boot := { s.boot with resetDue := true, bindOff := none } } : State) = v
  have hvd : deferredSlots v = [] := by rw [← hv]; exact deferredSlots_accept r 0x0103 hd
  have hvh : NoneHeld v := by rw [← hv]; exact noneHeld_accept r 0x0103 (noneHeld_of_mailboxOpen hopen)
  have hud := deferredSlots_writeResponse_done r.slot .none okBare hvd
  have huh := noneHeld_writeResponse r.slot .done .none okBare hvh
  have hrest := writeResponse_eq v r.slot .done .none okBare
  have hslot := slotOf_writeResponse v r.slot r.slot .done .none okBare
  generalize writeResponse v r.slot .done .none okBare = u at *
  have hus : u.col.snags = [] := by rw [hrest, ← hv]; exact hs
  obtain ⟨hticks, hup, hroll, hregion, hbank, htable, hstore, hslots⟩ := warmReset_keeps hud hus huh
  rw [hticks, hup, hroll, hregion, hbank, htable, hstore]
  have hanswered : answered (warmReset u) r.slot okBare := by
    rw [answered, slotOf, hslots]
    rw [slotOf, if_pos rfl] at hslot
    rw [hslot]
    exact ⟨rfl, rfl⟩
  have hdram : ∀ a, controlArea a = true → memGet (warmReset u).dram a = memGet s.dram a := fun a ha => by
    rw [warmReset_dram hud hus huh ha, hrest, ← hv]
    rfl
  refine ⟨hanswered, rfl, rfl, rfl, rfl, ?_, ?_, ?_, ?_, ?_, ?_, rfl, ?_, fun n => collectorKept_sticky _ n, hdram, rfl, rfl,
    fun o ho => sysReset_params _ ho⟩
  all_goals (rw [hrest, ← hv] <;> rfl)

end Sys2Proof.Machine
end

section
/-! PROOFS. Rings, frames and BAR accesses (14_host_link_dma.md): O38, O36, O39. -/

namespace Sys2Proof.Machine

/-! ### A ring's record after the operations on rings (14 R303) -/

theorem ringOf_detect (s : State) (x : Raise) (n : Nat) : ringOf (detect s x) n = ringOf s n := by
  rw [detect_eq]
  rfl

theorem ringOf_quietIn (s : State) (src ticks n : Nat) : ringOf (quietIn s src ticks) n = ringOf s n := rfl

theorem ringOf_onlyCollector {s t : State} (h : OnlyCollector s t) (n : Nat) : ringOf t n = ringOf s n := by
  rw [h.rest]
  rfl

/-! ### Frames that wait, housekeeping frames and moderated interrupts (14 R306, R307): O38 -/

/-- The state with the first droppable frame of ring 131 gone, before source 87 is raised. -/
def hkFrameGone (s : State) (q : QFrame) (qs : List QFrame) : State :=
  setRing { s with link := { s.link with hkDrops := (s.link.hkDrops + q.frame.sampleCount) % 2 ^ 32 } } 131 { ringOf s 131 with
    queue := qs, dropped := ((ringOf s 131).dropped + q.frame.sampleCount) % 2 ^ 32, gapNext := true }

theorem dropHkFrame_raises (s : State) (q : QFrame) (qs : List QFrame) :
    dropHkFrame s q qs = quietIn (detect (hkFrameGone s q qs) (raiseBlank 87)) 87 1250000000 := rfl

theorem ringOf_dropHkFrame (s : State) (q : QFrame) (qs : List QFrame) (n : Nat) : ringOf (dropHkFrame s q qs) n =
    if 131 = n then { ringOf s 131 with queue := qs, gapNext := true
                                        dropped := ((ringOf s 131).dropped + q.frame.sampleCount) % 2 ^ 32 } else ringOf s n := by
  rw [dropHkFrame_raises, ringOf_quietIn, ringOf_detect, hkFrameGone, ringOf_setRing]
  rfl

theorem ringHoldExpiry_drops {q : QFrame} {qs : List QFrame} {s : State}
    (h : dropFirst (mayDrop s 131 (ringOf s 131)) (ringOf s 131).queue = some (q, qs)) :
    exec (.ringHoldExpiry 131) s = .next (dropHkFrame s q qs) := by
  show execRingHoldExpiry 131 s = _
  rw [execRingHoldExpiry, h]
  rfl

theorem housekeepingFrameClose_closes {key : Nat} {s : State} (hrecs : (hkGet s key).recs ≠ [])
    (hdue : (hkGet s key).since + 12500000 ≤ nowClk s) : exec (.housekeepingFrameClose key) s = .next (hkClose s key) := by
  show execHousekeepingFrameClose key s = _
  rw [execHousekeepingFrameClose, if_pos (by simp [hrecs, msTicks, hdue])]

/-- The frame that closing an open housekeeping frame queues. -/
def hkFrame (s : State) (key : Nat) : Frame :=
  streamFrame s 131 (hkType key) (hkGet s key).firstTs (hkGet s key).first (hkRecSize key) (hkGet s key).recs.length
    (hkGet s key).recs.flatten

theorem hkClose_queues {s : State} {key : Nat} (h : (hkGet s key).recs ≠ []) : hkClose s key =
    { queueFrame s 131 (hkFrame s key) .none with link := { (queueFrame s 131 (hkFrame s key) .none).link with
        hkOpen := kput (fun _ => hkNone) s.link.hkOpen key hkNone } } := by
  rw [hkClose]
  dsimp only
  rw [if_neg (by simp [h])]
  rfl

theorem irqModTimer_raises {n q : Nat} {s : State} (hq : (ringOf s n).modAt = some q) (hdue : q ≤ nowClk s) :
    exec (.irqModTimer n) s =
      .next (raiseVector (setRing s n { ringOf s n with unannounced := 0, modAt := none }) (ringOf s n).vector) := by
  show execIrqModTimer n s = _
  rw [execIrqModTimer]
  dsimp only
  rw [hq]
  dsimp only
  rw [if_pos hdue]

/-- A masked vector pends. -/
theorem raiseVector_pends {s : State} {v : Nat} (hon : s.link.msixOn = true) (hv : v < 136) (hmask : vectorMasked s v = true) :
    (raiseVector s v).link.pba.testBit v = true := by
  rw [raiseVector, if_neg (by simp [hon, hv]), if_pos hmask]
  show (s.link.pba ||| 2 ^ v).testBit v = true
  simp

/-- Settles O38. -/
theorem framesWait : Obligations.FramesWait := by
  unfold Obligations.FramesWait
  refine ⟨fun q qs s h => ?_, fun key s hrecs hdue => ?_, fun n q s hq hdue => ?_⟩
  · refine ⟨_, ringHoldExpiry_drops h, ringOf_dropHkFrame s q qs 131, fun m hm => ?_, ?_, ?_⟩
    · rw [ringOf_dropHkFrame, if_neg (Ne.symm hm)]
    · rw [dropHkFrame_raises, quietIn_detect_rest]
      rfl
    · exact quietFrom_detect (hkFrameGone s q qs) (raiseBlank 87) _
  · refine ⟨_, ⟨hkFrame s key, nowClk s, .none⟩, housekeepingFrameClose_closes hrecs hdue, ?_, ?_, ?_, rfl, rfl⟩
    · rw [hkClose_queues hrecs]
      rfl
    · rw [hkClose_queues hrecs]
      exact (kget_kput (fun _ => hkNone) s.link.hkOpen key key hkNone).trans (if_pos rfl)
    · rw [hkClose_queues hrecs]
      refine congrArg Ring.queue ((ringOf_setRing s 131 131 _).trans (if_pos rfl))
  · refine ⟨_, irqModTimer_raises hq hdue, ?_, ?_, fun m hm => ?_, fun hon hv hmask => raiseVector_pends hon hv hmask⟩
    · rw [raiseVector_eq]
      rfl
    · rw [ringOf_raiseVector, ringOf_setRing, if_pos rfl]
    · rw [ringOf_raiseVector, ringOf_setRing, if_neg (Ne.symm hm)]

/-! ### Rings start, stop and turn to ERROR (14 R303, R305, R308): O36 -/

theorem clearDmaSources_onlyCollector (s : State) (r : Nat) :
    OnlyCollector (setRing s r { ringOf s r with faults := [] }) (clearDmaSources s r) :=
  List.foldlRecOn (motive := OnlyCollector (setRing s r { ringOf s r with faults := [] })) _ _ (.refl _) fun t ht src _ => by
    dsimp only
    exact .ite ht ((clearLive_onlyCollector t src).after ht)

theorem clearDmaSources_none {s : State} {r : Nat} (h : (ringOf s r).faults = []) :
    clearDmaSources s r = setRing s r { ringOf s r with faults := [] } := by
  rw [clearDmaSources, h]
  rfl

/-- The record of a ring that starts. -/
def ringStarted (n : Nat) (x : Ring) : Ring :=
  if sizeOk n x.size then { x with
    enable := true, st := .running, error := 0, prod := 0, cons := 0, dropped := 0, seq := 0, unannounced := 0, modAt := none
    ends := [] }
  else { x with enable := true, st := .error, error := 3 }

/-- The state of a start before the errors of the ring are cleared. -/
def ringOpened (s : State) (n : Nat) : State :=
  if sizeOk n (ringOf s n).size then writeStatus (setRing s n (ringStarted n (ringOf s n))) n
  else setRing s n (ringStarted n (ringOf s n))

theorem ringStart_eq (s : State) (n : Nat) : ringStart s n = clearDmaSources (ringOpened s n) n := by
  rw [ringStart, ringOpened, ringStarted]
  by_cases h : sizeOk n (ringOf s n).size
  · simp only [h, Bool.not_true, Bool.false_eq_true, if_false, if_true]
  · simp only [h, Bool.not_false, Bool.false_eq_true, if_false, if_true]

def withHostMem (s : State) (m : Memory) : State := { s with link := { s.link with hostMem := m } }

theorem writeStatus_eq (s : State) (n : Nat) : writeStatus s n =
    withHostMem s (memWrite s.link.hostMem ((ringOf s n).base + ringDataLen (ringOf s n)) (statusBlock n (ringOf s n))) := by
  rw [writeStatus]
  rfl

theorem writeStatus_rest (s : State) (n : Nat) :
    writeStatus s n = { s with link := { s.link with hostMem := (writeStatus s n).link.hostMem } } := by
  rw [writeStatus_eq]
  generalize memWrite _ _ _ = m
  rfl

theorem ringOpened_rest (s : State) (n : Nat) : ringOpened s n =
    { s with link := { s.link with rings := (ringOpened s n).link.rings, hostMem := (ringOpened s n).link.hostMem } } := by
  unfold ringOpened
  split
  · rw [writeStatus_rest]
    generalize (writeStatus (setRing s n (ringStarted n (ringOf s n))) n).link.hostMem = m
    rfl
  · rfl

theorem ringOf_ringOpened (s : State) (n m : Nat) :
    ringOf (ringOpened s n) m = if n = m then ringStarted n (ringOf s n) else ringOf s m := by
  unfold ringOpened
  split
  · rw [ringOf_writeStatus, ringOf_setRing]
  · rw [ringOf_setRing]

theorem ringOf_ringStart (s : State) (n m : Nat) :
    ringOf (ringStart s n) m = if n = m then { ringStarted n (ringOf s n) with faults := [] } else ringOf s m := by
  rw [ringStart_eq, ringOf_onlyCollector (clearDmaSources_onlyCollector _ n), ringOf_setRing]
  split
  · rw [ringOf_ringOpened, if_pos rfl]
  · next h => rw [ringOf_ringOpened, if_neg h]

theorem ringStart_rest (s : State) (n : Nat) : ringStart s n = { s with
    link := { s.link with rings := (ringStart s n).link.rings, hostMem := (ringStart s n).link.hostMem }
    col := (ringStart s n).col, params := (ringStart s n).params } := by
  rw [ringStart_eq, (clearDmaSources_onlyCollector (ringOpened s n) n).rest]
  generalize clearDmaSources (ringOpened s n) n = u
  have h := ringOpened_rest s n
  generalize ringOpened s n = v at *
  rw [h]
  rfl

theorem ringStart_col {s : State} {n : Nat} (h : (ringOf s n).faults = []) :
    (ringStart s n).col = s.col ∧ (ringStart s n).params = s.params := by
  have hstarted : (ringStarted n (ringOf s n)).faults = [] := by
    unfold ringStarted
    split <;> exact h
  have hopened : (ringOf (ringOpened s n) n).faults = [] := by rw [ringOf_ringOpened, if_pos rfl]; exact hstarted
  rw [ringStart_eq, clearDmaSources_none hopened, setRing_col, setRing_params, ringOpened_rest]
  exact ⟨rfl, rfl⟩

theorem ringEnable_starts {n : Nat} {s : State} (hup : s.link.endpointUp = true) (hn : n < 136) (hoff : (ringOf s n).enable = false)
    (hst : (ringOf s n).st ≠ .stopping) (hready : s.boot.st = .ready) : exec (.ringEnable n) s = .next (ringStart s n) := by
  show execRingEnable n s = _
  rw [execRingEnable, if_pos hup, enableRing, if_neg (by simp [hoff, hn]), if_pos (by simp [ringsMayRun, hready, hst])]

/-- The record of a running ring that is disabled while it works, and when it does not. -/
def ringStopped (s : State) (n : Nat) : Ring :=
  if ringWorks s n then { ringOf s n with enable := false, st := .stopping }
  else { ringOf s n with enable := false, st := .disabled, error := 0, unannounced := 0, modAt := none }

theorem ringDisable_stops {n : Nat} {s : State} (hup : s.link.endpointUp = true) (hn : n < 136) (hon : (ringOf s n).enable = true)
    (hrun : (ringOf s n).st = .running) : exec (.ringDisable n) s =
      .next (settleRing (setRing s n { ringOf s n with enable := false, st := .stopping }) n (ringWorks s n)) := by
  show execRingDisable n s = _
  rw [execRingDisable, if_pos hup, disableRing, if_neg (by simp [hon, hn]), if_pos hrun]

theorem settleRing_stopped (s : State) (n : Nat) :
    settleRing (setRing s n { ringOf s n with enable := false, st := .stopping }) n (ringWorks s n) = { s with link := { s.link with
      rings := (settleRing (setRing s n { ringOf s n with enable := false, st := .stopping }) n (ringWorks s n)).link.rings
      hostMem := (settleRing (setRing s n { ringOf s n with enable := false, st := .stopping }) n (ringWorks s n)).link.hostMem } } ∧
    ∀ m, ringOf (settleRing (setRing s n { ringOf s n with enable := false, st := .stopping }) n (ringWorks s n)) m =
      if n = m then ringStopped s n else ringOf s m := by
  have hrec := ringOf_setRing s n n { ringOf s n with enable := false, st := .stopping }
  rw [if_pos rfl] at hrec
  rw [settleRing, hrec, ringStopped]
  by_cases hworks : ringWorks s n
  · rw [if_pos (by simp [hworks]), if_pos hworks]
    exact ⟨rfl, fun m => ringOf_setRing s n m _⟩
  · rw [if_neg (by simp [hworks]), if_neg hworks, if_neg (by simp)]
    rw [writeStatus_rest]
    generalize (writeStatus (setRing s n { ringOf s n with enable := false, st := .stopping }) n).link.hostMem = h
    refine ⟨rfl, fun m => ?_⟩
    rw [ringOf_setRing]
    split
    · rfl
    · next hm => exact (ringOf_setRing s n m _).trans (if_neg hm)

theorem endsAfter_split {v : Nat} (pre post : List Nat) (h : v ∉ pre) : endsAfter v (pre ++ v :: post) = some post := by
  induction pre with
  | nil => exact if_pos rfl
  | cons e pre ih =>
    rw [List.mem_cons, not_or] at h
    exact (if_neg (Ne.symm h.1)).trans (ih h.2)

theorem endsAfter_none {v : Nat} (es : List Nat) (h : v ∉ es) : endsAfter v es = none := by
  induction es with
  | nil => rfl
  | cons e es ih =>
    rw [List.mem_cons, not_or] at h
    exact (if_neg (Ne.symm h.1)).trans (ih h.2)

theorem c2hConsWrite_releases {n v : Nat} {es : List Nat} {s : State} (hup : s.link.endpointUp = true) (hn : n < 132)
    (hrun : (ringOf s n).st = .running) (hv : v ≠ (ringOf s n).cons) (hends : endsAfter v (ringOf s n).ends = some es) :
    exec (.c2hConsWrite n v) s = .next (setRing s n { ringOf s n with cons := v, ends := es }) := by
  show execC2hConsWrite n v s = _
  rw [execC2hConsWrite, if_pos hup, writeCons, if_neg (by simp [hn, hrun, hv]), hends]

theorem c2hConsWrite_rejects {n v : Nat} {s : State} (hup : s.link.endpointUp = true) (hn : n < 132)
    (hrun : (ringOf s n).st = .running) (hv : v ≠ (ringOf s n).cons) (hends : endsAfter v (ringOf s n).ends = none) :
    exec (.c2hConsWrite n v) s = .next (badRequest (ringError s n 1)) := by
  show execC2hConsWrite n v s = _
  rw [execC2hConsWrite, if_pos hup, writeCons, if_neg (by simp [hn, hrun, hv]), hends]

theorem badRequest_raises (s : State) : badRequest s = quietIn (detect s (raiseBlank 81)) 81 1250000000 := rfl

theorem h2cProdWrite_eq {h v : Nat} {s : State} (hup : s.link.endpointUp = true) (hh : h < 4) (hrun : (ringOf s (132 + h)).st = .running) :
    exec (.h2cProdWrite h v) s = .next (
      if ringEntries (ringOf s (132 + h)) < (v % 2 ^ 32 + 2 ^ 32 - (ringOf s (132 + h)).cons) % 2 ^ 32 then ringError s (132 + h) 2
      else setRing s (132 + h) { ringOf s (132 + h) with prod := v % 2 ^ 32 }) := by
  show execH2cProdWrite h v s = _
  rw [execH2cProdWrite, if_pos (by simp [hup, hh]), writeProd]
  dsimp only
  rw [if_neg (by simp [hrun]; omega)]

/-- Settles O36: each register write changes the record of its own ring. -/
theorem ringsRun : Obligations.RingsRun := by
  unfold Obligations.RingsRun
  refine ⟨fun n s hup hn hoff hst hready => ?_, fun n s hup hn hon hrun => ?_, fun n v pre post s hup hn hrun hends hv hcons => ?_,
    fun n v s hup hn hrun hcons hends => ?_, fun h v s hup hh hrun => ?_⟩
  · refine ⟨_, ringEnable_starts hup hn hoff hst hready, ringStart_rest s n, ringStart_col, fun m hm => ?_, ?_⟩
    · rw [ringOf_ringStart, if_neg (Ne.symm hm)]
    · rw [ringOf_ringStart, if_pos rfl, ringStarted]
      split <;> rfl
  · obtain ⟨hrest, hrings⟩ := settleRing_stopped s n
    refine ⟨_, ringDisable_stops hup hn hon hrun, hrest, ?_, fun m hm => ?_⟩
    · rw [hrings, if_pos rfl]
      rfl
    · rw [hrings, if_neg (Ne.symm hm)]
  · refine ⟨_, c2hConsWrite_releases hup hn hrun hcons (es := post) ?_, rfl, ?_, fun m hm => ?_⟩
    · rw [hends, endsAfter_split pre post hv]
    · rw [ringOf_setRing, if_pos rfl]
    · rw [ringOf_setRing, if_neg (Ne.symm hm)]
  · refine ⟨_, c2hConsWrite_rejects hup hn hrun hcons (endsAfter_none _ hends), ?_⟩
    rw [badRequest_raises]
    refine ⟨?_, ?_, quietFrom_detect (ringError s n 1) (raiseBlank 81) _⟩
    · rw [ringOf_quietIn, ringOf_detect, ringError, ringOf_setRing, if_pos rfl]
    · rw [quietIn_detect_rest]
      rfl
  · refine ⟨_, h2cProdWrite_eq hup hh hrun, ?_⟩
    split
    · refine ⟨rfl, fun m hm => ?_, ?_⟩
      · rw [ringError, ringOf_setRing, if_neg (Ne.symm hm)]
      · rw [ringError, ringOf_setRing, if_pos rfl]
    · refine ⟨rfl, fun m hm => ?_, ?_⟩
      · rw [ringOf_setRing, if_neg (Ne.symm hm)]
      · rw [ringOf_setRing, if_pos rfl]

/-! ### BAR0 and BAR4 accesses (14 R298 to R300, R311): O39 -/

theorem memGet_memWrite_in (m : Memory) (a : Nat) (bs : List Byte) (i : Nat) (h : i < bs.length) :
    memGet (memWrite m a bs) (a + i) = bs[i] := by
  induction bs generalizing m a i with
  | nil => exact absurd h (by simp)
  | cons b bs ih =>
    cases i with
    | zero => rw [memWrite, memGet_memWrite_out _ _ _ _ (by omega)]; exact memGet_memPut_same m a b
    | succ i =>
      have hi : i < bs.length := by simpa using h
      rw [memWrite, show a + (i + 1) = a + 1 + i by omega, ih _ _ i hi]
      rfl

theorem mem_logAer (s : State) (e : AerError) : e ∈ (logAer s e).link.aer := by
  show e ∈ if s.link.aer.contains e then s.link.aer else s.link.aer ++ [e]
  split
  · next h => simpa using h
  · simp

theorem logBad_raises (s : State) (e : AerError) : logBad s e = quietIn (detect (logAer s e) (raiseBlank 81)) 81 1250000000 := rfl

theorem mem_logBad (s : State) (e : AerError) : e ∈ (logBad s e).link.aer := by
  rw [logBad_raises, quietIn_detect_rest]
  exact mem_logAer s e

theorem bar4Read_aborts {a n : Nat} {s : State} (hup : s.link.endpointUp = true)
    (h : s.boot.trainSeen = false ∨ memTraining s = true) :
    exec (.bar4Read a n) s = .next (logBad (answerHost s .completerAbort) .completerAbort) := by
  show execBar4Read a n s = _
  rw [execBar4Read, if_neg (by simp [hup]), if_pos (by simpa using h)]

theorem bar4Write_discards {a : Nat} {bs : List Byte} {s : State} (hup : s.link.endpointUp = true)
    (h : 0x04000000 < a + bs.length ∨ s.boot.dramTrained = false) :
    exec (.bar4Write a bs) s = .next (logBad (answerHost s .unsupported) .unsupportedRequest) := by
  have hno : ¬ (s.boot.dramTrained && decide (a + bs.length ≤ 0x04000000)) = true := by
    rcases h with h | h
    · simp; omega
    · simp [h]
  show execBar4Write a bs s = _
  rw [execBar4Write, if_neg (by simp [hup]), if_neg hno]

/-- Settles O39. -/
theorem barAccesses : Obligations.BarAccesses := by
  unfold Obligations.BarAccesses
  refine ⟨fun s hup => ?_, fun a n s hup hseen htrain => ?_, fun a n s hup h => ?_, fun a bs s hup htrained hin => ?_,
    fun a bs s hup h => ?_, fun v s hup => ?_, fun s hup => ?_⟩
  · show execBootStateRead s = _
    rw [execBootStateRead, if_pos hup]
    cases hmsix : s.link.msixOn <;> simp [answerHost, bar0Word, hmsix]
  · show execBar4Read a n s = _
    rw [execBar4Read, if_neg (by simp [hup]), if_neg (by simp [hseen, htrain])]
    rfl
  · refine ⟨_, bar4Read_aborts hup h, mem_logBad _ _, ?_, ?_⟩
    · rw [logBad_raises, quietIn_detect_rest]
      rfl
    · exact quietFrom_detect (logAer (answerHost s .completerAbort) .completerAbort) (raiseBlank 81) _
  · refine ⟨{ s with dram := memWrite s.dram a bs }, ?_, rfl, fun i hi => memGet_memWrite_in s.dram a bs i hi,
      fun b hb => memGet_memWrite_out s.dram a b bs hb⟩
    show execBar4Write a bs s = _
    rw [execBar4Write, if_neg (by simp [hup]), if_pos (by simp [htrained, hin])]
  · refine ⟨_, bar4Write_discards hup h, ?_, ?_, ?_⟩ <;> rw [logBad_raises, quietIn_detect_rest] <;> rfl
  · show execRegisterWrite (.bar0 0x54) v s = _
    rw [execRegisterWrite, if_neg (by simp [hup])]
    simp only [writeBar0, if_true, bitField, Nat.shiftRight_eq_div_pow]
    norm_num
  · refine ⟨quietIn (detect (logAer s .poisonedTlp) (raiseBlank 82)) 82 1250000000, ?_, ?_, ?_, ?_⟩
    · show execHostBadRequest .poisonedWrite s = _
      rw [execHostBadRequest, if_neg (by simp [hup])]
      rfl
    · rw [quietIn_detect_rest]
      exact mem_logAer s .poisonedTlp
    · rw [quietIn_detect_rest]
      rfl
    · exact quietFrom_detect (logAer s .poisonedTlp) (raiseBlank 82) _

end Sys2Proof.Machine
end

section
/-! PROOFS. The cast-on sequence (20_cast_on.md): O57. -/

namespace Sys2Proof.Machine

/-! ### What cast-on's operations leave of the boot state (20 Table 20-5) -/

theorem setBootSt_boot (s : State) (b : BootSt) : (setBootSt s b).boot = { s.boot with st := b } := rfl

theorem castOnFails_boot (s : State) (src : Nat) : (castOnFails s src).boot = { s.boot with failSource := src, st := .failed } := rfl

theorem castOnFails_detected (s : State) (src : Nat) : (castOnFails s src).col.detected = s.col.detected := rfl

theorem detect_boot (s : State) (x : Raise) : (detect s x).boot = s.boot := by rw [detect_eq]

theorem nvmError_boot (s : State) (region d0 : Nat) : (nvmError s region d0).boot = s.boot := detect_boot _ _

theorem unitOut_boot (s : State) (u : RepairUnit) : (unitOut s u).boot = s.boot := by
  cases u <;> rfl

theorem applyRepair_boot (s : State) : (applyRepair s).boot = s.boot := foldl_boot unitOut_boot s.cal.regionR _

theorem bankRead_boot (s : State) (n : Nat) (ok : Bool) : (bankRead s n ok).boot = s.boot := by
  unfold bankRead
  split
  · rfl
  · exact nvmError_boot _ _ _

/-- A bad region R gives slot 0 as the active one, and nothing else of the boot state changes. -/
theorem regionRRead_boot (s : State) (ok : Bool) :
    (regionRRead s ok).boot = { s.boot with activeSlot := if ok then s.boot.activeSlot else 0 } := by
  unfold regionRRead
  cases ok with
  | true => exact applyRepair_boot s
  | false => exact (nvmError_boot _ _ _).trans (applyRepair_boot _)

theorem nvmLoad_goes {v : NvmLoad} {s : State} (hst : s.boot.st = .reset) (hmarch : v.march = []) :
    (nvmLoad s v).boot.st = (if s.boot.warm then .linkReady else .nvmLoaded) ∧ (nvmLoad s v).boot.serial = fitBytes 16 v.serial := by
  unfold nvmLoad
  rw [hmarch]
  dsimp only [marchRows, List.foldl_nil]
  generalize hu : bankRead _ 1 v.bank1Ok = u
  have hboot : u.boot.st = .reset ∧ u.boot.warm = s.boot.warm ∧ u.boot.serial = fitBytes 16 v.serial := by
    rw [← hu, bankRead_boot, bankRead_boot, regionRRead_boot]
    exact ⟨hst, rfl, rfl⟩
  obtain ⟨hust, huwarm, huserial⟩ := hboot
  rw [if_neg (by simp [hust]), show (setBootSt u .nvmLoaded).boot.warm = s.boot.warm from huwarm]
  split
  · exact ⟨rfl, huserial⟩
  · exact ⟨rfl, huserial⟩

/-! ### The boot ROM and recovery boot (20 R421, R422, R428) -/

theorem answerHeld_boot (s : State) (b : Nat × Nat × Nat × Bool) : (answerHeld s b).boot = s.boot := by
  rw [answerHeld, finish_rest]
  rfl

theorem firmwareStarts_boot (s : State) : (firmwareStarts s).boot = { s.boot with fwRuns := true, heldBells := [] } :=
  foldl_boot answerHeld_boot s.boot.heldBells _

theorem bootSlot_boot (s : State) (n : Nat) : (bootSlot s n).boot =
    { (setFwSlot s n { fwSlotOf s n with verified := true }).boot with fwSlot := n, st := .fwBoot, fwRuns := true, heldBells := [] } := by
  rw [bootSlot, firmwareStarts_boot, setBootSt_boot]
  have h : (slotPasses s n).boot = (setFwSlot s n { fwSlotOf s n with verified := true }).boot := clearLive_boot _ 114
  dsimp only
  rw [h]

theorem authFails_eq (s : State) (n : Nat) : authFails s n = { s with col := (authFails s n).col } := detect_eq s _

theorem slotBoots_authFails (s : State) (n m : Nat) : slotBoots (authFails s n) m = slotBoots s m := by
  rw [authFails_eq]
  rfl

theorem ringIfEnabled_boot (s : State) (r : Nat) : (ringIfEnabled s r).boot = s.boot := by
  unfold ringIfEnabled
  split
  · exact ringStart_boot s r
  · rfl

theorem bootVerify_eq {s : State} (hst : s.boot.st = .linkReady) (hruns : s.boot.fwRuns = false) (hrec : s.boot.recovering = false)
    (hsel : s.boot.bootSel ≠ 1) : exec .bootVerify s = .next (
      if slotBoots s s.boot.activeSlot then bootSlot s s.boot.activeSlot
      else if slotBoots s (1 - s.boot.activeSlot) then bootSlot (authFails s s.boot.activeSlot) (1 - s.boot.activeSlot)
      else noSlot (authFails (authFails s s.boot.activeSlot) (1 - s.boot.activeSlot))) := by
  show execBootVerify s = _
  rw [execBootVerify, if_neg (by simp [hst, hruns, hrec]), if_neg hsel]
  dsimp only
  rw [slotBoots_authFails]
  split
  · rfl
  · split <;> rfl

theorem noSlot_detected (s : State) : (noSlot s).col.detected = s.col.detected := by
  unfold noSlot
  split <;> rfl

theorem noSlot_spec (s : State) : (s.boot.bootSel ≠ 2 → (noSlot s).boot.recovering = true) ∧
    (s.boot.bootSel = 2 → (noSlot s).boot.st = .failed ∧ (noSlot s).boot.failSource = 114) := by
  refine ⟨fun h => ?_, fun h => ?_⟩
  · rw [noSlot, if_neg h]
  · rw [noSlot, if_pos h]
    exact ⟨rfl, rfl⟩

theorem recoveryBoot_starts {im : List Byte} {s : State} (hrec : s.boot.recovering = true) (hok : recoveryOk s im = true) :
    ∃ t, exec (.recoveryBoot im) s = .next t ∧ t.boot.recovering = false ∧ t.boot.st = .recovery ∧ t.boot.fwRuns = true := by
  refine ⟨ringIfEnabled (ringIfEnabled (setBootSt (firmwareStarts (clearIf { s with boot := { s.boot with recovering := false } } 114))
    .recovery) 130) 132, ?_, ?_⟩
  · have hok' : recoveryOk { s with boot := { s.boot with recovering := false } } im = true := hok
    show execRecoveryBoot im s = _
    rw [execRecoveryBoot, if_neg (by simp [hrec])]
    exact if_pos hok'
  · rw [ringIfEnabled_boot, ringIfEnabled_boot, setBootSt_boot, firmwareStarts_boot, clearIf, clearLive_boot]
    exact ⟨rfl, rfl, rfl⟩

theorem recoveryBoot_fails {im : List Byte} {s : State} (hrec : s.boot.recovering = true) (hok : recoveryOk s im = false) :
    ∃ t, exec (.recoveryBoot im) s = .next t ∧ t.boot.recovering = false ∧ t.boot.st = .failed ∧ t.boot.failSource = 114 := by
  refine ⟨castOnFails (detectSrc { s with boot := { s.boot with recovering := false } } 114) 114, ?_, ?_⟩
  · have hok' : recoveryOk { s with boot := { s.boot with recovering := false } } im = false := hok
    show execRecoveryBoot im s = _
    rw [execRecoveryBoot, if_neg (by simp [hrec])]
    exact if_neg (by simp [hok'])
  · rw [castOnFails_boot, detectSrc, detect_boot]
    exact ⟨rfl, rfl, rfl⟩

/-! ### Training and the calibrations it starts (13 R281, R284; 19 R395) -/

/-- The boot state, RFM and MEM_CONFIG as training left them. -/
structure TrainKept (s t : State) : Prop where
  boot : t.boot = s.boot
  rfm : t.mem.rfm = s.mem.rfm
  config : getP t 0x10 0 mMEM_CONFIG = getP s 0x10 0 mMEM_CONFIG

theorem TrainKept.refl (s : State) : TrainKept s s := ⟨rfl, rfl, rfl⟩

theorem TrainKept.after {a b c : State} (k : TrainKept b c) (h : TrainKept a b) : TrainKept a c :=
  ⟨k.boot.trans h.boot, k.rfm.trans h.rfm, k.config.trans h.config⟩

theorem TrainKept.foldl {β : Type} {f : State → β → State} (hf : ∀ s b, TrainKept s (f s b)) (xs : List β) (s : State) :
    TrainKept s (xs.foldl f s) :=
  List.foldlRecOn (motive := TrainKept s) xs f (.refl s) fun t ht b _ => (hf t b).after ht

theorem calBegin_trainKept (s : State) (dom ins : Nat) (st : CalSt) : TrainKept s (calBegin s dom ins st) := ⟨rfl, rfl, rfl⟩

theorem modFe_trainKept (s : State) (f : FrontEnd → FrontEnd) : TrainKept s (modFe s f) := ⟨rfl, rfl, rfl⟩

theorem setAdc_trainKept (s : State) (p c : Nat) (x : AdcChan) : TrainKept s (setAdc s p c x) := ⟨rfl, rfl, rfl⟩

theorem modPort_trainKept (s : State) (p : Nat) (f : Port → Port) : TrainKept s (modPort s p f) := ⟨rfl, rfl, rfl⟩

theorem stepAbandon_trainKept (s : State) (p : Nat) : TrainKept s (stepAbandon s p) := by
  unfold stepAbandon
  exact (modPort_trainKept _ p _).after (.foldl (fun t c => setAdc_trainKept t p c _) _ s)

theorem fgTake_trainKept (s : State) (p stage : Nat) : TrainKept s (fgTake s p stage) := by
  unfold fgTake
  split
  · exact setAdc_trainKept s p _ _
  · exact .refl s

theorem fgBegin_trainKept (s : State) (p pass : Nat) : TrainKept s (fgBegin s p pass) := by
  unfold fgBegin
  exact (calBegin_trainKept _ 0 p .foreground).after <| (fgTake_trainKept _ p 0).after <| (modPort_trainKept _ p _).after
    (stepAbandon_trainKept s p)

theorem tdcRun_trainKept (s : State) {ch : Nat} (hch : ch < 16) : TrainKept s (tdcRun s ch true) := by
  refine ⟨rfl, rfl, kget_kput_ne _ _ _ ?_⟩
  simp only [objId, tCORES_IN_SERVICE, mMEM_CONFIG]
  omega

theorem tdcRuns_trainKept (s : State) : TrainKept s ((List.range 16).foldl (fun s ch => tdcRun s ch true) s) :=
  List.foldlRecOn (motive := TrainKept s) _ _ (.refl s) fun t ht _ hch => (tdcRun_trainKept t (List.mem_range.mp hch)).after ht

/-- A calibration of the front end that is asked for is due, so that no chart entry starts. -/
theorem beginFeCal_trainKept (s : State) : TrainKept s (beginFeCal s) := by
  unfold beginFeCal
  dsimp only
  split <;> exact ⟨rfl, rfl, rfl⟩

theorem feAdvance_trainKept {s : State} (h : s.fe.calDue = true) : TrainKept s (feAdvance s) := by
  unfold feAdvance
  rw [h]
  split
  · exact .refl s
  · split
    · exact ⟨rfl, rfl, rfl⟩
    · exact beginFeCal_trainKept s

theorem feRequestCal_trainKept (s : State) : TrainKept s (feRequestCal s) := by
  unfold feRequestCal
  split
  · exact .refl s
  · have hbegin : TrainKept s (if calBusy s 2 0 then s else calBegin s 2 0 .queued) := by
      split
      · exact .refl s
      · exact calBegin_trainKept s 2 0 .queued
    exact (feAdvance_trainKept rfl).after ((modFe_trainKept _ _).after hbegin)

theorem ramanCalAsk_trainKept (s : State) (dom p : Nat) : TrainKept s (ramanCalAsk s dom p) := by
  unfold ramanCalAsk
  split
  · exact calBegin_trainKept s dom p .queued
  · exact ⟨rfl, rfl, rfl⟩

theorem testCores_trainKept (cs : List Nat) (i : Nat) (s : State) : TrainKept s (testCores s i cs) := by
  induction cs generalizing s i with
  | nil => exact .refl s
  | cons c cs ih => exact (ih _ _).after ⟨rfl, rfl, rfl⟩

theorem testEngines_trainKept (es : List Nat) (i : Nat) (s : State) : TrainKept s (testEngines s i es) := by
  induction es generalizing s i with
  | nil => exact .refl s
  | cons e es ih => exact (ih _ _).after ⟨rfl, rfl, rfl⟩

theorem testAll_trainKept (s : State) : TrainKept s (testAll s) :=
  (testEngines_trainKept _ 0 _).after <| (calBegin_trainKept _ 7 0 .background).after <|
    (testCores_trainKept _ 0 _).after (calBegin_trainKept s 5 0 .background)

theorem castOnCals_trainKept (s : State) : TrainKept s (castOnCals s) :=
  (testAll_trainKept _).after <| (ramanCalAsk_trainKept _ 3 1).after <| (ramanCalAsk_trainKept _ 3 0).after <|
    (feRequestCal_trainKept _).after <| (tdcRuns_trainKept _).after <|
      (fgBegin_trainKept _ 1 2).after (fgBegin_trainKept s 0 2)

theorem wake_trainKept (s : State) (c : Nat) : TrainKept s (wake s c) := ⟨rfl, rfl, rfl⟩

theorem modBank_trainKept (s : State) (c rank bank : Nat) (f : MemBank → MemBank) : TrainKept s (modBank s c rank bank f) :=
  ⟨rfl, rfl, rfl⟩

theorem wakeAll_trainKept (s : State) : TrainKept s (wakeAll s) := by
  unfold wakeAll
  exact .foldl wake_trainKept _ s

theorem prechargeAll_trainKept (s : State) (c : Nat) : TrainKept s (prechargeAll s c) := by
  unfold prechargeAll
  exact .foldl (fun t i => modBank_trainKept t c (i / 16) i _) _ s

theorem closeAllRows_trainKept (s : State) : TrainKept s (closeAllRows s) := by
  unfold closeAllRows
  exact (TrainKept.foldl prechargeAll_trainKept _ _).after (wakeAll_trainKept s)

theorem changing_trainKept (s : State) (fsp : Nat) :
    TrainKept s { s with mem := { s.mem with change := some (fsp, nowClk s) } } := ⟨rfl, rfl, rfl⟩

theorem beginChange_trainKept (s : State) (fsp : Nat) : TrainKept s (beginChange s fsp) :=
  (changing_trainKept (closeAllRows s) fsp).after (closeAllRows_trainKept s)

theorem freqApply_trainKept (s : State) (fsp : Nat) : TrainKept s (freqApply s fsp).1 := by
  unfold freqApply
  split
  · split
    · exact .refl s
    · exact ⟨rfl, rfl, rfl⟩
  · split
    · exact .refl s
    · split
      · exact .refl s
      · exact beginChange_trainKept s fsp

theorem complete_trainKept (s : State) (j : Job) (r : Reply) : TrainKept s (complete s j r) := by
  rw [complete_rest]
  exact ⟨rfl, rfl, rfl⟩

/-- The state in which the set point that waited is taken up. -/
def freqTaken (s : State) : State := { s with mem := { s.mem with freqWaits := none, freqReplaced := false } }

theorem freqResume_of_waits {s : State} {fsp : Nat} (h : s.mem.freqWaits = some fsp) :
    ∃ r, freqResume s = complete (freqApply (freqTaken s) fsp).1 .memFreq r := by
  rw [freqResume, h]
  exact ⟨_, rfl⟩

theorem freqResume_trainKept (s : State) : TrainKept s (freqResume s) := by
  cases h : s.mem.freqWaits with
  | none => rw [freqResume, h]; exact .refl s
  | some fsp =>
    obtain ⟨r, hr⟩ := freqResume_of_waits h
    rw [hr]
    exact (complete_trainKept _ _ _).after ((freqApply_trainKept (freqTaken s) fsp).after ⟨rfl, rfl, rfl⟩)

theorem trainingDone_calibrates {q : Nat × Nat} {failed : Nat} {rfm : Bool} {s : State} (hst : s.boot.st = .dramTrain)
    (hfit : devicesFit q = true) (hfailed : failed % 16 = 0) : exec (.dramTrainingDone [q, q, q, q] failed rfm) s =
      .next (castOnCals (freqResume (setBootSt (trained s (memConfig q) rfm) .calibrating))) := by
  have hbit : ∀ c, c < 4 → failed.testBit c = false := fun c hc => by
    have h : (failed % 2 ^ 4).testBit c = false := by rw [show (2 : Nat) ^ 4 = 16 from rfl, hfailed]; exact Nat.zero_testBit c
    rwa [Nat.testBit_mod_two_pow, decide_eq_true hc, Bool.true_and] at h
  show execDramTrainingDone [q, q, q, q] failed rfm s = _
  rw [execDramTrainingDone]
  simp [hst, nth, hfit, hbit]

/-- The channels that failed training (13 R281). -/
def channelsBad (fitted : List (Nat × Nat)) (failed : Nat) : List Nat :=
  [0, 1, 2, 3].filter (fun c => failed.testBit c || !devicesFit (nth (0, 0) fitted c) || nth (0, 0) fitted c ≠ nth (0, 0) fitted 0)

theorem mem_channelsBad {fitted : List (Nat × Nat)} {failed c : Nat} (hc : c < 4)
    (h : failed.testBit c = true ∨ devicesFit (nth (0, 0) fitted c) = false ∨ nth (0, 0) fitted c ≠ nth (0, 0) fitted 0) :
    c ∈ channelsBad fitted failed := by
  refine List.mem_filter.mpr ⟨by simp; omega, ?_⟩
  rcases h with h | h | h <;> simp [h]

theorem trainingDone_fails {fitted : List (Nat × Nat)} {failed c : Nat} {rfm : Bool} {s : State} (hst : s.boot.st = .dramTrain)
    (hbad : c ∈ channelsBad fitted failed) : exec (.dramTrainingDone fitted failed rfm) s =
      .next (castOnFails ((channelsBad fitted failed).foldl (fun s c => detect s { raiseBlank 64 with ins := c }) s) 64) := by
  have hne : (channelsBad fitted failed).isEmpty = false := by
    rw [List.isEmpty_eq_false_iff]
    exact List.ne_nil_of_mem hbad
  show execDramTrainingDone fitted failed rfm s = _
  rw [execDramTrainingDone]
  dsimp only
  rw [if_neg (by simp [hst])]
  exact if_neg (Bool.not_eq_true _ ▸ hne)

theorem foldl_detect_detected (f : Nat → Raise) (cs : List Nat) (s : State) :
    (cs.foldl (fun s c => detect s (f c)) s).col.detected = s.col.detected ++ cs.map f := by
  induction cs generalizing s with
  | nil => simp
  | cons c cs ih => rw [List.foldl_cons, ih, detect_rest, List.map_cons]; simp

/-! ### Region U in force, and READY (19 R406; 20 Table 20-5) -/

theorem endSnag_boot (s : State) (x : Snag) : (endSnag s x).boot = s.boot := by
  rw [show endSnag s x = [x].foldl endSnag s from rfl, foldl_endSnag_rest]

theorem spendSnag_boot (s : State) (num target : Nat) : (spendSnag s num target).boot = s.boot := by
  unfold spendSnag settleSnag
  split
  · split
    · rw [endSnag_boot]; rfl
    · rfl
  · rfl

theorem beginEntry_boot (s : State) (n : Nat) : (beginEntry s n).boot = s.boot := by
  have htaken : (takeEntryItems s n).boot = s.boot := by
    unfold takeEntryItems
    exact foldl_boot (f := fun s (p : Nat × Int) => { s with params := kput paramReset s.params p.1 p.2 }) (fun _ _ => rfl) _ s
  unfold beginEntry
  generalize takeEntryItems s n = u at htaken
  dsimp only
  generalize (if n + 1 < natP u 7 0 fCHART_LENGTH then n + 1 else 0) = next
  split
  · rw [spendSnag_boot]; exact htaken
  · exact htaken

theorem feAdvance_boot (s : State) : (feAdvance s).boot = s.boot := by
  unfold feAdvance
  split
  · rfl
  · split
    · rfl
    · split
      · exact (beginFeCal_trainKept s).boot
      · split
        · exact beginEntry_boot s _
        · rfl

theorem stepBegin_boot (s : State) (p bursts : Nat) (freeFrom : Option Nat) (ofRun : Bool) :
    (stepBegin s p bursts freeFrom ofRun).boot = s.boot := by
  have hchange : ∀ (t : State) c, (stepChange t p c).boot = t.boot := fun t c => by
    unfold stepChange logSet
    rfl
  unfold stepBegin
  dsimp only
  rw [modPort_boot]
  exact foldl_boot hchange _ s

theorem stepKick_boot (s : State) (p : Nat) : (stepKick s p).boot = s.boot := by
  unfold stepKick
  dsimp only
  split
  · rfl
  · split
    · exact stepBegin_boot _ _ _ _ _
    · split
      · exact stepBegin_boot _ _ _ _ _
      · rfl

theorem userInForce_applied (s : State) : (userInForce s).boot.userApplied = true := by
  unfold userInForce
  dsimp only
  rw [stepKick_boot, stepKick_boot]
  split
  · rw [feAdvance_boot]; rfl
  · rfl

theorem linkEnabled_boot (s : State) : (linkEnabled s).boot = s.boot := by
  unfold linkEnabled
  split
  · split <;> rfl
  · split <;> rfl

theorem pinAtReady_pin (s : State) : (pinAtReady s).col.pinLow =
    ((pinAtReady s).col.raisedSince || (pinAtReady s).col.hostHolds || (pinAtReady s).col.pulseEnd.isSome) := rfl

theorem bootReady_eq {s : State} (hst : s.boot.st = .calibrating) (happlied : s.boot.userApplied = true) :
    exec .bootReady s = .next (pinAtReady (linkEnabled ((List.range 136).foldl ringIfEnabled (setBootSt s .ready)))) := by
  show execBootReady s = _
  rw [execBootReady, if_pos ⟨hst, happlied⟩]

theorem linkReady_eq {s : State} (hclk : s.link.clkreqLow = false) (hst : s.boot.st = .nvmLoaded) : exec .linkReady s =
    .next (setBootSt { s with link := { s.link with
      clkreqLow := true, endpointUp := !s.link.perstLow, mayTrain := !s.link.perstLow } } .linkReady) := by
  show execLinkReady s = _
  rw [execLinkReady, if_neg (by simp [hclk, hst])]
  exact if_pos hst

theorem marchTestDone_passes {s : State} (hdone : s.boot.marchDone = false)
    (hst : s.boot.st = .linkReady ∨ s.boot.st = .fwBoot ∨ s.boot.st = .recovery) : ∃ u, (u = s ∨ u = clearLive s 60) ∧
      exec (.marchTestDone []) s = .next { u with boot := { u.boot with marchDone := true } } := by
  refine ⟨if s.cal.sramUsed.all (fun p => p.2 < 4) then clearLive s 60 else s, ?_, ?_⟩
  · split
    · exact .inr rfl
    · exact .inl rfl
  · show execMarchTestDone [] s = _
    rw [execMarchTestDone, if_neg (by rcases hst with h | h | h <;> simp [hdone, h])]
    rfl

/-- Settles O57: each event of cast-on makes the transition of Table 20-5 that is its own. -/
theorem castOnSequence : Obligations.CastOnSequence := by
  unfold Obligations.CastOnSequence
  refine ⟨fun nvm s hlock hst => ?_, fun s hclk hst => ⟨_, linkReady_eq hclk hst, rfl⟩, fun n s hst hruns hrec hsel hn => ?_,
    fun s hst hruns hrec hsel => ?_, fun im s hrec => ?_, fun s hdone hst => ?_, fun q failed rfm s hst hfit hfailed => ?_,
    fun fitted failed c rfm s hst hc hbad => ?_, fun s hst happlied hover => ?_, fun s hst happlied => ?_⟩
  · refine ⟨if nvm.regionFOk then nvmLoad s nvm else castOnFails (nvmError s regionF 0) 113, ?_, fun hok hmarch => ?_, fun hbad => ?_⟩
    · show execNvmLoaded nvm s = _
      rw [execNvmLoaded, if_pos (by simp [hlock, hst])]
      split <;> rfl
    · rw [if_pos hok]
      exact nvmLoad_goes hst hmarch
    · rw [if_neg (by simp [hbad]), castOnFails_boot]
      exact ⟨rfl, rfl⟩
  · subst hn
    refine ⟨_, bootVerify_eq hst hruns hrec hsel, fun hpass => ?_, fun hbad hother => ?_⟩
    · have hboots : slotBoots s s.boot.activeSlot = true := decide_eq_true hpass
      rw [if_pos hboots, fwSlotOf, bootSlot_boot]
      refine ⟨rfl, rfl, rfl, rfl, ?_⟩
      unfold setFwSlot
      split
      · rfl
      · rfl
    · have hactive : slotBoots s s.boot.activeSlot = false := decide_eq_false hbad
      have hspare : slotBoots s (1 - s.boot.activeSlot) = false := decide_eq_false hother
      have hboot : ∀ u m, (authFails u m).boot = u.boot := fun u m => detect_boot _ _
      obtain ⟨hrecovers, hfails⟩ := noSlot_spec (authFails (authFails s s.boot.activeSlot) (1 - s.boot.activeSlot))
      rw [hboot, hboot] at hrecovers hfails
      rw [hactive, hspare, if_neg (by decide), if_neg (by decide)]
      refine ⟨?_, hrecovers, hfails⟩
      rw [noSlot_detected, authFails, authFails, detect_rest, detect_rest]
      simp
  · show execBootVerify s = _
    rw [execBootVerify, if_neg (by simp [hst, hruns, hrec]), if_pos hsel]
  · cases hok : recoveryOk s im with
    | true =>
      obtain ⟨t, ht, hrecovering, hgoes⟩ := recoveryBoot_starts hrec hok
      exact ⟨t, ht, hrecovering, fun _ => hgoes, fun h => absurd h (by simp)⟩
    | false =>
      obtain ⟨t, ht, hrecovering, hgoes⟩ := recoveryBoot_fails hrec hok
      exact ⟨t, ht, hrecovering, fun h => absurd h (by simp), fun _ => hgoes⟩
  · obtain ⟨u, rfl | rfl, hexec⟩ := marchTestDone_passes hdone hst
    · exact ⟨_, hexec, rfl, fun n _ => ⟨rfl, rfl⟩⟩
    · refine ⟨_, hexec, ?_, fun n hn => ?_⟩
      · rw [(clearLive_onlyCollector s 60).rest]
      · obtain ⟨hlive, hsticky⟩ := clearLive_flags s 60 n
        exact ⟨hlive.trans (by simp [Ne.symm hn]), hsticky⟩
  · have hkept := (castOnCals_trainKept _).after (freqResume_trainKept (setBootSt (trained s (memConfig q) rfm) .calibrating))
    refine ⟨_, trainingDone_calibrates hst hfit hfailed, ?_, ?_, ?_, ?_⟩
    · rw [hkept.boot]; rfl
    · rw [hkept.boot]; rfl
    · rw [hkept.rfm]; rfl
    · rw [hkept.config, getP_of_params_eq (setBootSt_params _ _), trained, getP_setP_same]
  · refine ⟨_, trainingDone_fails hst (mem_channelsBad hc hbad), rfl, rfl, ?_⟩
    have hraised := List.mem_map_of_mem (f := fun n => { raiseBlank 64 with ins := n }) (mem_channelsBad hc hbad)
    rw [castOnFails_detected, foldl_detect_detected (fun n => { raiseBlank 64 with ins := n })]
    exact List.mem_append_right _ hraised
  · refine ⟨_, ?_, userInForce_applied (if (bankU (roles s)).valid then applyRegionU (bankU (roles s)) (roles s) else roles s)⟩
    show execCastOnCalDone s = _
    rw [execCastOnCalDone, if_pos ⟨hst, by simp [happlied], hover⟩]
  · refine ⟨_, bootReady_eq hst happlied, ?_, pinAtReady_pin _⟩
    have hboot := foldl_boot ringIfEnabled_boot (List.range 136) (setBootSt s .ready)
    generalize (List.range 136).foldl ringIfEnabled (setBootSt s .ready) = u at hboot ⊢
    show (linkEnabled u).boot.st = .ready
    rw [linkEnabled_boot, hboot]
    rfl

end Sys2Proof.Machine
end

section
/-! PROOFS. Region U of NVM (19_calibration_nvm.md): O52. -/

namespace Sys2Proof.Machine

/-! ### NVM_STORE captures (19 R407): O52 -/

theorem mem_insertPair (p q : Nat × Int) (ps : List (Nat × Int)) : q ∈ insertPair p ps ↔ q = p ∨ q ∈ ps := by
  induction ps with
  | nil => simp [insertPair]
  | cons r ps ih =>
    rw [insertPair]
    split
    · simp
    · rw [List.mem_cons, ih, List.mem_cons]
      tauto

theorem mem_foldl_insertPair (ps kept : List (Nat × Int)) (q : Nat × Int) :
    q ∈ ps.foldl (fun ps p => insertPair p ps) kept ↔ q ∈ ps ∨ q ∈ kept := by
  induction ps generalizing kept with
  | nil => simp
  | cons p ps ih =>
    rw [List.foldl_cons, ih, mem_insertPair, List.mem_cons]
    tauto

/-- The bank that a store makes holds every RW item of the domain that differs from its Reset value. -/
theorem bankStored_captures {s : State} {dom o : Nat} (hdom : dom = 0xFF ∨ objDom o = dom) (hacc : objAccess o = 1)
    (hval : kget paramReset s.params o ≠ paramReset o) : ∃ p ∈ (bankStored s dom).pairs, p.1 = o := by
  obtain ⟨p, hp, rfl⟩ : ∃ p ∈ s.params, p.1 = o := by
    by_contra hno
    exact hval (kget_of_not_listed hno)
  refine ⟨p, (mem_foldl_insertPair _ _ _).mpr (.inl (List.mem_filter.mpr ⟨hp, ?_⟩)), rfl⟩
  rcases hdom with h | h <;> simp [h, hacc]

/-- Is a domain one that NVM_STORE stores in region U (19 R407)? -/
def userDom (dom : Nat) : Prop := (1 ≤ dom ∧ dom ≤ 0x10) ∨ dom = 0xFF

theorem bodyNvmStore_captures {dom : Nat} {s : State} (hdom : userDom dom) (hop : s.cal.nvmOp = none) :
    bodyNvmStore dom s = ({ s with free := s.free + 1, cal := { s.cal with nvmOp := some (.store dom (some (bankStored s dom))
      (if dom = 0xFF then some s.cal.repair else none) (storeBytes s (some (bankStored s dom)) (decide (dom = 0xFF))).1) } },
      .later .nvmStore) := by
  have huser : ((decide (1 ≤ dom) && decide (dom ≤ 0x10)) || decide (dom = 0xFF)) = true := by simpa [userDom] using hdom
  have hmap : (decide (dom = 0xF0) || decide (dom = 0xFF)) = decide (dom = 0xFF) := by
    have hne : dom ≠ 0xF0 := by unfold userDom at hdom; omega
    simp [hne]
  unfold bodyNvmStore
  rw [huser, hmap, hop]
  simp only [Bool.not_true, Bool.false_and, Bool.false_eq_true, if_false, Option.isSome_none, if_true, decide_eq_true_eq]
  rfl

theorem bodyNvmStore_busy {dom : Nat} {s : State} (hdom : userDom dom) (hop : s.cal.nvmOp ≠ none) :
    bodyNvmStore dom s = reply s (busy (nvmSlot s)) := by
  have huser : ((decide (1 ≤ dom) && decide (dom ≤ 0x10)) || decide (dom = 0xFF)) = true := by simpa [userDom] using hdom
  unfold bodyNvmStore
  rw [huser]
  simp only [Bool.not_true, Bool.false_and, Bool.false_eq_true, if_false]
  rw [if_pos (Option.isSome_iff_ne_none.mpr hop)]

theorem nvmStore_defers {r : Req} {dom : Nat} {s : State} (hopen : mailboxOpen s r.slot = true) (hdom : userDom dom)
    (hop : s.cal.nvmOp = none) : ∃ bytes, Defers (.nvmStore r dom) r.slot s { s with free := s.free + 1, cal := { s.cal with
      nvmOp := some (.store dom (some (bankStored (accept s r 0x0A01) dom)) (if dom = 0xFF then some s.cal.repair else none) bytes) } }
      .nvmStore := by
  refine ⟨(storeBytes (accept s r 0x0A01) (some (bankStored (accept s r 0x0A01) dom)) (decide (dom = 0xFF))).1,
    defers_of_body (accept s r 0x0A01).params rfl hopen (by simp) ?_ (accept_params s r _) rfl⟩
  exact bodyNvmStore_captures (s := accept s r 0x0A01) hdom hop

/-! ### NVM_STORE_DONE, NVM_ERASE_DONE (19 R407, R409, R411) -/

theorem nvmGood_onlyCollector (s : State) (n : Nat) :
    OnlyCollector { s with cal := { s.cal with nvmBad := s.cal.nvmBad.filter (fun r => r ≠ n) } } (nvmGood s n) := by
  unfold nvmGood
  dsimp only
  exact .ite (clearLive_onlyCollector _ _) (.refl _)

/-- The banks with the inactive one written and made active. -/
def calWritten (c : Cal) (b : NvmBank) : Cal :=
  if c.activeBank = 0 then { c with bank1 := b, activeBank := 1 } else { c with bank0 := b, activeBank := 0 }

theorem bankWritten_spec (s : State) (b : NvmBank) :
    (bankWritten s b).cal = { calWritten s.cal b with nvmBad := (calWritten s.cal b).nvmBad.filter (fun r => r ≠ regionU) } ∧
    getP (bankWritten s b) 9 0 aNVM_U_WRITES = inc32 (getP s 9 0 aNVM_U_WRITES) ∧ (bankWritten s b).staged = s.staged := by
  have hgood := nvmGood_onlyCollector (bumpP { s with cal := calWritten s.cal b } 0x09 0 aNVM_U_WRITES) regionU
  have hwritten : bankWritten s b = nvmGood (bumpP { s with cal := calWritten s.cal b } 0x09 0 aNVM_U_WRITES) regionU := rfl
  have hitem := (hgood.items (objId 9 0 aNVM_U_WRITES) (by decide)).trans
    (getP_bumpP_same { s with cal := calWritten s.cal b } 9 0 aNVM_U_WRITES)
  rw [hwritten]
  refine ⟨?_, hitem, ?_⟩ <;> (rw [hgood.rest]; rfl)

theorem nvmStoreDone_writes {dom bytes : Nat} {b : NvmBank} {s : State} (h : s.cal.nvmOp = some (.store dom (some b) none bytes)) :
    exec (.nvmStoreDone true) s = .next (complete (bankWritten { s with cal := { s.cal with nvmOp := none } } b) .nvmStore
      (okWith (leBytes 4 bytes))) := by
  show execNvmStoreDone true s = _
  rw [execNvmStoreDone, h]
  rfl

theorem nvmStoreDone_fails {dom bytes : Nat} {b : NvmBank} {s : State} (h : s.cal.nvmOp = some (.store dom (some b) none bytes)) :
    exec (.nvmStoreDone false) s = .next (complete (nvmError { s with cal := { s.cal with nvmOp := none } } regionU 0) .nvmStore
      (statusOnly stTimeout)) := by
  show execNvmStoreDone false s = _
  rw [execNvmStoreDone, h]
  rfl

theorem nvmEraseUser_defers {r : Req} {s : State} (hopen : mailboxOpen s r.slot = true) (hop : s.cal.nvmOp = none) :
    Defers (.nvmEraseUser r 0x4555) r.slot s { s with cal := { s.cal with nvmOp := some .erase } } .nvmErase := by
  have hfree : (accept s r 0x0A03).cal.nvmOp = none := hop
  refine defers_of_body (accept s r 0x0A03).params rfl hopen (by simp) ?_ (accept_params s r _) rfl
  rw [bodyNvmEraseUser, if_neg (by decide), hfree]
  rfl

theorem nvmEraseDone_erases {s : State} (hop : s.cal.nvmOp = some .erase) : exec (.nvmEraseDone true) s =
    .next (complete { s with cal := { s.cal with nvmOp := none, bank0 := bankBlank, bank1 := bankBlank } } .nvmErase okBare) := by
  show execNvmEraseDone true s = _
  rw [execNvmEraseDone, hop]
  rfl

/-! ### NVM_RESTORE (19 R408) -/

/-- The pairs of the active bank that a restore of a domain stages. -/
def restored (s : State) (dom : Nat) : List (Nat × Int) :=
  (bankU s).pairs.filter (fun p => decide (dom = 0xFF) || decide (objDom p.1 = dom))

theorem stageAll_staged_congr {s t : State} (ps : List (Nat × Int)) (h : s.staged = t.staged) :
    (stageAll s ps).staged = (stageAll t ps).staged := by
  induction ps generalizing s t with
  | nil => exact h
  | cons p ps ih => exact ih (congrArg (fun m => kput noStage m p.1 (some p.2)) h)

theorem nvmRestore_stages {r : Req} {dom : Nat} {s : State} (hopen : mailboxOpen s r.slot = true) (hdom : userDom dom)
    (hop : s.cal.nvmOp = none) (hvalid : (bankU s).valid = true) (hok : ∀ p ∈ (bankU s).pairs, pairOk p = true) :
    Answers (.nvmRestore r dom none) r.slot s (stageAll s (restored s dom)) { okWith (leBytes 4 (restored s dom).length) with item := 0 } := by
  have hfree : (accept s r 0x0A02).cal.nvmOp = none := hop
  have hbank : bankU (accept s r 0x0A02) = bankU s := rfl
  have hbad : firstBad pairOk 0 (restored s dom) = none := firstBad_all 0 fun p hp => hok p (List.mem_filter.mp hp).1
  have hbody : bodyNvmRestore r.slot dom none (accept s r 0x0A02) =
      (stageAll (accept s r 0x0A02) (restored s dom), .final { okWith (leBytes 4 (restored s dom).length) with item := 0 }) := by
    unfold bodyNvmRestore
    rw [hfree]
    simp only [Option.isSome_none, Bool.false_eq_true, if_false]
    rw [if_neg (by unfold userDom at hdom; omega), hbank, if_pos hvalid]
    show restorePairs 0 (restored s dom) _ = _
    rw [restorePairs, hbad]
  refine answers_of_body (accept s r 0x0A02).params rfl hopen (by simp) ?_ (fun o ho => ?_) ?_ ?_
  · rw [hbody, stageAll_rest (accept s r 0x0A02), stageAll_staged_congr (t := s) _ (by rfl), stageAll_rest s]
    rfl
  · rw [stageAll_rest]
    exact accept_params s r _ o ho
  · rw [stageAll_rest]
  · rw [stageAll_rest]
    exact snags_of_mailboxOpen hopen

/-- Settles O52: the captured bank becomes active only when the write has succeeded. -/
theorem regionU_holds : Obligations.RegionU := by
  unfold Obligations.RegionU
  refine ⟨fun r dom s hopen hdom hop => ?_, fun r dom s hopen hdom hop => ?_, fun dom bytes b s h hactive => ?_,
    fun dom bytes b s h => ?_, fun r s hopen hop => nvmEraseUser_defers hopen hop, fun s h => ?_,
    fun r dom s hopen hdom hop hvalid hok => ?_⟩
  · obtain ⟨bytes, hdefers⟩ := nvmStore_defers hopen hdom hop
    refine ⟨_, bytes, hdefers, fun hvalid => ?_, fun o ho hacc hval => bankStored_captures ho hacc ?_⟩
    · have hv : (bankU (accept s r 0x0A01)).valid = true := hvalid
      show ((if (bankU (accept s r 0x0A01)).valid then bankU (accept s r 0x0A01) else bankBlank).generation + 1) % 2 ^ 32 = _
      rw [if_pos hv]
      rfl
    · have hne : o ≠ objId 0x01 0 xMBX_ACCEPTED := by
        rintro rfl
        exact absurd hacc (by decide)
      rw [accept_params s r _ o hne]
      exact hval
  · have hbusy : (accept s r 0x0A01).cal.nvmOp ≠ none := hop
    refine ⟨_, answers_of_body (accept s r 0x0A01).params rfl hopen (by simp) (bodyNvmStore_busy hdom hbusy) (accept_params s r _) rfl
      (snags_of_mailboxOpen hopen)⟩
  · obtain ⟨hcal, hwrites, hstaged⟩ := bankWritten_spec { s with cal := { s.cal with nvmOp := none } } b
    refine ⟨_, nvmStoreDone_writes h, ?_⟩
    rw [complete_rest]
    generalize bankWritten { s with cal := { s.cal with nvmOp := none } } b = u at *
    rw [bankU]
    dsimp only
    rw [hcal]
    refine ⟨?_, ?_, ?_, ?_, ?_, hwrites, hstaged⟩ <;>
      (unfold calWritten; dsimp only; by_cases h0 : s.cal.activeBank = 0 <;> simp [h0])
    omega
  · refine ⟨_, nvmStoreDone_fails h, ?_⟩
    rw [complete_rest, nvmError, detect_rest]
    exact ⟨rfl, rfl, rfl, rfl, rfl, rfl⟩
  · refine ⟨_, nvmEraseDone_erases h, ?_⟩
    rw [complete_rest]
    exact ⟨rfl, rfl, rfl⟩
  · refine ⟨_, _, nvmRestore_stages hopen hdom hop hvalid hok, rfl, stageAll_rest _ _, fun o v pre post hpairs hpost ho => ?_, fun o ho => ?_⟩
    · have hkeep : (decide (dom = 0xFF) || decide (objDom o = dom)) = true := by simpa using ho
      have hsplit := List.filter_cons_of_pos (p := fun p : Nat × Int => decide (dom = 0xFF) || decide (objDom p.1 = dom)) (a := (o, v))
        (l := post) hkeep
      rw [restored, hpairs, List.filter_append, hsplit]
      exact stagedOf_stageAll_last s fun p hp => hpost p (List.mem_filter.mp hp).1
    · exact stagedOf_stageAll_other s fun p hp => ho p (List.mem_filter.mp hp).1

end Sys2Proof.Machine
end

section
/-! PROOFS. Calibration records and spares (19_calibration_nvm.md): O53. -/

namespace Sys2Proof.Machine

/-! ### A run's record (19 R396) -/

theorem calGet_calSet (s : State) (d i d' i' : Nat) (x : CalRec) :
    calGet (calSet s d i x) d' i' = if calKey d i = calKey d' i' then x else calGet s d' i' :=
  kget_kput (fun _ => calBlank) s.cal.recs (calKey d i) (calKey d' i') x

theorem calGet_calSet_same (s : State) (d i : Nat) (x : CalRec) : calGet (calSet s d i x) d i = x :=
  (calGet_calSet s d i d i x).trans (if_pos rfl)

theorem calGet_calSet_other {d i d' i' : Nat} (s : State) (x : CalRec) (h : calKey d i ≠ calKey d' i') :
    calGet (calSet s d i x) d' i' = calGet s d' i' := (calGet_calSet s d i d' i' x).trans (if_neg h)

theorem calGet_of_cal_eq {s t : State} (h : t.cal = s.cal) (d i : Nat) : calGet t d i = calGet s d i := by
  rw [calGet, h, calGet]

theorem calBusy_of_cal_eq {s t : State} (h : t.cal = s.cal) (d i : Nat) : calBusy t d i = calBusy s d i := by
  rw [calBusy, calGet_of_cal_eq h, calBusy]

theorem calBusy_calSet_other {d i d' i' : Nat} (s : State) (x : CalRec) (h : calKey d i ≠ calKey d' i') :
    calBusy (calSet s d i x) d' i' = calBusy s d' i' := by
  rw [calBusy, calGet_calSet_other s x h, calBusy]

theorem testsSettle_idle {s : State} {d : Nat} (h : calBusy s d 0 = false) : testsSettle s d = s := by
  rw [testsSettle, h]
  rfl

theorem calEndAll_idle {s : State} {d : Nat} (h : calBusy s d 0xFF = false) : calEndAll s d = s := by
  rw [calEndAll, h]
  rfl

theorem complete_cal (s : State) (j : Job) (r : Reply) : (complete s j r).cal = s.cal := by rw [complete_rest]

theorem post_cal (s : State) (n : Nat) (a : Answer) : (post s n a).cal = s.cal := by
  cases a with
  | final r => rw [post, finish_rest]
  | later j => rw [post, writeResponse_eq]

/-- With no run of all insts at once, a run ends by its own record. -/
theorem calEnd_alone {s : State} {d i : Nat} (hkey : calKey d i ≠ calKey d 0xFF) (hall : calBusy s d 0xFF = false) :
    calEnd s d i = complete (calSet s d i (calDoneRec s (calGet s d i) (bitN (calGet s d i).failed))) (.calRun d i)
      (okWith (calPayload (calDoneRec s (calGet s d i) (bitN (calGet s d i).failed)))) := by
  have hset : ∀ x, calBusy (calSet s d i x) d 0xFF = false := fun x => (calBusy_calSet_other s x hkey).trans hall
  unfold calEnd
  dsimp only
  rw [hset, Bool.and_false, if_neg (by decide), calEndAll_idle]
  rw [calBusy_of_cal_eq (complete_cal _ _ _), hset]

/-! ### CAL_RUN, SRAM_CAL_DONE, CAL_ABORT (19 R395, R396, R401): O53 -/

/-- The tests of Needles and engines settle nothing where neither runs. -/
theorem calRun_unsettled {r : Req} {dom ins : Nat} {s u : State} (h : mbxRun (.calRun r dom ins) r 0x0901 false (bodyCalRun dom ins) s = u)
    (h5 : calBusy u 5 0 = false) (h7 : calBusy u 7 0 = false) : exec (.calRun r dom ins) s = .next u := by
  show execCalRun r dom ins s = _
  rw [execCalRun, h, testsSettle_idle h5, testsSettle_idle h7]

theorem calRunSram_defers {r : Req} {s : State} (hopen : mailboxOpen s r.slot = true) (h6 : calBusy s 6 0 = false)
    (h5 : calBusy s 5 0 = false) (h7 : calBusy s 7 0 = false) :
    Defers (.calRun r 6 0) r.slot s (calBegin s 6 0 .background) (.calRun 6 0) := by
  have hbody : bodyCalRun 6 0 (accept s r 0x0901) = (calBegin (accept s r 0x0901) 6 0 .background, .later (.calRun 6 0)) := by
    have hidle : calBusy (accept s r 0x0901) 6 0 = false := h6
    have htaken : calTaken (accept s r 0x0901) 6 0 = false := by simp [calTaken, hidle]
    rw [bodyCalRun, show calFault 6 0 = none from rfl]
    dsimp only
    rw [htaken]
    rfl
  have hrun := mbxRun_open (.calRun r 6 0) r 0x0901 false (bodyCalRun 6 0) s hopen (by simp)
  have hcal : (mbxRun (.calRun r 6 0) r 0x0901 false (bodyCalRun 6 0) s).cal = (calBegin s 6 0 .background).cal := by
    rw [hrun, hbody, post_cal]
    rfl
  refine defers_of_body (accept s r 0x0901).params (calRun_unsettled rfl ?_ ?_) hopen (by simp) hbody (accept_params s r _) rfl
  · rw [calBusy_of_cal_eq hcal, calBegin, calBusy_calSet_other s _ (by decide), h5]
  · rw [calBusy_of_cal_eq hcal, calBegin, calBusy_calSet_other s _ (by decide), h7]

theorem calRun_busy {r : Req} {dom ins : Nat} {s : State} (hopen : mailboxOpen s r.slot = true) (hok : calFault dom ins = none)
    (htaken : calTaken s dom ins = true) (h5 : calBusy s 5 0 = false) (h7 : calBusy s 7 0 = false) :
    Answers (.calRun r dom ins) r.slot s s (busy (calTakenBy (accept s r 0x0901) dom ins)) := by
  have hbody : bodyCalRun dom ins (accept s r 0x0901) = reply (accept s r 0x0901) (busy (calTakenBy (accept s r 0x0901) dom ins)) := by
    have h : calTaken (accept s r 0x0901) dom ins = true := htaken
    rw [bodyCalRun, hok]
    dsimp only
    rw [if_pos h]
  have hrun := mbxRun_open (.calRun r dom ins) r 0x0901 false (bodyCalRun dom ins) s hopen (by simp)
  have hcal : (mbxRun (.calRun r dom ins) r 0x0901 false (bodyCalRun dom ins) s).cal = s.cal := by
    rw [hrun, hbody, post_cal]
    rfl
  exact answers_of_body (accept s r 0x0901).params (calRun_unsettled rfl ((calBusy_of_cal_eq hcal 5 0).trans h5)
    ((calBusy_of_cal_eq hcal 7 0).trans h7)) hopen (by simp) hbody (accept_params s r _) rfl (snags_of_mailboxOpen hopen)

/-- The record of SRAM as a run ends: of the run, or of one in which a row failed. -/
def sramEnds (failed : Bool) (s : State) : State := if failed then calFail s 6 0 else s

theorem sramCalDone_ends {failed : Bool} {s : State} (h : calBusy s 6 0 = true) :
    exec (.sramCalDone failed []) s = .next (calEnd (sramEnds failed s) 6 0) := by
  show execSramCalDone failed [] s = _
  rw [execSramCalDone, if_pos h]
  rfl

theorem sramEnds_spec (failed : Bool) (s : State) : sramEnds failed s = { s with cal := { s.cal with recs := (sramEnds failed s).cal.recs } } ∧
    calBusy (sramEnds failed s) 6 0xFF = calBusy s 6 0xFF ∧
    calGet (sramEnds failed s) 6 0 = { calGet s 6 0 with failed := failed || (calGet s 6 0).failed } := by
  unfold sramEnds
  split
  · next h =>
    refine ⟨rfl, calBusy_calSet_other s _ (by decide), ?_⟩
    rw [calFail, calGet_calSet_same, h]
    rfl
  · next h =>
    refine ⟨rfl, rfl, ?_⟩
    rw [Bool.not_eq_true] at h
    rw [h]
    rfl

theorem sramCalDone_spec {failed : Bool} {s : State} (hbusy : calBusy s 6 0 = true) (hall : calBusy s 6 0xFF = false) :
    ∃ t, exec (.sramCalDone failed []) s = .next t ∧
      t = { s with cal := { s.cal with recs := t.cal.recs }, slots := t.slots, link := t.link } ∧
      calGet t 6 0 = calDoneRec s (calGet s 6 0) (bitN (failed || (calGet s 6 0).failed)) := by
  obtain ⟨hrest, hall', hrec⟩ := sramEnds_spec failed s
  have hnow : ∀ x, calDoneRec (sramEnds failed s) x = calDoneRec s x := fun x => by
    funext b
    rw [hrest]
    rfl
  refine ⟨_, sramCalDone_ends hbusy, ?_, ?_⟩
  · rw [calEnd_alone (by decide) (hall'.trans hall), complete_rest]
    generalize hx : calDoneRec _ _ _ = x
    rw [calSet, hrest]
  · rw [calEnd_alone (by decide) (hall'.trans hall), calGet_of_cal_eq (complete_cal _ _ _), calGet_calSet_same, hrec, hnow]
    rfl

theorem calAbort_aborts {r : Req} {s : State} (hopen : mailboxOpen s r.slot = true) (hbusy : calBusy s 6 0 = true)
    (hall : calBusy s 6 0xFF = false) : ∃ t, exec (.calAbort r 6 0) s = .next t ∧ answered t r.slot okBare ∧
      calGet t 6 0 = { calGet s 6 0 with st := .idle, lastStatus := 3, failed := false } := by
  have hbusy' : calBusy (accept s r 0x0903) 6 0 = true := hbusy
  have habort : calAbortOne (accept s r 0x0903) 6 0 = complete (calSet (accept s r 0x0903) 6 0
      { calGet s 6 0 with st := .idle, lastStatus := 3, failed := false }) (.calRun 6 0) (statusOnly stAborted) := by
    rw [calAbortOne, if_neg (by decide), hbusy', if_neg (by decide)]
    show calAbortRun _ 6 0 = _
    rw [calAbortRun, if_pos hbusy']
    rfl
  have hnone : s.col.snags = [] := snags_of_mailboxOpen hopen
  generalize hv : calSet (accept s r 0x0903) 6 0 { calGet s 6 0 with st := .idle, lastStatus := 3, failed := false } = v at habort
  have hsnags : v.col.snags = [] := by rw [← hv]; exact hnone
  have hrec : calGet v 6 0 = { calGet s 6 0 with st := .idle, lastStatus := 3, failed := false } := by rw [← hv, calGet_calSet_same]
  have hall' : calBusy v 6 0xFF = false := by
    rw [← hv, calBusy_calSet_other _ _ (by decide)]
    exact hall
  have hbody : bodyCalAbort 6 0 (accept s r 0x0903) = (complete v (.calRun 6 0) (statusOnly stAborted), .final okBare) := by
    rw [bodyCalAbort, show calFault 6 0 = none from rfl]
    show (calEndAll (calAbortOne (accept s r 0x0903) 6 0) 6, Answer.final okBare) = _
    rw [habort, calEndAll_idle (by rw [calBusy_of_cal_eq (complete_cal _ _ _), hall'])]
  refine ⟨finish (complete v (.calRun 6 0) (statusOnly stAborted)) r.slot okBare, ?_, ?_, ?_⟩
  · show execCalAbort r 6 0 s = _
    rw [execCalAbort, mbxRun_open _ _ _ _ _ _ hopen (by simp), hbody, post]
  · rw [finish_open _ _ _ (by rw [complete_rest]; exact hsnags)]
    simp [answered, slotOf_writeResponse]
  · rw [finish_rest, complete_rest]
    exact hrec

/-! ### Tests of cores and engines (09 R214 to R216; 10 R234; 19 R402, R410) -/

/-- Cores, engines and the repair map as a test's result left them. -/
structure UnitsKept (s t : State) : Prop where
  needle : t.needle = s.needle
  comp : t.comp = s.comp
  repair : t.cal.repair = s.cal.repair

theorem UnitsKept.refl (s : State) : UnitsKept s s := ⟨rfl, rfl, rfl⟩

theorem UnitsKept.after {a b c : State} (k : UnitsKept b c) (h : UnitsKept a b) : UnitsKept a c :=
  ⟨k.needle.trans h.needle, k.comp.trans h.comp, k.repair.trans h.repair⟩

theorem UnitsKept.ite {c : Prop} [Decidable c] {s a b : State} (h : UnitsKept s a) (k : UnitsKept s b) :
    UnitsKept s (if c then a else b) := by
  split
  · exact h
  · exact k

theorem complete_unitsKept (s : State) (j : Job) (r : Reply) : UnitsKept s (complete s j r) := by
  rw [complete_rest]
  exact ⟨rfl, rfl, rfl⟩

theorem calSet_unitsKept (s : State) (d i : Nat) (x : CalRec) : UnitsKept s (calSet s d i x) := ⟨rfl, rfl, rfl⟩

theorem calEndAll_unitsKept (s : State) (d : Nat) : UnitsKept s (calEndAll s d) := by
  unfold calEndAll
  dsimp only
  exact .ite ((complete_unitsKept _ _ _).after (calSet_unitsKept s d 0xFF _)) (.refl s)

theorem calEnd_unitsKept (s : State) (d i : Nat) : UnitsKept s (calEnd s d i) := by
  unfold calEnd
  dsimp only
  have hrec := calSet_unitsKept s d i (calDoneRec s (calGet s d i) (bitN (calGet s d i).failed))
  exact ((calEndAll_unitsKept _ d).after (complete_unitsKept _ _ _)).after (.ite ((calSet_unitsKept _ d 0xFF _).after hrec) hrec)

theorem testsSettle_unitsKept (s : State) (d : Nat) : UnitsKept s (testsSettle s d) := by
  unfold testsSettle
  exact .ite (calEnd_unitsKept s d 0) (.refl s)

theorem unitTested_unitsKept (s : State) (u : Nat) (pass : Bool) : UnitsKept s (unitTested s u pass) := by
  unfold unitTested
  split
  · have htested : UnitsKept s { s with cal := { s.cal with underTest := s.cal.underTest.filter (fun v => v ≠ u) } } := ⟨rfl, rfl, rfl⟩
    exact (testsSettle_unitsKept _ _).after (.ite htested ((calSet_unitsKept _ _ 0 _).after htested))
  · exact .refl s

theorem onlyCollector_unitsKept {s t : State} (h : OnlyCollector s t) : UnitsKept s t := by
  rw [h.rest]
  exact ⟨rfl, rfl, rfl⟩

theorem coreUse_unitsKept {s t : State} (h : UnitsKept s t) (c : Nat) : coreUse t c = coreUse s c := by
  rw [coreUse, h.needle, coreUse]

theorem engineOf_unitsKept {s t : State} (h : UnitsKept s t) (e : Nat) : engineOf t e = engineOf s e := by
  rw [engineOf, h.comp, engineOf]

theorem repairHas_unitsKept {s t : State} (h : UnitsKept s t) (u : RepairUnit) : repairHas t u = repairHas s u := by
  rw [repairHas, h.repair, repairHas]

theorem coreUse_setUse (s : State) (c d : Nat) (u : CoreUse) : coreUse (setUse s c u) d = if c = d then u else coreUse s d :=
  kget_kput coreUseReset s.needle.use c d u

theorem coreUse_repairAdd (s : State) (u : RepairUnit) (c : Nat) : coreUse (repairAdd s u) c = coreUse s c := by
  unfold repairAdd
  split <;> rfl

theorem engineOf_repairAdd (s : State) (u : RepairUnit) (e : Nat) : engineOf (repairAdd s u) e = engineOf s e := by
  unfold repairAdd
  split <;> rfl

theorem coreSelftestDone_passes {c t : Nat} {s : State} (huse : coreUse s c = .testing t) (hdue : t ≤ nowClk s) :
    ∃ u, exec (.coreSelftestDone c true) s = .next u ∧ UnitsKept (repairDrop (setUse s c .spare) (.core c)) u := by
  refine ⟨unitTested (clearIf (repairDrop (setUse s c .spare) (.core c)) 51) c true, ?_,
    (unitTested_unitsKept _ _ _).after (onlyCollector_unitsKept (clearLive_onlyCollector _ _))⟩
  show execCoreSelftestDone c true s = _
  rw [execCoreSelftestDone, huse]
  dsimp only
  rw [if_neg (by omega), if_pos rfl]

theorem coreSelftestDone_fails {c t : Nat} {s : State} (huse : coreUse s c = .testing t) (hdue : t ≤ nowClk s) :
    ∃ u, exec (.coreSelftestDone c false) s = .next u ∧ UnitsKept (repairAdd (setUse s c .failed) (.core c)) u := by
  refine ⟨unitTested (testFails s c) c false, ?_, (unitTested_unitsKept _ _ _).after (onlyCollector_unitsKept
    ((quietIn_onlyCollector _ _ _).after (detect_onlyCollector (repairAdd (setUse s c .failed) (.core c)) (coreSource c))))⟩
  show execCoreSelftestDone c false s = _
  rw [execCoreSelftestDone, huse]
  dsimp only
  rw [if_neg (by omega), if_neg (by decide)]

theorem compTestDone_passes {e t : Nat} {s : State} (hst : (engineOf s e).st = .testing t) (hdue : t ≤ nowClk s) :
    ∃ u, exec (.compTestDone e true) s = .next u ∧ UnitsKept (repairDrop (setEngine s e ⟨.spare, .idle, 0⟩) (.engine e)) u := by
  refine ⟨unitTested (clearIf (repairDrop (setEngine s e ⟨.spare, .idle, 0⟩) (.engine e)) 57) (256 + e) true, ?_,
    (unitTested_unitsKept _ _ _).after (onlyCollector_unitsKept (clearLive_onlyCollector _ _))⟩
  show execCompTestDone e true s = _
  rw [execCompTestDone, hst]
  dsimp only
  rw [if_neg (by omega), if_pos rfl]

theorem compTestDone_fails {e t : Nat} {s : State} (hst : (engineOf s e).st = .testing t) (hdue : t ≤ nowClk s) :
    ∃ u, exec (.compTestDone e false) s = .next u ∧ UnitsKept (repairAdd (setEngine s e ⟨.failed, .idle, 0⟩) (.engine e)) u := by
  refine ⟨unitTested (repairAdd (setEngine s e ⟨.failed, .idle, 0⟩) (.engine e)) (256 + e) false, ?_, unitTested_unitsKept _ _ _⟩
  show execCompTestDone e false s = _
  rw [execCompTestDone, hst]
  dsimp only
  rw [if_neg (by omega), if_neg (by decide)]

/-- The state in which a spare's test is about to start. -/
def spareTestDue (s : State) (u : Nat) : State :=
  calBegin { s with cal := { s.cal with spareTestSince := nowClk s, spareTestNext := (u + 1) % 77 } } 5 0 .background

theorem spareTestTimer_tests {u : Nat} {s : State} (happlied : s.boot.userApplied = true) (hperiod : spareTestTicks s ≠ 0)
    (hdue : s.cal.spareTestSince + spareTestTicks s ≤ nowClk s) (hnext : nextSpareUnit s = some u) (hu : u < 68)
    (hidle : calBusy s 5 0 = false) : exec .spareTestTimer s = .next (testCores (spareTestDue s u) 0 [u]) := by
  have hnext' : nextSpareUnit { s with cal := { s.cal with spareTestSince := nowClk s } } = some u := hnext
  have hidle' : calBusy { s with cal := { s.cal with spareTestSince := nowClk s } } 5 0 = false := hidle
  show execSpareTestTimer s = _
  rw [execSpareTestTimer]
  dsimp only
  rw [if_neg (by simp [hperiod, happlied]; omega), hnext']
  dsimp only
  rw [if_pos hu, hidle', if_neg (by decide), if_pos hu]
  rfl

/-! ### SRAM rows (19 R403) -/

theorem sramRowRepair_few {array row : Nat} {errs : List Nat} {s : State} (h : errorsRecent s errs < natP s 9 0 aSRAM_REPAIR_COUNT) :
    exec (.sramRowRepair ⟨array, row⟩ errs) s = .next s := by
  show execSramRowRepair ⟨array, row⟩ errs s = _
  rw [execSramRowRepair, if_pos (by simp [h])]

theorem sramRowRepair_repairs {array row : Nat} {errs : List Nat} {s : State} (hdone : s.boot.marchDone = true)
    (herrs : natP s 9 0 aSRAM_REPAIR_COUNT ≤ errorsRecent s errs) (hrows : rowsUsed s array < 4) :
    exec (.sramRowRepair ⟨array, row⟩ errs) s = .next (quietIn (detect (bumpP (rowRepair s array row) 9 0 aSRAM_REPAIRS)
      (rowRaise 59 array row)) 59 (2 * usTicks)) := by
  show execSramRowRepair ⟨array, row⟩ errs s = _
  rw [execSramRowRepair, if_neg (by simp [hdone, herrs]), if_pos hrows]

theorem rowRepair_spec (s : State) (array row : Nat) : rowRepair s array row = { s with cal := (rowRepair s array row).cal } ∧
    rowsUsed (rowRepair s array row) array = rowsUsed s array + 1 ∧ repairHas (rowRepair s array row) (.sramRow array row) = true := by
  have hrow : ∀ t u, rowsUsed (repairAdd t u) array = rowsUsed t array := fun t u => by
    unfold repairAdd
    split <;> rfl
  refine ⟨?_, ?_, repairHas_repairAdd _ _⟩
  · unfold rowRepair repairAdd
    split <;> rfl
  · rw [rowRepair, hrow]
    exact (kget_kput (fun _ => 0) s.cal.sramUsed array array (rowsUsed s array + 1)).trans (if_pos rfl)

/-- Settles O53: a run's record says how it ended, and a unit's test decides between the spares and the repair map. -/
theorem calibrationRecordsAndSpares : Obligations.CalibrationRecordsAndSpares := by
  unfold Obligations.CalibrationRecordsAndSpares
  refine ⟨fun r s hopen h6 h5 h7 => ?_, fun failed s hbusy hall => ?_, fun r s hopen hbusy hall => ?_,
    fun r dom ins s hopen hok htaken h5 h7 => ⟨_, calRun_busy hopen hok htaken h5 h7⟩, fun c t s huse hdue => ⟨?_, ?_⟩,
    fun e t s hst hdue => ⟨?_, ?_⟩, fun u s happlied hperiod hdue hnext hu hidle => ?_, fun array row errs s h => sramRowRepair_few h,
    fun array row errs s hdone herrs hrows => ?_⟩
  · refine ⟨_, calRunSram_defers hopen h6 h5 h7, rfl, ?_, ?_, fun d i h => calGet_calSet_other s _ (Ne.symm h)⟩
    · rw [calBegin, calGet_calSet_same]
    · rw [calBegin, calGet_calSet_same]
  · obtain ⟨t, hexec, hrest, hrec⟩ := sramCalDone_spec (failed := failed) hbusy hall
    refine ⟨t, hexec, hrest, ?_⟩
    rw [hrec]
    refine ⟨rfl, rfl, rfl, fun h => ?_, fun h hf => ?_⟩
    · rw [h]; rfl
    · rw [h, hf]; rfl
  · obtain ⟨t, hexec, hanswered, hrec⟩ := calAbort_aborts hopen hbusy hall
    refine ⟨t, hexec, hanswered, ?_⟩
    rw [hrec]
    exact ⟨rfl, rfl, rfl, rfl⟩
  · obtain ⟨u, hexec, hkept⟩ := coreSelftestDone_passes huse hdue
    refine ⟨u, hexec, ?_, ?_, fun d hd => ?_⟩
    · rw [coreUse_unitsKept hkept]; exact (coreUse_setUse s c c .spare).trans (if_pos rfl)
    · rw [repairHas_unitsKept hkept, repairHas_repairDrop]
    · rw [coreUse_unitsKept hkept]; exact (coreUse_setUse s c d .spare).trans (if_neg (Ne.symm hd))
  · obtain ⟨u, hexec, hkept⟩ := coreSelftestDone_fails huse hdue
    refine ⟨u, hexec, ?_, ?_, fun d hd => ?_⟩
    · rw [coreUse_unitsKept hkept, coreUse_repairAdd, coreUse_setUse, if_pos rfl]
    · rw [repairHas_unitsKept hkept, repairHas_repairAdd]
    · rw [coreUse_unitsKept hkept, coreUse_repairAdd, coreUse_setUse, if_neg (Ne.symm hd)]
  · obtain ⟨u, hexec, hkept⟩ := compTestDone_passes hst hdue
    refine ⟨u, hexec, ?_, ?_⟩
    · rw [engineOf_unitsKept hkept]; exact engineOf_setEngine_same s e _
    · rw [repairHas_unitsKept hkept, repairHas_repairDrop]
  · obtain ⟨u, hexec, hkept⟩ := compTestDone_fails hst hdue
    refine ⟨u, hexec, ?_, ?_⟩
    · rw [engineOf_unitsKept hkept, engineOf_repairAdd, engineOf_setEngine_same]
    · rw [repairHas_unitsKept hkept, repairHas_repairAdd]
  · refine ⟨_, spareTestTimer_tests happlied hperiod hdue hnext hu hidle, ?_, fun d hd => ?_, rfl⟩
    · exact (coreUse_setUse (spareTestDue s u) u u _).trans (if_pos rfl)
    · exact (coreUse_setUse (spareTestDue s u) u d _).trans (if_neg (Ne.symm hd))
  · obtain ⟨hrest, hused, hmapped⟩ := rowRepair_spec s array row
    refine ⟨_, sramRowRepair_repairs hdone herrs hrows, ?_⟩
    rw [quietIn_detect_rest]
    refine ⟨hused, hmapped, ?_, ?_, ?_⟩
    · exact itemsBut_trans (itemsBut_of_params_eq (by rw [hrest])) (bumpP_itemsBut (rowRepair s array row) (by simp))
    · refine (getP_bumpP_same (rowRepair s array row) 9 0 aSRAM_REPAIRS).trans ?_
      rw [hrest]
      rfl
    · show (rowRepair s array row).col.detected ++ _ = _
      rw [hrest]
      rfl

end Sys2Proof.Machine
end

section
/-! PROOFS. The bind-off (20_cast_on.md): O60. -/

namespace Sys2Proof.Machine

/-! ### What goes on beside the ports' run (01 R24; 06; 07; 10) -/

/-- The part of a port's record that a stop or a drain decides. -/
def runOf (x : Port) : PortSt × StopWish × Option Drain × Bool × Bool := (x.st, x.stop, x.drain, x.launched, x.shotOpen)

/-- Boot state, pair, slots and the run of every port are as before. -/
structure RunKept (s t : State) : Prop where
  boot : t.boot = s.boot
  pair : t.pair = s.pair
  slots : t.slots = s.slots
  run : ∀ p, runOf (portOf t p) = runOf (portOf s p)

theorem RunKept.refl (s : State) : RunKept s s := ⟨rfl, rfl, rfl, fun _ => rfl⟩

theorem RunKept.after {a b c : State} (k : RunKept b c) (h : RunKept a b) : RunKept a c :=
  ⟨k.boot.trans h.boot, k.pair.trans h.pair, k.slots.trans h.slots, fun p => (k.run p).trans (h.run p)⟩

theorem RunKept.ite {c : Prop} [Decidable c] {s a b : State} (h : RunKept s a) (k : RunKept s b) : RunKept s (if c then a else b) := by
  split
  · exact h
  · exact k

theorem RunKept.foldl {β : Type} {f : State → β → State} (h : ∀ s b, RunKept s (f s b)) (xs : List β) (s : State) :
    RunKept s (xs.foldl f s) :=
  List.foldlRecOn (motive := RunKept s) xs f (.refl s) fun t ht b _ => (h t b).after ht

theorem OnlyCollector.runKept {s t : State} (h : OnlyCollector s t) : RunKept s t := by
  rw [h.rest]
  exact ⟨rfl, rfl, rfl, fun _ => rfl⟩

theorem modPort_runKept (s : State) (p : Nat) {f : Port → Port} (hf : ∀ x, runOf (f x) = runOf x) : RunKept s (modPort s p f) := by
  refine ⟨rfl, rfl, rfl, fun q => ?_⟩
  by_cases h : q = p
  · rw [h, portOf_modPort_same, hf]
  · rw [portOf_modPort_ne s f h]

theorem setP_runKept (s : State) (d i n : Nat) (v : Int) : RunKept s (setP s d i n v) := ⟨rfl, rfl, rfl, fun _ => rfl⟩

theorem modZone_runKept (s : State) (z : Nat) (f : Zone → Zone) : RunKept s (modZone s z f) := ⟨rfl, rfl, rfl, fun _ => rfl⟩

theorem modSk_runKept (s : State) (k : Nat) (f : Skein → Skein) : RunKept s (modSk s k f) := ⟨rfl, rfl, rfl, fun _ => rfl⟩

theorem modLoop_runKept (s : State) (n : Nat) (f : Loop → Loop) : RunKept s (modLoop s n f) := ⟨rfl, rfl, rfl, fun _ => rfl⟩

theorem setEngine_runKept (s : State) (e : Nat) (x : Engine) : RunKept s (setEngine s e x) := ⟨rfl, rfl, rfl, fun _ => rfl⟩

theorem raiseQuiet_runKept (s : State) (x : Raise) (src ticks : Nat) : RunKept s (quietIn (detect s x) src ticks) :=
  ((quietIn_onlyCollector _ src ticks).after (detect_onlyCollector s x)).runKept

theorem dropZoneFrame_runKept (s : State) (r : Nat) (qs : List QFrame) : RunKept s (dropZoneFrame s r qs) := by
  unfold dropZoneFrame
  exact (raiseQuiet_runKept _ _ 85 secTicks).after ⟨rfl, rfl, rfl, fun _ => rfl⟩

theorem shedZoneFrames_runKept (n : Nat) (s : State) : RunKept s (shedZoneFrames n s) := by
  induction n generalizing s with
  | zero => exact .refl s
  | succ n ih =>
    unfold shedZoneFrames
    refine .ite (.refl s) ?_
    split
    · exact (ih _).after (dropZoneFrame_runKept s _ _)
    · exact .refl s

theorem queueZone_runKept (s : State) (z : Nat) (f : Frame) : RunKept s (queueZone s z f) := by
  unfold queueZone
  exact (shedZoneFrames_runKept _ _).after ⟨rfl, rfl, rfl, fun _ => rfl⟩

theorem handFrame_runKept (s : State) (z : Nat) (f : Frame) : RunKept s (handFrame s z f) := by
  have hcount : RunKept s (bumpP s 0x04 z zFRAMES_OUT) := setP_runKept s _ _ _ _
  unfold handFrame
  dsimp only
  split
  · exact .after (b := bumpP s 0x04 z zFRAMES_OUT) ⟨rfl, rfl, rfl, fun _ => rfl⟩ hcount
  · exact (queueZone_runKept _ z f).after hcount

theorem closeZoneFrame_runKept (s : State) (z : Nat) : RunKept s (closeZoneFrame s z) := by
  unfold closeZoneFrame
  exact .ite (.refl s) ((handFrame_runKept _ z _).after (modZone_runKept s z _))

theorem zonesPlanInForce_runKept (s : State) (p : Nat) : RunKept s (zonesPlanInForce s p) := by
  unfold zonesPlanInForce
  refine .foldl (fun s z => ?_) _ s
  have hend : RunKept s (zoneOldEnds s z) := (modZone_runKept _ z _).after (closeZoneFrame_runKept s z)
  exact .ite (.refl s) (.ite hend (modZone_runKept s z _))

theorem giveWork_runKept (s : State) (e : Nat) : RunKept s (giveWork s e) := by
  unfold giveWork
  dsimp only
  split
  · exact .ite ⟨rfl, rfl, rfl, fun _ => rfl⟩ ⟨rfl, rfl, rfl, fun _ => rfl⟩
  · exact ⟨rfl, rfl, rfl, fun _ => rfl⟩
  · exact ⟨rfl, rfl, rfl, fun _ => rfl⟩
  · exact .refl s

theorem compAssign_runKept (s : State) : RunKept s (compAssign s) := by
  unfold compAssign
  exact .foldl (fun s e => .ite (giveWork_runKept s e) (.refl s)) _ s

theorem bypassTo_runKept (limit n : Nat) (s : State) : RunKept s (bypassTo limit n s) := by
  induction n generalizing s with
  | zero => exact .refl s
  | succ n ih =>
    unfold bypassTo
    refine .ite (.refl s) ?_
    split
    · exact .refl s
    · next f fs _ =>
      have hqueue : RunKept s (queueZone { s with comp := { s.comp with waiting := fs } } f.frame.zone f.frame) :=
        (queueZone_runKept _ _ _).after ⟨rfl, rfl, rfl, fun _ => rfl⟩
      exact (((ih _).after (raiseQuiet_runKept _ _ 58 secTicks)).after (setP_runKept _ _ _ _ _)).after hqueue

theorem compKick_runKept (s : State) : RunKept s (compKick s) := by
  unfold compKick bypassPast
  exact RunKept.after (.ite (bypassTo_runKept _ _ _) (.refl _)) (compAssign_runKept s)

theorem loopsWatch_runKept (s : State) : RunKept s (loopsWatch s) := by
  unfold loopsWatch
  exact .foldl (fun s n => modLoop_runKept s n _) _ s

theorem loopToFault_runKept (s : State) (n : Nat) : RunKept s (loopToFault s n) := by
  rw [(loopToFault_driven s n).rest]
  exact ⟨rfl, rfl, rfl, fun _ => rfl⟩

theorem loopsHold_runKept (s : State) : RunKept s (loopsHold s) := by
  unfold loopsHold
  exact .foldl (fun s n => .ite (loopToFault_runKept s n) (.refl s)) _ s

theorem setAdc_runKept (s : State) (p c : Nat) (x : AdcChan) : RunKept s (setAdc s p c x) := modPort_runKept s p fun _ => by rfl

theorem stepAbandon_runKept (s : State) (p : Nat) : RunKept s (stepAbandon s p) := by
  unfold stepAbandon
  exact (modPort_runKept _ p fun _ => by rfl).after (.foldl (fun s c => setAdc_runKept s p c _) _ s)

theorem stepOnPlan_runKept (s : State) (p : Nat) : RunKept s (stepOnPlan s p) := by
  have hslots : RunKept s (stepToSlots s p) := modPort_runKept s p fun _ => by rfl
  unfold stepOnPlan
  exact .ite (.refl s) (.ite hslots (((modPort_runKept _ p fun _ => by rfl).after (stepAbandon_runKept _ p)).after hslots))

theorem stepChange_runKept (s : State) (p c : Nat) : RunKept s (stepChange s p c) := by
  unfold stepChange logSet
  exact (setAdc_runKept _ p c _).after (setAdc_runKept s p c _)

theorem stepBegin_runKept (s : State) (p bursts : Nat) (freeFrom : Option Nat) (ofRun : Bool) :
    RunKept s (stepBegin s p bursts freeFrom ofRun) := by
  unfold stepBegin
  exact (modPort_runKept _ p fun _ => by rfl).after (.foldl (fun s c => stepChange_runKept s p c) _ s)

theorem stepKick_runKept (s : State) (p : Nat) : RunKept s (stepKick s p) := by
  unfold stepKick
  exact .ite (.refl s) (.ite (stepBegin_runKept s p _ _ _) (.ite (stepBegin_runKept s p _ _ _) (.refl s)))

theorem stepToFree_runKept (s : State) (p : Nat) : RunKept s (stepToFree s p) := by
  unfold stepToFree
  exact (stepKick_runKept _ p).after (modPort_runKept s p fun _ => by rfl)

theorem skeinsMark_runKept (s : State) (p at_ : Nat) (kind : MarkKind) : RunKept s (skeinsMark s p at_ kind) :=
  .foldl (fun s k => modSk_runKept s k _) _ s

theorem skeinsStopped_runKept (s : State) (p : Nat) : RunKept s (skeinsStopped s p) :=
  .foldl (fun s k => modSk_runKept s k _) _ s

theorem ramanDiscard_runKept (s : State) (p : Nat) : RunKept s (ramanDiscard s p) := by
  unfold ramanDiscard modRaman
  exact modPort_runKept s p fun _ => by rfl

theorem fusionOnPlan_runKept (s : State) (p : Nat) (vals : List (Nat × Int)) : RunKept s (fusionOnPlan s p vals) := by
  have hraman : ∀ (f : Raman → Raman), RunKept s (modRaman (modPort s p (fun x => { x with specDone := [] })) p f) := fun f =>
    (modPort_runKept _ p fun _ => by rfl).after (modPort_runKept s p fun _ => by rfl)
  unfold fusionOnPlan
  exact .ite (hraman _) (.ite (hraman _) (.refl s))

theorem planReports_runKept (s : State) (p : Nat) : RunKept s (planReports s p) := by
  unfold planReports
  dsimp only
  iterate 9 refine (setP_runKept _ _ _ _ _).after ?_
  exact .refl s

theorem hybRestart_runKept (s : State) (p : Nat) : RunKept s (hybRestart s p) := by
  unfold hybRestart setHyb
  exact (modPort_runKept _ p fun _ => by rfl).after (modPort_runKept s p fun _ => by rfl)

theorem forcePlan_runKept (s : State) (p : Nat) (vals : List (Nat × Int)) : RunKept s (forcePlan s p vals) := by
  have hput : RunKept (fusionOnPlan s p vals) (putItems (fusionOnPlan s p vals) vals) := by
    rw [putItems_eq]
    exact ⟨rfl, rfl, rfl, fun _ => rfl⟩
  rw [forcePlan_eq]
  exact (((hybRestart_runKept _ p).after (planReports_runKept _ p)).after (modPort_runKept _ p fun _ => by rfl)).after
    (hput.after (fusionOnPlan_runKept s p vals))

theorem onPlanInForce_runKept (s : State) (p : Nat) : RunKept s (onPlanInForce s p) := by
  unfold onPlanInForce
  exact (((loopsWatch_runKept _).after (compKick_runKept _)).after (skeinsMark_runKept _ p _ .plan)).after
    ((zonesPlanInForce_runKept _ p).after (stepOnPlan_runKept s p))

theorem zoneSwitch_runKept (s : State) (z : Nat) : RunKept s (zoneSwitch s z) := by
  have happly : ∀ (u : State) vals, RunKept u (zoneApply u z vals) := fun u vals => by
    unfold zoneApply
    dsimp only
    exact (modZone_runKept _ z _).after (.foldl (fun _ _ => ⟨by rfl, by rfl, by rfl, fun _ => by rfl⟩) _ u)
  unfold zoneSwitch zoneBuild
  exact ((modZone_runKept _ z _).after (happly _ _)).after (closeZoneFrame_runKept s z)

theorem zoneStopped_runKept (s : State) (z : Nat) : RunKept s (zoneStopped s z) := by
  unfold zoneStopped
  exact RunKept.after (.ite (zoneSwitch_runKept _ z) (closeZoneFrame_runKept _ z)) (modZone_runKept s z _)

theorem zonesPortStopped_runKept (s : State) (p : Nat) : RunKept s (zonesPortStopped s p) := by
  unfold zonesPortStopped
  exact .foldl (fun s z => .ite (zoneStopped_runKept s z) (modZone_runKept s z _)) _ s

theorem onPortStopped_runKept (s : State) (p : Nat) : RunKept s (onPortStopped s p) := by
  unfold onPortStopped
  exact ((loopsWatch_runKept _).after (compKick_runKept _)).after ((skeinsStopped_runKept _ p).after
    ((zonesPortStopped_runKept _ p).after (stepToFree_runKept s p)))

/-! ### The events that carry a bind-off on (20 Table 20-9): O60 -/

theorem bindOffCheck_none {s : State} (h : s.boot.bindOff = none) : bindOffCheck s = s := by
  rw [bindOffCheck, h]

/-- The record of a port whose drain has ended. -/
def drainEnded (x : Port) : Port :=
  { x with st := if x.stop = .idle then .idle else .armed, stop := .none, drain := none, changing := false, shotNext := none
           trigTick := none, lock := lockOff }

theorem endStop_runKept (s : State) (p : Nat) : RunKept (modPort s p drainEnded) (endStop s p) := by
  have hdiscard : RunKept (modPort s p drainEnded) (ramanDiscard (setP (modPort s p drainEnded) 0x03 p pREF_PERIOD 0) p) :=
    (ramanDiscard_runKept _ p).after (setP_runKept _ 3 p pREF_PERIOD 0)
  have hplan : ∀ u, RunKept u (if (portOf s p).nextPlan.isEmpty then u else forcePlan u p (portOf s p).nextPlan) := fun u =>
    .ite (.refl u) (forcePlan_runKept u p _)
  have hforce : ∀ u, RunKept u (if (portOf s p).nextPlan.isEmpty then u else onPlanInForce u p) := fun u =>
    .ite (.refl u) (onPlanInForce_runKept u p)
  unfold endStop
  exact (hforce _).after ((onPortStopped_runKept _ p).after ((hplan _).after hdiscard))

theorem drainEnd_ends {p : Nat} {d : Drain} {s : State} (hd : (portOf s p).drain = some d) (hchange : d.change = false)
    (hdue : d.endClk ≤ nowClk s) (hbind : s.boot.bindOff = none) : exec (.drainEnd p) s = .next (endStop s p) := by
  have hends : drainEnds s p = endStop s p := by
    rw [drainEnds, hd]
    dsimp only
    rw [if_pos hdue, hchange, if_neg (by decide)]
  show execDrainEnd p s = _
  rw [execDrainEnd, hends, bindOffCheck_none]
  rw [(endStop_runKept s p).boot]
  exact hbind

theorem cutPort_pair (s : State) (p : Nat) : (cutPort s p).boot = s.boot ∧ (cutPort s p).pair = s.pair := by
  unfold cutPort
  dsimp only
  split
  · exact ⟨rfl, rfl⟩
  · have hzones : ∀ (u : State) (zs : List Nat), RunKept u (zs.foldl (fun s z => modZone s z (fun y => { y with inq := [], inqB := [] })) u) :=
      fun u zs => .foldl (fun t z => modZone_runKept t z _) zs u
    have hplan : ∀ (u : State) vals, RunKept u (if (portOf s p).nextPlan.isEmpty then u else forcePlan u p vals) := fun u vals =>
      .ite (.refl u) (forcePlan_runKept u p _)
    have h := fun u zs => ((onPortStopped_runKept _ p).after (hzones _ zs)).after
      ((hplan _ (portOf s p).nextPlan).after (ramanDiscard_runKept u p))
    exact ⟨(h _ _).boot, (h _ _).pair⟩

theorem cutPorts_pair (ps : List Nat) (s : State) : (ps.foldl cutPort s).boot = s.boot ∧ (ps.foldl cutPort s).pair = s.pair :=
  List.foldlRecOn (motive := fun t => t.boot = s.boot ∧ t.pair = s.pair) ps cutPort ⟨rfl, rfl⟩ fun t ⟨hb, hp⟩ p _ =>
    ⟨(cutPort_pair t p).1.trans hb, (cutPort_pair t p).2.trans hp⟩

/-- The unit sends no wave any more; one that had the fibre is FAULTED. -/
def waveDropped (s : State) : State :=
  modPair (if decide (s.pair.role = .active) || decide (s.pair.role = .claiming) || decide (s.pair.role = .releasing)
    then setRole s .faulted else s) (fun x => { x with wave := false, lapsed := false, adopting := [], release := false })

theorem stopWave_eq (s : State) : stopWave s = loopsHold (compKick ([0, 1].foldl cutPort (waveDropped s))) := rfl

theorem waveDropped_spec (s : State) : (waveDropped s).boot = s.boot ∧ (waveDropped s).pair.wave = false := by
  unfold waveDropped
  split <;> exact ⟨rfl, rfl⟩

theorem stopWave_spec (s : State) : (stopWave s).boot = s.boot ∧ (stopWave s).pair.wave = false := by
  have hafter := (loopsHold_runKept _).after (compKick_runKept ([0, 1].foldl cutPort (waveDropped s)))
  obtain ⟨hcb, hcp⟩ := cutPorts_pair [0, 1] (waveDropped s)
  rw [stopWave_eq, hafter.boot, hafter.pair, hcb, hcp]
  exact waveDropped_spec s

theorem actWaveStop_stops {s : State} (hbind : s.boot.bindOff = none) (hwave : s.pair.wave = true) (hlapsed : s.pair.lapsed = true) :
    exec .actWaveStop s = .next (stopWave s) := by
  show execActWaveStop s = _
  rw [execActWaveStop, waveStops, if_pos (by simp [hwave, hlapsed]), bindOffCheck_none (by rw [(stopWave_spec s).1]; exact hbind)]

/-- A unit that has released the fibre stands by. -/
def standsBy (s : State) : State := modPair (setRole s .standby) (fun x => { x with wave := false, finalCut := false })

theorem loopsHold_ports (s : State) : (loopsHold s).ports = s.ports :=
  List.foldlRecOn (motive := fun t : State => t.ports = s.ports) _ _ rfl fun t ht n _ => by
    split
    · rw [(loopToFault_driven t n).rest]; exact ht
    · exact ht

theorem swapReleaseDone_stands {s : State} (hbind : s.boot.bindOff = none) (hrole : s.pair.role = .releasing)
    (hcut : s.pair.finalCut = true) : exec .swapReleaseDone s = .next (loopsHold (standsBy s)) := by
  show execSwapReleaseDone s = _
  rw [execSwapReleaseDone, swapReleased, if_pos ⟨hrole, hcut⟩]
  show Host.Outcome.next (bindOffCheck (loopsHold (standsBy s))) = _
  rw [bindOffCheck_none (by rw [(loopsHold_runKept _).boot]; exact hbind)]

/-- A loop whose release has ended is off and drives nothing. -/
def loopFreed (s : State) (n : Nat) : State :=
  modLoop (loopDrive (modLoop s n (fun _ => loopBlank n)) n 0) n (fun x => { x with drive := 0 })

theorem loopReleaseEnd_frees {n : Nat} {s : State} (hbind : s.boot.bindOff = none) (hst : (loopOf s n).st = .releasing)
    (hdue : (loopOf s n).releaseAt ≤ nowClk s) (hwait : slotWaiting s (.loopRelease n) = none) :
    exec (.loopReleaseEnd n) s = .next (loopFreed s n) := by
  have hwait' : slotWaiting (modLoop (loopDrive (modLoop s n (fun _ => loopBlank n)) n 0) n (fun x => { x with drive := 0 }))
      (.loopRelease n) = none := hwait
  have hreleased : loopReleased s n = loopFreed s n := by
    rw [loopReleased, hwait']
    rfl
  show execLoopReleaseEnd n s = _
  rw [execLoopReleaseEnd, if_pos (by simp [hst, hdue]), hreleased, bindOffCheck_none (by exact hbind)]

theorem loopOf_loopFreed (s : State) (n : Nat) : (loopOf (loopFreed s n) n).st = .off ∧ (loopOf (loopFreed s n) n).drive = 0 ∧
    ∀ m, m ≠ n → loopOf (loopFreed s n) m = loopOf s m := by
  obtain ⟨d, hd⟩ := loopOf_loopDrive (modLoop s n (fun _ => loopBlank n)) n 0
  unfold loopFreed
  refine ⟨?_, ?_, fun m hm => ?_⟩
  · rw [loopOf_modLoop_same, hd, loopOf_modLoop_same]; rfl
  · rw [loopOf_modLoop_same]
  · rw [loopOf_modLoop_ne _ _ hm, (loopDrive_driven _ n 0).others m hm, loopOf_modLoop_ne _ _ hm]

/-! ### Channels of the source drive (12 R262, R268) -/

theorem sdOf_modSd (s : State) (c d : Nat) (f : SdChan → SdChan) : sdOf (modSd s c f) d = if c = d then f (sdOf s c) else sdOf s d := by
  rw [sdOf, modSd]
  exact kget_kput sdBlank s.src.chans c d _

theorem sdOf_modSd_same (s : State) (c : Nat) (f : SdChan → SdChan) : sdOf (modSd s c f) c = f (sdOf s c) :=
  (sdOf_modSd s c c f).trans (if_pos rfl)

theorem sdOf_modSd_ne {c d : Nat} (s : State) (f : SdChan → SdChan) (h : d ≠ c) : sdOf (modSd s c f) d = sdOf s d :=
  (sdOf_modSd s c d f).trans (if_neg (Ne.symm h))

theorem sdAdvance_spec (s : State) (c : Nat) : (sdOf (sdAdvance s c) c).st = (sdOf s c).st ∧
    (sdOf (sdAdvance s c) c).periodAt = (sdOf s c).periodAt + sdPeriod s c := by
  unfold sdAdvance
  dsimp only
  rw [sdOf_modSd_same]
  exact ⟨rfl, rfl⟩

theorem sdCarrierPeriod_advances {c : Nat} {s : State} (hbind : s.boot.bindOff = none) (hon : (sdOf s c).st = .on)
    (hdue : (sdOf s c).periodAt + sdPeriod s c ≤ nowClk s) : exec (.sdCarrierPeriod c) s = .next (sdAdvance s c) := by
  have harrive : sdArrive (sdAdvance s c) c = sdAdvance s c := by
    rw [sdArrive, if_neg (by rw [(sdAdvance_spec s c).1, hon]; simp)]
  show execSdCarrierPeriod c s = _
  rw [execSdCarrierPeriod, carrierPeriod, if_pos ⟨.inl (by rw [hon]; decide), hdue⟩, harrive, bindOffCheck_none (by exact hbind)]

/-- A channel that SRC_ENABLE turns ON from OFF: duty 0, and its carrier starts. -/
def sdStarted (s : State) (c : Nat) : State := modSd (sdOn s c 0) c (fun x => { x with periodAt := nowClk s })

theorem sdOf_sdStarted (s : State) (c : Nat) : (sdOf (sdStarted s c) c).st = .on ∧ (sdOf (sdStarted s c) c).p = 0 ∧
    ∀ d, d ≠ c → sdOf (sdStarted s c) d = sdOf s d := by
  unfold sdStarted sdOn
  dsimp only
  refine ⟨?_, ?_, fun d hd => ?_⟩
  · rw [sdOf_modSd_same, sdOf_modSd_same, sdOf_modSd_same]
  · rw [sdOf_modSd_same, sdOf_modSd_same, sdOf_modSd_same]
  · rw [sdOf_modSd_ne _ _ hd, sdOf_modSd_ne _ _ hd, sdOf_modSd_ne _ _ hd]

theorem sdP_accept (s : State) (r : Req) (op c n : Nat) : sdP (accept s r op) c n = sdP s c n := getP_accept s r op c n (by decide)

theorem sdKind_accept (s : State) (r : Req) (op c : Nat) : sdKind (accept s r op) c = sdKind s c :=
  congrArg Int.toNat (sdP_accept s r op c dSD_KIND)

theorem srcEnable_starts {r : Req} {c : Nat} {s : State} (hopen : mailboxOpen s r.slot = true) (hc : c ≤ 7) (hheld : sdHeld s c = none)
    (hoff : (sdOf s c).st = .off) (hkind : sdKind s c ≠ 0) :
    exec (.srcEnable r c) s = .next (writeResponse (sdStarted (accept s r 0x0802) c) r.slot .done .none okBare) := by
  obtain ⟨-, -, -, hbind, -⟩ := boot_of_mailboxOpen hopen
  have hsnags : s.col.snags = [] := snags_of_mailboxOpen hopen
  have hbody : bodySrcEnable c (accept s r 0x0802) = (sdStarted (accept s r 0x0802) c, .final okBare) := by
    have hheld' : sdHeld (accept s r 0x0802) c = none := hheld
    have hoff' : (sdOf (accept s r 0x0802) c).st = .off := hoff
    have hkind' : sdKind (accept s r 0x0802) c ≠ 0 := by
      rw [sdKind_accept]
      exact hkind
    rw [bodySrcEnable, if_neg (by omega), hheld']
    dsimp only
    rw [hoff']
    dsimp only
    rw [if_neg hkind']
    rfl
  have hrun : mbxRun (.srcEnable r c) r 0x0802 false (bodySrcEnable c) s =
      writeResponse (sdStarted (accept s r 0x0802) c) r.slot .done .none okBare := by
    rw [mbxRun_open _ _ _ _ _ _ hopen (by simp), hbody, post, finish_open _ _ _ (by exact hsnags)]
  have hnone : (writeResponse (sdStarted (accept s r 0x0802) c) r.slot .done .none okBare).boot.bindOff = none := by
    rw [writeResponse_eq]
    exact hbind
  show execSrcEnable r c s = _
  rw [execSrcEnable, hrun, leaveBindOff, hnone]
  exact congrArg Host.Outcome.next (bindOffCheck_none hnone)

/-! ### The slot of a bind-off (15 R320) -/

/-- The deferred slots of a state are one slot with one job. -/
def DeferredIs (n : Nat) (j : Job) (s : State) : Prop := ∀ p ∈ s.slots, p.2.phase = .deferred → p.1 = n ∧ p.2.job = j

theorem mem_of_kget {α : Type} {d : Nat → α} {m : KMap α} {n : Nat} (h : kget d m n ≠ d n) : (n, kget d m n) ∈ m := by
  induction m with
  | nil => exact absurd rfl h
  | cons p m ih =>
    rw [kget] at h ⊢
    split at h
    · next hp => rw [if_pos hp, ← hp]; exact List.mem_cons_self
    · next hp => rw [if_neg hp]; exact List.mem_cons_of_mem p (ih h)

theorem slotWaiting_of_deferred {s : State} {n : Nat} {j : Job} (h : DeferredIs n j s) (hp : (slotOf s n).phase = .deferred)
    (hj : (slotOf s n).job = j) (hheld : (slotOf s n).held = none) : slotWaiting s j = some n := by
  have hmem : (n, slotOf s n) ∈ s.slots := mem_of_kget fun hb => by
    rw [slotOf, hb] at hp
    exact absurd hp (by decide)
  have hfound : (s.slots.find? (fun p => decide (p.2.phase = .deferred) && decide (p.2.job = j) && p.2.held.isNone)).isSome = true :=
    List.find?_isSome.mpr ⟨_, hmem, by simp [hp, hj, hheld]⟩
  obtain ⟨p, hfind⟩ := Option.isSome_iff_exists.mp hfound
  have hsat := List.find?_some hfind
  simp only [Bool.and_eq_true, decide_eq_true_eq] at hsat
  rw [slotWaiting, hfind]
  exact congrArg some (h p (List.mem_of_find?_eq_some hfind) hsat.1.1).1

/-- No command waits for another job than that of the one deferred slot. -/
theorem complete_other {s : State} {n : Nat} {j k : Job} (h : DeferredIs n j s) (hk : k ≠ j) (r : Reply) : complete s k r = s := by
  have hnone : slotWaiting s k = none := by
    rw [slotWaiting, Option.map_eq_none_iff, List.find?_eq_none]
    intro p hp hsat
    simp only [Bool.and_eq_true, decide_eq_true_eq] at hsat
    exact hk (hsat.1.2.symm.trans (h p hp hsat.1.1).2)
  rw [complete, hnone]

theorem deferredIs_writeResponse {s : State} (n : Nat) (j : Job) (r : Reply) (hd : deferredSlots s = []) (hn : NoneHeld s) :
    DeferredIs n j (writeResponse s n .deferred j r) := by
  have hset : ∀ x : Slot, x.job = j → DeferredIs n j (setSlot s n x) := fun x hx p hp hdef => by
    rcases mem_kput (show p ∈ kput (fun _ => slotBlank) s.slots n x from hp) with rfl | hmem
    · exact ⟨rfl, hx⟩
    · have hno := List.filter_eq_nil_iff.mp (List.map_eq_nil_iff.mp hd) p hmem
      simp [hdef, hn p hmem] at hno
  unfold writeResponse
  dsimp only
  split
  · exact hset _ rfl
  · intro p hp
    rw [raiseVector_slots] at hp
    exact hset _ rfl p hp

/-! ### SYS_BIND_OFF (20 R431) -/

/-- The state that a bind-off begins in, with nothing deferred. -/
def bindTaken (s : State) (r : Req) : State := { accept s r 0x0104 with held := [] }

/-- The bind-off has begun and its command is deferred. -/
def bindAsked (s : State) (r : Req) : State :=
  writeResponse (setBindOff (if handsOver s then swapBegin (bindTaken s r) else bindTaken s r) ⟨handsOver s, false, false, []⟩)
    r.slot .deferred .bindOff (statusOnly 0x06)

theorem pairOn_bindTaken (s : State) (r : Req) : pairOn (bindTaken s r) = pairOn s := by
  have h : pairOn (accept s r 0x0104) = pairOn s := by rw [pairOn, getP_accept s r _ _ _ (by decide), pairOn]
  exact h

theorem handsOver_bindTaken (s : State) (r : Req) : handsOver (bindTaken s r) = handsOver s := by
  rw [handsOver, pairOn_bindTaken]
  rfl

theorem sysBindOff_begins {r : Req} {s : State} (hopen : mailboxOpen s r.slot = true) (hd : deferredSlots s = []) :
    exec (.sysBindOff r) s = .next (bindOffCheck (bindAsked s r)) := by
  obtain ⟨-, -, -, hbind, -⟩ := boot_of_mailboxOpen hopen
  have hnone : (accept s r 0x0104).boot.bindOff = none := hbind
  have hend : endDeferred (accept s r 0x0104) = bindTaken s r := endDeferred_none (deferredSlots_accept r _ hd)
  show execSysBindOff r s = _
  rw [execSysBindOff, mbxRun_open _ _ _ _ _ _ hopen (by simp), bodySysBindOff, hnone]
  simp only [Option.isSome_none, Bool.false_eq_true, if_false, hend, handsOver_bindTaken]
  rfl

/-- What the bind-off's command itself changes, where the unit does not hand over. -/
theorem bindAsked_alone {s : State} (r : Req) (h : handsOver s = false) : bindAsked s r = { s with
    held := [], params := (bindAsked s r).params, slots := (bindAsked s r).slots, link := (bindAsked s r).link
    boot := { s.boot with bindOff := some ⟨false, false, false, []⟩ } } := by
  unfold bindAsked
  rw [h, writeResponse_eq]
  rfl

theorem bindAsked_slot {s : State} (r : Req) : (slotOf (bindAsked s r) r.slot).phase = .deferred ∧
    (slotOf (bindAsked s r) r.slot).job = .bindOff ∧ (slotOf (bindAsked s r) r.slot).reply = statusOnly 0x06 ∧
    (slotOf (bindAsked s r) r.slot).held = none := by
  rw [bindAsked, slotOf_writeResponse, if_pos rfl]
  exact ⟨rfl, rfl, rfl, rfl⟩

theorem sendBodies_rest (s : State) (bodies : List CkptBody) : sendBodies s bodies = { s with purl := (sendBodies s bodies).purl } := by
  unfold sendBodies
  split
  · rfl
  · dsimp only
    split <;> rfl

theorem swapBegin_rest (s : State) : swapBegin s = { s with
    purl := (swapBegin s).purl, pair := { s.pair with swapEnd := some (nowClk s + swapSpan s) } } := by
  unfold swapBegin
  generalize [if s.pair.role = .active then CkptBody.swapPrepare else .swapReady] = bodies
  rw [sendBodies_rest]
  rfl

theorem bindAsked_deferredIs {r : Req} {s : State} (hopen : mailboxOpen s r.slot = true) (hd : deferredSlots s = []) :
    DeferredIs r.slot .bindOff (bindAsked s r) := by
  have hslots : (setBindOff (if handsOver s then swapBegin (bindTaken s r) else bindTaken s r) ⟨handsOver s, false, false, []⟩).slots =
      (accept s r 0x0104).slots := by
    show State.slots (if handsOver s then swapBegin (bindTaken s r) else bindTaken s r) = _
    split
    · rw [swapBegin_rest]; rfl
    · rfl
  refine deferredIs_writeResponse _ _ _ ?_ fun p hp => ?_
  · rw [deferredSlots, hslots]
    exact deferredSlots_accept r _ hd
  · rw [hslots] at hp
    exact noneHeld_accept r _ (noneHeld_of_mailboxOpen hopen) p hp

/-! A unit at rest: nothing is left to do, and the command completes. -/

/-- The parts of a unit at rest. -/
theorem unitAtRest_iff (s : State) : unitAtRest s = true ↔ (unitDark s = true ∧ pairOn s = false ∧ s.purl.st = .disabled ∧ s.fe.st ≠ .running ∧
    skeinsWith (skRuns s) = [] ∧ (∀ n, n < 16 → krnRuns (krnOf s n) = false) ∧ (∀ n ∈ [0, 1, 2, 3], (loopOf s n).st = .off) ∧
    ∀ c, c < 8 → (sdOf s c).st = .off) := by
  simp only [unitAtRest, Bool.and_eq_true, Bool.not_eq_true', decide_eq_true_eq, List.all_eq_true, List.mem_range, List.isEmpty_iff]
  tauto

theorem stopPort_idle {s : State} {p : Nat} (h : (portOf s p).st = .idle) : stopPort s p = s := by
  rw [stopPort, h]

theorem foldl_fixed {β : Type} {f : State → β → State} {s : State} {xs : List β} (h : ∀ x ∈ xs, f s x = s) : xs.foldl f s = s :=
  List.foldlRecOn (motive := fun t => t = s) xs f rfl fun t ht x hx => by rw [ht, h x hx]

theorem bindOffStop_atRest {s : State} (h : unitAtRest s = true) : bindOffStop s = s := by
  obtain ⟨hdark, -, -, -, hskeins, hkrn, -, -⟩ := (unitAtRest_iff s).mp h
  simp only [unitDark, portDark, Bool.and_eq_true, decide_eq_true_eq] at hdark
  have hports : [0, 1].foldl stopPort s = s := foldl_fixed fun p hp => by
    rcases List.mem_cons.mp hp with rfl | hp
    · exact stopPort_idle hdark.1
    · rw [List.mem_singleton.mp hp]; exact stopPort_idle hdark.2
  unfold bindOffStop
  dsimp only
  rw [hports, hskeins, List.foldl_nil]
  exact foldl_fixed fun n hn => by rw [stopSlot, hkrn n (List.mem_range.mp hn)]; rfl

theorem portsQuiet_atRest {s : State} (h : unitAtRest s = true) : portsQuiet s = true := by
  obtain ⟨hdark, -⟩ := (unitAtRest_iff s).mp h
  simp only [unitDark, portDark, Bool.and_eq_true, decide_eq_true_eq] at hdark
  simp [portsQuiet, hdark.1, hdark.2]

/-- PAIR_ENABLE is 0, as it was. -/
def pairOff (s : State) : State := setP s 0x0B 0 lPAIR_ENABLE 0

theorem bindOffRelease_atRest {s : State} (h : unitAtRest s = true) : bindOffRelease s [] = pairOff s := by
  obtain ⟨-, hpair, hlink, hchart, -, -, hloops, hchans⟩ := (unitAtRest_iff s).mp h
  have hfreed : [0, 1, 2, 3].foldl (fun s n => if loopOn s n then setP (loopRelease s n) 0x07 n fLOOP_MODE 0 else s) s = s :=
    foldl_fixed fun n hn => if_neg (by simp [loopOn, hloops n hn])
  have hoff : pairOn (pairOff s) = false := by rw [pairOn, pairOff, getP_setP_same]; rfl
  have hsame : pairEnabled (pairOff s) false = pairOff s := by rw [pairEnabled, hoff]; rfl
  have hlink' : (pairOff s).purl.st = .disabled := hlink
  have hchans' : (List.range 8).foldl (fun s c => if decide ((sdOf s c).st = .on) && !([] : List Nat).contains c then sdStop s c else s)
      (pairOff s) = pairOff s :=
    foldl_fixed fun c hc => if_neg (by
      have hst : (sdOf (pairOff s) c).st = .off := hchans c (List.mem_range.mp hc)
      simp [hst])
  unfold bindOffRelease
  dsimp only
  rw [hfreed, if_neg hchart, hpair]
  show (List.range 8).foldl _ (if (pairEnabled (pairOff s) false).purl.st = .disabled then pairEnabled (pairOff s) false else _) = _
  rw [hsame, if_pos hlink', hchans']

/-- The bind-off of a unit at rest is over. -/
def bindOver (s : State) : State := { pairOff s with boot := { s.boot with bindOff := none } }

theorem bindOffCheck_atRest {s : State} (h : unitAtRest s = true) (hb : s.boot.bindOff = some ⟨false, false, false, []⟩) :
    bindOffCheck s = complete (bindOver s) .bindOff okBare := by
  obtain ⟨-, -, -, -, -, -, hloops, hchans⟩ := (unitAtRest_iff s).mp h
  have hrest' : ∀ b, unitAtRest (setBindOff s b) = true := fun b => h
  have hquiet : ∀ b, portsQuiet (setBindOff s b) = true := fun b => portsQuiet_atRest (hrest' b)
  have hat : ∀ b, atRest (setBindOff (pairOff s) b) = true := fun b => by
    have hl : ∀ n ∈ [0, 1, 2, 3], (loopOf (setBindOff (pairOff s) b) n).st = .off := hloops
    have hc : ∀ c, c < 8 → (sdOf (setBindOff (pairOff s) b) c).st = .off := hchans
    simp only [atRest, Bool.and_eq_true, List.all_eq_true, List.mem_range, decide_eq_true_eq]
    exact ⟨fun c hcm => by rw [hc c hcm]; decide, fun n hn => by rw [hl n hn]; decide⟩
  unfold bindOffCheck
  rw [hb]
  simp only [Bool.false_and, Bool.false_eq_true, if_false, bindOffStop_atRest h, hquiet, Bool.not_true, bindOffRelease_atRest (hrest' _)]
  exact if_pos (hat _)

theorem sysBindOff_atRest {r : Req} {s : State} (hopen : mailboxOpen s r.slot = true) (hd : deferredSlots s = []) (h : unitAtRest s = true) :
    ∃ t, exec (.sysBindOff r) s = .next t ∧ answered t r.slot okBare ∧ t.boot.bindOff = none ∧ unitDark t = true := by
  have hsnags : s.col.snags = [] := snags_of_mailboxOpen hopen
  have hrest := (unitAtRest_iff s).mp h
  have hhands : handsOver s = false := by rw [handsOver, hrest.2.1]; rfl
  have halone := bindAsked_alone r hhands
  obtain ⟨hphase, hjob, -, hheld⟩ := bindAsked_slot (s := s) r
  have hdeferred := bindAsked_deferredIs hopen hd
  have hpairOff : pairOn (bindAsked s r) = false := by
    have hitems : (bindAsked s r).params = (accept s r 0x0104).params := by
      rw [bindAsked, hhands, writeResponse_params]
      rfl
    rw [pairOn, getP_of_params_eq hitems, getP_accept s r _ _ _ (by decide)]
    exact hrest.2.1
  refine ⟨_, sysBindOff_begins hopen hd, ?_⟩
  generalize bindAsked s r = u at *
  have hat : unitAtRest u = true := by
    refine (unitAtRest_iff u).mpr ?_
    obtain ⟨hdark, -, hlink, hchart, hskeins, hkrn, hloops, hchans⟩ := hrest
    refine ⟨?_, hpairOff, ?_, ?_, ?_, ?_, ?_, ?_⟩ <;> rw [halone] <;> assumption
  rw [bindOffCheck_atRest hat (by rw [halone])]
  have hwait : slotWaiting (bindOver u) .bindOff = some r.slot := slotWaiting_of_deferred (s := u) hdeferred hphase hjob hheld
  have hfin : finish (bindOver u) r.slot okBare = writeResponse (bindOver u) r.slot .done .none okBare :=
    finish_open _ _ _ (by rw [halone]; exact hsnags)
  rw [complete, hwait]
  dsimp only
  rw [hfin]
  refine ⟨?_, ?_, ?_⟩
  · rw [answered, slotOf_writeResponse, if_pos rfl]
    exact ⟨rfl, rfl⟩
  · rw [writeResponse_eq]
    rfl
  · rw [writeResponse_eq, halone]
    exact hrest.1

/-! A unit that hands over: the ports go on until the peer has the fibre. -/

theorem swapSpan_bindTaken (s : State) (r : Req) : swapSpan (bindTaken s r) = swapSpan s := by
  have hitem : ∀ d i n, 2 ≤ d → getP (bindTaken s r) d i n = getP s d i n := fun d i n hd => getP_accept s r 0x0104 i n hd
  have hplan : ∀ p, pv (bindTaken s r) p = pv s p := fun p => by
    unfold pv
    congr 1
    funext q i
    exact hitem 3 q i (by decide)
  rw [swapSpan, hplan, hplan, natP, hitem 0x0B 0 _ (by decide), swapSpan, natP]

theorem sysBindOff_handsOver {r : Req} {s : State} (hopen : mailboxOpen s r.slot = true) (hd : deferredSlots s = []) (h : handsOver s = true)
    (hspan : 0 < swapSpan s) : ∃ t, exec (.sysBindOff r) s = .next t ∧ deferredFor t r.slot .bindOff ∧
      t.boot.bindOff = some ⟨true, false, false, []⟩ ∧ t.ports = s.ports ∧
      t.pair = { s.pair with swapEnd := some (nowClk s + swapSpan s) } := by
  obtain ⟨hphase, hjob, hreply, -⟩ := bindAsked_slot (s := s) r
  have hrole : s.pair.role = .active := by
    simp only [handsOver, Bool.and_eq_true, decide_eq_true_eq] at h
    exact h.1.2
  have hasked : (bindAsked s r).boot = { s.boot with bindOff := some ⟨true, false, false, []⟩ } ∧ (bindAsked s r).ports = s.ports ∧
      (bindAsked s r).pair = { s.pair with swapEnd := some (nowClk s + swapSpan s) } ∧ (bindAsked s r).time = s.time := by
    unfold bindAsked
    rw [h, if_pos rfl, writeResponse_eq, swapBegin_rest, swapSpan_bindTaken]
    exact ⟨rfl, rfl, rfl, rfl⟩
  refine ⟨_, sysBindOff_begins hopen hd, ?_⟩
  generalize bindAsked s r = u at *
  obtain ⟨hboot, hports, hpair, htime⟩ := hasked
  have hgoes : handingOver u = true := by
    have hnow : nowClk u = nowClk s := by rw [nowClk, htime, nowClk]
    rw [handingOver, hpair, hnow]
    simp [hrole, hspan]
  have hstays : bindOffCheck u = u := by
    unfold bindOffCheck
    rw [hboot]
    simp only [hgoes, Bool.and_self, if_true]
  rw [hstays]
  exact ⟨⟨hphase, hjob, hreply⟩, by rw [hboot], hports, hpair⟩

/-! A unit with a port in a shot or a drain: the port stops as PORT_STOP stops it. -/

/-- PORT_STOP on one port leaves boot state, slots, the other port's run and what a launch needs. -/
structure StopKept (q : Nat) (s t : State) : Prop where
  boot : t.boot = s.boot
  slots : t.slots = s.slots
  others : ∀ p, p ≠ q → runOf (portOf t p) = runOf (portOf s p)
  launched : ∀ p, (portOf t p).launched = (portOf s p).launched
  dual : dualOn t = dualOn s

theorem StopKept.refl (q : Nat) (s : State) : StopKept q s s := ⟨rfl, rfl, fun _ _ => rfl, fun _ => rfl, rfl⟩

theorem StopKept.after {q : Nat} {a b c : State} (k : StopKept q b c) (h : StopKept q a b) : StopKept q a c :=
  ⟨k.boot.trans h.boot, k.slots.trans h.slots, fun p hp => (k.others p hp).trans (h.others p hp),
    fun p => (k.launched p).trans (h.launched p), k.dual.trans h.dual⟩

theorem StopKept.of_run {q : Nat} {s t : State} (h : RunKept s t) (hdual : dualOn t = dualOn s) : StopKept q s t :=
  ⟨h.boot, h.slots, fun p _ => h.run p, fun p => congrArg (fun x => x.2.2.2.1) (h.run p), hdual⟩

theorem modPort_stopKept (s : State) (q : Nat) {f : Port → Port} (hf : ∀ x, (f x).launched = x.launched) : StopKept q s (modPort s q f) := by
  refine ⟨rfl, rfl, fun p hp => by rw [portOf_modPort_ne s f hp], fun p => ?_, rfl⟩
  by_cases h : p = q
  · rw [h, portOf_modPort_same, hf]
  · rw [portOf_modPort_ne s f h]

theorem dualOn_of_params {s t : State} (h : t.params = s.params) : dualOn t = dualOn s := by
  rw [dualOn, getP_of_params_eq h, getP_of_params_eq h, dualOn]

theorem loopsWatch_stopKept (s : State) (q : Nat) : StopKept q s (loopsWatch s) :=
  .of_run (loopsWatch_runKept s) (dualOn_of_params (loopsWatch_params s))

theorem stepBegin_params (s : State) (p bursts : Nat) (freeFrom : Option Nat) (ofRun : Bool) :
    (stepBegin s p bursts freeFrom ofRun).params = s.params := by
  have hchange : ∀ (u : State) c, (stepChange u p c).params = u.params := fun u c => by
    unfold stepChange logSet
    rfl
  have hfold : ((List.range 4).foldl (fun s c => stepChange s p c) s).params = s.params :=
    List.foldlRecOn (motive := fun t : State => t.params = s.params) _ _ rfl fun t ht c _ => (hchange t c).trans ht
  unfold stepBegin
  generalize (List.range 4).foldl (fun s c => stepChange s p c) s = u at *
  exact hfold

theorem stepKick_params (s : State) (p : Nat) : (stepKick s p).params = s.params := by
  unfold stepKick
  dsimp only
  split
  · rfl
  · split
    · exact stepBegin_params _ _ _ _ _
    · split
      · exact stepBegin_params _ _ _ _ _
      · rfl

theorem stepToFree_stopKept (s : State) (p q : Nat) : StopKept q s (stepToFree s p) :=
  .of_run (stepToFree_runKept s p) (dualOn_of_params (by rw [stepToFree, stepKick_params]; rfl))

theorem refPeriod_stopKept (s : State) (p q : Nat) : StopKept q s (setP s 0x03 p pREF_PERIOD 0) := by
  refine .of_run (setP_runKept s 3 p pREF_PERIOD 0) ?_
  have hitem : ∀ i, getP (setP s 0x03 p pREF_PERIOD 0) 3 i pDUAL_ENDED = getP s 3 i pDUAL_ENDED := fun i => by
    rw [getP_setP, if_neg]
    simp only [objId, pREF_PERIOD, pDUAL_ENDED]
    omega
  rw [dualOn, hitem, hitem, dualOn]

theorem skeinsMark_params (s : State) (p at_ : Nat) (kind : MarkKind) : (skeinsMark s p at_ kind).params = s.params := by
  unfold skeinsMark
  exact List.foldlRecOn (motive := fun t : State => t.params = s.params) _ _ rfl fun t ht k _ => ht

theorem ramanDiscard_params (s : State) (p : Nat) : (ramanDiscard s p).params = s.params := by
  unfold ramanDiscard modRaman
  rfl

theorem beginDrain_stopKept (s : State) (q tb : Nat) : StopKept q s (beginDrain s q tb) := by
  have hpair : StopKept q s (pairDrains s) := by
    unfold pairDrains
    split
    · exact ⟨rfl, rfl, fun _ _ => rfl, fun _ => rfl, rfl⟩
    · exact .refl q s
  have hmark : ∀ u, StopKept q u (skeinsMark (ramanDiscard u q) q tb .drain) := fun u =>
    .of_run ((skeinsMark_runKept _ q tb .drain).after (ramanDiscard_runKept u q))
      (dualOn_of_params ((skeinsMark_params _ q tb .drain).trans (ramanDiscard_params u q)))
  unfold beginDrain
  dsimp only
  split
  · exact (hmark _).after ((modPort_stopKept _ q fun _ => by rfl).after hpair)
  · exact (loopsWatch_stopKept _ q).after ((modPort_stopKept _ q fun _ => by rfl).after hpair)

theorem stopPort_stopKept (s : State) (q : Nat) : StopKept q s (stopPort s q) := by
  unfold stopPort
  dsimp only
  split
  · exact .refl q s
  · exact modPort_stopKept s q fun _ => by rfl
  · exact modPort_stopKept s q fun _ => by rfl
  · split
    · exact (loopsWatch_stopKept _ q).after ((stepToFree_stopKept _ q q).after ((refPeriod_stopKept _ q q).after
        (modPort_stopKept s q fun _ => by rfl)))
    · split
      · exact (loopsWatch_stopKept _ q).after (modPort_stopKept s q fun _ => by rfl)
      · split
        · exact modPort_stopKept s q fun _ => by rfl
        · exact (beginDrain_stopKept _ q _).after (modPort_stopKept s q fun _ => by rfl)

/-- The port that a bind-off finds in a shot or a drain (20 Table 20-9). -/
def portBusy (s : State) (p : Nat) : Prop := (portOf s p).st = .draining ∨
  ((portOf s p).st = .running ∧ hasLaunched s p = true ∧ (portOf s p).drain = none ∧ (portOf s p).shotOpen = true)

/-- What a stop makes of a busy port's run: the port goes on, and then comes to rest. -/
def runStopped (x : Port) : PortSt × StopWish := (x.st, if x.st = .draining then .idle else .armed)

theorem stopPort_busy {s : State} {p : Nat} (h : portBusy s p) :
    ((portOf (stopPort s p) p).st, (portOf (stopPort s p) p).stop) = runStopped (portOf s p) := by
  rcases h with h | ⟨hst, hlaunched, hdrain, hopen⟩
  · rw [stopPort, h]
    dsimp only
    rw [portOf_modPort_same, runStopped, if_pos h]
  · have hon : shotOngoing (modPort s p (fun x => { x with stop := .armed })) p = true := by
      rw [shotOngoing, portOf_modPort_same, hopen]
      rfl
    rw [stopPort, hst]
    dsimp only
    rw [hlaunched, if_neg (by decide), hdrain]
    dsimp only
    rw [hon, if_pos rfl, portOf_modPort_same, runStopped, if_neg (by rw [hst]; decide)]

theorem portBusy_stopKept {s t : State} {p q : Nat} (h : StopKept q s t) (hp : p ≠ q) (hbusy : portBusy s p) : portBusy t p := by
  have hrun := h.others p hp
  simp only [runOf, Prod.mk.injEq] at hrun
  obtain ⟨hst, -, hdrain, -, hopen⟩ := hrun
  unfold portBusy hasLaunched at *
  rw [hst, hdrain, hopen, h.launched, h.launched, h.dual]
  exact hbusy

theorem stopPorts_busy {s : State} {p : Nat} (hp : p ≤ 1) (h : portBusy s p) :
    ((portOf ([0, 1].foldl stopPort s) p).st, (portOf ([0, 1].foldl stopPort s) p).stop) = runStopped (portOf s p) := by
  show ((portOf (stopPort (stopPort s 0) 1) p).st, (portOf (stopPort (stopPort s 0) 1) p).stop) = _
  obtain rfl | rfl : p = 0 ∨ p = 1 := by omega
  · have hother := (stopPort_stopKept (stopPort s 0) 1).others 0 (by decide)
    simp only [runOf, Prod.mk.injEq] at hother
    rw [hother.1, hother.2.1]
    exact stopPort_busy h
  · have hfirst := stopPort_stopKept s 0
    rw [stopPort_busy (portBusy_stopKept hfirst (by decide) h), runStopped]
    have hother := hfirst.others 1 (by decide)
    simp only [runOf, Prod.mk.injEq] at hother
    rw [hother.1, runStopped]

/-! Skeins and user slots leave the ports alone. -/

theorem setSk_runKept (s : State) (k : Nat) (x : Skein) : RunKept s (setSk s k x) := ⟨rfl, rfl, rfl, fun _ => rfl⟩

theorem writeHank_runKept (s : State) (k : Nat) (truncated : Bool) : RunKept s (writeHank s k truncated) := by
  unfold writeHank
  dsimp only
  split
  · exact .refl s
  · have hclear : ∀ c : Prop, [Decidable c] → RunKept s (if c then s else clearIf s 68) := fun _ _ =>
      .ite (.refl s) (clearLive_onlyCollector s 68).runKept
    exact (setSk_runKept _ k _).after (hclear _)

theorem disarmCapture_runKept (s : State) (k : Nat) (c : Capture) : RunKept s (disarmCapture s k c) := by
  unfold disarmCapture
  dsimp only
  split
  · split
    · exact ⟨rfl, rfl, rfl, fun _ => rfl⟩
    · exact ⟨rfl, rfl, rfl, fun _ => rfl⟩
  · exact (writeHank_runKept _ k true).after (modSk_runKept s k _)

theorem skeinStops_runKept {s : State} {n : Nat} (h : DeferredIs n .bindOff s) (k : Nat) : RunKept s (skeinStops s k) := by
  unfold skeinStops
  dsimp only
  rw [complete_other (s := modSk s k _) h (by simp)]
  exact modSk_runKept s k _

theorem DeferredIs.of_slots {n : Nat} {j : Job} {s t : State} (h : DeferredIs n j s) (hslots : t.slots = s.slots) : DeferredIs n j t := by
  unfold DeferredIs
  rw [hslots]
  exact h

theorem disarmSkein_runKept {s : State} {n : Nat} (h : DeferredIs n .bindOff s) (k : Nat) : RunKept s (disarmSkein s k) := by
  unfold disarmSkein bodyCapDisarm
  dsimp only
  split
  · exact skeinStops_runKept h k
  · split
    · exact .refl s
    · split
      · exact skeinStops_runKept h k
      · exact (skeinStops_runKept (s := setSk s k _) h k).after ⟨rfl, rfl, rfl, fun _ => rfl⟩
      · dsimp only
        split
        · next c _ =>
          have hcap := disarmCapture_runKept s k c
          exact (skeinStops_runKept (h.of_slots hcap.slots) k).after hcap
        · exact skeinStops_runKept h k
      · exact .refl s

theorem stopSlot_runKept (s : State) (n : Nat) : RunKept s (stopSlot s n) := by
  unfold stopSlot bodyFwKrnStop krnCommand
  split
  · split
    · exact .refl s
    · split
      · exact .refl s
      · dsimp only
        split
        · exact .refl s
        · exact ⟨rfl, rfl, rfl, fun _ => rfl⟩
        · exact ⟨rfl, rfl, rfl, fun _ => rfl⟩
        · split
          · exact .refl s
          · exact ⟨rfl, rfl, rfl, fun _ => rfl⟩
  · exact .refl s

theorem disarmSkeins_runKept {s : State} {n : Nat} (h : DeferredIs n .bindOff s) (ks : List Nat) : RunKept s (ks.foldl disarmSkein s) :=
  List.foldlRecOn (motive := RunKept s) ks disarmSkein (.refl s) fun _ ht k _ => (disarmSkein_runKept (h.of_slots ht.slots) k).after ht

theorem bindOffStop_busy {s : State} {n p : Nat} (hp : p ≤ 1) (hdef : DeferredIs n .bindOff s) (h : portBusy s p) :
    (bindOffStop s).boot = s.boot ∧ (bindOffStop s).slots = s.slots ∧
    ((portOf (bindOffStop s) p).st, (portOf (bindOffStop s) p).stop) = runStopped (portOf s p) := by
  have hports : ([0, 1].foldl stopPort s).boot = s.boot ∧ ([0, 1].foldl stopPort s).slots = s.slots := by
    have h0 := stopPort_stopKept s 0
    have h1 := stopPort_stopKept (stopPort s 0) 1
    exact ⟨h1.boot.trans h0.boot, h1.slots.trans h0.slots⟩
  have hstop := stopPorts_busy hp h
  unfold bindOffStop
  dsimp only
  generalize [0, 1].foldl stopPort s = u at *
  have hrest : RunKept u ((List.range 16).foldl stopSlot ((skeinsWith (skRuns u)).foldl disarmSkein u)) :=
    (RunKept.foldl stopSlot_runKept _ _).after (disarmSkeins_runKept (hdef.of_slots hports.2) _)
  have hrun := hrest.run p
  simp only [runOf, Prod.mk.injEq] at hrun
  exact ⟨hrest.boot.trans hports.1, hrest.slots.trans hports.2, by rw [hrun.1, hrun.2.1]; exact hstop⟩

theorem portsQuiet_busy {s : State} {p : Nat} (hp : p ≤ 1) (h : (portOf s p).st = .draining ∨ (portOf s p).st = .running) :
    portsQuiet s = false := by
  obtain rfl | rfl : p = 0 ∨ p = 1 := by omega
  · rcases h with h | h <;> simp [portsQuiet, h]
  · rcases h with h | h <;> simp [portsQuiet, h]

theorem setBindOff_spec (s : State) (b : BindOff) : (setBindOff s b).boot.bindOff = some b ∧ (∀ n, slotOf (setBindOff s b) n = slotOf s n) ∧
    (∀ p, portOf (setBindOff s b) p = portOf s p) ∧ portsQuiet (setBindOff s b) = portsQuiet s :=
  ⟨rfl, fun _ => rfl, fun _ => rfl, rfl⟩

/-- The first stage of a bind-off with a busy port: it waits for the port. -/
theorem bindOffCheck_stops {u : State} {n p : Nat} (hp : p ≤ 1) (hdef : DeferredIs n .bindOff u)
    (hb : u.boot.bindOff = some ⟨false, false, false, []⟩) (hbusy : portBusy u p) (hslot : deferredFor u n .bindOff) :
    deferredFor (bindOffCheck u) n .bindOff ∧ (bindOffCheck u).boot.bindOff = some ⟨false, true, false, []⟩ ∧
      ((portOf (bindOffCheck u) p).st, (portOf (bindOffCheck u) p).stop) = runStopped (portOf u p) := by
  obtain ⟨-, hslots, hrun⟩ := bindOffStop_busy hp hdef hbusy
  obtain ⟨hset, hslotOf, hportOf, hquiet⟩ := setBindOff_spec (bindOffStop u) ⟨false, true, false, []⟩
  have hst : (portOf (bindOffStop u) p).st = .draining ∨ (portOf (bindOffStop u) p).st = .running := by
    rw [(Prod.mk.inj hrun).1]
    exact hbusy.imp id And.left
  rw [portsQuiet_busy hp hst] at hquiet
  have hcheck : bindOffCheck u = setBindOff (bindOffStop u) ⟨false, true, false, []⟩ := by
    unfold bindOffCheck
    rw [hb]
    simp only [Bool.false_and, Bool.false_eq_true, if_false, hquiet, Bool.not_false, if_true]
  rw [hcheck, hset, hportOf, deferredFor, hslotOf]
  refine ⟨?_, rfl, hrun⟩
  unfold slotOf
  rw [hslots]
  exact hslot

theorem sysBindOff_stops {r : Req} {p : Nat} {s : State} (hopen : mailboxOpen s r.slot = true) (hd : deferredSlots s = [])
    (hhands : handsOver s = false) (hp : p ≤ 1) (hbusy : portBusy s p) :
    ∃ t, exec (.sysBindOff r) s = .next t ∧ deferredFor t r.slot .bindOff ∧ t.boot.bindOff = some ⟨false, true, false, []⟩ ∧
      ((portOf t p).st, (portOf t p).stop) = runStopped (portOf s p) := by
  have halone := bindAsked_alone r hhands
  obtain ⟨hphase, hjob, hreply, -⟩ := bindAsked_slot (s := s) r
  have hdeferred := bindAsked_deferredIs hopen hd
  have hitems : (bindAsked s r).params = (accept s r 0x0104).params := by
    rw [bindAsked, hhands, writeResponse_params]
    rfl
  have hdual : dualOn (bindAsked s r) = dualOn s := (dualOn_of_params hitems).trans (dualOn_accept s r _)
  refine ⟨_, sysBindOff_begins hopen hd, ?_⟩
  have hports : ∀ q, portOf (bindAsked s r) q = portOf s q := portOf_of_ports_eq (by rw [halone])
  have hb : (bindAsked s r).boot.bindOff = some ⟨false, false, false, []⟩ := by rw [halone]
  have hbusy' : portBusy (bindAsked s r) p := by
    unfold portBusy hasLaunched at *
    rw [hports, hports, hdual]
    exact hbusy
  rw [← hports p]
  exact bindOffCheck_stops hp hdeferred hb hbusy' ⟨hphase, hjob, hreply⟩

/-- Settles O60. -/
theorem bindOffEnds : Obligations.BindOffEnds := by
  unfold Obligations.BindOffEnds
  refine ⟨fun r s hopen hd h => sysBindOff_atRest hopen hd h, fun r s hopen hd h hspan => sysBindOff_handsOver hopen hd h hspan,
    fun r p s hopen hd hhands hp hbusy => ?_, fun p d s hdr hchange hdue hbind => ⟨_, drainEnd_ends hdr hchange hdue hbind, ?_⟩,
    fun s hbind hwave hlapsed => ⟨_, actWaveStop_stops hbind hwave hlapsed, (stopWave_spec s).2⟩,
    fun s hbind hrole hcut => ⟨_, swapReleaseDone_stands hbind hrole hcut, ?_⟩,
    fun n s hbind _ hst hdue hwait => ⟨_, loopReleaseEnd_frees hbind hst hdue hwait, ?_⟩,
    fun c s hbind hon hdue => ⟨_, sdCarrierPeriod_advances hbind hon hdue, (sdAdvance_spec s c).2⟩,
    fun r c s hopen hc hheld hoff hkind => ⟨_, srcEnable_starts hopen hc hheld hoff hkind, ?_⟩⟩
  · obtain ⟨t, hexec, hdef, hbind, hrun⟩ := sysBindOff_stops hopen hd hhands hp hbusy
    obtain ⟨hst, hstop⟩ := Prod.mk.inj hrun
    exact ⟨t, hexec, hdef, hbind, hst, hstop⟩
  · have hrun := (endStop_runKept s p).run p
    simp only [runOf, Prod.mk.injEq] at hrun
    rw [hrun.2.2.1, portOf_modPort_same]
    rfl
  · rw [(loopsHold_runKept _).pair, loopsHold_ports]
    exact ⟨rfl, rfl, rfl⟩
  · obtain ⟨hoff, hdrive, hothers⟩ := loopOf_loopFreed s n
    exact ⟨by rw [hoff]; decide, hdrive, hothers⟩
  · obtain ⟨hon, -, hothers⟩ := sdOf_sdStarted (accept s r 0x0802) c
    have hsd : ∀ d, sdOf (writeResponse (sdStarted (accept s r 0x0802) c) r.slot .done .none okBare) d =
        sdOf (sdStarted (accept s r 0x0802) c) d := fun d => by rw [writeResponse_eq]; rfl
    refine ⟨?_, (hsd c).symm ▸ hon, fun d hd => (hsd d).trans (hothers d hd)⟩
    rw [answered, slotOf_writeResponse, if_pos rfl]
    exact ⟨rfl, rfl⟩

end Sys2Proof.Machine
end

section
/-! PROOFS. The source drive (12_source_drive.md): O34. -/

namespace Sys2Proof.Machine

/-! ### What the source drive changes (12) -/

/-- `t` differs from `s` in the source drive only. -/
def SrcOnly (s t : State) : Prop := t = { s with src := t.src }

theorem SrcOnly.refl (s : State) : SrcOnly s s := rfl

theorem SrcOnly.after {a b c : State} (k : SrcOnly b c) (h : SrcOnly a b) : SrcOnly a c :=
  k.trans (congrArg (fun x : State => { x with src := c.src }) h)

theorem SrcOnly.ite {c : Prop} [Decidable c] {s a b : State} (h : SrcOnly s a) (k : SrcOnly s b) : SrcOnly s (if c then a else b) := by
  split
  · exact h
  · exact k

theorem modSd_srcOnly (s : State) (c : Nat) (f : SdChan → SdChan) : SrcOnly s (modSd s c f) := rfl

theorem SrcOnly.col {s t : State} (h : SrcOnly s t) : t.col = s.col := by rw [h]

/-- `t` differs from `s` in the source drive, the collector and the collector's items only. -/
def SrcKept (s t : State) : Prop := OnlyCollector { s with src := t.src } t

theorem SrcKept.after {a b c : State} (k : SrcKept b c) (h : SrcKept a b) : SrcKept a c :=
  ⟨k.rest.trans (congrArg (fun x : State => { x with src := c.src, params := c.params, col := c.col }) h.rest),
    k.snags.trans h.snags, fun o ho => (k.items o ho).trans (h.items o ho)⟩

theorem SrcKept.ite {c : Prop} [Decidable c] {s a b : State} (h : SrcKept s a) (k : SrcKept s b) : SrcKept s (if c then a else b) := by
  split
  · exact h
  · exact k

theorem SrcOnly.srcKept {s t : State} (h : SrcOnly s t) : SrcKept s t := by
  rw [SrcKept, ← h]
  exact .refl t

theorem OnlyCollector.srcKept {s t : State} (h : OnlyCollector s t) : SrcKept s t := by
  have hsrc : t.src = s.src := by rw [h.rest]
  rw [SrcKept, hsrc]
  exact h

theorem SrcKept.getP {s t : State} (h : SrcKept s t) {d : Nat} (hd : d < 13) {i n : Nat} (hi : i < 256) (hn : n < 65536) :
    getP t d i n = getP s d i n :=
  h.items _ (by simp only [objDom, objId]; omega)

theorem SrcKept.staged {s t : State} (h : SrcKept s t) : t.staged = s.staged := (show OnlyCollector _ t from h).staged

/-! ### SRC_CONFIG of a channel (12 R263, R269) -/

theorem sdHeld_none {s : State} {c : Nat} (h : (sdOf s c).hold = .none) : sdHeld s c = none := by rw [sdHeld, h]

theorem sdClear_srcKept (s : State) (n : Nat) (holds : SdChan → Bool) : SrcKept s (sdClear s n holds) := by
  unfold sdClear clearIf
  exact .ite (SrcOnly.refl s).srcKept (clearLive_onlyCollector s n).srcKept

theorem sdUnwatch_srcKept (s : State) (c : Nat) : SrcKept s (sdUnwatch s c) := by
  have hpart : ∀ (b : Bool) (u : State) f n g, SrcKept u (if b then sdClear (modSd u c f) n g else u) := fun b u f n g =>
    .ite ((sdClear_srcKept _ n g).after (modSd_srcOnly u c f).srcKept) (SrcOnly.refl u).srcKept
  unfold sdUnwatch
  exact (hpart _ _ _ _ _).after ((hpart _ _ _ _ _).after (hpart _ _ _ _ _))

/-- A source that is quiet, and that no raise waits for. -/
def sourceQuiet (s : State) (n : Nat) : Prop := isLive s n = false ∧ raisePending s n = false

theorem sourceQuiet_srcOnly {s t : State} {n : Nat} (h : SrcOnly s t) (hq : sourceQuiet s n) : sourceQuiet t n := by
  rw [h]
  exact hq

theorem sdClear_quiet {s : State} {n : Nat} (hq : sourceQuiet s n) (holds : SdChan → Bool) : sdClear s n holds = s := by
  rw [sdClear, clearIf, clearLive_idle hq.1 hq.2, ite_self]

theorem sdUnwatch_quiet {s : State} (c : Nat) (h : ∀ n, 103 ≤ n → n ≤ 105 → sourceQuiet s n) : SrcOnly s (sdUnwatch s c) := by
  have hpart : ∀ (b : Bool) (u : State) f n g, 103 ≤ n → n ≤ 105 → SrcOnly s u →
      SrcOnly s (if b then sdClear (modSd u c f) n g else u) := fun b u f n g hlo hhi hu => by
    have hmod : SrcOnly s (modSd u c f) := (modSd_srcOnly u c f).after hu
    rw [sdClear_quiet (sourceQuiet_srcOnly hmod (h n hlo hhi))]
    exact .ite hmod hu
  unfold sdUnwatch
  exact hpart _ _ _ 105 _ (by decide) (by decide) (hpart _ _ _ 104 _ (by decide) (by decide)
    (hpart _ _ _ 103 _ (by decide) (by decide) (.refl s)))

/-- What SRC_CONFIG makes of a channel whose staged items have taken effect, up to the end of what it watches. -/
theorem sdApply_split (s : State) (c : Nat) : ∃ u, SrcOnly (applyStaged s (srcItem c)) u ∧
    SrcOnly (sdUnwatch u c) (sdApply s c) :=
  ⟨_, SrcOnly.ite (modSd_srcOnly _ _ _) (SrcOnly.ite (modSd_srcOnly _ _ _) (.refl _)) |>.after
    (SrcOnly.ite (modSd_srcOnly _ _ _) (.refl _)), SrcOnly.ite (modSd_srcOnly _ _ _) (.refl _)⟩

theorem sdApply_srcKept (s : State) (c : Nat) : SrcKept (applyStaged s (srcItem c)) (sdApply s c) := by
  obtain ⟨u, hu, ht⟩ := sdApply_split s c
  exact ht.srcKept.after ((sdUnwatch_srcKept u c).after hu.srcKept)

theorem sdApply_quiet {s : State} (c : Nat) (h : ∀ n, 103 ≤ n → n ≤ 105 → sourceQuiet s n) :
    SrcOnly (applyStaged s (srcItem c)) (sdApply s c) := by
  obtain ⟨u, hu, ht⟩ := sdApply_split s c
  exact ht.after ((sdUnwatch_quiet c fun n hlo hhi => sourceQuiet_srcOnly hu (h n hlo hhi)).after hu)

theorem srcItem_objId {c i : Nat} (hc : c < 256) (hi : i < 65536) : srcItem c (objId 8 c i) = true := by
  have hdom : objDom (objId 8 c i) = 8 := by simp only [objDom, objId]; omega
  rw [srcItem, hdom, objInst_objId 8 hc hi]
  simp

theorem bodySrcConfig_applies {s : State} {c : Nat} (hc : c < 8) (hold : (sdOf s c).hold = .none) (hparam : sdParamFault s c = none)
    (hstate : sdStateFault s c = none) : bodySrcConfig c s = (sdApply s c, .final okBare) := by
  rw [bodySrcConfig, if_pos hc, sdConfig, sdHeld_none hold]
  dsimp only
  rw [hparam]
  dsimp only
  rw [hstate]

theorem srcConfig_applies {r : Req} {c : Nat} {s : State} (hopen : mailboxOpen s r.slot = true) (hc : c < 8)
    (hold : (sdOf s c).hold = .none) (hparam : sdParamFault (accept s r 0x0801) c = none)
    (hstate : sdStateFault (accept s r 0x0801) c = none) : ∃ t, exec (.srcConfig r c) s = .next t ∧ answered t r.slot okBare ∧
      ∀ i v, i < 65536 → stagedOf s (objId 8 c i) = some v → getP t 8 c i = v ∧ stagedOf t (objId 8 c i) = none := by
  have hsnags : s.col.snags = [] := snags_of_mailboxOpen hopen
  have hkept := sdApply_srcKept (accept s r 0x0801) c
  obtain ⟨t, hexec, hanswered, -, hparams, hstaged⟩ := answered_of_body (c := .srcConfig r c) rfl hopen
    (bodySrcConfig_applies (s := accept s r 0x0801) hc hold hparam hstate) (hkept.snags.trans hsnags)
  refine ⟨t, hexec, hanswered, fun i v hi hv => ?_⟩
  obtain ⟨hval, hgone⟩ := applyStaged_applies (s := accept s r 0x0801) (srcItem_objId (by omega) hi) hv
  constructor
  · rw [getP_of_params_eq hparams, hkept.getP (by decide) (by omega) hi]
    exact hval
  · rw [stagedOf, hstaged, hkept.staged]
    exact hgone

/-- A channel's staged items have taken effect and left the staged set; the source drive is `d`. -/
def sdConfigured (s : State) (c : Nat) (d : Sources) : State := { applyStaged s (srcItem c) with src := d }

theorem sdConfigured_accept {s u : State} {r : Req} {op c : Nat} (h : SrcOnly (applyStaged (accept s r op) (srcItem c)) u) :
    u = { sdConfigured s c u.src with params := (applyStaged (accept s r op) (srcItem c)).params, slots := (accept s r op).slots } := h

theorem srcConfig_quiet {r : Req} {c : Nat} {s : State} (hopen : mailboxOpen s r.slot = true) (hc : c < 8)
    (hold : (sdOf s c).hold = .none) (hparam : sdParamFault (accept s r 0x0801) c = none)
    (hstate : sdStateFault (accept s r 0x0801) c = none) (hquiet : ∀ n, 103 ≤ n → n ≤ 105 → sourceQuiet s n) :
    ∃ d, Answers (.srcConfig r c) r.slot s (sdConfigured s c d) okBare := by
  have honly : SrcOnly (applyStaged (accept s r 0x0801) (srcItem c)) (sdApply (accept s r 0x0801) c) := sdApply_quiet c hquiet
  have hbody := bodySrcConfig_applies (s := accept s r 0x0801) hc hold hparam hstate
  generalize sdApply (accept s r 0x0801) c = u at *
  refine ⟨u.src, answers_of_body (applyStaged (accept s r 0x0801) (srcItem c)).params rfl hopen (by simp) ?_
    (fun o ho => applyStaged_accept r 0x0801 _ ho) rfl (snags_of_mailboxOpen hopen)⟩
  rw [hbody, ← sdConfigured_accept honly]

theorem applyStaged_srcItem_leaves {s : State} {c o : Nat} (h : objDom o ≠ 8 ∨ objInst o ≠ c) :
    kget paramReset (applyStaged s (srcItem c)).params o = kget paramReset s.params o ∧
    stagedOf (applyStaged s (srcItem c)) o = stagedOf s o := by
  refine applyStaged_leaves (.inl ?_)
  simp only [srcItem, Bool.and_eq_false_iff, decide_eq_false_iff_not]
  exact h

/-! ### SRC_CONFIG of a port's gate items (12 R276, R277) -/

theorem gateConfig_noProof {s : State} {p : Nat} (h : planP s 8 (0x40 + p) dGATE_PROOF_SD = 0xFF) :
    gateConfig s p = (gateEstablish (applyStaged s (srcItem (0x40 + p))) p (acceptedView (applyStaged s (srcItem (0x40 + p))) p) false,
      .final (okWith (leBytesI 1 (getP (gateEstablish (applyStaged s (srcItem (0x40 + p))) p
        (acceptedView (applyStaged s (srcItem (0x40 + p))) p) false) 0x08 (0x40 + p) dGATE_DIAG)))) := by
  have hnone : sdPlan s (0x40 + p) dGATE_PROOF_SD = 0xFF := h
  rw [gateConfig, hnone, if_neg (by simp), if_neg (by simp)]

theorem gateConfig_applies {r : Req} {p : Nat} {s : State} (hopen : mailboxOpen s r.slot = true) (hp : p ≤ 1)
    (h : planP s 8 (0x40 + p) dGATE_PROOF_SD = 0xFF) :
    ∃ t q, exec (.srcConfig r (0x40 + p)) s = .next t ∧ answered t r.slot (okWith q) ∧ q.length = 1 ∧
      ∀ i v, i < 65536 → i ≠ dGATE_DIAG → stagedOf s (objId 8 (0x40 + p) i) = some v →
        getP t 8 (0x40 + p) i = v ∧ stagedOf t (objId 8 (0x40 + p) i) = none := by
  have hsnags : s.col.snags = [] := snags_of_mailboxOpen hopen
  have hplan : planP (accept s r 0x0801) 8 (0x40 + p) dGATE_PROOF_SD = 0xFF := (planP_accept s r _ _ _ (by decide)).trans h
  have hbody : bodySrcConfig (0x40 + p) (accept s r 0x0801) = gateConfig (accept s r 0x0801) p := by
    have hport : 0x40 + p = 0x40 ∨ 0x40 + p = 0x41 := by omega
    rw [bodySrcConfig, if_neg (by omega), if_pos (by simpa using hport), Nat.add_sub_cancel_left]
  rw [gateConfig_noProof hplan] at hbody
  have happlied := fun o v hf hv => applyStaged_applies (s := accept s r 0x0801) (f := srcItem (0x40 + p)) (o := o) (v := v) hf hv
  have hcol : (applyStaged (accept s r 0x0801) (srcItem (0x40 + p))).col = s.col := rfl
  generalize applyStaged (accept s r 0x0801) (srcItem (0x40 + p)) = u at *
  have hkept := gateEstablish_onlyCollector u p (acceptedView u p) false
  obtain ⟨t, hexec, hanswered, -, hparams, hstaged⟩ := answered_of_body (c := .srcConfig r (0x40 + p)) rfl hopen hbody
    (hkept.snags.trans ((congrArg Collector.snags hcol).trans hsnags))
  refine ⟨t, _, hexec, hanswered, leBytesI_length _ _, fun i v hi hne hv => ?_⟩
  obtain ⟨hval, hgone⟩ := happlied _ v (srcItem_objId (by omega) hi) hv
  constructor
  · rw [getP_of_params_eq hparams, OnlyCollector.srcKept hkept |>.getP (by decide) (by omega) hi,
      getP_setP_item _ _ _ _ _ _ hi (by decide) hne]
    exact hval
  · rw [stagedOf, hstaged, hkept.staged]
    exact hgone

/-! ### SRC_ENABLE and SRC_DISABLE (12 R263, R267, R268) -/

/-- Nothing of the collector but the record of one source changes; the source drive may. -/
theorem satQuiet_rest (s : State) : satQuiet s = { s with col := { s.col with sources := (satQuiet s).col.sources } } := by
  unfold satQuiet setSrcRec
  dsimp only
  split <;> rfl

theorem satQuiet_sourcesBut (s : State) : sourcesBut 106 s (satQuiet s) := fun n hn => by
  unfold satQuiet
  dsimp only
  split
  · rfl
  · rw [srcRec_setSrcRec, if_neg (Ne.symm hn)]

/-- A channel off its limits. -/
def satLeft (s : State) (c : Nat) : State :=
  modSd s c (fun x => { x with satSince := none, satTold := false, satLeft := if x.satTold then nowClk s else x.satLeft })

theorem satLeave_spec (s : State) (c : Nat) :
    satLeave s c = { s with src := (satLeft s c).src, col := { s.col with sources := (satLeave s c).col.sources } } ∧
    sourcesBut 106 s (satLeave s c) := by
  unfold satLeave
  dsimp only
  split
  · exact ⟨satQuiet_rest (satLeft s c), satQuiet_sourcesBut (satLeft s c)⟩
  · exact ⟨rfl, fun _ _ => rfl⟩

theorem sdOf_satLeave (s : State) (c d : Nat) : sdOf (satLeave s c) d = sdOf (satLeft s c) d := by
  rw [(satLeave_spec s c).1]
  rfl


/-- The target of a channel is a matter of items, and of its loop, its regulator's output and its compensation (12 R265). -/
theorem sdTarget_modSd (s : State) (c : Nat) (f : SdChan → SdChan) (hlost : (f (sdOf s c)).lost = (sdOf s c).lost)
    (hu : (f (sdOf s c)).u = (sdOf s c).u) (hy : (f (sdOf s c)).y = (sdOf s c).y) : sdTarget (modSd s c f) c = sdTarget s c := by
  have hitem : ∀ d i n, getP (modSd s c f) d i n = getP s d i n := fun _ _ _ => rfl
  unfold sdTarget proofPort sdRegulates sdP natP
  simp only [hitem, sdOf_modSd_same, hlost, hu, hy]

/-- An OFF channel that turns ON. -/
theorem sdStarted_spec (s : State) (c : Nat) : SrcOnly s (sdStarted s c) ∧ (sdOf (sdStarted s c) c).low = false ∧
    (sdOf (sdStarted s c) c).periodAt = nowClk s ∧ (sdOf (sdStarted s c) c).t = sdTarget (sdStarted s c) c := by
  refine ⟨rfl, ?_, ?_, ?_⟩
  · unfold sdStarted sdOn
    dsimp only
    rw [sdOf_modSd_same, sdOf_modSd_same, sdOf_modSd_same]
  · unfold sdStarted sdOn
    dsimp only
    rw [sdOf_modSd_same]
  · unfold sdStarted sdOn
    dsimp only
    generalize modSd s c _ = u
    rw [sdTarget_modSd _ c _ rfl rfl rfl, sdTarget_modSd _ c _ rfl rfl rfl, sdOf_modSd_same, sdOf_modSd_same]

theorem answers_of_response {c : Instr} {r : Req} {op : Nat} {s s' u : State} {a : Reply}
    (hc : exec c s = .next (writeResponse u r.slot .done .none a))
    (hu : u = { s' with params := (accept s r op).params, slots := (accept s r op).slots }) (hp : s'.params = s.params)
    (hs : s'.slots = s.slots) : Answers c r.slot s s' a := by
  refine ⟨_, hc, ⟨?_, ?_⟩, ?_, fun o ho => ?_, fun n hne => ?_⟩
  · rw [slotOf_writeResponse, if_pos rfl]
  · rw [slotOf_writeResponse, if_pos rfl]
  · rw [writeResponse_eq, hu]
  · rw [writeResponse_params, hu, hp]
    exact accept_params s r op o ho
  · have hslot : slotOf u n = slotOf (accept s r op) n := by rw [hu]; rfl
    have hslot' : slotOf s' n = slotOf s n := by unfold slotOf; rw [hs]
    rw [slotOf_writeResponse, if_neg (Ne.symm hne), hslot, hslot', slotOf_accept s r op n hne]

/-- The target of a channel is a matter of the source drive and of items of domain 8 (12 R265). -/
theorem sdTarget_congr {s t : State} (hsrc : t.src = s.src) (hitem : ∀ i n, getP t 8 i n = getP s 8 i n) (c : Nat) :
    sdTarget t c = sdTarget s c := by
  unfold sdTarget proofPort sdRegulates sdP natP sdOf
  simp only [hitem, hsrc]

theorem srcEnable_answers {r : Req} {c : Nat} {s : State} (hopen : mailboxOpen s r.slot = true) (hc : c < 8)
    (hold : (sdOf s c).hold = .none) (hoff : (sdOf s c).st = .off) (hkind : sdKind s c ≠ 0) :
    ∃ s', Answers (.srcEnable r c) r.slot s s' okBare ∧ s' = { s with src := s'.src } ∧ (sdOf s' c).st = .on ∧ (sdOf s' c).p = 0 ∧
      (sdOf s' c).low = false ∧ (sdOf s' c).periodAt = nowClk s ∧ (sdOf s' c).t = sdTarget s' c ∧ ∀ d, d ≠ c → sdOf s' d = sdOf s d := by
  have hexec := srcEnable_starts hopen (by omega) (sdHeld_none hold) hoff hkind
  obtain ⟨hon, hzero, hother⟩ := sdOf_sdStarted (accept s r 0x0802) c
  obtain ⟨honly, hlow, hperiod, htarget⟩ := sdStarted_spec (accept s r 0x0802) c
  generalize sdStarted (accept s r 0x0802) c = u at *
  have hsame : sdTarget { s with src := u.src } c = sdTarget u c := sdTarget_congr (by rfl) (fun i n => by
    rw [honly]
    exact (getP_accept s r 0x0802 i n (by decide)).symm) c
  exact ⟨{ s with src := u.src }, answers_of_response hexec honly rfl rfl, rfl, hon, hzero, hlow, hperiod, htarget.trans hsame.symm, hother⟩

theorem bodySrcDisable_eq {s : State} {c : Nat} (hc : c < 8) (hold : (sdOf s c).hold = .none) :
    ((sdOf s c).st = .off → bodySrcDisable c s = reply s okBare) ∧
    ((sdOf s c).st = .on → bodySrcDisable c s = (sdStop s c, .later (.srcDisable c))) ∧
    ((sdOf s c).st = .tripped → bodySrcDisable c s = (sdOff s c, .final okBare)) := by
  refine ⟨fun h => ?_, fun h => ?_, fun h => ?_⟩ <;> rw [bodySrcDisable, if_neg (by omega), sdHeld_none hold] <;> dsimp only <;> rw [h]

/-- A channel off its limits after a change of its record `f`: only its record, and the record of source 106. -/
theorem satLeave_modSd (s : State) (c : Nat) (f : SdChan → SdChan) (hsat : (f (sdOf s c)).satTold = (sdOf s c).satTold)
    (hleft : (f (sdOf s c)).satLeft = (sdOf s c).satLeft) :
    (∃ d srcs, satLeave (modSd s c f) c = { s with src := d, col := { s.col with sources := srcs } }) ∧
    sourcesBut 106 s (satLeave (modSd s c f) c) ∧
    sdOf (satLeave (modSd s c f) c) c = { f (sdOf s c) with
      satSince := none, satTold := false, satLeft := if (sdOf s c).satTold then nowClk s else (sdOf s c).satLeft } ∧
    ∀ d, d ≠ c → sdOf (satLeave (modSd s c f) c) d = sdOf s d := by
  obtain ⟨hrest, hsrc⟩ := satLeave_spec (modSd s c f) c
  refine ⟨⟨_, _, hrest⟩, hsrc, ?_, fun d hd => ?_⟩
  · rw [sdOf_satLeave, satLeft, sdOf_modSd_same, sdOf_modSd_same, hsat, hleft]
    rfl
  · rw [sdOf_satLeave, satLeft, sdOf_modSd_ne _ _ hd, sdOf_modSd_ne _ _ hd]

theorem srcDisable_stops {r : Req} {c : Nat} {s : State} (hopen : mailboxOpen s r.slot = true) (hc : c < 8)
    (hold : (sdOf s c).hold = .none) (hon : (sdOf s c).st = .on) : ∃ s', Defers (.srcDisable r c) r.slot s s' (.srcDisable c) ∧
      s' = { s with src := s'.src, col := { s.col with sources := s'.col.sources } } ∧ sourcesBut 106 s s' ∧
      sdOf s' c = { sdOf s c with
        st := .stopping, t := sdP s c dSD_SAFE, satSince := none, satTold := false
        satLeft := if (sdOf s c).satTold then nowClk s else (sdOf s c).satLeft } ∧
      ∀ d, d ≠ c → sdOf s' d = sdOf s d := by
  have hbody : bodySrcDisable c (accept s r 0x0803) = _ := (bodySrcDisable_eq (s := accept s r 0x0803) hc hold).2.1 hon
  have hsafe : sdP (accept s r 0x0803) c dSD_SAFE = sdP s c dSD_SAFE := sdP_accept s r _ c _
  obtain ⟨⟨d, srcs, hrest⟩, hbut, hsame, hother⟩ := satLeave_modSd (accept s r 0x0803) c
    (fun x => { x with st := .stopping, t := sdP (accept s r 0x0803) c dSD_SAFE }) rfl rfl
  rw [sdStop, hrest] at hbody
  rw [hrest] at hbut hsame hother
  rw [hsafe] at hsame
  exact ⟨{ s with src := d, col := { s.col with sources := srcs } },
    defers_of_body (accept s r 0x0803).params rfl hopen (by simp) hbody (accept_params s r _) rfl, rfl, hbut, hsame, hother⟩

theorem srcDisable_frees {r : Req} {c : Nat} {s : State} (hopen : mailboxOpen s r.slot = true) (hc : c < 8)
    (hold : (sdOf s c).hold = .none) (htrip : (sdOf s c).st = .tripped) : ∃ s', Answers (.srcDisable r c) r.slot s s' okBare ∧
      s' = { s with src := s'.src, col := { s.col with sources := s'.col.sources } } ∧ sourcesBut 106 s s' ∧
      (sdOf s' c).st = .off ∧ (sdOf s' c).low = true ∧ ∀ d, d ≠ c → sdOf s' d = sdOf s d := by
  have hbody : bodySrcDisable c (accept s r 0x0803) = _ := (bodySrcDisable_eq (s := accept s r 0x0803) hc hold).2.2 htrip
  obtain ⟨⟨d, srcs, hrest⟩, hbut, hsame, hother⟩ := satLeave_modSd (accept s r 0x0803) c (fun x => { x with st := .off, low := true }) rfl rfl
  rw [sdOff, hrest] at hbody
  rw [hrest] at hbut hsame hother
  exact ⟨{ s with src := d, col := { s.col with sources := srcs } },
    answers_of_body (accept s r 0x0803).params rfl hopen (by simp) hbody (accept_params s r _) rfl (snags_of_mailboxOpen hopen),
    rfl, hbut, congrArg SdChan.st hsame, congrArg SdChan.low hsame, hother⟩

/-! ### SRC_COMP_TABLE (12 R270) -/

theorem srcCompTable_takes {r : Req} {n : Nat} {bytes : List Byte} {s : State} (hopen : mailboxOpen s r.slot = true) (hn : n ≤ 7)
    (hlo : 2 ≤ fieldAt bytes 5 1) (hhi : fieldAt bytes 5 1 ≤ 16) (hentry : fieldAt bytes 4 1 ≤ 31) :
    (firstFalling 0 (tablePoints (fieldAt bytes 5 1) (bytes.drop 8)) = none → Answers (.srcCompTable r n bytes) r.slot s
      { s with src := { s.src with tables := kput (fun _ => none) s.src.tables n (some ⟨fieldAt bytes 4 1, fieldAt bytes 0 4,
        tablePoints (fieldAt bytes 5 1) (bytes.drop 8)⟩) } } okBare) ∧
    (∀ i, firstFalling 0 (tablePoints (fieldAt bytes 5 1) (bytes.drop 8)) = some i →
      Answers (.srcCompTable r n bytes) r.slot s s (badFieldOf (128 + 64 * i) n)) := by
  have hbounds : (decide (fieldAt bytes 5 1 < 2) || decide (16 < fieldAt bytes 5 1)) = false := by simp; omega
  constructor
  · intro hrises
    refine answers_of_body (accept s r 0x0804).params rfl hopen (by simp) ?_ (accept_params s r _) rfl (snags_of_mailboxOpen hopen)
    rw [bodySrcCompTable, if_neg (by omega), hbounds, if_neg (by decide), if_neg (by omega), hrises]
    rfl
  · intro i hfalls
    refine answers_of_refusal rfl hopen ?_
    rw [bodySrcCompTable, if_neg (by omega), hbounds, if_neg (by decide), if_neg (by omega), hfalls]

/-! ### Lost feedback, saturation (12 R272, R273) -/

/-- What a raise makes of the collector is a matter of the collector. -/
theorem detect_of_col_eq {s t : State} (h : t.col = s.col) (x : Raise) : detect t x = { t with col := (detect s x).col } := by
  have hrec : ∀ n, srcRec t n = srcRec s n := fun n => by rw [srcRec, h, srcRec]
  unfold detect dropQuiet
  rw [hrec]
  dsimp only
  split
  · unfold setSrcRec
    dsimp only
    rw [h]
  · rw [h]

theorem sdFbHoldExpiry_loses {c : Nat} {s : State} (hon : (sdOf s c).st = .on) (hwatched : (sdWatched s c).isSome = true)
    (hgood : (sdOf s c).lost = false) (hdue : (sdOf s c).goodAt + natP s 8 c dSD_FB_HOLD * 1250000 ≤ nowClk s) : ∃ t,
      exec (.sdFbHoldExpiry c) s = .next t ∧ (sdOf t c).lost = true ∧ (sdOf t c).st = .on ∧
      (sdRegulates s c = true → proofPort s c = none → (sdOf t c).t = sdP s c dSD_SAFE) ∧
      t = { s with src := t.src, col := (detect s { raiseBlank 103 with ins := c }).col } ∧
      ∀ d, d ≠ c → sdOf t d = sdOf s d := by
  have hlose : sdLose s c = { s with
      src := (modSd s c (fun x => { x with lost := true })).src, col := (detect s { raiseBlank 103 with ins := c }).col } :=
    (detect_of_col_eq (modSd_srcOnly s c _).col _).trans (by rfl)
  have hlost : sdOf (sdLose s c) c = { sdOf s c with lost := true } := by
    rw [hlose]
    exact sdOf_modSd_same s c _
  have hothers : ∀ d, d ≠ c → sdOf (sdLose s c) d = sdOf s d := fun d hd => by
    rw [hlose]
    exact sdOf_modSd_ne s _ hd
  have hitems : ∀ i n, getP (sdLose s c) 8 i n = getP s 8 i n := fun i n => by
    rw [hlose]
    rfl
  have hexec : exec (.sdFbHoldExpiry c) s = .next (modSd (sdLose s c) c (fun x => { x with t := sdTarget (sdLose s c) c })) := by
    show execSdFbHoldExpiry c s = _
    rw [execSdFbHoldExpiry, if_pos ⟨hon, hwatched, by rw [hgood]; rfl, hdue⟩]
  refine ⟨_, hexec, ?_, ?_, fun hreg hproof => ?_, ?_, fun d hd => ?_⟩
  · rw [sdOf_modSd_same, hlost]
  · rw [sdOf_modSd_same, hlost]
    exact hon
  · rw [sdOf_modSd_same]
    have hreg' : sdRegulates (sdLose s c) c = true := by
      rw [sdRegulates, sdP, hitems]
      exact hreg
    have hproof' : proofPort (sdLose s c) c = none := by
      unfold proofPort natP
      simp only [hitems]
      exact hproof
    rw [sdTarget, hproof', hreg', hlost]
    dsimp only
    rw [if_pos rfl, if_pos rfl]
    exact hitems c dSD_SAFE
  · rw [hlose]
    rfl
  · rw [sdOf_modSd_ne _ _ hd, hothers d hd]

theorem sdSaturationTimer_raises {c : Nat} {a : Nat × Bool} {s : State} (hsince : (sdOf s c).satSince = some a)
    (hdue : a.1 + 12500000000 ≤ nowClk s) (htold : (sdOf s c).satTold = false) : ∃ t, exec (.sdSaturationTimer c) s = .next t ∧
      t = { s with src := t.src, col := { s.col with sources := t.col.sources, detected := t.col.detected } } ∧ sourcesBut 106 s t ∧
      t.col.detected = s.col.detected ++ [{ raiseBlank 106 with ins := c }] ∧
      sdOf t c = { sdOf s c with satTold := true, satMark := true } ∧ ∀ d, d ≠ c → sdOf t d = sdOf s d := by
  have hexec : exec (.sdSaturationTimer c) s =
      .next (sdRaise (satQuiet (modSd s c (fun x => { x with satTold := true, satMark := true }))) 106 c) := by
    show Host.Outcome.next (sdSaturated s c) = _
    rw [sdSaturated, hsince]
    dsimp only
    rw [htold, if_pos (by simpa [secTicks] using hdue)]
  have hsame := sdOf_modSd_same s c (fun x => { x with satTold := true, satMark := true })
  have hother := fun d (hd : d ≠ c) => sdOf_modSd_ne s (fun x => { x with satTold := true, satMark := true }) hd
  have honly := modSd_srcOnly s c (fun x => { x with satTold := true, satMark := true })
  generalize modSd s c (fun x => { x with satTold := true, satMark := true }) = u at *
  have hquiet : sourcesBut 106 u (satQuiet u) := satQuiet_sourcesBut u
  have hrest := satQuiet_rest u
  generalize satQuiet u = w at *
  have hraise := detect_rest w { raiseBlank 106 with ins := c }
  refine ⟨_, hexec, ?_, fun n hn => ?_, ?_, ?_, fun d hd => ?_⟩
  · rw [sdRaise, hraise, hrest, honly]
  · rw [sdRaise, srcRec_detect, if_neg (by exact Ne.symm hn), hquiet n hn, honly]
    rfl
  · rw [sdRaise, hraise, hrest, honly]
  · rw [sdRaise, hraise, ← hsame, hrest]
    rfl
  · rw [sdRaise, hraise, ← hother d hd, hrest]
    rfl

theorem sdSaturationTimer_waits {c : Nat} {a : Nat × Bool} {s : State} (hsince : (sdOf s c).satSince = some a)
    (h : nowClk s < a.1 + 12500000000 ∨ (sdOf s c).satTold = true) : exec (.sdSaturationTimer c) s = .next s := by
  show Host.Outcome.next (sdSaturated s c) = _
  rw [sdSaturated, hsince]
  dsimp only
  rw [if_neg]
  rcases h with h | h
  · have hlate : ¬ a.1 + 10 * secTicks ≤ nowClk s := by simp [secTicks]; omega
    simp [hlate]
  · simp [h]

/-! ### Gate tests (12 R275, R276) -/

/-- The test that ends, counted; `n` tests have passed in a row. -/
def gateTested (s : State) (p n : Nat) (rest : List GateTest) : State :=
  bumpP { s with src := { s.src with gates := kput gateBlank s.src.gates p ⟨rest, n⟩ } } 0x08 (0x40 + p) dGATE_TESTS

theorem gateTested_spec (s : State) (p n : Nat) (rest : List GateTest) :
    kget gateBlank (gateTested s p n rest).src.gates p = ⟨rest, n⟩ ∧
    getP (gateTested s p n rest) 8 (0x40 + p) dGATE_TESTS = inc32 (getP s 8 (0x40 + p) dGATE_TESTS) ∧
    getP (gateTested s p n rest) 8 (0x40 + p) dGATE_FAILS = getP s 8 (0x40 + p) dGATE_FAILS ∧
    (gateTested s p n rest).col = s.col :=
  ⟨kget_kput_same .., getP_bumpP_same .., getP_bumpP_ne _ _ _ (by decide), rfl⟩

theorem gateTestDecision_decides {p : Nat} {samples : List Nat} {g : GateTest} {gs : List GateTest} {s : State}
    (htests : (kget gateBlank s.src.gates p).tests = g :: gs) (hdue : g.endClk ≤ nowClk s) :
    exec (.gateTestDecision p samples) s = .next (gateDecide s p (gateAbove s p g samples) g gs) := by
  show execGateTestDecision p samples s = _
  rw [execGateTestDecision, htests]
  exact if_pos hdue

theorem gateDecide_passes {s : State} {p above : Nat} {g : GateTest} {gs : List GateTest} (hp : p ≤ 1) (h : 24 ≤ above) :
    let t := gateDecide s p above g gs
    kget gateBlank t.src.gates p = ⟨gs, (kget gateBlank s.src.gates p).passes + 1⟩ ∧
    getP t 8 (0x40 + p) dGATE_TESTS = inc32 (getP s 8 (0x40 + p) dGATE_TESTS) ∧
    getP t 8 (0x40 + p) dGATE_FAILS = getP s 8 (0x40 + p) dGATE_FAILS ∧
    ((kget gateBlank s.src.gates p).passes < 63 → t.col = s.col) := by
  intro t
  have ht : t = if 64 ≤ (kget gateBlank s.src.gates p).passes + 1 then
      clearLive (gateTested s p ((kget gateBlank s.src.gates p).passes + 1) gs) (107 + p)
      else gateTested s p ((kget gateBlank s.src.gates p).passes + 1) gs := by
    show gateDecide s p above g gs = _
    rw [gateDecide, decide_eq_true h]
    rfl
  obtain ⟨hgates, htests, hfails, hcol⟩ := gateTested_spec s p ((kget gateBlank s.src.gates p).passes + 1) gs
  generalize gateTested s p ((kget gateBlank s.src.gates p).passes + 1) gs = u at *
  have hkept : SrcKept u t ∧ t.src = u.src := by
    rw [ht]
    split
    · exact ⟨(clearLive_onlyCollector u _).srcKept, by rw [(clearLive_onlyCollector u _).rest]⟩
    · exact ⟨(SrcOnly.refl u).srcKept, rfl⟩
  refine ⟨by rw [hkept.2]; exact hgates, ?_, ?_, fun hfew => ?_⟩
  · rw [hkept.1.getP (by decide) (by omega) (by decide), htests]
  · rw [hkept.1.getP (by decide) (by omega) (by decide), hfails]
  · rw [ht, if_neg (by omega), hcol]

theorem gateDecide_fails {s : State} {p above : Nat} {g : GateTest} {gs : List GateTest} (h : above < 24) :
    let t := gateDecide s p above g gs
    kget gateBlank t.src.gates p = ⟨gs, 0⟩ ∧
    getP t 8 (0x40 + p) dGATE_TESTS = inc32 (getP s 8 (0x40 + p) dGATE_TESTS) ∧
    getP t 8 (0x40 + p) dGATE_FAILS = inc32 (getP s 8 (0x40 + p) dGATE_FAILS) ∧
    t.col.detected = s.col.detected ++ [{ raiseBlank (107 + p) with
      port := p, ins := if g.proof then 0xFFFF else g.ply, d0 := g.shot }] := by
  intro t
  have ht : t = detect (bumpP (gateTested s p 0 gs) 0x08 (0x40 + p) dGATE_FAILS)
      { raiseBlank (107 + p) with port := p, ins := if g.proof then 0xFFFF else g.ply, d0 := g.shot } := by
    show gateDecide s p above g gs = _
    rw [gateDecide, decide_eq_false (by omega)]
    rfl
  obtain ⟨hgates, htests, hfails, hcol⟩ := gateTested_spec s p 0 gs
  generalize gateTested s p 0 gs = u at *
  rw [detect_rest] at ht
  refine ⟨by rw [ht]; exact hgates, ?_, ?_, ?_⟩
  · rw [ht, ← htests]
    exact getP_bumpP_ne u 8 _ (by decide)
  · rw [ht, ← hfails]
    exact getP_bumpP_same u 8 _ _
  · rw [ht, ← hcol]
    rfl

/-- Settles O34. -/
theorem sourceDrive : Obligations.SourceDrive := by
  unfold Obligations.SourceDrive
  refine ⟨fun r c s hopen hc hold hparam hstate => ⟨srcConfig_applies hopen hc hold hparam hstate, fun hquiet => ?_⟩,
    fun r p s hopen hp hnone => gateConfig_applies hopen hp hnone, fun r c s hopen hc hold => ⟨fun hoff => ?_,
      fun hoff hkind => srcEnable_answers hopen hc hold hoff hkind, fun hon => srcDisable_stops hopen hc hold hon,
      fun htrip => srcDisable_frees hopen hc hold htrip⟩,
    fun r n bytes s hopen hn hlo hhi hentry => srcCompTable_takes hopen hn hlo hhi hentry,
    fun c s _ hon hwatched hgood hdue => sdFbHoldExpiry_loses hon hwatched hgood hdue,
    fun c a s hsince => ⟨fun hdue htold => sdSaturationTimer_raises hsince hdue htold, fun h => sdSaturationTimer_waits hsince h⟩,
    fun p samples g gs s hp htests hdue => ?_⟩
  · obtain ⟨d, hanswers⟩ := srcConfig_quiet hopen hc hold hparam hstate hquiet
    exact ⟨_, hanswers, rfl, fun o ho => applyStaged_srcItem_leaves ho⟩
  · exact answers_of_refusal rfl hopen ((bodySrcDisable_eq (s := accept s r 0x0803) hc hold).1 hoff)
  · rcases Nat.lt_or_ge (gateAbove s p g samples) 24 with h | h
    · obtain ⟨hgates, hcount, hfails, hraise⟩ := gateDecide_fails (s := s) (p := p) (g := g) (gs := gs) h
      exact ⟨_, gateTestDecision_decides htests hdue, by rw [hgates], hcount, fun hp => absurd hp (by omega),
        fun _ => ⟨by rw [hgates], hfails, hraise⟩⟩
    · obtain ⟨hgates, hcount, hfails, hcol⟩ := gateDecide_passes (s := s) (g := g) (gs := gs) hp h
      exact ⟨_, gateTestDecision_decides htests hdue, by rw [hgates], hcount, fun _ => ⟨by rw [hgates], hfails, hcol⟩,
        fun hf => absurd hf (by omega)⟩

end Sys2Proof.Machine
end

section
/-! PROOFS. The memory controller (13_memory_controller.md): O35. -/

namespace Sys2Proof.Machine

/-! ### Channels and banks (13 R286 to R292) -/

theorem chanOf_modChan (s : State) (c d : Nat) (f : MemChan → MemChan) :
    chanOf (modChan s c f) d = if c = d then f (chanOf s c) else chanOf s d :=
  kget_kput memChanBlank s.mem.chans c d _

theorem chanOf_modChan_same (s : State) (c : Nat) (f : MemChan → MemChan) : chanOf (modChan s c f) c = f (chanOf s c) :=
  (chanOf_modChan s c c f).trans (if_pos rfl)

theorem chanOf_modChan_ne {c d : Nat} (s : State) (f : MemChan → MemChan) (h : d ≠ c) : chanOf (modChan s c f) d = chanOf s d :=
  (chanOf_modChan s c d f).trans (if_neg (Ne.symm h))

theorem bankOf_modBank (s : State) (c rank bank d r b : Nat) (f : MemBank → MemBank) :
    bankOf (modBank s c rank bank f) d r b =
      if c = d ∧ bankKey rank bank = bankKey r b then f (bankOf s d r b) else bankOf s d r b := by
  rw [bankOf, modBank, chanOf_modChan]
  by_cases hc : c = d
  · rw [if_pos hc]
    show kget bankClosed (kput bankClosed (chanOf s c).banks (bankKey rank bank) _) (bankKey r b) = _
    rw [kget_kput]
    by_cases hk : bankKey rank bank = bankKey r b
    · rw [if_pos hk, if_pos ⟨hc, hk⟩, hc, hk]
      rfl
    · rw [if_neg hk, if_neg (fun h => hk h.2), hc]
      rfl
  · rw [if_neg hc, if_neg (fun h => hc h.1)]
    rfl

theorem bankOf_modBank_same (s : State) (c rank bank : Nat) (f : MemBank → MemBank) :
    bankOf (modBank s c rank bank f) c rank bank = f (bankOf s c rank bank) :=
  (bankOf_modBank s c rank bank c rank bank f).trans (if_pos ⟨rfl, rfl⟩)

/-- The same change, made to a list of banks of one channel, is made to each of them. -/
theorem bankOf_foldl_modBank {f : MemBank → MemBank} (hf : ∀ x, f (f x) = f x) (c : Nat) (rk bk : Nat → Nat) (is : List Nat) (s : State)
    (d r b : Nat) : bankOf (is.foldl (fun s i => modBank s c (rk i) (bk i) f) s) d r b =
      if c = d ∧ ∃ i ∈ is, bankKey (rk i) (bk i) = bankKey r b then f (bankOf s d r b) else bankOf s d r b := by
  induction is generalizing s with
  | nil => simp
  | cons i is ih =>
    rw [List.foldl_cons, ih, bankOf_modBank]
    by_cases hc : c = d <;> by_cases hi : bankKey (rk i) (bk i) = bankKey r b <;>
      by_cases hrest : ∃ j ∈ is, bankKey (rk j) (bk j) = bankKey r b <;> simp [hc, hi, hrest, hf]

/-- The banks of a channel, counted through from 0 to 31. -/
theorem bankKey_counted (rank bank : Nat) : ∃ i ∈ List.range 32, bankKey (i / 16) i = bankKey rank bank :=
  ⟨bankKey rank bank, List.mem_range.mpr (by unfold bankKey; omega), by unfold bankKey; omega⟩

/-- The banks of a rank, counted from 0 to 15. -/
theorem bankKey_ranked (rank bank : Nat) : ∃ i ∈ List.range 16, bankKey rank i = bankKey rank bank :=
  ⟨bank % 16, List.mem_range.mpr (by omega), by unfold bankKey; omega⟩

/-- What a channel holds beside its banks. -/
def chanRest (x : MemChan) : MemChan := { x with banks := [] }

/-- `t` differs from `s` in the records of banks only, and in what has been taken of the free values. -/
structure BanksOnly (s t : State) : Prop where
  rest : t = { s with free := t.free, mem := { s.mem with chans := t.mem.chans } }
  chan : ∀ d, chanRest (chanOf t d) = chanRest (chanOf s d)

theorem BanksOnly.refl (s : State) : BanksOnly s s := ⟨rfl, fun _ => rfl⟩

theorem BanksOnly.after {a b c : State} (k : BanksOnly b c) (h : BanksOnly a b) : BanksOnly a c :=
  ⟨k.rest.trans (congrArg (fun x : State => { x with free := c.free, mem := { x.mem with chans := c.mem.chans } }) h.rest),
    fun d => (k.chan d).trans (h.chan d)⟩

theorem BanksOnly.ite {c : Prop} [Decidable c] {s a b : State} (h : BanksOnly s a) (k : BanksOnly s b) : BanksOnly s (if c then a else b) := by
  split
  · exact h
  · exact k

theorem BanksOnly.foldl {f : State → Nat → State} (hf : ∀ s i, BanksOnly s (f s i)) (is : List Nat) (s : State) : BanksOnly s (is.foldl f s) :=
  List.foldlRecOn (motive := BanksOnly s) is f (.refl s) fun t ht i _ => (hf t i).after ht

theorem BanksOnly.queue {s t : State} (h : BanksOnly s t) (d : Nat) : (chanOf t d).queue = (chanOf s d).queue := by
  have hrest := congrArg MemChan.queue (h.chan d)
  exact hrest

theorem BanksOnly.hits {s t : State} (h : BanksOnly s t) (d : Nat) : (chanOf t d).hits = (chanOf s d).hits := by
  have hrest := congrArg MemChan.hits (h.chan d)
  exact hrest

theorem BanksOnly.asleep {s t : State} (h : BanksOnly s t) (d : Nat) : (chanOf t d).asleep = (chanOf s d).asleep := by
  have hrest := congrArg MemChan.asleep (h.chan d)
  exact hrest

theorem modBank_banksOnly (s : State) (c rank bank : Nat) (f : MemBank → MemBank) : BanksOnly s (modBank s c rank bank f) := by
  refine ⟨rfl, fun d => ?_⟩
  by_cases hd : d = c
  · rw [hd, modBank, chanOf_modChan_same]
    rfl
  · rw [modBank, chanOf_modChan_ne _ _ hd]

/-- `t` differs from `s` in the memory controller only. -/
def MemOnly (s t : State) : Prop := t = { s with mem := t.mem }

theorem MemOnly.refl (s : State) : MemOnly s s := rfl

theorem MemOnly.after {a b c : State} (k : MemOnly b c) (h : MemOnly a b) : MemOnly a c :=
  k.trans (congrArg (fun x : State => { x with mem := c.mem }) h)

theorem MemOnly.foldl {f : State → Nat → State} (hf : ∀ s i, MemOnly s (f s i)) (is : List Nat) (s : State) : MemOnly s (is.foldl f s) :=
  List.foldlRecOn (motive := MemOnly s) is f (.refl s) fun t ht i _ => (hf t i).after ht

theorem modBank_memOnly (s : State) (c rank bank : Nat) (f : MemBank → MemBank) : MemOnly s (modBank s c rank bank f) := rfl

theorem modChan_memOnly (s : State) (c : Nat) (f : MemChan → MemChan) : MemOnly s (modChan s c f) := rfl

theorem prechargeAll_memOnly (s : State) (c : Nat) : MemOnly s (prechargeAll s c) :=
  .foldl (fun t i => modBank_memOnly t c (i / 16) i _) _ s

theorem prechargeAll_banksOnly (s : State) (c : Nat) : BanksOnly s (prechargeAll s c) :=
  .foldl (fun t i => modBank_banksOnly t c (i / 16) i _) _ s

theorem bankOf_prechargeAll (s : State) (c d r b : Nat) :
    bankOf (prechargeAll s c) d r b = if c = d then { bankOf s d r b with row := none } else bankOf s d r b := by
  have h := bankOf_foldl_modBank (f := fun x => { x with row := none }) (fun _ => rfl) c (fun i => i / 16) (fun i => i) (List.range 32) s d r b
  rw [prechargeAll, h]
  exact if_congr (and_iff_left (bankKey_counted r b)) rfl rfl

theorem row_foldl_prechargeAll (cs : List Nat) {c rank bank : Nat} {s : State} (h : c ∈ cs ∨ (bankOf s c rank bank).row = none) :
    (bankOf (cs.foldl prechargeAll s) c rank bank).row = none := by
  induction cs generalizing s with
  | nil => exact h.resolve_left (by simp)
  | cons d cs ih =>
    rw [List.foldl_cons]
    refine ih ?_
    rw [bankOf_prechargeAll]
    rcases h with h | h
    · rcases List.mem_cons.mp h with h | h
      · exact .inr (by rw [if_pos h.symm])
      · exact .inl h
    · exact .inr (by split <;> [rfl; exact h])

theorem asleep_foldl_wake (cs : List Nat) {c : Nat} {s : State} (h : c ∈ cs ∨ (chanOf s c).asleep = false) :
    (chanOf (cs.foldl wake s) c).asleep = false := by
  induction cs generalizing s with
  | nil => exact h.resolve_left (by simp)
  | cons d cs ih =>
    rw [List.foldl_cons]
    refine ih ?_
    rw [wake, chanOf_modChan]
    rcases h with h | h
    · rcases List.mem_cons.mp h with h | h
      · exact .inr (by rw [if_pos h.symm])
      · exact .inl h
    · exact .inr (by split <;> [rfl; exact h])

/-- Training and a set-point change begin with every channel awake and every row closed (13 R283, R285). -/
theorem closeAllRows_spec (s : State) : MemOnly s (closeAllRows s) ∧ ∀ c, c < 4 → (chanOf (closeAllRows s) c).asleep = false ∧
    ∀ rank bank, (bankOf (closeAllRows s) c rank bank).row = none := by
  have hwake : MemOnly s (wakeAll s) := .foldl (fun t c => modChan_memOnly t c _) _ s
  have hall : ∀ c, c < 4 → c ∈ [0, 1, 2, 3] := fun c hc => by simp; omega
  have hawake : ∀ c, c < 4 → (chanOf (wakeAll s) c).asleep = false := fun c hc => asleep_foldl_wake _ (.inl (hall c hc))
  unfold closeAllRows
  generalize wakeAll s = u at *
  refine ⟨(MemOnly.foldl prechargeAll_memOnly _ _).after hwake, fun c hc => ⟨?_, fun rank bank => ?_⟩⟩
  · rw [(BanksOnly.foldl prechargeAll_banksOnly _ _).asleep, hawake c hc]
  · exact row_foldl_prechargeAll _ (.inl (hall c hc))

/-! ### Commands that end in the slot they came in (15 R315) -/

theorem answered_alone {c : Instr} {r : Req} {op : Nat} {body : State → State × Answer} {s u : State} {a : Reply}
    (hc : exec c s = .next (mbxRun c r op false body s)) (hopen : mailboxOpen s r.slot = true)
    (hbody : body (accept s r op) = (u, .final a)) (hsnags : u.col.snags = []) :
    ∃ t, exec c s = .next t ∧ answered t r.slot a ∧ t = { u with slots := t.slots, link := t.link } := by
  obtain ⟨hphase, hreply, -, -⟩ := post_final (a := a) r.slot hsnags
  rw [mbxRun_open c r op false body s hopen (by simp), hbody] at hc
  exact ⟨_, hc, ⟨hphase, hreply⟩, by rw [post]; exact finish_rest u r.slot a⟩

/-- A slot that takes a request waits for no job. -/
theorem slotWaiting_accept {s : State} {j : Job} (r : Req) (op : Nat) (h : slotWaiting s j = none) : slotWaiting (accept s r op) j = none := by
  rw [slotWaiting, Option.map_eq_none_iff, List.find?_eq_none] at h ⊢
  intro p hp
  have hslots : (accept s r op).slots = kput (fun _ => slotBlank) s.slots r.slot { slotOf s r.slot with
      phase := .accepted, opcode := op, tag := r.tag, noIrq := r.noIrq, job := .none, held := none } := rfl
  rw [hslots] at hp
  rcases mem_kput hp with rfl | hold
  · simp
  · exact h p hold

/-! ### MEM_FREQ, MEM_TRAIN (13 R283 to R285) -/

theorem memFreq_waits {r : Req} {fsp : Nat} {s : State} (hopen : mailboxOpen s r.slot = true) (hfsp : fsp ≤ 1)
    (htrain : memTraining s = true) (hnone : s.mem.freqWaits = none) : Defers (.memFreq r fsp) r.slot s
      { s with mem := { s.mem with freqWaits := some fsp, freqReplaced := false } } .memFreq := by
  refine defers_of_body (accept s r 0x1001).params rfl hopen (by simp) ?_ (accept_params s r _) rfl
  have htrain' : memTraining (accept s r 0x1001) = true := htrain
  have hnone' : (accept s r 0x1001).mem.freqWaits = none := hnone
  rw [bodyMemFreq, if_neg (by omega), htrain', Bool.true_or, if_pos rfl, hnone']
  rfl

theorem bodyMemFreq_served {s : State} {fsp : Nat} (hfsp : fsp ≤ 1) (htrain : memTraining s = false) (hdram : s.boot.dramTrained = true)
    (hchange : s.mem.change = none) : bodyMemFreq fsp s = if natP s 0x10 0 mFSP_NOW = fsp then (s, .final okBare)
      else if fsp = 1 ∧ fspOver s 1 = true then (s, .final (noResource 0x1001 0)) else (beginChange s fsp, .final okBare) := by
  rw [bodyMemFreq, if_neg (by omega), htrain, hdram, if_neg (by decide), freqApply, hchange]
  dsimp only
  split
  · rfl
  · split <;> rfl

theorem memFreq_served {r : Req} {fsp : Nat} {s : State} (hopen : mailboxOpen s r.slot = true) (hfsp : fsp ≤ 1)
    (htrain : memTraining s = false) (hdram : s.boot.dramTrained = true) (hchange : s.mem.change = none) :
    (natP s 0x10 0 mFSP_NOW = fsp → Answers (.memFreq r fsp) r.slot s s okBare) ∧
    (natP s 0x10 0 mFSP_NOW ≠ fsp → fsp = 0 ∨ fspOver (accept s r 0x1001) 1 = false → ∃ s', Answers (.memFreq r fsp) r.slot s s' okBare ∧
      s' = { s with mem := s'.mem } ∧ s'.mem.change = some (fsp, nowClk s)) ∧
    (natP s 0x10 0 mFSP_NOW ≠ 1 → fsp = 1 → fspOver (accept s r 0x1001) 1 = true →
      Answers (.memFreq r fsp) r.slot s s (noResource 0x1001 0)) := by
  have hbody := bodyMemFreq_served (s := accept s r 0x1001) hfsp htrain hdram hchange
  rw [natP_accept s r _ _ _ (by decide)] at hbody
  refine ⟨fun hnow => ?_, fun hnow hfits => ?_, fun hnow hone hover => ?_⟩
  · rw [if_pos hnow] at hbody
    exact answers_of_refusal rfl hopen hbody
  · have hadmits : ¬ (fsp = 1 ∧ fspOver (accept s r 0x1001) 1 = true) := by
      rintro ⟨hone, hover⟩
      rcases hfits with h | h
      · omega
      · rw [hover] at h
        exact absurd h (by decide)
    have hclosed := (closeAllRows_spec (accept s r 0x1001)).1
    rw [if_neg hnow, if_neg hadmits, beginChange] at hbody
    dsimp only at hbody
    have hclk : nowClk (closeAllRows (accept s r 0x1001)) = nowClk s := by
      rw [hclosed]
      rfl
    generalize closeAllRows (accept s r 0x1001) = u at *
    rw [hclk, hclosed] at hbody
    exact ⟨{ s with mem := { u.mem with change := some (fsp, nowClk s) } }, answers_of_body (accept s r 0x1001).params rfl hopen (by simp)
      hbody (accept_params s r _) rfl (snags_of_mailboxOpen hopen), rfl, rfl⟩
  · rw [if_neg (by omega), if_pos ⟨hone, hover⟩] at hbody
    exact answers_of_refusal rfl hopen hbody

theorem memTrain_answers {r : Req} {s : State} (hopen : mailboxOpen s r.slot = true) (htrain : slotWaiting s .memTrain = none)
    (hppr : slotWaiting s .memPpr = none) :
    (memInUse s = true → Answers (.memTrain r) r.slot s s (badState 0x1003 0)) ∧
    (memInUse s = false → ∃ s', Defers (.memTrain r) r.slot s s' .memTrain ∧ s' = { s with mem := s'.mem } ∧
      s'.mem.training = some (nowClk s) ∧ ∀ c, c < 4 → (chanOf s' c).asleep = false ∧ ∀ rank bank, (bankOf s' c rank bank).row = none) := by
  have huse : memInUse (accept s r 0x1002) = memInUse s := rfl
  have hbody : bodyMemTrain (accept s r 0x1002) = if memInUse s then reply (accept s r 0x1002) (badState 0x1003 0)
      else (beginTraining (accept s r 0x1002), .later .memTrain) := by
    rw [bodyMemTrain, slotWaiting_accept r _ htrain]
    dsimp only
    rw [slotWaiting_accept r _ hppr, huse]
  refine ⟨fun h => ?_, fun h => ?_⟩
  · rw [h, if_pos rfl] at hbody
    exact answers_of_refusal rfl hopen hbody
  · obtain ⟨hclosed, hchans⟩ := closeAllRows_spec (accept s r 0x1002)
    rw [h, if_neg (by decide), beginTraining] at hbody
    dsimp only at hbody
    have hclk : nowClk (closeAllRows (accept s r 0x1002)) = nowClk s := by
      rw [hclosed]
      rfl
    generalize closeAllRows (accept s r 0x1002) = u at *
    rw [hclk, hclosed] at hbody
    exact ⟨{ s with mem := { u.mem with training := some (nowClk s) } },
      defers_of_body (accept s r 0x1002).params rfl hopen (by simp) hbody (accept_params s r _) rfl, rfl, rfl, hchans⟩

theorem devOf_modDev (s : State) (c rank d r : Nat) (f : MemDev → MemDev) :
    devOf (modDev s c rank f) d r = if c * 2 + rank % 2 = d * 2 + r % 2 then f (devOf s c rank) else devOf s d r :=
  kget_kput memDevBlank s.mem.devs _ _ _

theorem devOf_modDev_counted (s : State) (i j : Nat) (f : MemDev → MemDev) :
    devOf (modDev s (i / 2) i f) (j / 2) j = if i = j then f (devOf s (i / 2) i) else devOf s (j / 2) j := by
  rw [devOf_modDev]
  exact if_congr (by omega) rfl rfl

/-- The devices of a list have no drift any more. -/
theorem drift_foldl_modDev (is : List Nat) {i : Nat} {s : State} (h : i ∈ is ∨ (devOf s (i / 2) i).drift = 0) :
    (devOf (is.foldl (fun s i => modDev s (i / 2) i (fun d => { d with drift := 0 })) s) (i / 2) i).drift = 0 := by
  induction is generalizing s with
  | nil => exact h.resolve_left (by simp)
  | cons j is ih =>
    rw [List.foldl_cons]
    refine ih ?_
    rw [devOf_modDev_counted]
    rcases h with h | h
    · rcases List.mem_cons.mp h with h | h
      · exact .inr (by rw [if_pos h.symm])
      · exact .inl h
    · exact .inr (by split <;> [rfl; exact h])

theorem freqResume_none {s : State} (h : s.mem.freqWaits = none) : freqResume s = s := by rw [freqResume, h]

/-- Raises of a list of objects are all detected, and nothing but the collector changes. -/
theorem detect_foldl_mem (x : Nat → Raise) (cs : List Nat) (s : State) :
    OnlyCollector s (cs.foldl (fun s c => detect s (x c)) s) ∧ s.col.detected ⊆ (cs.foldl (fun s c => detect s (x c)) s).col.detected ∧
    ∀ c ∈ cs, x c ∈ (cs.foldl (fun s c => detect s (x c)) s).col.detected := by
  induction cs generalizing s with
  | nil => exact ⟨.refl s, fun _ h => h, fun _ h => absurd h (by simp)⟩
  | cons d cs ih =>
    obtain ⟨honly, hsub, hmem⟩ := ih (detect s (x d))
    have hstep := detected_detect s (x d)
    rw [List.foldl_cons]
    refine ⟨honly.after (detect_onlyCollector s (x d)), fun y hy => hsub (by rw [hstep]; exact List.mem_append_left _ hy), fun c hc => ?_⟩
    rcases List.mem_cons.mp hc with rfl | hc
    · exact hsub (by rw [hstep]; exact List.mem_append_right _ List.mem_cons_self)
    · exact hmem c hc

theorem memTrainDone_good {failed q : Nat} {s : State} (htrain : s.mem.training = some q) (hwaits : s.mem.freqWaits = none)
    (hgood : ([0, 1, 2, 3].filter (fun c => failed.testBit c)).isEmpty = true) :
    ∃ t, exec (.memTrainDone failed) s = .next t ∧ t.mem.training = none ∧ (∀ i, i < 8 → (devOf t (i / 2) i).drift = 0) ∧
      (srcRec t 64).live = false := by
  have hdevs : ∀ (is : List Nat) (u : State), ∃ m, is.foldl (fun s i => modDev s (i / 2) i (fun d => { d with drift := 0 })) u =
      { u with mem := { u.mem with devs := m } } := fun is => by
    induction is with
    | nil => exact fun u => ⟨u.mem.devs, rfl⟩
    | cons i is ih => exact fun u => (ih _).imp fun m hm => hm
  have hdrift : ∀ i, i < 8 → (devOf ((List.range 8).foldl (fun s i => modDev s (i / 2) i (fun d => { d with drift := 0 }))
      { s with mem := { s.mem with training := none } }) (i / 2) i).drift = 0 := fun i hi =>
    drift_foldl_modDev _ (.inl (List.mem_range.mpr hi))
  obtain ⟨m, hm⟩ := hdevs (List.range 8) { s with mem := { s.mem with training := none } }
  rw [hm] at hdrift
  have hexec : exec (.memTrainDone failed) s = .next (freqResume (complete (clearLive
      { s with mem := { s.mem with training := none, devs := m } } 64) .memTrain okBare)) := by
    show execMemTrainDone failed s = _
    rw [execMemTrainDone, htrain]
    dsimp only
    rw [hgood, if_pos rfl, hm]
    rfl
  have hkept := (clearLive_onlyCollector { s with mem := { s.mem with training := none, devs := m } } 64).rest
  have hlive := (clearLive_flags { s with mem := { s.mem with training := none, devs := m } } 64 64).1
  generalize clearLive { s with mem := { s.mem with training := none, devs := m } } 64 = u at *
  have hdone := complete_rest u .memTrain okBare
  generalize complete u .memTrain okBare = w at *
  have hmem : w.mem = { s.mem with training := none, devs := m } := by rw [hdone, hkept]
  rw [freqResume_none (by rw [hmem]; exact hwaits)] at hexec
  refine ⟨w, hexec, by rw [hmem], fun i hi => ?_, ?_⟩
  · rw [devOf, hmem]
    exact hdrift i hi
  · rw [srcRec, hdone]
    exact hlive.trans (by simp)

theorem memTrainDone_bad {failed q : Nat} {s : State} (htrain : s.mem.training = some q) (hwaits : s.mem.freqWaits = none)
    (hbad : ([0, 1, 2, 3].filter (fun c => failed.testBit c)).isEmpty = false) :
    ∃ t, exec (.memTrainDone failed) s = .next t ∧ t.mem.training = none ∧
      ∀ c, c < 4 → failed.testBit c = true → { raiseBlank 64 with ins := c } ∈ t.col.detected := by
  have hmem : ∀ c, c < 4 → failed.testBit c = true → c ∈ [0, 1, 2, 3].filter (fun c => failed.testBit c) := fun c hc h =>
    List.mem_filter.mpr ⟨by simp; omega, h⟩
  have hexec : exec (.memTrainDone failed) s = .next (freqResume (complete (([0, 1, 2, 3].filter (fun c => failed.testBit c)).foldl
      (fun s c => detect s { raiseBlank 64 with ins := c }) { s with mem := { s.mem with training := none } }) .memTrain (statusOnly stTimeout))) := by
    show execMemTrainDone failed s = _
    rw [execMemTrainDone, htrain]
    dsimp only
    rw [hbad, if_neg (by decide)]
  generalize [0, 1, 2, 3].filter (fun c => failed.testBit c) = bad at *
  obtain ⟨honly, -, hraised⟩ := detect_foldl_mem (fun c => { raiseBlank 64 with ins := c }) bad { s with mem := { s.mem with training := none } }
  have hkept := honly.rest
  generalize bad.foldl (fun s c => detect s { raiseBlank 64 with ins := c }) { s with mem := { s.mem with training := none } } = u at *
  have hdone := complete_rest u .memTrain (statusOnly stTimeout)
  generalize complete u .memTrain (statusOnly stTimeout) = w at *
  have hw : w.mem = { s.mem with training := none } := by rw [hdone, hkept]
  rw [freqResume_none (by rw [hw]; exact hwaits)] at hexec
  refine ⟨w, hexec, by rw [hw], fun c hc h => ?_⟩
  rw [hdone]
  exact hraised c (hmem c hc h)

theorem memTrainDone_ends {failed q : Nat} {s : State} (htrain : s.mem.training = some q) (hwaits : s.mem.freqWaits = none) :
    ∃ t, exec (.memTrainDone failed) s = .next t ∧ t.mem.training = none ∧
      (failed = 0 → (∀ i, i < 8 → (devOf t (i / 2) i).drift = 0) ∧ (srcRec t 64).live = false) ∧
      (∀ c, c < 4 → failed.testBit c = true → ∃ x ∈ t.col.detected, x.src = 64 ∧ x.ins = c) := by
  cases hbad : ([0, 1, 2, 3].filter (fun c => failed.testBit c)).isEmpty with
  | true =>
    obtain ⟨t, hexec, hended, hdrift, hlive⟩ := memTrainDone_good htrain hwaits hbad
    refine ⟨t, hexec, hended, fun _ => ⟨hdrift, hlive⟩, fun c hc h => ?_⟩
    have hmem : c ∈ [0, 1, 2, 3].filter (fun c => failed.testBit c) := List.mem_filter.mpr ⟨by simp; omega, h⟩
    rw [List.isEmpty_iff.mp hbad] at hmem
    exact absurd hmem (by simp)
  | false =>
    obtain ⟨t, hexec, hended, hraised⟩ := memTrainDone_bad htrain hwaits hbad
    refine ⟨t, hexec, hended, fun hzero => ?_, fun c hc h => ⟨_, hraised c hc h, rfl, rfl⟩⟩
    rw [hzero] at hbad
    exact absurd hbad (by simp)

/-! ### MEM_PPR (13 R293) -/

/-- A repair is confirmed: it stands in the map, and its bank has one resource less. -/
def pprEntered (s : State) (ch rank bank row kind : Nat) : State :=
  let u := repairAdd s (.dramRow ch rank bank row kind)
  { u with mem := { u.mem with
    repairs := kmod (fun _ => 0) u.mem.repairs (repairKey ch rank bank) (· + 1)
    hardRepairs := if kind = 1 then kmod (fun _ => 0) u.mem.hardRepairs (repairKey ch rank bank) (· + 1) else u.mem.hardRepairs } }

theorem pprEntered_spec (s : State) (ch rank bank row kind : Nat) : repairHas (pprEntered s ch rank bank row kind) (.dramRow ch rank bank row kind) = true ∧
    (pprEntered s ch rank bank row kind).mem.hard = s.mem.hard ∧ (pprEntered s ch rank bank row kind).col = s.col ∧
    (pprEntered s ch rank bank row kind).mem.hardRepairs =
      if kind = 1 then kmod (fun _ => 0) s.mem.hardRepairs (repairKey ch rank bank) (· + 1) else s.mem.hardRepairs := by
  have hhas : (pprEntered s ch rank bank row kind).cal = (repairAdd s (.dramRow ch rank bank row kind)).cal := rfl
  refine ⟨by rw [repairHas, hhas]; exact repairHas_repairAdd s _, ?_, ?_, ?_⟩
  · have hmem := congrArg MemCtl.hard (repairAdd_mem s (.dramRow ch rank bank row kind))
    exact hmem
  · exact repairAdd_col s _
  · unfold pprEntered
    dsimp only
    rw [repairAdd_mem]

theorem pprDone_spec (s : State) (ch rank bank row kind : Nat) :
    repairHas (pprDone s ch rank bank row kind) (.dramRow ch rank bank row kind) = true ∧
    (pprDone s ch rank bank row kind).mem.hard = s.mem.hard ∧ (pprDone s ch rank bank row kind).col.snags = s.col.snags ∧
    (pprDone s ch rank bank row kind).mem.hardRepairs =
      (if kind = 1 then kmod (fun _ => 0) s.mem.hardRepairs (repairKey ch rank bank) (· + 1) else s.mem.hardRepairs) ∧
    (srcRec (pprDone s ch rank bank row kind) 75).live = false := by
  have hshape : ∃ u left, OnlyCollector (pprEntered s ch rank bank row kind) u ∧
      pprDone s ch rank bank row kind = clearLive { u with mem := { u.mem with ecs := left } } 75 := by
    unfold pprDone
    exact ⟨_, _, .ite (clearLive_onlyCollector _ _) (.refl _), rfl⟩
  obtain ⟨u, left, hu, hdone⟩ := hshape
  obtain ⟨hhas, hhard, hcol, hcount⟩ := pprEntered_spec s ch rank bank row kind
  generalize pprEntered s ch rank bank row kind = w at *
  have hlive := (clearLive_flags { u with mem := { u.mem with ecs := left } } 75 75).1
  have hkept := clearLive_onlyCollector { u with mem := { u.mem with ecs := left } } 75
  rw [← hdone] at hlive hkept
  have hcal : (pprDone s ch rank bank row kind).cal = w.cal := by rw [hkept.rest, hu.rest]
  have hmem : (pprDone s ch rank bank row kind).mem = { w.mem with ecs := left } := by rw [hkept.rest, hu.rest]
  refine ⟨by rw [repairHas, hcal]; exact hhas, by rw [hmem]; exact hhard, ?_, by rw [hmem]; exact hcount, hlive.trans (by simp)⟩
  exact hkept.snags.trans (hu.snags.trans (congrArg Collector.snags hcol))

theorem pprFails_spec (s : State) (ch row : Nat) : (pprFails s ch row).mem = s.mem ∧
    (pprFails s ch row).col.detected = s.col.detected ++ [{ raiseBlank 75 with ins := ch, d0 := row }] ∧
    (pprFails s ch row).col.snags = s.col.snags := by
  rw [pprFails, detect_rest]
  exact ⟨rfl, rfl, rfl⟩

theorem bodyMemPpr_eq {s : State} {ch rank bank kind row : Nat} (hch : ch ≤ 3) (hrank : rank < max 1 (memRanks s)) (hbank : bank ≤ 15)
    (hkind : kind ≤ 1) (hppr : slotWaiting s .memPpr = none) (huse : kind = 1 → memInUse s = false) :
    bodyMemPpr ch rank bank kind row s = if pprSpent s ch rank bank then reply s (noResource 0x1004 0)
      else if kind = 1 then ({ wake s ch with mem := { (wake s ch).mem with hard := some ⟨ch, rank, bank, row⟩ } }, .later .memPpr)
      else if (takeFree (wake s ch)).1 % 2 = 0 then (pprDone (takeFree (wake s ch)).2 ch rank bank row 0, .final okBare)
      else (pprFails (takeFree (wake s ch)).2 ch row, .final (statusOnly stTimeout)) := by
  have hadmits : ¬ (kind = 1 ∧ memInUse s = true) := fun h => by
    rw [huse h.1] at h
    exact absurd h.2 (by decide)
  rw [bodyMemPpr, if_neg (by omega), if_neg (by omega), if_neg (by omega), if_neg (by omega), hppr]
  dsimp only
  rw [if_neg hadmits]

section
variable {r : Req} {ch rank bank row : Nat} {s : State} (hopen : mailboxOpen s r.slot = true) (hch : ch ≤ 3)
  (hrank : rank < max 1 (memRanks s)) (hbank : bank ≤ 15) (hppr : slotWaiting s .memPpr = none)
include hopen hch hrank hbank hppr

theorem memPpr_soft (hleft : pprSpent s ch rank bank = false) : ∃ t, exec (.memPpr r ch rank bank 0 row) s = .next t ∧
    ((answered t r.slot okBare ∧ repairHas t (.dramRow ch rank bank row 0) = true) ∨
      (answered t r.slot (statusOnly stTimeout) ∧ t.col.detected = s.col.detected ++ [{ raiseBlank 75 with ins := ch, d0 := row }])) := by
  have hsnags : s.col.snags = [] := snags_of_mailboxOpen hopen
  have hranks : memRanks (accept s r 0x1003) = memRanks s := by rw [memRanks, natP_accept, memRanks]; decide
  have hbody := bodyMemPpr_eq (s := accept s r 0x1003) (kind := 0) (row := row) hch (by rw [hranks]; exact hrank) hbank (by decide)
    (slotWaiting_accept r _ hppr) (fun h => absurd h (by decide))
  have hleft' : pprSpent (accept s r 0x1003) ch rank bank = false := hleft
  rw [hleft', if_neg (by decide), if_neg (by decide)] at hbody
  have hcol : (takeFree (wake (accept s r 0x1003) ch)).2.col = s.col := rfl
  generalize takeFree (wake (accept s r 0x1003) ch) = f at *
  split at hbody
  · obtain ⟨hhas, -, hsame, -⟩ := pprDone_spec f.2 ch rank bank row 0
    obtain ⟨t, hexec, hanswered, ht⟩ := answered_alone (c := .memPpr r ch rank bank 0 row) rfl hopen hbody (by rw [hsame, hcol, hsnags])
    exact ⟨t, hexec, .inl ⟨hanswered, by rw [repairHas, ht]; exact hhas⟩⟩
  · obtain ⟨-, hraised, hsame⟩ := pprFails_spec f.2 ch row
    obtain ⟨t, hexec, hanswered, ht⟩ := answered_alone (c := .memPpr r ch rank bank 0 row) rfl hopen hbody (by rw [hsame, hcol, hsnags])
    exact ⟨t, hexec, .inr ⟨hanswered, by rw [ht]; exact hraised.trans (by rw [hcol])⟩⟩

theorem memPpr_hard (hleft : pprSpent s ch rank bank = false) (huse : memInUse s = false) : ∃ s',
    Defers (.memPpr r ch rank bank 1 row) r.slot s s' .memPpr ∧ s' = { s with mem := s'.mem } ∧ s'.mem.hard = some ⟨ch, rank, bank, row⟩ := by
  have hranks : memRanks (accept s r 0x1003) = memRanks s := by rw [memRanks, natP_accept, memRanks]; decide
  have huse' : memInUse (accept s r 0x1003) = false := huse
  have hbody := bodyMemPpr_eq (s := accept s r 0x1003) (kind := 1) (row := row) hch (by rw [hranks]; exact hrank) hbank (by decide)
    (slotWaiting_accept r _ hppr) (fun _ => huse')
  have hleft' : pprSpent (accept s r 0x1003) ch rank bank = false := hleft
  rw [hleft', if_neg (by decide), if_pos rfl] at hbody
  exact ⟨{ s with mem := { (wake s ch).mem with hard := some ⟨ch, rank, bank, row⟩ } },
    defers_of_body (accept s r 0x1003).params rfl hopen (by simp) hbody (accept_params s r _) rfl, rfl, rfl⟩

theorem memPpr_spent (hspent : pprSpent s ch rank bank = true) :
    Answers (.memPpr r ch rank bank 0 row) r.slot s s (noResource 0x1004 0) := by
  have hranks : memRanks (accept s r 0x1003) = memRanks s := by rw [memRanks, natP_accept, memRanks]; decide
  have hspent' : pprSpent (accept s r 0x1003) ch rank bank = true := hspent
  refine answers_of_refusal rfl hopen ?_
  rw [bodyMemPpr_eq hch (by rw [hranks]; exact hrank) hbank (by decide) (slotWaiting_accept r _ hppr) (fun h => absurd h (by decide)), hspent', if_pos rfl]

end

theorem pprHardDone_confirmed {h : HardRepair} {s : State} (hhard : s.mem.hard = some h) : ∃ t, exec (.pprHardDone true) s = .next t ∧
    t.mem.hard = none ∧ repairHas t (.dramRow h.ch h.rank h.bank h.row 1) = true ∧
    kget (fun _ => 0) t.mem.hardRepairs (repairKey h.ch h.rank h.bank) =
      kget (fun _ => 0) s.mem.hardRepairs (repairKey h.ch h.rank h.bank) + 1 ∧ (srcRec t 75).live = false := by
  have hexec : exec (.pprHardDone true) s = .next (complete (pprDone { s with mem := { s.mem with hard := none } } h.ch h.rank h.bank h.row 1)
      .memPpr okBare) := by
    show execPprHardDone true s = _
    rw [execPprHardDone, hhard]
    rfl
  obtain ⟨hhas, hnone, -, hcount, hlive⟩ := pprDone_spec { s with mem := { s.mem with hard := none } } h.ch h.rank h.bank h.row 1
  generalize pprDone { s with mem := { s.mem with hard := none } } h.ch h.rank h.bank h.row 1 = u at *
  have hdone := complete_rest u .memPpr okBare
  generalize complete u .memPpr okBare = w at *
  refine ⟨w, hexec, by rw [hdone]; exact hnone, by rw [repairHas, hdone]; exact hhas, ?_, by rw [srcRec, hdone]; exact hlive⟩
  rw [hdone]
  show kget _ u.mem.hardRepairs _ = _
  rw [hcount, if_pos rfl, kget_kmod_same]

theorem pprHardDone_failed {h : HardRepair} {s : State} (hhard : s.mem.hard = some h) : ∃ t, exec (.pprHardDone false) s = .next t ∧
    t.mem = { s.mem with hard := none } ∧ t.col.detected = s.col.detected ++ [{ raiseBlank 75 with ins := h.ch, d0 := h.row }] := by
  have hexec : exec (.pprHardDone false) s =
      .next (complete (pprFails { s with mem := { s.mem with hard := none } } h.ch h.row) .memPpr (statusOnly stTimeout)) := by
    show execPprHardDone false s = _
    rw [execPprHardDone, hhard]
    rfl
  obtain ⟨hmem, hraised, -⟩ := pprFails_spec { s with mem := { s.mem with hard := none } } h.ch h.row
  refine ⟨_, hexec, ?_, ?_⟩
  · rw [complete_rest]
    exact hmem
  · rw [complete_rest]
    exact hraised

theorem fspChangeComplete_ends {f q : Nat} {s : State} (hchange : s.mem.change = some (f, q)) (hwaits : s.mem.freqWaits = none) :
    ∃ t, exec .fspChangeComplete s = .next t ∧ t = { s with params := t.params, mem := { s.mem with change := none } } ∧
      getP t 0x10 0 mFSP_NOW = f ∧ itemsBut [objId 0x10 0 mFSP_NOW] s t := by
  have hexec : exec .fspChangeComplete s = .next { setP s 0x10 0 mFSP_NOW (f : Int) with mem := { s.mem with change := none } } := by
    show execFspChangeComplete s = _
    rw [execFspChangeComplete, hchange]
    dsimp only
    rw [freqResume_none (by exact hwaits)]
    rfl
  exact ⟨_, hexec, rfl, getP_setP_same s 0x10 0 mFSP_NOW f, fun o ho => kget_kput_ne _ _ _ fun h => ho (by simp [h])⟩

/-! ### Accesses and rows (13 R286, R287, R292) -/

theorem activate_banksOnly (s : State) (c rank bank row : Nat) : BanksOnly s (activate s c rank bank row) :=
  (modBank_banksOnly _ c rank bank _).after ⟨rfl, fun _ => rfl⟩

/-- An activate keeps a bank's open row, and other banks. -/
theorem activate_row (s : State) (c rank bank row : Nat) : (bankOf (activate s c rank bank row) c rank bank).row = (bankOf s c rank bank).row := by
  unfold activate
  dsimp only
  rw [bankOf_modBank_same]
  rfl

theorem chanOf_modBank_ne {c d : Nat} (s : State) (rank bank : Nat) (f : MemBank → MemBank) (h : d ≠ c) :
    chanOf (modBank s c rank bank f) d = chanOf s d := chanOf_modChan_ne s _ h

/-- What an access to a row makes of the banks. -/
def accessed (s : State) (c : Nat) (r : MemReq) : State :=
  let u := if rowHit s c r then s else activate s c r.rank r.bank r.row
  modBank u c r.rank r.bank (fun x => bankAccess u x r.row)

theorem accessed_spec (s : State) (c : Nat) (r : MemReq) : BanksOnly s (accessed s c r) ∧
    (bankOf (accessed s c r) c r.rank r.bank).used = nowClk s ∧ ∀ d, d ≠ c → chanOf (accessed s c r) d = chanOf s d := by
  have hbanks : BanksOnly s (if rowHit s c r then s else activate s c r.rank r.bank r.row) :=
    .ite (.refl s) (activate_banksOnly s c r.rank r.bank r.row)
  have hothers : ∀ d, d ≠ c → chanOf (if rowHit s c r then s else activate s c r.rank r.bank r.row) d = chanOf s d := fun d hd => by
    split
    · rfl
    · exact chanOf_modBank_ne (takeFree s).2 _ _ _ hd
  unfold accessed
  dsimp only
  generalize (if rowHit s c r then s else activate s c r.rank r.bank r.row) = u at *
  refine ⟨(modBank_banksOnly u c r.rank r.bank _).after hbanks, ?_, fun d hd => (chanOf_modBank_ne u _ _ _ hd).trans (hothers d hd)⟩
  rw [bankOf_modBank_same, bankAccess, hbanks.rest]
  rfl

/-- A request has left the queue of its channel; `hit` tells whether it hit the open row. -/
def served (s : State) (c : Nat) (r : MemReq) (hit : Bool) : State :=
  modChan s c (fun x => { x with queue := dropOne r x.queue, hits := if hit then x.hits + 1 else 0 })

theorem serve_spec (s : State) (c : Nat) (r : MemReq) : (serve s c r).mem = (served (accessed s c r) c r (rowHit s c r)).mem := by
  have hcount : ∀ u : State, serve s c r = (if r.port = 0 && natP u 0x10 0 mCAPTURE_STALL_MAX < ceilDiv (4 * (nowClk u - r.since)) 50 then
      setP u 0x10 0 mCAPTURE_STALL_MAX ((ceilDiv (4 * (nowClk u - r.since)) 50 : Nat) : Int) else u) → (serve s c r).mem = u.mem := fun u h => by
    rw [h]
    split <;> rfl
  exact hcount _ rfl

theorem chanOf_of_mem_eq {s t : State} (h : t.mem = s.mem) (d : Nat) : chanOf t d = chanOf s d := by rw [chanOf, h, chanOf]

theorem bankOf_of_mem_eq {s t : State} (h : t.mem = s.mem) (d r b : Nat) : bankOf t d r b = bankOf s d r b := by
  rw [bankOf, chanOf_of_mem_eq h, bankOf]

theorem snagEffect_none {s : State} (h : s.col.snags = []) (num target : Nat) : snagEffect s num target = false := by
  simp [snagEffect, snagOf, h]

theorem snagArmed_none {s : State} (h : s.col.snags = []) (num target : Nat) : snagArmed s num target = false := by
  simp [snagArmed, snagOf, h]

theorem dramAccess_serves {ch : Nat} {r : MemReq} {s : State} (hch : ch ≤ 3) (hsnags : s.col.snags = []) (hserves : memServes s = true)
    (hawake : (chanOf s ch).asleep = false) (hnext : nextReq s ch (chanOf s ch).queue = some r) : ∃ t,
      exec (.dramAccess ch []) s = .next t ∧ (chanOf t ch).queue = dropOne r (chanOf s ch).queue ∧
      (chanOf t ch).hits = (if rowHit s ch r then (chanOf s ch).hits + 1 else 0) ∧
      (bankOf t ch r.rank r.bank).used = nowClk s ∧ ∀ d, d ≠ ch → chanOf t d = chanOf s d := by
  have hall : (chanOf s ch).queue.filter (fun r => !snagEffect s 0x0031 r.port) = (chanOf s ch).queue :=
    List.filter_eq_self.mpr fun r _ => by rw [snagEffect_none hsnags]; rfl
  have hexec : exec (.dramAccess ch []) s = .next (serve s ch r) := by
    show execDramAccess ch [] s = _
    rw [execDramAccess, if_neg (by omega)]
    simp only [List.isEmpty_nil, ↓reduceIte, hall, hserves, hawake, hnext, Bool.not_true, Bool.or_self, Bool.false_eq_true]
  obtain ⟨hbanks, hused, hothers⟩ := accessed_spec s ch r
  have hmem := serve_spec s ch r
  refine ⟨_, hexec, ?_, ?_, ?_, fun d hd => ?_⟩
  · rw [chanOf_of_mem_eq hmem, served, chanOf_modChan_same, ← hbanks.queue ch]
  · rw [chanOf_of_mem_eq hmem, served, chanOf_modChan_same, ← hbanks.hits ch]
  · rw [bankOf_of_mem_eq hmem, ← hused, bankOf, served, chanOf_modChan_same]
    rfl
  · rw [chanOf_of_mem_eq hmem, served, chanOf_modChan_ne _ _ hd, hothers d hd]

theorem dramAccess_queues {ch : Nat} {q : DramReq} {s : State} (hch : ch ≤ 3) (hserves : memServes s = false)
    (hplace : q.addr / 256 % 4 = ch) : exec (.dramAccess ch [q]) s = .next (modChan s ch (fun x => { x with
      queue := x.queue ++ [⟨q.port, (dramPlace s q.addr).1, (dramPlace s q.addr).2.1, (dramPlace s q.addr).2.2, nowClk s⟩]
      lastReq := nowClk s })) := by
  have harrived : ([q].filter (fun r => decide (r.addr / 256 % 4 = ch))).map (waiting s) =
      [⟨q.port, (dramPlace s q.addr).1, (dramPlace s q.addr).2.1, (dramPlace s q.addr).2.2, nowClk s⟩] := by
    rw [List.filter_eq_self.mpr (by simpa using hplace)]
    rfl
  show execDramAccess ch [q] s = _
  rw [execDramAccess, if_neg (by omega)]
  have hserves' : ∀ f, memServes (modChan s ch f) = false := fun _ => hserves
  simp only [List.isEmpty_cons, Bool.false_eq_true, ↓reduceIte, harrived, hserves', Bool.not_false, Bool.true_or]

theorem rowIdleClose_closes {ch rank bank : Nat} {s : State} (hpolicy : getP s 0x10 0 mPAGE_POLICY = 0)
    (hopen : (bankOf s ch rank bank).row ≠ none) (hidle : (bankOf s ch rank bank).used + 250 ≤ nowClk s) : ∃ t,
      exec (.rowIdleClose ch rank bank) s = .next t ∧ t = { s with mem := t.mem } ∧
      bankOf t ch rank bank = { bankOf s ch rank bank with row := none } := by
  refine ⟨_, ?_, rfl, bankOf_modBank_same s ch rank bank (fun x => { x with row := none })⟩
  show execRowIdleClose ch rank bank s = _
  rw [execRowIdleClose, if_pos ⟨hpolicy, Option.isSome_iff_ne_none.mpr hopen, hidle⟩]

/-- The activate counts of a channel's banks are reset (13 R292). -/
def actsReset (s : State) (c : Nat) : State :=
  (List.range 32).foldl (fun s i => modBank s c (i / 16) i (fun b => { b with acts := [] })) s

theorem actsReset_spec (s : State) (c : Nat) : MemOnly s (actsReset s c) ∧ BanksOnly s (actsReset s c) ∧ ∀ d r b,
    bankOf (actsReset s c) d r b = if c = d then { bankOf s d r b with acts := [] } else bankOf s d r b := by
  refine ⟨.foldl (fun t i => modBank_memOnly t c (i / 16) i _) _ s, .foldl (fun t i => modBank_banksOnly t c (i / 16) i _) _ s,
    fun d r b => ?_⟩
  have h := bankOf_foldl_modBank (f := fun x => { x with acts := [] }) (fun _ => rfl) c (fun i => i / 16) (fun i => i) (List.range 32) s d r b
  rw [actsReset, h]
  exact if_congr (and_iff_left (bankKey_counted r b)) rfl rfl

theorem bankOf_foldl_actsReset (cs : List Nat) {c rank bank : Nat} (s : State) : bankOf (cs.foldl actsReset s) c rank bank =
    if c ∈ cs then { bankOf s c rank bank with acts := [] } else bankOf s c rank bank := by
  induction cs generalizing s with
  | nil => simp
  | cons d cs ih =>
    rw [List.foldl_cons, ih, (actsReset_spec s d).2.2]
    by_cases hd : d = c <;> by_cases hc : c ∈ cs <;> simp [hd, hc, Ne.symm]

theorem actCountReset_resets {s : State} (hdue : s.mem.actAt ≤ nowClk s) : ∃ t, exec .actCountReset s = .next t ∧
    t = { s with mem := t.mem } ∧ t.mem.actAt = s.mem.actAt + 40000000 ∧
    ∀ c rank bank, c < 4 → rank < 2 → bank < 16 → bankOf t c rank bank = { bankOf s c rank bank with acts := [] } := by
  have hexec : exec .actCountReset s = .next ([0, 1, 2, 3].foldl actsReset { s with mem := { s.mem with actAt := s.mem.actAt + 32 * msTicks } }) := by
    show execActCountReset s = _
    rw [execActCountReset, if_pos hdue]
    rfl
  have hmem : MemOnly { s with mem := { s.mem with actAt := s.mem.actAt + 32 * msTicks } }
      ([0, 1, 2, 3].foldl actsReset { s with mem := { s.mem with actAt := s.mem.actAt + 32 * msTicks } }) :=
    .foldl (fun t c => (actsReset_spec t c).1) _ _
  have hbanks : BanksOnly { s with mem := { s.mem with actAt := s.mem.actAt + 32 * msTicks } }
      ([0, 1, 2, 3].foldl actsReset { s with mem := { s.mem with actAt := s.mem.actAt + 32 * msTicks } }) :=
    .foldl (fun t c => (actsReset_spec t c).2.1) _ _
  refine ⟨_, hexec, hmem, by rw [hbanks.rest]; rfl, fun c rank bank hc _ _ => ?_⟩
  rw [bankOf_foldl_actsReset, if_pos (by simp; omega)]
  rfl

/-- A row at the threshold leaves the list of hot rows, and its count is 0. -/
def rowCooled (s : State) (ch rank bank row : Nat) (rest : List Nat) : State :=
  modBank s ch rank bank (fun x => { x with
    row := none, hot := rest, acts := x.acts.map (fun q => if q.1 = row then (q.1, 0) else q) })

/-- The neighbours of a row are activated, unless the device refreshes them at an RFM command. -/
def neighboursRefreshed (s : State) (ch rank bank row : Nat) : State :=
  if s.mem.rfm then s else (neighbours row).foldl (fun s r => activate s ch rank bank r) s

theorem neighboursRefreshed_spec (s : State) (ch rank bank row : Nat) : BanksOnly s (neighboursRefreshed s ch rank bank row) ∧
    (bankOf (neighboursRefreshed s ch rank bank row) ch rank bank).row = (bankOf s ch rank bank).row ∧
    (s.mem.rfm = true → neighboursRefreshed s ch rank bank row = s) := by
  unfold neighboursRefreshed
  refine ⟨.ite (.refl s) (.foldl (fun t r => activate_banksOnly t ch rank bank r) _ s), ?_, fun h => if_pos h⟩
  split
  · rfl
  · exact List.foldlRecOn (motive := fun t => (bankOf t ch rank bank).row = (bankOf s ch rank bank).row) _ _ rfl
      fun t ht r _ => (activate_row t ch rank bank r).trans ht

/-- Detecting a raise and letting its source end: what is detected, and which record changes. -/
theorem raiseQuiet_spec (s : State) {x : Raise} {src : Nat} (hsrc : x.src = src) (ticks : Nat) :
    quietIn (detect s x) src ticks = { s with col := { s.col with
      detected := s.col.detected ++ [x], sources := (quietIn (detect s x) src ticks).col.sources } } ∧
    quietFrom src ticks s (quietIn (detect s x) src ticks) := by
  subst hsrc
  exact ⟨quietIn_detect_rest s x _ ticks, quietFrom_detect s x ticks⟩

theorem neighbourRefresh_spec {ch rank bank row : Nat} {rest : List Nat} {s : State} (hhot : (bankOf s ch rank bank).hot = row :: rest) :
    ∃ t, exec (.neighbourRefresh ch rank bank) s = .next t ∧ t.col.detected = s.col.detected ++ [{ raiseBlank 73 with ins := ch, d0 := row }] ∧
    getP t 0x10 0 mNEIGHBOUR_REFRESHES = inc32 (getP s 0x10 0 mNEIGHBOUR_REFRESHES) ∧ quietFrom 73 40000000 s t ∧
    (bankOf t ch rank bank).row = none ∧ (s.mem.rfm = true → (bankOf t ch rank bank).hot = rest ∧
      ∀ q ∈ (bankOf t ch rank bank).acts, q.1 = row → q.2 = 0) := by
  have hexec : exec (.neighbourRefresh ch rank bank) s = .next (quietIn (detect (bumpP
      (neighboursRefreshed (rowCooled s ch rank bank row rest) ch rank bank row) 0x10 0 mNEIGHBOUR_REFRESHES)
      { raiseBlank 73 with ins := ch, d0 := row }) 73 (32 * msTicks)) := by
    show execNeighbourRefresh ch rank bank s = _
    rw [execNeighbourRefresh, hhot]
    rfl
  obtain ⟨hbanks, hrow, hrfm⟩ := neighboursRefreshed_spec (rowCooled s ch rank bank row rest) ch rank bank row
  have hcooled : bankOf (rowCooled s ch rank bank row rest) ch rank bank = _ := bankOf_modBank_same s ch rank bank _
  have hall : BanksOnly s (neighboursRefreshed (rowCooled s ch rank bank row rest) ch rank bank row) :=
    hbanks.after (modBank_banksOnly s ch rank bank _)
  have hrfm' : s.mem.rfm = true → bankOf (neighboursRefreshed (rowCooled s ch rank bank row rest) ch rank bank row) ch rank bank =
      bankOf (rowCooled s ch rank bank row rest) ch rank bank := fun h => by rw [hrfm h]
  generalize neighboursRefreshed (rowCooled s ch rank bank row rest) ch rank bank row = u at *
  obtain ⟨hraise, hquiet⟩ := raiseQuiet_spec (bumpP u 0x10 0 mNEIGHBOUR_REFRESHES)
    (x := { raiseBlank 73 with ins := ch, d0 := row }) (src := 73) rfl (32 * msTicks)
  refine ⟨_, hexec, ?_, ?_, ?_, ?_, fun h => ?_⟩
  · rw [hraise, hall.rest]
    rfl
  · rw [hraise, ← getP_bumpP_same s, hall.rest]
    rfl
  · rw [hall.rest] at hquiet ⊢
    exact hquiet
  · rw [hraise]
    show (bankOf u ch rank bank).row = none
    rw [hrow, hcooled]
  · rw [hraise]
    show (bankOf u ch rank bank).hot = rest ∧ ∀ q ∈ (bankOf u ch rank bank).acts, q.1 = row → q.2 = 0
    rw [hrfm' h, hcooled]
    refine ⟨rfl, fun q hq heq => ?_⟩
    obtain ⟨p, -, rfl⟩ := List.mem_map.mp hq
    split at heq
    · next hp => rw [if_pos hp]
    · next hp => exact absurd heq hp

/-! ### Refresh (13 R289) -/

theorem le_maxN {xs : List Nat} {x : Nat} (h : x ∈ xs) : x ≤ maxN xs := by
  have hfold : ∀ (xs : List Nat) (a : Nat), a ≤ xs.foldl max a ∧ ∀ x ∈ xs, x ≤ xs.foldl max a := fun xs => by
    induction xs with
    | nil => exact fun a => ⟨le_rfl, fun x hx => absurd hx (by simp)⟩
    | cons y ys ih =>
      intro a
      obtain ⟨hbase, hrest⟩ := ih (max a y)
      refine ⟨(Nat.le_max_left a y).trans hbase, fun x hx => ?_⟩
      rcases List.mem_cons.mp hx with rfl | hx
      · exact (Nat.le_max_right a x).trans hbase
      · exact hrest x hx
  exact (hfold xs 0).2 x h

theorem bankOf_mod (s : State) (c rank bank : Nat) : bankOf s c rank (bank % 16) = bankOf s c rank bank := by
  rw [bankOf, bankOf]
  congr 1
  unfold bankKey
  omega

theorem owed_le_debt (s : State) (c rank bank : Nat) : (bankOf s c rank bank).owed ≤ refreshDebt s c rank := by
  rw [← bankOf_mod]
  exact le_maxN (List.mem_map.mpr ⟨bank % 16, List.mem_range.mpr (by omega), rfl⟩)

theorem debt_le {s : State} {c rank n : Nat} (h : ∀ b, (bankOf s c rank b).owed ≤ n) : refreshDebt s c rank ≤ n :=
  maxN_le fun x hx => by
    obtain ⟨b, -, rfl⟩ := List.mem_map.mp hx
    exact h b

/-- A bank owes one refresh more. -/
def refreshOwed (s : State) (c rank bank : Nat) : State := modBank s c rank bank (fun b => { b with owed := b.owed + 1 })

/-- The greatest debt so far is kept (13 Table 13-7). -/
def postponed (s : State) (debt : Nat) : State := if natP s 0x10 0 mPOSTPONE_MAX < debt then setP s 0x10 0 mPOSTPONE_MAX (debt : Int) else s

theorem postponed_mem (s : State) (debt : Nat) : (postponed s debt).mem = s.mem ∧ (postponed s debt).col = s.col := by
  unfold postponed
  split <;> exact ⟨rfl, rfl⟩

theorem burstWaits_congr {s t : State} (h : BanksOnly s t) (c rank : Nat) (bank : Option Nat) : burstWaits t c rank bank = burstWaits s c rank bank := by
  rw [burstWaits, h.queue, burstWaits]

theorem burstWaits_rank {s : State} {c rank bank : Nat} (h : burstWaits s c rank (some bank) = true) : burstWaits s c rank none = true := by
  simp only [burstWaits, List.any_eq_true, Bool.and_eq_true] at h ⊢
  obtain ⟨r, hr, ⟨hport, hrank⟩, -⟩ := h
  exact ⟨r, hr, ⟨hport, hrank⟩, trivial⟩

/-- A refresh that falls due on a bank for which no burst waits, with nothing owed on the rank, is issued. -/
theorem refreshDue_issues {ch rank bank : Nat} {s : State} (hch : ch ≤ 3) (hawake : (chanOf s ch).asleep = false)
    (hdram : s.boot.dramTrained = true) (htrain : memTraining s = false) (hsnags : s.col.snags = [])
    (hburst : burstWaits s ch (rank % 2) (some (bank % 16)) = false) (hdebt : refreshDebt s ch rank = 0) :
    ∃ t, exec (.refreshDue ch rank bank) s = .next t ∧ t = { s with mem := t.mem } ∧ (bankOf t ch rank bank).row = none ∧
      (bankOf t ch rank bank).owed = 0 := by
  have hbanks : BanksOnly s (refreshOwed s ch rank bank) := modBank_banksOnly s ch rank bank _
  have hburst' := burstWaits_congr hbanks ch (rank % 2) (some (bank % 16))
  have howed : ∀ b, (bankOf (refreshBank (refreshOwed s ch rank bank) ch rank bank) ch rank b).owed = 0 := fun b => by
    have hzero : (bankOf s ch rank b).owed = 0 := Nat.le_zero.mp (hdebt ▸ owed_le_debt s ch rank b)
    rw [refreshBank, refreshOwed, bankOf_modBank, bankOf_modBank]
    by_cases h : ch = ch ∧ bankKey rank bank = bankKey rank b
    · rw [if_pos h, if_pos h]
      simp [hzero]
    · rw [if_neg h, if_neg h, hzero]
  have hrow : (bankOf (refreshBank (refreshOwed s ch rank bank) ch rank bank) ch rank bank).row = none :=
    congrArg MemBank.row (bankOf_modBank_same (refreshOwed s ch rank bank) ch rank bank _)
  have hdebt' : refreshDebt (refreshBank (refreshOwed s ch rank bank) ch rank bank) ch rank = 0 :=
    Nat.le_zero.mp (debt_le fun b => (howed b).le)
  have hheld := snagArmed_none hsnags 0x0032 ch
  refine ⟨refreshBank (refreshOwed s ch rank bank) ch rank bank, ?_, rfl, hrow, howed bank⟩
  show execRefreshDue ch rank bank s = _
  rw [hburst] at hburst'
  unfold refreshOwed at *
  unfold execRefreshDue
  simp only [hch, hawake, hdram, htrain, hheld, hburst', hdebt', Nat.not_lt_zero, Nat.not_lt.mpr, decide_false, Bool.not_true,
    Bool.or_false, Bool.false_and, Bool.false_eq_true, ↓reduceIte]
  rfl

/-- A refresh that falls due while a burst waits for the bank is owed, and forced at a debt of 8. -/
theorem refreshDue_owes {ch rank bank : Nat} {s : State} (hch : ch ≤ 3) (hawake : (chanOf s ch).asleep = false)
    (hdram : s.boot.dramTrained = true) (htrain : memTraining s = false) (hsnags : s.col.snags = [])
    (hburst : burstWaits s ch (rank % 2) (some (bank % 16)) = true) : exec (.refreshDue ch rank bank) s = .next
      (if 8 ≤ refreshDebt (refreshOwed s ch rank bank) ch rank then
        refreshForced (postponed (refreshOwed s ch rank bank) (refreshDebt (refreshOwed s ch rank bank) ch rank)) ch rank
      else postponed (refreshOwed s ch rank bank) (refreshDebt (refreshOwed s ch rank bank) ch rank)) := by
  have hbanks : BanksOnly s (refreshOwed s ch rank bank) := modBank_banksOnly s ch rank bank _
  have hburst' := (burstWaits_congr hbanks ch (rank % 2) (some (bank % 16))).trans hburst
  have hrank := burstWaits_rank hburst'
  have hheld := snagArmed_none hsnags 0x0032 ch
  show execRefreshDue ch rank bank s = _
  unfold refreshOwed at *
  unfold execRefreshDue
  simp only [Nat.not_lt.mpr hch, hawake, hdram, htrain, hheld, hburst', hrank, decide_false, Bool.not_true, Bool.not_false,
    Bool.or_false, Bool.or_true, Bool.and_false, Bool.false_eq_true, ↓reduceIte]
  exact (apply_ite Host.Outcome.next _ _ _).symm

theorem bankOf_refreshOwed (s : State) (ch rank bank b : Nat) : (bankOf (refreshOwed s ch rank bank) ch rank b).owed ≤ (bankOf s ch rank b).owed + 1 ∧
    bankOf (refreshOwed s ch rank bank) ch rank bank = { bankOf s ch rank bank with owed := (bankOf s ch rank bank).owed + 1 } := by
  refine ⟨?_, bankOf_modBank_same s ch rank bank _⟩
  rw [refreshOwed, bankOf_modBank]
  split
  · exact le_rfl
  · exact Nat.le_succ _

theorem refreshForced_spec (s : State) (c rank : Nat) :
    (refreshForced s c rank).col.detected = s.col.detected ++ [{ raiseBlank 70 with ins := c, d0 := rank }] ∧
    getP (refreshForced s c rank) 0x10 0 mREFRESH_FORCED = inc32 (getP s 0x10 0 mREFRESH_FORCED) ∧
    ∀ b, (bankOf (refreshForced s c rank) c rank b).owed = 0 ∧ (bankOf (refreshForced s c rank) c rank b).row = none := by
  have hbanks : BanksOnly s ((List.range 16).foldl (fun s b => modBank s c rank b (fun x => { x with row := none, owed := 0 })) s) :=
    .foldl (fun t b => modBank_banksOnly t c rank b _) _ s
  have hbank := fun b => bankOf_foldl_modBank (f := fun x => { x with row := none, owed := 0 }) (fun _ => rfl) c (fun _ => rank) (fun i => i)
    (List.range 16) s c rank b
  unfold refreshForced
  dsimp only
  generalize (List.range 16).foldl (fun s b => modBank s c rank b (fun x => { x with row := none, owed := 0 })) s = u at *
  obtain ⟨hraise, -⟩ := raiseQuiet_spec (bumpP u 0x10 0 mREFRESH_FORCED) (x := { raiseBlank 70 with ins := c, d0 := rank }) (src := 70) rfl secTicks
  rw [hraise]
  refine ⟨?_, ?_, fun b => ?_⟩
  · rw [hbanks.rest]
    rfl
  · rw [← getP_bumpP_same s, hbanks.rest]
    rfl
  · show (bankOf u c rank b).owed = 0 ∧ (bankOf u c rank b).row = none
    rw [hbank b, if_pos ⟨rfl, bankKey_ranked rank b⟩]
    exact ⟨rfl, rfl⟩

section
variable {ch rank bank : Nat} {s : State} (hch : ch ≤ 3) (hawake : (chanOf s ch).asleep = false) (hdram : s.boot.dramTrained = true)
  (htrain : memTraining s = false) (hsnags : s.col.snags = []) (hburst : burstWaits s ch (rank % 2) (some (bank % 16)) = true)
include hch hawake hdram htrain hsnags hburst

theorem refreshDue_postpones (hdebt : refreshDebt s ch rank < 7) : ∃ t, exec (.refreshDue ch rank bank) s = .next t ∧
    bankOf t ch rank bank = { bankOf s ch rank bank with owed := (bankOf s ch rank bank).owed + 1 } := by
  have hexec := refreshDue_owes hch hawake hdram htrain hsnags hburst
  have hfew : refreshDebt (refreshOwed s ch rank bank) ch rank ≤ refreshDebt s ch rank + 1 := debt_le fun b =>
    (bankOf_refreshOwed s ch rank bank b).1.trans (Nat.add_le_add_right (owed_le_debt s ch rank b) 1)
  rw [if_neg (by omega)] at hexec
  exact ⟨_, hexec, (bankOf_of_mem_eq (postponed_mem _ _).1 ch rank bank).trans (bankOf_refreshOwed s ch rank bank bank).2⟩

theorem refreshDue_forces (howed : 7 ≤ (bankOf s ch rank bank).owed) : ∃ t, exec (.refreshDue ch rank bank) s = .next t ∧
    t.col.detected = s.col.detected ++ [{ raiseBlank 70 with ins := ch, d0 := rank }] ∧
    getP t 0x10 0 mREFRESH_FORCED = inc32 (getP s 0x10 0 mREFRESH_FORCED) ∧
    ∀ b, b < 16 → (bankOf t ch rank b).owed = 0 ∧ (bankOf t ch rank b).row = none := by
  have hexec := refreshDue_owes hch hawake hdram htrain hsnags hburst
  have hmany : 8 ≤ refreshDebt (refreshOwed s ch rank bank) ch rank := by
    have hone := owed_le_debt (refreshOwed s ch rank bank) ch rank bank
    rw [(bankOf_refreshOwed s ch rank bank bank).2] at hone
    exact (Nat.succ_le_succ howed).trans hone
  rw [if_pos hmany] at hexec
  have hitem : ∀ d, getP (postponed (refreshOwed s ch rank bank) d) 0x10 0 mREFRESH_FORCED = getP s 0x10 0 mREFRESH_FORCED := fun d => by
    unfold postponed
    split
    · exact getP_setP_item _ _ _ _ _ _ (by decide) (by decide) (by decide)
    · rfl
  obtain ⟨hraised, hcount, hall⟩ := refreshForced_spec
    (postponed (refreshOwed s ch rank bank) (refreshDebt (refreshOwed s ch rank bank) ch rank)) ch rank
  refine ⟨_, hexec, hraised.trans (by rw [(postponed_mem _ _).2]; rfl), hcount.trans (by rw [hitem]), fun b _ => hall b⟩

end

/-! ### Temperature, drift, self-refresh (13 R282, R289, R291) -/

/-- Is a device hot after a poll: it asks for 4 times the base rate, or has not cooled to 1 or 2 times since (13 Table 13-6)? -/
def mr4Hot (s : State) (i : Nat) (r : Nat × Nat) : Bool :=
  decide (16 ≤ r.2) || ((devOf s (i / 2) i).hot && decide (r.2 ≠ 4) && decide (r.2 ≠ 8))

/-- A poll has read a device's rate. -/
def mr4Read (s : State) (i : Nat) (r : Nat × Nat) : State := modDev s (i / 2) i (fun d => { d with rate := r.2, hot := mr4Hot s i r })

/-- A device that turned hot is reported. -/
def mr4Told (s : State) (i : Nat) (r : Nat × Nat) : State :=
  if mr4Hot s i r && !(devOf s (i / 2) i).hot then detect (mr4Read s i r) { raiseBlank 72 with ins := i / 2, d0 := i % 2 }
  else mr4Read s i r

theorem mr4Told_spec (s : State) (i : Nat) (r : Nat × Nat) : (mr4Told s i r).mem = (mr4Read s i r).mem ∧
    s.col.detected ⊆ (mr4Told s i r).col.detected ∧ (16 ≤ r.2 → (devOf s (i / 2) i).hot = false →
      { raiseBlank 72 with ins := i / 2, d0 := i % 2 } ∈ (mr4Told s i r).col.detected) := by
  have hsame : (mr4Read s i r).col = s.col := rfl
  unfold mr4Told
  split
  · rw [detect_rest, hsame]
    exact ⟨rfl, List.subset_append_left _ _, fun _ _ => List.mem_append_right _ List.mem_cons_self⟩
  · next h => exact ⟨rfl, fun _ hx => hx, fun hrate hcold => absurd (by simp [mr4Hot, hrate, hcold]) h⟩

theorem mr4Device_spec (s : State) (i : Nat) (r : Nat × Nat) : (mr4Device s i r).mem = (mr4Read s i r).mem ∧
    s.col.detected ⊆ (mr4Device s i r).col.detected ∧ (16 ≤ r.2 → (devOf s (i / 2) i).hot = false →
      { raiseBlank 72 with ins := i / 2, d0 := i % 2 } ∈ (mr4Device s i r).col.detected) := by
  have hdef : mr4Device s i r = if natP (mr4Told s i r) 0x10 0 mDRAM_TEMP_MAX < r.1 then
      setP (mr4Told s i r) 0x10 0 mDRAM_TEMP_MAX (r.1 : Int) else mr4Told s i r := rfl
  rw [hdef]
  split
  · exact mr4Told_spec s i r
  · exact mr4Told_spec s i r

theorem devOf_mr4Device (s : State) (i : Nat) (r : Nat × Nat) (j : Nat) : devOf (mr4Device s i r) (j / 2) j =
    if i = j then { devOf s (i / 2) i with rate := r.2, hot := mr4Hot s i r } else devOf s (j / 2) j := by
  rw [devOf, (mr4Device_spec s i r).1]
  exact devOf_modDev_counted s i j _

/-- The devices before the `n`th, read one after the other. -/
def mr4Devices (s : State) (rates : List (Nat × Nat)) (n : Nat) : State :=
  (List.range n).foldl (fun s i => mr4Device s i (nth (0, 4) rates i)) s

theorem mr4Devices_succ (s : State) (rates : List (Nat × Nat)) (n : Nat) :
    mr4Devices s rates (n + 1) = mr4Device (mr4Devices s rates n) n (nth (0, 4) rates n) := by
  simp [mr4Devices, List.range_succ]

theorem mr4Devices_spec (s : State) (rates : List (Nat × Nat)) (n : Nat) :
    (mr4Devices s rates n).mem.mr4At = s.mem.mr4At ∧
    (∀ i, i < n → (devOf (mr4Devices s rates n) (i / 2) i).rate = (nth (0, 4) rates i).2) ∧
    (∀ i, n ≤ i → devOf (mr4Devices s rates n) (i / 2) i = devOf s (i / 2) i) ∧
    (∀ i, i < n → (nth (0, 4) rates i).2 = 4 → (devOf (mr4Devices s rates n) (i / 2) i).hot = false) ∧
    (∀ i, i < n → 16 ≤ (nth (0, 4) rates i).2 → (devOf (mr4Devices s rates n) (i / 2) i).hot = true) ∧
    (∀ i, i < n → 16 ≤ (nth (0, 4) rates i).2 → (devOf s (i / 2) i).hot = false →
      { raiseBlank 72 with ins := i / 2, d0 := i % 2 } ∈ (mr4Devices s rates n).col.detected) := by
  induction n with
  | zero => exact ⟨rfl, fun _ h => absurd h (by omega), fun _ _ => rfl, fun _ h => absurd h (by omega), fun _ h => absurd h (by omega),
      fun _ h => absurd h (by omega)⟩
  | succ n ih =>
    obtain ⟨hat, hrate, hlater, hcold, hhot, htold⟩ := ih
    rw [mr4Devices_succ]
    obtain ⟨hmem, hsub, hraise⟩ := mr4Device_spec (mr4Devices s rates n) n (nth (0, 4) rates n)
    have hdev := devOf_mr4Device (mr4Devices s rates n) n (nth (0, 4) rates n)
    refine ⟨(congrArg MemCtl.mr4At hmem).trans hat, fun i hi => ?_, fun i hi => ?_, fun i hi h => ?_, fun i hi h => ?_, fun i hi h hwas => ?_⟩
    · rw [hdev]
      split
      · next he => rw [he]
      · next hne => exact hrate i (by omega)
    · rw [hdev, if_neg (by omega)]
      exact hlater i (by omega)
    · rw [hdev]
      split
      · next he =>
        subst he
        simp [mr4Hot, h]
      · next hne => exact hcold i (by omega) h
    · rw [hdev]
      split
      · next he =>
        subst he
        simp [mr4Hot, h]
      · next hne => exact hhot i (by omega) h
    · by_cases he : n = i
      · subst he
        exact hraise h (by rw [hlater n le_rfl]; exact hwas)
      · exact hsub (htold i (by omega) h hwas)

theorem nth_mem {α : Type} {d : α} {xs : List α} {i : Nat} (h : i < xs.length) : nth d xs i ∈ xs := by
  rw [nth, List.getElem?_eq_getElem h]
  exact List.getElem_mem h

theorem mr4Poll_reads {rates : List (Nat × Nat)} {s : State} (hdue : s.mem.mr4At ≤ nowClk s) : ∃ t, exec (.mr4Poll rates) s = .next t ∧
    t.mem.mr4At = s.mem.mr4At + 20000000 ∧ (∀ i, i < 8 → i < rates.length → (devOf t (i / 2) i).rate = (nth (0, 4) rates i).2) ∧
    (8 ≤ rates.length → (∀ q ∈ rates, q.2 = 4) → (srcRec t 72).live = false) ∧
    ∀ i, i < 8 → i < rates.length → 16 ≤ (nth (0, 4) rates i).2 → (devOf s (i / 2) i).hot = false →
      { raiseBlank 72 with ins := i / 2, d0 := i % 2 } ∈ t.col.detected := by
  obtain ⟨hat, hrate, -, hcold, hhot, htold⟩ := mr4Devices_spec { s with mem := { s.mem with mr4At := s.mem.mr4At + 16 * msTicks } } rates
    (min 8 rates.length)
  have hexec : exec (.mr4Poll rates) s = .next (if (List.range 8).any (fun i => (devOf (mr4Devices
      { s with mem := { s.mem with mr4At := s.mem.mr4At + 16 * msTicks } } rates (min 8 rates.length)) (i / 2) i).hot) then
      mr4Devices { s with mem := { s.mem with mr4At := s.mem.mr4At + 16 * msTicks } } rates (min 8 rates.length)
      else clearLive (mr4Devices { s with mem := { s.mem with mr4At := s.mem.mr4At + 16 * msTicks } } rates (min 8 rates.length)) 72) := by
    show execMr4Poll rates s = _
    rw [execMr4Poll, if_pos hdue]
    rfl
  generalize mr4Devices { s with mem := { s.mem with mr4At := s.mem.mr4At + 16 * msTicks } } rates (min 8 rates.length) = u at *
  have hkept : OnlyCollector u (if (List.range 8).any (fun i => (devOf u (i / 2) i).hot) then u else clearLive u 72) :=
    .ite (.refl u) (clearLive_onlyCollector u 72)
  refine ⟨_, hexec, by rw [hkept.rest]; exact hat, fun i hi hlen => ?_, fun hlen hall => ?_, fun i hi hlen h hwas => ?_⟩
  · rw [hkept.rest]
    exact hrate i (by omega)
  · have hnone : (List.range 8).any (fun i => (devOf u (i / 2) i).hot) = false := List.any_eq_false.mpr fun i hi => by
      have hi8 : i < 8 := List.mem_range.mp hi
      simp [hcold i (by omega) (hall _ (nth_mem (by omega)))]
    rw [hnone, if_neg (by decide)]
    exact (clearLive_flags u 72 72).1.trans (by simp)
  · have hsome : (List.range 8).any (fun i => (devOf u (i / 2) i).hot) = true :=
      List.any_eq_true.mpr ⟨i, List.mem_range.mpr hi, hhot i (by omega) h⟩
    rw [hsome, if_pos rfl]
    exact htold i (by omega) h hwas

theorem wckDriftCheck_moves {ch rank : Nat} {drift : Rat} {s : State} (hch : ch ≤ 3) (hawake : (chanOf s ch).asleep = false)
    (hdue : (devOf s ch rank).checkAt ≤ nowClk s) : ∃ t, exec (.wckDriftCheck ch rank drift) s = .next t ∧
    devOf t ch rank = { devOf s ch rank with drift := drift, checkAt := nowClk s + natP s 0x10 0 mRETRAIN_PERIOD * 1250000 } ∧
    (1 / 4 < drift ∨ drift < -(1 / 4) → t.col.detected = s.col.detected ++ [{ raiseBlank 71 with ins := ch, d0 := rank % 2 }]) := by
  have hdev : devOf (modDev s ch rank (fun d => { d with drift := drift, checkAt := nowClk s + natP s 0x10 0 mRETRAIN_PERIOD * msTicks })) ch rank =
      { devOf s ch rank with drift := drift, checkAt := nowClk s + natP s 0x10 0 mRETRAIN_PERIOD * 1250000 } :=
    (devOf_modDev s ch rank ch rank _).trans (if_pos rfl)
  have hcol : (modDev s ch rank (fun d => { d with drift := drift, checkAt := nowClk s + natP s 0x10 0 mRETRAIN_PERIOD * msTicks })).col = s.col := rfl
  have hadmits : ¬ ((chanOf s ch).asleep = true ∨ 3 < ch ∨ nowClk s < (devOf s ch rank).checkAt) := by
    rw [hawake]
    simp
    omega
  have hexec : exec (.wckDriftCheck ch rank drift) s = execWckDriftCheck ch rank drift s := rfl
  rw [execWckDriftCheck, if_neg hadmits] at hexec
  generalize modDev s ch rank (fun d => { d with drift := drift, checkAt := nowClk s + natP s 0x10 0 mRETRAIN_PERIOD * msTicks }) = u at *
  by_cases hfar : drifted drift = true
  · rw [if_pos hfar] at hexec
    refine ⟨_, hexec, ?_, fun _ => ?_⟩
    · rw [detect_rest]
      exact hdev
    · rw [detect_rest, ← hcol]
  · rw [if_neg hfar] at hexec
    have hkept : OnlyCollector u (if (List.range 8).any (fun i => drifted (devOf u (i / 2) i).drift) then u else clearIf u 71) :=
      .ite (.refl u) (clearLive_onlyCollector u 71)
    refine ⟨_, hexec, by rw [hkept.rest]; exact hdev, fun h => absurd ?_ hfar⟩
    rcases h with h | h
    all_goals simp only [drifted, Bool.or_eq_true, decide_eq_true_eq]
    · exact .inl h
    · exact .inr (by linarith)

theorem selfRefreshEnter_sleeps {ch : Nat} {s : State} (hch : ch < 4) (hserves : memServes s = true) (hawake : (chanOf s ch).asleep = false)
    (hidle : natP s 0x10 0 mSR_IDLE ≠ 0) (hrepair : ∀ h, s.mem.hard = some h → h.ch ≠ ch) (hqueue : (chanOf s ch).queue = [])
    (hdue : (chanOf s ch).lastReq + natP s 0x10 0 mSR_IDLE * 1250 ≤ nowClk s) :
    exec (.selfRefreshEnter ch) s = .next (modChan (prechargeAll s ch) ch (fun x => { x with asleep := true })) := by
  show execSelfRefreshEnter ch s = _
  unfold execSelfRefreshEnter
  dsimp only
  split
  · next h hh => exact if_pos ⟨hch, hserves, by simp [hawake], hidle, by simp [hrepair h hh], by simp [hqueue], hdue⟩
  · exact if_pos ⟨hch, hserves, by simp [hawake], hidle, rfl, by simp [hqueue], hdue⟩

theorem selfRefreshExit_eq (ch : Nat) (s : State) : exec (.selfRefreshExit ch) s =
    .next (if (chanOf s ch).asleep = true ∧ (chanOf s ch).queue ≠ [] then modChan s ch (fun x => { x with asleep := false }) else s) := by
  show execSelfRefreshExit ch s = _
  rw [execSelfRefreshExit, apply_ite Host.Outcome.next]
  refine if_congr (and_congr_right fun _ => ?_) rfl rfl
  simp

/-! ### Errors (13 R290, R293, R294) -/

theorem linkEccError_corrected (port unit : Nat) (s : State) : ∃ t, exec (.linkEccError port unit true) s = .next t ∧
    t = { s with params := t.params, col := { s.col with
      detected := s.col.detected ++ [{ raiseBlank 65 with ins := port }], sources := t.col.sources } } ∧
    getP t 0x10 0 mLINK_ECC_CORRECTED = inc32 (getP s 0x10 0 mLINK_ECC_CORRECTED) ∧ quietFrom 65 1250000000 s t := by
  obtain ⟨hraise, hquiet⟩ := raiseQuiet_spec (bumpP s 0x10 0 mLINK_ECC_CORRECTED) (x := { raiseBlank 65 with ins := port }) (src := 65) rfl secTicks
  refine ⟨_, rfl, ?_, ?_, hquiet⟩
  · rw [hraise]
    rfl
  · rw [hraise]
    exact getP_bumpP_same s 0x10 0 _

theorem linkEccError_uncorrected {port unit : Nat} {s : State} (h3 : port ≠ 3) (h4 : port ≠ 4) : ∃ t,
    exec (.linkEccError port unit false) s = .next t ∧
    t = { s with col := { s.col with detected := s.col.detected ++ [{ raiseBlank 66 with ins := port }], sources := t.col.sources } } ∧
    quietFrom 66 1250000000 s t := by
  have hexec : exec (.linkEccError port unit false) s = .next (quietIn (detect s { raiseBlank 66 with ins := port }) 66 secTicks) := by
    show execLinkEccError port unit false s = _
    rw [execLinkEccError, if_neg (by decide)]
    dsimp only
    rw [if_neg (fun h => h3 h.1), if_neg (fun h => h4 h.1)]
  obtain ⟨hraise, hquiet⟩ := raiseQuiet_spec s (x := { raiseBlank 66 with ins := port }) (src := 66) rfl secTicks
  exact ⟨_, hexec, hraise, hquiet⟩

theorem ecsCountCheck_raises {ch rank bank row count : Nat} {s : State} (h : 16 < count) : ∃ t,
    exec (.ecsCountCheck ch rank bank row count) s = .next t ∧ t = { s with
      mem := { s.mem with ecs := t.mem.ecs }
      col := (detect s { raiseBlank 74 with ins := ch, d0 := row, d1 := rank * 16 + bank }).col } ∧
    ∀ r, r ∈ t.mem.ecs ↔ r = ⟨ch, rank, bank, row⟩ ∨ r ∈ s.mem.ecs := by
  have hexec : exec (.ecsCountCheck ch rank bank row count) s = .next (detect
      { s with mem := { s.mem with ecs := s.mem.ecs.filter (· ≠ ⟨ch, rank, bank, row⟩) ++ [⟨ch, rank, bank, row⟩] } }
      { raiseBlank 74 with ins := ch, d0 := row, d1 := rank * 16 + bank }) := if_pos h
  have hcol : ∀ m, detect { s with mem := m } { raiseBlank 74 with ins := ch, d0 := row, d1 := rank * 16 + bank } = { s with
      mem := m, col := (detect s { raiseBlank 74 with ins := ch, d0 := row, d1 := rank * 16 + bank }).col } := fun m =>
    detect_of_col_eq (by rfl) _
  rw [hcol] at hexec
  refine ⟨_, hexec, rfl, fun r => ?_⟩
  simp only [List.mem_append, List.mem_filter, List.mem_singleton, decide_eq_true_eq]
  tauto

theorem ecsCountCheck_waits {ch rank bank row count : Nat} {s : State} (h : count ≤ 16) :
    exec (.ecsCountCheck ch rank bank row count) s = .next s := if_neg (by omega)

theorem skOf_modSk (s : State) (k j : Nat) (f : Skein → Skein) : skOf (modSk s k f) j = if k = j then f (skOf s k) else skOf s j :=
  kget_kput _ _ _ _ _

theorem writeBufferOverflow_capture {w : Nat} {units : List Nat} {s : State} (hcap : (skOf s w).cap ≠ none) : ∃ t,
    exec (.writeBufferOverflow true ⟨w, units⟩) s = .next t ∧
    skOf t w = { skOf s w with gap := true, lost := (skOf s w).lost ++ units } ∧ (∀ k, k ≠ w → skOf t k = skOf s k) ∧
    t.col.detected = s.col.detected ++ [{ raiseBlank 68 with ins := w }] := by
  have hexec : exec (.writeBufferOverflow true ⟨w, units⟩) s = .next (detect
      (modSk s w (fun x => { x with gap := true, lost := x.lost ++ units })) { raiseBlank 68 with ins := w }) :=
    if_pos (Option.isSome_iff_ne_none.mpr hcap)
  have hsk := fun k => skOf_modSk s w k (fun x => { x with gap := true, lost := x.lost ++ units })
  have hcol : (modSk s w (fun x => { x with gap := true, lost := x.lost ++ units })).col = s.col := rfl
  generalize modSk s w (fun x => { x with gap := true, lost := x.lost ++ units }) = u at *
  rw [detect_rest] at hexec
  refine ⟨_, hexec, (hsk w).trans (if_pos rfl), fun k hk => (hsk k).trans (if_neg (Ne.symm hk)), ?_⟩
  rw [← hcol]

/-- A hole in a port's look-back rings is a matter of the skeins. -/
theorem skeinsHole_rest (s : State) (p : Nat) (units : List Nat) : (skeinsHole s p units).col = s.col ∧ (skeinsHole s p units).time = s.time := by
  have hfold : ∀ (ks : List Nat) (u : State) (f : State → Nat → State), (∀ v k, (f v k).col = v.col ∧ (f v k).time = v.time) →
      (ks.foldl f u).col = u.col ∧ (ks.foldl f u).time = u.time := fun ks u f hf =>
    List.foldlRecOn (motive := fun t : State => t.col = u.col ∧ t.time = u.time) ks f ⟨rfl, rfl⟩ fun t ht k _ =>
      ⟨(hf t k).1.trans ht.1, (hf t k).2.trans ht.2⟩
  have hmark : (skeinsMark s p (nowTs s) .hole).col = s.col ∧ (skeinsMark s p (nowTs s) .hole).time = s.time := by
    unfold skeinsMark
    exact hfold _ _ _ fun _ _ => ⟨rfl, rfl⟩
  obtain ⟨hcol, htime⟩ := hfold (skeinsWith (fun k => skRuns s k && skTakes s (skview s k) p)) (skeinsMark s p (nowTs s) .hole)
    (fun s k => modSk s k (fun x => { x with holes := x.holes ++ units })) fun _ _ => ⟨rfl, rfl⟩
  exact ⟨hcol.trans hmark.1, htime.trans hmark.2⟩

theorem writeBufferOverflow_lookback (w : Nat) (units : List Nat) (s : State) : ∃ t, exec (.writeBufferOverflow false ⟨w, units⟩) s = .next t ∧
    t.col.detected = s.col.detected ++ [{ raiseBlank 69 with port := w }] ∧ quietFrom 69 1250000000 s t := by
  obtain ⟨hcol, htime⟩ := skeinsHole_rest s w units
  obtain ⟨hraise, hquiet⟩ := raiseQuiet_spec (skeinsHole s w units) (x := { raiseBlank 69 with port := w }) (src := 69) rfl secTicks
  have hexec : exec (.writeBufferOverflow false ⟨w, units⟩) s = .next (quietIn (detect (skeinsHole s w units) { raiseBlank 69 with port := w }) 69 secTicks) := rfl
  generalize skeinsHole s w units = u at *
  have hrec : ∀ n, srcRec u n = srcRec s n := fun n => by rw [srcRec, hcol, srcRec]
  have hclk : nowClk u = nowClk s := by rw [nowClk, htime, nowClk]
  refine ⟨_, hexec, ?_, ?_, fun n hn => ?_⟩
  · rw [hraise, ← hcol]
  · rw [hquiet.1, hrec, hclk]
  · rw [hquiet.2 n hn, hrec]

/-- Settles O35. -/
theorem memoryController : Obligations.MemoryController := by
  unfold Obligations.MemoryController
  refine ⟨fun r fsp s hopen hfsp => ⟨memFreq_waits hopen hfsp, memFreq_served hopen hfsp⟩,
    fun r s hopen htrain hppr => memTrain_answers hopen htrain hppr, fun failed q s htrain hwaits => memTrainDone_ends htrain hwaits,
    fun r ch rank bank row s hopen hch hrank hbank hppr => ⟨memPpr_soft hopen hch hrank hbank hppr, memPpr_hard hopen hch hrank hbank hppr,
      memPpr_spent hopen hch hrank hbank hppr⟩,
    fun h s hhard => ⟨pprHardDone_confirmed hhard, pprHardDone_failed hhard⟩, fun f q s hchange hwaits => fspChangeComplete_ends hchange hwaits,
    fun ch s hch hsnags => ⟨fun r hserves hawake hnext => dramAccess_serves hch hsnags hserves hawake hnext,
      fun q hserves hplace => dramAccess_queues hch hserves hplace⟩,
    fun ch rank bank s hpolicy hrow hidle => rowIdleClose_closes hpolicy hrow hidle, fun s hdue => actCountReset_resets hdue,
    fun ch rank bank row rest s hhot => neighbourRefresh_spec hhot,
    fun ch rank bank s hch hawake hdram htrain hsnags => ⟨refreshDue_issues hch hawake hdram htrain hsnags,
      fun hburst => ⟨refreshDue_postpones hch hawake hdram htrain hsnags hburst, refreshDue_forces hch hawake hdram htrain hsnags hburst⟩⟩,
    fun rates s hdue => mr4Poll_reads hdue, fun ch rank drift s hch hawake hdue => wckDriftCheck_moves hch hawake hdue,
    fun ch s => ⟨selfRefreshEnter_sleeps, fun hasleep hqueue => ?_, fun h => ?_⟩,
    fun port unit s => ⟨linkEccError_corrected port unit s, linkEccError_uncorrected⟩,
    fun ch rank bank row count s => ⟨ecsCountCheck_raises, ecsCountCheck_waits⟩,
    fun w units s => ⟨writeBufferOverflow_capture, writeBufferOverflow_lookback w units s⟩⟩
  · rw [selfRefreshExit_eq, if_pos ⟨hasleep, hqueue⟩]
  · rw [selfRefreshExit_eq, if_neg]
    rintro ⟨hasleep, hqueue⟩
    rcases h with h | h
    · rw [hasleep] at h
      exact absurd h (by decide)
    · exact hqueue h

end Sys2Proof.Machine
end

section
/-! PROOFS. The Purl Link (16_purl_link.md): O46. -/

namespace Sys2Proof.Machine

/-! ### The link's states (16 R343, R347, R352) -/

/-- The cause of a failure is told, and an exit from ACTIVE counted (16 Table 16-7). -/
def linkTold (s : State) (cause : Nat) : State :=
  let u := setP s 0x0B 0 lPL_LAST_CAUSE (cause : Int)
  if s.purl.st = .active then bumpP u 0x0B 0 lPL_RETRAINS else u

theorem linkTold_spec (s : State) (cause : Nat) : linkTold s cause = { s with params := (linkTold s cause).params } ∧
    getP (linkTold s cause) 0x0B 0 lPL_LAST_CAUSE = (cause : Int) ∧
    getP (linkTold s cause) 0x0B 0 lPL_RETRAINS =
      (if s.purl.st = .active then inc32 (getP s 0x0B 0 lPL_RETRAINS) else getP s 0x0B 0 lPL_RETRAINS) ∧
    itemsBut [objId 0x0B 0 lPL_LAST_CAUSE, objId 0x0B 0 lPL_RETRAINS] s (linkTold s cause) := by
  have hret : getP (setP s 0x0B 0 lPL_LAST_CAUSE (cause : Int)) 0x0B 0 lPL_RETRAINS = getP s 0x0B 0 lPL_RETRAINS :=
    getP_setP_item _ _ _ _ _ _ (by decide) (by decide) (by decide)
  have hcause : getP (setP s 0x0B 0 lPL_LAST_CAUSE (cause : Int)) 0x0B 0 lPL_LAST_CAUSE = (cause : Int) := getP_setP_same ..
  have hbut : itemsBut [objId 0x0B 0 lPL_LAST_CAUSE, objId 0x0B 0 lPL_RETRAINS] s (setP s 0x0B 0 lPL_LAST_CAUSE (cause : Int)) :=
    fun o ho => kget_kput_ne _ _ _ fun h => ho (by simp [h])
  unfold linkTold
  dsimp only
  split
  · refine ⟨rfl, (getP_bumpP_ne _ _ _ (by decide)).trans hcause, by rw [getP_bumpP_same, hret], fun o ho => ?_⟩
    exact (kget_kput_ne _ _ _ fun h => ho (by simp [h])).trans (hbut o ho)
  · exact ⟨rfl, hcause, hret, hbut⟩

/-- A link in DETECT after an attempt that failed; `fails` counts the failures in CAPS. -/
def linkGone (s : State) (fails : Nat) : Purl := { s.purl with
  st := .detect, since := nowClk s, stepAt := nowClk s, chosen := [], idleMode := false, txIdle := false, peerIdle := false
  waiting := [], capsLeft := 0, echo := none, capsFails := fails }

/-- The failures in CAPS in a row, with one that ends the present state. -/
def failsNow (s : State) : Nat := if s.purl.st = .caps then s.purl.capsFails + 1 else 0

theorem linkFails_eq (s : State) (cause : Nat) : linkFails s cause = if 3 ≤ failsNow s then
      toBlocked (modPurl (linkTold s cause) (fun x => { x with capsFails := failsNow s }))
    else { s with
      params := (setP (linkTold s cause) 0x0B 0 lPL_WIDTH 0).params, purl := linkGone s (failsNow s)
      col := (detect s { raiseBlank 90 with d0 := cause }).col } := by
  have hcol : ∀ (P : KMap Int) (x : Purl), detect { s with params := P, purl := x } { raiseBlank 90 with d0 := cause } =
      { s with params := P, purl := x, col := (detect s { raiseBlank 90 with d0 := cause }).col } := fun P x => detect_of_col_eq (by rfl) _
  have hshape : linkFails s cause = if 3 ≤ (if s.purl.st = .caps then (linkTold s cause).purl.capsFails + 1 else 0) then
      toBlocked (modPurl (linkTold s cause) (fun x => { x with capsFails := if s.purl.st = .caps then (linkTold s cause).purl.capsFails + 1 else 0 }))
      else enterDetect (purlRaise (modPurl (linkTold s cause)
        (fun x => { x with capsFails := if s.purl.st = .caps then (linkTold s cause).purl.capsFails + 1 else 0 })) 90 cause) := rfl
  have hrest := (linkTold_spec s cause).1
  generalize linkTold s cause = u at *
  have hpurl : u.purl = s.purl := by rw [hrest]
  rw [hshape, hpurl]
  refine if_congr Iff.rfl rfl ?_
  rw [hrest, purlRaise, modPurl, hcol]
  rfl

theorem linkFails_detect {s : State} (cause : Nat) (h : s.purl.st = .caps → s.purl.capsFails < 2) : linkFails s cause = { s with
      params := (setP (linkTold s cause) 0x0B 0 lPL_WIDTH 0).params, purl := linkGone s (failsNow s)
      col := (detect s { raiseBlank 90 with d0 := cause }).col } := by
  rw [linkFails_eq, if_neg]
  unfold failsNow
  split
  · next hcaps =>
    have := h hcaps
    omega
  · omega

theorem linkFails_lost {s : State} (cause : Nat) (h : s.purl.st = .caps → s.purl.capsFails < 2) : LinkLost s (linkFails s cause) cause := by
  obtain ⟨hrest, hcause, hret, hbut⟩ := linkTold_spec s cause
  have heq := linkFails_detect cause h
  have hparams : (linkFails s cause).params = (setP (linkTold s cause) 0x0B 0 lPL_WIDTH 0).params := by rw [heq]
  have hother : ∀ n, n < 65536 → n ≠ lPL_WIDTH → getP (setP (linkTold s cause) 0x0B 0 lPL_WIDTH 0) 0x0B 0 n = getP (linkTold s cause) 0x0B 0 n :=
    fun n hn hne => getP_setP_item _ _ _ _ _ _ hn (by decide) hne
  refine ⟨by rw [heq], by rw [heq]; rfl, by rw [heq]; rfl, by rw [heq]; rfl, by rw [heq]; rfl, by rw [heq]; rfl, ?_, ?_, ?_, fun o ho => ?_⟩
  · rw [getP_of_params_eq hparams, hother _ (by decide) (by decide), hcause]
  · rw [getP_of_params_eq hparams, getP_setP_same]
  · rw [getP_of_params_eq hparams, hother _ (by decide) (by decide), hret]
  · simp only [List.mem_cons, List.not_mem_nil, or_false, not_or] at ho
    rw [hparams]
    exact (kget_kput_ne paramReset (linkTold s cause).params (0 : Int) (Ne.symm ho.2.1)).trans (hbut o (by simp [ho.1, ho.2.2]))

/-- What a failure leaves of the link: the receive lanes and the lanes of the set. -/
theorem linkFails_lanes {s : State} (cause : Nat) (h : s.purl.st = .caps → s.purl.capsFails < 2) :
    (linkFails s cause).purl.rx = s.purl.rx ∧ (linkFails s cause).purl.lanes = s.purl.lanes := by
  rw [linkFails_detect cause h]
  exact ⟨rfl, rfl⟩

theorem toBlocked_spec (s : State) : (toBlocked s).purl.st = .blocked ∧ getP (toBlocked s) 0x0B 0 lPL_LAST_CAUSE = (causeMismatch : Int) ∧
    (toBlocked s).col.detected = s.col.detected ++ [{ raiseBlank 90 with d0 := causeMismatch }, { raiseBlank 93 with d0 := causeMismatch }] := by
  refine ⟨rfl, ?_, ?_⟩
  · unfold toBlocked purlRaise
    dsimp only
    rw [detect_rest, detect_rest]
    exact getP_setP_same (linkDrop s) 0x0B 0 lPL_LAST_CAUSE (causeMismatch : Int)
  · unfold toBlocked purlRaise
    dsimp only
    rw [detect_rest, detect_rest]
    simp [setLink, modPurl, setP, linkDrop]

/-! ### DETECT and TRAIN (16 R343 to R345) -/

theorem plDetectStep_drives {s : State} (hst : s.purl.st = .detect) (hdue : s.purl.stepAt ≤ nowClk s) :
    exec .plDetectStep s = .next { s with purl := { s.purl with stepAt := s.purl.stepAt + 125000, steps := s.purl.steps + 1 } } := by
  show execPlDetectStep s = _
  rw [execPlDetectStep, if_pos ⟨hst, hdue⟩]
  rfl

theorem enterTrain_spec (s : State) : enterTrain s = { s with purl := (enterTrain s).purl } ∧ (enterTrain s).purl.st = .train ∧
    (enterTrain s).purl.since = nowClk s ∧ (enterTrain s).purl.ctleStep = 0 ∧ (∀ l, (rxLane (enterTrain s) l).passed = 0) ∧
    (enterTrain s).purl.swing = natP s 0x0B 0 lPL_TX_SWING ∧ (enterTrain s).purl.deemph = natP s 0x0B 0 lPL_TX_DEEMPH ∧
    (enterTrain s).purl.ctleFix = natP s 0x0B 0 lPL_CTLE_FIX ∧ (enterTrain s).purl.lanesMin = natP s 0x0B 0 lPL_LANES_MIN :=
  ⟨rfl, rfl, rfl, rfl, fun _ => rfl, rfl, rfl, rfl, rfl⟩

theorem peerSeen_trains {lanes : Nat} {i : Instr} {s : State} (hi : i = .plPeerStep lanes ∨ i = .plActivityDetected lanes)
    (hst : s.purl.st = .detect) : exec i s = .next (if popCount 4 lanes < 2 then s else enterTrain s) := by
  rcases hi with rfl | rfl
  · show execPlPeerStep lanes s = _
    rw [execPlPeerStep, hst]
    exact (apply_ite Host.Outcome.next _ _ _).symm
  · show execPlActivityDetected lanes s = _
    rw [execPlActivityDetected]
    by_cases h : popCount 4 lanes < 2
    · rw [if_neg (by omega), if_pos h]
    · rw [if_pos ⟨hst, by omega⟩, if_neg h]

theorem plPeerStep_fails {lanes : Nat} {s : State} (hst : s.purl.st = .active ∨ s.purl.st = .align) (hmany : 2 ≤ popCount 4 lanes) :
    exec (.plPeerStep lanes) s = .next (linkFails s 0) := by
  show execPlPeerStep lanes s = _
  rw [execPlPeerStep, if_neg (by omega)]
  rcases hst with h | h <;> rw [h]

theorem not_caps {s : State} {st : LinkSt} (h : s.purl.st = st) (hne : st ≠ .caps) : s.purl.st = .caps → s.purl.capsFails < 2 :=
  fun hcaps => absurd (h.symm.trans hcaps) hne

theorem rxLane_modLane (s : State) (l m : Nat) (f : RxLane → RxLane) :
    rxLane (modLane s l f) m = if l = m then f (rxLane s l) else rxLane s m :=
  kget_kput rxLaneBlank s.purl.rx l m _

/-- `t` differs from `s` in the records of the receive lanes only. -/
def LanesOnly (s t : State) : Prop := t = { s with purl := { s.purl with rx := t.purl.rx } }

theorem LanesOnly.refl (s : State) : LanesOnly s s := rfl

theorem LanesOnly.after {a b c : State} (k : LanesOnly b c) (h : LanesOnly a b) : LanesOnly a c :=
  k.trans (congrArg (fun x : State => { x with purl := { x.purl with rx := c.purl.rx } }) h)

theorem modLane_lanesOnly (s : State) (l : Nat) (f : RxLane → RxLane) : LanesOnly s (modLane s l f) := rfl

/-- The same idempotent change, made to each of some lanes. -/
theorem rxLane_foldl {g : State → Nat → State} {f : Nat → RxLane → RxLane} (hf : ∀ l x, f l (f l x) = f l x) {s : State}
    (hg : ∀ u l, LanesOnly s u → LanesOnly u (g u l) ∧ ∀ m, rxLane (g u l) m = if l = m then f l (rxLane u l) else rxLane u m)
    (ls : List Nat) : LanesOnly s (ls.foldl g s) ∧
    ∀ m, rxLane (ls.foldl g s) m = if m ∈ ls then f m (rxLane s m) else rxLane s m := by
  have hgen : ∀ u, LanesOnly s u → LanesOnly s (ls.foldl g u) ∧
      ∀ m, rxLane (ls.foldl g u) m = if m ∈ ls then f m (rxLane u m) else rxLane u m := by
    induction ls with
    | nil => exact fun u hu => ⟨hu, fun m => by simp⟩
    | cons l ls ih =>
      intro u hu
      obtain ⟨hstep, hlane⟩ := hg u l hu
      obtain ⟨honly, hlanes⟩ := ih (g u l) (hstep.after hu)
      rw [List.foldl_cons]
      refine ⟨honly, fun m => ?_⟩
      rw [hlanes, hlane]
      by_cases hm : l = m
      · subst hm
        simp [hf]
      · simp [hm, Ne.symm hm]
  exact hgen s (.refl s)

theorem plCtleStep_sweeps {errors : List Nat} {s : State} (hst : s.purl.st = .train) (hleft : s.purl.ctleStep < 16)
    (hdue : s.purl.since + 125000 + 250000 * (s.purl.ctleStep + 1) ≤ nowClk s) : ∃ t, exec (.plCtleStep errors) s = .next t ∧
      t = { s with purl := t.purl } ∧ t.purl.ctleStep = s.purl.ctleStep + 1 ∧ t.purl.st = .train ∧ ∀ l, l < 4 →
        (rxLane t l).passed = (if errors[l]? = some 0 then (rxLane s l).passed ||| 2 ^ s.purl.ctleStep else (rxLane s l).passed) := by
  obtain ⟨honly, hlanes⟩ := rxLane_foldl (s := s)
    (g := fun s' l => if errors[l]? = some 0 then modLane s' l (fun x => { x with passed := x.passed ||| 2 ^ s.purl.ctleStep }) else s')
    (f := fun l x => if errors[l]? = some 0 then { x with passed := x.passed ||| 2 ^ s.purl.ctleStep } else x)
    (fun l x => by split <;> simp)
    (fun u l _ => by
      by_cases h : errors[l]? = some 0
      · rw [if_pos h, if_pos h]
        exact ⟨rfl, fun m => rxLane_modLane u l m _⟩
      · rw [if_neg h, if_neg h]
        refine ⟨rfl, fun m => ?_⟩
        split
        · next hm => rw [hm]
        · rfl) [0, 1, 2, 3]
  have hexec : exec (.plCtleStep errors) s = execPlCtleStep errors s := rfl
  rw [execPlCtleStep, if_pos ⟨hst, hleft, hdue⟩] at hexec
  dsimp only at hexec
  generalize List.foldl (fun s' l => if errors[l]? = some 0 then modLane s' l (fun x => { x with passed := x.passed ||| 2 ^ s.purl.ctleStep }) else s')
    s [0, 1, 2, 3] = u at *
  refine ⟨_, hexec, ?_, rfl, ?_, fun l hl => ?_⟩
  · rw [honly]
    rfl
  · rw [honly]
    exact hst
  · show (rxLane u l).passed = _
    rw [hlanes, if_pos (by simp; omega)]
    split <;> rfl

/-! ### The end of TRAIN (16 R338, R345) -/

/-- Every lane has its CTLE step, and nothing else of the link has changed (16 R345). -/
theorem settleLanes_spec (s : State) : settleLanes s = { s with
      free := s.free + 1, params := (settleLanes s).params, purl := { s.purl with rx := (settleLanes s).purl.rx } } ∧
    itemsBut [objId 0x0B 0 lPL_CTLE_USED] s (settleLanes s) ∧
    (∀ l, l < 4 → (rxLane (settleLanes s) l).passed = (rxLane s l).passed) ∧
    (s.purl.ctleFix ≠ 0xFF → ∀ l, l < 4 → (rxLane (settleLanes s) l).ctle = s.purl.ctleFix) := by
  obtain ⟨honly, hlanes⟩ := rxLane_foldl (s := (takeFree s).2)
    (g := fun u l => modLane u l (fun x => { x with
      ctle := if u.purl.ctleFix = 0xFF then settleStep x.passed (takeFree s).1 else u.purl.ctleFix }))
    (f := fun _ x => { x with ctle := if s.purl.ctleFix = 0xFF then settleStep x.passed (takeFree s).1 else s.purl.ctleFix })
    (fun _ _ => rfl)
    (fun u l hu => by
      have hfix : u.purl.ctleFix = s.purl.ctleFix := by
        rw [hu]
        rfl
      rw [hfix]
      exact ⟨rfl, fun m => rxLane_modLane u l m _⟩) [0, 1, 2, 3]
  unfold settleLanes
  dsimp only
  generalize List.foldl (fun u l => modLane u l (fun x => { x with
    ctle := if u.purl.ctleFix = 0xFF then settleStep x.passed (takeFree s).1 else u.purl.ctleFix })) (takeFree s).2 [0, 1, 2, 3] = w at *
  generalize ((sumN ([0, 1, 2, 3].map (fun l => (rxLane w l).ctle % 16 * 16 ^ l)) : Nat) : Int) = v
  refine ⟨?_, fun o ho => ?_, fun l hl => ?_, fun hfix l hl => ?_⟩
  · rw [honly]
    rfl
  · refine (kget_kput_ne _ _ _ fun h => ho (by simp [h])).trans ?_
    rw [honly]
    rfl
  · show (rxLane w l).passed = _
    rw [hlanes, if_pos (by simp; omega)]
    rfl
  · show (rxLane w l).ctle = _
    rw [hlanes, if_pos (by simp; omega)]
    exact if_neg hfix

theorem plTrainEnd_freq {ppb : Nat} {s : State} (hst : s.purl.st = .train) (hdue : s.purl.since + 4375000 ≤ nowClk s) (hfar : 20000 < ppb) :
    ∃ t, exec (.plTrainEnd ppb) s = .next t ∧ LinkLost s t causeFreq := by
  refine ⟨_, ?_, linkFails_lost causeFreq (not_caps hst (by decide))⟩
  show execPlTrainEnd ppb s = _
  rw [execPlTrainEnd, if_pos ⟨hst, hdue⟩, if_pos hfar]

theorem plTrainEnd_near {ppb : Nat} {s : State} (hst : s.purl.st = .train) (hdue : s.purl.since + 4375000 ≤ nowClk s) (hnear : ppb ≤ 20000) :
    exec (.plTrainEnd ppb) s = .next
      (if (usableSet ([0, 1, 2, 3].filter (fun l => decide ((rxLane (settleLanes s) l).passed ≠ 0))) (settleLanes s).purl.lanesMin).isEmpty then
        linkFails (purlRaise (settleLanes s) 92 causeLanes) causeLanes
      else enterLock (settleLanes s)
        (usableSet ([0, 1, 2, 3].filter (fun l => decide ((rxLane (settleLanes s) l).passed ≠ 0))) (settleLanes s).purl.lanesMin)) := by
  show execPlTrainEnd ppb s = _
  rw [execPlTrainEnd, if_pos ⟨hst, hdue⟩, if_neg (by omega)]
  exact (apply_ite Host.Outcome.next _ _ _).symm

theorem plTrainEnd_locks {ppb : Nat} {s : State} (hst : s.purl.st = .train) (hdue : s.purl.since + 4375000 ≤ nowClk s) (hnear : ppb ≤ 20000)
    (hpassed : ∀ l, l < 4 → (rxLane s l).passed ≠ 0) : ∃ t, exec (.plTrainEnd ppb) s = .next t ∧ t.purl.st = .lock ∧
      t.purl.since = nowClk s ∧ t.purl.lanes = [0, 1, 2, 3] ∧ t.purl.streamAt = nowClk s ∧ t.purl.markers = 0 ∧
      t.col = s.col ∧ itemsBut [objId 0x0B 0 lPL_CTLE_USED] s t ∧
      (s.purl.ctleFix ≠ 0xFF → ∀ l, l < 4 → (rxLane t l).ctle = s.purl.ctleFix) := by
  have hexec := plTrainEnd_near hst hdue hnear
  obtain ⟨hrest, hbut, hsame, hfix⟩ := settleLanes_spec s
  have hall : [0, 1, 2, 3].filter (fun l => decide ((rxLane (settleLanes s) l).passed ≠ 0)) = [0, 1, 2, 3] :=
    List.filter_eq_self.mpr fun l hl => by
      have hl4 : l < 4 := by simp at hl; omega
      simpa [hsame l hl4] using hpassed l hl4
  have husable : ∀ least, usableSet [0, 1, 2, 3] least = [0, 1, 2, 3] := fun _ => rfl
  rw [hall, husable, List.isEmpty_cons, if_neg (by decide)] at hexec
  generalize settleLanes s = u at *
  have hclk : nowClk u = nowClk s := by
    rw [hrest]
    rfl
  have hcol : u.col = s.col := by rw [hrest]
  exact ⟨_, hexec, rfl, hclk, rfl, hclk, rfl, hcol, hbut, hfix⟩

theorem plTrainEnd_lanes {ppb : Nat} {s : State} (hst : s.purl.st = .train) (hdue : s.purl.since + 4375000 ≤ nowClk s) (hnear : ppb ≤ 20000)
    (hzero : (rxLane s 0).passed = 0) (hmin : s.purl.lanesMin ≠ 2) : ∃ t, exec (.plTrainEnd ppb) s = .next t ∧ t.purl.st = .detect ∧
      getP t 0x0B 0 lPL_LAST_CAUSE = (causeLanes : Int) ∧ t.col.detected = s.col.detected ++
        [{ raiseBlank 92 with d0 := causeLanes }, { raiseBlank 90 with d0 := causeLanes }] := by
  have hexec := plTrainEnd_near hst hdue hnear
  obtain ⟨hrest, -, hsame, -⟩ := settleLanes_spec s
  have hfew : ([0, 1, 2, 3].filter (fun l => decide ((rxLane (settleLanes s) l).passed ≠ 0))).length ≠ 4 := by
    have hfirst : decide ((rxLane (settleLanes s) 0).passed ≠ 0) = false := by rw [hsame 0 (by decide), hzero]; rfl
    rw [List.filter_cons, hfirst, if_neg (by decide)]
    have := List.length_filter_le (fun l => decide ((rxLane (settleLanes s) l).passed ≠ 0)) [1, 2, 3]
    simp only [List.length_cons, List.length_nil] at this
    omega
  have hmin' : (settleLanes s).purl.lanesMin ≠ 2 := by rw [hrest]; exact hmin
  have hnone : usableSet ([0, 1, 2, 3].filter (fun l => decide ((rxLane (settleLanes s) l).passed ≠ 0))) (settleLanes s).purl.lanesMin = [] := by
    rw [usableSet, if_neg hfew, if_pos hmin']
  rw [hnone, List.isEmpty_nil, if_pos rfl] at hexec
  have hst' : (purlRaise (settleLanes s) 92 causeLanes).purl.st = .train := by
    rw [purlRaise, detect_rest, hrest]
    exact hst
  obtain ⟨hlost, hdetect, -, -, -, -, hcause, -, -, -⟩ := linkFails_lost causeLanes (not_caps hst' (by decide))
  refine ⟨_, hexec, hdetect, hcause, ?_⟩
  rw [hlost]
  show (detect (purlRaise (settleLanes s) 92 causeLanes) _).col.detected = _
  rw [detected_detect, purlRaise, detected_detect, hrest, List.append_assoc]
  rfl

theorem plBlockLock_aligns {s : State} (hst : s.purl.st = .lock) :
    exec .plBlockLock s = .next { s with purl := { s.purl with st := .align, since := nowClk s } } := by
  show execPlBlockLock s = _
  rw [execPlBlockLock, if_pos hst]
  rfl

theorem plMarkerSend_sends {s : State} (hstream : streaming s = true) (hdue : 65 * 16384 * s.purl.markers ≤ 6 * (nowClk s - s.purl.streamAt)) :
    exec .plMarkerSend s = .next { s with purl := { s.purl with
      wire := (txLanes s).map (fun l => ⟨l, hdrControl, markerBytes l s.purl.markers⟩)
      markers := s.purl.markers + 1, nextBlock := max 1 (s.purl.nextBlock - 16384), lfsr := [1, 2 ^ 7, 2 ^ 14, 2 ^ 21] } } := by
  show execPlMarkerSend s = _
  rw [execPlMarkerSend, hstream, decide_eq_true hdue, if_pos (by rfl)]
  rfl

/-! ### Markers (16 R342) -/

theorem takeMarker_spec (s : State) (lane logical count arrival : Nat) (inv : Bool) :
    rxLane (takeMarker s lane logical count arrival inv) lane = { rxLane s lane with
      logical := logical, count := count, at_ := arrival, seen := (rxLane s lane).seen + 1, inverted := inv
      resync := false, lfsr := laneSeed logical } ∧
    (takeMarker s lane logical count arrival inv).purl.st = s.purl.st ∧ (takeMarker s lane logical count arrival inv).purl.lanes = s.purl.lanes := by
  refine ⟨?_, rfl, rfl⟩
  unfold takeMarker
  dsimp only
  exact (rxLane_modLane s lane lane _).trans (if_pos rfl)

theorem rxLane_of_rx_eq {s t : State} (h : t.purl.rx = s.purl.rx) (l : Nat) : rxLane t l = rxLane s l := by rw [rxLane, h, rxLane]

theorem laneSkew_of_lanes_eq {s t : State} (hrx : t.purl.rx = s.purl.rx) (hlanes : t.purl.lanes = s.purl.lanes) : laneSkew t = laneSkew s := by
  have hlane : rxLane t = rxLane s := funext fun l => rxLane_of_rx_eq hrx l
  unfold laneSkew
  rw [hlane, hlanes]

/-- What the check after a marker leaves alone, and where it leads (16 R343, Table 16-5). -/
theorem alignCheck_spec {s : State} (hst : s.purl.st = .align) :
    (alignCheck s).purl.rx = s.purl.rx ∧ (alignCheck s).purl.lanes = s.purl.lanes ∧
    (laneSkew s = none → (alignCheck s).purl.st = .align) ∧
    (∀ d, laneSkew s = some d → getP (alignCheck s) 0x0B 0 lPL_SKEW = (roundDiv d 32 : Nat) ∧
      (6400 < d → (alignCheck s).purl.st = .detect ∧ getP (alignCheck s) 0x0B 0 lPL_LAST_CAUSE = (causeSkew : Int)) ∧
      (d ≤ 6400 → (∀ l ∈ s.purl.lanes, 2 ≤ (rxLane s l).seen) → (alignCheck s).purl.st = .caps ∧ (alignCheck s).purl.peerSeen = false)) := by
  cases hskew : laneSkew s with
  | none =>
    have hstays : alignCheck s = s := by rw [alignCheck, hskew]
    rw [hstays]
    exact ⟨rfl, rfl, fun _ => hst, fun d h => absurd h (by simp)⟩
  | some d =>
    have hcheck : alignCheck s = if 6400 < d then linkFails (setP s 0x0B 0 lPL_SKEW ((roundDiv d 32 : Nat) : Int)) causeSkew
        else if s.purl.st = .align && s.purl.lanes.all (fun l => decide (2 ≤ (rxLane s l).seen)) then
          enterCaps (setP s 0x0B 0 lPL_SKEW ((roundDiv d 32 : Nat) : Int)) else setP s 0x0B 0 lPL_SKEW ((roundDiv d 32 : Nat) : Int) := by
      rw [alignCheck, hskew]
      rfl
    have hitem : getP (setP s 0x0B 0 lPL_SKEW ((roundDiv d 32 : Nat) : Int)) 0x0B 0 lPL_SKEW = (roundDiv d 32 : Nat) := getP_setP_same ..
    have hsame : (setP s 0x0B 0 lPL_SKEW ((roundDiv d 32 : Nat) : Int)).purl = s.purl := rfl
    generalize setP s 0x0B 0 lPL_SKEW ((roundDiv d 32 : Nat) : Int) = u at *
    have hnot := not_caps ((congrArg Purl.st hsame).trans hst) (by decide)
    obtain ⟨-, hdetect, -, -, -, -, hcause, -, -, hbut⟩ := linkFails_lost causeSkew hnot
    obtain ⟨hrx, hlanes⟩ := linkFails_lanes causeSkew hnot
    by_cases hfar : 6400 < d
    · rw [hcheck, if_pos hfar]
      refine ⟨hrx.trans (by rw [hsame]), hlanes.trans (by rw [hsame]), fun h => absurd h (by simp), fun e he => ?_⟩
      obtain rfl : d = e := by simpa using he
      exact ⟨(hbut _ (by decide)).trans hitem, fun _ => ⟨hdetect, hcause⟩, fun h => absurd h (by omega)⟩
    · rw [hcheck, if_neg hfar]
      by_cases hall : (decide (s.purl.st = .align) && s.purl.lanes.all (fun l => decide (2 ≤ (rxLane s l).seen))) = true
      · rw [if_pos hall]
        have hrx' : u.purl.rx = s.purl.rx := by rw [hsame]
        have hset : u.purl.lanes = s.purl.lanes := by rw [hsame]
        refine ⟨hrx', hset, fun h => absurd h (by simp), fun e he => ?_⟩
        obtain rfl : d = e := by simpa using he
        exact ⟨hitem, fun h => absurd h hfar, fun _ _ => ⟨rfl, rfl⟩⟩
      · rw [if_neg hall]
        refine ⟨congrArg Purl.rx hsame, congrArg Purl.lanes hsame, fun h => absurd h (by simp), fun e he => ?_⟩
        obtain rfl : d = e := by simpa using he
        exact ⟨hitem, fun h => absurd h hfar, fun _ hseen => absurd (by simpa [hst] using hseen) hall⟩

theorem stitchMarkerRx_eq {lane : Nat} {body : List Byte} (blocks arrival : Nat) (inv : Bool) {s : State}
    (hlane : s.purl.lanes.contains lane = true) (htype : fieldAt body 0 1 = 4) (hst : s.purl.st = .align ∨ s.purl.st = .active) :
    exec (.stitchMarkerRx lane body blocks arrival inv) s = .next
      (if markerBad (rxLane s lane) (fieldAt body 1 1) (fieldAt body 4 4) blocks then linkFails s causeMarker
      else if s.purl.st = .align then alignCheck (takeMarker s lane (fieldAt body 1 1) (fieldAt body 4 4) arrival inv)
      else takeMarker s lane (fieldAt body 1 1) (fieldAt body 4 4) arrival inv) := by
  show execStitchMarkerRx lane body blocks arrival inv s = _
  have hon : ((!(decide (s.purl.st = .align) || decide (s.purl.st = .caps) || decide (s.purl.st = .active)) || !s.purl.lanes.contains lane) ||
      decide (fieldAt body 0 1 ≠ 4)) = false := by
    rw [hlane, htype]
    rcases hst with h | h <;> rw [h] <;> rfl
  unfold execStitchMarkerRx
  dsimp only
  rw [hon, if_neg (by decide)]
  exact (apply_ite Host.Outcome.next _ _ _).symm

theorem markerBad_good {x : RxLane} {logical count blocks : Nat} (h : x.seen = 0 ∨ (logical = x.logical ∧ (x.resync = true ∨
    (count = (x.count + 1) % 2 ^ 32 ∧ blocks = 16384)))) : markerBad x logical count blocks = false := by
  rcases h with h | ⟨hl, h | ⟨hc, hb⟩⟩
  · simp [markerBad, h]
  · simp [markerBad, hl, h]
  · simp [markerBad, hl, hc, hb]

theorem stitchMarkerRx_takes {lane : Nat} {body : List Byte} {blocks arrival : Nat} {inv : Bool} {s : State}
    (hlane : s.purl.lanes.contains lane = true) (htype : fieldAt body 0 1 = 4) (hst : s.purl.st = .align ∨ s.purl.st = .active)
    (hgood : (rxLane s lane).seen = 0 ∨ (fieldAt body 1 1 = (rxLane s lane).logical ∧ ((rxLane s lane).resync = true ∨
        (fieldAt body 4 4 = ((rxLane s lane).count + 1) % 2 ^ 32 ∧ blocks = 16384)))) : ∃ t,
      exec (.stitchMarkerRx lane body blocks arrival inv) s = .next t ∧
      rxLane t lane = { rxLane s lane with
        logical := fieldAt body 1 1, count := fieldAt body 4 4, at_ := arrival, seen := (rxLane s lane).seen + 1, inverted := inv
        resync := false, lfsr := laneSeed (fieldAt body 1 1) } ∧
      (s.purl.st = .active → t.purl.st = .active) ∧
      (s.purl.st = .align → laneSkew t = none → t.purl.st = .align) ∧
      (∀ d, s.purl.st = .align → laneSkew t = some d → getP t 0x0B 0 lPL_SKEW = (roundDiv d 32 : Nat) ∧
        (6400 < d → t.purl.st = .detect ∧ getP t 0x0B 0 lPL_LAST_CAUSE = (causeSkew : Int)) ∧
        (d ≤ 6400 → (∀ l ∈ s.purl.lanes, 2 ≤ (rxLane t l).seen) → t.purl.st = .caps ∧ t.purl.peerSeen = false)) := by
  have hexec := stitchMarkerRx_eq blocks arrival inv hlane htype hst
  rw [markerBad_good hgood, if_neg (by decide)] at hexec
  obtain ⟨htaken, hkeeps, hset⟩ := takeMarker_spec s lane (fieldAt body 1 1) (fieldAt body 4 4) arrival inv
  generalize takeMarker s lane (fieldAt body 1 1) (fieldAt body 4 4) arrival inv = u at *
  rcases hst with h | h
  · rw [if_pos h] at hexec
    obtain ⟨hrx, hlanes, hnone, hsome⟩ := alignCheck_spec (hkeeps.trans h)
    have hskew := laneSkew_of_lanes_eq hrx hlanes
    refine ⟨_, hexec, (rxLane_of_rx_eq hrx lane).trans htaken, fun ha => absurd (h.symm.trans ha) (by decide), fun _ hs => hnone (hskew ▸ hs),
      fun d _ hs => ?_⟩
    obtain ⟨hitem, hfar, hnear⟩ := hsome d (hskew ▸ hs)
    exact ⟨hitem, hfar, fun hd hseen => hnear hd fun l hl => by
      rw [← rxLane_of_rx_eq hrx l]
      exact hseen l (hset ▸ hl)⟩
  · rw [if_neg (by rw [h]; decide)] at hexec
    exact ⟨u, hexec, htaken, fun _ => hkeeps.trans h, fun ha => absurd (h.symm.trans ha) (by decide),
      fun d ha => absurd (h.symm.trans ha) (by decide)⟩

theorem stitchMarkerRx_fails {lane : Nat} {body : List Byte} {blocks arrival : Nat} {inv : Bool} {s : State}
    (hlane : s.purl.lanes.contains lane = true) (htype : fieldAt body 0 1 = 4) (hst : s.purl.st = .align ∨ s.purl.st = .active)
    (hseen : (rxLane s lane).seen ≠ 0) (hsync : (rxLane s lane).resync = false) (hplace : blocks ≠ 16384) : ∃ t,
      exec (.stitchMarkerRx lane body blocks arrival inv) s = .next t ∧ LinkLost s t causeMarker := by
  have hexec := stitchMarkerRx_eq blocks arrival inv hlane htype hst
  rw [show markerBad (rxLane s lane) (fieldAt body 1 1) (fieldAt body 4 4) blocks = true by simp [markerBad, hseen, hsync, hplace],
    if_pos rfl] at hexec
  refine ⟨_, hexec, linkFails_lost causeMarker ?_⟩
  rcases hst with h | h
  · exact not_caps h (by decide)
  · exact not_caps h (by decide)

/-! ### Invalid headers (16 R339, R352) -/

theorem hdrErrors_spec (s : State) (lane : Nat) : hdrErrors s lane = { s with params := (hdrErrors s lane).params } ∧
    itemsBut [objId 0x0B 0 lPL_HDR_ERRORS] s (hdrErrors s lane) ∧
    (natP s 0x0B 0 lPL_HDR_ERRORS / 256 ^ lane % 256 ≠ 255 →
      getP (hdrErrors s lane) 0x0B 0 lPL_HDR_ERRORS = ((natP s 0x0B 0 lPL_HDR_ERRORS + 256 ^ lane : Nat) : Int)) := by
  unfold hdrErrors
  dsimp only
  split
  · next h => exact ⟨rfl, fun _ _ => rfl, fun hne => absurd h hne⟩
  · exact ⟨rfl, fun o ho => kget_kput_ne _ _ _ fun h => ho (by simp [h]), fun _ => getP_setP_same ..⟩

/-- A lane's record after an error at a time. -/
def laneErred (x : RxLane) (again : Bool) (now : Nat) : RxLane := { x with
  run := if again then x.run + 1 else 1, errs := x.errs.filter (fun t => decide (now < t + msTicks)) ++ [now] }

/-- An error on a lane: counted, source 91, and in the lane's record. -/
def headerBad (s : State) (lane : Nat) (again : Bool) : State :=
  let u := quietIn (detect (hdrErrors s lane) { raiseBlank 91 with ins := lane }) 91 secTicks
  modLane u lane (fun x => laneErred x again (nowClk u))

theorem headerBad_spec (s : State) (lane : Nat) (again : Bool) :
    headerBad s lane again = { s with
      params := (hdrErrors s lane).params, purl := { s.purl with rx := (headerBad s lane again).purl.rx }
      col := (headerBad s lane again).col } ∧
    (headerBad s lane again).col.detected = s.col.detected ++ [{ raiseBlank 91 with ins := lane }] ∧ quietFrom 91 1250000000 s (headerBad s lane again) ∧
    rxLane (headerBad s lane again) lane = laneErred (rxLane s lane) again (nowClk s) := by
  obtain ⟨hraise, hquiet⟩ := raiseQuiet_spec (hdrErrors s lane) (x := { raiseBlank 91 with ins := lane }) (src := 91) rfl secTicks
  obtain ⟨hrest, -, -⟩ := hdrErrors_spec s lane
  unfold headerBad
  dsimp only
  generalize quietIn (detect (hdrErrors s lane) { raiseBlank 91 with ins := lane }) 91 secTicks = u at *
  generalize hdrErrors s lane = w at *
  have hlane : ∀ l, rxLane u l = rxLane s l := fun l => rxLane_of_rx_eq (by rw [hraise, hrest]) l
  have hclk : nowClk u = nowClk s := by rw [nowClk, hraise, hrest, nowClk]
  have hrec : ∀ n, srcRec w n = srcRec s n := fun n => by rw [srcRec, hrest, srcRec]
  have hclk' : nowClk w = nowClk s := by rw [nowClk, hrest, nowClk]
  refine ⟨?_, ?_, ⟨?_, fun n hn => ?_⟩, ?_⟩
  · rw [hraise, hrest]
    rfl
  · show u.col.detected = _
    rw [hraise, hrest]
  · show srcRec u 91 = _
    rw [hquiet.1, hrec, hclk']
  · show srcRec u n = _
    rw [hquiet.2 n hn, hrec]
  · rw [hclk]
    refine (rxLane_modLane u lane lane _).trans ?_
    rw [if_pos rfl, hlane]

/-- What the link answers to the errors on a lane in a state (16 R352, Table 16-5). -/
def headerAnswer (st : LinkSt) (u : State) (lane : Nat) : State :=
  if decide (st ≠ .blocked) && u.purl.lanes.contains lane && decide (16 ≤ (rxLane u lane).run) then linkFails u causeLock
  else if decide (st ≠ .blocked) && decide (natP u 0x0B 0 lPL_ERR_LIMIT < (rxLane u lane).errs.length) then linkFails u causeRate
  else u

theorem plInvalidHeader_eq {lane : Nat} {s : State} (again : Bool) (hlane : lane ≤ 3) (hst : s.purl.st = .active) (hsnags : s.col.snags = []) :
    exec (.plInvalidHeader lane again) s = .next (headerAnswer .active (headerBad s lane again) lane) := by
  have hshape : execPlInvalidHeader lane again s = if (decide (3 < lane) || !(decide (s.purl.st = .lock) || decide (s.purl.st = .align) ||
      decide (s.purl.st = .caps) || decide (s.purl.st = .active) || decide (s.purl.st = .blocked))) = true then .next s
      else .next (headerAnswer s.purl.st (headerBad (if snagArmed s 0x0060 lane then spendSnag s 0x0060 lane else s) lane again) lane) := by
    unfold headerAnswer
    rw [apply_ite Host.Outcome.next, apply_ite Host.Outcome.next]
    rfl
  show execPlInvalidHeader lane again s = _
  rw [hshape, hst, snagArmed_none hsnags, if_neg (by simp; omega), if_neg (by decide)]

theorem plInvalidHeader_spec {lane : Nat} {again : Bool} {s : State} (hlane : lane ≤ 3) (hst : s.purl.st = .active) (hsnags : s.col.snags = [])
    (hset : s.purl.lanes.contains lane = true) : ∃ t, exec (.plInvalidHeader lane again) s = .next t ∧
      (natP s 0x0B 0 lPL_HDR_ERRORS / 256 ^ lane % 256 ≠ 255 →
        getP t 0x0B 0 lPL_HDR_ERRORS = ((natP s 0x0B 0 lPL_HDR_ERRORS + 256 ^ lane : Nat) : Int)) ∧
      srcRec t 91 = { srcRec s 91 with quietAt := some (nowClk s + 1250000000) } ∧ (rxLane t lane).run = (if again then (rxLane s lane).run + 1 else 1) ∧
      (again = true → 15 ≤ (rxLane s lane).run → t.purl.st = .detect ∧ getP t 0x0B 0 lPL_LAST_CAUSE = (causeLock : Int)) ∧
      (again = false → ((rxLane s lane).errs.filter (fun q => decide (nowClk s < q + 1250000))).length < natP s 0x0B 0 lPL_ERR_LIMIT →
        t.purl.st = .active ∧ sourcesBut 91 s t ∧ t.col.detected = s.col.detected ++ [{ raiseBlank 91 with ins := lane }]) := by
  have hexec := plInvalidHeader_eq again hlane hst hsnags
  obtain ⟨hrest, hraised, ⟨hquiet, hbut⟩, hrec⟩ := headerBad_spec s lane again
  obtain ⟨-, hitems, hcount⟩ := hdrErrors_spec s lane
  have hparams : (headerBad s lane again).params = (hdrErrors s lane).params := by rw [hrest]
  have hst' : (headerBad s lane again).purl.st = .active := by rw [hrest]; exact hst
  have hset' : (headerBad s lane again).purl.lanes.contains lane = true := by rw [hrest]; exact hset
  have hlimit : natP (headerBad s lane again) 0x0B 0 lPL_ERR_LIMIT = natP s 0x0B 0 lPL_ERR_LIMIT := by
    rw [natP, getP_of_params_eq hparams, getP, hitems _ (by decide)]
    rfl
  generalize headerBad s lane again = u at *
  have hstill : ∀ cause, getP (linkFails u cause) 0x0B 0 lPL_HDR_ERRORS = getP (hdrErrors s lane) 0x0B 0 lPL_HDR_ERRORS ∧
      srcRec (linkFails u cause) 91 = srcRec u 91 ∧ rxLane (linkFails u cause) lane = rxLane u lane ∧
      (linkFails u cause).purl.st = .detect ∧ getP (linkFails u cause) 0x0B 0 lPL_LAST_CAUSE = (cause : Int) := fun cause => by
    obtain ⟨hlost, hdetect, -, -, -, -, hcause, -, -, hkept⟩ := linkFails_lost cause (not_caps hst' (by decide))
    refine ⟨(hkept _ (by decide)).trans (getP_of_params_eq hparams _ _ _), ?_,
      rxLane_of_rx_eq (linkFails_lanes cause (not_caps hst' (by decide))).1 lane, hdetect, hcause⟩
    rw [srcRec, hlost]
    show srcRec (detect u _) 91 = _
    rw [srcRec_detect, if_neg (by exact (by decide : (90 : Nat) ≠ 91))]
  have hitem : getP u 0x0B 0 lPL_HDR_ERRORS = getP (hdrErrors s lane) 0x0B 0 lPL_HDR_ERRORS := getP_of_params_eq hparams _ _ _
  have hrun : (rxLane u lane).run = if again then (rxLane s lane).run + 1 else 1 := by rw [hrec]; rfl
  have herrs : (rxLane u lane).errs.length = ((rxLane s lane).errs.filter (fun q => decide (nowClk s < q + 1250000))).length + 1 := by
    rw [hrec]
    simp [laneErred, msTicks]
  have hcommon : ∀ t, (t = u ∨ ∃ cause, t = linkFails u cause) →
      (natP s 0x0B 0 lPL_HDR_ERRORS / 256 ^ lane % 256 ≠ 255 →
        getP t 0x0B 0 lPL_HDR_ERRORS = ((natP s 0x0B 0 lPL_HDR_ERRORS + 256 ^ lane : Nat) : Int)) ∧
      srcRec t 91 = { srcRec s 91 with quietAt := some (nowClk s + 1250000000) } ∧
      (rxLane t lane).run = (if again then (rxLane s lane).run + 1 else 1) := fun t ht => by
    rcases ht with rfl | ⟨cause, rfl⟩
    · exact ⟨fun h => hitem.trans (hcount h), hquiet, hrun⟩
    · obtain ⟨h1, h2, h3, -, -⟩ := hstill cause
      exact ⟨fun h => h1.trans (hcount h), h2.trans hquiet, by rw [h3]; exact hrun⟩
  rw [headerAnswer, hset'] at hexec
  by_cases hmany : 16 ≤ (rxLane u lane).run
  · rw [if_pos (by simp [hmany])] at hexec
    obtain ⟨h1, h2, h3⟩ := hcommon _ (.inr ⟨causeLock, rfl⟩)
    obtain ⟨-, -, -, hdetect, hcause⟩ := hstill causeLock
    refine ⟨_, hexec, h1, h2, h3, fun _ _ => ⟨hdetect, hcause⟩, fun hnot => absurd hmany ?_⟩
    rw [hrun, hnot]
    simp
  · rw [if_neg (by simp [hmany])] at hexec
    have hlost : again = true → 15 ≤ (rxLane s lane).run → False := fun hag hlong => hmany (by
      rw [hrun, hag, if_pos rfl]
      omega)
    by_cases hover : natP u 0x0B 0 lPL_ERR_LIMIT < (rxLane u lane).errs.length
    · rw [if_pos (by simp [hover])] at hexec
      obtain ⟨h1, h2, h3⟩ := hcommon _ (.inr ⟨causeRate, rfl⟩)
      exact ⟨_, hexec, h1, h2, h3, fun hag hlong => (hlost hag hlong).elim, fun _ hfew => absurd hover (by omega)⟩
    · rw [if_neg (by simp [hover])] at hexec
      obtain ⟨h1, h2, h3⟩ := hcommon u (.inl rfl)
      exact ⟨_, hexec, h1, h2, h3, fun hag hlong => (hlost hag hlong).elim, fun _ _ => ⟨hst', hbut, hraised⟩⟩

/-! ### CAPS (16 R346, R347) -/

theorem stripe_headers (lanes : List Nat) (n : Nat) : ∀ idx bs, ∀ b ∈ stripe lanes n idx bs, b.header = hdrData := by
  induction n with
  | zero => exact fun _ _ b hb => absurd hb (by simp [stripe])
  | succ n ih =>
    intro idx bs b hb
    rw [stripe] at hb
    split at hb
    · exact absurd hb (by simp)
    · rcases List.mem_append.mp hb with hb | hb
      · obtain ⟨i, -, rfl⟩ := List.mem_map.mp hb
        rfl
      · exact ih _ _ b hb

/-- A packet of 33 to 64 bytes takes two blocks of a lane. -/
theorem stripe_two_length (l idx : Nat) {bs : List Byte} (hlo : 32 < bs.length) : (stripe [l] 2 idx bs).length = 2 := by
  have hfirst : bs.isEmpty = false := List.isEmpty_eq_false_iff.mpr fun h => by rw [h] at hlo; exact absurd hlo (by simp)
  have hsecond : (bs.drop 32).isEmpty = false := List.isEmpty_eq_false_iff.mpr fun h => by
    have := congrArg List.length h
    rw [List.length_drop, List.length_nil] at this
    omega
  have hpos : 0 < bs.length := by omega
  simp [stripe, hfirst, hsecond, hpos, hlo]

theorem capsPacket_length (s : State) : (packetBytes 0x02 1 s.boot.unitId s.purl.seq (capsPayload s)).length = 52 := by
  simp [packetBytes, capsPayload, leBytes_length, zeros]

theorem sendCaps_spec (s : State) : sendCaps s = { s with purl := (sendCaps s).purl } ∧ (sendCaps s).purl.st = s.purl.st ∧
    (sendCaps s).purl.capsAt = s.purl.capsAt ∧ (sendCaps s).purl.wire.length = 2 * (txLanes s).length ∧
    ∀ b ∈ (sendCaps s).purl.wire, b.header = hdrData := by
  have hlen := capsPacket_length s
  unfold sendCaps
  generalize packetBytes 0x02 1 s.boot.unitId s.purl.seq (capsPayload s) = bs at *
  have hwire : (sendBytes s true bs).purl.wire =
      ((txLanes s).map (fun l => stripe [l] 2 (freeIndex (max s.purl.nextBlock (blocksNow s))) bs)).flatten := by
    unfold sendBytes
    rw [hlen]
    rfl
  refine ⟨rfl, rfl, rfl, ?_, fun b hb => ?_⟩
  · rw [hwire, List.length_flatten, List.map_map]
    simp [Function.comp_def, stripe_two_length _ _ (show 32 < bs.length by omega), Nat.mul_comm]
  · rw [hwire] at hb
    obtain ⟨xs, hxs, hb⟩ := List.mem_flatten.mp hb
    obtain ⟨l, -, rfl⟩ := List.mem_map.mp hxs
    exact stripe_headers [l] 2 _ bs b hb

theorem plCapsSend_sends {s : State} (hst : s.purl.st = .caps) (hdue : s.purl.capsAt ≤ nowClk s) : ∃ t, exec .plCapsSend s = .next t ∧
    t = { s with purl := t.purl } ∧ t.purl.st = .caps ∧ t.purl.capsAt = s.purl.capsAt + 12500 ∧ t.purl.seq = 0 ∧
    t.purl.wire.length = 2 * (txLanes s).length ∧ ∀ b ∈ t.purl.wire, b.header = hdrData := by
  obtain ⟨hrest, hkeeps, hat, hlen, hheaders⟩ := sendCaps_spec s
  have hexec : exec .plCapsSend s = .next (modPurl (sendCaps s) (fun x => { x with capsAt := x.capsAt + 10 * usTicks, seq := 0 })) := by
    show execPlCapsSend s = _
    rw [execPlCapsSend, hst, decide_eq_true hdue]
    exact if_pos (by rfl)
  generalize sendCaps s = u at *
  refine ⟨_, hexec, ?_, hkeeps.trans hst, ?_, rfl, hlen, hheaders⟩
  · rw [hrest]
    rfl
  · exact congrArg (· + 12500) hat

theorem rejectCaps_spec (s : State) : (rejectCaps s).purl.st = s.purl.st ∧
    getP (rejectCaps s) 0x0B 0 lPL_CAPS_REJECTS = inc32 (getP s 0x0B 0 lPL_CAPS_REJECTS) ∧
    (rejectCaps s).col.detected = s.col.detected ++ [raiseBlank 93] := by
  unfold rejectCaps detectSrc
  dsimp only
  rw [detect_rest]
  exact ⟨rfl, getP_bumpP_same s 0x0B 0 _, rfl⟩

/-- The packet of a CAPS_RX in CAPS whose bit 0 of FLAGS is set (16 R346, R347). -/
theorem capsRx_caps {packet : List Byte} (clean : Bool) {s : State} (hst : s.purl.st = .caps) (hflag : fieldAt packet 6 1 % 2 = 1) :
    exec (.capsRx packet clean) s = .next
      (if !(packetOk packet clean && decide (fieldAt packet 7 1 = 2)) || !capsClean (packetPayload packet) then rejectCaps s
      else if capsAlien s (packetPayload packet) then toBlocked s else takeCaps s (packetPayload packet)) := by
  show execCapsRx packet clean s = _
  rw [execCapsRx, hst]
  dsimp only
  rw [if_neg (by omega), apply_ite Host.Outcome.next, apply_ite Host.Outcome.next]

/-- The counts of a new ACTIVE restart, and the lanes' number is told. -/
def activeCounts (s : State) (chosen : List Nat) : State :=
  setP (linkCounts.foldl (fun s i => setP s 0x0B 0 i 0) s) 0x0B 0 lPL_WIDTH ((chosen.length : Nat) : Int)

/-- The link in ACTIVE over its chosen lanes. -/
def linkActive (s : State) (chosen : List Nat) : State :=
  setLink (modPurl s (fun x => { x with
    chosen := chosen, capsFails := 0, capsLeft := 2, capsAt := nowClk s + 10 * usTicks, seq := 0, statusAt := nowClk s
    heardAt := nowClk s, retrainAt := none, echo := none })) .active

theorem enterActive_spec (s : State) (chosen : List Nat) : ∃ w, OnlyCollector (activeCounts s chosen) w ∧
    enterActive s chosen = complete (linkActive w chosen) .pairLink (okWith (leBytes 1 (linkCode (linkActive w chosen)))) := by
  have hclear : ∀ (u : State) src, OnlyCollector u (enterActive.clearIf_ u src) := fun u src => .ite (clearLive_onlyCollector u src) (.refl u)
  have hraise : ∀ (u : State) (c : Prop) [Decidable c], OnlyCollector u (if c then enterActive.clearIf_ u 92 else purlRaise u 92 0) :=
    fun u c _ => .ite (hclear u 92) (detect_onlyCollector u _)
  have hquiet : ∀ (u : State) t, OnlyCollector u (quietSet u 93 t) := fun u t => .ite (setSrcRec_onlyCollector u 93 _) (.refl u)
  exact ⟨_, (hquiet _ _).after ((hraise _ _).after (hclear _ 90)), rfl⟩

theorem takeCaps_active {s : State} {p : List Byte} (hseen : fieldAt p 5 1 = 1) (hcommon : commonLanes (rxAligned s) (fieldAt p 6 1) ≠ []) :
    (takeCaps s p).purl.st = .active ∧ (takeCaps s p).purl.caps = p ∧ (takeCaps s p).pair.peerEpoch = fieldAt p 16 4 ∧
    (takeCaps s p).purl.chosen = commonLanes (rxAligned s) (fieldAt p 6 1) ∧ (takeCaps s p).purl.capsFails = 0 ∧
    getP (takeCaps s p) 0x0B 0 lPL_WIDTH = ((takeCaps s p).purl.chosen.length : Int) := by
  have htake : takeCaps s p = enterActive (modPurl (modPair s (fun x => { x with peerEpoch := fieldAt p 16 4 }))
      (fun x => { x with peerSeen := true, caps := p })) (commonLanes (rxAligned s) (fieldAt p 6 1)) := by
    have hsome : (commonLanes (rxAligned s) (fieldAt p 6 1)).isEmpty = false := List.isEmpty_eq_false_iff.mpr hcommon
    have hshape : takeCaps s p = if (commonLanes (rxAligned s) (fieldAt p 6 1)).isEmpty then _ else
      if fieldAt p 5 1 = 1 then enterActive (modPurl (modPair s (fun x => { x with peerEpoch := fieldAt p 16 4 }))
        (fun x => { x with peerSeen := true, caps := p })) (commonLanes (rxAligned s) (fieldAt p 6 1)) else _ := rfl
    rw [hshape, hsome, if_neg (by decide), if_pos hseen]
  rw [htake]
  generalize commonLanes (rxAligned s) (fieldAt p 6 1) = chosen
  obtain ⟨w, hw, hactive⟩ := enterActive_spec (modPurl (modPair s (fun x => { x with peerEpoch := fieldAt p 16 4 }))
      (fun x => { x with peerSeen := true, caps := p })) chosen
  rw [hactive, complete_rest]
  have hwidth : getP w 0x0B 0 lPL_WIDTH = (chosen.length : Int) := (hw.items _ (by decide)).trans (getP_setP_same _ _ _ _ _)
  have hpurl : w.purl.caps = p ∧ w.pair.peerEpoch = fieldAt p 16 4 := by
    rw [hw.rest]
    exact ⟨rfl, rfl⟩
  exact ⟨rfl, hpurl.1, hpurl.2, rfl, rfl, hwidth⟩

theorem capsRx_accepts {packet : List Byte} {clean : Bool} {s : State} (hst : s.purl.st = .caps) (hflag : fieldAt packet 6 1 % 2 = 1)
    (hok : packetOk packet clean = true) (htype : fieldAt packet 7 1 = 2) (hclean : capsClean (packetPayload packet) = true) :
    exec (.capsRx packet clean) s = .next (if capsAlien s (packetPayload packet) then toBlocked s else takeCaps s (packetPayload packet)) := by
  rw [capsRx_caps clean hst hflag, hok, htype, hclean]
  rfl

theorem capsRx_rejects {packet : List Byte} {clean : Bool} {s : State} (hst : s.purl.st = .caps) (hflag : fieldAt packet 6 1 % 2 = 1)
    (hbad : packetOk packet clean = false) : exec (.capsRx packet clean) s = .next (rejectCaps s) := by
  rw [capsRx_caps clean hst hflag, hbad]
  rfl

/-! ### STATUS (16 R349, R353; 17 R358, R366) -/

theorem canSend_active {s : State} (h : canSend s = true) : s.purl.st = .active := by
  simp only [canSend, linkUp, Bool.and_eq_true, decide_eq_true_eq] at h
  exact h.1

theorem plStatusSend_sends {s : State} (hsend : canSend s = true) (hdue : s.purl.statusAt ≤ nowClk s) : ∃ t, exec .plStatusSend s = .next t ∧
    t = { s with purl := t.purl } ∧ t.purl.st = .active ∧ t.purl.statusAt = nowClk s + natP s 0x0B 0 lPL_STATUS_PERIOD * 1250 ∧
    t.purl.seq = (s.purl.seq + 1) % 2 ^ 32 := by
  have hexec : exec .plStatusSend s = .next (sendStatus s) := by
    show execPlStatusSend s = _
    rw [execPlStatusSend, hsend, decide_eq_true hdue]
    exact if_pos (by rfl)
  exact ⟨_, hexec, rfl, canSend_active hsend, rfl, rfl⟩

theorem plInvalidPacket_discards {s : State} (hst : s.purl.st = .active) : ∃ t, exec .plInvalidPacket s = .next t ∧
    t = { s with params := t.params, col := { s.col with detected := s.col.detected ++ [raiseBlank 95], sources := t.col.sources } } ∧
    getP t 0x0B 0 lPL_PKT_DISCARDS = inc32 (getP s 0x0B 0 lPL_PKT_DISCARDS) ∧ quietFrom 95 1250000000 s t := by
  have hexec : exec .plInvalidPacket s = .next (discardPacket s) := by
    show execPlInvalidPacket s = _
    rw [execPlInvalidPacket, linkUp, hst]
    rfl
  obtain ⟨hraise, hquiet⟩ := raiseQuiet_spec (bumpP s 0x0B 0 lPL_PKT_DISCARDS) (x := raiseBlank 95) (src := 95) rfl secTicks
  refine ⟨_, hexec, ?_, ?_, hquiet⟩
  · rw [discardPacket, detectSrc, hraise]
    rfl
  · rw [discardPacket, detectSrc, hraise]
    exact getP_bumpP_same s 0x0B 0 _

/-- A test of the pairs of a store does not notice a new value of a listed key that the test takes for the old one. -/
theorem any_kput_same {α : Type} [DecidableEq α] {d : Nat → α} {m : KMap α} {k : Nat} {v : α} (f : Nat × α → Bool)
    (hold : kget d m k ≠ d k) (hnew : v ≠ d k) (hf : f (k, v) = f (k, kget d m k)) : (kput d m k v).any f = m.any f := by
  rw [kput, if_neg hnew]
  induction m with
  | nil => exact absurd rfl hold
  | cons p m ih =>
    obtain ⟨j, w⟩ := p
    rw [kins]
    split
    · have hmem := mem_of_kget hold
      have habsorb : f (k, v) = true → ((j, w) :: m).any f = true := fun h => List.any_eq_true.mpr ⟨_, hmem, hf ▸ h⟩
      rw [List.any_cons]
      cases hfv : f (k, v) with
      | false => rw [Bool.false_or]
      | true => rw [Bool.true_or, habsorb hfv]
    · split
      · next hk =>
        rw [kget, if_pos hk.symm] at hf
        rw [List.any_cons, List.any_cons, hf, hk]
      · next hk =>
        rw [kget, if_neg (Ne.symm hk)] at hold hf
        rw [List.any_cons, List.any_cons, ih hold hf]

/-- The times of the link are measured. -/
def linkMeasures : List Nat := [objId 0x0B 0 lPL_LINK_DELAY, objId 0x0B 0 lPL_PEER_OFFSET]

theorem linkTimes_spec (s : State) (p : List Byte) (t4 : Nat) : linkTimes s p t4 = { s with params := (linkTimes s p t4).params } ∧
    itemsBut linkMeasures s (linkTimes s p t4) ∧ (fieldAt p 12 12 ≠ 0 → getP (linkTimes s p t4) 0x0B 0 lPL_LINK_DELAY =
      roundDivI (tsDiff t4 (fieldAt p 12 12) - tsDiff (fieldAt p 0 12) (fieldAt p 24 12)) 2) := by
  unfold linkTimes
  dsimp only
  split
  · next h => exact ⟨rfl, fun _ _ => rfl, fun hne => absurd h (by simp [hne])⟩
  · refine ⟨rfl, fun o ho => ?_, fun _ => ?_⟩
    · simp only [linkMeasures, List.mem_cons, List.not_mem_nil, or_false, not_or] at ho
      exact (kget_kput_ne _ _ _ (Ne.symm ho.2)).trans (kget_kput_ne _ _ _ (Ne.symm ho.1))
    · rw [getP_setP_item _ _ _ _ _ _ (by decide) (by decide) (by decide), getP_setP_same]

theorem pairCause_of_measured {s t : State} (hcol : t.col.sources = s.col.sources) (hitems : itemsBut linkMeasures s t) :
    pairCause t = pairCause s := by
  have hitem : ∀ o, (13 * 16777216 ≤ o ∨ o = objId 0x0B 0 lPAIR_RELEASE_SEV) → kget paramReset t.params o = kget paramReset s.params o :=
    fun o ho => hitems o fun hmem => by
      simp only [linkMeasures, List.mem_cons, List.not_mem_nil, or_false] at hmem
      simp only [objId, lPAIR_RELEASE_SEV, lPL_LINK_DELAY, lPL_PEER_OFFSET] at hmem ho
      omega
  have hlimit : natP t 0x0B 0 lPAIR_RELEASE_SEV = natP s 0x0B 0 lPAIR_RELEASE_SEV := congrArg Int.toNat (hitem _ (.inr rfl))
  have hsev : ∀ src ins, severityFor t src ins = severityFor s src ins := fun src ins => by
    have hone : natP t 0x0D 0 (jSEVERITY + src) = natP s 0x0D 0 (jSEVERITY + src) :=
      congrArg Int.toNat (hitem _ (.inl (by simp only [objId]; omega)))
    rw [severityFor, hone, severityFor]
  rw [pairCause, hcol, hlimit]
  simp only [hsev]
  rfl

/-- When a live source ends is no matter to the causes of a release (17 R358). -/
theorem pairCause_quietAt {s : State} {n : Nat} (q : Option Nat) (h : isLive s n = true) :
    pairCause (setSrcRec s n { srcRec s n with quietAt := q }) = pairCause s := by
  refine any_kput_same _ (fun hb => ?_) (fun hb => ?_) rfl
  · rw [isLive, srcRec, hb] at h
    exact absurd (show false = true from h) (by decide)
  · have hlive := congrArg Source.live hb
    rw [show (sourceBlank n).live = false from rfl] at hlive
    exact absurd (h.symm.trans hlive) (by decide)

/-- The peer's STATUS as noted. -/
def statusOf (s : State) (p : List Byte) : PeerStatus := ⟨fieldAt p 40 1, fieldAt p 43 1, fieldAt p 36 4, decide (fieldAt p 42 1 = 1), nowClk s⟩

/-- A STATUS has been heard: the times of the link, the echo. -/
def statusHeard (s : State) (p : List Byte) (arrival : Nat) : State :=
  modPurl (linkTimes s p arrival) (fun x => { x with echo := some (fieldAt p 0 12, arrival), heardAt := nowClk (linkTimes s p arrival), peerIdle := false })

/-- The sources that a STATUS ends: 30, and in its time 118. -/
def statusEnds (s : State) (st : PeerStatus) : State :=
  let s := if st.role = 1 && healthReady st.health then clearIf s 30 else s
  if s.pair.wiringSince.isNone && isLive s 118 && (srcRec s 118).quietAt.isNone then quietIn s 118 secTicks
  else if s.pair.wiringSince.isSome then quietSet s 118 none else s

/-- What a claim of the peer makes of an ACTIVE unit (16 R353; 17 R358). -/
def claimHeard (s : State) (st : PeerStatus) (own : Nat) : State :=
  if s.pair.role = .active && st.role = 2 && st.epoch ≤ own then claimOutOfTurn s
  else if s.pair.role = .active && (st.role = 2 || st.role = 3) && own < st.epoch then takenOver s else s

theorem takeStatus_eq (s : State) (p : List Byte) (arrival : Nat) : takeStatus s p arrival =
    if !pairOn (statusHeard s p arrival) then modPair (statusHeard s p arrival) (fun x => { x with
      peer := some (statusOf s p), peerEpoch := fieldAt p 36 4 })
    else swapHeard (claimHeard (statusEnds (noteStatus (statusHeard s p arrival) (statusOf s p)) (statusOf s p)) (statusOf s p)
      (epochOf (statusHeard s p arrival))) (statusOf s p) := rfl

theorem statusEnds_onlyCollector (s : State) (st : PeerStatus) : OnlyCollector s (statusEnds s st) := by
  have hclear : OnlyCollector s (if st.role = 1 && healthReady st.health then clearIf s 30 else s) := .ite (clearLive_onlyCollector s 30) (.refl s)
  unfold statusEnds
  dsimp only
  generalize (if st.role = 1 && healthReady st.health then clearIf s 30 else s) = u at *
  have hset : OnlyCollector u (quietSet u 118 none) := .ite (setSrcRec_onlyCollector u 118 _) (.refl u)
  exact (OnlyCollector.ite (quietIn_onlyCollector u 118 secTicks) (.ite hset (.refl u))).after hclear

theorem pairCause_statusEnds {s : State} {st : PeerStatus} (hrole : st.role = 2) : pairCause (statusEnds s st) = pairCause s := by
  have hset : pairCause (quietSet s 118 none) = pairCause s := by
    unfold quietSet
    split
    · next h => exact pairCause_quietAt none h
    · rfl
  have hfirst : (if st.role = 1 && healthReady st.health then clearIf s 30 else s) = s := if_neg (by simp [hrole])
  unfold statusEnds
  rw [hfirst]
  dsimp only
  split
  · next h =>
    simp only [Bool.and_eq_true] at h
    exact pairCause_quietAt _ h.1.2
  · split
    · exact hset
    · rfl

theorem swapHeard_spec (s : State) (st : PeerStatus) : (swapHeard s st).purl = s.purl ∧ (swapHeard s st).params = s.params ∧
    (swapHeard s st).pair.role = s.pair.role ∧ (swapHeard s st).pair.peerEpoch = s.pair.peerEpoch ∧
    (swapHeard s st).pair.holdSent = s.pair.holdSent := by
  have hover : ∀ r, (complete (modPair s (fun x => { x with swapEnd := none, release := false })) .pairSwap r).purl = s.purl ∧
      (complete (modPair s (fun x => { x with swapEnd := none, release := false })) .pairSwap r).params = s.params ∧
      (complete (modPair s (fun x => { x with swapEnd := none, release := false })) .pairSwap r).pair.role = s.pair.role ∧
      (complete (modPair s (fun x => { x with swapEnd := none, release := false })) .pairSwap r).pair.peerEpoch = s.pair.peerEpoch ∧
      (complete (modPair s (fun x => { x with swapEnd := none, release := false })) .pairSwap r).pair.holdSent = s.pair.holdSent := fun r => by
    rw [complete_rest]
    exact ⟨rfl, rfl, rfl, rfl, rfl⟩
  unfold swapHeard
  dsimp only
  split
  · exact ⟨rfl, rfl, rfl, rfl, rfl⟩
  · split
    · split
      · exact hover _
      · split
        · exact hover _
        · exact ⟨rfl, rfl, rfl, rfl, rfl⟩
    · split
      · exact hover _
      · exact ⟨rfl, rfl, rfl, rfl, rfl⟩

theorem claimOutOfTurn_spec (s : State) : (claimOutOfTurn s).purl = s.purl ∧ (claimOutOfTurn s).pair = { s.pair with holdSent := true } ∧
    itemsBut [objId 0x0B 0 lPL_CLAIMS_IGNORED] s (claimOutOfTurn s) ∧
    getP (claimOutOfTurn s) 0x0B 0 lPL_CLAIMS_IGNORED = inc32 (getP s 0x0B 0 lPL_CLAIMS_IGNORED) := by
  unfold claimOutOfTurn detectSrc
  dsimp only
  rw [quietIn_detect_rest]
  exact ⟨rfl, rfl, fun o ho => kget_kput_ne _ _ _ fun h => ho (by simp [h]), getP_bumpP_same s 0x0B 0 _⟩

theorem claimHeard_kept (s : State) (st : PeerStatus) (own : Nat) : (claimHeard s st own).purl = s.purl ∧
    (claimHeard s st own).pair.peerEpoch = s.pair.peerEpoch ∧ itemsBut [objId 0x0B 0 lPL_CLAIMS_IGNORED] s (claimHeard s st own) := by
  obtain ⟨hpurl, hpair, hitems, -⟩ := claimOutOfTurn_spec s
  unfold claimHeard
  split
  · exact ⟨hpurl, by rw [hpair], hitems⟩
  · split
    · exact ⟨rfl, rfl, fun _ _ => rfl⟩
    · exact ⟨rfl, rfl, fun _ _ => rfl⟩

/-- Everything a STATUS of the accepted peer changes of the link, and what it makes of an ACTIVE unit that hears of another. -/
theorem takeStatus_spec (s : State) (p : List Byte) (arrival : Nat) :
    (takeStatus s p arrival).purl = { s.purl with echo := some (fieldAt p 0 12, arrival), heardAt := nowClk s, peerIdle := false } ∧
    (takeStatus s p arrival).pair.peerEpoch = fieldAt p 36 4 ∧
    (fieldAt p 12 12 ≠ 0 → getP (takeStatus s p arrival) 0x0B 0 lPL_LINK_DELAY =
        roundDivI (tsDiff arrival (fieldAt p 12 12) - tsDiff (fieldAt p 0 12) (fieldAt p 24 12)) 2) ∧
    (pairOn s = true → s.pair.role = .active → fieldAt p 40 1 = 2 →
      (fieldAt p 36 4 ≤ epochOf s → (takeStatus s p arrival).pair.role = .active ∧ (takeStatus s p arrival).pair.holdSent = true ∧
        getP (takeStatus s p arrival) 0x0B 0 lPL_CLAIMS_IGNORED = inc32 (getP s 0x0B 0 lPL_CLAIMS_IGNORED)) ∧
      (epochOf s < fieldAt p 36 4 → pairCause s = false → (takeStatus s p arrival).pair.role = .standby) ∧
      (epochOf s < fieldAt p 36 4 → pairCause s = true → (takeStatus s p arrival).pair.role = .faulted)) := by
  obtain ⟨hrest, hitems, hdelay⟩ := linkTimes_spec s p arrival
  have hpurl : (statusHeard s p arrival).purl = { s.purl with echo := some (fieldAt p 0 12, arrival), heardAt := nowClk s, peerIdle := false } := by
    unfold statusHeard
    rw [hrest]
    rfl
  have hparams : (statusHeard s p arrival).params = (linkTimes s p arrival).params := rfl
  have hpair : (statusHeard s p arrival).pair = s.pair := by
    have h := congrArg State.pair hrest
    exact h
  have hcol : (statusHeard s p arrival).col = s.col := by
    have h := congrArg State.col hrest
    exact h
  have hitem : ∀ n, n < 65536 → objId 0x0B 0 n ∉ linkMeasures → getP (statusHeard s p arrival) 0x0B 0 n = getP s 0x0B 0 n := fun n _ hn =>
    (getP_of_params_eq hparams _ _ _).trans (hitems _ hn)
  have hon : pairOn (statusHeard s p arrival) = pairOn s := by rw [pairOn, hitem _ (by decide) (by decide), pairOn]
  have hown : epochOf (statusHeard s p arrival) = epochOf s := congrArg Int.toNat (hitem 0x0081 (by decide) (by decide))
  have hcause : pairCause (statusHeard s p arrival) = pairCause s :=
    pairCause_of_measured (by rw [hcol]) fun o ho => by rw [hparams]; exact hitems o ho
  have hdelay' : fieldAt p 12 12 ≠ 0 → getP (statusHeard s p arrival) 0x0B 0 lPL_LINK_DELAY = _ := fun h =>
    (getP_of_params_eq hparams _ _ _).trans (hdelay h)
  have hignored : getP (statusHeard s p arrival) 0x0B 0 lPL_CLAIMS_IGNORED = getP s 0x0B 0 lPL_CLAIMS_IGNORED :=
    hitem _ (by decide) (by decide)
  rw [takeStatus_eq, hon, hown]
  generalize statusHeard s p arrival = u at *
  cases hpo : pairOn s with
  | false => exact ⟨hpurl, rfl, hdelay', fun h => absurd h (by simp)⟩
  | true =>
    rw [Bool.not_true, if_neg (by decide)]
    have hnoted : (noteStatus u (statusOf s p)).purl = u.purl ∧ (noteStatus u (statusOf s p)).pair.role = s.pair.role ∧
        (noteStatus u (statusOf s p)).pair.peerEpoch = fieldAt p 36 4 ∧ (noteStatus u (statusOf s p)).params = u.params ∧
        pairCause (noteStatus u (statusOf s p)) = pairCause u := ⟨rfl, by rw [← hpair]; rfl, rfl, rfl, rfl⟩
    obtain ⟨hnpurl, hnrole, hnepoch, hnparams, hncause⟩ := hnoted
    generalize noteStatus u (statusOf s p) = v at *
    have hends := statusEnds_onlyCollector v (statusOf s p)
    have hendsCause := fun h => (pairCause_statusEnds (s := v) (st := statusOf s p) h).trans (hncause.trans hcause)
    generalize statusEnds v (statusOf s p) = w at *
    have hwpurl : w.purl = v.purl := by rw [hends.rest]
    have hwpair : w.pair = v.pair := by rw [hends.rest]
    have hwitem : ∀ n, n < 65536 → getP w 0x0B 0 n = getP u 0x0B 0 n := fun n hn =>
      (hends.items _ (by simp only [objDom, objId]; omega)).trans (getP_of_params_eq hnparams _ _ _)
    obtain ⟨hcpurl, hcepoch, hcitems⟩ := claimHeard_kept w (statusOf s p) (epochOf s)
    obtain ⟨hspurl, hsparams, hsrole, hsepoch, hshold⟩ := swapHeard_spec (claimHeard w (statusOf s p) (epochOf s)) (statusOf s p)
    refine ⟨by rw [hspurl, hcpurl, hwpurl, hnpurl, hpurl], by rw [hsepoch, hcepoch, hwpair, hnepoch], fun h => ?_, fun _ hactive hclaims => ?_⟩
    · rw [getP_of_params_eq hsparams, ← hdelay' h, ← hwitem _ (by decide)]
      exact hcitems _ (by decide)
    · have hwrole : w.pair.role = .active := by rw [hwpair, hnrole, hactive]
      have hst : (statusOf s p).role = 2 := hclaims
      refine ⟨fun hle => ?_, fun hlt hno => ?_, fun hlt hyes => ?_⟩
      · have hle' : (statusOf s p).epoch ≤ epochOf s := hle
        have hclaim : claimHeard w (statusOf s p) (epochOf s) = claimOutOfTurn w := by
          rw [claimHeard, hwrole, hst, if_pos (by simp [hle'])]
        obtain ⟨-, hcpair, -, hccount⟩ := claimOutOfTurn_spec w
        rw [hsrole, hshold, getP_of_params_eq hsparams, hclaim, hcpair, hccount, hwitem _ (by decide), hignored]
        exact ⟨hwrole, rfl, rfl⟩
      · have hlt' : epochOf s < (statusOf s p).epoch := hlt
        rw [hsrole, claimHeard, hwrole, hst, if_neg (by simp [hlt']), if_pos (by simp [hlt']), takenOver, hendsCause hst, hno]
        rfl
      · have hlt' : epochOf s < (statusOf s p).epoch := hlt
        rw [hsrole, claimHeard, hwrole, hst, if_neg (by simp [hlt']), if_pos (by simp [hlt']), takenOver, hendsCause hst, hyes]
        rfl

theorem ckptPasses_rest (s : State) (seq : Nat) : ∃ x, ckptPasses s seq = { s with pair := { s.pair with incoming := x } } := by
  unfold ckptPasses
  split
  · split
    · exact ⟨_, rfl⟩
    · exact ⟨s.pair.incoming, rfl⟩
  · exact ⟨s.pair.incoming, rfl⟩

theorem statusRx_takes {packet p : List Byte} {arrival : Nat} {s : State} (hst : s.purl.st = .active) (hok : packetOk packet true = true)
    (htype : fieldAt packet 7 1 = 1) (hlen : packetLen packet = 48) (hp : p = packetPayload packet)
    (hunit : fieldAt p 41 1 = fieldAt s.purl.caps 4 1) : ∃ t, exec (.statusRx packet true arrival) s = .next t ∧ t.purl.st = .active ∧
      t.purl.heardAt = nowClk s ∧ t.purl.echo = some (fieldAt p 0 12, arrival) ∧ t.pair.peerEpoch = fieldAt p 36 4 ∧
      (fieldAt p 12 12 ≠ 0 → getP t 0x0B 0 lPL_LINK_DELAY =
        roundDivI (tsDiff arrival (fieldAt p 12 12) - tsDiff (fieldAt p 0 12) (fieldAt p 24 12)) 2) ∧
      (pairOn s = true → s.pair.role = .active → fieldAt p 40 1 = 2 →
        (fieldAt p 36 4 ≤ epochOf s → t.pair.role = .active ∧ t.pair.holdSent = true ∧
          getP t 0x0B 0 lPL_CLAIMS_IGNORED = inc32 (getP s 0x0B 0 lPL_CLAIMS_IGNORED)) ∧
        (epochOf s < fieldAt p 36 4 → pairCause s = false → t.pair.role = .standby) ∧
        (epochOf s < fieldAt p 36 4 → pairCause s = true → t.pair.role = .faulted)) := by
  have hup : linkUp s = true := decide_eq_true hst
  have hexec : exec (.statusRx packet true arrival) s = .next (takeStatus (ckptPasses s (fieldAt packet 12 4)) p arrival) := by
    show execStatusRx packet true arrival s = _
    rw [execStatusRx, hup, hok, htype, hlen, if_neg (by simp), if_neg (by simp)]
    dsimp only
    rw [← hp, if_neg (by simp [hunit])]
  obtain ⟨x, hx⟩ := ckptPasses_rest s (fieldAt packet 12 4)
  rw [hx] at hexec
  obtain ⟨hpurl, hepoch, hdelay, hpair⟩ := takeStatus_spec { s with pair := { s.pair with incoming := x } } p arrival
  refine ⟨_, hexec, ?_, ?_, ?_, hepoch, hdelay, hpair⟩
  · rw [hpurl]
    exact hst
  · rw [hpurl]
    rfl
  · rw [hpurl]

/-! ### Timeouts, electrical idle (16 R343, R350, R352) -/

theorem plStateTimeout_eq {s : State} {ticks : Nat} (htime : linkTimeout s.purl.st = some ticks) (hdue : s.purl.since + ticks ≤ nowClk s) :
    exec .plStateTimeout s = .next (linkFails s 0) := by
  show execPlStateTimeout s = _
  rw [execPlStateTimeout, htime]
  exact if_pos hdue

theorem plStateTimeout_fails {s : State} (h : (s.purl.st = .lock ∧ s.purl.since + 375000 ≤ nowClk s) ∨
    (s.purl.st = .align ∧ s.purl.since + 500000 ≤ nowClk s) ∨
    (s.purl.st = .caps ∧ s.purl.since + 250000 ≤ nowClk s ∧ s.purl.capsFails < 2)) : ∃ t, exec .plStateTimeout s = .next t ∧ LinkLost s t 0 := by
  rcases h with ⟨hst, hdue⟩ | ⟨hst, hdue⟩ | ⟨hst, hdue, hfew⟩
  · exact ⟨_, plStateTimeout_eq (by rw [hst]; rfl) hdue, linkFails_lost 0 (not_caps hst (by decide))⟩
  · exact ⟨_, plStateTimeout_eq (by rw [hst]; rfl) hdue, linkFails_lost 0 (not_caps hst (by decide))⟩
  · exact ⟨_, plStateTimeout_eq (by rw [hst]; rfl) hdue, linkFails_lost 0 fun _ => hfew⟩

theorem plStateTimeout_blocks {s : State} (hst : s.purl.st = .caps) (hdue : s.purl.since + 250000 ≤ nowClk s) (hmany : s.purl.capsFails = 2) :
    ∃ t, exec .plStateTimeout s = .next t ∧ t.purl.st = .blocked := by
  refine ⟨_, plStateTimeout_eq (by rw [hst]; rfl) hdue, ?_⟩
  rw [linkFails_eq, failsNow, if_pos hst, hmany, if_pos (by decide)]
  exact (toBlocked_spec _).1

theorem plLossTimeout_fails {s : State} (hst : s.purl.st = .active) (hidle : s.purl.idleMode = false) (hpeer : s.purl.peerIdle = false)
    (hdue : s.purl.heardAt + natP s 0x0B 0 lPL_LOSS_TIME * 1250 ≤ nowClk s) : ∃ t, exec .plLossTimeout s = .next t ∧ LinkLost s t causeSilent := by
  refine ⟨_, ?_, linkFails_lost causeSilent (not_caps hst (by decide))⟩
  show execPlLossTimeout s = _
  rw [execPlLossTimeout, hidle, hpeer, linkUp, decide_eq_true hst]
  exact if_pos (by simpa [usTicks] using hdue)

theorem wakeBlocks_length (s : State) : (wakeBlocks s).length = 257 * (txLanes s).length := by
  simp only [wakeBlocks, List.length_append, List.length_flatten, List.length_map, List.map_const', List.length_range, List.map_replicate,
    List.sum_replicate, smul_eq_mul]
  omega

theorem sendStatus_keeps (s : State) : sendStatus s = { s with purl := (sendStatus s).purl } ∧ (sendStatus s).purl.chosen = s.purl.chosen ∧
    (sendStatus s).purl.txIdle = s.purl.txIdle ∧ (sendStatus s).purl.sent = s.purl.sent ∧ (sendStatus s).purl.waiting = s.purl.waiting ∧
    (sendStatus s).purl.wokeAt = s.purl.wokeAt ∧ (sendStatus s).purl.markers = s.purl.markers := by
  unfold sendStatus sendBytes modPurl
  exact ⟨rfl, rfl, rfl, rfl, rfl, rfl, rfl⟩

/-- The transmitter runs again: it has the packets that waited, and starts its stream after the EXIT blocks. -/
def wakes (s : State) : State :=
  modPurl s (fun x => { x with
    txIdle := false, wokeAt := nowClk s, lastPacket := nowClk s, sent := x.waiting, waiting := []
    streamAt := nowClk s + exitTicks, markers := 0, nextBlock := 0 })

theorem plIdleWake_wakes {s : State} (hidle : s.purl.txIdle = true) (hwaits : s.purl.waiting ≠ []) : ∃ t, exec .plIdleWake s = .next t ∧
    t = { s with purl := t.purl } ∧ t.purl.txIdle = false ∧ t.purl.sent = s.purl.waiting ∧ t.purl.waiting = [] ∧ t.purl.wokeAt = nowClk s ∧
    t.purl.markers = 1 ∧ t.purl.wire.take (257 * (txLanes s).length) =
      ((List.range 256).map (fun _ => (txLanes s).map (fun l => ⟨l, hdrControl, exitBytes⟩))).flatten ++
      (txLanes s).map (fun l => ⟨l, hdrControl, markerBytes l 0⟩) := by
  have hexec : exec .plIdleWake s = .next (modPurl (sendStatus (sendMarker (wakes s))) (fun x => { x with
      wire := wakeBlocks (sendStatus (sendMarker (wakes s))) ++ x.wire })) := by
    show execPlIdleWake s = _
    rw [execPlIdleWake, hidle]
    exact if_pos (by simp [hwaits])
  obtain ⟨hrest, hchosen, htx, hsent, hleft, hwoke, hmarkers⟩ := sendStatus_keeps (sendMarker (wakes s))
  generalize sendStatus (sendMarker (wakes s)) = u at *
  have hlanes : txLanes u = txLanes s := by
    rw [txLanes, hchosen]
    rfl
  have hwire : (wakeBlocks u ++ u.purl.wire).take (257 * (txLanes s).length) = wakeBlocks u := by
    rw [← hlanes, ← wakeBlocks_length, List.take_left]
  refine ⟨_, hexec, ?_, htx, hsent, hleft, hwoke, hmarkers, hwire.trans ?_⟩
  · rw [hrest]
    rfl
  · rw [wakeBlocks, hlanes]
    rfl

theorem plIdleHoldExpiry_idles {s : State} (hst : s.purl.st = .active) (hmode : s.purl.idleMode = true) (htx : s.purl.txIdle = false)
    (hdue : s.purl.lastPacket + natP s 0x0B 0 lPL_IDLE_HOLD * 1250 ≤ nowClk s) : ∃ t, exec .plIdleHoldExpiry s = .next t ∧
      t = { s with purl := { s.purl with txIdle := true, wire := t.purl.wire } } ∧
      t.purl.wire = ((List.range 4).map (fun i =>
        s.purl.chosen.map (fun l => controlBlock l (max s.purl.nextBlock (blocksNow s) + i) 5))).flatten := by
  refine ⟨goIdle s, ?_, rfl, rfl⟩
  show execPlIdleHoldExpiry s = _
  rw [execPlIdleHoldExpiry, linkUp, decide_eq_true hst, hmode, htx]
  exact if_pos (by simpa [usTicks] using hdue)

theorem exitRx_resyncs {s : State} (hst : s.purl.st = .active) : ∃ t, exec (.exitRx true) s = .next t ∧
    t = { s with purl := { s.purl with peerIdle := false, heardAt := nowClk s, rx := t.purl.rx } } ∧
    ∀ l ∈ s.purl.lanes, rxLane t l = { rxLane s l with resync := true } := by
  have hup : linkUp s = true := decide_eq_true hst
  obtain ⟨honly, hlanes⟩ := rxLane_foldl (s := s) (g := fun u l => modLane u l (fun x => { x with resync := true }))
    (f := fun _ x => { x with resync := true }) (fun _ _ => rfl) (fun u l _ => ⟨rfl, fun m => rxLane_modLane u l m _⟩) s.purl.lanes
  have hexec : exec (.exitRx true) s = .next (modPurl (s.purl.lanes.foldl (fun u l => modLane u l (fun x => { x with resync := true })) s)
      (fun x => { x with
        peerIdle := false, heardAt := nowClk (s.purl.lanes.foldl (fun u l => modLane u l (fun x => { x with resync := true })) s) })) := by
    show execExitRx true s = _
    rw [execExitRx, hup]
    rfl
  generalize s.purl.lanes.foldl (fun u l => modLane u l (fun x => { x with resync := true })) s = u at *
  refine ⟨_, hexec, ?_, fun l hl => (hlanes l).trans (if_pos hl)⟩
  rw [honly]
  rfl

theorem exitRx_fails {s : State} (hst : s.purl.st = .active) : ∃ t, exec (.exitRx false) s = .next t ∧ LinkLost s t 0 := by
  refine ⟨_, ?_, linkFails_lost 0 (not_caps hst (by decide))⟩
  show execExitRx false s = _
  rw [execExitRx, linkUp, decide_eq_true hst]
  rfl

theorem idleEnterRx_notes {s : State} (hst : s.purl.st = .active) :
    exec .idleEnterRx s = .next { s with purl := { s.purl with peerIdle := true } } := by
  show execIdleEnterRx s = _
  rw [execIdleEnterRx, linkUp, decide_eq_true hst]
  rfl

/-! ### PAIR_LINK (16 R351) -/

theorem slotWaiting_kput {s : State} {j : Job} {n : Nat} {x : Slot} (h : slotWaiting s j = none) (hx : x.phase = .deferred → x.job ≠ j) {t : State}
    (ht : t.slots = kput (fun _ => slotBlank) s.slots n x) : slotWaiting t j = none := by
  rw [slotWaiting, Option.map_eq_none_iff, List.find?_eq_none] at h ⊢
  intro p hp
  rw [ht] at hp
  rcases mem_kput hp with rfl | hold
  · simp only [Bool.and_eq_true, decide_eq_true_eq]
    exact fun hsat => hx hsat.1.1 hsat.1.2
  · exact h p hold

theorem writeResponse_slots (s : State) (n : Nat) (ph : SlotPhase) (j : Job) (r : Reply) : ∃ x, (writeResponse s n ph j r).slots =
    kput (fun _ => slotBlank) s.slots n x ∧ x.phase = ph ∧ x.job = j ∧ x.held = none := by
  unfold writeResponse
  dsimp only
  split
  · exact ⟨_, rfl, rfl, rfl, rfl⟩
  · exact ⟨_, raiseVector_slots _ _, rfl, rfl, rfl⟩

/-- The slot of a command that has just been deferred waits for its job. -/
theorem slotWaiting_deferred {s : State} {j : Job} {n : Nat} (r : Reply) (h : slotWaiting s j = none) :
    slotWaiting (writeResponse s n .deferred j r) j = some n := by
  obtain ⟨x, hslots, hphase, hjob, hheld⟩ := writeResponse_slots s n .deferred j r
  have hget : kget (fun _ => slotBlank) (kput (fun _ => slotBlank) s.slots n x) n = x := kget_kput_same ..
  have hmem : (n, x) ∈ (writeResponse s n .deferred j r).slots := by
    rw [hslots]
    have hin := mem_of_kget (d := fun _ => slotBlank) (m := kput (fun _ => slotBlank) s.slots n x) (n := n) (by
      rw [hget]
      intro hb
      rw [hb] at hphase
      exact absurd hphase (by decide))
    rwa [hget] at hin
  rw [slotWaiting, Option.map_eq_none_iff, List.find?_eq_none] at h
  rw [slotWaiting]
  cases hfind : (writeResponse s n .deferred j r).slots.find? (fun p => decide (p.2.phase = .deferred) && decide (p.2.job = j) && p.2.held.isNone) with
  | none => exact absurd (List.find?_eq_none.mp hfind (n, x) hmem) (by simp [hphase, hjob, hheld])
  | some p =>
    have hsat := List.find?_some hfind
    have hp := List.mem_of_find?_eq_some hfind
    rw [hslots] at hp
    rcases mem_kput hp with rfl | hold
    · rfl
    · exact absurd hsat (h p hold)

/-- A body that leaves its slot waiting, and a job that ends at once. -/
theorem answers_at_once {c : Instr} {r : Req} {op : Nat} {j : Job} {s s' : State} {a : Reply} {P : KMap Int}
    (hc : exec c s = .next (complete (writeResponse { s' with params := P, slots := (accept s r op).slots } r.slot .deferred j (statusOnly 0x06)) j a))
    (hnone : slotWaiting s j = none) (hp : ∀ o, o ≠ objId 0x01 0 xMBX_ACCEPTED → kget paramReset P o = kget paramReset s'.params o)
    (hs : s'.slots = s.slots) (hsnags : s'.col.snags = []) : Answers c r.slot s s' a := by
  have hwait : slotWaiting (writeResponse { s' with params := P, slots := (accept s r op).slots } r.slot .deferred j (statusOnly 0x06)) j = some r.slot :=
    slotWaiting_deferred _ (slotWaiting_accept r op hnone)
  have hothers : ∀ n, n ≠ r.slot →
      slotOf (writeResponse { s' with params := P, slots := (accept s r op).slots } r.slot .deferred j (statusOnly 0x06)) n = slotOf s' n := fun n hn => by
    rw [slotOf_writeResponse, if_neg (Ne.symm hn)]
    have hslot' : slotOf s' n = slotOf s n := by rw [slotOf, hs, slotOf]
    rw [hslot']
    exact slotOf_accept s r op n hn
  have hrest := writeResponse_eq { s' with params := P, slots := (accept s r op).slots } r.slot .deferred j (statusOnly 0x06)
  generalize writeResponse { s' with params := P, slots := (accept s r op).slots } r.slot .deferred j (statusOnly 0x06) = u at *
  have husnags : u.col.snags = [] := by
    rw [hrest]
    exact hsnags
  rw [complete, hwait] at hc
  dsimp only at hc
  rw [finish_open _ _ _ husnags] at hc
  refine ⟨_, hc, ⟨?_, ?_⟩, ?_, fun o ho => ?_, fun n hn => ?_⟩
  · rw [slotOf_writeResponse, if_pos rfl]
  · rw [slotOf_writeResponse, if_pos rfl]
  · rw [writeResponse_eq, hrest]
  · rw [writeResponse_params, hrest]
    exact hp o ho
  · rw [slotOf_writeResponse, if_neg (Ne.symm hn), hothers n hn]

theorem standbyRefuses_eq {n : Nat} (s : State) (h : n ≠ 0x0302) : standbyRefuses s n = (pairOn s && decide (s.pair.role = .standby)) := by
  rw [standbyRefuses, if_neg h]
  cases pairOn s <;> rfl

theorem standbyRefuses_accept {n : Nat} (s : State) (r : Req) (op : Nat) (h : n ≠ 0x0302) : standbyRefuses (accept s r op) n = standbyRefuses s n := by
  rw [standbyRefuses_eq _ h, standbyRefuses_eq _ h, pairOn, getP_accept s r op _ _ (by decide), pairOn]
  rfl

theorem widthOnly (s : State) : itemsBut [objId 0x0B 0 lPL_WIDTH] s (setP s 0x0B 0 lPL_WIDTH 0) := fun _ ho =>
  kget_kput_ne paramReset s.params (0 : Int) fun h => ho (List.mem_singleton.mpr h.symm)

theorem widthGone_accept (s : State) (r : Req) (op : Nat) : ∀ o, o ≠ objId 0x01 0 xMBX_ACCEPTED →
    kget paramReset (setP (accept s r op) 0x0B 0 lPL_WIDTH 0).params o = kget paramReset (setP s 0x0B 0 lPL_WIDTH 0).params o := fun o ho => by
  rw [setP, setP, kget_kput, kget_kput, accept_params s r op o ho]

/-- A link that PAIR_LINK has turned off, with no retrain to wait for. -/
def linkOff (s : State) : State := { s with
  params := (setP s 0x0B 0 lPL_WIDTH 0).params
  purl := { s.purl with
    st := .disabled, since := nowClk s, chosen := [], idleMode := false, txIdle := false, peerIdle := false
    waiting := [], capsLeft := 0, echo := none, capsFails := 0, retrainAt := none } }

/-- A link that PAIR_LINK retrains. -/
def linkAgain (s : State) : State := { s with
  params := (setP s 0x0B 0 lPL_WIDTH 0).params, purl := { linkGone s 0 with retrainAt := some (nowClk s + 6250000) } }

/-- A link that PAIR_LINK lets idle. -/
def linkAtRest (s : State) : State := { s with purl := { (goIdle s).purl with idleMode := true, wokeAt := nowClk s, retrainAt := none } }

theorem bodyPairLink_eq {s : State} (hnone : slotWaiting s .pairLink = none) :
    (standbyRefuses s 0x0B04 = false → bodyPairLink 0 s = (linkOff s, .later .pairLink)) ∧
    (s.purl.st ≠ .active → bodyPairLink 1 s = (linkAgain s, .later .pairLink)) ∧
    (s.purl.st = .active → s.purl.txIdle = false → bodyPairLink 2 s = (linkAtRest s, .later .pairLink)) := by
  refine ⟨fun h => ?_, fun h => ?_, fun h htx => ?_⟩
  · rw [bodyPairLink, if_neg (by decide), hnone]
    dsimp only
    rw [if_pos rfl, h, if_neg (by decide)]
    rfl
  · have hretrain : linkRetrain s = enterDetect (modPurl s (fun x => { x with capsFails := 0 })) := if_neg h
    rw [bodyPairLink, if_neg (by decide), hnone]
    dsimp only
    rw [if_neg (by decide), if_pos rfl, hretrain]
    rfl
  · have hidle : linkIdle s = modPurl (goIdle s) (fun x => { x with idleMode := true, wokeAt := nowClk s }) := by
      rw [linkIdle, linkUp, decide_eq_true h, htx]
      rfl
    rw [bodyPairLink, if_neg (by decide), hnone]
    dsimp only
    rw [if_neg (by decide), if_neg (by decide), hidle]
    rfl

/-- PAIR_LINK with its answer, which an action other than 1 has at once. -/
theorem pairLink_run {r : Req} {action : Nat} {s u : State} {a : Answer} (hopen : mailboxOpen s r.slot = true)
    (hbody : bodyPairLink action (accept s r 0x0B04) = (u, a)) : exec (.pairLink r action) s = .next (pairLinkSettle action (post u r.slot a)) := by
  show execPairLink r action s = _
  rw [execPairLink, mbxRun_open _ r _ _ _ s hopen (by simp), hbody]

section
variable {r : Req} {s : State} (hopen : mailboxOpen s r.slot = true) (hnone : slotWaiting s .pairLink = none)
include hopen hnone

theorem pairLink_refused (hrefuses : standbyRefuses s 0x0B04 = true) : Answers (.pairLink r 0) r.slot s s (statusOnly stPeerActive) := by
  have hrefuses' : standbyRefuses (accept s r 0x0B04) 0x0B04 = true := (standbyRefuses_accept s r _ (by decide)).trans hrefuses
  have hbody : bodyPairLink 0 (accept s r 0x0B04) = (accept s r 0x0B04, .final (statusOnly stPeerActive)) := by
    rw [bodyPairLink, if_neg (by decide), slotWaiting_accept r _ hnone]
    dsimp only
    rw [if_pos rfl, hrefuses', if_pos rfl]
    rfl
  have hsnags : (accept s r 0x0B04).col.snags = [] := snags_of_mailboxOpen (n := r.slot) (s := s) hopen
  have hdone : slotWaiting (writeResponse (accept s r 0x0B04) r.slot .done .none (statusOnly stPeerActive)) .pairLink = none := by
    obtain ⟨x, hslots, hphase, -, -⟩ := writeResponse_slots (accept s r 0x0B04) r.slot .done .none (statusOnly stPeerActive)
    exact slotWaiting_kput (slotWaiting_accept r _ hnone) (fun h => absurd (hphase.symm.trans h) (by decide)) hslots
  refine answers_of_finish (op := 0x0B04) hopen ?_
  rw [pairLink_run hopen hbody, post, finish_open _ _ _ hsnags, pairLinkSettle, if_neg (by decide), complete, hdone]
  dsimp only
  rw [ite_self]

theorem pairLink_disables (hrefuses : standbyRefuses s 0x0B04 = false) : ∃ s', Answers (.pairLink r 0) r.slot s s' (okWith [0]) ∧
    s' = { s with params := s'.params, purl := s'.purl } ∧ itemsBut [objId 0x0B 0 lPL_WIDTH] s s' ∧ s'.purl.st = .disabled := by
  have hrefuses' : standbyRefuses (accept s r 0x0B04) 0x0B04 = false := (standbyRefuses_accept s r _ (by decide)).trans hrefuses
  have hexec := pairLink_run hopen ((bodyPairLink_eq (slotWaiting_accept r 0x0B04 hnone)).1 hrefuses')
  have hsettle : ∀ u : State, u.purl = (linkOff s).purl → pairLinkSettle 0 u = complete u .pairLink (okWith [0]) := fun u hu => by
    rw [pairLinkSettle, if_neg (by decide), linkCode, hu]
    rfl
  have hpurl : (post (linkOff (accept s r 0x0B04)) r.slot (.later .pairLink)).purl = (linkOff s).purl := by
    rw [post, writeResponse_eq]
    rfl
  rw [hsettle _ hpurl] at hexec
  exact ⟨linkOff s, answers_at_once (op := 0x0B04) (P := (setP (accept s r 0x0B04) 0x0B 0 lPL_WIDTH 0).params) hexec hnone
    (widthGone_accept s r 0x0B04) rfl (snags_of_mailboxOpen hopen), rfl, widthOnly s, rfl⟩

theorem pairLink_retrains (hst : s.purl.st ≠ .active) : ∃ s', Defers (.pairLink r 1) r.slot s s' .pairLink ∧
    s' = { s with params := s'.params, purl := s'.purl } ∧ itemsBut [objId 0x0B 0 lPL_WIDTH] s s' ∧ s'.purl.st = .detect ∧
    s'.purl.retrainAt = some (nowClk s + 6250000) := by
  have hbody := (bodyPairLink_eq (slotWaiting_accept r 0x0B04 hnone)).2.1 hst
  have hexec : exec (.pairLink r 1) s = .next (mbxRun (.pairLink r 1) r 0x0B04 false (bodyPairLink 1) s) := by
    show execPairLink r 1 s = _
    rw [execPairLink, pairLinkSettle, if_pos rfl]
  exact ⟨linkAgain s, defers_of_body (setP (accept s r 0x0B04) 0x0B 0 lPL_WIDTH 0).params hexec hopen (by simp) hbody
    (widthGone_accept s r 0x0B04) rfl, rfl, widthOnly s, rfl, rfl⟩

theorem pairLink_idles (hst : s.purl.st = .active) (htx : s.purl.txIdle = false) : ∃ s', Answers (.pairLink r 2) r.slot s s' (okWith [7]) ∧
    s' = { s with purl := s'.purl } ∧ s'.purl.idleMode = true ∧ s'.purl.txIdle = true ∧ s'.purl.wokeAt = nowClk s := by
  have hexec := pairLink_run hopen ((bodyPairLink_eq (slotWaiting_accept r 0x0B04 hnone)).2.2 hst htx)
  have hsettle : ∀ u : State, u.purl = (linkAtRest s).purl → pairLinkSettle 2 u = complete u .pairLink (okWith [7]) := fun u hu => by
    have hact : (linkAtRest s).purl.st = .active := hst
    rw [pairLinkSettle, if_neg (by decide), linkCode, hu, hact]
    rfl
  have hpurl : (post (linkAtRest (accept s r 0x0B04)) r.slot (.later .pairLink)).purl = (linkAtRest s).purl := by
    rw [post, writeResponse_eq]
    rfl
  rw [hsettle _ hpurl] at hexec
  exact ⟨linkAtRest s, answers_at_once (op := 0x0B04) (P := (accept s r 0x0B04).params) hexec hnone
    (accept_params s r 0x0B04) rfl (snags_of_mailboxOpen hopen), rfl, rfl, rfl, rfl⟩

end

theorem pairLinkTimeout_ends {q slot : Nat} {s : State} (hretrain : s.purl.retrainAt = some q) (hdue : q ≤ nowClk s) (hsnags : s.col.snags = [])
    (hwait : slotWaiting s .pairLink = some slot) : ∃ t, exec .pairLinkTimeout s = .next t ∧ t.purl = { s.purl with retrainAt := none } ∧
      t.pair = s.pair ∧ answered t slot { statusOnly stTimeout with payload := leBytes 1 (linkCode s) } := by
  have hwait' : slotWaiting (modPurl s (fun x => { x with retrainAt := none })) .pairLink = some slot := hwait
  have hcode : linkCode (modPurl s (fun x => { x with retrainAt := none })) = linkCode s := rfl
  have hexec : exec .pairLinkTimeout s = .next (writeResponse (modPurl s (fun x => { x with retrainAt := none })) slot .done .none
      { statusOnly stTimeout with payload := leBytes 1 (linkCode s) }) := by
    show execPairLinkTimeout s = _
    rw [execPairLinkTimeout, hretrain]
    dsimp only
    rw [if_pos hdue, hcode, complete, hwait']
    dsimp only
    rw [finish_open _ _ _ (by exact hsnags)]
  refine ⟨_, hexec, ?_, ?_, ?_, ?_⟩
  · rw [writeResponse_eq]
    rfl
  · rw [writeResponse_eq]
    rfl
  · rw [slotOf_writeResponse, if_pos rfl]
  · rw [slotOf_writeResponse, if_pos rfl]

/-- Settles O46. -/
theorem purlLink : Obligations.PurlLink := by
  unfold Obligations.PurlLink
  refine ⟨fun s hst hdue => plDetectStep_drives hst hdue,
    fun lanes i s hi hst => ⟨fun hfew => ?_, fun hmany => ⟨_, peerSeen_trains hi hst, ?_⟩⟩,
    fun lanes s hst hmany => ⟨_, plPeerStep_fails hst hmany, linkFails_lost 0 ?_⟩,
    fun errors s hst hleft hdue => plCtleStep_sweeps hst hleft hdue,
    fun ppb s hst hdue => ⟨plTrainEnd_freq hst hdue, plTrainEnd_locks hst hdue, plTrainEnd_lanes hst hdue⟩,
    fun s hst => plBlockLock_aligns hst, fun s hstream hdue => plMarkerSend_sends hstream hdue,
    fun lane body blocks arrival inv s hlane htype hst => ⟨stitchMarkerRx_takes hlane htype hst, stitchMarkerRx_fails hlane htype hst⟩,
    fun lane again s hlane hst hsnags hset => plInvalidHeader_spec hlane hst hsnags hset, fun s hst hdue => plCapsSend_sends hst hdue,
    fun packet clean s hst hflag => ⟨fun hok htype hclean => ⟨fun halien hseen hcommon => ?_, fun halien => ?_⟩, fun hbad => ?_⟩,
    fun s hsend hdue => plStatusSend_sends hsend hdue,
    fun packet p arrival s hst hok htype hlen hp hunit => statusRx_takes hst hok htype hlen hp hunit, fun s hst => plInvalidPacket_discards hst,
    fun s h => plStateTimeout_fails h, fun s hst hdue hmany => plStateTimeout_blocks hst hdue hmany,
    fun s hst hidle hpeer hdue => plLossTimeout_fails hst hidle hpeer hdue, fun s hidle hwaits => plIdleWake_wakes hidle hwaits,
    fun s hst hmode htx hdue => plIdleHoldExpiry_idles hst hmode htx hdue, fun s hst => ⟨idleEnterRx_notes hst, exitRx_fails hst, exitRx_resyncs hst⟩,
    fun r s hopen hnone => ⟨pairLink_refused hopen hnone, pairLink_disables hopen hnone, pairLink_retrains hopen hnone, pairLink_idles hopen hnone⟩,
    fun q slot s hretrain hdue hsnags hwait => pairLinkTimeout_ends hretrain hdue hsnags hwait⟩
  · rw [peerSeen_trains hi hst, if_pos hfew]
  · rw [if_neg (by omega)]
    exact enterTrain_spec s
  · rcases hst with h | h
    · exact not_caps h (by decide)
    · exact not_caps h (by decide)
  · refine ⟨_, capsRx_accepts hst hflag hok htype hclean, ?_⟩
    rw [halien, if_neg (by decide)]
    exact takeCaps_active hseen hcommon
  · refine ⟨_, capsRx_accepts hst hflag hok htype hclean, ?_⟩
    rw [halien, if_pos rfl]
    exact toBlocked_spec s
  · obtain ⟨hkeeps, hcount, hraised⟩ := rejectCaps_spec s
    exact ⟨_, capsRx_rejects hst hflag hbad, hkeeps.trans hst, hcount, hraised⟩

end Sys2Proof.Machine
end

section
/-! PROOFS. The pair (17_pair_operation.md): O47. -/

namespace Sys2Proof.Machine

/-! ### A claim switches a waiting definition in whatever objects it names (06 R145; 17 R358, R367) -/

/-- A zone of port 0 whose pending definition names PAIR_EPOCH, and that switches to it once its port stops or starts. -/
def strayZone : Zone :=
  { zoneBlank 0 with st := .enabled, stopping := true, pendingDef := true, next := [(objId 0x0B 0 lPAIR_EPOCH, 7)] }

/-- A standby long after the peer's last wave and STATUS, its port 0 ARMED and RUNNING in the latest checkpoint. -/
def strayStandby : State :=
  { setP State.reset 0x0B 0 lPAIR_ENABLE 1 with
    time := { State.reset.time with sclk := 10 ^ 10, ticks := 10 ^ 10 }
    ports := [(0, { portBlank 0 with st := .armed })]
    cap := { State.reset.cap with zones := [(0, strayZone)] }
    pair := { pairBlank with role := .standby, ckpt := some ⟨0, [⟨true, 0, 0, 0, 0, 0, 0, 0⟩], [], []⟩ } }

theorem strayStandby_claims : exec .peerLossClaim strayStandby = .next (claim strayStandby) := by
  show execPeerLossClaim strayStandby = _
  rw [execPeerLossClaim, if_pos (by decide)]

/-- Port 0 starts, zone 0 takes its pending definition, and the definition overwrites the epoch that the claim has raised. -/
theorem epoch_claim_strayStandby : getP (claim strayStandby) 0x0B 0 lPAIR_EPOCH = 7 := by decide

/-- The epoch that R358 gives the claim is 1. -/
theorem raisedEpoch_strayStandby : (max (epochOf strayStandby) strayStandby.pair.peerEpoch + 1) % 2 ^ 32 = 1 := by decide

/-- Refutes O47, in its clause on PEER_LOSS_CLAIM: `strayStandby` meets every hypothesis of the clause, but zone 0 switches to its
pending definition as the claim starts port 0, and that definition writes 7 to PAIR_EPOCH over the raised epoch, 1. No ZONE_DEFINE
leaves such a definition behind, since it takes staged items of its own zone only; the clause lacks the hypothesis that the
pending definitions name items of zones. -/
theorem not_pairOfUnits : ¬ Obligations.PairOfUnits := by
  unfold Obligations.PairOfUnits
  rintro ⟨-, -, -, -, -, -, -, -, -, hclaim, -⟩
  obtain ⟨hclaims, -⟩ := hclaim strayStandby (by decide) (by decide) (by decide)
  obtain ⟨t, hexec, -, -, -, hepoch, -⟩ := hclaims (by decide) (by decide) (by decide) (fun _ h => nomatch h) (by decide)
  have ht : claim strayStandby = t := Host.Outcome.next.inj (strayStandby_claims.symm.trans hexec)
  rw [← ht, epoch_claim_strayStandby, raisedEpoch_strayStandby] at hepoch
  exact absurd hepoch (by decide)

end Sys2Proof.Machine
end
